-- ==== Sys2Proof/Word.lean ====
section
/-! DEFINITION. The word and byte types and their plainest arithmetic. -/

namespace Sys2Proof

/-- R7: every register is 32 bits wide. -/
abbrev Word := BitVec 32

/-- One byte of an addressed memory. -/
abbrev Byte := BitVec 8

end Sys2Proof
end

