-- ==== Sys2Proof/Machine/Tab.lean ====
section
/-! DEFINITION. Tables by number: a list of pairs with rising keys and one default for an unlisted key. The register file, and every array of internal state the spec numbers (pins, pairs, outputs, sessions, ports, contexts), is one. -/

namespace Sys2Proof.Machine

/-- A table by number; keys strictly rise. -/
abbrev Tab (α : Type) := List (Nat × α)

/-- The entry under key `k`, or `d` where none is listed. -/
def tabGet {α : Type} (d : α) : Tab α → Nat → α
  | [], _ => d
  | (j, v) :: t, k => if j = k then v else tabGet d t k

/-- Whether key `k` is listed. -/
def tabHas {α : Type} (t : Tab α) (k : Nat) : Bool := t.any (fun e => e.1 == k)

/-- The table with `v` under key `k`. -/
def tabSet {α : Type} : Tab α → Nat → α → Tab α
  | [], k, v => [(k, v)]
  | (j, w) :: t, k, v =>
    if k < j then (k, v) :: (j, w) :: t
    else if k = j then (k, v) :: t
    else (j, w) :: tabSet t k v

/-- The table with the entry under `k` (or the default `d`) changed by `f`. -/
def tabUpd {α : Type} (d : α) (t : Tab α) (k : Nat) (f : α → α) : Tab α := tabSet t k (f (tabGet d t k))

/-- The table without key `k`. -/
def tabDel {α : Type} (t : Tab α) (k : Nat) : Tab α := t.filter (fun e => e.1 != k)

/-- Every key rises strictly. -/
def tabSorted {α : Type} (t : Tab α) : Prop := t.Pairwise (fun x y => x.1 < y.1)

/-- Two like parts, one of channel A and one of channel B. -/
structure Two (α : Type) where
  a : α
  b : α
  deriving DecidableEq, Repr

end Sys2Proof.Machine
end

