-- ==== Sys2Proof/Machine/RegFile.lean ====
section
/-! DEFINITION. The form of the register file: access codes (R8), retention classes (R9), blocks and their bases (R32), a field's description, and reading and writing one field of one register. -/

namespace Sys2Proof.Machine

/-- The two channels (R10); also the two I/O dies, each of which takes commands from its own channel only. -/
inductive Chan where
  | a
  | b
  deriving DecidableEq, Repr

/-- Access codes of R8. -/
inductive Access where
  | rw
  | ro
  | wo
  | w1c
  | w1s
  | rc
  | rws
  deriving DecidableEq, Repr

/-- Retention classes of R9. -/
inductive RClass where
  | p
  | a
  | w
  | c
  | v
  deriving DecidableEq, Repr

/-- The 19 register blocks of R32, in the order of their bases; prefixes that share a base share a block (LC, AE and CAM; SIN and TPS; LKS and STY; NET and GOA; LLK and REC; OTP and SEC; PWR and CLK). The APP units TIM_P and CRC_P of R31 have the register layout of `tim` and `crc` at bases of their own. -/
inductive Block where
  | sys
  | fc
  | lc
  | sin
  | sout
  | lge
  | dsf
  | lks
  | net
  | llk
  | hly
  | adc
  | tim
  | crc
  | otp
  | mzw
  | bst
  | cnm
  | pwr
  deriving DecidableEq, Repr

/-- One field of one register (or of every register of an array, at `off + stride·i`). `rst` is the reset word of the whole register. -/
structure Fld where
  blk : Block
  off : Nat
  stride : Nat
  hi : Nat
  lo : Nat
  acc : Access
  cls : RClass
  rst : Nat
  deriving DecidableEq, Repr

/-- One register, or an array of `count` like registers `stride` apart. -/
structure RegDesc where
  blk : Block
  off : Nat
  stride : Nat
  count : Nat
  rst : Nat
  fields : List Fld
  deriving DecidableEq, Repr

/-- The part of channel `c`. -/
def twoAt {α : Type} (t : Two α) : Chan → α
  | .a => t.a
  | .b => t.b

/-- `t` with the part of channel `c` replaced. -/
def twoSet {α : Type} (t : Two α) (c : Chan) (v : α) : Two α :=
  match c with
  | .a => { t with a := v }
  | .b => { t with b := v }

/-- `t` with the part of channel `c` changed by `f`. -/
def twoUpd {α : Type} (t : Two α) (c : Chan) (f : α → α) : Two α := twoSet t c (f (twoAt t c))

/-- The other channel. -/
def otherChan : Chan → Chan
  | .a => .b
  | .b => .a

/-- The number of a block in the order of R32. -/
def blockNum : Block → Nat
  | .sys => 0
  | .fc => 1
  | .lc => 2
  | .sin => 3
  | .sout => 4
  | .lge => 5
  | .dsf => 6
  | .lks => 7
  | .net => 8
  | .llk => 9
  | .hly => 10
  | .adc => 11
  | .tim => 12
  | .crc => 13
  | .otp => 14
  | .mzw => 15
  | .bst => 16
  | .cnm => 17
  | .pwr => 18

/-- R32: whether the block is repeated for channel B. -/
def blockPerChan : Block → Bool
  | .fc | .lc | .sin | .sout | .lge | .dsf | .lks | .adc | .tim | .crc => true
  | .sys | .net | .llk | .hly | .otp | .mzw | .bst | .cnm | .pwr => false

/-- R31 and R32: the base of a block in a channel's view; a shared block has one base. -/
def blockBase (b : Block) (c : Chan) : Nat :=
  if blockPerChan b && c == .b then 0x50000000 + 0x10000 * blockNum b else 0x40000000 + 0x10000 * blockNum b

/-- Bits `hi` down to `lo` of a word, as a number. -/
def getBits (w : Word) (hi lo : Nat) : Nat := (w.toNat >>> lo) % 2 ^ (hi + 1 - lo)

/-- The word with bits `hi` down to `lo` replaced by `v` (taken modulo the field's width). -/
def putBits (w : Word) (hi lo v : Nat) : Word :=
  BitVec.ofNat 32 ((w.toNat % 2 ^ lo) + (v % 2 ^ (hi + 1 - lo)) * 2 ^ lo + (w.toNat >>> (hi + 1)) * 2 ^ (hi + 1))

/-- The registers that hold another value than their reset word, by absolute address. -/
abbrev RegFile := Tab Word

/-- The word at address `addr`, whose reset word is `rst`. -/
def regWord (r : RegFile) (rst addr : Nat) : Word := tabGet (BitVec.ofNat 32 rst) r addr

/-- The address of field `f` in the register of index `i`, in a block at `base`: the block's 64 KB window, and within it the low 16 bits of the sum (R31). -/
def fldAddr (f : Fld) (base i : Nat) : Nat := base / 0x10000 * 0x10000 + (base + f.off + f.stride * i) % 0x10000

/-- The value of field `f` of the register of index `i` in a block at `base`. -/
def fldGet (r : RegFile) (f : Fld) (base i : Nat) : Nat := getBits (regWord r f.rst (fldAddr f base i)) f.hi f.lo

/-- The register file with that field set to `v`. -/
def fldPut (r : RegFile) (f : Fld) (base i v : Nat) : RegFile :=
  tabSet r (fldAddr f base i) (putBits (regWord r f.rst (fldAddr f base i)) f.hi f.lo v)

end Sys2Proof.Machine
end

