-- ==== Sys2Proof/Machine/Types.lean ====
section
/-! DEFINITION. The names the commands and the state speak in: elements a fault is charged to, networks, observations of the environment that a command carries. -/

namespace Sys2Proof.Machine

/-- What a Class 1 fault is charged to under R128 and R129. -/
inductive Elem where
  | none
  | pair (n : Nat)
  | pin (n : Nat)
  | source (n : Nat)
  | output (n : Nat)
  | ls (n : Nat)
  | coord
  | ctx (c : Chan) (n : Nat)
  | session (n : Nat)
  | sf (n : Nat)
  deriving DecidableEq, Repr

/-- Whom a fault of Class 2 is charged to (R194, R221); `shared` where no channel is charged. -/
inductive Charge where
  | a
  | b
  | both
  | shared
  deriving DecidableEq, Repr

/-- Which collectors latch a line (the Collector column of R184). -/
inductive Coll where
  | own (c : Chan)
  | both
  deriving DecidableEq, Repr

/-- One error line being asserted: the line, the class that applies to the case, the charge, the element, and the detail word of R188. -/
structure FaultEv where
  line : Nat
  cls : Nat
  chg : Charge
  coll : Coll
  elem : Elem
  detail : Nat
  deriving DecidableEq, Repr

/-- The two networks of a device. -/
inductive Net where
  | x
  | y
  deriving DecidableEq, Repr

/-- The two Line Link ports. -/
inductive Port where
  | up
  | dn
  deriving DecidableEq, Repr

/-- The width of a register access (R7). -/
inductive Width where
  | word
  | half
  | byte
  deriving DecidableEq, Repr

/-- The kinds of access the firewall tells apart (R370). -/
inductive AccKind where
  | read
  | write
  | fetch
  deriving DecidableEq, Repr

/-- One region of the bus firewall (R370): first and last word address, enable, user mode, fetch, write, read. -/
structure FwRegion where
  base : Nat := 0
  limit : Nat := 0
  en : Bool := false
  user : Bool := false
  x : Bool := false
  w : Bool := false
  r : Bool := false
  deriving DecidableEq, Repr

/-- The three owners of a timer block and of a check-value unit: channel A, channel B, APP (R333, R346). -/
inductive Unit3 where
  | a
  | b
  | p
  deriving DecidableEq, Repr

/-- The initiators of the main-die interconnect in the order of R370, with SEC, which is not filtered (R35). -/
inductive Initiator where
  | scA
  | scB
  | iosA
  | iosB
  | aeA
  | aeB
  | npeX
  | npeY
  | lle
  | app
  /-- APP in user mode: the firewall asks for USER as well (R370) -/
  | appUser
  | hmc
  | bist
  | halyard
  | host
  | sec
  deriving DecidableEq, Repr

/-- Level of an M or O node at a comparator (R107): high, low, or neither. -/
inductive Level where
  | h
  | l
  | mid
  deriving DecidableEq, Repr

/-- Level of a D node at a comparator (R107): high, probe level, low, or none of these. -/
inductive DLevel where
  | h
  | p
  | l
  | mid
  deriving DecidableEq, Repr

/-- What the B-switch difference comparator shows while the probe is on (R107). -/
inductive Diff where
  | isClosed
  | isOpen
  | between
  deriving DecidableEq, Repr

/-- What both dies' comparators and the current sense of die B show over the judged span of an output test (R107, R116): levels of M, O and D on each die, the difference comparator and whether forward current flows. -/
structure TestObs where
  mA : Level
  mB : Level
  oA : Level
  oB : Level
  dA : DLevel
  dB : DLevel
  diff : Diff
  forward : Bool
  deriving DecidableEq, Repr

/-- The kinds of output test of R111. -/
inductive TestKind where
  | offA
  | offB
  | midA
  | midB
  | lsOff
  | lsMid
  deriving DecidableEq, Repr

/-- The pulse seen by the comparators of one die in the last 50 µs of WIDTH: which pins stayed low throughout, and which went low at any time during WIDTH (R89). -/
structure PulseObs where
  lowEnd : BitVec 48
  wentLow : BitVec 48
  deriving DecidableEq, Repr

/-- The elements of a channel that a debugger can attach to (R213). -/
inductive DbgElem where
  | sc
  | ios
  | ae
  deriving DecidableEq, Repr

/-- The supply rails whose measurement the monitor judges (R423, R426). -/
inductive Rail where
  | vddCore
  | vdd18
  | vddio33
  | vdda
  | vsA
  | vsB
  deriving DecidableEq, Repr

/-- One function instance of the image (R128). An unconnected input is `none`. -/
structure Inst where
  code : Nat
  sf : Nat
  ins : List (Option Nat)
  outs : List Nat
  /-- the parameters in the order of the library tables -/
  params : List Int
  deriving DecidableEq, Repr

/-- Which memory a patrol read or an access meets an error in, and for shared SRAM who owns the word (R16). -/
inductive MemLoc where
  | tcm (c : Chan)
  | sharedSession (n : Nat)
  | sharedFunction (sf : Nat)
  | sharedFree
  | app
  | sec
  deriving DecidableEq, Repr

/-- What the check bits of a word show (R15, R16). -/
inductive Ecc where
  | good
  | single
  | double
  deriving DecidableEq, Repr

/-- The two lanes of Stay (R214). -/
inductive Lane where
  | cycle
  | ae
  deriving DecidableEq, Repr

/-- The header of a Stay frame as received, with the receiver's checks of it (R215, R217). -/
structure StayHead where
  typ : Nat
  seq : Nat
  stamp : Nat
  crcOk : Bool
  /-- the length field fits the frame received -/
  lengthOk : Bool
  /-- arrived within the deadline of R216 -/
  inTime : Bool
  deriving DecidableEq, Repr

/-- What an EVENT frame reports (R216). -/
inductive StayEvent where
  /-- the sender's detection of a source fault (R60) -/
  | sourceFault (n : Nat)
  /-- the sender's verdict on the configuration: 0 or an error code (R148) -/
  | verdict (code : Nat)
  /-- the sender's CAM_CRC at start (R73) -/
  | camCrc (crc : Nat)
  deriving DecidableEq, Repr

/-- What a TOKEN frame carries (R88, R115). -/
inductive StayToken where
  | pulse
  | test
  deriving DecidableEq, Repr

/-- What was missing at a Stay deadline (R219). -/
inductive StayMissing where
  | input
  | snapshot
  | result
  | token (t : StayToken)
  | coord
  deriving DecidableEq, Repr

/-- What a channel and its die show at a guard-cycle boundary: the die's sample frame and command frame check good, its comparator reference, readback reference and charge pumps are within limits, and the levels its comparators show at M and O of every output (R91, R110, R120). -/
structure DieObs where
  frameOk : Bool
  refOk : Bool
  cmdOk : Bool
  pumpOk : Bool
  rbRefOk : Bool
  mHigh : BitVec 16
  oHigh : BitVec 16
  deriving DecidableEq, Repr

/-- The two parts of a `Net`-indexed pair are held in a `Two`, X first. -/
def netChan : Net → Chan
  | .x => .a
  | .y => .b

/-- The two parts of a `Port`-indexed pair are held in a `Two`, LL_UP first. -/
def portChan : Port → Chan
  | .up => .a
  | .dn => .b

def chanNum : Chan → Nat
  | .a => 0
  | .b => 1

def netNum : Net → Nat
  | .x => 0
  | .y => 1

def portNum : Port → Nat
  | .up => 0
  | .dn => 1

/-- The charge of a fault of one channel. -/
def chanCharge : Chan → Charge
  | .a => .a
  | .b => .b

/-- FC_REC_n_W0.CHANNEL of a charge: 0 A, 1 B, 2 shared. -/
def chargeCode : Charge → Nat
  | .a => 0
  | .b => 1
  | .both | .shared => 2

end Sys2Proof.Machine
end

