-- ==== Sys2Proof/Machine/PartsHost.lean ====
section
/-! DEFINITION. The queues of the records the device hands out: events for the host (R299, R300) and records of the Recorder Port (R270, R271). -/

namespace Sys2Proof.Machine

/-- An event waiting for the event ring: type, payload words, and for a fault record its collector and class. -/
structure HlyEv where
  typ : Nat
  words : List Nat
  fault : Option (Chan × Nat) := none
  gcount : Nat
  time : Nat
  timeSrc : Nat
  seq : Nat
  deriving DecidableEq, Repr

/-- The internal event queue (64 records, R300). -/
structure EvSt where
  queue : List HlyEv := []
  /-- dropped since the last Loss event -/
  dropped : Nat := 0
  /-- event number since the last POR -/
  seq : Nat := 0
  deriving DecidableEq, Repr

/-- The Recorder FIFO (8,192 entries of 16 bits, R271) and its port. -/
structure RecSt where
  /-- records waiting, oldest first, each as its 16-bit entries -/
  fifo : List (List Nat) := []
  /-- bytes of the oldest record already presented (R269) -/
  sent : Nat := 0
  /-- records lost since the last Loss record -/
  lost : Nat := 0
  seq : Nat := 0
  /-- REC_D, REC_VALID as presented after the last falling edge (R269) -/
  d : Nat := 0
  valid : Bool := false
  deriving DecidableEq, Repr

/-- A nonce of AUTH_CHALLENGE (R365): its value, the authority it was asked for, and when. -/
structure NonceSt where
  value : Nat
  authority : Nat
  at_ : Nat
  deriving DecidableEq, Repr

/-- One ring beside its registers. -/
structure RingSt where
  /-- host index as last read (PROD of a command ring, CONS of the others) -/
  host : Nat := 0
  /-- descriptors fetched and not yet completed (R289) -/
  fetched : Nat := 0
  nonce : Option NonceSt := none
  /-- the last command that needed the ring's authority, ns (R291) -/
  authAt : Nat := 0
  /-- fault records written into the event ring and not yet consumed: the index past the last entry, the collector (R300) -/
  logged : List (Nat × Chan) := []
  deriving DecidableEq, Repr

/-- One MSI-X vector: when its delay expires, how often its message has been sent, and its pending bit while it is masked. -/
structure VecSt where
  due : Option Nat := none
  raised : Nat := 0
  pend : Bool := false
  deriving DecidableEq, Repr

/-- A command descriptor as the host wrote it (R288), apart from OPCODE, with the time (ns) at which it runs and what becomes of its host-memory accesses. -/
structure Desc where
  t : Nat
  flags : Nat
  tag : Nat
  length : Nat
  addr : Nat
  arg0 : Nat
  arg1 : Nat
  /-- the buffer accesses succeed -/
  bufOk : Bool
  /-- the completion is written into the descriptor -/
  doneOk : Bool
  deriving DecidableEq, Repr

/-- A completion (R289): ring, TAG, STATUS, RESULT and the data written into the buffer. -/
structure Done where
  ring : Nat
  tag : Nat
  status : Nat
  result : Nat
  data : List Nat := []
  deriving DecidableEq, Repr

/-- An exclusive command that runs on after its start (R294): its opcode; its ring, TAG and IRQ while its completion is still to be written; whether that write succeeds. -/
structure Running where
  opcode : Nat
  ring : Option Nat
  tag : Nat
  irq : Bool
  doneOk : Bool
  deriving DecidableEq, Repr

/-- What one doorbell read shows (R285 to R287): whether it succeeded, HEARTBEAT, the host index of each ring, IMG_SEQ_A, IMG_SEQ_B and HOST_IMG; rings whose descriptor fetch fails. -/
structure PollObs where
  ok : Bool
  heartbeat : Nat
  host : List Nat
  seqA : Nat
  seqB : Nat
  img : BitVec 64
  fetchBad : BitVec 8
  deriving DecidableEq, Repr

/-- Why Halyard lost its host, by how the loss ends (R304). -/
inductive HostLoss where
  | none
  /-- heartbeat, doorbell or bus master: ends at a poll -/
  | poll
  /-- FLR, hot reset, D3hot or link: ends at the next closing of the window -/
  | setup
  deriving DecidableEq, Repr

/-- Halyard beside its registers. -/
structure HlySt where
  rings : Tab RingSt := []
  vecs : Tab VecSt := []
  /-- the MSI-X table's words -/
  msix : Tab Nat := []
  /-- network address fields the host has set -/
  netHost : List Nat := []
  hb : Nat := 0
  hbAt : Nat := 0
  fails : Nat := 0
  /-- DEV_ALIVE -/
  alive : Nat := 0
  /-- IMG_SEQ_A of the image in use -/
  imgSeq : Nat := 0
  loss : HostLoss := .none
  /-- the exclusive command that runs (R294) -/
  exclusive : Option Running := none
  /-- the ring that granted SERVICE (R355) -/
  svcRing : Option Nat := none
  /-- a kick asks for a poll (R286) -/
  kick : Bool := false
  last : Option Done := none
  /-- SYS_GCOUNT at the last image entry, and the entry last written -/
  imgWait : Nat := 0
  imgLast : List Nat := []
  /-- descriptors of the event last written -/
  evLast : List Nat := []
  deriving DecidableEq, Repr

end Sys2Proof.Machine
end

