-- ==== Sys2Proof/Machine/PartsLine.lean ====
section
/-! DEFINITION. The internal state of the angle engines and cam tables (02_line_coordinate.md). Positions are integers in units of 2⁻¹⁶ st, the 48.16 value of R44; the unwrapped position of R46 is kept and the register value formed from it. -/

namespace Sys2Proof.Machine

/-- One encoder decoder of one channel (R42): the raw count and its stamps. -/
structure EncSt where
  /-- decoder count, unbounded; AE_ENC_n_COUNT shows it modulo 2³² -/
  count : Int := 0
  /-- count at which the source's position equals `base` (R44: the remainder is carried) -/
  zero : Int := 0
  base : Int := 0
  /-- a reference edge or SSI frame has come since the last update, with the count it stood at -/
  refEdge : Option Int := none
  /-- position at which the reference was first seen (R54) -/
  refPos : Option Int := none
  /-- a frame has come since the channel reset (SSI) -/
  framed : Bool := false
  /-- a fault of the source is present at the last update (R60) -/
  faulty : Bool := false
  deriving DecidableEq, Repr

/-- A scheduled prediction and the hysteresis of one event point. Positions are unwrapped. -/
structure PtSt where
  /-- the position at which it last fired forward (backward), until the coordinate has moved back beyond HYST (R69) -/
  spentF : Option Int := none
  spentB : Option Int := none
  /-- predicted in this direction and not yet confirmed (R70): 0 none, 1 forward, 2 backward -/
  pending : Nat := 0
  /-- scheduled time (ns) of the event, until it fires -/
  due : Option Nat := none
  /-- the next real crossing of this direction does not fire (R70) -/
  skipF : Bool := false
  skipB : Bool := false
  deriving DecidableEq, Repr

/-- Why a source is faulty (R61): the bits of AE_ENC_n_STATUS. -/
inductive SrcFault where
  | wire
  | illegal
  | rate
  | ampl
  | frame
  | zdev
  deriving DecidableEq, Repr

/-- What one channel's decoder sees at an encoder edge (R42, R48): for incremental and sin/cos sources the change of its count, for SSI the decoded value of a good frame; whether the reference was seen with it; its 5 ns stamp in ns. -/
structure EncObs where
  count : Int
  ref : Bool
  t : Nat
  deriving DecidableEq, Repr

/-- One angle engine beside its registers (R47 to R73). -/
structure AeSt where
  enc : Tab EncSt := []
  /-- unwrapped position at the last update, 2⁻¹⁶ st -/
  pos : Int := 0
  /-- velocity in 1/256 st/s and acceleration in st/s² at the last update -/
  vel : Int := 0
  acc : Int := 0
  /-- update number since the channel reset -/
  stamp : Nat := 0
  /-- updates since the channel reset or the wake, for R49 -/
  since : Nat := 0
  /-- the last two count changes of the active source: time (ns), position -/
  last : Option (Nat × Int) := none
  prev : Option (Nat × Int) := none
  /-- last count change as it stood at earlier updates, newest first (R48) -/
  hist : List (Option (Nat × Int)) := []
  /-- velocities at earlier updates, newest first (R49) -/
  velHist : List Int := []
  /-- consecutive updates: healthy in INVALID (R52), source excess (R57), channel excess (R59), speed and acceleration excess (R61) -/
  healthy : Nat := 0
  srcBad : Nat := 0
  chBad : Nat := 0
  velBad : Nat := 0
  accBad : Nat := 0
  /-- absolute travel since the last re-alignment (R58) -/
  travel : Nat := 0
  /-- the coordinate has been valid since the channel reset: R55 does not set it to 0 again -/
  wasValid : Bool := false
  /-- primary referenced under R53 -/
  refd : Bool := false
  /-- own source faults reported, by source: the update number of the report (R60) -/
  confirm : Tab Nat := []
  /-- faults the other channel has reported, by source, with the own update number at which the report came (R60) -/
  otherSaw : Tab Nat := []
  /-- the Class 1 fault of the coordinate is latched (R62) -/
  class1 : Bool := false
  /-- cam origin, whole steps (R71); an origin latch awaits the next update -/
  origin : Int := 0
  originSig : Bool := false
  pts : Tab PtSt := []
  /-- relative position at the last update, whole steps out of reach (R72) -/
  far : Bool := false
  /-- position rule of the windows at the last update -/
  win : BitVec 64 := 0
  /-- windows frozen at the coordinate snapshot (R21) -/
  winSnap : BitVec 64 := 0
  /-- SDI displacement by instance: furthest point (2⁻¹⁶ st, permitted direction positive) and present lag (st, rounded up) (R172) -/
  sdi : Tab (Int × Int) := []
  /-- master angle as last delivered (R63): time (ns), value (2⁻¹⁶ st), velocity (1/256 st/s) -/
  master : Option (Nat × Int × Int) := none
  /-- updates the difference has been outside, inside TOL -/
  devOut : Nat := 0
  devIn : Nat := 0
  deriving DecidableEq, Repr

end Sys2Proof.Machine
end

