-- ==== Sys2Proof/Machine/PartsMz.lean ====
section
/-! DEFINITION. What the Mizzen die holds (15_metrology_partition.md): the decoder, the totals, lots, legal parameters, seal, audit trail and event log. -/

namespace Sys2Proof.Machine

/-- The legal parameters (R380, R382, R383, R390, R392). -/
inductive MzParam where
  | num
  | den
  /-- resolution in µm: 100, 1,000, 10,000, 100,000 or 1,000,000 -/
  | res
  /-- 1 = the counting direction is reversed -/
  | invert
  /-- edges/s -/
  | maxRate
  | baud
  /-- ms -/
  | indPeriod
  deriving DecidableEq, Repr

structure MzParams where
  num : Nat := 1
  den : Nat := 1
  res : Nat := 1000
  invert : Nat := 0
  maxRate : Nat := 2000000
  baud : Nat := 9600
  indPeriod : Nat := 1000
  deriving DecidableEq, Repr

/-- The flags of a lot (R385). -/
structure LotFlags where
  fault : Bool := false
  unsealed : Bool := false
  restart : Bool := false
  power : Bool := false
  deriving DecidableEq, Repr

/-- The open lot. `rev`: edges moved backward. -/
structure Lot where
  number : Nat
  ident : Nat
  gOpen : Nat
  rev : Nat
  secs : Nat
  flags : LotFlags
  deriving DecidableEq, Repr

/-- A lot record (R385), with its signature. -/
structure LotRec where
  number : Nat
  ident : Nat
  gOpen : Nat
  gClose : Nat
  length : Nat
  reverse : Nat
  secsOpen : Nat
  secsClose : Nat
  hint : Option Nat
  flags : LotFlags
  sig : Nat
  deriving DecidableEq, Repr

/-- What an audit entry records (R387). -/
inductive MzChange where
  | seal (broken : Bool)
  | param (p : MzParam) (old new : Nat)
  | firmware (oldVersion newVersion oldCrc newCrc : Nat)
  deriving DecidableEq, Repr

structure AuditEntry where
  change : MzChange
  sealCount : Nat
  secs : Nat
  gt : Nat
  deriving DecidableEq, Repr

/-- Measuring faults (R382). -/
inductive MzFault where
  | wire
  | quadrature
  | rate
  deriving DecidableEq, Repr

/-- What an event-log entry records (R388). -/
inductive MzEvent where
  | powerLost
  | powerBack
  | fault (k : MzFault)
  | lockstep
  | refused (cmd : Nat)
  deriving DecidableEq, Repr

/-- A firmware image for Mizzen (R391): the verdicts of the blocks' check values and of its signature. -/
structure MzFw where
  framesOk : Bool
  signed : Bool
  rollback : Nat
  version : Nat
  crc : Nat
  deriving DecidableEq, Repr

/-- What is sent on MZ_TX in answer to a request (R392). -/
inductive MzAnswer where
  | none
  | err
  | ok
  | ident (version crc params sealCount : Nat)
  | lot (r : LotRec)
  | audit (e : AuditEntry)
  | event (e : MzEvent) (secs : Nat)
  deriving DecidableEq, Repr

/-- Why MZW refuses a command (R393): the command at the head of the queue, whose link check fails when `bad`; or a write of a command while the queue is full. -/
inductive MzRefusal where
  | head (bad : Bool)
  | write (cmd : BitVec 8)
  deriving DecidableEq, Repr

structure MzSt where
  /-- VMZ is present and the die out of reset -/
  on : Bool := true
  /-- grand total, µm, with the remainder of R380 in 1/DEN µm; and both as last committed (R397) -/
  gt : Nat := 0
  rem : Nat := 0
  gtKept : Nat := 0
  remKept : Nat := 0
  committedAt : Nat := 0
  /-- decoder: levels of MW_A and MW_B, position in edges of the counting direction, furthest points since Mizzen started and since the lot opened, the last edge counted (ns) -/
  a : Bool := false
  b : Bool := false
  pos : Int := 0
  far : Int := 0
  farLot : Int := 0
  edgeAt : Nat := 0
  wire : Bool := false
  quad : Bool := false
  rate : Bool := false
  params : MzParams := {}
  /-- staged parameters (R390), in order of staging -/
  staged : List (MzParam × Nat) := []
  lot : Option Lot := none
  /-- number of the last lot -/
  lotNo : Nat := 0
  records : List LotRec := []
  hint : Option Nat := none
  /-- MZ_SEAL reads broken -/
  broken : Bool := false
  seals : Nat := 0
  audit : List AuditEntry := []
  /-- event log with its Mizzen seconds, oldest first, and the entries overwritten so far -/
  events : List (MzEvent × Nat) := []
  eventsLost : Nat := 0
  version : Nat := 0
  swCrc : Nat := 0
  /-- rollback counter of the Mizzen firmware -/
  rollback : Nat := 0
  /-- Mizzen seconds at the last start, and the time (ns) of that start -/
  secs : Nat := 0
  onAt : Nat := 0
  /-- times (ns) of restarts of the pair since VMZ rose -/
  restarts : List Nat := []
  /-- held in FAULT (R398) -/
  held : Bool := false
  /-- commands from the main die: code and argument -/
  queue : List (Nat × Nat) := []
  /-- the last two words written to MZW_ARG -/
  arg : Nat := 0
  argPrev : Nat := 0
  /-- time (ns) of the last mirror frame -/
  mirrorAt : Option Nat := none
  /-- the last indication line, in characters, and its time (ns) -/
  line : List Nat := []
  lineAt : Nat := 0
  answer : MzAnswer := .none
  deriving DecidableEq, Repr

end Sys2Proof.Machine
end

