-- ==== Sys2Proof/Machine/PartsNet.lean ====
section
/-! DEFINITION. The internal state of the two networks, the Goale sessions (09_goale_networking.md) and the Line Link (10_line_link_and_recorder.md), and the frames the commands carry. -/

namespace Sys2Proof.Machine

/-- The IEEE 1588 clock of one network (R228, R229): network time = local time + offset while SYNCED. -/
structure PtpSt where
  synced : Bool := false
  /-- the device is this network's master -/
  master : Bool := false
  offset : Int := 0
  /-- consecutive Sync intervals within ±1 µs -/
  good : Nat := 0
  lastSync : Nat := 0
  /-- rise of PTP_PPS, ns; the pin is high for 100 µs -/
  ppsAt : Option Nat := none
  deriving DecidableEq, Repr

/-- What a handled PTP message shows (R228, R229): a Sync of the master with the measured offset from it, the correction of this clock, and whether the device has become the master. -/
structure PtpObs where
  sync : Bool
  master : Bool
  /-- offset from the master, ns -/
  diff : Int
  /-- network time minus local time after the message, ns -/
  offset : Int
  deriving DecidableEq, Repr

/-- A Goale frame as received (R231), with the verdicts of the checks over its bytes. -/
structure GoaFrame where
  /-- destination port is GOALE_PORT -/
  portOk : Bool
  srcNode : Nat
  connId : Nat
  srcAddr : Nat
  /-- MAGIC, VERSION, KIND and zero fields right, length agrees with the counts -/
  formOk : Bool
  /-- FLAGS.PATH -/
  path : Net
  isOpen : Bool
  epoch : Nat
  bits : List Nat
  vals : List Int
  alive : Nat
  time : Nat
  lc : Nat
  lcState : Nat
  member : Nat
  gstop : Nat
  crcOk : Bool
  macOk : Bool
  deriving DecidableEq, Repr

/-- A frame in a receive slot: its stamp, its arrival, and whether it passed steps 1 to 5 of R240. -/
structure Slot where
  frame : GoaFrame
  cycle : Nat
  arrival : Nat
  ok : Bool
  deriving DecidableEq, Repr

/-- A delivered copy whose skew window is open (R240, R242). -/
structure OpenWin where
  net : Net
  frame : GoaFrame
  until_ : Nat
  deriving DecidableEq, Repr

/-- The content of a transmitted frame that R237 compares with the last one. -/
structure TxWords where
  bits : List Nat := []
  vals : List Int := []
  member : Nat := 0
  gstop : Nat := 0
  deriving DecidableEq, Repr

/-- One Goale session beside its registers. -/
structure SesSt where
  slots : Two (List Slot) := ⟨[], []⟩
  /-- newest ALIVE delivered, and TIME of the last copy delivered from each network -/
  newest : Nat := 0
  lastTime : Two (Option Nat) := ⟨none, none⟩
  /-- network, TIME and arrival of the last delivered copy (R245) -/
  lastNet : Net := .x
  lastStamp : Nat := 0
  lastArrival : Nat := 0
  wins : List OpenWin := []
  /-- last copy of each network that passed steps 1 to 5, local ns (R243) -/
  lastPass : Two Nat := ⟨0, 0⟩
  /-- consecutive matched twins -/
  matched : Nat := 0
  /-- local time at which FAILED was entered -/
  failedAt : Nat := 0
  /-- payload in force -/
  bits : List Nat := []
  vals : List Int := []
  member : Nat := 0
  gstop : Nat := 0
  /-- transmit part: ALIVE of the last frame, frames since the channel reset, cycles since the last frame, its content -/
  txAlive : Nat := 0
  txCount : Nat := 0
  txWait : Nat := 0
  txLast : TxWords := {}
  /-- the last frame handed to the NPEs: FLAGS.OPEN, epoch, TIME on each network (0 while not SYNCED) -/
  txOpen : Bool := false
  txEpoch : Nat := 0
  txTime : Two Nat := ⟨0, 0⟩
  deriving DecidableEq, Repr

/-- A master-angle frame (R251). -/
structure MasterFrame where
  crcOk : Bool
  srcAddr : Nat
  seq : Nat
  /-- 48.16 angle -/
  angle : Int
  /-- 1/256 st/s -/
  vel : Int
  time : Nat
  deriving DecidableEq, Repr

/-- A non-safe frame handed to an NPE: the last one is kept. -/
inductive AuxFrame where
  | arpReply
  | echoReply
  /-- ramp notice: MEMBER, stop number, p0 (whole steps), v0, A_RAMP, t0 in network time -/
  | ramp (member number : Nat) (p0 : Int) (v0 aRamp : Nat) (t0 : Nat)
  deriving DecidableEq, Repr

/-- One network beside its registers. -/
structure NetSt where
  /-- second and count of policed frames, and of forwarded broadcasts (R226) -/
  polSec : Nat := 0
  polCount : Nat := 0
  bcSec : Nat := 0
  bcCount : Nat := 0
  /-- address table of the switch: address, port (true = P2), time last seen (R224) -/
  macs : List (Nat × Bool × Nat) := []
  /-- last frame forwarded: destination port and length -/
  fwd : Option (Bool × Nat) := none
  aux : Option AuxFrame := none
  /-- SEQ of the last master-angle frame used -/
  masterSeq : Option Nat := none
  deriving DecidableEq, Repr

/-- The sender of a forwarded frame, and its destination. -/
structure SwitchFrame where
  /-- arriving port: true = P2 -/
  fromP2 : Bool
  src : Nat
  dst : Nat
  broadcast : Bool
  bytes : Nat
  /-- addressed to the device, and of none of the kinds of R226 -/
  forDevice : Bool
  deriving DecidableEq, Repr

/-- One half of a group-state frame (R256), with the verdict of its CRC. -/
structure Half where
  complete : Bool
  crcOk : Bool
  typ : Nat
  seq : Nat
  pos : Nat
  single : Bool
  ring : Bool
  lineCrc : Nat
  node : Nat
  /-- VALID, HOPS, GSTOP by position -/
  entries : List (Bool × Nat × Nat)
  zeroOk : Bool
  deriving DecidableEq, Repr

/-- One Line Link port beside its registers. -/
structure PortSt where
  /-- consecutive accepted frames in TRAINING -/
  run : Nat := 0
  lastOk : Nat := 0
  /-- entries of the last accepted frame, valid ones only: position to HOPS and GSTOP -/
  entries : Tab (Nat × Nat) := []
  txSeq : Nat := 0
  /-- the last frame sent: both halves' SINGLE and entries -/
  sent : Option (Bool × Tab (Nat × Nat)) := none
  xoffAt : Nat := 0
  relaySeq : Nat := 0
  /-- the last relay frame sent: its record's entries -/
  relayed : Option (List Nat) := none
  deriving DecidableEq, Repr

/-- The Line Link engine. -/
structure LinkSt where
  ports : Two PortSt := ⟨{}, {}⟩
  /-- entries as they stood at the end of the last cycle (R261), by port -/
  held : Two (Tab (Nat × Nat)) := ⟨[], []⟩
  /-- publication in force, and the one staged at a boundary time (R258) -/
  own : Nat := 0
  staged : Nat := 0
  stagedAt : Nat := 0
  /-- nodes reachable through Goale with their GSTOP, as handed over at the snapshot (R249) -/
  goale : List (Nat × Nat) := []
  deriving DecidableEq, Repr

end Sys2Proof.Machine
end

