-- ==== Sys2Proof/Machine/PartsImage.lean ====
section
/-! DEFINITION. The Cleuz image (R146, R147) as the device reads it: its header, its sections, the class C fields it carries, and the logic graph. The byte layout inside a section is not stated, so a section's content is given as fields of registers and as the graph's own records. -/

namespace Sys2Proof.Machine

/-- The logic graph of an image (R128, R130): instances by number, the stored order, the reset signal of each safety function, the instance outputs of numeric kind, and which optional sections the image has. -/
structure Prog where
  insts : Tab Inst := []
  order : List Nat := []
  sfReset : List (Option Nat) := []
  numeric : List Nat := []
  hasLc : Bool := false
  hasLlk : Bool := false
  deriving DecidableEq, Repr

/-- One entry of the section table (R147), with the verdict of its CRC. -/
structure ImgSection where
  typ : Nat
  flags : Nat
  offset : Nat
  length : Nat
  crcOk : Bool
  deriving DecidableEq, Repr

/-- One configuration field the image carries: bits `hi` to `lo` of the register at `addr`, in channel A's view where the channels hold the field alike, else in the view of the converter or timer block it belongs to. The value may lie outside the field (R464). -/
structure ImgField where
  addr : Nat
  hi : Nat
  lo : Nat
  value : Nat
  deriving DecidableEq, Repr

/-- A Cleuz image (R146). `hdrOk`, `sigOk` and `hashOk` are the verdicts of HDR_CRC, of SIGNATURE and KEY_ID, and of CONFIG_HASH over its bytes. -/
structure Image where
  magic : Nat
  format : Nat
  flags : Nat
  length : Nat
  version : Nat
  rollback : Nat
  target : Nat
  bind : Nat
  sections : Nat
  keyId : Nat
  /-- the eight words of CONFIG_HASH, word 0 first -/
  hash : List Nat
  hdrOk : Bool
  sigOk : Bool
  hashOk : Bool
  table : List ImgSection
  fields : List ImgField
  prog : Prog
  /-- the Refit scope: safety functions named -/
  scope : List Nat
  deriving DecidableEq, Repr

end Sys2Proof.Machine
end

