-- ==== Sys2Proof/Machine/PartsSec.lean ====
section
/-! DEFINITION. What SEC and the fuses hold (14_security_lifecycle_otp.md, 16_selftest_and_ageing.md, 17_power_reset_retention.md): fuses, flash slots, tickets, certificates, records kept without power, and what the commands of these chapters observe. -/

namespace Sys2Proof.Machine

/-- How one word's 72 fuses read now: fuses that read wrong at the nominal reference, fuses that read differently at the low, at the high reference (R372 to R375). -/
structure Sense where
  err : BitVec 72 := 0
  low : BitVec 72 := 0
  high : BitVec 72 := 0
  deriving DecidableEq, Repr

/-- A word that reads alike at all three references, as it was blown. -/
def Sense.clean : Sense := {}

/-- A running OTP command (R374): 0 READ, 1 MREAD, 2 PROGRAM, 3 LOCK, 4 VOID. -/
structure OtpCmd where
  cmd : Nat
  addr : Nat
  deriving DecidableEq, Repr

/-- The mark of a firmware slot (R363). -/
inductive FwMark where
  | empty
  | trial
  | active
  /-- held an active set before another became active -/
  | former
  | failed
  deriving DecidableEq, Repr

/-- A firmware set in a flash slot (R360, R363). -/
structure FwSlot where
  mark : FwMark := .empty
  version : Nat := 0
  rollback : Nat := 0
  /-- REVOKE byte: VF0, VF1, VS0, VS1 -/
  revoke : Nat := 0
  /-- the eight words of HASH -/
  hash : List Nat := []
  deriving DecidableEq, Repr

/-- A lifecycle ticket (R354): `mine`: DEVICE_ID is the device's own; `signed`: every signature R353 asks for verifies; the four words of the owner root-key hash and the sixteen words of group 5. -/
structure Ticket where
  target : Nat
  source : Nat
  mine : Bool
  signed : Bool
  ownerHash : List Nat
  ownerOtp : List Nat
  deriving DecidableEq, Repr

/-- A shutdown certificate (R410). -/
structure Cert where
  seq : Nat
  /-- AON count at writing -/
  written : Nat
  days : Nat
  step : Nat
  duration : Nat
  w2 : Nat
  fwHash : List Nat
  deriving DecidableEq, Repr

/-- How a Ratline run started (BST_STATUS.ORIGIN, R399, R408). -/
inductive RunKind where
  | cold
  | cert
  | shutdown
  | l3
  /-- a controlled run; `full` when it runs every item -/
  | controlled (full : Bool)
  deriving DecidableEq, Repr

/-- A failure of Ratline (R406). -/
inductive BstFail where
  /-- array, word, bit and STEP -/
  | memory (array word bit step : Nat)
  /-- element as in LOGIC_SEL, interval, signature difference -/
  | logic (element interval diff : Nat)
  /-- start-test item in the order of R399, and the channel its own line is charged to -/
  | item (n : Nat) (c : Chan)
  deriving DecidableEq, Repr

/-- How a start came out, until START_COMPLETE shows it (R362, R412). -/
inductive StartImg where
  /-- no start runs -/
  | idle
  /-- the boot ROM stopped: BLANK, SCRAPPED, or a failed ROM check -/
  | halted
  /-- no image is loaded in this lifecycle state, or a privileged word holds the device -/
  | none
  | rejected
  | loaded
  deriving DecidableEq, Repr

/-- SEC, the fuses, and what flash and the AON retention RAM hold. -/
structure SecSt where
  /-- blown fuses of each OTP word: data in bits 63:0, the inverted check code in 71:64 -/
  otp : Tab (BitVec 72) := []
  otpRun : Option OtpCmd := none
  /-- BOOTSEL as decoded at the last start -/
  bootsel : Nat := 0
  fw : Tab FwSlot := []
  /-- the slot whose set is active, and the slot running -/
  fwSlot : Nat := 0
  fwRun : Option Nat := none
  /-- Cleuz image slots, and the active one -/
  img : Tab Image := []
  imgSlot : Nat := 0
  ticket : Option Ticket := none
  manifest : Nat := 0
  /-- epochs of the line keys in flash, newest first -/
  lineKeys : List Nat := []
  activeKey : Nat := 0
  cert : Option Cert := none
  /-- the flash copy, and whether it is marked used -/
  certFlash : Option (Cert × Bool) := none
  certSeq : Nat := 0
  /-- words of the Class 3 record, in AON RAM and in flash (R197) -/
  l3 : Option (List Nat) := none
  l3Flash : Option (List Nat) := none
  /-- an L3 clearance has failed: no further start clears it -/
  l3Dead : Bool := false
  /-- the ageing summary in flash (R420) -/
  summary : Option (List (Nat × BitVec 32)) := none
  /-- the AON domain has lost its contents since the last start (R420, R439) -/
  aonLost : Bool := false
  /-- end of the back-off, ns, and its length in s (R368) -/
  backoff : Option Nat := none
  backoffLen : Nat := 0
  /-- the start that runs: reset release (ns), and what it is to end in -/
  startAt : Nat := 0
  startImg : StartImg := .idle
  /-- the Ratline run in progress, with its start (ns) -/
  run : Option RunKind := none
  runAt : Nat := 0
  abort : Bool := false
  /-- failures of memory items in the last run, for REPAIR (R407): array and row -/
  rows : List (Nat × Nat) := []
  /-- arrays with a failure that spans rows -/
  columns : List Nat := []
  /-- readings of each pair below 30 ps in a row at 360 MHz (R414) -/
  slackLow : Two Nat := ⟨0, 0⟩
  /-- a step down is due at the next boundary (R414) -/
  stepDue : Bool := false
  /-- VERIFY rises when no output test slot runs (R415) -/
  verifyDue : Bool := false
  /-- seconds each die has spent in each bin, by 8 · die + bin, and its weighted life in tenths of a second (R418) -/
  secs : Tab Nat := []
  life : Tab Nat := []
  /-- day of the AON count, and the equivalent hours of the three dies at its first second, newest first (R418) -/
  lifeLog : List (Nat × List Nat) := []
  /-- AON seconds at the last move of the sense references (R416) -/
  shiftedAt : Option Nat := none
  /-- times (ns) of the last passing full Ratline (R200), measurement (R413), fuse sweep and summary copy (R420) -/
  testedAt : Nat := 0
  measAt : Nat := 0
  fuseAt : Nat := 0
  summaryAt : Nat := 0
  /-- times (ns) of the SRAM single-bit corrections of the last 24 h -/
  sbeAt : List Nat := []
  /-- junction temperatures (°C) of the three dies at the last measurement, and those kept with each measurement in the order of R413 -/
  temps : List Int := []
  keptTemps : Tab (List Int) := []
  deriving DecidableEq, Repr

/-- Why the device wakes (R435). -/
inductive WakeCause where
  /-- a pair changes state on both comparators of either pin -/
  | pair (n : Fin 24)
  | host
  | time
  | fault
  deriving DecidableEq, Repr

/-- What a start from POR, BOR or RESET_N meets (R362, R375, R411, R420): each field is the verdict of one check of the spec. -/
structure StartObs where
  /-- reset release, ns -/
  t : Nat
  bootsel : Fin 4
  romOk : Bool
  /-- the 32.768 kHz crystal runs -/
  crystal : Bool
  /-- how W0 to W7 read -/
  priv : List Sense
  drkOk : Bool
  drkMarginal : Bool
  /-- DEVICE_ID agrees with the identity key -/
  idOk : Bool
  flashTrained : Bool
  certParityOk : Bool
  certMacOk : Bool
  certFlashOk : Bool
  summaryMacOk : Bool
  summaryFlashOk : Bool
  /-- a ticket written into flash from outside while RESET_N was low (R354) -/
  ticket : Option Ticket
  /-- the fuses of the ticket's transition verify -/
  fusesOk : Bool
  /-- authentication and verification of each firmware slot -/
  fwOk : Two Bool
  /-- flash authentication of the active Cleuz slot -/
  imgOk : Bool
  /-- each supply within its operating range at the first result: VDD_CORE, VDD_18, VDDIO_33, VDDA, VS_A, VS_B -/
  rails : BitVec 6
  deriving DecidableEq, Repr

/-- What a Ratline run has found (R401, R405, R406): its failures in order, the failing rows of each array for REPAIR, the arrays with a failure that spans rows, the highest power in mW, whether STEP 0x28 flipped a bit in any array, and the array of the lowest read margin with that margin. -/
structure RatlineObs where
  t : Nat
  fails : List BstFail
  rows : List (Nat × Nat)
  columns : List Nat
  peak : Nat
  flips : Bool
  worst : Nat
  margin : Nat
  /-- the active image authenticates in the start that follows a controlled run -/
  imgOk : Bool
  deriving DecidableEq, Repr

/-! ## Buffers of the host's commands -/

/-- The owner consent token of a vendor response (R365); `zeros`: its zero bytes are zero; `signed`: its signature verifies. -/
structure AuthToken where
  keyId : Nat
  scope : Nat
  zeros : Bool
  signed : Bool
  deriving DecidableEq, Repr

/-- The response of R365. -/
structure AuthResp where
  authority : Nat
  keyId : Nat
  scope : Nat
  duration : Nat
  zeros : Bool
  device : Nat
  nonce : Nat
  signed : Bool
  token : Option AuthToken
  deriving DecidableEq, Repr

/-- The buffer of KEY_INSTALL (R359); `unwraps`: the wrapped key unwraps. -/
structure KeyBlob where
  device : Nat
  epoch : Nat
  keyId : Nat
  zeros : Bool
  signed : Bool
  unwraps : Bool
  deriving DecidableEq, Repr

/-- The payload of a staged image (R354, R358, R360): a firmware set, a ticket, or a manifest with its VERSION, REVOKE and whether the hash of its root key is W4 to W7. -/
inductive StagePay where
  | firmware
  | ticket (k : Ticket)
  | manifest (version revoke : Nat) (rootOk : Bool)
  deriving DecidableEq, Repr

/-- An image for FW_STAGE (R360), with the verdicts of HDR_CRC and the zero fields, of SIGNATURE, of HASH, and of writing it into flash. -/
structure StageFile where
  magic : Nat
  format : Nat
  typ : Nat
  revoke : Nat
  length : Nat
  version : Nat
  rollback : Nat
  target : Nat
  bind : Nat
  keyId : Nat
  hash : List Nat
  headOk : Bool
  signed : Bool
  hashOk : Bool
  flashOk : Bool
  pay : StagePay
  deriving DecidableEq, Repr

end Sys2Proof.Machine
end

