-- ==== Sys2Proof/Syntax.lean ====
section
/-! DEFINITION. The commands of the block: one constructor for every row of spec/opcode_table.json, in the table's order. A row's operands are what the row itself carries (an address, a value) and what the device observes of its surroundings when the row happens (levels, times, frames, verdicts of checks over bytes the model does not hold). -/

namespace Sys2Proof

open Sys2Proof.Machine

/-- The commands, in the order of spec/opcode_table.json. -/
inductive Instr where
  /-- POR (R428): Main-die rails rise through their release thresholds; the whole main die resets and the start of R362 and R412 begins. -/
  | por (o : StartObs)
  /-- BOR (R428): A main-die rail falls below its reset threshold while the die runs, which resets the die as a POR does. -/
  | bor (o : StartObs) (vbat : Bool)
  /-- RESET_N (R428): RESET_N is held low for long enough to reset the device; the device is held in reset while the pin stays low. -/
  | resetN (ns : Nat) (o : StartObs)
  /-- VBAT_RISE (R431): VBAT rises above 2.0 V and the device passes from OFF to STANDBY. -/
  | vbatRise (t : Nat)
  /-- MAIN_RAILS_REMOVED (R431): The main-die rails are removed; the device enters STANDBY if VBAT is present and OFF otherwise. -/
  | mainRailsRemoved (vbat : Bool) (t : Nat)
  /-- VBAT_DIP (R425): The AON supply falls below 1.9 V; VBAT_DIP is set and every class A field is lost. -/
  | vbatDip (t : Nat)
  /-- VBAT_LOW (R426): VBAT falls below 2.0 V while VDDIO_33 is present; this is recorded as a Class 0 supply event. -/
  | vbatLow
  /-- AON_CLK_STOP (R20): The 32.768 kHz crystal stops; E11 is raised, AON_CLK_STOP is set and the AON domain counts from channel A's reference. -/
  | aonClkStop
  /-- PLL_LOCK_LOST (R20): PLL-A or PLL-B loses lock, which is a Class 2 fault of that channel within 10 µs. -/
  | pllLockLost (c : Chan)
  /-- FREQ_WINDOW_END (R19): A 100 µs frequency-monitor window ends and its deviation against the other channel's reference is judged. -/
  | freqWindowEnd (c : Chan) (count : Nat)
  /-- REF_JUDGEMENT_WINDOW_END (R19): A 1 ms window against the 32.768 kHz reference ends and SUSPECT_A or SUSPECT_B is updated. -/
  | refJudgementWindowEnd (c : Chan) (dev : Int)
  /-- VS_UNDERVOLTAGE (R426): VS_A or VS_B stays below 16.0 V for 50 µs; the die opens every switch and, after SAFE_READY, Class 2 of its channel is raised. -/
  | vsUndervoltage (c : Chan)
  /-- SUPPLY_MONITOR_FAULT (R426): A supply context is out of range on 3 consecutive results, or VS is out of range for 10 ms; E61 is raised with the class the table gives. -/
  | supplyMonitorFault (r : Rail) (high : Bool)
  /-- VMZ_LOW (R397): VMZ falls below 3.0 V; Mizzen commits the grand total and writes a power event within 2 ms. -/
  | vmzLow (t : Nat)
  /-- START_COMPLETE (R412): The start sequence completes and the device enters SAFE_READY, or SAFE where no image is loaded or the image was rejected. -/
  | startComplete (t : Nat)
  /-- TRIAL_START_TIMEOUT (R363): A TRIAL firmware set has not completed its start within 5 s; the slot is marked FAILED, E57 is raised and the main die restarts from the previous slot. -/
  | trialStartTimeout (o : StartObs)
  /-- GUARD_CYCLE_BOUNDARY (R21): At the cycle boundary the I/O dies apply the staged commands, and IOS latches the comparators and sends the INPUT frames. -/
  | guardCycleBoundary (t : Nat) (a : DieObs) (b : DieObs)
  /-- COORDINATE_SNAPSHOT (R21): At 15 µs each channel freezes the coordinate, the windows, the Goale and Line Link inputs and the process images. -/
  | coordinateSnapshot (t : Nat) (app : BitVec 64)
  /-- SESSION_WATCHDOG_EXPIRY (R245): A session's watchdog T_wd expires; E49 is raised and the session goes to FAILED. -/
  | sessionWatchdogExpiry (n : Fin 256) (t : Nat)
  /-- AI_CONTEXT_STALE (R324): A safe-input result is older than MAX_AGE, or its set spans more than MAX_AGE; E55 is raised and AIn reads the marker. -/
  | aiContextStale (c : Chan) (n : Fin 8) (t : Nat)
  /-- GRAPH_EVALUATION (R130): Both channels evaluate every instance once, in the stored topological order. -/
  | graphEvaluation (usA : Nat) (usB : Nat)
  /-- RESULT_AGREEMENT (R133): At T_G − 40 µs the channels exchange their result vectors through Stay for comparison. -/
  | resultAgreement
  /-- GUARD_CYCLE_OVERRUN (R23): A channel has not delivered its result vector by T_G − 25 µs, which is a Class 2 fault of that channel. -/
  | guardCycleOverrun (c : Chan)
  /-- STAGE (R21): From T_G − 25 µs each channel stages its output commands and queues Goale frames and image entries. -/
  | stage
  /-- IMAGE_ENTRY_WRITE (R301): Every IMG_DIV guard cycles an image descriptor is written to the image ring, or skipped when the ring is full. -/
  | imageEntryWrite (ok : Bool) (t : Nat)
  /-- COMMAND_WATCHDOG_EXPIRY (R24): No valid command frame reaches an I/O die within 2 · T_G + 20 µs; the die opens every switch. -/
  | commandWatchdogExpiry (c : Chan) (t : Nat)
  /-- ANGLE_ENGINE_UPDATE (R47): At each 31.25 µs tick the angle engine updates position, velocity and acceleration, the cross-checks, the windows and the envelope. -/
  | angleEngineUpdate (c : Chan) (t : Nat) (bad : BitVec 4)
  /-- MONITORED_STOP_COMPLETION (R164): Speed at or below V_END on 3 updates, or STANDSTILL, in both channels completes a monitored stop. -/
  | monitoredStopCompletion
  /-- STANDSTILL_SET (R50): No count has changed for longer than 1/VSTILL and STANDSTILL is set. -/
  | standstillSet (c : Chan) (t : Nat)
  /-- SOURCE_FAULT (R60): A channel detects a source fault, excludes the source and reports it through Stay. -/
  | sourceFault (c : Chan) (n : Fin 4) (k : SrcFault)
  /-- SOURCE_FAULT_CONFIRM_TIMEOUT (R60): No confirmation arrives within 2 updates, which is a Class 2 fault of the detecting channel. -/
  | sourceFaultConfirmTimeout (c : Chan) (n : Fin 4)
  /-- SOURCE_XCHECK_EXCESS (R57): The source difference exceeds TOL_SRC on 3 updates; E17 is raised and the state becomes LOST. -/
  | sourceXcheckExcess (c : Chan)
  /-- CHANNEL_XCHECK_EXCESS (R59): The channel difference exceeds TOL_CH on 3 updates; E18 is raised and the state becomes LOST. -/
  | channelXcheckExcess
  /-- COORDINATE_PLAUSIBILITY (R61): Speed or acceleration above its limit on 3 updates, or linear saturation, raises E21. -/
  | coordinatePlausibility (c : Chan)
  /-- ANGLE_ENGINE_OVERRUN (R61): An update is not complete before the next tick, which raises E22. -/
  | angleEngineOverrun (c : Chan)
  /-- CAM_PREDICTED_EVENT (R70): A predicted cam event fires at its scheduled 5 ns time. -/
  | camPredictedEvent (c : Chan) (n : Fin 1024) (t : Nat)
  /-- CAM_CRC_CHECK (R73): Every 10 ms the angle engine recomputes the cam CRC and raises E20 on a mismatch. -/
  | camCrcCheck (c : Chan) (upset : Option (Fin 2113 × Word))
  /-- MASTER_ANGLE_FRAME (R251): A master-angle frame is received and used when its CRC, SEQ, sync and age hold. -/
  | masterAngleFrame (n : Net) (f : MasterFrame) (t : Nat)
  /-- MASTER_DEV_TIMEOUT (R63): The master difference exceeds TOL for TIME, which raises E19 and LC_MASTER_DEV; it clears after TIME within tolerance. -/
  | masterDevTimeout (c : Chan)
  /-- INPUT_FILTER_CHANGE (R82): A pin's raw samples show a new state for t_filter and its filtered state changes. -/
  | inputFilterChange (c : Chan) (pin : Fin 48) (level : Bool)
  /-- DISCREPANCY_TIMEOUT (R85): A pair's discrepancy timer runs longer than DISC, which latches E28. -/
  | discrepancyTimeout (n : Fin 24)
  /-- COMPARATOR_DISAGREEMENT (R90): The two filtered samples of a pin differ for max(2 ms, 4 · T_G), which latches E24. -/
  | comparatorDisagreement (pin : Fin 48)
  /-- TEST_PULSE_DUE (R88): A test-pulse source becomes eligible or due by its INTERVAL or its window. -/
  | testPulseDue (n : Fin 8) (t : Nat)
  /-- TEST_PULSE_TOKEN_GRANT (R88): The free pulse token goes to the due source that expires first, and the pulse is announced through Stay. -/
  | testPulseTokenGrant (high : BitVec 48)
  /-- TEST_PULSE_START (R88): 20 µs after a confirmed announcement the source is driven to 0 V. -/
  | testPulseStart (t : Nat)
  /-- TEST_PULSE_WIDTH_END (R89): At the end of WIDTH each IOS judges the pulse on its own die and reports the verdict. -/
  | testPulseWidthEnd (a : PulseObs) (b : PulseObs) (tpLow : Bool)
  /-- TEST_PULSE_SETTLE_END (R89): At the end of SETTLE the pin verdicts complete, blanking ends and the token is freed. -/
  | testPulseSettleEnd (high : BitVec 48)
  /-- SOURCE_LOW_IDLE (R93): A source readback stays below VS − 3 V outside a pulse for 50 µs, which raises E29. -/
  | sourceLowIdle (n : Fin 8)
  /-- FAST_KILL (R97): A fast-kill pin in demand for FK_FILT opens that die's switch of every output in FK_GROUP. -/
  | fastKill (c : Chan) (n : Fin 24) (y : Bool)
  /-- FAST_KILL_RELEASE (R97): Both pins read released for FK_FILT without blanking and the die judges that the pair has left demand. -/
  | fastKillRelease (c : Chan) (n : Fin 24)
  /-- FAST_KILL_CRC_CHECK (R100): Every 10 ms the channel compares the die's fast-kill CRC with the image and raises E31 on a mismatch. -/
  | fastKillCrcCheck (c : Chan) (upset : Option (Fin 24 × Word))
  /-- OUTPUT_TEST_DUE (R115): An output or LSk test becomes eligible or due by its INTERVAL or its window. -/
  | outputTestDue (key : Fin 36) (t : Nat)
  /-- OUTPUT_TEST_TOKEN_GRANT (R115): The free output token goes to the due test that expires first, and the test slot is announced. -/
  | outputTestTokenGrant (t : Nat) (mvA : Nat) (mvB : Nat) (ma : Nat) (tjA : Int) (tjB : Int)
  /-- OUTPUT_TEST_PHASE_START (R111): After the 20 µs announce the switches take their test states. -/
  | outputTestPhaseStart (o : TestObs)
  /-- OUTPUT_TEST_PHASE_END (R116): The test phase ends with its verdicts, the switches return and VERIFY starts. -/
  | outputTestPhaseEnd (t : Nat) (o : TestObs)
  /-- OUTPUT_TEST_VERIFY_END (R111): At the end of VERIFY the readback is checked and the token is freed. -/
  | outputTestVerifyEnd (t : Nat) (o : TestObs)
  /-- OUTPUT_READBACK_FAULT (R108): A readback deviation persists for 3 samples and latches E32, E33, E34 or E38. -/
  | outputReadbackFault (unit : Fin 20) (t : Nat) (o : TestObs) (limA : Bool) (limB : Bool)
  /-- CURRENT_LIMIT_OPEN (R105): A switch in current limit for 200 µs opens and latches E35 or E38. -/
  | currentLimitOpen (c : Chan) (unit : Fin 20)
  /-- READBACK_DISAGREEMENT (R110): The two dies' comparators on a node differ for max(2 ms, 4 · T_G), which latches E36. -/
  | readbackDisagreement (n : Fin 16)
  /-- OPEN_LOAD (R108): The load current stays below OPEN_LOAD for 100 ms, which latches E39. -/
  | openLoad (n : Fin 16)
  /-- EDM_TIMEOUT (R96): The feedback is not as required within EDM_TIME of the command, which latches E30. -/
  | edmTimeout (n : Fin 512)
  /-- GRAPH_INTEGRITY_CHECK (R144): Every 100 ms each channel recomputes its LGE CRC and raises E41 on a mismatch. -/
  | graphIntegrityCheck (c : Chan) (same : Bool)
  /-- FURL_TIMER_EXPIRY (R166): A Furl timer reaches TIME; the die opens its STO and brake switches, raising E47 if still commanded closed. -/
  | furlTimerExpiry (c : Chan) (t : Nat)
  /-- FURL_ARM_RELEASE (R178): The survivor's Furl-arm line is released, so the held die opens its held switches and disarms. -/
  | furlArmRelease (c : Chan)
  /-- TIMED_STOP_COMPLETION (R164): T_STOP elapses in a timed stop, which completes it. -/
  | timedStopCompletion (t : Nat)
  /-- STOP_TIME_EXCEEDED (R164): A monitored stop has not completed by t0 + T_STOP; E46 is raised and the stop Furls at the next boundary. -/
  | stopTimeExceeded (t : Nat)
  /-- BRAKE_OVERLAP_END (R169): T_OVERLAP after a completion with ORDER = 1, the STO outputs open. -/
  | brakeOverlapEnd (t : Nat)
  /-- FURL_CRC_CHECK (R168): Every 10 ms the channel compares the die's Furl CRC with the image and raises E43 on a mismatch. -/
  | furlCrcCheck (c : Chan) (upset : Option (Fin 3 × Word))
  /-- OTHER_CLASS2_LINE (R194): The other collector's Class 2 line asserts, and this channel stages all outputs off or starts a survivor Reef. -/
  | otherClass2Line (c : Chan)
  /-- FC_TEST_INJECTION (R189): Every 100 ms a collector injects a test event on one input, and the other collector checks the outcome. -/
  | fcTestInjection (c : Chan) (passed : Bool)
  /-- FLT_PIN_MISMATCH (R189): A fault pin differs from its command for more than 10 µs, which raises E63 Class 2. -/
  | fltPinMismatch (c : Chan) (level : Bool)
  /-- CONSEQUENTIAL_WINDOW_END (R190): 10 µs after a mapped block reset is released the window ends, and lines still asserted latch normally. -/
  | consequentialWindowEnd (n : Fin 16)
  /-- SELFTEST_WARN (R200): The self-test age reaches 8,036 h and SELFTEST_WARN is set. -/
  | selftestWarn
  /-- SELFTEST_OVERDUE (R200): The self-test age reaches 9,497 h and SELFTEST_OVERDUE is set. -/
  | selftestOverdue
  /-- TELLTALE_REPORT (R206): A non-zero Tell-tale vector is judged as a lockstep mismatch or a Tell-tale disagreement. -/
  | telltaleReport (c : Chan) (t0 : BitVec 8) (t1 : BitVec 8)
  /-- FORCED_MISMATCH (R208): Every 100 ms one compared bit is inverted for one cycle and the expected report is checked. -/
  | forcedMismatch (c : Chan) (t0 : BitVec 8) (t1 : BitVec 8)
  /-- LATENT_DIVERGENCE_SWEEP (R210): Every 5 ms the sweep compares both copies' state and raises E03 on any difference. -/
  | latentDivergenceSweep (c : Chan) (us : Fin 201) (diff : Option (Fin 3 × Fin 8192))
  /-- ASYNC_INPUT_DISAGREEMENT (R211): The synchronisers of an input disagree for more than 4 cycles, which raises E04. -/
  | asyncInputDisagreement (c : Chan) (input : Fin 64) (cycles : Nat)
  /-- DEBUG_ATTACH (R213): A debug session attaches; the checker is decoupled and E05 is raised. -/
  | debugAttach (c : Chan) (e : DbgElem)
  /-- DEBUG_DETACH (R213): A debug session detaches, without re-coupling the pair or clearing E05. -/
  | debugDetach (c : Chan)
  /-- DEBUG_RESET (R428): A debugger in SERVICE resets an element, which is a block reset of that element. -/
  | debugReset (c : Chan) (e : DbgElem)
  /-- APP_RESET (R438): APP is reset, which resets the V fields of APP, TIM_P and CRC_P. -/
  | appReset (t : Nat)
  /-- PATROL_SCRUB (R17): The scrubber reads the next memory word and applies R15 and R16. -/
  | patrolScrub (m : MemLoc) (e : Ecc)
  /-- STAY_ALIGN_FRAME (R218): An ALIGN frame arrives and AE-B moves its next tick by the measured offset. -/
  | stayAlignFrame (c : Chan) (h : StayHead) (offset : Int)
  /-- STAY_COORD_FRAME (R59): A COORD frame arrives for the channel cross-check, the windows and the SDI exchange. -/
  | stayCoordFrame (c : Chan) (h : StayHead)
  /-- STAY_INPUT_FRAME (R95): An INPUT frame arrives with samples, verdicts, readback and newly latched lines. -/
  | stayInputFrame (c : Chan) (h : StayHead)
  /-- STAY_SNAPSHOT_FRAME (R216): A SNAPSHOT frame arrives with AIn values, process images and the collector test outcome. -/
  | staySnapshotFrame (c : Chan) (h : StayHead) (testOk : Bool)
  /-- STAY_RESULT_FRAME (R216): A RESULT frame arrives and is compared with the receiver's own result vector. -/
  | stayResultFrame (c : Chan) (h : StayHead) (crcSame : Bool)
  /-- STAY_TOKEN_FRAME (R216): A TOKEN frame arrives with a pulse or test token hand-over or an announcement. -/
  | stayTokenFrame (c : Chan) (h : StayHead) (t : StayToken)
  /-- STAY_EVENT_FRAME (R216): An EVENT frame arrives with source-fault reports, configuration verdicts or CRC comparisons. -/
  | stayEventFrame (c : Chan) (h : StayHead) (e : StayEvent) (same : Bool)
  /-- STAY_HOLD_FRAME (R177): A HOLD frame arrives in single mode with the hold state and fault records. -/
  | stayHoldFrame (c : Chan) (h : StayHead)
  /-- STAY_REPEAT_REQUEST (R217): A repeat request for a bad frame arrives, and the frame is sent once more. -/
  | stayRepeatRequest (c : Chan) (l : Lane) (seq : Nat)
  /-- STAY_DEADLINE_MISS (R219): A frame or confirmation misses its deadline, which raises E06. -/
  | stayDeadlineMiss (c : Chan) (m : StayMissing)
  /-- STAY_SKEW_FAULT (R218): The skew exceeds 1 µs on 3 consecutive ticks, which raises E06. -/
  | staySkewFault (c : Chan)
  /-- STAY_TRAINING_TIMEOUT (R223): Training has not completed within 10 ms; E06 is charged to both channels and the device goes to LOCKOUT. -/
  | stayTrainingTimeout
  /-- STAY_ATTRIBUTION_WINDOW_END (R221): 20 µs after an E06 or E07 latch the charge is decided from the Class 2 lines and the reaction runs. -/
  | stayAttributionWindowEnd
  /-- GOALE_FRAME_RECEIVED (R239): The NPE stamps a Goale frame into a receive slot, and both Shroud engines check it within 5 µs. -/
  | goaleFrameReceived (p : Net) (f : GoaFrame) (t : Nat)
  /-- TWIN_WINDOW_END (R242): A skew window closes without a twin, which is counted as a MISS. -/
  | twinWindowEnd (n : Fin 256) (t : Nat)
  /-- PATH_LOST (R243): No copy has passed on a network for WD; the path is LOST and E51 is raised, with E49 when SINGLE_OK = 0. -/
  | pathLost (n : Fin 256) (p : Net) (t : Nat)
  /-- NETWORK_LINK_DOWN (R244): Both ports of a network have been without link for 100 ms, which raises E51. -/
  | networkLinkDown (n : Net)
  /-- NPE_FAULT (R244): An internal NPE fault raises E51 and is followed by a block reset. -/
  | npeFault (n : Net)
  /-- PHY_POLL (R224): Every 10 ms the link state of each PHY is polled over MDIO. -/
  | phyPoll (n : Net) (p1 : Option Bool) (p2 : Option Bool)
  /-- PTP_MESSAGE (R228): A PTP message is handled, updating the network clock and its SYNCED state. -/
  | ptpMessage (n : Net) (o : PtpObs) (t : Nat)
  /-- PTP_SYNC_TIMEOUT (R229): No Sync has been received for 3 s and the network leaves SYNCED. -/
  | ptpSyncTimeout (n : Net) (t : Nat)
  /-- PTP_PPS (R229): At each whole second of a SYNCED network, PTP_PPS goes high for 100 µs. -/
  | ptpPps (n : Net) (t : Nat)
  /-- ARP_REQUEST (R226): An ARP request for the network's address is answered. -/
  | arpRequest (n : Net) (t : Nat)
  /-- ICMP_ECHO_REQUEST (R226): An ICMP echo request is answered when ICMP = 1. -/
  | icmpEchoRequest (n : Net) (t : Nat)
  /-- EPOCH_SWITCH_TIME (R236): At the first boundary at or after the stated PTP time, both channels switch the active epoch. -/
  | epochSwitchTime (t : Nat)
  /-- LINE_LINK_TICK (R256): Every 20 µs each used port sends a group-state frame built by both check units. -/
  | lineLinkTick (t : Nat)
  /-- GROUP_STATE_FRAME (R257): A group-state frame arrives on a port and is accepted or rejected, counting towards UP in TRAINING. -/
  | groupStateFrame (p : Port) (a : Half) (b : Half) (peak : Nat) (after : Nat) (lost : Nat) (t : Nat)
  /-- PORT_LOST (R254): No frame has been accepted on an UP port for 100 µs; the port becomes LOST and E52 is raised. -/
  | portLost (p : Port) (t : Nat)
  /-- RELAY_FRAME_RECEIVED (R273): A relay frame arrives and is forwarded, stored in the Recorder FIFO or discarded. -/
  | relayFrameReceived (p : Port) (r : List (BitVec 16)) (crcOk : Bool) (peak : Nat) (after : Nat) (lost : Nat)
  /-- RELAY_FRAME_SEND (R273): A queued record is sent as a relay frame once the transmit FIFO has room and XOFF_IN is released. -/
  | relayFrameSend (free : Nat)
  /-- XOFF_IN_CHANGE (R268): XOFF_IN changes level, which holds back or releases the relay frames. -/
  | xoffInChange (p : Port) (level : Bool) (t : Nat)
  /-- XOFF_IN_HELD (R268): XOFF_IN has been asserted for longer than 10 ms, which raises E52. -/
  | xoffInHeld (p : Port) (t : Nat)
  /-- LLE_FAULT (R274): An internal Line Link engine fault raises E52 and is followed by a block reset. -/
  | lleFault
  /-- REC_FLUSH_TIMEOUT (R272): The oldest record has waited FLUSH ms and REC_RDY is asserted. -/
  | recFlushTimeout
  /-- REC_CLOCK_TIMEOUT (R274): REC_RDY has been asserted for 1 s without a REC_CLK edge, which raises E52. -/
  | recClockTimeout
  /-- HLY_SETUP_DONE (R280): Writing DONE checks the set-up and closes the BAR0 window, and Halyard enters RUN. -/
  | hlySetupDone (msix : Bool) (testRead : Bool) (t : Nat)
  /-- BAR0_WRITE_DENIED (R281): A host write to the closed BAR0 window is discarded, counted and logged. -/
  | bar0WriteDenied (off : BitVec 16)
  /-- DOORBELL_KICK (R286): A write of KICK starts a poll within 2 µs. -/
  | doorbellKick (n : Fin 8)
  /-- DOORBELL_POLL (R286): Every POLL_US the device reads the doorbell page, acts on it and writes its indices. -/
  | doorbellPoll (o : PollObs) (t : Nat)
  /-- DOORBELL_READ_FAILURES (R303): 3 consecutive doorbell reads fail and host loss begins. -/
  | doorbellReadFailures
  /-- HEARTBEAT_TIMEOUT (R303): HEARTBEAT is unchanged for HOST_WD and host loss begins. -/
  | heartbeatTimeout (t : Nat)
  /-- BUS_MASTER_DISABLE (R303): Bus Master Enable is cleared in configuration space and host loss begins. -/
  | busMasterDisable
  /-- PCIE_LINK_LOSS (R303): The PCIe link is down for more than 1 ms, or PERST_N is asserted; host loss begins and the window reopens. -/
  | pcieLinkLoss
  /-- PCIE_FLR (R303): A function-level reset or a hot reset starts host loss and resets the HLY class W fields. -/
  | pcieFlr
  /-- PCIE_D3HOT (R303): The function is placed in D3hot, which starts host loss. -/
  | pcieD3hot
  /-- IRQ_DELAY_EXPIRY (R302): The IRQ_DELAY timer expires and the vector is raised once. -/
  | irqDelayExpiry (v : Fin 8) (t : Nat)
  /-- EVENT_RING_WRITE (R300): A queued event is written once the event ring has room. -/
  | eventRingWrite (ok : Bool) (t : Nat)
  /-- HALYARD_FAULT (R306): An internal Halyard fault raises E54 and is followed by a block reset. -/
  | halyardFault
  /-- NOP (R292): The command does nothing and returns ARG0. -/
  | nop (r : Fin 8) (d : Desc)
  /-- GET_INFO (R296): The command writes the information block. -/
  | getInfo (r : Fin 8) (d : Desc)
  /-- READ_REG (R295): The command checks a range and reads its registers into the buffer. -/
  | readReg (r : Fin 8) (d : Desc)
  /-- RESTART (R196): The command is an L2 clearance by a channel reset of both channels. -/
  | restart (r : Fin 8) (d : Desc) (imgOk : Bool)
  /-- SHUTDOWN (R436): The command starts an orderly shutdown with Ratline and a certificate. -/
  | shutdown (r : Fin 8) (d : Desc)
  /-- AUTH_CHALLENGE (R365): The command writes a fresh nonce for the ring. -/
  | authChallenge (r : Fin 8) (d : Desc)
  /-- AUTH_RESPONSE (R366): The command checks the response to the ring's nonce and grants authority and scopes. -/
  | authResponse (r : Fin 8) (d : Desc) (a : AuthResp)
  /-- AUTH_END (R291): The command ends the ring's authority. -/
  | authEnd (r : Fin 8) (d : Desc)
  /-- REFIT (R297): The command reads a Refit image and runs the Refit of R153. -/
  | refit (r : Fin 8) (d : Desc) (im : Image)
  /-- FW_STAGE (R361): The command checks a firmware set, ticket or manifest and stores it. -/
  | fwStage (r : Fin 8) (d : Desc) (f : StageFile)
  /-- KEY_INSTALL (R359): The command unwraps a line key and installs it. -/
  | keyInstall (r : Fin 8) (d : Desc) (k : KeyBlob)
  /-- KEY_REMOVE (R292): The command removes a line key that is not active. -/
  | keyRemove (r : Fin 8) (d : Desc)
  /-- EPOCH_SWITCH (R236): The command selects the active epoch from a stated PTP time. -/
  | epochSwitch (r : Fin 8) (d : Desc)
  /-- ATTEST (R369): The command writes the signed attestation report. -/
  | attest (r : Fin 8) (d : Desc) (nonce : BitVec 256)
  /-- RING_RESET (R305): The command returns another ring to ACTIVE with both indices 0. -/
  | ringReset (r : Fin 8) (d : Desc)
  /-- SET_POLL (R292): The command sets POLL_US from the next poll. -/
  | setPoll (r : Fin 8) (d : Desc)
  /-- AUTHORITY_IDLE_TIMEOUT (R291): A ring's authority lapses after 30 min without a command that needs it. -/
  | authorityIdleTimeout (r : Fin 8) (t : Nat)
  /-- NONCE_LAPSE (R365): A nonce lapses 60 s after it was issued. -/
  | nonceLapse (r : Fin 8) (t : Nat)
  /-- AUTH_BACKOFF_END (R368): The authentication back-off period ends. -/
  | authBackoffEnd (t : Nat)
  /-- SERVICE_DURATION_END (R355): DURATION minutes pass and SERVICE ends, withdrawing the vendor scopes. -/
  | serviceDurationEnd (t : Nat)
  /-- REFIT_STOPPED (R153): Every named function has stopped with its outputs open, and APPLY begins. -/
  | refitStopped
  /-- REFIT_APPLIED (R153): APPLY completes and COMMIT writes the image to the inactive flash slot. -/
  | refitApplied (crcOk : Bool)
  /-- REFIT_COMMITTED (R153): COMMIT completes, the slot becomes active and the named functions restart at DONE. -/
  | refitCommitted (imgOk : Bool)
  /-- ADC_CONVERSION_DONE (R316): A conversion ends; it is discarded, used for a context, used for calibration or monitoring, and the next one starts. -/
  | adcConversionDone (k : Fin 4) (raw : BitVec 16) (t : Nat)
  /-- ADC_REF_XCHK_FAULT (R327): The other reference differs by more than 492 codes on 3 results, which raises E55. -/
  | adcRefXchkFault (k : Fin 4)
  /-- IOS_INJECTION_TRIGGER (R312): IOS triggers an injected conversion IOS_OFS µs after a boundary. -/
  | iosInjectionTrigger (k : Fin 4) (n : Fin 56)
  /-- MONITOR_BURST (R315): Every 100 µs a monitor burst for the device contexts is inserted. -/
  | monitorBurst (k : Fin 4)
  /-- CALIBRATION_DUE (R325): CAL_PERIOD passes, or a request arrives, and a calibration becomes due. -/
  | calibrationDue (k : Fin 4) (request : Bool) (t : Nat)
  /-- CALIBRATION_OVERDUE (R326): No calibration has completed within 4 × CAL_PERIOD, which raises E55. -/
  | calibrationOverdue (k : Fin 4) (t : Nat)
  /-- CONVERSION_TIMEOUT (R328): A conversion is not finished within 2 × t_conv; E55 is raised and the converter is block-reset. -/
  | conversionTimeout (k : Fin 4)
  /-- ADC_CTX_CLR (R319): Writing CLR clears a context's statistics. -/
  | adcCtxClr (k : Fin 4) (n : Fin 64) (ownSc : Bool)
  /-- LC_POS_LO_READ (R75): Reading LC_POS_LO latches the other coordinate registers of the same update. -/
  | lcPosLoRead (i : Initiator) (c : Chan)
  /-- CAM_ORIGIN_LO_READ (R75): Reading CAM_ORIGIN_LO latches CAM_ORIGIN_HI. -/
  | camOriginLoRead (i : Initiator) (c : Chan)
  /-- DSF_LATCH_READ (R183): Reading DSF_P0_LO, DSF_LIMIT_LO or DSF_PRED_LO latches its partner registers. -/
  | dsfLatchRead (i : Initiator) (c : Chan) (k : Fin 3)
  /-- ADC_SUM_LO_READ (R320): Reading SUM_LO latches SUM_HI, COUNT and MINMAX of the same cycle. -/
  | adcSumLoRead (i : Initiator) (k : Fin 4) (n : Fin 64)
  /-- TIM_COUNT_READ (R341): Reading a master's COUNT latches the counts of its clocked slaves. -/
  | timCountRead (i : Initiator) (u : Unit3) (k : Fin 8) (t : Nat)
  /-- TIM_CAP_READ (R342): Reading TIM_TM_t_CAP returns the capture and clears CAP_FULL. -/
  | timCapRead (i : Initiator) (u : Unit3) (k : Fin 8)
  /-- CRC_RESULT_LO_READ (R350): Reading CRC_RESULT_LO latches RESULT_HI and the alive value. -/
  | crcResultLoRead (i : Initiator) (u : Unit3)
  /-- MZW_GT_LO_READ (R395): Reading MZW_GT_LO latches every other mirror register of the same frame. -/
  | mzwGtLoRead (i : Initiator)
  /-- PWR_AON_LO_READ (R437): Reading PWR_AON_LO latches PWR_AON_HI. -/
  | pwrAonLoRead (i : Initiator) (t : Nat)
  /-- READ_CLEAR (R8): A read of an RC field returns its value and then clears it. -/
  | readClear (i : Initiator) (a : Word)
  /-- FC_REC_ACK (R188): A write acknowledges the oldest unread fault records as read. -/
  | fcRecAck (i : Initiator) (c : Chan) (n : Fin 17)
  /-- REGISTER_WRITE (R8): A write to a register without a row of its own, under its access codes and the firewall. -/
  | registerWrite (i : Initiator) (width : Width) (a : Word) (v : Word) (t : Nat)
  /-- TIM_CMP_WRITE (R337): A write to TIM_CMP_n arms the compare 2 cycles later and sets CMP_LAP. -/
  | timCmpWrite (i : Initiator) (u : Unit3) (n : Fin 32) (v : Word) (t : Nat)
  /-- TIM_CMP_DISARM (R338): Writing DISARM clears ARMED 2 cycles later. -/
  | timCmpDisarm (i : Initiator) (u : Unit3) (n : Fin 32) (t : Nat)
  /-- TIM_COUNT_WRITE (R338): A write loads the count without firing any compare. -/
  | timCountWrite (i : Initiator) (u : Unit3) (k : Fin 8) (v : Word) (t : Nat)
  /-- TIM_P_CFG_WRITE (R345): A write of a TIM_P configuration is accepted, or ignored with CFG_ERR. -/
  | timPCfgWrite (i : Initiator) (k : Fin 8) (v : Word) (t : Nat)
  /-- TIMER_COMPARE_MATCH (R339): The count steps into an armed compare value and the compare fires its actions once. -/
  | timerCompareMatch (u : Unit3) (t : Nat)
  /-- TIMER_OVERFLOW (R335): A timer wraps to 0, which sets OVF and produces its overflow event. -/
  | timerOverflow (u : Unit3) (t : Nat)
  /-- TMIO_CAPTURE_EDGE (R342): An edge on a TMIO pin captures the timer count. -/
  | tmioCaptureEdge (k : Fin 4) (level : Bool) (t : Nat)
  /-- CRC_GO (R348): Writing GO steps the alive counter and starts a scan. -/
  | crcGo (i : Initiator) (u : Unit3)
  /-- CRC_SCAN_DONE (R348): A scan completes or stops on a bus error; the result is stored and DONE is set. -/
  | crcScanDone (u : Unit3)
  /-- OTP_READ (R374): The command reads an OTP word at the nominal reference. -/
  | otpRead (i : Initiator) (n : Fin 512)
  /-- OTP_MREAD (R374): The command reads a word at three references and flags MARGINAL. -/
  | otpMread (i : Initiator) (n : Fin 512)
  /-- OTP_PROGRAM (R376): The command programs a normal word or sets tally bits under the programming rights. -/
  | otpProgram (i : Initiator) (n : Fin 512)
  /-- OTP_LOCK (R377): The command locks a complete group. -/
  | otpLock (i : Initiator) (g : Fin 512)
  /-- OTP_VOID (R377): The command writes the void pattern into every unwritten word of a group in MANUFACTURE. -/
  | otpVoid (i : Initiator) (g : Fin 512)
  /-- OTP_COMMAND_DONE (R374): An OTP command completes, which clears BUSY and sets RESULT. -/
  | otpCommandDone (o : Sense) (ok : Bool)
  /-- SEC_FW_COMMIT (R370): COMMIT applies the staged firewall region, which is logged, or refuses it with ERR. -/
  | secFwCommit (i : Initiator)
  /-- SEC_FW_LOAD (R370): LOAD copies the selected live region into staging. -/
  | secFwLoad (i : Initiator)
  /-- LOT_OPEN (R393): Mizzen opens a lot and latches G_open. -/
  | lotOpen (t : Nat)
  /-- LOT_CLOSE (R384): Mizzen closes the open lot and writes its signed record. -/
  | lotClose (t : Nat)
  /-- LOT_CUT (R393): Mizzen closes and opens a lot in the same decoder cycle. -/
  | lotCut (t : Nat)
  /-- READ_LOT (R393): Mizzen places a lot record in MZW_DATA. -/
  | readLot (t : Nat)
  /-- READ_AUDIT (R393): Mizzen places an audit entry in MZW_DATA. -/
  | readAudit (t : Nat)
  /-- READ_EVENT (R393): Mizzen places an event-log entry in MZW_DATA. -/
  | readEvent (t : Nat)
  /-- READ_CERT (R393): Mizzen places words of its identity key and certificate in MZW_DATA. -/
  | readCert (t : Nat)
  /-- TIME_HINT (R393): Mizzen attaches a network time to later records. -/
  | timeHint (t : Nat)
  /-- MZW_COMMAND_REFUSED (R393): An unknown or malformed command is refused, raising E57, or refused with BUSY when the queue is full. -/
  | mzwCommandRefused (k : MzRefusal) (t : Nat)
  /-- MIRROR_FRAME (R395): Every 1 ms a mirror frame updates the MZW registers atomically. -/
  | mirrorFrame (t : Nat)
  /-- MIZZEN_LINK_TIMEOUT (R396): No mirror frame for 10 ms clears LINK and zeroes the mirror registers. -/
  | mizzenLinkTimeout (t : Nat)
  /-- MEASURING_FAULT (R382): A wire, quadrature or rate fault is logged, flagged in the open lot and indicated. -/
  | measuringFault (k : MzFault) (present : Bool) (t : Nat)
  /-- SEAL_CHANGE (R386): MZ_SEAL changes after 20 ms of debounce; breaking the seal counts and is audited. -/
  | sealChange (broken : Bool) (t : Nat)
  /-- INDICATION_LINE (R392): Every IND_PERIOD Mizzen sends the legal indication line. -/
  | indicationLine (t : Nat)
  /-- GRAND_TOTAL_COMMIT (R397): Every 1 s the grand total is committed to non-volatile memory. -/
  | grandTotalCommit (t : Nat)
  /-- ID_REQUEST (R392): The ID? request is answered with the software and parameter identity. -/
  | idRequest
  /-- LOT_REQUEST (R392): The LOT n? request is answered with a signed lot record. -/
  | lotRequest (n : Nat)
  /-- AUD_REQUEST (R392): The AUD n? request is answered with an audit entry. -/
  | audRequest (n : Nat)
  /-- EVT_REQUEST (R392): The EVT n? request is answered with an event-log entry. -/
  | evtRequest (n : Nat)
  /-- SET_PARAMETER (R392): With the seal broken, SET stages one legal parameter. -/
  | setParameter (k : MzParam) (v : Nat)
  /-- COMMIT (R390): With the seal broken, COMMIT applies the staged legal parameters atomically after their audit entry. -/
  | commit (t : Nat)
  /-- FWLOAD (R391): With the seal broken, FWLOAD loads Mizzen firmware and restarts the MZ pair. -/
  | fwload (f : MzFw) (t : Nat)
  /-- MZ_LOCKSTEP_RESTART (R398): An MZ Tell-tale fault restarts the pair, flags the lot and holds FAULT after a third restart. -/
  | mzLockstepRestart (t : Nat)
  /-- BST_FULL_RUN (R408): A controlled full Ratline run starts. -/
  | bstFullRun
  /-- BST_SELECTED_RUN (R408): A controlled run of selected items starts. -/
  | bstSelectedRun (logic : BitVec 13) (arrays : BitVec 64)
  /-- BST_REPAIR (R407): REPAIR programs a memory repair word and sets its W2 bit. -/
  | bstRepair (k : Fin 32) (ok : Bool)
  /-- BST_ABORT (R408): ABORT ends a controlled run at the next item boundary. -/
  | bstAbort
  /-- RATLINE_COMPLETE (R410): A Ratline run ends; at shutdown a passing run writes the certificate and resets the self-test age. -/
  | ratlineComplete (o : RatlineObs)
  /-- RING_OSC_MEASURE (R413): Every 1 s Crow's Nest measures ring-oscillator drift and junction temperatures and accrues equivalent hours. -/
  | ringOscMeasure (drift : List Int) (tMain : Int) (tA : Int) (tB : Int) (t : Nat)
  /-- SLACK_HOURLY (R414): The hourly worst slack below 60 ps steps the SC clock down. -/
  | slackHourly (a : Nat) (b : Nat)
  /-- SLACK_READING_LOW (R414): A hardware slack reading below 30 ps steps the clock down, or raises E60 at 360 MHz. -/
  | slackReadingLow (c : Chan) (ps : Nat)
  /-- FUSE_SWEEP (R416): The daily fuse sweep may shift the OTP sense references by one step. -/
  | fuseSweep (low : Nat) (high : Nat) (words : Nat) (changed : Bool) (t : Nat)
  /-- VERIFY_ADJUST (R415): The daily settle-time check may raise VERIFY by 10 µs. -/
  | verifyAdjust (us : Nat)
  /-- SUMMARY_COPY (R420): Every 24 h the ageing summary is copied to flash. -/
  | summaryCopy (t : Nat)
  /-- HMC_FAULT (R422): An HMC fault is followed by a block reset, and Crow's Nest resumes from the summary. -/
  | hmcFault
  /-- SLEEP_ENTRY (R433): SLEEP_SIG has held for 1 s with every sleep condition met, and the device enters SLEEP. -/
  | sleepEntry (t : Nat)
  /-- WAKE (R435): A wake pair change, a host kick, WAKE_TIME or a fault wakes the device and resumes it in order. -/
  | wake (w : WakeCause) (t : Nat)
  /-- CRYSTAL_RESTART (R20): The stopped 32.768 kHz crystal runs again; X32_RUN is set and the AON domain returns to counting from it instead of channel A's reference. -/
  | crystalRestart
  /-- VS_RELEASE (R424): VS_A or VS_B rises above 17.0 V; its I/O die leaves reset and holds every switch open until its channel's first valid command frame. -/
  | vsRelease (c : Chan)
  /-- VMZ_RESET (R423): VMZ falls below 2.7 V; the Mizzen die enters reset, stops measuring and discards any staged parameter set. -/
  | vmzReset (t : Nat)
  /-- VMZ_RELEASE (R397): VMZ rises above 2.9 V; Mizzen starts, closes the lot flagged POWER and resumes counting and mirror frames. -/
  | vmzRelease (t : Nat)
  /-- MEASURING_WHEEL_EDGE (R381): An edge on MW_A or MW_B is decoded and adds new material to the grand total and open lot, or adds reverse length. -/
  | measuringWheelEdge (a : Bool) (b : Bool) (t : Nat)
  /-- ENCODER_EDGE (R48): A count change on an encoder interface is decoded by both channels' decoders and stamped with the 200 MHz clock. -/
  | encoderEdge (n : Fin 4) (a : EncObs) (b : EncObs)
  /-- REC_CLK_EDGE (R269): After each falling edge of REC_CLK the device presents the next FIFO byte on REC_D with REC_VALID, or 0x00 with REC_VALID low. -/
  | recClkEdge
  /-- JUNCTION_OVERTEMPERATURE (R184): A die temperature sensor reads above 125 °C or 135 °C, and E62 is latched as Class 0 or Class 3. -/
  | junctionOvertemperature (die : Fin 3) (temp : Int)
  /-- SEC_INTERNAL_FAULT (R184): An internal fault of SEC raises E15, Class 3, which fires the device-fatal kill line. -/
  | secInternalFault
  /-- JTAG_LIFECYCLE_REQUEST (R353): A Phithen test request over JTAG moves the device from BLANK to MANUFACTURE, drawing the DRK, or from MANUFACTURE to PROVISIONED when groups 1, 4 and 6 are locked. -/
  | jtagLifecycleRequest (ok : Bool)
  /-- SWITCH_FRAME_FORWARD (R224): A frame arriving on external port P1 or P2 is forwarded store-and-forward to the other port, with broadcasts limited to 1,000 frames/s. -/
  | switchFrameForward (n : Net) (f : SwitchFrame) (t : Nat)
  deriving DecidableEq, Repr

end Sys2Proof
end

