-- ==== Sys2Proof/Decode.lean ====
section
/-! DEFINITION. The decoder of command words. The rows of spec/opcode_table.json give no bits: a command is a register access, a frame, an event on a pin or at a time, and no word spells one. -/

namespace Sys2Proof

/-- The command that a word of the table spells: none, since no row of the table gives bits. -/
def decodeTableWord (nbits w : Nat) : Option Instr :=
  match nbits, w with
  | _, _ => none

end Sys2Proof
end

