-- ==== Sys2Proof/Machine/Crc.lean ====
section
/-! DEFINITION. The four check-value algorithms of R347, bit by bit, over lists of byte values. -/

namespace Sys2Proof.Machine

/-- One bit of a reflected CRC of width `n` (register shifted right, polynomial reflected). -/
def crcRBit {n : Nat} (poly : BitVec n) (r : BitVec n) : BitVec n :=
  if r.getLsbD 0 then (r >>> 1) ^^^ poly else r >>> 1

/-- One bit of an unreflected CRC of width `n`. -/
def crcLBit {n : Nat} (poly : BitVec n) (r : BitVec n) : BitVec n :=
  if r.getLsbD (n - 1) then (r <<< 1) ^^^ poly else r <<< 1

/-- Eight bits in turn. -/
def crcEight {n : Nat} (f : BitVec n → BitVec n) (r : BitVec n) : BitVec n := f (f (f (f (f (f (f (f r)))))))

def crcRByte {n : Nat} (poly : BitVec n) (r : BitVec n) (b : Nat) : BitVec n :=
  crcEight (crcRBit poly) (r ^^^ BitVec.ofNat n (b % 256))

def crcLByte {n : Nat} (poly : BitVec n) (r : BitVec n) (b : Nat) : BitVec n :=
  crcEight (crcLBit poly) (r ^^^ (BitVec.ofNat n (b % 256) <<< (n - 8)))

/-- CRC-32: polynomial 0x04C1_1DB7, reflected. -/
def crc32 (bytes : List Nat) : Nat := (bytes.foldl (crcRByte (0xEDB88320#32)) 0xFFFFFFFF#32 ^^^ 0xFFFFFFFF#32).toNat

/-- CRC-32C: polynomial 0x1EDC_6F41, reflected. -/
def crc32c (bytes : List Nat) : Nat := (bytes.foldl (crcRByte (0x82F63B78#32)) 0xFFFFFFFF#32 ^^^ 0xFFFFFFFF#32).toNat

/-- CRC-16/CCITT: polynomial 0x1021, initial 0xFFFF. -/
def crc16 (bytes : List Nat) : Nat := (bytes.foldl (crcLByte (0x1021#16)) 0xFFFF#16).toNat

/-- CRC-64/ECMA-182. -/
def crc64 (bytes : List Nat) : Nat := (bytes.foldl (crcLByte (0x42F0E1EBA9EA3693#64)) 0#64).toNat

/-- The four bytes of a word, least significant first (R73, R100, R168). -/
def wordBytes (w : Nat) : List Nat := [w % 256, w / 256 % 256, w / 65536 % 256, w / 16777216 % 256]

/-- The two bytes of a 16-bit entry, high byte first (R269). -/
def entryBytes (e : Nat) : List Nat := [e / 256 % 256, e % 256]

/-- CRC-32C over words taken least significant byte first. -/
def crc32cWords (ws : List Nat) : Nat := crc32c (ws.flatMap wordBytes)

/-- The four 16-bit entries of a 64-bit value, high entry first (R270). -/
def entries64 (v : Nat) : List Nat := [v / 2 ^ 48 % 65536, v / 2 ^ 32 % 65536, v / 2 ^ 16 % 65536, v % 65536]

end Sys2Proof.Machine
end

