-- ==== Sys2Proof/Config.lean ====
section
/-! DEFINITION. What an implementation fixes and the spec leaves open: free values. Each is an opaque constant, so nothing can be proved of its value. -/

namespace Sys2Proof.Machine

/-- A free value of `n` states: `Config.free k` is the k-th draw; a meaning reads it at State.freeCount and advances the counter. -/
opaque Config.free : Nat → Nat

/-- R428: whether a RESET_N pulse of this many ns, from 200 ns to 1 µs, resets the device. -/
opaque Config.resetPulse : Nat → Bool

/-- A byte of the SEC ROM (R31), by offset: the spec does not give its contents. -/
opaque Config.romByte : Nat → BitVec 8

/-- First and last address of the event-log area in shared SRAM (R295, R367): the spec does not place it. -/
opaque Config.eventLogBase : Nat

opaque Config.eventLogLimit : Nat

/-- The 8-bit SECDED check code of a 64-bit fuse word (R371): the spec does not give the code. -/
opaque Config.otpCheck : Nat → Nat

/-- The identity public key (R356, R369), by the fuses of the device root key and the word: key derivation is not computed in the model. -/
opaque Config.identityKey : Nat → Nat → Nat

/-- The device certificate (R369), by the fuses of the device root key and the word. -/
opaque Config.deviceCert : Nat → Nat → Nat

/-- Word `n` of what READ_LOT, READ_AUDIT and READ_EVENT put into MZW_DATA (R393): the spec does not give the layout. Arguments: command code, the contents, the word. -/
opaque Config.mzWord : Nat → List Nat → Nat → Nat

/-- A word of the Mizzen identity key and its certificate (R393), by word index and word. -/
opaque Config.mzCert : Nat → Nat → Nat

/-- The characters of the status field of the legal indication (R392), by its status bits; only F of R398 is given. -/
opaque Config.mzStatus : Nat → List Nat

/-- CRC-32 over the legal parameters (R389): the layout of the set is not given. -/
opaque Config.mzParamCrc : List Nat → Nat

/-- Byte offset of a failing record within its section (LGE_IMG_RECORD): the layout of a section's records is not given. Arguments: section type, error code, index of the record. -/
opaque Config.recordOffset : Nat → Nat → Nat → Nat

/-- The direction in which a quotient is rounded where the spec gives a unit and no rounding: `true` takes the next whole number above the exact quotient of the two numbers. -/
opaque Config.roundUp : Int → Int → Bool

end Sys2Proof.Machine
end

