-- ==== Sys2Proof/Machine/Parts.lean ====
section
/-! DEFINITION. The internal state of the safety path beside the registers: fault collectors, I/O dies, safe inputs, output tests, the logic graph, stops, lockstep pairs and Stay. Each is plain data; every field's reset value is its default here. -/

namespace Sys2Proof.Machine

/-- One latched line of a collector, with its charge (R185, R186). -/
structure Latch where
  line : Nat
  cls : Nat
  chg : Charge
  elem : Elem
  deriving DecidableEq, Repr

/-- One fault collector beside its registers. -/
structure FcSt where
  /-- what the status word's bits stand for -/
  latches : List Latch := []
  /-- latched since the last input agreement, to be sent in the next INPUT frame (R186) -/
  fresh : List Latch := []
  /-- sent in this cycle's INPUT frame (R186) -/
  sent : List Latch := []
  /-- what both collectors sent in this cycle, to be charged in its evaluation (R186) -/
  received : List Latch := []
  /-- the Class 2 line to the other collector (R220) -/
  cl2Line : Bool := false
  /-- the Class 2 reaction of R194 has stopped this channel's staging -/
  stopped : Bool := false
  /-- consequential windows open, by map index (R190) -/
  windows : List Nat := []
  /-- lines masked in an open window, to be looked at when it ends (R191) -/
  masked : List FaultEv := []
  /-- the next input the test event of R189 goes to -/
  testLine : Nat := 0
  deriving DecidableEq, Repr

/-- The hardware Furl timer of a die (R166, R167). -/
structure FurlSt where
  armed : Bool := false
  expired : Bool := false
  /-- time (ns) at which it was armed -/
  start : Nat := 0
  deriving DecidableEq, Repr

/-- One I/O die: its commands, switches and kill paths (R24, R27, R109). Bit n of a 16-bit mask is SOn; bit k of a 4-bit mask is LSk (die B only). -/
structure Die where
  /-- VS above its release threshold (R424) -/
  powered : Bool := false
  /-- a valid command frame has arrived since the die left reset (R424) -/
  stream : Bool := false
  /-- the die has once reached SAFE_READY (R426) -/
  wasReady : Bool := false
  /-- its channel has reached SAFE_READY since its last channel reset (R199) -/
  ready : Bool := false
  cmd : BitVec 16 := 0
  lsCmd : BitVec 4 := 0
  /-- the last command applied, with on-commands that wait for a test (R118) -/
  want : BitVec 16 := 0
  /-- arrival (ns) of the last valid command frame (R24) -/
  lastCmd : Nat := 0
  /-- staged by the channel for the next boundary -/
  staged : Option (BitVec 16 × BitVec 4) := none
  /-- switches held open by the command watchdog (R24) -/
  heldWd : BitVec 16 := 0
  /-- by fast-kill (R97, R28) -/
  heldFk : BitVec 16 := 0
  /-- by the Furl timer or the envelope line (R165) -/
  heldFurl : BitVec 16 := 0
  /-- by the device-fatal line (R30) -/
  heldFatal : BitVec 16 := 0
  /-- by supply undervoltage (R426) -/
  heldUv : BitVec 16 := 0
  /-- low-side returns held open by a kill path -/
  lsHeld : BitVec 4 := 0
  /-- opened by the current limit and still latched (R105) -/
  limitOpen : BitVec 16 := 0
  lsLimitOpen : BitVec 4 := 0
  /-- fast-kill pairs that have fired and not left demand on this die -/
  fkFired : BitVec 24 := 0
  /-- fast-killed switches that have since had an opening command at a boundary (R28) -/
  fkOpened : BitVec 16 := 0
  /-- ... and after that a closing command (R28) -/
  fkCycled : BitVec 16 := 0
  /-- blanked fast-kill pins (R98) -/
  blank : BitVec 48 := 0
  furl : FurlSt := {}
  /-- holding its STO and brake switches on hold frames (R177) -/
  holding : Bool := false
  /-- what the die holds: the 24 pair words of R100 and the three words of R168 -/
  fkWords : List Nat := []
  furlWords : List Nat := []
  deriving DecidableEq, Repr

/-- The filtered samples of the two dies: as each IOS holds them, as agreed through Stay at the last boundary. Bit n is SIn; 1 = high. -/
structure InSt where
  filt : Two (BitVec 48) := ⟨0, 0⟩
  /-- as latched by each IOS at the boundary and sent (R95) -/
  latched : Two (BitVec 48) := ⟨0, 0⟩
  agreed : Two (BitVec 48) := ⟨0, 0⟩
  /-- the other die's samples have arrived in the cycle (R95), as seen by channel A and by channel B -/
  got : Two Bool := ⟨false, false⟩
  deriving DecidableEq, Repr

/-- A pair's discrepancy and release bookkeeping. -/
structure PairSt where
  /-- guard cycles the discrepancy timer has run; 0 = stopped -/
  disc : Nat := 0
  /-- R86: the pair has shown demand on all four samples since the fault -/
  allDemand : Bool := false
  /-- R86: boundaries since the first pin returned to released -/
  back : Nat := 0
  /-- pins still owing a passing pulse after the reset of an E25 or E27 (R94) -/
  owesX : Bool := false
  owesY : Bool := false
  /-- held in demand through another pair's cross-circuit (R92) -/
  heldCross : Bool := false
  deriving DecidableEq, Repr

/-- A test-pulse source (R88). -/
structure SrcSt where
  pulsed : Bool := false
  lastStart : Nat := 0
  due : Bool := false
  /-- the pulse was granted after INTERVAL had expired -/
  late : Bool := false
  /-- the pulse now running was judged a source fault (first row of R89) -/
  badPulse : Bool := false
  deriving DecidableEq, Repr

inductive PulsePhase where
  | idle
  | announce
  | pulse
  | settle
  deriving DecidableEq, Repr

/-- The pulse token of R88 and the pulse it stands at. -/
structure PulseSt where
  phase : PulsePhase := .idle
  src : Nat := 0
  /-- confirmed by channel A and by channel B -/
  confirmed : Two Bool := ⟨false, false⟩
  /-- pins high on both comparators before the announcement (R89) -/
  judged : BitVec 48 := 0
  /-- own pins that were low in the last 50 µs on both dies, waiting to be seen high again -/
  wasLow : BitVec 48 := 0
  deriving DecidableEq, Repr

inductive TestPhase where
  | idle
  | announce
  | test
  | verify
  deriving DecidableEq, Repr

/-- The output token of R115 and the test slot it stands at. `unit` is an output, or an LSk for the LS tests. -/
structure SlotSt where
  phase : TestPhase := .idle
  kind : TestKind := .offA
  unit : Nat := 0
  confirmed : Two Bool := ⟨false, false⟩
  /-- the test phase ended with a passing verdict -/
  passed : Bool := false
  /-- an on-command waits for the end of the test phase (R118) -/
  onWaits : Bool := false
  deriving DecidableEq, Repr

/-- One test of one switch: key 2·n for the A-switch of SOn, 2·n + 1 for its B-switch, 32 + k for LSk. -/
structure TestSt where
  lastDone : Nat := 0
  due : Bool := false
  deriving DecidableEq, Repr

/-- Readback bookkeeping of one output. -/
structure OutSt where
  /-- last command change or test end (ns); R108 judges from 150 µs later -/
  changed : Nat := 0
  /-- Midpoint A, Midpoint B and the LS midpoint owed before the next switch-on (R119, R121) -/
  owesMidA : Bool := false
  owesMidB : Bool := false
  /-- held off while the dies' comparators differ (R110) -/
  disagree : Bool := false
  deriving DecidableEq, Repr

/-- Output-side state shared by both channels after agreement. -/
structure OutsSt where
  outs : Tab OutSt := []
  lsOwes : BitVec 4 := 0
  tests : Tab TestSt := []
  slot : SlotSt := {}
  /-- times (ns) of attributions under E32 or E33 on each die (R120), and of stuck comparators (R91) -/
  attr : Two (List (Nat × Nat)) := ⟨[], []⟩
  stuck : Two (List (Nat × Nat)) := ⟨[], []⟩
  /-- level last reported by each die's M, O comparators and D of each LSk -/
  readM : Two (BitVec 16) := ⟨0, 0⟩
  readO : Two (BitVec 16) := ⟨0, 0⟩
  deriving DecidableEq, Repr

/-- The internal state of one instance. Every block uses the fields its own rule needs. -/
structure InstSt where
  /-- latched output or Q -/
  q : Bool := false
  /-- previous value of the block's edge input -/
  prev : Bool := false
  /-- a second latch: muting phase, enabling needs demand, locking commanded -/
  flag : Bool := false
  /-- a third latch: the sequence of a muting is spent, lock time running -/
  flag2 : Bool := false
  /-- running counts in guard cycles -/
  k : Nat := 0
  k2 : Nat := 0
  k3 : Nat := 0
  /-- LAST's value, or SLS's latched speed -/
  v : Int := 0
  deriving DecidableEq, Repr

/-- A Class 1 fault latched in a safety function (R129, R195): its line, its element, and the evaluation number at which it was latched. -/
structure SfFault where
  sf : Nat
  line : Nat
  elem : Elem
  at_ : Nat
  deriving DecidableEq, Repr

/-- A press on a reset signal, measured in whole guard cycles (R195). -/
structure PressSt where
  prev : Bool := false
  pressing : Bool := false
  /-- evaluation at which the press began -/
  since : Nat := 0
  deriving DecidableEq, Repr

/-- One channel's copy of the logic graph's running state. -/
structure GraphSt where
  /-- values of the signals at the end of the last evaluation; LGE_SIG_n shows them -/
  sigs : Tab Int := []
  insts : Tab InstSt := []
  sfFaults : List SfFault := []
  /-- press state by reset signal -/
  presses : Tab PressSt := []
  /-- evaluations since the last channel reset -/
  evals : Nat := 0
  /-- commands formed by the evaluation: outputs, low-side returns -/
  outCmd : BitVec 16 := 0
  lsCmd : BitVec 4 := 0
  /-- the result vector has been delivered (R23) -/
  delivered : Bool := false
  /-- the other channel's vector agreed in this cycle (R22, R133) -/
  agreed : Bool := false
  /-- this cycle's staging is forbidden (R22) -/
  noStage : Bool := false
  /-- line and safety function of the block faults whose condition the last evaluation saw -/
  present : List (Nat × Nat) := []
  /-- inputs frozen at the coordinate snapshot, by signal (R21, R127) -/
  ins : Tab Int := []
  /-- SDI lags frozen at the snapshot, by instance: the larger of both channels (R172) -/
  lags : Tab Nat := []
  /-- transmit words of the last evaluation, by session (R234), and groups that LLTX publishes stop in (R266) -/
  tx : Tab TxWords := []
  lltx : Nat := 0
  /-- SDI instances whose EN is 1, with DIR (R172) -/
  sdiOn : List (Nat × Bool) := []
  /-- REEF's and SBC's commands of the last evaluation -/
  stoOn : Bool := false
  brakeOn : Bool := false
  deriving DecidableEq, Repr

/-- How a stop is to start or end at the next boundary. -/
inductive StopReq where
  | none
  | reef (cause : Nat)
  /-- with its START_CAUSE and the END_CAUSE it will have -/
  | furl (cause endCause : Nat)
  deriving DecidableEq, Repr

/-- One channel's stop (R160 to R167). Positions are unwrapped, in units of 2⁻¹⁶ st. -/
structure StopSt where
  running : Bool := false
  /-- waits for the first update at or after the boundary (t0 of R160) -/
  atT0 : Bool := false
  t0 : Nat := 0
  p0 : Int := 0
  v0 : Nat := 0
  /-- +1, −1, or 0 while DIR reads "not yet moved" -/
  s0 : Int := 0
  limit : Int := 0
  /-- consecutive updates at or below V_END (R164) -/
  slow : Nat := 0
  complete : Bool := false
  /-- start requested for the next boundary -/
  req : StopReq := .none
  /-- the graph Furls at the next boundary with this END_CAUSE -/
  furlNext : Option Nat := none
  /-- completed; STO outputs open T_OVERLAP later (R169); since when, and whether T_OVERLAP has passed -/
  overlap : Bool := false
  overlapAt : Nat := 0
  overlapDone : Bool := false
  /-- number of the stop (R175) -/
  number : Nat := 0
  /-- guard cycles REEF's Q has been 1 (R169) -/
  qCycles : Nat := 0
  /-- ARMED under R265 -/
  armed : Bool := false
  /-- a surviving-channel Reef is to start at the next boundary (R176) -/
  survivorNext : Bool := false
  deriving DecidableEq, Repr

/-- One channel's end of Stay and its lockstep pair beside the registers. -/
structure StaySt where
  /-- ALIGN frames received in training (R223) -/
  aligns : Nat := 0
  /-- the other channel's start verdicts have arrived (R223) -/
  verdicts : Bool := false
  /-- the frame being repeated after a first failure (R217), by lane: cycle, AE -/
  repeatCyc : Bool := false
  repeatAe : Bool := false
  /-- consecutive updates without a COORD frame (R219) -/
  coordMissing : Nat := 0
  coordGot : Bool := false
  /-- consecutive ticks with a skew above 1 µs (R218) -/
  skewTicks : Nat := 0
  /-- the attribution window of R221 is open -/
  attrOpen : Bool := false
  /-- offset by which channel B moves its next tick, ns (R218) -/
  tickMove : Int := 0
  /-- checker decoupled by debug (R213) -/
  decoupled : Bool := false
  /-- bit the next forced mismatch inverts (R208) -/
  nextBit : Nat := 0
  deriving DecidableEq, Repr

end Sys2Proof.Machine
end

