-- ==== Sys2Proof/Machine/PartsAdc.lean ====
section
/-! DEFINITION. The internal state of one converter (12_adc.md) beside its registers. -/

namespace Sys2Proof.Machine

/-- The conversion in progress. In a burst or an injection, `disc` conversions are discarded first (R316). -/
inductive AdcRun where
  | idle
  /-- calibration step 0 to 36 (R325) -/
  | cal (step : Nat)
  /-- conversion `rep` of the burst of slot `k` (R313) -/
  | slot (k rep disc : Nat)
  /-- conversion `rep` of a monitor burst for a device context (R315) -/
  | mon (ctx rep disc : Nat)
  /-- an injected conversion, `left` settling conversions before its sample (R314) -/
  | inj (ctx left : Nat)
  deriving DecidableEq, Repr

/-- One context: its partial set, its last result's times, its statistics. -/
structure CtxSt where
  sum : Nat := 0
  n : Nat := 0
  /-- time (ns) of the first sample of the set -/
  first : Nat := 0
  /-- completion of the latest result and span of its set, ns -/
  doneAt : Nat := 0
  span : Nat := 0
  /-- statistics of R319 -/
  total : Nat := 0
  count : Nat := 0
  lo : Nat := 0xFFFF
  hi : Nat := 0
  sat : Bool := false
  deriving DecidableEq, Repr

/-- One converter. -/
structure AdcSt where
  run : AdcRun := .idle
  /-- input and gain code of the preceding conversion; none after a reset or a wake (R316) -/
  last : Option (Nat × Nat) := none
  /-- contexts of the waiting triggers, first in first out, at most 4 (R314) -/
  queue : List Nat := []
  /-- start of the last injected sample, ns -/
  lastInj : Option Nat := none
  /-- next regular slot -/
  next : Nat := 0
  /-- a monitor burst waits for the gap between two slots; next device context -/
  monDue : Bool := false
  monNext : Nat := 56
  calDue : Bool := false
  /-- a calibration was suspended and waits for a round (R326) -/
  suspended : Bool := false
  roundDone : Bool := false
  /-- consecutive restarts -/
  restarts : Nat := 0
  m1 : Nat := 0
  m2 : Nat := 0
  /-- completion of the last calibration, ns -/
  calAt : Nat := 0
  /-- consecutive results of the reference context out of tolerance (R327) -/
  refBad : Nat := 0
  ctxs : Tab CtxSt := []
  /-- window interrupts raised to the channel's SC and to APP (R321) -/
  winIrqs : Nat := 0
  deriving DecidableEq, Repr

end Sys2Proof.Machine
end

