-- ==== Sys2Proof/Machine/PartsTim.lean ====
section
/-! DEFINITION. The internal state of the timer blocks and check-value units (13_timers_and_crc.md) beside their registers, and the answer of a register access. -/

namespace Sys2Proof.Machine

/-- One timer block of R333: TIM_A, TIM_B, TIM_P. -/
structure TimSt where
  /-- time (ns) up to which the kernel clock has been counted; less than 10 ns is carried -/
  last : Nat := 0
  /-- prescaler cycles counted towards the next tick, by timer -/
  phase : Tab Nat := []
  /-- furthest forward position (whole steps) since the timer was enabled, by timer (R335) -/
  furthest : Tab Int := []
  /-- interrupts raised to the channel's SC, or to APP (R339) -/
  irqs : Nat := 0
  /-- levels last seen at the TMIO pins -/
  pins : BitVec 4 := 0
  deriving DecidableEq, Repr

/-- One check-value unit of R346. -/
structure CrcSt where
  /-- alive value of the running scan -/
  alive : Nat := 0
  /-- bits 63:32 of the last completed result, and its alive value, until a read latches them (R350) -/
  hi : Nat := 0
  last : Nat := 0
  irqs : Nat := 0
  deriving DecidableEq, Repr

/-- How a register access ends at its initiator: data read, a completed write, a bus error (R7, R31, R33, R39). -/
inductive BusAns where
  | idle
  | data (w : Nat)
  | done
  | error
  deriving DecidableEq, Repr

end Sys2Proof.Machine
end

