-- ==== Sys2Proof/Machine/RegsA.lean ====
section
/-! DEFINITION. The register fields of SYS, FC, PWR, CLK, LKS and STY, one definition a field, and their descriptors, as the register tables of the owning chapters of spec/ give them (block, offset, stride, bits, access code of R8, retention class of R9). -/

namespace Sys2Proof.Machine


/-! SYS_ID: block SYS, offset 0x000 (01_architecture.md). -/
def SYS_ID_PART : Fld := ⟨.sys, 0x0, 0, 31, 16, .ro, .p, 0x48160100⟩
def SYS_ID_STEPPING : Fld := ⟨.sys, 0x0, 0, 15, 8, .ro, .p, 0x48160100⟩
def SYS_ID_VARIANT : Fld := ⟨.sys, 0x0, 0, 7, 0, .ro, .p, 0x48160100⟩

/-! SYS_STATE: block SYS, offset 0x004 (01_architecture.md). -/
def SYS_STATE_SC_CLK_STEP : Fld := ⟨.sys, 0x4, 0, 5, 4, .ro, .a, 0x0⟩
def SYS_STATE_DEV_STATE : Fld := ⟨.sys, 0x4, 0, 3, 0, .ro, .v, 0x0⟩

/-! SYS_GCYCLE: block SYS, offset 0x008 (01_architecture.md). -/
def SYS_GCYCLE_TG_SEL : Fld := ⟨.sys, 0x8, 0, 1, 0, .ro, .c, 0x1⟩

/-! SYS_GCOUNT: block SYS, offset 0x00C (01_architecture.md). -/
def SYS_GCOUNT_COUNT : Fld := ⟨.sys, 0xc, 0, 31, 0, .ro, .v, 0x0⟩

/-! SYS_EVAL: block SYS, offset 0x010 (01_architecture.md). -/
def SYS_EVAL_EVAL_MAX_B : Fld := ⟨.sys, 0x10, 0, 25, 16, .ro, .v, 0x0⟩
def SYS_EVAL_EVAL_MAX_A : Fld := ⟨.sys, 0x10, 0, 9, 0, .ro, .v, 0x0⟩

/-! FC_STATUS_LO: block FC, offset 0x000 (07_faults_and_reactions.md). -/
def FC_STATUS_LO_LINES : Fld := ⟨.fc, 0x0, 0, 31, 0, .ro, .w, 0x0⟩

/-! FC_STATUS_HI: block FC, offset 0x004 (07_faults_and_reactions.md). -/
def FC_STATUS_HI_LINES : Fld := ⟨.fc, 0x4, 0, 31, 0, .ro, .w, 0x0⟩

/-! FC_FIRST: block FC, offset 0x010 (07_faults_and_reactions.md). -/
def FC_FIRST_VALID : Fld := ⟨.fc, 0x10, 0, 31, 31, .ro, .w, 0x0⟩
def FC_FIRST_MULTI : Fld := ⟨.fc, 0x10, 0, 30, 30, .ro, .w, 0x0⟩
def FC_FIRST_CLASS : Fld := ⟨.fc, 0x10, 0, 29, 28, .ro, .w, 0x0⟩
def FC_FIRST_LINE : Fld := ⟨.fc, 0x10, 0, 5, 0, .ro, .w, 0x0⟩

/-! FC_FIRST_GCOUNT: block FC, offset 0x014 (07_faults_and_reactions.md). -/
def FC_FIRST_GCOUNT_COUNT : Fld := ⟨.fc, 0x14, 0, 31, 0, .ro, .w, 0x0⟩

/-! FC_FIRST_STAMP: block FC, offset 0x018 (07_faults_and_reactions.md). -/
def FC_FIRST_STAMP_UPDATE : Fld := ⟨.fc, 0x18, 0, 31, 0, .ro, .w, 0x0⟩

/-! FC_CONSEQ_LO: block FC, offset 0x020 (07_faults_and_reactions.md). -/
def FC_CONSEQ_LO_LINES : Fld := ⟨.fc, 0x20, 0, 31, 0, .w1c, .v, 0x0⟩

/-! FC_CONSEQ_COUNT: block FC, offset 0x028 (07_faults_and_reactions.md). -/
def FC_CONSEQ_COUNT_COUNT : Fld := ⟨.fc, 0x28, 0, 15, 0, .rc, .v, 0x0⟩

/-! FC_FLT_CFG: block FC, offset 0x030 (07_faults_and_reactions.md). -/
def FC_FLT_CFG_PIN_READ : Fld := ⟨.fc, 0x30, 0, 9, 9, .ro, .v, 0x2⟩
def FC_FLT_CFG_PIN_CMD : Fld := ⟨.fc, 0x30, 0, 8, 8, .ro, .v, 0x2⟩
def FC_FLT_CFG_LEVEL : Fld := ⟨.fc, 0x30, 0, 1, 0, .rws, .c, 0x2⟩

/-! FC_LOCKOUT: block FC, offset 0x034 (07_faults_and_reactions.md). -/
def FC_LOCKOUT_L3_PEND : Fld := ⟨.fc, 0x34, 0, 3, 3, .ro, .a, 0x0⟩
def FC_LOCKOUT_CL2 : Fld := ⟨.fc, 0x34, 0, 2, 2, .ro, .w, 0x0⟩
def FC_LOCKOUT_CL1 : Fld := ⟨.fc, 0x34, 0, 1, 1, .ro, .v, 0x0⟩

/-! FC_SELFTEST: block FC, offset 0x040 (07_faults_and_reactions.md). -/
def FC_SELFTEST_OVERDUE : Fld := ⟨.fc, 0x40, 0, 17, 17, .ro, .a, 0x0⟩
def FC_SELFTEST_WARN : Fld := ⟨.fc, 0x40, 0, 16, 16, .ro, .a, 0x0⟩
def FC_SELFTEST_AGE_H : Fld := ⟨.fc, 0x40, 0, 15, 0, .ro, .a, 0x0⟩

/-! FC_REC_PTR: block FC, offset 0x050 (07_faults_and_reactions.md). -/
def FC_REC_PTR_OVERRUN : Fld := ⟨.fc, 0x50, 0, 16, 16, .ro, .w, 0x0⟩
def FC_REC_PTR_NEXT : Fld := ⟨.fc, 0x50, 0, 11, 8, .ro, .w, 0x0⟩
def FC_REC_PTR_UNREAD : Fld := ⟨.fc, 0x50, 0, 4, 0, .ro, .w, 0x0⟩

/-! FC_REC_ACK: block FC, offset 0x054 (07_faults_and_reactions.md). -/
def FC_REC_ACK_COUNT : Fld := ⟨.fc, 0x54, 0, 4, 0, .wo, .v, 0x0⟩

/-! FC_REC_n_W0: block FC, offset 0x100 + 0x10·n (07_faults_and_reactions.md). -/
def FC_REC_n_W0_VALID : Fld := ⟨.fc, 0x100, 16, 31, 31, .ro, .w, 0x0⟩
def FC_REC_n_W0_CLASS : Fld := ⟨.fc, 0x100, 16, 29, 28, .ro, .w, 0x0⟩
def FC_REC_n_W0_CHANNEL : Fld := ⟨.fc, 0x100, 16, 27, 26, .ro, .w, 0x0⟩
def FC_REC_n_W0_SF : Fld := ⟨.fc, 0x100, 16, 23, 16, .ro, .w, 0x0⟩
def FC_REC_n_W0_LINE : Fld := ⟨.fc, 0x100, 16, 5, 0, .ro, .w, 0x0⟩

/-! FC_REC_n_W1: block FC, offset 0x104 + 0x10·n (07_faults_and_reactions.md). -/
def FC_REC_n_W1_DETAIL : Fld := ⟨.fc, 0x104, 16, 31, 0, .ro, .w, 0x0⟩

/-! FC_REC_n_W2: block FC, offset 0x108 + 0x10·n (07_faults_and_reactions.md). -/
def FC_REC_n_W2_GCOUNT : Fld := ⟨.fc, 0x108, 16, 31, 0, .ro, .w, 0x0⟩

/-! FC_REC_n_W3: block FC, offset 0x10C + 0x10·n (07_faults_and_reactions.md). -/
def FC_REC_n_W3_UPDATE : Fld := ⟨.fc, 0x10c, 16, 31, 0, .ro, .w, 0x0⟩

/-! FC_CMAP_n_LO: block FC, offset 0x200 + 8·n (07_faults_and_reactions.md). -/
def FC_CMAP_n_LO_MASK : Fld := ⟨.fc, 0x200, 8, 31, 0, .ro, .p, 0x0⟩

/-! FC_CMAP_n_HI: block FC, offset 0x204 + 8·n (07_faults_and_reactions.md). -/
def FC_CMAP_n_HI_MASK : Fld := ⟨.fc, 0x204, 8, 31, 0, .ro, .p, 0x0⟩

/-! FC_OTHER_LO: block FC, offset 0x008 (07_faults_and_reactions.md). -/
def FC_OTHER_LO_LINES : Fld := ⟨.fc, 0x8, 0, 31, 0, .ro, .v, 0x0⟩

/-! FC_OTHER_HI: block FC, offset 0x00C (07_faults_and_reactions.md). -/
def FC_OTHER_HI_LINES : Fld := ⟨.fc, 0xc, 0, 31, 0, .ro, .v, 0x0⟩

/-! FC_CONSEQ_HI: block FC, offset 0x024 (07_faults_and_reactions.md). -/
def FC_CONSEQ_HI_LINES : Fld := ⟨.fc, 0x24, 0, 31, 0, .w1c, .v, 0x0⟩

/-! LKS_STATUS: block LKS, offset 0x000 (08_redundant_execution.md). -/
def LKS_STATUS_DBG_ATTACHED : Fld := ⟨.lks, 0x0, 0, 11, 11, .ro, .v, 0x0⟩
def LKS_STATUS_DBG_UNCHECKED : Fld := ⟨.lks, 0x0, 0, 10, 10, .ro, .v, 0x0⟩
def LKS_STATUS_ASYNC : Fld := ⟨.lks, 0x0, 0, 7, 7, .ro, .v, 0x0⟩
def LKS_STATUS_SWEEP : Fld := ⟨.lks, 0x0, 0, 6, 6, .ro, .v, 0x0⟩
def LKS_STATUS_FORCE_FAIL : Fld := ⟨.lks, 0x0, 0, 5, 5, .ro, .v, 0x0⟩
def LKS_STATUS_TT_DIS : Fld := ⟨.lks, 0x0, 0, 4, 4, .ro, .v, 0x0⟩
def LKS_STATUS_TT_SIDE : Fld := ⟨.lks, 0x0, 0, 3, 2, .ro, .v, 0x0⟩
def LKS_STATUS_MISMATCH : Fld := ⟨.lks, 0x0, 0, 0, 0, .ro, .v, 0x0⟩

/-! LKS_DELAY: block LKS, offset 0x004 (08_redundant_execution.md). -/
def LKS_DELAY_OUT_DLY : Fld := ⟨.lks, 0x4, 0, 7, 4, .ro, .p, 0x22⟩
def LKS_DELAY_IN_DLY : Fld := ⟨.lks, 0x4, 0, 3, 0, .ro, .p, 0x22⟩

/-! LKS_MM_INFO: block LKS, offset 0x008 (08_redundant_execution.md). -/
def LKS_MM_INFO_TT1_GROUPS : Fld := ⟨.lks, 0x8, 0, 15, 8, .ro, .v, 0x0⟩
def LKS_MM_INFO_TT0_GROUPS : Fld := ⟨.lks, 0x8, 0, 7, 0, .ro, .v, 0x0⟩

/-! LKS_FORCE: block LKS, offset 0x00C (08_redundant_execution.md). -/
def LKS_FORCE_PASSES : Fld := ⟨.lks, 0xc, 0, 31, 16, .ro, .v, 0x0⟩
def LKS_FORCE_LAST_BIT : Fld := ⟨.lks, 0xc, 0, 7, 0, .ro, .v, 0x0⟩

/-! LKS_SWEEP: block LKS, offset 0x010 (08_redundant_execution.md). -/
def LKS_SWEEP_SWEEPS : Fld := ⟨.lks, 0x10, 0, 31, 16, .ro, .v, 0x0⟩
def LKS_SWEEP_AREA : Fld := ⟨.lks, 0x10, 0, 15, 14, .ro, .v, 0x0⟩
def LKS_SWEEP_INDEX : Fld := ⟨.lks, 0x10, 0, 12, 0, .ro, .v, 0x0⟩

/-! LKS_SWEEP_TIME: block LKS, offset 0x014 (08_redundant_execution.md). -/
def LKS_SWEEP_TIME_LAST_US : Fld := ⟨.lks, 0x14, 0, 7, 0, .ro, .v, 0x0⟩

/-! LKS_ASYNC: block LKS, offset 0x018 (08_redundant_execution.md). -/
def LKS_ASYNC_MAX_DIS : Fld := ⟨.lks, 0x18, 0, 15, 8, .ro, .v, 0x0⟩
def LKS_ASYNC_SOURCE : Fld := ⟨.lks, 0x18, 0, 5, 0, .ro, .v, 0x0⟩

/-! LKS_DBG: block LKS, offset 0x01C (08_redundant_execution.md). -/
def LKS_DBG_AE : Fld := ⟨.lks, 0x1c, 0, 2, 2, .ro, .v, 0x0⟩
def LKS_DBG_IOS : Fld := ⟨.lks, 0x1c, 0, 1, 1, .ro, .v, 0x0⟩
def LKS_DBG_SC : Fld := ⟨.lks, 0x1c, 0, 0, 0, .ro, .v, 0x0⟩

/-! STY_STATUS: block STY, offset 0x100 (08_redundant_execution.md). -/
def STY_STATUS_MODE : Fld := ⟨.lks, 0x100, 0, 17, 16, .ro, .v, 0x0⟩
def STY_STATUS_AE_RX_OK : Fld := ⟨.lks, 0x100, 0, 3, 3, .ro, .v, 0x0⟩
def STY_STATUS_AE_TX_OK : Fld := ⟨.lks, 0x100, 0, 2, 2, .ro, .v, 0x0⟩
def STY_STATUS_CYC_RX_OK : Fld := ⟨.lks, 0x100, 0, 1, 1, .ro, .v, 0x0⟩
def STY_STATUS_CYC_TX_OK : Fld := ⟨.lks, 0x100, 0, 0, 0, .ro, .v, 0x0⟩

/-! STY_ERR: block STY, offset 0x104 (08_redundant_execution.md). -/
def STY_ERR_TYPE : Fld := ⟨.lks, 0x104, 0, 23, 16, .ro, .v, 0x0⟩
def STY_ERR_KIND : Fld := ⟨.lks, 0x104, 0, 11, 8, .ro, .v, 0x0⟩
def STY_ERR_ATTR : Fld := ⟨.lks, 0x104, 0, 1, 0, .ro, .v, 0x0⟩

/-! STY_REPEATS: block STY, offset 0x108 (08_redundant_execution.md). -/
def STY_REPEATS_RX : Fld := ⟨.lks, 0x108, 0, 31, 16, .rc, .v, 0x0⟩
def STY_REPEATS_TX : Fld := ⟨.lks, 0x108, 0, 15, 0, .rc, .v, 0x0⟩

/-! STY_SKEW: block STY, offset 0x10C (08_redundant_execution.md). -/
def STY_SKEW_MAX_NS : Fld := ⟨.lks, 0x10c, 0, 31, 16, .ro, .v, 0x0⟩
def STY_SKEW_NOW_NS : Fld := ⟨.lks, 0x10c, 0, 15, 0, .ro, .v, 0x0⟩

/-! STY_SEQ: block STY, offset 0x110 (08_redundant_execution.md). -/
def STY_SEQ_AE_RX : Fld := ⟨.lks, 0x110, 0, 31, 24, .ro, .v, 0x0⟩
def STY_SEQ_AE_TX : Fld := ⟨.lks, 0x110, 0, 23, 16, .ro, .v, 0x0⟩
def STY_SEQ_CYC_RX : Fld := ⟨.lks, 0x110, 0, 15, 8, .ro, .v, 0x0⟩
def STY_SEQ_CYC_TX : Fld := ⟨.lks, 0x110, 0, 7, 0, .ro, .v, 0x0⟩

/-! PWR_STATUS: block PWR, offset 0x000 (17_power_reset_retention.md). -/
def PWR_STATUS_VBAT_LOW : Fld := ⟨.pwr, 0x0, 0, 11, 11, .ro, .v, 0x0⟩
def PWR_STATUS_VS_B_UV : Fld := ⟨.pwr, 0x0, 0, 9, 9, .ro, .v, 0x0⟩
def PWR_STATUS_VS_A_UV : Fld := ⟨.pwr, 0x0, 0, 8, 8, .ro, .v, 0x0⟩
def PWR_STATUS_VS_B_OK : Fld := ⟨.pwr, 0x0, 0, 5, 5, .ro, .v, 0x0⟩
def PWR_STATUS_VS_A_OK : Fld := ⟨.pwr, 0x0, 0, 4, 4, .ro, .v, 0x0⟩
def PWR_STATUS_VDDA_OK : Fld := ⟨.pwr, 0x0, 0, 3, 3, .ro, .v, 0x0⟩
def PWR_STATUS_VDDIO_33_OK : Fld := ⟨.pwr, 0x0, 0, 2, 2, .ro, .v, 0x0⟩
def PWR_STATUS_VDD_18_OK : Fld := ⟨.pwr, 0x0, 0, 1, 1, .ro, .v, 0x0⟩
def PWR_STATUS_VDD_CORE_OK : Fld := ⟨.pwr, 0x0, 0, 0, 0, .ro, .v, 0x0⟩

/-! PWR_FLAGS: block PWR, offset 0x004 (17_power_reset_retention.md). -/
def PWR_FLAGS_AON_CLK_STOP : Fld := ⟨.pwr, 0x4, 0, 1, 1, .ro, .a, 0x3⟩
def PWR_FLAGS_VBAT_DIP : Fld := ⟨.pwr, 0x4, 0, 0, 0, .ro, .a, 0x3⟩

/-! PWR_RESET: block PWR, offset 0x008 (17_power_reset_retention.md). -/
def PWR_RESET_COUNT : Fld := ⟨.pwr, 0x8, 0, 31, 24, .ro, .a, 0x0⟩
def PWR_RESET_LAST_CAUSE : Fld := ⟨.pwr, 0x8, 0, 3, 0, .ro, .a, 0x0⟩

/-! PWR_HIST_n: block PWR, offset 0x010 + 4·n (17_power_reset_retention.md). -/
def PWR_HIST_n_CAUSE : Fld := ⟨.pwr, 0x10, 4, 31, 28, .ro, .a, 0x0⟩
def PWR_HIST_n_SECONDS : Fld := ⟨.pwr, 0x10, 4, 27, 0, .ro, .a, 0x0⟩

/-! PWR_AON_LO: block PWR, offset 0x030 (17_power_reset_retention.md). -/
def PWR_AON_LO_COUNT_LO : Fld := ⟨.pwr, 0x30, 0, 31, 0, .ro, .a, 0x0⟩

/-! PWR_AON_HI: block PWR, offset 0x034 (17_power_reset_retention.md). -/
def PWR_AON_HI_COUNT_HI : Fld := ⟨.pwr, 0x34, 0, 31, 0, .ro, .a, 0x0⟩

/-! PWR_SLEEP_CFG: block PWR, offset 0x040 (17_power_reset_retention.md). -/
def PWR_SLEEP_CFG_SLEEP_EN : Fld := ⟨.pwr, 0x40, 0, 31, 31, .rws, .c, 0x0⟩
def PWR_SLEEP_CFG_SHDN_EN : Fld := ⟨.pwr, 0x40, 0, 30, 30, .rws, .c, 0x0⟩
def PWR_SLEEP_CFG_WAKE_HOST : Fld := ⟨.pwr, 0x40, 0, 29, 29, .rws, .c, 0x0⟩
def PWR_SLEEP_CFG_SHDN_SIG : Fld := ⟨.pwr, 0x40, 0, 26, 16, .rws, .c, 0x0⟩
def PWR_SLEEP_CFG_SLEEP_SIG : Fld := ⟨.pwr, 0x40, 0, 10, 0, .rws, .c, 0x0⟩

/-! PWR_WAKE_PAIRS: block PWR, offset 0x044 (17_power_reset_retention.md). -/
def PWR_WAKE_PAIRS_PAIRS : Fld := ⟨.pwr, 0x44, 0, 23, 0, .rws, .c, 0x0⟩

/-! PWR_WAKE: block PWR, offset 0x048 (17_power_reset_retention.md). -/
def PWR_WAKE_LAST_WAKE : Fld := ⟨.pwr, 0x48, 0, 31, 28, .ro, .v, 0x0⟩
def PWR_WAKE_WAKE_TIME : Fld := ⟨.pwr, 0x48, 0, 15, 0, .rws, .c, 0x0⟩

/-! CLK_STATUS: block CLK, offset 0x100 (17_power_reset_retention.md). -/
def CLK_STATUS_SUSPECT_B : Fld := ⟨.pwr, 0x100, 0, 4, 4, .ro, .v, 0x0⟩
def CLK_STATUS_SUSPECT_A : Fld := ⟨.pwr, 0x100, 0, 3, 3, .ro, .v, 0x0⟩
def CLK_STATUS_X32_RUN : Fld := ⟨.pwr, 0x100, 0, 2, 2, .ro, .v, 0x0⟩
def CLK_STATUS_PLL_B_LOCK : Fld := ⟨.pwr, 0x100, 0, 1, 1, .ro, .v, 0x0⟩
def CLK_STATUS_PLL_A_LOCK : Fld := ⟨.pwr, 0x100, 0, 0, 0, .ro, .v, 0x0⟩

/-! CLK_FMON: block CLK, offset 0x104 (17_power_reset_retention.md). -/
def CLK_FMON_DEV_B : Fld := ⟨.pwr, 0x104, 0, 31, 16, .ro, .v, 0x0⟩
def CLK_FMON_DEV_A : Fld := ⟨.pwr, 0x104, 0, 15, 0, .ro, .v, 0x0⟩

/-! CLK_FMON_X: block CLK, offset 0x108 (17_power_reset_retention.md). -/
def CLK_FMON_X_DEV_BA : Fld := ⟨.pwr, 0x108, 0, 31, 16, .ro, .v, 0x0⟩
def CLK_FMON_X_DEV_AB : Fld := ⟨.pwr, 0x108, 0, 15, 0, .ro, .v, 0x0⟩

def regTableA0 : List RegDesc := [
  ⟨.sys, 0x0, 0, 1, 0x48160100, [SYS_ID_PART, SYS_ID_STEPPING, SYS_ID_VARIANT]⟩,
  ⟨.sys, 0x4, 0, 1, 0x0, [SYS_STATE_SC_CLK_STEP, SYS_STATE_DEV_STATE]⟩,
  ⟨.sys, 0x8, 0, 1, 0x1, [SYS_GCYCLE_TG_SEL]⟩,
  ⟨.sys, 0xc, 0, 1, 0x0, [SYS_GCOUNT_COUNT]⟩,
  ⟨.sys, 0x10, 0, 1, 0x0, [SYS_EVAL_EVAL_MAX_B, SYS_EVAL_EVAL_MAX_A]⟩,
  ⟨.fc, 0x0, 0, 1, 0x0, [FC_STATUS_LO_LINES]⟩,
  ⟨.fc, 0x4, 0, 1, 0x0, [FC_STATUS_HI_LINES]⟩,
  ⟨.fc, 0x10, 0, 1, 0x0, [FC_FIRST_VALID, FC_FIRST_MULTI, FC_FIRST_CLASS, FC_FIRST_LINE]⟩,
  ⟨.fc, 0x14, 0, 1, 0x0, [FC_FIRST_GCOUNT_COUNT]⟩,
  ⟨.fc, 0x18, 0, 1, 0x0, [FC_FIRST_STAMP_UPDATE]⟩,
  ⟨.fc, 0x20, 0, 1, 0x0, [FC_CONSEQ_LO_LINES]⟩,
  ⟨.fc, 0x28, 0, 1, 0x0, [FC_CONSEQ_COUNT_COUNT]⟩,
  ⟨.fc, 0x30, 0, 1, 0x2, [FC_FLT_CFG_PIN_READ, FC_FLT_CFG_PIN_CMD, FC_FLT_CFG_LEVEL]⟩,
  ⟨.fc, 0x34, 0, 1, 0x0, [FC_LOCKOUT_L3_PEND, FC_LOCKOUT_CL2, FC_LOCKOUT_CL1]⟩,
  ⟨.fc, 0x40, 0, 1, 0x0, [FC_SELFTEST_OVERDUE, FC_SELFTEST_WARN, FC_SELFTEST_AGE_H]⟩,
  ⟨.fc, 0x50, 0, 1, 0x0, [FC_REC_PTR_OVERRUN, FC_REC_PTR_NEXT, FC_REC_PTR_UNREAD]⟩,
  ⟨.fc, 0x54, 0, 1, 0x0, [FC_REC_ACK_COUNT]⟩,
  ⟨.fc, 0x100, 16, 16, 0x0, [FC_REC_n_W0_VALID, FC_REC_n_W0_CLASS, FC_REC_n_W0_CHANNEL, FC_REC_n_W0_SF, FC_REC_n_W0_LINE]⟩,
  ⟨.fc, 0x104, 16, 16, 0x0, [FC_REC_n_W1_DETAIL]⟩,
  ⟨.fc, 0x108, 16, 16, 0x0, [FC_REC_n_W2_GCOUNT]⟩,
  ⟨.fc, 0x10c, 16, 16, 0x0, [FC_REC_n_W3_UPDATE]⟩,
  ⟨.fc, 0x200, 8, 16, 0x0, [FC_CMAP_n_LO_MASK]⟩,
  ⟨.fc, 0x204, 8, 16, 0x0, [FC_CMAP_n_HI_MASK]⟩,
  ⟨.fc, 0x8, 0, 1, 0x0, [FC_OTHER_LO_LINES]⟩,
  ⟨.fc, 0xc, 0, 1, 0x0, [FC_OTHER_HI_LINES]⟩]

def regTableA1 : List RegDesc := [
  ⟨.fc, 0x24, 0, 1, 0x0, [FC_CONSEQ_HI_LINES]⟩,
  ⟨.lks, 0x0, 0, 1, 0x0, [LKS_STATUS_DBG_ATTACHED, LKS_STATUS_DBG_UNCHECKED, LKS_STATUS_ASYNC, LKS_STATUS_SWEEP, LKS_STATUS_FORCE_FAIL, LKS_STATUS_TT_DIS, LKS_STATUS_TT_SIDE, LKS_STATUS_MISMATCH]⟩,
  ⟨.lks, 0x4, 0, 1, 0x22, [LKS_DELAY_OUT_DLY, LKS_DELAY_IN_DLY]⟩,
  ⟨.lks, 0x8, 0, 1, 0x0, [LKS_MM_INFO_TT1_GROUPS, LKS_MM_INFO_TT0_GROUPS]⟩,
  ⟨.lks, 0xc, 0, 1, 0x0, [LKS_FORCE_PASSES, LKS_FORCE_LAST_BIT]⟩,
  ⟨.lks, 0x10, 0, 1, 0x0, [LKS_SWEEP_SWEEPS, LKS_SWEEP_AREA, LKS_SWEEP_INDEX]⟩,
  ⟨.lks, 0x14, 0, 1, 0x0, [LKS_SWEEP_TIME_LAST_US]⟩,
  ⟨.lks, 0x18, 0, 1, 0x0, [LKS_ASYNC_MAX_DIS, LKS_ASYNC_SOURCE]⟩,
  ⟨.lks, 0x1c, 0, 1, 0x0, [LKS_DBG_AE, LKS_DBG_IOS, LKS_DBG_SC]⟩,
  ⟨.lks, 0x100, 0, 1, 0x0, [STY_STATUS_MODE, STY_STATUS_AE_RX_OK, STY_STATUS_AE_TX_OK, STY_STATUS_CYC_RX_OK, STY_STATUS_CYC_TX_OK]⟩,
  ⟨.lks, 0x104, 0, 1, 0x0, [STY_ERR_TYPE, STY_ERR_KIND, STY_ERR_ATTR]⟩,
  ⟨.lks, 0x108, 0, 1, 0x0, [STY_REPEATS_RX, STY_REPEATS_TX]⟩,
  ⟨.lks, 0x10c, 0, 1, 0x0, [STY_SKEW_MAX_NS, STY_SKEW_NOW_NS]⟩,
  ⟨.lks, 0x110, 0, 1, 0x0, [STY_SEQ_AE_RX, STY_SEQ_AE_TX, STY_SEQ_CYC_RX, STY_SEQ_CYC_TX]⟩,
  ⟨.pwr, 0x0, 0, 1, 0x0, [PWR_STATUS_VBAT_LOW, PWR_STATUS_VS_B_UV, PWR_STATUS_VS_A_UV, PWR_STATUS_VS_B_OK, PWR_STATUS_VS_A_OK, PWR_STATUS_VDDA_OK, PWR_STATUS_VDDIO_33_OK, PWR_STATUS_VDD_18_OK, PWR_STATUS_VDD_CORE_OK]⟩,
  ⟨.pwr, 0x4, 0, 1, 0x3, [PWR_FLAGS_AON_CLK_STOP, PWR_FLAGS_VBAT_DIP]⟩,
  ⟨.pwr, 0x8, 0, 1, 0x0, [PWR_RESET_COUNT, PWR_RESET_LAST_CAUSE]⟩,
  ⟨.pwr, 0x10, 4, 8, 0x0, [PWR_HIST_n_CAUSE, PWR_HIST_n_SECONDS]⟩,
  ⟨.pwr, 0x30, 0, 1, 0x0, [PWR_AON_LO_COUNT_LO]⟩,
  ⟨.pwr, 0x34, 0, 1, 0x0, [PWR_AON_HI_COUNT_HI]⟩,
  ⟨.pwr, 0x40, 0, 1, 0x0, [PWR_SLEEP_CFG_SLEEP_EN, PWR_SLEEP_CFG_SHDN_EN, PWR_SLEEP_CFG_WAKE_HOST, PWR_SLEEP_CFG_SHDN_SIG, PWR_SLEEP_CFG_SLEEP_SIG]⟩,
  ⟨.pwr, 0x44, 0, 1, 0x0, [PWR_WAKE_PAIRS_PAIRS]⟩,
  ⟨.pwr, 0x48, 0, 1, 0x0, [PWR_WAKE_LAST_WAKE, PWR_WAKE_WAKE_TIME]⟩,
  ⟨.pwr, 0x100, 0, 1, 0x0, [CLK_STATUS_SUSPECT_B, CLK_STATUS_SUSPECT_A, CLK_STATUS_X32_RUN, CLK_STATUS_PLL_B_LOCK, CLK_STATUS_PLL_A_LOCK]⟩,
  ⟨.pwr, 0x104, 0, 1, 0x0, [CLK_FMON_DEV_B, CLK_FMON_DEV_A]⟩]

def regTableA2 : List RegDesc := [
  ⟨.pwr, 0x108, 0, 1, 0x0, [CLK_FMON_X_DEV_BA, CLK_FMON_X_DEV_AB]⟩]

/-- The descriptors of SYS, FC, PWR, CLK, LKS and STY. -/
def regTableA : List RegDesc := regTableA0 ++ regTableA1 ++ regTableA2

end Sys2Proof.Machine
end

