-- ==== Sys2Proof/Machine/RegsB.lean ====
section
/-! DEFINITION. The register fields of LC, AE, CAM, SIN, TPS and SOUT, one definition a field, and their descriptors, as the register tables of the owning chapters of spec/ give them (block, offset, stride, bits, access code of R8, retention class of R9). -/

namespace Sys2Proof.Machine


/-! LC_CFG: block LC, offset 0x000 (02_line_coordinate.md). -/
def LC_CFG_VSTILL : Fld := ⟨.lc, 0x0, 0, 31, 20, .rws, .c, 0x0⟩
def LC_CFG_ACC_WIN : Fld := ⟨.lc, 0x0, 0, 17, 16, .rws, .c, 0x0⟩
def LC_CFG_VEL_WIN : Fld := ⟨.lc, 0x0, 0, 14, 12, .rws, .c, 0x0⟩
def LC_CFG_SEC_SRC : Fld := ⟨.lc, 0x0, 0, 9, 8, .rws, .c, 0x0⟩
def LC_CFG_PRI_SRC : Fld := ⟨.lc, 0x0, 0, 5, 4, .rws, .c, 0x0⟩
def LC_CFG_MOD32 : Fld := ⟨.lc, 0x0, 0, 1, 1, .rws, .c, 0x0⟩
def LC_CFG_MODE : Fld := ⟨.lc, 0x0, 0, 0, 0, .rws, .c, 0x0⟩

/-! LC_MODULUS: block LC, offset 0x004 (02_line_coordinate.md). -/
def LC_MODULUS_M : Fld := ⟨.lc, 0x4, 0, 31, 0, .rws, .c, 0x0⟩

/-! LC_TOL: block LC, offset 0x008 (02_line_coordinate.md). -/
def LC_TOL_TOL_CH : Fld := ⟨.lc, 0x8, 0, 31, 16, .rws, .c, 0x0⟩
def LC_TOL_TOL_SRC : Fld := ⟨.lc, 0x8, 0, 15, 0, .rws, .c, 0x0⟩

/-! LC_REALIGN: block LC, offset 0x00C (02_line_coordinate.md). -/
def LC_REALIGN_D : Fld := ⟨.lc, 0xc, 0, 31, 0, .rws, .c, 0x0⟩

/-! LC_VMAX: block LC, offset 0x010 (02_line_coordinate.md). -/
def LC_VMAX_VMAX : Fld := ⟨.lc, 0x10, 0, 22, 0, .rws, .c, 0x0⟩

/-! LC_AMAX: block LC, offset 0x014 (02_line_coordinate.md). -/
def LC_AMAX_AMAX : Fld := ⟨.lc, 0x14, 0, 31, 0, .rws, .c, 0x0⟩

/-! LC_STATUS: block LC, offset 0x020 (02_line_coordinate.md). -/
def LC_STATUS_ON_SEC : Fld := ⟨.lc, 0x20, 0, 14, 14, .ro, .v, 0x0⟩
def LC_STATUS_MASTER_DEV : Fld := ⟨.lc, 0x20, 0, 13, 13, .ro, .v, 0x0⟩
def LC_STATUS_SEC_OK : Fld := ⟨.lc, 0x20, 0, 12, 12, .ro, .v, 0x0⟩
def LC_STATUS_PRI_OK : Fld := ⟨.lc, 0x20, 0, 11, 11, .ro, .v, 0x0⟩
def LC_STATUS_DIR : Fld := ⟨.lc, 0x20, 0, 10, 9, .ro, .v, 0x0⟩
def LC_STATUS_STANDSTILL : Fld := ⟨.lc, 0x20, 0, 8, 8, .ro, .v, 0x0⟩
def LC_STATUS_STATE : Fld := ⟨.lc, 0x20, 0, 2, 0, .ro, .v, 0x0⟩

/-! LC_POS_LO: block LC, offset 0x024 (02_line_coordinate.md). -/
def LC_POS_LO_POS_INT_LO : Fld := ⟨.lc, 0x24, 0, 31, 16, .ro, .v, 0x0⟩
def LC_POS_LO_POS_FRAC : Fld := ⟨.lc, 0x24, 0, 15, 0, .ro, .v, 0x0⟩

/-! LC_POS_HI: block LC, offset 0x028 (02_line_coordinate.md). -/
def LC_POS_HI_POS_INT_HI : Fld := ⟨.lc, 0x28, 0, 31, 0, .ro, .v, 0x0⟩

/-! LC_CYCLE: block LC, offset 0x02C (02_line_coordinate.md). -/
def LC_CYCLE_CYCLE : Fld := ⟨.lc, 0x2c, 0, 31, 0, .ro, .v, 0x0⟩

/-! LC_VEL: block LC, offset 0x030 (02_line_coordinate.md). -/
def LC_VEL_VEL : Fld := ⟨.lc, 0x30, 0, 31, 0, .ro, .v, 0x0⟩

/-! LC_ACC: block LC, offset 0x034 (02_line_coordinate.md). -/
def LC_ACC_ACC : Fld := ⟨.lc, 0x34, 0, 31, 0, .ro, .v, 0x0⟩

/-! LC_STAMP: block LC, offset 0x038 (02_line_coordinate.md). -/
def LC_STAMP_UPDATE : Fld := ⟨.lc, 0x38, 0, 31, 0, .ro, .v, 0x0⟩

/-! LC_XCHK: block LC, offset 0x03C (02_line_coordinate.md). -/
def LC_XCHK_CH_DIFF : Fld := ⟨.lc, 0x3c, 0, 31, 16, .ro, .v, 0x0⟩
def LC_XCHK_SRC_DIFF : Fld := ⟨.lc, 0x3c, 0, 15, 0, .ro, .v, 0x0⟩

/-! LC_MASTER_CFG: block LC, offset 0x040 (02_line_coordinate.md). -/
def LC_MASTER_CFG_TIME : Fld := ⟨.lc, 0x40, 0, 31, 24, .rws, .c, 0x0⟩
def LC_MASTER_CFG_TOL : Fld := ⟨.lc, 0x40, 0, 23, 8, .rws, .c, 0x0⟩
def LC_MASTER_CFG_EN : Fld := ⟨.lc, 0x40, 0, 0, 0, .rws, .c, 0x0⟩

/-! LC_MASTER_DIFF: block LC, offset 0x044 (02_line_coordinate.md). -/
def LC_MASTER_DIFF_DIFF : Fld := ⟨.lc, 0x44, 0, 31, 0, .ro, .v, 0x0⟩

/-! AE_ENC_n_CFG: block AE, offset 0x100 + 0x20·n (02_line_coordinate.md). -/
def AE_ENC_n_CFG_EDGE_MAX : Fld := ⟨.lc, 0x100, 32, 31, 16, .rws, .c, 0x0⟩
def AE_ENC_n_CFG_SSI_CLK : Fld := ⟨.lc, 0x100, 32, 12, 10, .rws, .c, 0x0⟩
def AE_ENC_n_CFG_SSI_BITS : Fld := ⟨.lc, 0x100, 32, 9, 4, .rws, .c, 0x0⟩
def AE_ENC_n_CFG_INVERT : Fld := ⟨.lc, 0x100, 32, 3, 3, .rws, .c, 0x0⟩
def AE_ENC_n_CFG_ZREF : Fld := ⟨.lc, 0x100, 32, 2, 2, .rws, .c, 0x0⟩
def AE_ENC_n_CFG_TYPE : Fld := ⟨.lc, 0x100, 32, 1, 0, .rws, .c, 0x0⟩

/-! AE_ENC_n_NUM: block AE, offset 0x104 + 0x20·n (02_line_coordinate.md). -/
def AE_ENC_n_NUM_NUM : Fld := ⟨.lc, 0x104, 32, 31, 0, .rws, .c, 0x0⟩

/-! AE_ENC_n_DEN: block AE, offset 0x108 + 0x20·n (02_line_coordinate.md). -/
def AE_ENC_n_DEN_DEN : Fld := ⟨.lc, 0x108, 32, 31, 0, .rws, .c, 0x0⟩

/-! AE_ENC_n_OFFSET: block AE, offset 0x10C + 0x20·n (02_line_coordinate.md). -/
def AE_ENC_n_OFFSET_OFFSET : Fld := ⟨.lc, 0x10c, 32, 31, 0, .rws, .c, 0x0⟩

/-! AE_ENC_n_STATUS: block AE, offset 0x110 + 0x20·n (02_line_coordinate.md). -/
def AE_ENC_n_STATUS_REALIGNS : Fld := ⟨.lc, 0x110, 32, 31, 16, .ro, .v, 0x0⟩
def AE_ENC_n_STATUS_REFD : Fld := ⟨.lc, 0x110, 32, 7, 7, .ro, .v, 0x0⟩
def AE_ENC_n_STATUS_ZDEV : Fld := ⟨.lc, 0x110, 32, 6, 6, .ro, .v, 0x0⟩
def AE_ENC_n_STATUS_FRAME : Fld := ⟨.lc, 0x110, 32, 5, 5, .ro, .v, 0x0⟩
def AE_ENC_n_STATUS_AMPL : Fld := ⟨.lc, 0x110, 32, 4, 4, .ro, .v, 0x0⟩
def AE_ENC_n_STATUS_RATE : Fld := ⟨.lc, 0x110, 32, 3, 3, .ro, .v, 0x0⟩
def AE_ENC_n_STATUS_ILLEGAL : Fld := ⟨.lc, 0x110, 32, 2, 2, .ro, .v, 0x0⟩
def AE_ENC_n_STATUS_WIRE : Fld := ⟨.lc, 0x110, 32, 1, 1, .ro, .v, 0x0⟩
def AE_ENC_n_STATUS_EXCLUDED : Fld := ⟨.lc, 0x110, 32, 0, 0, .ro, .v, 0x0⟩

/-! AE_ENC_n_COUNT: block AE, offset 0x114 + 0x20·n (02_line_coordinate.md). -/
def AE_ENC_n_COUNT_COUNT : Fld := ⟨.lc, 0x114, 32, 31, 0, .ro, .v, 0x0⟩

/-! CAM_CFG: block CAM, offset 0x400 (02_line_coordinate.md). -/
def CAM_CFG_ORIGIN_EN : Fld := ⟨.lc, 0x400, 0, 27, 27, .rws, .c, 0x0⟩
def CAM_CFG_ORIGIN_SIG : Fld := ⟨.lc, 0x400, 0, 26, 16, .rws, .c, 0x0⟩
def CAM_CFG_HYST : Fld := ⟨.lc, 0x400, 0, 7, 0, .rws, .c, 0x0⟩

/-! CAM_ORIGIN_LO: block CAM, offset 0x404 (02_line_coordinate.md). -/
def CAM_ORIGIN_LO_ORIGIN_LO : Fld := ⟨.lc, 0x404, 0, 31, 0, .ro, .v, 0x0⟩

/-! CAM_ORIGIN_HI: block CAM, offset 0x408 (02_line_coordinate.md). -/
def CAM_ORIGIN_HI_ORIGIN_HI : Fld := ⟨.lc, 0x408, 0, 15, 0, .ro, .v, 0x0⟩

/-! CAM_CRC: block CAM, offset 0x40C (02_line_coordinate.md). -/
def CAM_CRC_CRC : Fld := ⟨.lc, 0x40c, 0, 31, 0, .rws, .c, 0x0⟩

/-! CAM_WIN_LO: block CAM, offset 0x410 (02_line_coordinate.md). -/
def CAM_WIN_LO_OPEN : Fld := ⟨.lc, 0x410, 0, 31, 0, .ro, .v, 0x0⟩

/-! CAM_WIN_HI: block CAM, offset 0x414 (02_line_coordinate.md). -/
def CAM_WIN_HI_OPEN : Fld := ⟨.lc, 0x414, 0, 31, 0, .ro, .v, 0x0⟩

/-! CAM_COUNT: block CAM, offset 0x418 (02_line_coordinate.md). -/
def CAM_COUNT_LATE : Fld := ⟨.lc, 0x418, 0, 31, 16, .rc, .v, 0x0⟩
def CAM_COUNT_UNCONF : Fld := ⟨.lc, 0x418, 0, 15, 0, .rc, .v, 0x0⟩

/-! CAM_STATUS: block CAM, offset 0x41C (02_line_coordinate.md). -/
def CAM_STATUS_FAR_COUNT : Fld := ⟨.lc, 0x41c, 0, 31, 16, .ro, .v, 0x0⟩
def CAM_STATUS_FAR : Fld := ⟨.lc, 0x41c, 0, 0, 0, .ro, .v, 0x0⟩

/-! CAM_WIN_n_CFG: block CAM, offset 0x500 + 4·n (02_line_coordinate.md). -/
def CAM_WIN_n_CFG_TARGET : Fld := ⟨.lc, 0x500, 4, 15, 8, .rws, .c, 0x0⟩
def CAM_WIN_n_CFG_DIR : Fld := ⟨.lc, 0x500, 4, 2, 1, .rws, .c, 0x0⟩
def CAM_WIN_n_CFG_TEST : Fld := ⟨.lc, 0x500, 4, 0, 0, .rws, .c, 0x0⟩

/-! CAM_PT_n_POS: block CAM, offset 0x2000 + 8·n (02_line_coordinate.md). -/
def CAM_PT_n_POS_POS : Fld := ⟨.lc, 0x2000, 8, 31, 0, .rws, .c, 0x0⟩

/-! CAM_PT_n_ACT: block CAM, offset 0x2004 + 8·n (02_line_coordinate.md). -/
def CAM_PT_n_ACT_PREDICT : Fld := ⟨.lc, 0x2004, 8, 16, 16, .rws, .c, 0x0⟩
def CAM_PT_n_ACT_TARGET : Fld := ⟨.lc, 0x2004, 8, 15, 8, .rws, .c, 0x0⟩
def CAM_PT_n_ACT_DIR : Fld := ⟨.lc, 0x2004, 8, 5, 4, .rws, .c, 0x0⟩
def CAM_PT_n_ACT_ACTION : Fld := ⟨.lc, 0x2004, 8, 2, 0, .rws, .c, 0x0⟩

/-! SIN_PAIR_n_CFG: block SIN, offset 0x000 + 8·n (03_safe_inputs.md). -/
def SIN_PAIR_n_CFG_FK_EN : Fld := ⟨.sin, 0x0, 8, 31, 31, .rws, .c, 0x0⟩
def SIN_PAIR_n_CFG_FK_FILT : Fld := ⟨.sin, 0x0, 8, 30, 28, .rws, .c, 0x0⟩
def SIN_PAIR_n_CFG_MODE : Fld := ⟨.sin, 0x0, 8, 27, 26, .rws, .c, 0x0⟩
def SIN_PAIR_n_CFG_SRC_Y : Fld := ⟨.sin, 0x0, 8, 23, 20, .rws, .c, 0x0⟩
def SIN_PAIR_n_CFG_SRC_X : Fld := ⟨.sin, 0x0, 8, 19, 16, .rws, .c, 0x0⟩
def SIN_PAIR_n_CFG_FK_GROUP : Fld := ⟨.sin, 0x0, 8, 15, 0, .rws, .c, 0x0⟩

/-! SIN_PAIR_n_TIME: block SIN, offset 0x004 + 8·n (03_safe_inputs.md). -/
def SIN_PAIR_n_TIME_DISC : Fld := ⟨.sin, 0x4, 8, 31, 19, .rws, .c, 0x0⟩
def SIN_PAIR_n_TIME_FILT : Fld := ⟨.sin, 0x4, 8, 18, 8, .rws, .c, 0x0⟩
def SIN_PAIR_n_TIME_OSSD_TOL : Fld := ⟨.sin, 0x4, 8, 6, 0, .rws, .c, 0x0⟩

/-! SIN_CMP_A_LO: block SIN, offset 0x100 (03_safe_inputs.md). -/
def SIN_CMP_A_LO_FILT : Fld := ⟨.sin, 0x100, 0, 31, 0, .ro, .v, 0x0⟩

/-! SIN_CMP_A_HI: block SIN, offset 0x104 (03_safe_inputs.md). -/
def SIN_CMP_A_HI_FILT : Fld := ⟨.sin, 0x104, 0, 15, 0, .ro, .v, 0x0⟩

/-! SIN_PAIR_STATE: block SIN, offset 0x110 (03_safe_inputs.md). -/
def SIN_PAIR_STATE_RELEASED : Fld := ⟨.sin, 0x110, 0, 23, 0, .ro, .v, 0x0⟩

/-! SIN_DISC_RUN: block SIN, offset 0x114 (03_safe_inputs.md). -/
def SIN_DISC_RUN_RUN : Fld := ⟨.sin, 0x114, 0, 23, 0, .ro, .v, 0x0⟩

/-! SIN_FK_STAT: block SIN, offset 0x118 (03_safe_inputs.md). -/
def SIN_FK_STAT_FIRED : Fld := ⟨.sin, 0x118, 0, 23, 0, .ro, .v, 0x0⟩

/-! SIN_FK_CRC_IMG: block SIN, offset 0x11C (03_safe_inputs.md). -/
def SIN_FK_CRC_IMG_CRC : Fld := ⟨.sin, 0x11c, 0, 31, 0, .rws, .c, 0x0⟩

/-! SIN_FK_CRC_DIE: block SIN, offset 0x120 (03_safe_inputs.md). -/
def SIN_FK_CRC_DIE_CRC : Fld := ⟨.sin, 0x120, 0, 31, 0, .ro, .v, 0x0⟩

/-! SIN_DIE_STATUS: block SIN, offset 0x124 (03_safe_inputs.md). -/
def SIN_DIE_STATUS_STUCK_CNT_B : Fld := ⟨.sin, 0x124, 0, 31, 24, .ro, .v, 0x0⟩
def SIN_DIE_STATUS_STUCK_CNT_A : Fld := ⟨.sin, 0x124, 0, 23, 16, .ro, .v, 0x0⟩
def SIN_DIE_STATUS_REF_B : Fld := ⟨.sin, 0x124, 0, 3, 3, .ro, .v, 0x0⟩
def SIN_DIE_STATUS_FRAME_B : Fld := ⟨.sin, 0x124, 0, 2, 2, .ro, .v, 0x0⟩
def SIN_DIE_STATUS_REF_A : Fld := ⟨.sin, 0x124, 0, 1, 1, .ro, .v, 0x0⟩
def SIN_DIE_STATUS_FRAME_A : Fld := ⟨.sin, 0x124, 0, 0, 0, .ro, .v, 0x0⟩

/-! SIN_PAIR_n_FAULT: block SIN, offset 0x200 + 4·n (03_safe_inputs.md). -/
def SIN_PAIR_n_FAULT_XSRC : Fld := ⟨.sin, 0x200, 4, 15, 12, .ro, .v, 0x0⟩
def SIN_PAIR_n_FAULT_PEND_CYCLE : Fld := ⟨.sin, 0x200, 4, 11, 11, .ro, .v, 0x0⟩
def SIN_PAIR_n_FAULT_SRC : Fld := ⟨.sin, 0x200, 4, 10, 10, .ro, .v, 0x0⟩
def SIN_PAIR_n_FAULT_XCIRC_Y : Fld := ⟨.sin, 0x200, 4, 9, 9, .ro, .v, 0x0⟩
def SIN_PAIR_n_FAULT_XCIRC_X : Fld := ⟨.sin, 0x200, 4, 8, 8, .ro, .v, 0x0⟩
def SIN_PAIR_n_FAULT_SHORT_Y : Fld := ⟨.sin, 0x200, 4, 7, 7, .ro, .v, 0x0⟩
def SIN_PAIR_n_FAULT_SHORT_X : Fld := ⟨.sin, 0x200, 4, 6, 6, .ro, .v, 0x0⟩
def SIN_PAIR_n_FAULT_STUCK_DIE : Fld := ⟨.sin, 0x200, 4, 5, 5, .ro, .v, 0x0⟩
def SIN_PAIR_n_FAULT_STUCK_Y : Fld := ⟨.sin, 0x200, 4, 4, 4, .ro, .v, 0x0⟩
def SIN_PAIR_n_FAULT_STUCK_X : Fld := ⟨.sin, 0x200, 4, 3, 3, .ro, .v, 0x0⟩
def SIN_PAIR_n_FAULT_CMP_DIS_Y : Fld := ⟨.sin, 0x200, 4, 2, 2, .ro, .v, 0x0⟩
def SIN_PAIR_n_FAULT_CMP_DIS_X : Fld := ⟨.sin, 0x200, 4, 1, 1, .ro, .v, 0x0⟩
def SIN_PAIR_n_FAULT_DISC : Fld := ⟨.sin, 0x200, 4, 0, 0, .ro, .v, 0x0⟩

/-! SIN_CMP_B_LO: block SIN, offset 0x108 (03_safe_inputs.md). -/
def SIN_CMP_B_LO_FILT : Fld := ⟨.sin, 0x108, 0, 31, 0, .ro, .v, 0x0⟩

/-! SIN_CMP_B_HI: block SIN, offset 0x10C (03_safe_inputs.md). -/
def SIN_CMP_B_HI_FILT : Fld := ⟨.sin, 0x10c, 0, 15, 0, .ro, .v, 0x0⟩

/-! TPS_n_CFG: block TPS, offset 0x800 + 0x10·n (03_safe_inputs.md). -/
def TPS_n_CFG_INTERVAL : Fld := ⟨.sin, 0x800, 16, 31, 16, .rws, .c, 0x0⟩
def TPS_n_CFG_PLACED : Fld := ⟨.sin, 0x800, 16, 15, 15, .rws, .c, 0x0⟩
def TPS_n_CFG_WIDTH : Fld := ⟨.sin, 0x800, 16, 14, 8, .rws, .c, 0x0⟩
def TPS_n_CFG_SETTLE : Fld := ⟨.sin, 0x800, 16, 5, 0, .rws, .c, 0x0⟩

/-! TPS_n_STAT: block TPS, offset 0x804 + 0x10·n (03_safe_inputs.md). -/
def TPS_n_STAT_UNPLACED : Fld := ⟨.sin, 0x804, 16, 31, 16, .rc, .v, 0x0⟩
def TPS_n_STAT_LOW_IDLE : Fld := ⟨.sin, 0x804, 16, 3, 3, .ro, .v, 0x0⟩
def TPS_n_STAT_NOT_LOW : Fld := ⟨.sin, 0x804, 16, 2, 2, .ro, .v, 0x0⟩
def TPS_n_STAT_ACTIVE : Fld := ⟨.sin, 0x804, 16, 0, 0, .ro, .v, 0x0⟩

/-! TPS_n_LAST: block TPS, offset 0x808 + 0x10·n (03_safe_inputs.md). -/
def TPS_n_LAST_UPDATE : Fld := ⟨.sin, 0x808, 16, 31, 0, .ro, .v, 0x0⟩

/-! SOUT_n_CFG: block SOUT, offset 0x000 + 0x20·n (04_safe_outputs.md). -/
def SOUT_n_CFG_OPEN_LOAD : Fld := ⟨.sout, 0x0, 32, 15, 8, .rws, .c, 0x0⟩
def SOUT_n_CFG_OPEN_CLASS : Fld := ⟨.sout, 0x0, 32, 7, 7, .rws, .c, 0x0⟩
def SOUT_n_CFG_PLACED : Fld := ⟨.sout, 0x0, 32, 6, 6, .rws, .c, 0x0⟩
def SOUT_n_CFG_STO : Fld := ⟨.sout, 0x0, 32, 5, 5, .rws, .c, 0x0⟩
def SOUT_n_CFG_TESTED : Fld := ⟨.sout, 0x0, 32, 4, 4, .rws, .c, 0x0⟩
def SOUT_n_CFG_LS_SEL : Fld := ⟨.sout, 0x0, 32, 3, 2, .rws, .c, 0x0⟩
def SOUT_n_CFG_MODE : Fld := ⟨.sout, 0x0, 32, 1, 0, .rws, .c, 0x0⟩

/-! SOUT_n_TEST: block SOUT, offset 0x004 + 0x20·n (04_safe_outputs.md). -/
def SOUT_n_TEST_INTERVAL : Fld := ⟨.sout, 0x4, 32, 31, 16, .rws, .c, 0x0⟩
def SOUT_n_TEST_WIDTH : Fld := ⟨.sout, 0x4, 32, 6, 0, .rws, .c, 0x0⟩

/-! SOUT_n_STAT: block SOUT, offset 0x008 + 0x20·n (04_safe_outputs.md). -/
def SOUT_n_STAT_UNPLACED : Fld := ⟨.sout, 0x8, 32, 31, 16, .rc, .v, 0x0⟩
def SOUT_n_STAT_ABORTED : Fld := ⟨.sout, 0x8, 32, 15, 0, .rc, .v, 0x0⟩

/-! SOUT_n_FAULT: block SOUT, offset 0x00C + 0x20·n (04_safe_outputs.md). -/
def SOUT_n_FAULT_PHASE : Fld := ⟨.sout, 0xc, 32, 18, 16, .ro, .v, 0x0⟩
def SOUT_n_FAULT_LS : Fld := ⟨.sout, 0xc, 32, 9, 9, .ro, .v, 0x0⟩
def SOUT_n_FAULT_OPEN_LOAD : Fld := ⟨.sout, 0xc, 32, 8, 8, .ro, .v, 0x0⟩
def SOUT_n_FAULT_RB_DIS : Fld := ⟨.sout, 0xc, 32, 7, 7, .ro, .v, 0x0⟩
def SOUT_n_FAULT_LIMIT_B : Fld := ⟨.sout, 0xc, 32, 6, 6, .ro, .v, 0x0⟩
def SOUT_n_FAULT_LIMIT_A : Fld := ⟨.sout, 0xc, 32, 5, 5, .ro, .v, 0x0⟩
def SOUT_n_FAULT_FEED : Fld := ⟨.sout, 0xc, 32, 4, 4, .ro, .v, 0x0⟩
def SOUT_n_FAULT_OPEN_B : Fld := ⟨.sout, 0xc, 32, 3, 3, .ro, .v, 0x0⟩
def SOUT_n_FAULT_OPEN_A : Fld := ⟨.sout, 0xc, 32, 2, 2, .ro, .v, 0x0⟩
def SOUT_n_FAULT_STUCK_B : Fld := ⟨.sout, 0xc, 32, 1, 1, .ro, .v, 0x0⟩
def SOUT_n_FAULT_STUCK_A : Fld := ⟨.sout, 0xc, 32, 0, 0, .ro, .v, 0x0⟩

/-! SOUT_n_RON: block SOUT, offset 0x010 + 0x20·n (04_safe_outputs.md). -/
def SOUT_n_RON_RON_B : Fld := ⟨.sout, 0x10, 32, 31, 16, .ro, .v, 0x0⟩
def SOUT_n_RON_RON_A : Fld := ⟨.sout, 0x10, 32, 15, 0, .ro, .v, 0x0⟩

/-! SOUT_n_LAST: block SOUT, offset 0x014 + 0x20·n (04_safe_outputs.md). -/
def SOUT_n_LAST_UPDATE : Fld := ⟨.sout, 0x14, 32, 31, 0, .ro, .v, 0x0⟩

/-! SOUT_RB_M: block SOUT, offset 0x200 (04_safe_outputs.md). -/
def SOUT_RB_M_DIE_B : Fld := ⟨.sout, 0x200, 0, 31, 16, .ro, .v, 0x0⟩
def SOUT_RB_M_DIE_A : Fld := ⟨.sout, 0x200, 0, 15, 0, .ro, .v, 0x0⟩

/-! SOUT_RB_O: block SOUT, offset 0x204 (04_safe_outputs.md). -/
def SOUT_RB_O_DIE_B : Fld := ⟨.sout, 0x204, 0, 31, 16, .ro, .v, 0x0⟩
def SOUT_RB_O_DIE_A : Fld := ⟨.sout, 0x204, 0, 15, 0, .ro, .v, 0x0⟩

/-! SOUT_KILL: block SOUT, offset 0x208 (04_safe_outputs.md). -/
def SOUT_KILL_HELD_B : Fld := ⟨.sout, 0x208, 0, 31, 16, .ro, .v, 0x0⟩
def SOUT_KILL_HELD_A : Fld := ⟨.sout, 0x208, 0, 15, 0, .ro, .v, 0x0⟩

/-! SOUT_DIE_STATUS: block SOUT, offset 0x20C (04_safe_outputs.md). -/
def SOUT_DIE_STATUS_ATTR_CNT_B : Fld := ⟨.sout, 0x20c, 0, 31, 24, .ro, .v, 0x0⟩
def SOUT_DIE_STATUS_ATTR_CNT_A : Fld := ⟨.sout, 0x20c, 0, 23, 16, .ro, .v, 0x0⟩
def SOUT_DIE_STATUS_PUMP_B : Fld := ⟨.sout, 0x20c, 0, 5, 5, .ro, .v, 0x0⟩
def SOUT_DIE_STATUS_REF_B : Fld := ⟨.sout, 0x20c, 0, 4, 4, .ro, .v, 0x0⟩
def SOUT_DIE_STATUS_FRAME_B : Fld := ⟨.sout, 0x20c, 0, 3, 3, .ro, .v, 0x0⟩
def SOUT_DIE_STATUS_PUMP_A : Fld := ⟨.sout, 0x20c, 0, 2, 2, .ro, .v, 0x0⟩
def SOUT_DIE_STATUS_REF_A : Fld := ⟨.sout, 0x20c, 0, 1, 1, .ro, .v, 0x0⟩
def SOUT_DIE_STATUS_FRAME_A : Fld := ⟨.sout, 0x20c, 0, 0, 0, .ro, .v, 0x0⟩

/-! SOUT_VERIFY: block SOUT, offset 0x210 (04_safe_outputs.md). -/
def SOUT_VERIFY_VERIFY : Fld := ⟨.sout, 0x210, 0, 6, 0, .ro, .a, 0x32⟩

/-! SOUT_LS_n_CFG: block SOUT, offset 0x300 + 0x10·n (04_safe_outputs.md). -/
def SOUT_LS_n_CFG_INTERVAL : Fld := ⟨.sout, 0x300, 16, 31, 16, .rws, .c, 0x0⟩
def SOUT_LS_n_CFG_WIDTH : Fld := ⟨.sout, 0x300, 16, 6, 0, .rws, .c, 0x0⟩

/-! SOUT_LS_n_STAT: block SOUT, offset 0x304 + 0x10·n (04_safe_outputs.md). -/
def SOUT_LS_n_STAT_ABORTED : Fld := ⟨.sout, 0x304, 16, 31, 16, .rc, .v, 0x0⟩
def SOUT_LS_n_STAT_LIMIT : Fld := ⟨.sout, 0x304, 16, 4, 4, .ro, .v, 0x0⟩
def SOUT_LS_n_STAT_FAIL_CLOSE : Fld := ⟨.sout, 0x304, 16, 3, 3, .ro, .v, 0x0⟩
def SOUT_LS_n_STAT_STUCK : Fld := ⟨.sout, 0x304, 16, 2, 2, .ro, .v, 0x0⟩
def SOUT_LS_n_STAT_HELD : Fld := ⟨.sout, 0x304, 16, 1, 1, .ro, .v, 0x0⟩
def SOUT_LS_n_STAT_CLOSED : Fld := ⟨.sout, 0x304, 16, 0, 0, .ro, .v, 0x0⟩

def regTableB0 : List RegDesc := [
  ⟨.lc, 0x0, 0, 1, 0x0, [LC_CFG_VSTILL, LC_CFG_ACC_WIN, LC_CFG_VEL_WIN, LC_CFG_SEC_SRC, LC_CFG_PRI_SRC, LC_CFG_MOD32, LC_CFG_MODE]⟩,
  ⟨.lc, 0x4, 0, 1, 0x0, [LC_MODULUS_M]⟩,
  ⟨.lc, 0x8, 0, 1, 0x0, [LC_TOL_TOL_CH, LC_TOL_TOL_SRC]⟩,
  ⟨.lc, 0xc, 0, 1, 0x0, [LC_REALIGN_D]⟩,
  ⟨.lc, 0x10, 0, 1, 0x0, [LC_VMAX_VMAX]⟩,
  ⟨.lc, 0x14, 0, 1, 0x0, [LC_AMAX_AMAX]⟩,
  ⟨.lc, 0x20, 0, 1, 0x0, [LC_STATUS_ON_SEC, LC_STATUS_MASTER_DEV, LC_STATUS_SEC_OK, LC_STATUS_PRI_OK, LC_STATUS_DIR, LC_STATUS_STANDSTILL, LC_STATUS_STATE]⟩,
  ⟨.lc, 0x24, 0, 1, 0x0, [LC_POS_LO_POS_INT_LO, LC_POS_LO_POS_FRAC]⟩,
  ⟨.lc, 0x28, 0, 1, 0x0, [LC_POS_HI_POS_INT_HI]⟩,
  ⟨.lc, 0x2c, 0, 1, 0x0, [LC_CYCLE_CYCLE]⟩,
  ⟨.lc, 0x30, 0, 1, 0x0, [LC_VEL_VEL]⟩,
  ⟨.lc, 0x34, 0, 1, 0x0, [LC_ACC_ACC]⟩,
  ⟨.lc, 0x38, 0, 1, 0x0, [LC_STAMP_UPDATE]⟩,
  ⟨.lc, 0x3c, 0, 1, 0x0, [LC_XCHK_CH_DIFF, LC_XCHK_SRC_DIFF]⟩,
  ⟨.lc, 0x40, 0, 1, 0x0, [LC_MASTER_CFG_TIME, LC_MASTER_CFG_TOL, LC_MASTER_CFG_EN]⟩,
  ⟨.lc, 0x44, 0, 1, 0x0, [LC_MASTER_DIFF_DIFF]⟩,
  ⟨.lc, 0x100, 32, 4, 0x0, [AE_ENC_n_CFG_EDGE_MAX, AE_ENC_n_CFG_SSI_CLK, AE_ENC_n_CFG_SSI_BITS, AE_ENC_n_CFG_INVERT, AE_ENC_n_CFG_ZREF, AE_ENC_n_CFG_TYPE]⟩,
  ⟨.lc, 0x104, 32, 4, 0x0, [AE_ENC_n_NUM_NUM]⟩,
  ⟨.lc, 0x108, 32, 4, 0x0, [AE_ENC_n_DEN_DEN]⟩,
  ⟨.lc, 0x10c, 32, 4, 0x0, [AE_ENC_n_OFFSET_OFFSET]⟩,
  ⟨.lc, 0x110, 32, 4, 0x0, [AE_ENC_n_STATUS_REALIGNS, AE_ENC_n_STATUS_REFD, AE_ENC_n_STATUS_ZDEV, AE_ENC_n_STATUS_FRAME, AE_ENC_n_STATUS_AMPL, AE_ENC_n_STATUS_RATE, AE_ENC_n_STATUS_ILLEGAL, AE_ENC_n_STATUS_WIRE, AE_ENC_n_STATUS_EXCLUDED]⟩,
  ⟨.lc, 0x114, 32, 4, 0x0, [AE_ENC_n_COUNT_COUNT]⟩,
  ⟨.lc, 0x400, 0, 1, 0x0, [CAM_CFG_ORIGIN_EN, CAM_CFG_ORIGIN_SIG, CAM_CFG_HYST]⟩,
  ⟨.lc, 0x404, 0, 1, 0x0, [CAM_ORIGIN_LO_ORIGIN_LO]⟩,
  ⟨.lc, 0x408, 0, 1, 0x0, [CAM_ORIGIN_HI_ORIGIN_HI]⟩]

def regTableB1 : List RegDesc := [
  ⟨.lc, 0x40c, 0, 1, 0x0, [CAM_CRC_CRC]⟩,
  ⟨.lc, 0x410, 0, 1, 0x0, [CAM_WIN_LO_OPEN]⟩,
  ⟨.lc, 0x414, 0, 1, 0x0, [CAM_WIN_HI_OPEN]⟩,
  ⟨.lc, 0x418, 0, 1, 0x0, [CAM_COUNT_LATE, CAM_COUNT_UNCONF]⟩,
  ⟨.lc, 0x41c, 0, 1, 0x0, [CAM_STATUS_FAR_COUNT, CAM_STATUS_FAR]⟩,
  ⟨.lc, 0x500, 4, 64, 0x0, [CAM_WIN_n_CFG_TARGET, CAM_WIN_n_CFG_DIR, CAM_WIN_n_CFG_TEST]⟩,
  ⟨.lc, 0x2000, 8, 1024, 0x0, [CAM_PT_n_POS_POS]⟩,
  ⟨.lc, 0x2004, 8, 1024, 0x0, [CAM_PT_n_ACT_PREDICT, CAM_PT_n_ACT_TARGET, CAM_PT_n_ACT_DIR, CAM_PT_n_ACT_ACTION]⟩,
  ⟨.sin, 0x0, 8, 24, 0x0, [SIN_PAIR_n_CFG_FK_EN, SIN_PAIR_n_CFG_FK_FILT, SIN_PAIR_n_CFG_MODE, SIN_PAIR_n_CFG_SRC_Y, SIN_PAIR_n_CFG_SRC_X, SIN_PAIR_n_CFG_FK_GROUP]⟩,
  ⟨.sin, 0x4, 8, 24, 0x0, [SIN_PAIR_n_TIME_DISC, SIN_PAIR_n_TIME_FILT, SIN_PAIR_n_TIME_OSSD_TOL]⟩,
  ⟨.sin, 0x100, 0, 1, 0x0, [SIN_CMP_A_LO_FILT]⟩,
  ⟨.sin, 0x104, 0, 1, 0x0, [SIN_CMP_A_HI_FILT]⟩,
  ⟨.sin, 0x110, 0, 1, 0x0, [SIN_PAIR_STATE_RELEASED]⟩,
  ⟨.sin, 0x114, 0, 1, 0x0, [SIN_DISC_RUN_RUN]⟩,
  ⟨.sin, 0x118, 0, 1, 0x0, [SIN_FK_STAT_FIRED]⟩,
  ⟨.sin, 0x11c, 0, 1, 0x0, [SIN_FK_CRC_IMG_CRC]⟩,
  ⟨.sin, 0x120, 0, 1, 0x0, [SIN_FK_CRC_DIE_CRC]⟩,
  ⟨.sin, 0x124, 0, 1, 0x0, [SIN_DIE_STATUS_STUCK_CNT_B, SIN_DIE_STATUS_STUCK_CNT_A, SIN_DIE_STATUS_REF_B, SIN_DIE_STATUS_FRAME_B, SIN_DIE_STATUS_REF_A, SIN_DIE_STATUS_FRAME_A]⟩,
  ⟨.sin, 0x200, 4, 24, 0x0, [SIN_PAIR_n_FAULT_XSRC, SIN_PAIR_n_FAULT_PEND_CYCLE, SIN_PAIR_n_FAULT_SRC, SIN_PAIR_n_FAULT_XCIRC_Y, SIN_PAIR_n_FAULT_XCIRC_X, SIN_PAIR_n_FAULT_SHORT_Y, SIN_PAIR_n_FAULT_SHORT_X, SIN_PAIR_n_FAULT_STUCK_DIE, SIN_PAIR_n_FAULT_STUCK_Y, SIN_PAIR_n_FAULT_STUCK_X, SIN_PAIR_n_FAULT_CMP_DIS_Y, SIN_PAIR_n_FAULT_CMP_DIS_X, SIN_PAIR_n_FAULT_DISC]⟩,
  ⟨.sin, 0x108, 0, 1, 0x0, [SIN_CMP_B_LO_FILT]⟩,
  ⟨.sin, 0x10c, 0, 1, 0x0, [SIN_CMP_B_HI_FILT]⟩,
  ⟨.sin, 0x800, 16, 8, 0x0, [TPS_n_CFG_INTERVAL, TPS_n_CFG_PLACED, TPS_n_CFG_WIDTH, TPS_n_CFG_SETTLE]⟩,
  ⟨.sin, 0x804, 16, 8, 0x0, [TPS_n_STAT_UNPLACED, TPS_n_STAT_LOW_IDLE, TPS_n_STAT_NOT_LOW, TPS_n_STAT_ACTIVE]⟩,
  ⟨.sin, 0x808, 16, 8, 0x0, [TPS_n_LAST_UPDATE]⟩,
  ⟨.sout, 0x0, 32, 16, 0x0, [SOUT_n_CFG_OPEN_LOAD, SOUT_n_CFG_OPEN_CLASS, SOUT_n_CFG_PLACED, SOUT_n_CFG_STO, SOUT_n_CFG_TESTED, SOUT_n_CFG_LS_SEL, SOUT_n_CFG_MODE]⟩]

def regTableB2 : List RegDesc := [
  ⟨.sout, 0x4, 32, 16, 0x0, [SOUT_n_TEST_INTERVAL, SOUT_n_TEST_WIDTH]⟩,
  ⟨.sout, 0x8, 32, 16, 0x0, [SOUT_n_STAT_UNPLACED, SOUT_n_STAT_ABORTED]⟩,
  ⟨.sout, 0xc, 32, 16, 0x0, [SOUT_n_FAULT_PHASE, SOUT_n_FAULT_LS, SOUT_n_FAULT_OPEN_LOAD, SOUT_n_FAULT_RB_DIS, SOUT_n_FAULT_LIMIT_B, SOUT_n_FAULT_LIMIT_A, SOUT_n_FAULT_FEED, SOUT_n_FAULT_OPEN_B, SOUT_n_FAULT_OPEN_A, SOUT_n_FAULT_STUCK_B, SOUT_n_FAULT_STUCK_A]⟩,
  ⟨.sout, 0x10, 32, 16, 0x0, [SOUT_n_RON_RON_B, SOUT_n_RON_RON_A]⟩,
  ⟨.sout, 0x14, 32, 16, 0x0, [SOUT_n_LAST_UPDATE]⟩,
  ⟨.sout, 0x200, 0, 1, 0x0, [SOUT_RB_M_DIE_B, SOUT_RB_M_DIE_A]⟩,
  ⟨.sout, 0x204, 0, 1, 0x0, [SOUT_RB_O_DIE_B, SOUT_RB_O_DIE_A]⟩,
  ⟨.sout, 0x208, 0, 1, 0x0, [SOUT_KILL_HELD_B, SOUT_KILL_HELD_A]⟩,
  ⟨.sout, 0x20c, 0, 1, 0x0, [SOUT_DIE_STATUS_ATTR_CNT_B, SOUT_DIE_STATUS_ATTR_CNT_A, SOUT_DIE_STATUS_PUMP_B, SOUT_DIE_STATUS_REF_B, SOUT_DIE_STATUS_FRAME_B, SOUT_DIE_STATUS_PUMP_A, SOUT_DIE_STATUS_REF_A, SOUT_DIE_STATUS_FRAME_A]⟩,
  ⟨.sout, 0x210, 0, 1, 0x32, [SOUT_VERIFY_VERIFY]⟩,
  ⟨.sout, 0x300, 16, 4, 0x0, [SOUT_LS_n_CFG_INTERVAL, SOUT_LS_n_CFG_WIDTH]⟩,
  ⟨.sout, 0x304, 16, 4, 0x0, [SOUT_LS_n_STAT_ABORTED, SOUT_LS_n_STAT_LIMIT, SOUT_LS_n_STAT_FAIL_CLOSE, SOUT_LS_n_STAT_STUCK, SOUT_LS_n_STAT_HELD, SOUT_LS_n_STAT_CLOSED]⟩]

/-- The descriptors of LC, AE, CAM, SIN, TPS and SOUT. -/
def regTableB : List RegDesc := regTableB0 ++ regTableB1 ++ regTableB2

end Sys2Proof.Machine
end

