-- ==== Sys2Proof/Machine/RegsC.lean ====
section
/-! DEFINITION. The register fields of LGE, DSF, NET, GOA, LLK and REC, one definition a field, and their descriptors, as the register tables of the owning chapters of spec/ give them (block, offset, stride, bits, access code of R8, retention class of R9). -/

namespace Sys2Proof.Machine


/-! LGE_IMG_STATUS: block LGE, offset 0x000 (05_logic_graph.md). -/
def LGE_IMG_STATUS_ERR_CODE : Fld := ⟨.lge, 0x0, 0, 31, 16, .ro, .v, 0x0⟩
def LGE_IMG_STATUS_SECTION : Fld := ⟨.lge, 0x0, 0, 15, 8, .ro, .v, 0x0⟩
def LGE_IMG_STATUS_STATE : Fld := ⟨.lge, 0x0, 0, 1, 0, .ro, .v, 0x0⟩

/-! LGE_IMG_RECORD: block LGE, offset 0x004 (05_logic_graph.md). -/
def LGE_IMG_RECORD_OFFSET : Fld := ⟨.lge, 0x4, 0, 31, 0, .ro, .v, 0x0⟩

/-! LGE_IMG_VERSION: block LGE, offset 0x008 (05_logic_graph.md). -/
def LGE_IMG_VERSION_VERSION : Fld := ⟨.lge, 0x8, 0, 31, 0, .ro, .c, 0x0⟩

/-! LGE_IMG_SLOT: block LGE, offset 0x00C (05_logic_graph.md). -/
def LGE_IMG_SLOT_SLOT : Fld := ⟨.lge, 0xc, 0, 8, 8, .ro, .c, 0x0⟩
def LGE_IMG_SLOT_ROLLBACK : Fld := ⟨.lge, 0xc, 0, 5, 0, .ro, .c, 0x0⟩

/-! LGE_IMG_HASH_n: block LGE, offset 0x010 + 4·n (05_logic_graph.md). -/
def LGE_IMG_HASH_n_HASH : Fld := ⟨.lge, 0x10, 4, 31, 0, .ro, .c, 0x0⟩

/-! LGE_COUNTS: block LGE, offset 0x030 (05_logic_graph.md). -/
def LGE_COUNTS_SF : Fld := ⟨.lge, 0x30, 0, 23, 16, .ro, .c, 0x0⟩
def LGE_COUNTS_INST : Fld := ⟨.lge, 0x30, 0, 9, 0, .ro, .c, 0x0⟩

/-! LGE_REFIT: block LGE, offset 0x040 (05_logic_graph.md). -/
def LGE_REFIT_ERR_CODE : Fld := ⟨.lge, 0x40, 0, 31, 16, .ro, .w, 0x0⟩
def LGE_REFIT_PHASE : Fld := ⟨.lge, 0x40, 0, 2, 0, .ro, .w, 0x0⟩

/-! LGE_SF_FAULT_n: block LGE, offset 0x050 + 4·n (05_logic_graph.md). -/
def LGE_SF_FAULT_n_FAULT : Fld := ⟨.lge, 0x50, 4, 31, 0, .ro, .v, 0x0⟩

/-! LGE_SF_SAFE_n: block LGE, offset 0x060 + 4·n (05_logic_graph.md). -/
def LGE_SF_SAFE_n_SAFE : Fld := ⟨.lge, 0x60, 4, 31, 0, .ro, .v, 0x0⟩

/-! LGE_SF_RIL_n: block LGE, offset 0x070 + 4·n (05_logic_graph.md). -/
def LGE_SF_RIL_n_WAIT : Fld := ⟨.lge, 0x70, 4, 31, 0, .ro, .v, 0x0⟩

/-! LGE_SF_REFIT_n: block LGE, offset 0x080 + 4·n (05_logic_graph.md). -/
def LGE_SF_REFIT_n_HELD : Fld := ⟨.lge, 0x80, 4, 31, 0, .ro, .v, 0x0⟩

/-! LGE_MISMATCH: block LGE, offset 0x090 (05_logic_graph.md). -/
def LGE_MISMATCH_COUNT : Fld := ⟨.lge, 0x90, 0, 31, 16, .ro, .w, 0x0⟩

/-! LGE_SIG_n: block LGE, offset 0x1000 + 4·n (05_logic_graph.md). -/
def LGE_SIG_n_VALUE : Fld := ⟨.lge, 0x1000, 4, 31, 0, .ro, .v, 0x0⟩

/-! LGE_INST_n: block LGE, offset 0x4000 + 4·n (05_logic_graph.md). -/
def LGE_INST_n_TYPE : Fld := ⟨.lge, 0x4000, 4, 31, 24, .ro, .c, 0x0⟩
def LGE_INST_n_SF : Fld := ⟨.lge, 0x4000, 4, 23, 16, .ro, .c, 0x0⟩
def LGE_INST_n_FAULT : Fld := ⟨.lge, 0x4000, 4, 3, 3, .ro, .v, 0x0⟩
def LGE_INST_n_MUTED : Fld := ⟨.lge, 0x4000, 4, 2, 2, .ro, .v, 0x0⟩
def LGE_INST_n_HELD : Fld := ⟨.lge, 0x4000, 4, 1, 1, .ro, .v, 0x0⟩
def LGE_INST_n_Q : Fld := ⟨.lge, 0x4000, 4, 0, 0, .ro, .v, 0x0⟩

/-! DSF_CFG: block DSF, offset 0x000 (06_stop_and_motion.md). -/
def DSF_CFG_SBC_ORDER : Fld := ⟨.dsf, 0x0, 0, 7, 7, .rws, .c, 0x0⟩
def DSF_CFG_CL2_REEF : Fld := ⟨.dsf, 0x0, 0, 6, 6, .rws, .c, 0x0⟩
def DSF_CFG_MODE : Fld := ⟨.dsf, 0x0, 0, 1, 0, .rws, .c, 0x0⟩

/-! DSF_GROUPS: block DSF, offset 0x004 (06_stop_and_motion.md). -/
def DSF_GROUPS_MEMBER : Fld := ⟨.dsf, 0x4, 0, 15, 0, .rws, .c, 0x0⟩

/-! DSF_TIME: block DSF, offset 0x008 (06_stop_and_motion.md). -/
def DSF_TIME_T_STOP : Fld := ⟨.dsf, 0x8, 0, 31, 16, .rws, .c, 0x0⟩
def DSF_TIME_T_DELAY : Fld := ⟨.dsf, 0x8, 0, 12, 0, .rws, .c, 0x0⟩

/-! DSF_FURL: block DSF, offset 0x00C (06_stop_and_motion.md). -/
def DSF_FURL_TIME : Fld := ⟨.dsf, 0xc, 0, 15, 0, .rws, .c, 0x0⟩

/-! DSF_VRUN: block DSF, offset 0x010 (06_stop_and_motion.md). -/
def DSF_VRUN_SPEED : Fld := ⟨.dsf, 0x10, 0, 22, 0, .rws, .c, 0x0⟩

/-! DSF_AENV: block DSF, offset 0x01C (06_stop_and_motion.md). -/
def DSF_AENV_ACC : Fld := ⟨.dsf, 0x1c, 0, 31, 0, .rws, .c, 0x0⟩

/-! DSF_DLIM: block DSF, offset 0x024 (06_stop_and_motion.md). -/
def DSF_DLIM_DIST : Fld := ⟨.dsf, 0x24, 0, 31, 0, .rws, .c, 0x0⟩

/-! DSF_SBC_MAP: block DSF, offset 0x02C (06_stop_and_motion.md). -/
def DSF_SBC_MAP_BRAKE : Fld := ⟨.dsf, 0x2c, 0, 15, 0, .rws, .c, 0x0⟩

/-! DSF_SBC_TIME: block DSF, offset 0x030 (06_stop_and_motion.md). -/
def DSF_SBC_TIME_T_REL : Fld := ⟨.dsf, 0x30, 0, 31, 20, .rws, .c, 0x0⟩
def DSF_SBC_TIME_FB_TIME : Fld := ⟨.dsf, 0x30, 0, 19, 10, .rws, .c, 0x0⟩
def DSF_SBC_TIME_T_OVERLAP : Fld := ⟨.dsf, 0x30, 0, 9, 0, .rws, .c, 0x0⟩

/-! DSF_FURL_CRC_IMG: block DSF, offset 0x034 (06_stop_and_motion.md). -/
def DSF_FURL_CRC_IMG_CRC : Fld := ⟨.dsf, 0x34, 0, 31, 0, .rws, .c, 0x0⟩

/-! DSF_FURL_CRC_DIE: block DSF, offset 0x038 (06_stop_and_motion.md). -/
def DSF_FURL_CRC_DIE_CRC : Fld := ⟨.dsf, 0x38, 0, 31, 0, .ro, .v, 0x0⟩

/-! DSF_STATUS: block DSF, offset 0x100 (06_stop_and_motion.md). -/
def DSF_STATUS_END_CAUSE : Fld := ⟨.dsf, 0x100, 0, 27, 24, .ro, .v, 0x0⟩
def DSF_STATUS_START_CAUSE : Fld := ⟨.dsf, 0x100, 0, 23, 20, .ro, .v, 0x0⟩
def DSF_STATUS_SURVIVOR : Fld := ⟨.dsf, 0x100, 0, 11, 11, .ro, .v, 0x0⟩
def DSF_STATUS_HOLD_OTHER : Fld := ⟨.dsf, 0x100, 0, 10, 10, .ro, .v, 0x0⟩
def DSF_STATUS_FURL_B : Fld := ⟨.dsf, 0x100, 0, 9, 9, .ro, .v, 0x0⟩
def DSF_STATUS_FURL_A : Fld := ⟨.dsf, 0x100, 0, 8, 8, .ro, .v, 0x0⟩
def DSF_STATUS_PHASE : Fld := ⟨.dsf, 0x100, 0, 2, 0, .ro, .v, 0x0⟩

/-! DSF_START_GROUPS: block DSF, offset 0x104 (06_stop_and_motion.md). -/
def DSF_START_GROUPS_GROUPS : Fld := ⟨.dsf, 0x104, 0, 15, 0, .ro, .v, 0x0⟩

/-! DSF_P0_LO: block DSF, offset 0x108 (06_stop_and_motion.md). -/
def DSF_P0_LO_POS_LO : Fld := ⟨.dsf, 0x108, 0, 31, 0, .ro, .v, 0x0⟩

/-! DSF_P0_HI: block DSF, offset 0x10C (06_stop_and_motion.md). -/
def DSF_P0_HI_POS_HI : Fld := ⟨.dsf, 0x10c, 0, 31, 0, .ro, .v, 0x0⟩

/-! DSF_V0: block DSF, offset 0x120 (06_stop_and_motion.md). -/
def DSF_V0_SPEED : Fld := ⟨.dsf, 0x120, 0, 22, 0, .ro, .v, 0x0⟩

/-! DSF_ELAPSED: block DSF, offset 0x128 (06_stop_and_motion.md). -/
def DSF_ELAPSED_TIME : Fld := ⟨.dsf, 0x128, 0, 31, 0, .ro, .v, 0x0⟩

/-! DSF_FURL_REMAIN: block DSF, offset 0x12C (06_stop_and_motion.md). -/
def DSF_FURL_REMAIN_DIE_B : Fld := ⟨.dsf, 0x12c, 0, 31, 16, .ro, .v, 0x0⟩
def DSF_FURL_REMAIN_DIE_A : Fld := ⟨.dsf, 0x12c, 0, 15, 0, .ro, .v, 0x0⟩

/-! DSF_COUNTS: block DSF, offset 0x130 (06_stop_and_motion.md). -/
def DSF_COUNTS_FURLED : Fld := ⟨.dsf, 0x130, 0, 31, 16, .ro, .w, 0x0⟩
def DSF_COUNTS_COMPLETED : Fld := ⟨.dsf, 0x130, 0, 15, 0, .ro, .w, 0x0⟩

/-! DSF_VMARGIN: block DSF, offset 0x014 (06_stop_and_motion.md). -/
def DSF_VMARGIN_SPEED : Fld := ⟨.dsf, 0x14, 0, 22, 0, .rws, .c, 0x0⟩

/-! DSF_VEND: block DSF, offset 0x018 (06_stop_and_motion.md). -/
def DSF_VEND_SPEED : Fld := ⟨.dsf, 0x18, 0, 22, 0, .rws, .c, 0x0⟩

/-! DSF_AMIN: block DSF, offset 0x020 (06_stop_and_motion.md). -/
def DSF_AMIN_ACC : Fld := ⟨.dsf, 0x20, 0, 31, 0, .rws, .c, 0x0⟩

/-! DSF_ARAMP: block DSF, offset 0x028 (06_stop_and_motion.md). -/
def DSF_ARAMP_ACC : Fld := ⟨.dsf, 0x28, 0, 31, 0, .rws, .c, 0x0⟩

/-! DSF_LIMIT_LO: block DSF, offset 0x110 (06_stop_and_motion.md). -/
def DSF_LIMIT_LO_POS_LO : Fld := ⟨.dsf, 0x110, 0, 31, 0, .ro, .v, 0x0⟩

/-! DSF_LIMIT_HI: block DSF, offset 0x114 (06_stop_and_motion.md). -/
def DSF_LIMIT_HI_POS_HI : Fld := ⟨.dsf, 0x114, 0, 31, 0, .ro, .v, 0x0⟩

/-! DSF_PRED_LO: block DSF, offset 0x118 (06_stop_and_motion.md). -/
def DSF_PRED_LO_POS_LO : Fld := ⟨.dsf, 0x118, 0, 31, 0, .ro, .v, 0x0⟩

/-! DSF_PRED_HI: block DSF, offset 0x11C (06_stop_and_motion.md). -/
def DSF_PRED_HI_POS_HI : Fld := ⟨.dsf, 0x11c, 0, 31, 0, .ro, .v, 0x0⟩

/-! DSF_VENV: block DSF, offset 0x124 (06_stop_and_motion.md). -/
def DSF_VENV_SPEED : Fld := ⟨.dsf, 0x124, 0, 22, 0, .ro, .v, 0x0⟩

/-! NET_n_CFG: block NET, offset 0x000 + 0x100·n (09_goale_networking.md). -/
def NET_n_CFG_EN : Fld := ⟨.net, 0x0, 256, 31, 31, .rws, .c, 0xc000⟩
def NET_n_CFG_P2_EN : Fld := ⟨.net, 0x0, 256, 30, 30, .rws, .c, 0xc000⟩
def NET_n_CFG_P1_EN : Fld := ⟨.net, 0x0, 256, 29, 29, .rws, .c, 0xc000⟩
def NET_n_CFG_ICMP : Fld := ⟨.net, 0x0, 256, 28, 28, .rws, .c, 0xc000⟩
def NET_n_CFG_PTP_MODE : Fld := ⟨.net, 0x0, 256, 27, 26, .rws, .c, 0xc000⟩
def NET_n_CFG_PTP_P2P : Fld := ⟨.net, 0x0, 256, 25, 25, .rws, .c, 0xc000⟩
def NET_n_CFG_PTP_L2 : Fld := ⟨.net, 0x0, 256, 24, 24, .rws, .c, 0xc000⟩
def NET_n_CFG_PTP_DOMAIN : Fld := ⟨.net, 0x0, 256, 22, 16, .rws, .c, 0xc000⟩
def NET_n_CFG_PCP : Fld := ⟨.net, 0x0, 256, 15, 13, .rws, .c, 0xc000⟩
def NET_n_CFG_VLAN_EN : Fld := ⟨.net, 0x0, 256, 12, 12, .rws, .c, 0xc000⟩
def NET_n_CFG_VID : Fld := ⟨.net, 0x0, 256, 11, 0, .rws, .c, 0xc000⟩

/-! NET_n_IP: block NET, offset 0x004 + 0x100·n (09_goale_networking.md). -/
def NET_n_IP_ADDR : Fld := ⟨.net, 0x4, 256, 31, 0, .rws, .w, 0x0⟩

/-! NET_n_MAC_HI: block NET, offset 0x010 + 0x100·n (09_goale_networking.md). -/
def NET_n_MAC_HI_MAC_HI : Fld := ⟨.net, 0x10, 256, 15, 0, .ro, .p, 0x0⟩

/-! NET_n_MAC_LO: block NET, offset 0x014 + 0x100·n (09_goale_networking.md). -/
def NET_n_MAC_LO_MAC_LO : Fld := ⟨.net, 0x14, 256, 31, 0, .ro, .p, 0x0⟩

/-! NET_n_RAMP_DEST: block NET, offset 0x018 + 0x100·n (09_goale_networking.md). -/
def NET_n_RAMP_DEST_ADDR : Fld := ⟨.net, 0x18, 256, 31, 0, .rws, .c, 0x0⟩

/-! NET_n_PHY: block NET, offset 0x020 + 0x100·n (09_goale_networking.md). -/
def NET_n_PHY_P2_ADDR : Fld := ⟨.net, 0x20, 256, 12, 8, .rws, .c, 0x0⟩
def NET_n_PHY_P1_ADDR : Fld := ⟨.net, 0x20, 256, 4, 0, .rws, .c, 0x0⟩

/-! NET_n_STATUS: block NET, offset 0x024 + 0x100·n (09_goale_networking.md). -/
def NET_n_STATUS_PTP_STATE : Fld := ⟨.net, 0x24, 256, 17, 16, .ro, .v, 0x0⟩
def NET_n_STATUS_NPE_OK : Fld := ⟨.net, 0x24, 256, 4, 4, .ro, .v, 0x0⟩
def NET_n_STATUS_P2_1000 : Fld := ⟨.net, 0x24, 256, 3, 3, .ro, .v, 0x0⟩
def NET_n_STATUS_P2_UP : Fld := ⟨.net, 0x24, 256, 2, 2, .ro, .v, 0x0⟩
def NET_n_STATUS_P1_1000 : Fld := ⟨.net, 0x24, 256, 1, 1, .ro, .v, 0x0⟩
def NET_n_STATUS_P1_UP : Fld := ⟨.net, 0x24, 256, 0, 0, .ro, .v, 0x0⟩

/-! NET_n_PTP_OFFSET: block NET, offset 0x028 + 0x100·n (09_goale_networking.md). -/
def NET_n_PTP_OFFSET_OFFSET : Fld := ⟨.net, 0x28, 256, 31, 0, .ro, .v, 0x0⟩

/-! NET_n_COUNT: block NET, offset 0x02C + 0x100·n (09_goale_networking.md). -/
def NET_n_COUNT_UNKNOWN : Fld := ⟨.net, 0x2c, 256, 31, 16, .rc, .v, 0x0⟩
def NET_n_COUNT_FORMAT : Fld := ⟨.net, 0x2c, 256, 15, 0, .rc, .v, 0x0⟩

/-! NET_n_POLICE: block NET, offset 0x030 + 0x100·n (09_goale_networking.md). -/
def NET_n_POLICE_POLICED : Fld := ⟨.net, 0x30, 256, 31, 16, .rc, .v, 0x0⟩
def NET_n_POLICE_SLOT_FULL : Fld := ⟨.net, 0x30, 256, 15, 0, .rc, .v, 0x0⟩

/-! NET_NODE: block NET, offset 0x200 (09_goale_networking.md). -/
def NET_NODE_NODE : Fld := ⟨.net, 0x200, 0, 15, 0, .rws, .c, 0x0⟩

/-! NET_UDP: block NET, offset 0x204 (09_goale_networking.md). -/
def NET_UDP_AUX_PORT : Fld := ⟨.net, 0x204, 0, 31, 16, .rws, .c, 0xb41fb41e⟩
def NET_UDP_GOALE_PORT : Fld := ⟨.net, 0x204, 0, 15, 0, .rws, .c, 0xb41fb41e⟩

/-! NET_MASTER: block NET, offset 0x208 (09_goale_networking.md). -/
def NET_MASTER_STALE : Fld := ⟨.net, 0x208, 0, 7, 0, .rws, .c, 0x0⟩

/-! NET_n_MASK: block NET, offset 0x008 + 0x100·n (09_goale_networking.md). -/
def NET_n_MASK_ADDR : Fld := ⟨.net, 0x8, 256, 31, 0, .rws, .w, 0x0⟩

/-! NET_n_GW: block NET, offset 0x00C + 0x100·n (09_goale_networking.md). -/
def NET_n_GW_ADDR : Fld := ⟨.net, 0xc, 256, 31, 0, .rws, .w, 0x0⟩

/-! NET_n_MASTER_SRC: block NET, offset 0x01C + 0x100·n (09_goale_networking.md). -/
def NET_n_MASTER_SRC_ADDR : Fld := ⟨.net, 0x1c, 256, 31, 0, .rws, .c, 0x0⟩

/-! GOA_KEY: block GOA, offset 0x400 (09_goale_networking.md). -/
def GOA_KEY_OTHER_EPOCH : Fld := ⟨.net, 0x400, 0, 23, 16, .ro, .w, 0x0⟩
def GOA_KEY_ACTIVE_EPOCH : Fld := ⟨.net, 0x400, 0, 15, 8, .ro, .w, 0x0⟩

/-! GOA_RUN_n: block GOA, offset 0x410 + 4·n (09_goale_networking.md). -/
def GOA_RUN_n_RUN : Fld := ⟨.net, 0x410, 4, 31, 0, .ro, .v, 0x0⟩

/-! GOA_SES_n_CFG: block GOA, offset 0x1000 + 0x20·n (09_goale_networking.md). -/
def GOA_SES_n_CFG_EN : Fld := ⟨.net, 0x1000, 32, 31, 31, .rws, .c, 0x0⟩
def GOA_SES_n_CFG_SINGLE_OK : Fld := ⟨.net, 0x1000, 32, 30, 30, .rws, .c, 0x0⟩
def GOA_SES_n_CFG_GRP_PEER : Fld := ⟨.net, 0x1000, 32, 29, 29, .rws, .c, 0x0⟩
def GOA_SES_n_CFG_TX_BW : Fld := ⟨.net, 0x1000, 32, 28, 27, .rws, .c, 0x0⟩
def GOA_SES_n_CFG_TX_VW : Fld := ⟨.net, 0x1000, 32, 26, 22, .rws, .c, 0x0⟩
def GOA_SES_n_CFG_RX_BW : Fld := ⟨.net, 0x1000, 32, 21, 20, .rws, .c, 0x0⟩
def GOA_SES_n_CFG_RX_VW : Fld := ⟨.net, 0x1000, 32, 19, 15, .rws, .c, 0x0⟩
def GOA_SES_n_CFG_RX_BIT_BASE : Fld := ⟨.net, 0x1000, 32, 3, 0, .rws, .c, 0x0⟩

/-! GOA_SES_n_PEER: block GOA, offset 0x1004 + 0x20·n (09_goale_networking.md). -/
def GOA_SES_n_PEER_PEER_NODE : Fld := ⟨.net, 0x1004, 32, 31, 16, .rws, .c, 0x0⟩
def GOA_SES_n_PEER_CONN_ID : Fld := ⟨.net, 0x1004, 32, 15, 0, .rws, .c, 0x0⟩

/-! GOA_SES_n_ADDR_X: block GOA, offset 0x1008 + 0x20·n (09_goale_networking.md). -/
def GOA_SES_n_ADDR_X_ADDR : Fld := ⟨.net, 0x1008, 32, 31, 0, .rws, .c, 0x0⟩

/-! GOA_SES_n_TIME: block GOA, offset 0x1010 + 0x20·n (09_goale_networking.md). -/
def GOA_SES_n_TIME_WD : Fld := ⟨.net, 0x1010, 32, 31, 23, .rws, .c, 0x0⟩
def GOA_SES_n_TIME_RX_PERIOD : Fld := ⟨.net, 0x1010, 32, 22, 13, .rws, .c, 0x0⟩
def GOA_SES_n_TIME_TX_PERIOD : Fld := ⟨.net, 0x1010, 32, 12, 3, .rws, .c, 0x0⟩

/-! GOA_SES_n_WIN: block GOA, offset 0x1014 + 0x20·n (09_goale_networking.md). -/
def GOA_SES_n_WIN_SKEW : Fld := ⟨.net, 0x1014, 32, 31, 25, .rws, .c, 0x0⟩
def GOA_SES_n_WIN_AGE : Fld := ⟨.net, 0x1014, 32, 24, 16, .rws, .c, 0x0⟩
def GOA_SES_n_WIN_RX_VAL_BASE : Fld := ⟨.net, 0x1014, 32, 6, 0, .rws, .c, 0x0⟩

/-! GOA_SES_n_STATUS: block GOA, offset 0x1018 + 0x20·n (09_goale_networking.md). -/
def GOA_SES_n_STATUS_ALIVE_LO : Fld := ⟨.net, 0x1018, 32, 31, 16, .ro, .v, 0x0⟩
def GOA_SES_n_STATUS_PEER_LC_STATE : Fld := ⟨.net, 0x1018, 32, 10, 8, .ro, .v, 0x0⟩
def GOA_SES_n_STATUS_PEER_RESTART : Fld := ⟨.net, 0x1018, 32, 7, 7, .ro, .v, 0x0⟩
def GOA_SES_n_STATUS_PATH_Y_UP : Fld := ⟨.net, 0x1018, 32, 5, 5, .ro, .v, 0x0⟩
def GOA_SES_n_STATUS_PATH_X_UP : Fld := ⟨.net, 0x1018, 32, 4, 4, .ro, .v, 0x0⟩
def GOA_SES_n_STATUS_STATE : Fld := ⟨.net, 0x1018, 32, 1, 0, .ro, .v, 0x0⟩

/-! GOA_SES_n_COUNT: block GOA, offset 0x101C + 0x20·n (09_goale_networking.md). -/
def GOA_SES_n_COUNT_CRC : Fld := ⟨.net, 0x101c, 32, 31, 24, .rc, .v, 0x0⟩
def GOA_SES_n_COUNT_MAC : Fld := ⟨.net, 0x101c, 32, 23, 16, .rc, .v, 0x0⟩
def GOA_SES_n_COUNT_STALE : Fld := ⟨.net, 0x101c, 32, 15, 8, .rc, .v, 0x0⟩
def GOA_SES_n_COUNT_MISS : Fld := ⟨.net, 0x101c, 32, 7, 0, .rc, .v, 0x0⟩

/-! GOA_FAIL_n: block GOA, offset 0x430 + 4·n (09_goale_networking.md). -/
def GOA_FAIL_n_RUN : Fld := ⟨.net, 0x430, 4, 31, 0, .ro, .v, 0x0⟩

/-! GOA_SINGLE_n: block GOA, offset 0x450 + 4·n (09_goale_networking.md). -/
def GOA_SINGLE_n_RUN : Fld := ⟨.net, 0x450, 4, 31, 0, .ro, .v, 0x0⟩

/-! GOA_SES_n_ADDR_Y: block GOA, offset 0x100C + 0x20·n (09_goale_networking.md). -/
def GOA_SES_n_ADDR_Y_ADDR : Fld := ⟨.net, 0x100c, 32, 31, 0, .rws, .c, 0x0⟩

/-! LLK_CFG: block LLK, offset 0x000 (10_line_link_and_recorder.md). -/
def LLK_CFG_N : Fld := ⟨.llk, 0x0, 0, 15, 10, .rws, .c, 0x0⟩
def LLK_CFG_DN_USED : Fld := ⟨.llk, 0x0, 0, 9, 9, .rws, .c, 0x0⟩
def LLK_CFG_UP_USED : Fld := ⟨.llk, 0x0, 0, 8, 8, .rws, .c, 0x0⟩
def LLK_CFG_RING : Fld := ⟨.llk, 0x0, 0, 5, 5, .rws, .c, 0x0⟩
def LLK_CFG_POS : Fld := ⟨.llk, 0x0, 0, 4, 0, .rws, .c, 0x0⟩

/-! LLK_LINE_CRC: block LLK, offset 0x004 (10_line_link_and_recorder.md). -/
def LLK_LINE_CRC_CRC : Fld := ⟨.llk, 0x4, 0, 31, 0, .rws, .c, 0x0⟩

/-! LLK_WMARK: block LLK, offset 0x008 (10_line_link_and_recorder.md). -/
def LLK_WMARK_LOW : Fld := ⟨.llk, 0x8, 0, 24, 16, .rws, .c, 0x800180⟩
def LLK_WMARK_HIGH : Fld := ⟨.llk, 0x8, 0, 8, 0, .rws, .c, 0x800180⟩

/-! LLK_STATUS: block LLK, offset 0x00C (10_line_link_and_recorder.md). -/
def LLK_STATUS_SINGLE : Fld := ⟨.llk, 0xc, 0, 17, 17, .ro, .v, 0x0⟩
def LLK_STATUS_ARMED : Fld := ⟨.llk, 0xc, 0, 16, 16, .ro, .v, 0x0⟩
def LLK_STATUS_OWN_STOP : Fld := ⟨.llk, 0xc, 0, 15, 0, .ro, .v, 0x0⟩

/-! LLK_GRP: block LLK, offset 0x010 (10_line_link_and_recorder.md). -/
def LLK_GRP_STATE_B : Fld := ⟨.llk, 0x10, 0, 31, 16, .ro, .v, 0x0⟩
def LLK_GRP_STATE_A : Fld := ⟨.llk, 0x10, 0, 15, 0, .ro, .v, 0x0⟩

/-! LLK_GRP_LOST: block LLK, offset 0x014 (10_line_link_and_recorder.md). -/
def LLK_GRP_LOST_COMPLETE : Fld := ⟨.llk, 0x14, 0, 31, 16, .ro, .v, 0x0⟩
def LLK_GRP_LOST_LOST : Fld := ⟨.llk, 0x14, 0, 15, 0, .ro, .v, 0x0⟩

/-! LLK_REACH_LL: block LLK, offset 0x018 (10_line_link_and_recorder.md). -/
def LLK_REACH_LL_POS : Fld := ⟨.llk, 0x18, 0, 31, 0, .ro, .v, 0x0⟩

/-! LLK_PORT_n_STATUS: block LLK, offset 0x020 + 0x10·n (10_line_link_and_recorder.md). -/
def LLK_PORT_n_STATUS_SEQ : Fld := ⟨.llk, 0x20, 16, 31, 24, .ro, .v, 0x0⟩
def LLK_PORT_n_STATUS_LOSTS : Fld := ⟨.llk, 0x20, 16, 23, 16, .ro, .v, 0x0⟩
def LLK_PORT_n_STATUS_XOFF_IN : Fld := ⟨.llk, 0x20, 16, 3, 3, .ro, .v, 0x0⟩
def LLK_PORT_n_STATUS_XOFF_OUT : Fld := ⟨.llk, 0x20, 16, 2, 2, .ro, .v, 0x0⟩
def LLK_PORT_n_STATUS_STATE : Fld := ⟨.llk, 0x20, 16, 1, 0, .ro, .v, 0x0⟩

/-! LLK_PORT_n_COUNT: block LLK, offset 0x024 + 0x10·n (10_line_link_and_recorder.md). -/
def LLK_PORT_n_COUNT_CRC : Fld := ⟨.llk, 0x24, 16, 31, 24, .rc, .v, 0x0⟩
def LLK_PORT_n_COUNT_HALF_DIS : Fld := ⟨.llk, 0x24, 16, 23, 16, .rc, .v, 0x0⟩
def LLK_PORT_n_COUNT_LINE : Fld := ⟨.llk, 0x24, 16, 15, 8, .rc, .v, 0x0⟩
def LLK_PORT_n_COUNT_SEQ : Fld := ⟨.llk, 0x24, 16, 7, 0, .rc, .v, 0x0⟩

/-! LLK_PORT_n_FIFO: block LLK, offset 0x028 + 0x10·n (10_line_link_and_recorder.md). -/
def LLK_PORT_n_FIFO_OVERFLOW : Fld := ⟨.llk, 0x28, 16, 31, 16, .rc, .v, 0x0⟩
def LLK_PORT_n_FIFO_PEAK : Fld := ⟨.llk, 0x28, 16, 9, 0, .rc, .v, 0x0⟩

/-! LLK_LINE_q: block LLK, offset 0x100 + 4·q (10_line_link_and_recorder.md). -/
def LLK_LINE_q_NODE : Fld := ⟨.llk, 0x100, 4, 31, 16, .rws, .c, 0x0⟩
def LLK_LINE_q_MEMBER : Fld := ⟨.llk, 0x100, 4, 15, 0, .rws, .c, 0x0⟩

/-! LLK_ENTRY_q: block LLK, offset 0x200 + 4·q (10_line_link_and_recorder.md). -/
def LLK_ENTRY_q_VALID : Fld := ⟨.llk, 0x200, 4, 31, 31, .ro, .v, 0x0⟩
def LLK_ENTRY_q_HOPS : Fld := ⟨.llk, 0x200, 4, 30, 26, .ro, .v, 0x0⟩
def LLK_ENTRY_q_FROM_DN : Fld := ⟨.llk, 0x200, 4, 17, 17, .ro, .v, 0x0⟩
def LLK_ENTRY_q_FROM_UP : Fld := ⟨.llk, 0x200, 4, 16, 16, .ro, .v, 0x0⟩
def LLK_ENTRY_q_GSTOP : Fld := ⟨.llk, 0x200, 4, 15, 0, .ro, .v, 0x0⟩

/-! LLK_REACH_GOA: block LLK, offset 0x01C (10_line_link_and_recorder.md). -/
def LLK_REACH_GOA_POS : Fld := ⟨.llk, 0x1c, 0, 31, 0, .ro, .v, 0x0⟩

/-! REC_CFG: block REC, offset 0x400 (10_line_link_and_recorder.md). -/
def REC_CFG_EN : Fld := ⟨.llk, 0x400, 0, 31, 31, .rws, .c, 0x0⟩
def REC_CFG_RELAY : Fld := ⟨.llk, 0x400, 0, 30, 29, .rws, .c, 0x0⟩
def REC_CFG_FLUSH : Fld := ⟨.llk, 0x400, 0, 25, 16, .rws, .c, 0x0⟩
def REC_CFG_TYPES : Fld := ⟨.llk, 0x400, 0, 15, 0, .rws, .c, 0x0⟩

/-! REC_WMARK: block REC, offset 0x404 (10_line_link_and_recorder.md). -/
def REC_WMARK_LOW : Fld := ⟨.llk, 0x404, 0, 29, 16, .rws, .c, 0x4001000⟩
def REC_WMARK_HIGH : Fld := ⟨.llk, 0x404, 0, 13, 0, .rws, .c, 0x4001000⟩

/-! REC_STATUS: block REC, offset 0x408 (10_line_link_and_recorder.md). -/
def REC_STATUS_CLK_SEEN : Fld := ⟨.llk, 0x408, 0, 17, 17, .ro, .v, 0x0⟩
def REC_STATUS_RDY : Fld := ⟨.llk, 0x408, 0, 16, 16, .ro, .v, 0x0⟩
def REC_STATUS_LEVEL : Fld := ⟨.llk, 0x408, 0, 13, 0, .ro, .v, 0x0⟩

/-! REC_COUNT: block REC, offset 0x40C (10_line_link_and_recorder.md). -/
def REC_COUNT_DROPPED : Fld := ⟨.llk, 0x40c, 0, 31, 16, .rc, .v, 0x0⟩
def REC_COUNT_RELAYED : Fld := ⟨.llk, 0x40c, 0, 15, 0, .rc, .v, 0x0⟩

def regTableC0 : List RegDesc := [
  ⟨.lge, 0x0, 0, 1, 0x0, [LGE_IMG_STATUS_ERR_CODE, LGE_IMG_STATUS_SECTION, LGE_IMG_STATUS_STATE]⟩,
  ⟨.lge, 0x4, 0, 1, 0x0, [LGE_IMG_RECORD_OFFSET]⟩,
  ⟨.lge, 0x8, 0, 1, 0x0, [LGE_IMG_VERSION_VERSION]⟩,
  ⟨.lge, 0xc, 0, 1, 0x0, [LGE_IMG_SLOT_SLOT, LGE_IMG_SLOT_ROLLBACK]⟩,
  ⟨.lge, 0x10, 4, 8, 0x0, [LGE_IMG_HASH_n_HASH]⟩,
  ⟨.lge, 0x30, 0, 1, 0x0, [LGE_COUNTS_SF, LGE_COUNTS_INST]⟩,
  ⟨.lge, 0x40, 0, 1, 0x0, [LGE_REFIT_ERR_CODE, LGE_REFIT_PHASE]⟩,
  ⟨.lge, 0x50, 4, 4, 0x0, [LGE_SF_FAULT_n_FAULT]⟩,
  ⟨.lge, 0x60, 4, 4, 0x0, [LGE_SF_SAFE_n_SAFE]⟩,
  ⟨.lge, 0x70, 4, 4, 0x0, [LGE_SF_RIL_n_WAIT]⟩,
  ⟨.lge, 0x80, 4, 4, 0x0, [LGE_SF_REFIT_n_HELD]⟩,
  ⟨.lge, 0x90, 0, 1, 0x0, [LGE_MISMATCH_COUNT]⟩,
  ⟨.lge, 0x1000, 4, 2048, 0x0, [LGE_SIG_n_VALUE]⟩,
  ⟨.lge, 0x4000, 4, 512, 0x0, [LGE_INST_n_TYPE, LGE_INST_n_SF, LGE_INST_n_FAULT, LGE_INST_n_MUTED, LGE_INST_n_HELD, LGE_INST_n_Q]⟩,
  ⟨.dsf, 0x0, 0, 1, 0x0, [DSF_CFG_SBC_ORDER, DSF_CFG_CL2_REEF, DSF_CFG_MODE]⟩,
  ⟨.dsf, 0x4, 0, 1, 0x0, [DSF_GROUPS_MEMBER]⟩,
  ⟨.dsf, 0x8, 0, 1, 0x0, [DSF_TIME_T_STOP, DSF_TIME_T_DELAY]⟩,
  ⟨.dsf, 0xc, 0, 1, 0x0, [DSF_FURL_TIME]⟩,
  ⟨.dsf, 0x10, 0, 1, 0x0, [DSF_VRUN_SPEED]⟩,
  ⟨.dsf, 0x1c, 0, 1, 0x0, [DSF_AENV_ACC]⟩,
  ⟨.dsf, 0x24, 0, 1, 0x0, [DSF_DLIM_DIST]⟩,
  ⟨.dsf, 0x2c, 0, 1, 0x0, [DSF_SBC_MAP_BRAKE]⟩,
  ⟨.dsf, 0x30, 0, 1, 0x0, [DSF_SBC_TIME_T_REL, DSF_SBC_TIME_FB_TIME, DSF_SBC_TIME_T_OVERLAP]⟩,
  ⟨.dsf, 0x34, 0, 1, 0x0, [DSF_FURL_CRC_IMG_CRC]⟩,
  ⟨.dsf, 0x38, 0, 1, 0x0, [DSF_FURL_CRC_DIE_CRC]⟩]

def regTableC1 : List RegDesc := [
  ⟨.dsf, 0x100, 0, 1, 0x0, [DSF_STATUS_END_CAUSE, DSF_STATUS_START_CAUSE, DSF_STATUS_SURVIVOR, DSF_STATUS_HOLD_OTHER, DSF_STATUS_FURL_B, DSF_STATUS_FURL_A, DSF_STATUS_PHASE]⟩,
  ⟨.dsf, 0x104, 0, 1, 0x0, [DSF_START_GROUPS_GROUPS]⟩,
  ⟨.dsf, 0x108, 0, 1, 0x0, [DSF_P0_LO_POS_LO]⟩,
  ⟨.dsf, 0x10c, 0, 1, 0x0, [DSF_P0_HI_POS_HI]⟩,
  ⟨.dsf, 0x120, 0, 1, 0x0, [DSF_V0_SPEED]⟩,
  ⟨.dsf, 0x128, 0, 1, 0x0, [DSF_ELAPSED_TIME]⟩,
  ⟨.dsf, 0x12c, 0, 1, 0x0, [DSF_FURL_REMAIN_DIE_B, DSF_FURL_REMAIN_DIE_A]⟩,
  ⟨.dsf, 0x130, 0, 1, 0x0, [DSF_COUNTS_FURLED, DSF_COUNTS_COMPLETED]⟩,
  ⟨.dsf, 0x14, 0, 1, 0x0, [DSF_VMARGIN_SPEED]⟩,
  ⟨.dsf, 0x18, 0, 1, 0x0, [DSF_VEND_SPEED]⟩,
  ⟨.dsf, 0x20, 0, 1, 0x0, [DSF_AMIN_ACC]⟩,
  ⟨.dsf, 0x28, 0, 1, 0x0, [DSF_ARAMP_ACC]⟩,
  ⟨.dsf, 0x110, 0, 1, 0x0, [DSF_LIMIT_LO_POS_LO]⟩,
  ⟨.dsf, 0x114, 0, 1, 0x0, [DSF_LIMIT_HI_POS_HI]⟩,
  ⟨.dsf, 0x118, 0, 1, 0x0, [DSF_PRED_LO_POS_LO]⟩,
  ⟨.dsf, 0x11c, 0, 1, 0x0, [DSF_PRED_HI_POS_HI]⟩,
  ⟨.dsf, 0x124, 0, 1, 0x0, [DSF_VENV_SPEED]⟩,
  ⟨.net, 0x0, 256, 2, 0xc000, [NET_n_CFG_EN, NET_n_CFG_P2_EN, NET_n_CFG_P1_EN, NET_n_CFG_ICMP, NET_n_CFG_PTP_MODE, NET_n_CFG_PTP_P2P, NET_n_CFG_PTP_L2, NET_n_CFG_PTP_DOMAIN, NET_n_CFG_PCP, NET_n_CFG_VLAN_EN, NET_n_CFG_VID]⟩,
  ⟨.net, 0x4, 256, 2, 0x0, [NET_n_IP_ADDR]⟩,
  ⟨.net, 0x10, 256, 2, 0x0, [NET_n_MAC_HI_MAC_HI]⟩,
  ⟨.net, 0x14, 256, 2, 0x0, [NET_n_MAC_LO_MAC_LO]⟩,
  ⟨.net, 0x18, 256, 2, 0x0, [NET_n_RAMP_DEST_ADDR]⟩,
  ⟨.net, 0x20, 256, 2, 0x0, [NET_n_PHY_P2_ADDR, NET_n_PHY_P1_ADDR]⟩,
  ⟨.net, 0x24, 256, 2, 0x0, [NET_n_STATUS_PTP_STATE, NET_n_STATUS_NPE_OK, NET_n_STATUS_P2_1000, NET_n_STATUS_P2_UP, NET_n_STATUS_P1_1000, NET_n_STATUS_P1_UP]⟩,
  ⟨.net, 0x28, 256, 2, 0x0, [NET_n_PTP_OFFSET_OFFSET]⟩]

def regTableC2 : List RegDesc := [
  ⟨.net, 0x2c, 256, 2, 0x0, [NET_n_COUNT_UNKNOWN, NET_n_COUNT_FORMAT]⟩,
  ⟨.net, 0x30, 256, 2, 0x0, [NET_n_POLICE_POLICED, NET_n_POLICE_SLOT_FULL]⟩,
  ⟨.net, 0x200, 0, 1, 0x0, [NET_NODE_NODE]⟩,
  ⟨.net, 0x204, 0, 1, 0xb41fb41e, [NET_UDP_AUX_PORT, NET_UDP_GOALE_PORT]⟩,
  ⟨.net, 0x208, 0, 1, 0x0, [NET_MASTER_STALE]⟩,
  ⟨.net, 0x8, 256, 2, 0x0, [NET_n_MASK_ADDR]⟩,
  ⟨.net, 0xc, 256, 2, 0x0, [NET_n_GW_ADDR]⟩,
  ⟨.net, 0x1c, 256, 2, 0x0, [NET_n_MASTER_SRC_ADDR]⟩,
  ⟨.net, 0x400, 0, 1, 0x0, [GOA_KEY_OTHER_EPOCH, GOA_KEY_ACTIVE_EPOCH]⟩,
  ⟨.net, 0x410, 4, 8, 0x0, [GOA_RUN_n_RUN]⟩,
  ⟨.net, 0x1000, 32, 256, 0x0, [GOA_SES_n_CFG_EN, GOA_SES_n_CFG_SINGLE_OK, GOA_SES_n_CFG_GRP_PEER, GOA_SES_n_CFG_TX_BW, GOA_SES_n_CFG_TX_VW, GOA_SES_n_CFG_RX_BW, GOA_SES_n_CFG_RX_VW, GOA_SES_n_CFG_RX_BIT_BASE]⟩,
  ⟨.net, 0x1004, 32, 256, 0x0, [GOA_SES_n_PEER_PEER_NODE, GOA_SES_n_PEER_CONN_ID]⟩,
  ⟨.net, 0x1008, 32, 256, 0x0, [GOA_SES_n_ADDR_X_ADDR]⟩,
  ⟨.net, 0x1010, 32, 256, 0x0, [GOA_SES_n_TIME_WD, GOA_SES_n_TIME_RX_PERIOD, GOA_SES_n_TIME_TX_PERIOD]⟩,
  ⟨.net, 0x1014, 32, 256, 0x0, [GOA_SES_n_WIN_SKEW, GOA_SES_n_WIN_AGE, GOA_SES_n_WIN_RX_VAL_BASE]⟩,
  ⟨.net, 0x1018, 32, 256, 0x0, [GOA_SES_n_STATUS_ALIVE_LO, GOA_SES_n_STATUS_PEER_LC_STATE, GOA_SES_n_STATUS_PEER_RESTART, GOA_SES_n_STATUS_PATH_Y_UP, GOA_SES_n_STATUS_PATH_X_UP, GOA_SES_n_STATUS_STATE]⟩,
  ⟨.net, 0x101c, 32, 256, 0x0, [GOA_SES_n_COUNT_CRC, GOA_SES_n_COUNT_MAC, GOA_SES_n_COUNT_STALE, GOA_SES_n_COUNT_MISS]⟩,
  ⟨.net, 0x430, 4, 8, 0x0, [GOA_FAIL_n_RUN]⟩,
  ⟨.net, 0x450, 4, 8, 0x0, [GOA_SINGLE_n_RUN]⟩,
  ⟨.net, 0x100c, 32, 256, 0x0, [GOA_SES_n_ADDR_Y_ADDR]⟩,
  ⟨.llk, 0x0, 0, 1, 0x0, [LLK_CFG_N, LLK_CFG_DN_USED, LLK_CFG_UP_USED, LLK_CFG_RING, LLK_CFG_POS]⟩,
  ⟨.llk, 0x4, 0, 1, 0x0, [LLK_LINE_CRC_CRC]⟩,
  ⟨.llk, 0x8, 0, 1, 0x800180, [LLK_WMARK_LOW, LLK_WMARK_HIGH]⟩,
  ⟨.llk, 0xc, 0, 1, 0x0, [LLK_STATUS_SINGLE, LLK_STATUS_ARMED, LLK_STATUS_OWN_STOP]⟩,
  ⟨.llk, 0x10, 0, 1, 0x0, [LLK_GRP_STATE_B, LLK_GRP_STATE_A]⟩]

def regTableC3 : List RegDesc := [
  ⟨.llk, 0x14, 0, 1, 0x0, [LLK_GRP_LOST_COMPLETE, LLK_GRP_LOST_LOST]⟩,
  ⟨.llk, 0x18, 0, 1, 0x0, [LLK_REACH_LL_POS]⟩,
  ⟨.llk, 0x20, 16, 2, 0x0, [LLK_PORT_n_STATUS_SEQ, LLK_PORT_n_STATUS_LOSTS, LLK_PORT_n_STATUS_XOFF_IN, LLK_PORT_n_STATUS_XOFF_OUT, LLK_PORT_n_STATUS_STATE]⟩,
  ⟨.llk, 0x24, 16, 2, 0x0, [LLK_PORT_n_COUNT_CRC, LLK_PORT_n_COUNT_HALF_DIS, LLK_PORT_n_COUNT_LINE, LLK_PORT_n_COUNT_SEQ]⟩,
  ⟨.llk, 0x28, 16, 2, 0x0, [LLK_PORT_n_FIFO_OVERFLOW, LLK_PORT_n_FIFO_PEAK]⟩,
  ⟨.llk, 0x100, 4, 32, 0x0, [LLK_LINE_q_NODE, LLK_LINE_q_MEMBER]⟩,
  ⟨.llk, 0x200, 4, 32, 0x0, [LLK_ENTRY_q_VALID, LLK_ENTRY_q_HOPS, LLK_ENTRY_q_FROM_DN, LLK_ENTRY_q_FROM_UP, LLK_ENTRY_q_GSTOP]⟩,
  ⟨.llk, 0x1c, 0, 1, 0x0, [LLK_REACH_GOA_POS]⟩,
  ⟨.llk, 0x400, 0, 1, 0x0, [REC_CFG_EN, REC_CFG_RELAY, REC_CFG_FLUSH, REC_CFG_TYPES]⟩,
  ⟨.llk, 0x404, 0, 1, 0x4001000, [REC_WMARK_LOW, REC_WMARK_HIGH]⟩,
  ⟨.llk, 0x408, 0, 1, 0x0, [REC_STATUS_CLK_SEEN, REC_STATUS_RDY, REC_STATUS_LEVEL]⟩,
  ⟨.llk, 0x40c, 0, 1, 0x0, [REC_COUNT_DROPPED, REC_COUNT_RELAYED]⟩]

/-- The descriptors of LGE, DSF, NET, GOA, LLK and REC. -/
def regTableC : List RegDesc := regTableC0 ++ regTableC1 ++ regTableC2 ++ regTableC3

end Sys2Proof.Machine
end

