-- ==== Sys2Proof/Machine/RegsD.lean ====
section
/-! DEFINITION. The register fields of HLY, ADC, TIM and CRC, one definition a field, and their descriptors, as the register tables of the owning chapters of spec/ give them (block, offset, stride, bits, access code of R8, retention class of R9). -/

namespace Sys2Proof.Machine


/-! HLY_STATUS: block HLY, offset 0x000 (11_host_interface.md). -/
def HLY_STATUS_SETUP_ERR : Fld := ⟨.hly, 0x0, 0, 31, 24, .ro, .v, 0x0⟩
def HLY_STATUS_VENDOR_AUTH : Fld := ⟨.hly, 0x0, 0, 17, 17, .ro, .v, 0x0⟩
def HLY_STATUS_OWNER_AUTH : Fld := ⟨.hly, 0x0, 0, 16, 16, .ro, .v, 0x0⟩
def HLY_STATUS_NET_SET : Fld := ⟨.hly, 0x0, 0, 8, 8, .ro, .w, 0x0⟩
def HLY_STATUS_STATE : Fld := ⟨.hly, 0x0, 0, 1, 0, .ro, .w, 0x0⟩

/-! HLY_SETUP_DONE: block HLY, offset 0x004 (11_host_interface.md). -/
def HLY_SETUP_DONE_DONE : Fld := ⟨.hly, 0x4, 0, 0, 0, .w1s, .w, 0x0⟩

/-! HLY_WINDOW_STATUS: block HLY, offset 0x008 (11_host_interface.md). -/
def HLY_WINDOW_STATUS_DENIED : Fld := ⟨.hly, 0x8, 0, 31, 24, .ro, .w, 0x0⟩
def HLY_WINDOW_STATUS_OPEN : Fld := ⟨.hly, 0x8, 0, 16, 16, .ro, .w, 0x0⟩
def HLY_WINDOW_STATUS_KICK : Fld := ⟨.hly, 0x8, 0, 7, 0, .wo, .v, 0x0⟩

/-! HLY_DB_BASE_LO: block HLY, offset 0x010 (11_host_interface.md). -/
def HLY_DB_BASE_LO_ADDR : Fld := ⟨.hly, 0x10, 0, 31, 12, .rws, .w, 0x0⟩

/-! HLY_DB_BASE_HI: block HLY, offset 0x014 (11_host_interface.md). -/
def HLY_DB_BASE_HI_ADDR : Fld := ⟨.hly, 0x14, 0, 31, 0, .rws, .w, 0x0⟩

/-! HLY_POLL: block HLY, offset 0x018 (11_host_interface.md). -/
def HLY_POLL_HOST_WD : Fld := ⟨.hly, 0x18, 0, 29, 16, .rws, .w, 0xa⟩
def HLY_POLL_POLL_US : Fld := ⟨.hly, 0x18, 0, 7, 0, .rws, .w, 0xa⟩

/-! HLY_IMG_CFG: block HLY, offset 0x01C (11_host_interface.md). -/
def HLY_IMG_CFG_IMG_DIV : Fld := ⟨.hly, 0x1c, 0, 9, 0, .rws, .w, 0x1⟩

/-! HLY_PI_LOSS_LO: block HLY, offset 0x020 (11_host_interface.md). -/
def HLY_PI_LOSS_LO_LOSS : Fld := ⟨.hly, 0x20, 0, 31, 0, .rws, .w, 0xffffffff⟩

/-! HLY_HOST_IMG_LO: block HLY, offset 0x028 (11_host_interface.md). -/
def HLY_HOST_IMG_LO_IMG : Fld := ⟨.hly, 0x28, 0, 31, 0, .ro, .w, 0x0⟩

/-! HLY_COUNT: block HLY, offset 0x030 (11_host_interface.md). -/
def HLY_COUNT_DMA_ERR : Fld := ⟨.hly, 0x30, 0, 31, 16, .rc, .v, 0x0⟩
def HLY_COUNT_HOST_LOSS : Fld := ⟨.hly, 0x30, 0, 15, 0, .rc, .v, 0x0⟩

/-! HLY_RING_n_BASE_LO: block HLY, offset 0x100 + 0x10·n (11_host_interface.md). -/
def HLY_RING_n_BASE_LO_ADDR : Fld := ⟨.hly, 0x100, 16, 31, 12, .rws, .w, 0x0⟩

/-! HLY_RING_n_CFG: block HLY, offset 0x108 + 0x10·n (11_host_interface.md). -/
def HLY_RING_n_CFG_IRQ_DELAY : Fld := ⟨.hly, 0x108, 16, 25, 16, .rws, .w, 0x0⟩
def HLY_RING_n_CFG_VECTOR : Fld := ⟨.hly, 0x108, 16, 10, 8, .rws, .w, 0x0⟩
def HLY_RING_n_CFG_TYPE : Fld := ⟨.hly, 0x108, 16, 7, 6, .rws, .w, 0x0⟩
def HLY_RING_n_CFG_LOG2SIZE : Fld := ⟨.hly, 0x108, 16, 3, 0, .rws, .w, 0x0⟩

/-! HLY_RING_n_IDX: block HLY, offset 0x200 + 8·n (11_host_interface.md). -/
def HLY_RING_n_IDX_DEV_IDX : Fld := ⟨.hly, 0x200, 8, 31, 0, .ro, .w, 0x0⟩

/-! HLY_RING_n_STATUS: block HLY, offset 0x204 + 8·n (11_host_interface.md). -/
def HLY_RING_n_STATUS_DROPPED : Fld := ⟨.hly, 0x204, 8, 31, 16, .rc, .v, 0x0⟩
def HLY_RING_n_STATUS_CAUSE : Fld := ⟨.hly, 0x204, 8, 11, 8, .ro, .w, 0x0⟩
def HLY_RING_n_STATUS_STATE : Fld := ⟨.hly, 0x204, 8, 1, 0, .ro, .w, 0x0⟩

/-! HLY_PI_LOSS_HI: block HLY, offset 0x024 (11_host_interface.md). -/
def HLY_PI_LOSS_HI_LOSS : Fld := ⟨.hly, 0x24, 0, 31, 0, .rws, .w, 0xffffffff⟩

/-! HLY_HOST_IMG_HI: block HLY, offset 0x02C (11_host_interface.md). -/
def HLY_HOST_IMG_HI_IMG : Fld := ⟨.hly, 0x2c, 0, 31, 0, .ro, .w, 0x0⟩

/-! HLY_RING_n_BASE_HI: block HLY, offset 0x104 + 0x10·n (11_host_interface.md). -/
def HLY_RING_n_BASE_HI_ADDR : Fld := ⟨.hly, 0x104, 16, 31, 0, .rws, .w, 0x0⟩

/-! ADC_CFG: block ADC, offset 0x000 (12_adc.md). -/
def ADC_CFG_EN : Fld := ⟨.adc, 0x0, 0, 31, 31, .rws, .c, 0x0⟩
def ADC_CFG_LOWPWR : Fld := ⟨.adc, 0x0, 0, 30, 30, .rws, .c, 0x0⟩
def ADC_CFG_CAL_PERIOD : Fld := ⟨.adc, 0x0, 0, 23, 16, .rws, .c, 0x0⟩
def ADC_CFG_SEQ_LEN : Fld := ⟨.adc, 0x0, 0, 5, 0, .rws, .c, 0x0⟩

/-! ADC_STATUS: block ADC, offset 0x004 (12_adc.md). -/
def ADC_STATUS_CAL_STARVED : Fld := ⟨.adc, 0x4, 0, 7, 7, .ro, .v, 0x0⟩
def ADC_STATUS_CAL_RUN : Fld := ⟨.adc, 0x4, 0, 6, 6, .ro, .v, 0x0⟩
def ADC_STATUS_INJ_RUN : Fld := ⟨.adc, 0x4, 0, 5, 5, .ro, .v, 0x0⟩
def ADC_STATUS_REF_XCHK : Fld := ⟨.adc, 0x4, 0, 4, 4, .ro, .v, 0x0⟩
def ADC_STATUS_CAL_FAIL : Fld := ⟨.adc, 0x4, 0, 3, 3, .ro, .v, 0x0⟩
def ADC_STATUS_CONV_TO : Fld := ⟨.adc, 0x4, 0, 2, 2, .ro, .v, 0x0⟩
def ADC_STATUS_READY : Fld := ⟨.adc, 0x4, 0, 0, 0, .ro, .v, 0x0⟩

/-! ADC_CAL_COEF: block ADC, offset 0x008 (12_adc.md). -/
def ADC_CAL_COEF_GAIN : Fld := ⟨.adc, 0x8, 0, 31, 16, .ro, .v, 0x80000000⟩
def ADC_CAL_COEF_OFFSET : Fld := ⟨.adc, 0x8, 0, 15, 0, .ro, .v, 0x80000000⟩

/-! ADC_CAL_RESTARTS: block ADC, offset 0x00C (12_adc.md). -/
def ADC_CAL_RESTARTS_COUNT : Fld := ⟨.adc, 0xc, 0, 15, 0, .rc, .v, 0x0⟩

/-! ADC_INJ: block ADC, offset 0x010 (12_adc.md). -/
def ADC_INJ_LOST : Fld := ⟨.adc, 0x10, 0, 31, 16, .rc, .v, 0x0⟩
def ADC_INJ_PEAK : Fld := ⟨.adc, 0x10, 0, 2, 0, .rc, .v, 0x0⟩

/-! ADC_WINEV_LO: block ADC, offset 0x020 (12_adc.md). -/
def ADC_WINEV_LO_OUT : Fld := ⟨.adc, 0x20, 0, 31, 0, .rc, .v, 0x0⟩

/-! ADC_SLOT_k: block ADC, offset 0x100 + 4·k (12_adc.md). -/
def ADC_SLOT_k_REPS : Fld := ⟨.adc, 0x100, 4, 11, 8, .rws, .c, 0x0⟩
def ADC_SLOT_k_CTX : Fld := ⟨.adc, 0x100, 4, 5, 0, .rws, .c, 0x0⟩

/-! ADC_CTX_n_CFG: block ADC, offset 0x1000 + 0x40·n (12_adc.md). -/
def ADC_CTX_n_CFG_EN : Fld := ⟨.adc, 0x1000, 64, 31, 31, .rws, .c, 0x0⟩
def ADC_CTX_n_CFG_CAM_INJ : Fld := ⟨.adc, 0x1000, 64, 30, 30, .rws, .c, 0x0⟩
def ADC_CTX_n_CFG_IOS_INJ : Fld := ⟨.adc, 0x1000, 64, 29, 29, .rws, .c, 0x0⟩
def ADC_CTX_n_CFG_IOS_OFS : Fld := ⟨.adc, 0x1000, 64, 23, 16, .rws, .c, 0x0⟩
def ADC_CTX_n_CFG_OSR : Fld := ⟨.adc, 0x1000, 64, 15, 12, .rws, .c, 0x0⟩
def ADC_CTX_n_CFG_GAIN : Fld := ⟨.adc, 0x1000, 64, 11, 10, .rws, .c, 0x0⟩
def ADC_CTX_n_CFG_INPUT : Fld := ⟨.adc, 0x1000, 64, 4, 0, .rws, .c, 0x0⟩

/-! ADC_CTX_n_WIN: block ADC, offset 0x1004 + 0x40·n (12_adc.md). -/
def ADC_CTX_n_WIN_HIGH : Fld := ⟨.adc, 0x1004, 64, 31, 16, .rws, .c, 0x0⟩
def ADC_CTX_n_WIN_LOW : Fld := ⟨.adc, 0x1004, 64, 15, 0, .rws, .c, 0x0⟩

/-! ADC_CTX_n_AGE: block ADC, offset 0x1008 + 0x40·n (12_adc.md). -/
def ADC_CTX_n_AGE_WIN_EN : Fld := ⟨.adc, 0x1008, 64, 31, 31, .rws, .c, 0x0⟩
def ADC_CTX_n_AGE_HYST : Fld := ⟨.adc, 0x1008, 64, 28, 16, .rws, .c, 0x0⟩
def ADC_CTX_n_AGE_MAX_AGE : Fld := ⟨.adc, 0x1008, 64, 15, 0, .rws, .c, 0x0⟩

/-! ADC_CTX_n_VALUE: block ADC, offset 0x100C + 0x40·n (12_adc.md). -/
def ADC_CTX_n_VALUE_VALID : Fld := ⟨.adc, 0x100c, 64, 31, 31, .ro, .v, 0x0⟩
def ADC_CTX_n_VALUE_OUTSIDE : Fld := ⟨.adc, 0x100c, 64, 30, 30, .ro, .v, 0x0⟩
def ADC_CTX_n_VALUE_RESULT : Fld := ⟨.adc, 0x100c, 64, 15, 0, .ro, .v, 0x0⟩

/-! ADC_CTX_n_SUM_LO: block ADC, offset 0x1010 + 0x40·n (12_adc.md). -/
def ADC_CTX_n_SUM_LO_SUM_LO : Fld := ⟨.adc, 0x1010, 64, 31, 0, .ro, .v, 0x0⟩

/-! ADC_CTX_n_SUM_HI: block ADC, offset 0x1014 + 0x40·n (12_adc.md). -/
def ADC_CTX_n_SUM_HI_SAT : Fld := ⟨.adc, 0x1014, 64, 31, 31, .ro, .v, 0x0⟩
def ADC_CTX_n_SUM_HI_SUM_HI : Fld := ⟨.adc, 0x1014, 64, 15, 0, .ro, .v, 0x0⟩

/-! ADC_CTX_n_COUNT: block ADC, offset 0x1018 + 0x40·n (12_adc.md). -/
def ADC_CTX_n_COUNT_COUNT : Fld := ⟨.adc, 0x1018, 64, 31, 0, .ro, .v, 0x0⟩

/-! ADC_CTX_n_MINMAX: block ADC, offset 0x101C + 0x40·n (12_adc.md). -/
def ADC_CTX_n_MINMAX_MAX : Fld := ⟨.adc, 0x101c, 64, 31, 16, .ro, .v, 0xffff⟩
def ADC_CTX_n_MINMAX_MIN : Fld := ⟨.adc, 0x101c, 64, 15, 0, .ro, .v, 0xffff⟩

/-! ADC_CTX_n_DISC: block ADC, offset 0x1020 + 0x40·n (12_adc.md). -/
def ADC_CTX_n_DISC_COUNT : Fld := ⟨.adc, 0x1020, 64, 31, 0, .rc, .v, 0x0⟩

/-! ADC_CTX_n_STATUS: block ADC, offset 0x1024 + 0x40·n (12_adc.md). -/
def ADC_CTX_n_STATUS_INJ_LOST : Fld := ⟨.adc, 0x1024, 64, 31, 16, .rc, .v, 0x0⟩
def ADC_CTX_n_STATUS_SPAN : Fld := ⟨.adc, 0x1024, 64, 1, 1, .ro, .v, 0x0⟩
def ADC_CTX_n_STATUS_STALE : Fld := ⟨.adc, 0x1024, 64, 0, 0, .ro, .v, 0x0⟩

/-! ADC_CTX_n_CTRL: block ADC, offset 0x1028 + 0x40·n (12_adc.md). -/
def ADC_CTX_n_CTRL_CLR : Fld := ⟨.adc, 0x1028, 64, 0, 0, .w1s, .v, 0x0⟩

/-! ADC_AI_n: block ADC, offset 0x8000 + 4·n (12_adc.md). -/
def ADC_AI_n_EN : Fld := ⟨.adc, 0x8000, 4, 31, 31, .rws, .c, 0x0⟩
def ADC_AI_n_CONV : Fld := ⟨.adc, 0x8000, 4, 30, 30, .rws, .c, 0x0⟩
def ADC_AI_n_CTX : Fld := ⟨.adc, 0x8000, 4, 29, 24, .rws, .c, 0x0⟩
def ADC_AI_n_VALID : Fld := ⟨.adc, 0x8000, 4, 16, 16, .ro, .v, 0x0⟩
def ADC_AI_n_UA : Fld := ⟨.adc, 0x8000, 4, 15, 0, .ro, .v, 0x0⟩

/-! ADC_WINEV_HI: block ADC, offset 0x024 (12_adc.md). -/
def ADC_WINEV_HI_OUT : Fld := ⟨.adc, 0x24, 0, 31, 0, .rc, .v, 0x0⟩

/-! TIM_TM_t_CFG: block TIM, offset 0x000 + 0x20·t (13_timers_and_crc.md). -/
def TIM_TM_t_CFG_EN : Fld := ⟨.tim, 0x0, 32, 31, 31, .rws, .c, 0x0⟩
def TIM_TM_t_CFG_CLK : Fld := ⟨.tim, 0x0, 32, 30, 29, .rws, .c, 0x0⟩
def TIM_TM_t_CFG_SLAVE : Fld := ⟨.tim, 0x0, 32, 28, 27, .rws, .c, 0x0⟩
def TIM_TM_t_CFG_MASTER : Fld := ⟨.tim, 0x0, 32, 26, 24, .rws, .c, 0x0⟩
def TIM_TM_t_CFG_MEV : Fld := ⟨.tim, 0x0, 32, 23, 21, .rws, .c, 0x0⟩
def TIM_TM_t_CFG_CAP_SRC : Fld := ⟨.tim, 0x0, 32, 20, 18, .rws, .c, 0x0⟩
def TIM_TM_t_CFG_CAP_EDGE : Fld := ⟨.tim, 0x0, 32, 17, 16, .rws, .c, 0x0⟩
def TIM_TM_t_CFG_PRESC : Fld := ⟨.tim, 0x0, 32, 15, 0, .rws, .c, 0x0⟩

/-! TIM_TM_t_COUNT: block TIM, offset 0x004 + 0x20·t (13_timers_and_crc.md). -/
def TIM_TM_t_COUNT_COUNT : Fld := ⟨.tim, 0x4, 32, 31, 0, .rw, .v, 0x0⟩

/-! TIM_TM_t_LATCH: block TIM, offset 0x008 + 0x20·t (13_timers_and_crc.md). -/
def TIM_TM_t_LATCH_COUNT : Fld := ⟨.tim, 0x8, 32, 31, 0, .ro, .v, 0x0⟩

/-! TIM_TM_t_CAP: block TIM, offset 0x00C + 0x20·t (13_timers_and_crc.md). -/
def TIM_TM_t_CAP_COUNT : Fld := ⟨.tim, 0xc, 32, 31, 0, .ro, .v, 0x0⟩

/-! TIM_TM_t_CAPSTAMP: block TIM, offset 0x010 + 0x20·t (13_timers_and_crc.md). -/
def TIM_TM_t_CAPSTAMP_UPDATE : Fld := ⟨.tim, 0x10, 32, 31, 0, .ro, .v, 0x0⟩

/-! TIM_TM_t_STATUS: block TIM, offset 0x014 + 0x20·t (13_timers_and_crc.md). -/
def TIM_TM_t_STATUS_CFG_ERR : Fld := ⟨.tim, 0x14, 32, 4, 4, .ro, .v, 0x0⟩
def TIM_TM_t_STATUS_OUT : Fld := ⟨.tim, 0x14, 32, 3, 3, .ro, .v, 0x0⟩
def TIM_TM_t_STATUS_OVF : Fld := ⟨.tim, 0x14, 32, 2, 2, .w1c, .v, 0x0⟩
def TIM_TM_t_STATUS_CAP_OVR : Fld := ⟨.tim, 0x14, 32, 1, 1, .w1c, .v, 0x0⟩
def TIM_TM_t_STATUS_CAP_FULL : Fld := ⟨.tim, 0x14, 32, 0, 0, .ro, .v, 0x0⟩

/-! TIM_CMP_n: block TIM, offset 0x200 + 0x10·n (13_timers_and_crc.md). -/
def TIM_CMP_n_VALUE : Fld := ⟨.tim, 0x200, 16, 31, 0, .rw, .v, 0x0⟩

/-! TIM_CMP_n_ARMED: block TIM, offset 0x204 + 0x10·n (13_timers_and_crc.md). -/
def TIM_CMP_n_ARMED_COUNT : Fld := ⟨.tim, 0x204, 16, 31, 0, .ro, .v, 0x0⟩

/-! TIM_CMP_n_ACT: block TIM, offset 0x208 + 0x10·n (13_timers_and_crc.md). -/
def TIM_CMP_n_ACT_ARMED : Fld := ⟨.tim, 0x208, 16, 31, 31, .ro, .v, 0x0⟩
def TIM_CMP_n_ACT_CMP_LAP : Fld := ⟨.tim, 0x208, 16, 30, 30, .ro, .v, 0x0⟩
def TIM_CMP_n_ACT_FIRED : Fld := ⟨.tim, 0x208, 16, 29, 29, .w1c, .v, 0x0⟩
def TIM_CMP_n_ACT_LATE : Fld := ⟨.tim, 0x208, 16, 28, 28, .w1c, .v, 0x0⟩
def TIM_CMP_n_ACT_DISARM : Fld := ⟨.tim, 0x208, 16, 27, 27, .w1s, .v, 0x0⟩
def TIM_CMP_n_ACT_OUT : Fld := ⟨.tim, 0x208, 16, 7, 6, .rw, .v, 0x0⟩
def TIM_CMP_n_ACT_EVT : Fld := ⟨.tim, 0x208, 16, 5, 5, .rw, .v, 0x0⟩
def TIM_CMP_n_ACT_IRQ : Fld := ⟨.tim, 0x208, 16, 4, 4, .rw, .v, 0x0⟩

/-! TIM_PIN_k: block TIM, offset 0x400 + 4·k (13_timers_and_crc.md). -/
def TIM_PIN_k_DIR : Fld := ⟨.tim, 0x400, 4, 7, 7, .rw, .v, 0x0⟩
def TIM_PIN_k_INV : Fld := ⟨.tim, 0x400, 4, 6, 6, .rw, .v, 0x0⟩
def TIM_PIN_k_TIMER : Fld := ⟨.tim, 0x400, 4, 2, 0, .rw, .v, 0x0⟩

/-! TIM_WAKE: block TIM, offset 0x410 (13_timers_and_crc.md). -/
def TIM_WAKE_AON_TICKS : Fld := ⟨.tim, 0x410, 0, 31, 0, .ro, .v, 0x0⟩

/-! CRC_CFG: block CRC, offset 0x000 (13_timers_and_crc.md). -/
def CRC_CFG_IRQ_EN : Fld := ⟨.crc, 0x0, 0, 8, 8, .rw, .v, 0x0⟩
def CRC_CFG_POLY : Fld := ⟨.crc, 0x0, 0, 1, 0, .rw, .v, 0x0⟩

/-! CRC_START: block CRC, offset 0x004 (13_timers_and_crc.md). -/
def CRC_START_ADDR : Fld := ⟨.crc, 0x4, 0, 31, 0, .rw, .v, 0x0⟩

/-! CRC_LENGTH: block CRC, offset 0x008 (13_timers_and_crc.md). -/
def CRC_LENGTH_BYTES : Fld := ⟨.crc, 0x8, 0, 23, 0, .rw, .v, 0x0⟩

/-! CRC_CTRL: block CRC, offset 0x00C (13_timers_and_crc.md). -/
def CRC_CTRL_GO : Fld := ⟨.crc, 0xc, 0, 0, 0, .w1s, .v, 0x0⟩

/-! CRC_STATUS: block CRC, offset 0x010 (13_timers_and_crc.md). -/
def CRC_STATUS_COLL : Fld := ⟨.crc, 0x10, 0, 4, 4, .w1c, .v, 0x0⟩
def CRC_STATUS_ERR : Fld := ⟨.crc, 0x10, 0, 3, 2, .ro, .v, 0x0⟩
def CRC_STATUS_DONE : Fld := ⟨.crc, 0x10, 0, 1, 1, .w1c, .v, 0x0⟩
def CRC_STATUS_BUSY : Fld := ⟨.crc, 0x10, 0, 0, 0, .ro, .v, 0x0⟩

/-! CRC_RESULT_LO: block CRC, offset 0x014 (13_timers_and_crc.md). -/
def CRC_RESULT_LO_RESULT : Fld := ⟨.crc, 0x14, 0, 31, 0, .ro, .v, 0x0⟩

/-! CRC_RESULT_HI: block CRC, offset 0x018 (13_timers_and_crc.md). -/
def CRC_RESULT_HI_RESULT : Fld := ⟨.crc, 0x18, 0, 31, 0, .ro, .v, 0x0⟩

/-! CRC_ALIVE: block CRC, offset 0x01C (13_timers_and_crc.md). -/
def CRC_ALIVE_NEXT : Fld := ⟨.crc, 0x1c, 0, 31, 16, .ro, .v, 0x10000⟩
def CRC_ALIVE_LAST : Fld := ⟨.crc, 0x1c, 0, 15, 0, .ro, .v, 0x10000⟩

def regTableD0 : List RegDesc := [
  ⟨.hly, 0x0, 0, 1, 0x0, [HLY_STATUS_SETUP_ERR, HLY_STATUS_VENDOR_AUTH, HLY_STATUS_OWNER_AUTH, HLY_STATUS_NET_SET, HLY_STATUS_STATE]⟩,
  ⟨.hly, 0x4, 0, 1, 0x0, [HLY_SETUP_DONE_DONE]⟩,
  ⟨.hly, 0x8, 0, 1, 0x0, [HLY_WINDOW_STATUS_DENIED, HLY_WINDOW_STATUS_OPEN, HLY_WINDOW_STATUS_KICK]⟩,
  ⟨.hly, 0x10, 0, 1, 0x0, [HLY_DB_BASE_LO_ADDR]⟩,
  ⟨.hly, 0x14, 0, 1, 0x0, [HLY_DB_BASE_HI_ADDR]⟩,
  ⟨.hly, 0x18, 0, 1, 0xa, [HLY_POLL_HOST_WD, HLY_POLL_POLL_US]⟩,
  ⟨.hly, 0x1c, 0, 1, 0x1, [HLY_IMG_CFG_IMG_DIV]⟩,
  ⟨.hly, 0x20, 0, 1, 0xffffffff, [HLY_PI_LOSS_LO_LOSS]⟩,
  ⟨.hly, 0x28, 0, 1, 0x0, [HLY_HOST_IMG_LO_IMG]⟩,
  ⟨.hly, 0x30, 0, 1, 0x0, [HLY_COUNT_DMA_ERR, HLY_COUNT_HOST_LOSS]⟩,
  ⟨.hly, 0x100, 16, 8, 0x0, [HLY_RING_n_BASE_LO_ADDR]⟩,
  ⟨.hly, 0x108, 16, 8, 0x0, [HLY_RING_n_CFG_IRQ_DELAY, HLY_RING_n_CFG_VECTOR, HLY_RING_n_CFG_TYPE, HLY_RING_n_CFG_LOG2SIZE]⟩,
  ⟨.hly, 0x200, 8, 8, 0x0, [HLY_RING_n_IDX_DEV_IDX]⟩,
  ⟨.hly, 0x204, 8, 8, 0x0, [HLY_RING_n_STATUS_DROPPED, HLY_RING_n_STATUS_CAUSE, HLY_RING_n_STATUS_STATE]⟩,
  ⟨.hly, 0x24, 0, 1, 0xffffffff, [HLY_PI_LOSS_HI_LOSS]⟩,
  ⟨.hly, 0x2c, 0, 1, 0x0, [HLY_HOST_IMG_HI_IMG]⟩,
  ⟨.hly, 0x104, 16, 8, 0x0, [HLY_RING_n_BASE_HI_ADDR]⟩,
  ⟨.adc, 0x0, 0, 1, 0x0, [ADC_CFG_EN, ADC_CFG_LOWPWR, ADC_CFG_CAL_PERIOD, ADC_CFG_SEQ_LEN]⟩,
  ⟨.adc, 0x4, 0, 1, 0x0, [ADC_STATUS_CAL_STARVED, ADC_STATUS_CAL_RUN, ADC_STATUS_INJ_RUN, ADC_STATUS_REF_XCHK, ADC_STATUS_CAL_FAIL, ADC_STATUS_CONV_TO, ADC_STATUS_READY]⟩,
  ⟨.adc, 0x8, 0, 1, 0x80000000, [ADC_CAL_COEF_GAIN, ADC_CAL_COEF_OFFSET]⟩,
  ⟨.adc, 0xc, 0, 1, 0x0, [ADC_CAL_RESTARTS_COUNT]⟩,
  ⟨.adc, 0x10, 0, 1, 0x0, [ADC_INJ_LOST, ADC_INJ_PEAK]⟩,
  ⟨.adc, 0x20, 0, 1, 0x0, [ADC_WINEV_LO_OUT]⟩,
  ⟨.adc, 0x100, 4, 32, 0x0, [ADC_SLOT_k_REPS, ADC_SLOT_k_CTX]⟩,
  ⟨.adc, 0x1000, 64, 64, 0x0, [ADC_CTX_n_CFG_EN, ADC_CTX_n_CFG_CAM_INJ, ADC_CTX_n_CFG_IOS_INJ, ADC_CTX_n_CFG_IOS_OFS, ADC_CTX_n_CFG_OSR, ADC_CTX_n_CFG_GAIN, ADC_CTX_n_CFG_INPUT]⟩]

def regTableD1 : List RegDesc := [
  ⟨.adc, 0x1004, 64, 64, 0x0, [ADC_CTX_n_WIN_HIGH, ADC_CTX_n_WIN_LOW]⟩,
  ⟨.adc, 0x1008, 64, 64, 0x0, [ADC_CTX_n_AGE_WIN_EN, ADC_CTX_n_AGE_HYST, ADC_CTX_n_AGE_MAX_AGE]⟩,
  ⟨.adc, 0x100c, 64, 64, 0x0, [ADC_CTX_n_VALUE_VALID, ADC_CTX_n_VALUE_OUTSIDE, ADC_CTX_n_VALUE_RESULT]⟩,
  ⟨.adc, 0x1010, 64, 64, 0x0, [ADC_CTX_n_SUM_LO_SUM_LO]⟩,
  ⟨.adc, 0x1014, 64, 64, 0x0, [ADC_CTX_n_SUM_HI_SAT, ADC_CTX_n_SUM_HI_SUM_HI]⟩,
  ⟨.adc, 0x1018, 64, 64, 0x0, [ADC_CTX_n_COUNT_COUNT]⟩,
  ⟨.adc, 0x101c, 64, 64, 0xffff, [ADC_CTX_n_MINMAX_MAX, ADC_CTX_n_MINMAX_MIN]⟩,
  ⟨.adc, 0x1020, 64, 64, 0x0, [ADC_CTX_n_DISC_COUNT]⟩,
  ⟨.adc, 0x1024, 64, 64, 0x0, [ADC_CTX_n_STATUS_INJ_LOST, ADC_CTX_n_STATUS_SPAN, ADC_CTX_n_STATUS_STALE]⟩,
  ⟨.adc, 0x1028, 64, 64, 0x0, [ADC_CTX_n_CTRL_CLR]⟩,
  ⟨.adc, 0x8000, 4, 8, 0x0, [ADC_AI_n_EN, ADC_AI_n_CONV, ADC_AI_n_CTX, ADC_AI_n_VALID, ADC_AI_n_UA]⟩,
  ⟨.adc, 0x24, 0, 1, 0x0, [ADC_WINEV_HI_OUT]⟩,
  ⟨.tim, 0x0, 32, 8, 0x0, [TIM_TM_t_CFG_EN, TIM_TM_t_CFG_CLK, TIM_TM_t_CFG_SLAVE, TIM_TM_t_CFG_MASTER, TIM_TM_t_CFG_MEV, TIM_TM_t_CFG_CAP_SRC, TIM_TM_t_CFG_CAP_EDGE, TIM_TM_t_CFG_PRESC]⟩,
  ⟨.tim, 0x4, 32, 8, 0x0, [TIM_TM_t_COUNT_COUNT]⟩,
  ⟨.tim, 0x8, 32, 8, 0x0, [TIM_TM_t_LATCH_COUNT]⟩,
  ⟨.tim, 0xc, 32, 8, 0x0, [TIM_TM_t_CAP_COUNT]⟩,
  ⟨.tim, 0x10, 32, 8, 0x0, [TIM_TM_t_CAPSTAMP_UPDATE]⟩,
  ⟨.tim, 0x14, 32, 8, 0x0, [TIM_TM_t_STATUS_CFG_ERR, TIM_TM_t_STATUS_OUT, TIM_TM_t_STATUS_OVF, TIM_TM_t_STATUS_CAP_OVR, TIM_TM_t_STATUS_CAP_FULL]⟩,
  ⟨.tim, 0x200, 16, 32, 0x0, [TIM_CMP_n_VALUE]⟩,
  ⟨.tim, 0x204, 16, 32, 0x0, [TIM_CMP_n_ARMED_COUNT]⟩,
  ⟨.tim, 0x208, 16, 32, 0x0, [TIM_CMP_n_ACT_ARMED, TIM_CMP_n_ACT_CMP_LAP, TIM_CMP_n_ACT_FIRED, TIM_CMP_n_ACT_LATE, TIM_CMP_n_ACT_DISARM, TIM_CMP_n_ACT_OUT, TIM_CMP_n_ACT_EVT, TIM_CMP_n_ACT_IRQ]⟩,
  ⟨.tim, 0x400, 4, 4, 0x0, [TIM_PIN_k_DIR, TIM_PIN_k_INV, TIM_PIN_k_TIMER]⟩,
  ⟨.tim, 0x410, 0, 1, 0x0, [TIM_WAKE_AON_TICKS]⟩,
  ⟨.crc, 0x0, 0, 1, 0x0, [CRC_CFG_IRQ_EN, CRC_CFG_POLY]⟩,
  ⟨.crc, 0x4, 0, 1, 0x0, [CRC_START_ADDR]⟩]

def regTableD2 : List RegDesc := [
  ⟨.crc, 0x8, 0, 1, 0x0, [CRC_LENGTH_BYTES]⟩,
  ⟨.crc, 0xc, 0, 1, 0x0, [CRC_CTRL_GO]⟩,
  ⟨.crc, 0x10, 0, 1, 0x0, [CRC_STATUS_COLL, CRC_STATUS_ERR, CRC_STATUS_DONE, CRC_STATUS_BUSY]⟩,
  ⟨.crc, 0x14, 0, 1, 0x0, [CRC_RESULT_LO_RESULT]⟩,
  ⟨.crc, 0x18, 0, 1, 0x0, [CRC_RESULT_HI_RESULT]⟩,
  ⟨.crc, 0x1c, 0, 1, 0x10000, [CRC_ALIVE_NEXT, CRC_ALIVE_LAST]⟩]

/-- The descriptors of HLY, ADC, TIM and CRC. -/
def regTableD : List RegDesc := regTableD0 ++ regTableD1 ++ regTableD2

end Sys2Proof.Machine
end

