-- ==== Sys2Proof/Machine/RegsE.lean ====
section
/-! DEFINITION. The register fields of OTP, SEC, MZW, BST and CNM, one definition a field, and their descriptors, as the register tables of the owning chapters of spec/ give them (block, offset, stride, bits, access code of R8, retention class of R9). -/

namespace Sys2Proof.Machine


/-! OTP_CTRL: block OTP, offset 0x000 (14_security_lifecycle_otp.md). -/
def OTP_CTRL_GO : Fld := ⟨.otp, 0x0, 0, 31, 31, .w1s, .v, 0x0⟩
def OTP_CTRL_CMD : Fld := ⟨.otp, 0x0, 0, 26, 24, .rw, .v, 0x0⟩
def OTP_CTRL_ADDR : Fld := ⟨.otp, 0x0, 0, 8, 0, .rw, .v, 0x0⟩

/-! OTP_STATUS: block OTP, offset 0x004 (14_security_lifecycle_otp.md). -/
def OTP_STATUS_RESULT : Fld := ⟨.otp, 0x4, 0, 31, 24, .ro, .v, 0x1⟩
def OTP_STATUS_COLL : Fld := ⟨.otp, 0x4, 0, 4, 4, .w1c, .v, 0x1⟩
def OTP_STATUS_ALARM : Fld := ⟨.otp, 0x4, 0, 3, 3, .w1c, .w, 0x1⟩
def OTP_STATUS_CORRECTED : Fld := ⟨.otp, 0x4, 0, 2, 2, .ro, .v, 0x1⟩
def OTP_STATUS_MARGINAL : Fld := ⟨.otp, 0x4, 0, 1, 1, .ro, .v, 0x1⟩
def OTP_STATUS_BUSY : Fld := ⟨.otp, 0x4, 0, 0, 0, .ro, .v, 0x1⟩

/-! OTP_DATA_LO: block OTP, offset 0x008 (14_security_lifecycle_otp.md). -/
def OTP_DATA_LO_DATA : Fld := ⟨.otp, 0x8, 0, 31, 0, .rw, .v, 0x0⟩

/-! OTP_MARGIN: block OTP, offset 0x010 (14_security_lifecycle_otp.md). -/
def OTP_MARGIN_DIFF_HIGH : Fld := ⟨.otp, 0x10, 0, 31, 24, .ro, .v, 0x0⟩
def OTP_MARGIN_DIFF_LOW : Fld := ⟨.otp, 0x10, 0, 23, 16, .ro, .v, 0x0⟩
def OTP_MARGIN_CHECK : Fld := ⟨.otp, 0x10, 0, 7, 0, .ro, .v, 0x0⟩

/-! OTP_SENSE: block OTP, offset 0x014 (14_security_lifecycle_otp.md). -/
def OTP_SENSE_SHIFT : Fld := ⟨.otp, 0x14, 0, 3, 0, .rw, .a, 0x0⟩

/-! OTP_LOCK: block OTP, offset 0x018 (14_security_lifecycle_otp.md). -/
def OTP_LOCK_LOCKED : Fld := ⟨.otp, 0x18, 0, 6, 0, .ro, .p, 0x0⟩

/-! OTP_SHADOW_n_LO: block OTP, offset 0x040 + 8·n (14_security_lifecycle_otp.md). -/
def OTP_SHADOW_n_LO_FUSES : Fld := ⟨.otp, 0x40, 8, 31, 0, .ro, .p, 0x0⟩

/-! OTP_SHADOW_STATUS: block OTP, offset 0x080 (14_security_lifecycle_otp.md). -/
def OTP_SHADOW_STATUS_HOLD : Fld := ⟨.otp, 0x80, 0, 16, 16, .ro, .v, 0x0⟩
def OTP_SHADOW_STATUS_UNCORR : Fld := ⟨.otp, 0x80, 0, 15, 8, .ro, .v, 0x0⟩
def OTP_SHADOW_STATUS_MARGINAL : Fld := ⟨.otp, 0x80, 0, 7, 0, .ro, .v, 0x0⟩

/-! OTP_WMAP_k: block OTP, offset 0x0C0 + 4·k (14_security_lifecycle_otp.md). -/
def OTP_WMAP_k_WRITTEN : Fld := ⟨.otp, 0xc0, 4, 31, 0, .ro, .p, 0x0⟩

/-! OTP_DATA_HI: block OTP, offset 0x00C (14_security_lifecycle_otp.md). -/
def OTP_DATA_HI_DATA : Fld := ⟨.otp, 0xc, 0, 31, 0, .rw, .v, 0x0⟩

/-! OTP_SHADOW_n_HI: block OTP, offset 0x044 + 8·n (14_security_lifecycle_otp.md). -/
def OTP_SHADOW_n_HI_FUSES : Fld := ⟨.otp, 0x44, 8, 31, 0, .ro, .p, 0x0⟩

/-! SEC_LIFECYCLE: block SEC, offset 0x100 (14_security_lifecycle_otp.md). -/
def SEC_LIFECYCLE_SVC_LEFT : Fld := ⟨.otp, 0x100, 0, 24, 16, .ro, .v, 0x0⟩
def SEC_LIFECYCLE_SVC_FROM : Fld := ⟨.otp, 0x100, 0, 15, 12, .ro, .v, 0x0⟩
def SEC_LIFECYCLE_STATE : Fld := ⟨.otp, 0x100, 0, 3, 0, .ro, .v, 0x0⟩

/-! SEC_DEVICE_ID_n: block SEC, offset 0x110 + 4·n (14_security_lifecycle_otp.md). -/
def SEC_DEVICE_ID_n_ID : Fld := ⟨.otp, 0x110, 4, 31, 0, .ro, .p, 0x0⟩

/-! SEC_ROLLBACK: block SEC, offset 0x120 (14_security_lifecycle_otp.md). -/
def SEC_ROLLBACK_CLZ : Fld := ⟨.otp, 0x120, 0, 30, 24, .ro, .p, 0x0⟩
def SEC_ROLLBACK_FW : Fld := ⟨.otp, 0x120, 0, 22, 16, .ro, .p, 0x0⟩
def SEC_ROLLBACK_TRIAL : Fld := ⟨.otp, 0x120, 0, 3, 2, .ro, .w, 0x0⟩
def SEC_ROLLBACK_FW_SLOT : Fld := ⟨.otp, 0x120, 0, 0, 0, .ro, .w, 0x0⟩

/-! SEC_FW_VERSION: block SEC, offset 0x124 (14_security_lifecycle_otp.md). -/
def SEC_FW_VERSION_VERSION : Fld := ⟨.otp, 0x124, 0, 31, 0, .ro, .w, 0x0⟩

/-! SEC_KEYCTL: block SEC, offset 0x128 (14_security_lifecycle_otp.md). -/
def SEC_KEYCTL_VENDOR_REV : Fld := ⟨.otp, 0x128, 0, 11, 8, .ro, .p, 0x0⟩
def SEC_KEYCTL_OWNER_REV : Fld := ⟨.otp, 0x128, 0, 7, 0, .ro, .p, 0x0⟩

/-! SEC_MANIFEST: block SEC, offset 0x12C (14_security_lifecycle_otp.md). -/
def SEC_MANIFEST_VERSION : Fld := ⟨.otp, 0x12c, 0, 31, 0, .ro, .w, 0x0⟩

/-! SEC_AUTH_n: block SEC, offset 0x130 + 4·n (14_security_lifecycle_otp.md). -/
def SEC_AUTH_n_IDLE_LEFT : Fld := ⟨.otp, 0x130, 4, 23, 16, .ro, .v, 0x0⟩
def SEC_AUTH_n_SCOPE : Fld := ⟨.otp, 0x130, 4, 15, 0, .ro, .v, 0x0⟩

/-! SEC_AUTH_FAIL: block SEC, offset 0x150 (14_security_lifecycle_otp.md). -/
def SEC_AUTH_FAIL_FAILS : Fld := ⟨.otp, 0x150, 0, 31, 24, .ro, .a, 0x0⟩
def SEC_AUTH_FAIL_BACKOFF_S : Fld := ⟨.otp, 0x150, 0, 11, 0, .ro, .v, 0x0⟩

/-! SEC_FW_SEL: block SEC, offset 0x200 (14_security_lifecycle_otp.md). -/
def SEC_FW_SEL_INIT : Fld := ⟨.otp, 0x200, 0, 11, 8, .rw, .v, 0x0⟩
def SEC_FW_SEL_REGION : Fld := ⟨.otp, 0x200, 0, 5, 0, .rw, .v, 0x0⟩

/-! SEC_FW_BASE: block SEC, offset 0x204 (14_security_lifecycle_otp.md). -/
def SEC_FW_BASE_ADDR : Fld := ⟨.otp, 0x204, 0, 31, 2, .rw, .v, 0x0⟩

/-! SEC_FW_ATTR: block SEC, offset 0x20C (14_security_lifecycle_otp.md). -/
def SEC_FW_ATTR_EN : Fld := ⟨.otp, 0x20c, 0, 31, 31, .rw, .v, 0x0⟩
def SEC_FW_ATTR_USER : Fld := ⟨.otp, 0x20c, 0, 3, 3, .rw, .v, 0x0⟩
def SEC_FW_ATTR_X : Fld := ⟨.otp, 0x20c, 0, 2, 2, .rw, .v, 0x0⟩
def SEC_FW_ATTR_W : Fld := ⟨.otp, 0x20c, 0, 1, 1, .rw, .v, 0x0⟩
def SEC_FW_ATTR_R : Fld := ⟨.otp, 0x20c, 0, 0, 0, .rw, .v, 0x0⟩

/-! SEC_FW_CTRL: block SEC, offset 0x210 (14_security_lifecycle_otp.md). -/
def SEC_FW_CTRL_ERR : Fld := ⟨.otp, 0x210, 0, 2, 2, .w1c, .v, 0x0⟩
def SEC_FW_CTRL_LOAD : Fld := ⟨.otp, 0x210, 0, 1, 1, .w1s, .v, 0x0⟩
def SEC_FW_CTRL_COMMIT : Fld := ⟨.otp, 0x210, 0, 0, 0, .w1s, .v, 0x0⟩

/-! SEC_FW_DENY: block SEC, offset 0x214 (14_security_lifecycle_otp.md). -/
def SEC_FW_DENY_COUNT : Fld := ⟨.otp, 0x214, 0, 31, 16, .rc, .v, 0x0⟩
def SEC_FW_DENY_LAST_INIT : Fld := ⟨.otp, 0x214, 0, 3, 0, .ro, .v, 0x0⟩

/-! SEC_FW_LIMIT: block SEC, offset 0x208 (14_security_lifecycle_otp.md). -/
def SEC_FW_LIMIT_ADDR : Fld := ⟨.otp, 0x208, 0, 31, 2, .rw, .v, 0x0⟩

/-! MZW_STATUS: block MZW, offset 0x000 (15_metrology_partition.md). -/
def MZW_STATUS_AUDIT_FULL : Fld := ⟨.mzw, 0x0, 0, 7, 7, .ro, .v, 0x0⟩
def MZW_STATUS_MZ_FAULT : Fld := ⟨.mzw, 0x0, 0, 6, 6, .ro, .v, 0x0⟩
def MZW_STATUS_MEAS_FAULT : Fld := ⟨.mzw, 0x0, 0, 5, 5, .ro, .v, 0x0⟩
def MZW_STATUS_POWER : Fld := ⟨.mzw, 0x0, 0, 4, 4, .ro, .v, 0x0⟩
def MZW_STATUS_UNSEALED : Fld := ⟨.mzw, 0x0, 0, 3, 3, .ro, .v, 0x0⟩
def MZW_STATUS_LOT_OPEN : Fld := ⟨.mzw, 0x0, 0, 2, 2, .ro, .v, 0x0⟩
def MZW_STATUS_QFULL : Fld := ⟨.mzw, 0x0, 0, 1, 1, .ro, .v, 0x0⟩
def MZW_STATUS_LINK : Fld := ⟨.mzw, 0x0, 0, 0, 0, .ro, .v, 0x0⟩

/-! MZW_GT_LO: block MZW, offset 0x004 (15_metrology_partition.md). -/
def MZW_GT_LO_GT_LO : Fld := ⟨.mzw, 0x4, 0, 31, 0, .ro, .v, 0x0⟩

/-! MZW_GT_HI: block MZW, offset 0x008 (15_metrology_partition.md). -/
def MZW_GT_HI_GT_HI : Fld := ⟨.mzw, 0x8, 0, 31, 0, .ro, .v, 0x0⟩

/-! MZW_LOT: block MZW, offset 0x00C (15_metrology_partition.md). -/
def MZW_LOT_NUMBER : Fld := ⟨.mzw, 0xc, 0, 31, 0, .ro, .v, 0x0⟩

/-! MZW_LOT_LEN: block MZW, offset 0x010 (15_metrology_partition.md). -/
def MZW_LOT_LEN_LEN : Fld := ⟨.mzw, 0x10, 0, 31, 0, .ro, .v, 0x0⟩

/-! MZW_SEAL: block MZW, offset 0x014 (15_metrology_partition.md). -/
def MZW_SEAL_COUNT : Fld := ⟨.mzw, 0x14, 0, 31, 0, .ro, .v, 0x0⟩

/-! MZW_SWID: block MZW, offset 0x018 (15_metrology_partition.md). -/
def MZW_SWID_VERSION : Fld := ⟨.mzw, 0x18, 0, 31, 0, .ro, .v, 0x0⟩

/-! MZW_CMD: block MZW, offset 0x040 (15_metrology_partition.md). -/
def MZW_CMD_CMD : Fld := ⟨.mzw, 0x40, 0, 7, 0, .wo, .v, 0x0⟩

/-! MZW_ARG: block MZW, offset 0x044 (15_metrology_partition.md). -/
def MZW_ARG_ARG : Fld := ⟨.mzw, 0x44, 0, 31, 0, .wo, .v, 0x0⟩

/-! MZW_RESP: block MZW, offset 0x048 (15_metrology_partition.md). -/
def MZW_RESP_RESULT : Fld := ⟨.mzw, 0x48, 0, 31, 24, .ro, .v, 0x0⟩
def MZW_RESP_CMD : Fld := ⟨.mzw, 0x48, 0, 7, 0, .ro, .v, 0x0⟩

/-! MZW_DATA_n: block MZW, offset 0x080 + 4·n (15_metrology_partition.md). -/
def MZW_DATA_n_DATA : Fld := ⟨.mzw, 0x80, 4, 31, 0, .ro, .v, 0x0⟩

/-! MZW_LOT_CFG: block MZW, offset 0x100 (15_metrology_partition.md). -/
def MZW_LOT_CFG_EN : Fld := ⟨.mzw, 0x100, 0, 31, 31, .rws, .c, 0x0⟩
def MZW_LOT_CFG_ID_SIG : Fld := ⟨.mzw, 0x100, 0, 26, 16, .rws, .c, 0x0⟩
def MZW_LOT_CFG_CUT_SIG : Fld := ⟨.mzw, 0x100, 0, 10, 0, .rws, .c, 0x0⟩

/-! MZW_SWCRC: block MZW, offset 0x01C (15_metrology_partition.md). -/
def MZW_SWCRC_VERSION : Fld := ⟨.mzw, 0x1c, 0, 31, 0, .ro, .v, 0x0⟩

/-! MZW_PARCRC: block MZW, offset 0x020 (15_metrology_partition.md). -/
def MZW_PARCRC_VERSION : Fld := ⟨.mzw, 0x20, 0, 31, 0, .ro, .v, 0x0⟩

/-! BST_CTRL: block BST, offset 0x000 (16_selftest_and_ageing.md). -/
def BST_CTRL_GO : Fld := ⟨.bst, 0x0, 0, 31, 31, .w1s, .v, 0x0⟩
def BST_CTRL_ABORT : Fld := ⟨.bst, 0x0, 0, 30, 30, .w1s, .v, 0x0⟩
def BST_CTRL_CMD : Fld := ⟨.bst, 0x0, 0, 25, 24, .rw, .v, 0x0⟩
def BST_CTRL_REPAIR_WORD : Fld := ⟨.bst, 0x0, 0, 20, 16, .rw, .v, 0x0⟩
def BST_CTRL_LOGIC_SEL : Fld := ⟨.bst, 0x0, 0, 12, 0, .rw, .v, 0x0⟩

/-! BST_STATUS: block BST, offset 0x010 (16_selftest_and_ageing.md). -/
def BST_STATUS_FAILS : Fld := ⟨.bst, 0x10, 0, 31, 24, .ro, .w, 0x0⟩
def BST_STATUS_LOGGED : Fld := ⟨.bst, 0x10, 0, 23, 20, .ro, .w, 0x0⟩
def BST_STATUS_ORIGIN : Fld := ⟨.bst, 0x10, 0, 19, 16, .ro, .w, 0x0⟩
def BST_STATUS_REPAIR_RESULT : Fld := ⟨.bst, 0x10, 0, 15, 12, .ro, .w, 0x0⟩
def BST_STATUS_RESULT : Fld := ⟨.bst, 0x10, 0, 3, 2, .ro, .w, 0x0⟩
def BST_STATUS_COLL : Fld := ⟨.bst, 0x10, 0, 1, 1, .w1c, .v, 0x0⟩
def BST_STATUS_BUSY : Fld := ⟨.bst, 0x10, 0, 0, 0, .ro, .v, 0x0⟩

/-! BST_TIME: block BST, offset 0x014 (16_selftest_and_ageing.md). -/
def BST_TIME_PEAK_MW : Fld := ⟨.bst, 0x14, 0, 31, 16, .ro, .w, 0x0⟩
def BST_TIME_DURATION : Fld := ⟨.bst, 0x14, 0, 15, 0, .ro, .w, 0x0⟩

/-! BST_FAIL_n_W0: block BST, offset 0x040 + 8·n (16_selftest_and_ageing.md). -/
def BST_FAIL_n_W0_VALID : Fld := ⟨.bst, 0x40, 8, 31, 31, .ro, .w, 0x0⟩
def BST_FAIL_n_W0_KIND : Fld := ⟨.bst, 0x40, 8, 30, 28, .ro, .w, 0x0⟩
def BST_FAIL_n_W0_STEP : Fld := ⟨.bst, 0x40, 8, 23, 16, .ro, .w, 0x0⟩
def BST_FAIL_n_W0_UNIT : Fld := ⟨.bst, 0x40, 8, 7, 0, .ro, .w, 0x0⟩

/-! BST_FAIL_n_W1: block BST, offset 0x044 + 8·n (16_selftest_and_ageing.md). -/
def BST_FAIL_n_W1_DETAIL : Fld := ⟨.bst, 0x44, 8, 31, 0, .ro, .w, 0x0⟩

/-! BST_REPAIR_USED: block BST, offset 0x0C0 (16_selftest_and_ageing.md). -/
def BST_REPAIR_USED_USED : Fld := ⟨.bst, 0xc0, 0, 31, 0, .ro, .p, 0x0⟩

/-! BST_CERT: block BST, offset 0x0D0 (16_selftest_and_ageing.md). -/
def BST_CERT_REASON : Fld := ⟨.bst, 0xd0, 0, 31, 24, .ro, .w, 0x0⟩
def BST_CERT_SEQ : Fld := ⟨.bst, 0xd0, 0, 23, 0, .ro, .a, 0x0⟩

/-! BST_CFG: block BST, offset 0x0E0 (16_selftest_and_ageing.md). -/
def BST_CFG_CERT_DAYS : Fld := ⟨.bst, 0xe0, 0, 4, 0, .rws, .c, 0x1e⟩

/-! BST_MEM_SEL_LO: block BST, offset 0x004 (16_selftest_and_ageing.md). -/
def BST_MEM_SEL_LO_SEL : Fld := ⟨.bst, 0x4, 0, 31, 0, .rw, .v, 0x0⟩

/-! BST_MEM_SEL_HI: block BST, offset 0x008 (16_selftest_and_ageing.md). -/
def BST_MEM_SEL_HI_SEL : Fld := ⟨.bst, 0x8, 0, 31, 0, .rw, .v, 0x0⟩

/-! CNM_SLACK: block CNM, offset 0x000 (16_selftest_and_ageing.md). -/
def CNM_SLACK_SLACK_B : Fld := ⟨.cnm, 0x0, 0, 31, 16, .ro, .v, 0x0⟩
def CNM_SLACK_SLACK_A : Fld := ⟨.cnm, 0x0, 0, 15, 0, .ro, .v, 0x0⟩

/-! CNM_RO_k: block CNM, offset 0x010 + 4·k (16_selftest_and_ageing.md). -/
def CNM_RO_k_DRIFT : Fld := ⟨.cnm, 0x10, 4, 15, 0, .ro, .a, 0x0⟩

/-! CNM_SRAM: block CNM, offset 0x030 (16_selftest_and_ageing.md). -/
def CNM_SRAM_WORST_ARRAY : Fld := ⟨.cnm, 0x30, 0, 31, 24, .ro, .a, 0x0⟩
def CNM_SRAM_READ_MARGIN : Fld := ⟨.cnm, 0x30, 0, 18, 16, .ro, .a, 0x0⟩
def CNM_SRAM_SBE_24H : Fld := ⟨.cnm, 0x30, 0, 15, 0, .ro, .v, 0x0⟩

/-! CNM_FUSE: block CNM, offset 0x034 (16_selftest_and_ageing.md). -/
def CNM_FUSE_DIFF_WORDS : Fld := ⟨.cnm, 0x34, 0, 31, 16, .ro, .a, 0x0⟩
def CNM_FUSE_AGE_H : Fld := ⟨.cnm, 0x34, 0, 7, 0, .ro, .v, 0x0⟩

/-! CNM_RON: block CNM, offset 0x038 (16_selftest_and_ageing.md). -/
def CNM_RON_RON_MAX : Fld := ⟨.cnm, 0x38, 0, 31, 16, .ro, .a, 0x0⟩
def CNM_RON_DIE : Fld := ⟨.cnm, 0x38, 0, 4, 4, .ro, .a, 0x0⟩
def CNM_RON_OUTPUT : Fld := ⟨.cnm, 0x38, 0, 3, 0, .ro, .a, 0x0⟩

/-! CNM_ADCREF: block CNM, offset 0x03C (16_selftest_and_ageing.md). -/
def CNM_ADCREF_DRIFT : Fld := ⟨.cnm, 0x3c, 0, 31, 0, .ro, .a, 0x0⟩

/-! CNM_LIFE_d: block CNM, offset 0x040 + 4·d (16_selftest_and_ageing.md). -/
def CNM_LIFE_d_EQ_HOURS : Fld := ⟨.cnm, 0x40, 4, 31, 0, .ro, .a, 0x0⟩

/-! CNM_PROJ: block CNM, offset 0x04C (16_selftest_and_ageing.md). -/
def CNM_PROJ_USED : Fld := ⟨.cnm, 0x4c, 0, 31, 16, .ro, .a, 0xffff⟩
def CNM_PROJ_REMAIN : Fld := ⟨.cnm, 0x4c, 0, 15, 0, .ro, .a, 0xffff⟩

/-! CNM_ADVICE: block CNM, offset 0x100 (16_selftest_and_ageing.md). -/
def CNM_ADVICE_REPLANS : Fld := ⟨.cnm, 0x100, 0, 31, 24, .ro, .a, 0x0⟩
def CNM_ADVICE_RESTORED : Fld := ⟨.cnm, 0x100, 0, 16, 16, .ro, .a, 0x0⟩
def CNM_ADVICE_ADVICE : Fld := ⟨.cnm, 0x100, 0, 9, 0, .ro, .a, 0x0⟩

/-! CNM_TEMP_d_b: block CNM, offset 0x080 + 4·n (16_selftest_and_ageing.md). -/
def CNM_TEMP_d_b_HOURS : Fld := ⟨.cnm, 0x80, 4, 31, 0, .ro, .a, 0x0⟩

def regTableE0 : List RegDesc := [
  ⟨.otp, 0x0, 0, 1, 0x0, [OTP_CTRL_GO, OTP_CTRL_CMD, OTP_CTRL_ADDR]⟩,
  ⟨.otp, 0x4, 0, 1, 0x1, [OTP_STATUS_RESULT, OTP_STATUS_COLL, OTP_STATUS_ALARM, OTP_STATUS_CORRECTED, OTP_STATUS_MARGINAL, OTP_STATUS_BUSY]⟩,
  ⟨.otp, 0x8, 0, 1, 0x0, [OTP_DATA_LO_DATA]⟩,
  ⟨.otp, 0x10, 0, 1, 0x0, [OTP_MARGIN_DIFF_HIGH, OTP_MARGIN_DIFF_LOW, OTP_MARGIN_CHECK]⟩,
  ⟨.otp, 0x14, 0, 1, 0x0, [OTP_SENSE_SHIFT]⟩,
  ⟨.otp, 0x18, 0, 1, 0x0, [OTP_LOCK_LOCKED]⟩,
  ⟨.otp, 0x40, 8, 8, 0x0, [OTP_SHADOW_n_LO_FUSES]⟩,
  ⟨.otp, 0x80, 0, 1, 0x0, [OTP_SHADOW_STATUS_HOLD, OTP_SHADOW_STATUS_UNCORR, OTP_SHADOW_STATUS_MARGINAL]⟩,
  ⟨.otp, 0xc0, 4, 16, 0x0, [OTP_WMAP_k_WRITTEN]⟩,
  ⟨.otp, 0xc, 0, 1, 0x0, [OTP_DATA_HI_DATA]⟩,
  ⟨.otp, 0x44, 8, 8, 0x0, [OTP_SHADOW_n_HI_FUSES]⟩,
  ⟨.otp, 0x100, 0, 1, 0x0, [SEC_LIFECYCLE_SVC_LEFT, SEC_LIFECYCLE_SVC_FROM, SEC_LIFECYCLE_STATE]⟩,
  ⟨.otp, 0x110, 4, 4, 0x0, [SEC_DEVICE_ID_n_ID]⟩,
  ⟨.otp, 0x120, 0, 1, 0x0, [SEC_ROLLBACK_CLZ, SEC_ROLLBACK_FW, SEC_ROLLBACK_TRIAL, SEC_ROLLBACK_FW_SLOT]⟩,
  ⟨.otp, 0x124, 0, 1, 0x0, [SEC_FW_VERSION_VERSION]⟩,
  ⟨.otp, 0x128, 0, 1, 0x0, [SEC_KEYCTL_VENDOR_REV, SEC_KEYCTL_OWNER_REV]⟩,
  ⟨.otp, 0x12c, 0, 1, 0x0, [SEC_MANIFEST_VERSION]⟩,
  ⟨.otp, 0x130, 4, 8, 0x0, [SEC_AUTH_n_IDLE_LEFT, SEC_AUTH_n_SCOPE]⟩,
  ⟨.otp, 0x150, 0, 1, 0x0, [SEC_AUTH_FAIL_FAILS, SEC_AUTH_FAIL_BACKOFF_S]⟩,
  ⟨.otp, 0x200, 0, 1, 0x0, [SEC_FW_SEL_INIT, SEC_FW_SEL_REGION]⟩,
  ⟨.otp, 0x204, 0, 1, 0x0, [SEC_FW_BASE_ADDR]⟩,
  ⟨.otp, 0x20c, 0, 1, 0x0, [SEC_FW_ATTR_EN, SEC_FW_ATTR_USER, SEC_FW_ATTR_X, SEC_FW_ATTR_W, SEC_FW_ATTR_R]⟩,
  ⟨.otp, 0x210, 0, 1, 0x0, [SEC_FW_CTRL_ERR, SEC_FW_CTRL_LOAD, SEC_FW_CTRL_COMMIT]⟩,
  ⟨.otp, 0x214, 0, 1, 0x0, [SEC_FW_DENY_COUNT, SEC_FW_DENY_LAST_INIT]⟩,
  ⟨.otp, 0x208, 0, 1, 0x0, [SEC_FW_LIMIT_ADDR]⟩]

def regTableE1 : List RegDesc := [
  ⟨.mzw, 0x0, 0, 1, 0x0, [MZW_STATUS_AUDIT_FULL, MZW_STATUS_MZ_FAULT, MZW_STATUS_MEAS_FAULT, MZW_STATUS_POWER, MZW_STATUS_UNSEALED, MZW_STATUS_LOT_OPEN, MZW_STATUS_QFULL, MZW_STATUS_LINK]⟩,
  ⟨.mzw, 0x4, 0, 1, 0x0, [MZW_GT_LO_GT_LO]⟩,
  ⟨.mzw, 0x8, 0, 1, 0x0, [MZW_GT_HI_GT_HI]⟩,
  ⟨.mzw, 0xc, 0, 1, 0x0, [MZW_LOT_NUMBER]⟩,
  ⟨.mzw, 0x10, 0, 1, 0x0, [MZW_LOT_LEN_LEN]⟩,
  ⟨.mzw, 0x14, 0, 1, 0x0, [MZW_SEAL_COUNT]⟩,
  ⟨.mzw, 0x18, 0, 1, 0x0, [MZW_SWID_VERSION]⟩,
  ⟨.mzw, 0x40, 0, 1, 0x0, [MZW_CMD_CMD]⟩,
  ⟨.mzw, 0x44, 0, 1, 0x0, [MZW_ARG_ARG]⟩,
  ⟨.mzw, 0x48, 0, 1, 0x0, [MZW_RESP_RESULT, MZW_RESP_CMD]⟩,
  ⟨.mzw, 0x80, 4, 16, 0x0, [MZW_DATA_n_DATA]⟩,
  ⟨.mzw, 0x100, 0, 1, 0x0, [MZW_LOT_CFG_EN, MZW_LOT_CFG_ID_SIG, MZW_LOT_CFG_CUT_SIG]⟩,
  ⟨.mzw, 0x1c, 0, 1, 0x0, [MZW_SWCRC_VERSION]⟩,
  ⟨.mzw, 0x20, 0, 1, 0x0, [MZW_PARCRC_VERSION]⟩,
  ⟨.bst, 0x0, 0, 1, 0x0, [BST_CTRL_GO, BST_CTRL_ABORT, BST_CTRL_CMD, BST_CTRL_REPAIR_WORD, BST_CTRL_LOGIC_SEL]⟩,
  ⟨.bst, 0x10, 0, 1, 0x0, [BST_STATUS_FAILS, BST_STATUS_LOGGED, BST_STATUS_ORIGIN, BST_STATUS_REPAIR_RESULT, BST_STATUS_RESULT, BST_STATUS_COLL, BST_STATUS_BUSY]⟩,
  ⟨.bst, 0x14, 0, 1, 0x0, [BST_TIME_PEAK_MW, BST_TIME_DURATION]⟩,
  ⟨.bst, 0x40, 8, 8, 0x0, [BST_FAIL_n_W0_VALID, BST_FAIL_n_W0_KIND, BST_FAIL_n_W0_STEP, BST_FAIL_n_W0_UNIT]⟩,
  ⟨.bst, 0x44, 8, 8, 0x0, [BST_FAIL_n_W1_DETAIL]⟩,
  ⟨.bst, 0xc0, 0, 1, 0x0, [BST_REPAIR_USED_USED]⟩,
  ⟨.bst, 0xd0, 0, 1, 0x0, [BST_CERT_REASON, BST_CERT_SEQ]⟩,
  ⟨.bst, 0xe0, 0, 1, 0x1e, [BST_CFG_CERT_DAYS]⟩,
  ⟨.bst, 0x4, 0, 1, 0x0, [BST_MEM_SEL_LO_SEL]⟩,
  ⟨.bst, 0x8, 0, 1, 0x0, [BST_MEM_SEL_HI_SEL]⟩,
  ⟨.cnm, 0x0, 0, 1, 0x0, [CNM_SLACK_SLACK_B, CNM_SLACK_SLACK_A]⟩]

def regTableE2 : List RegDesc := [
  ⟨.cnm, 0x10, 4, 8, 0x0, [CNM_RO_k_DRIFT]⟩,
  ⟨.cnm, 0x30, 0, 1, 0x0, [CNM_SRAM_WORST_ARRAY, CNM_SRAM_READ_MARGIN, CNM_SRAM_SBE_24H]⟩,
  ⟨.cnm, 0x34, 0, 1, 0x0, [CNM_FUSE_DIFF_WORDS, CNM_FUSE_AGE_H]⟩,
  ⟨.cnm, 0x38, 0, 1, 0x0, [CNM_RON_RON_MAX, CNM_RON_DIE, CNM_RON_OUTPUT]⟩,
  ⟨.cnm, 0x3c, 0, 1, 0x0, [CNM_ADCREF_DRIFT]⟩,
  ⟨.cnm, 0x40, 4, 3, 0x0, [CNM_LIFE_d_EQ_HOURS]⟩,
  ⟨.cnm, 0x4c, 0, 1, 0xffff, [CNM_PROJ_USED, CNM_PROJ_REMAIN]⟩,
  ⟨.cnm, 0x100, 0, 1, 0x0, [CNM_ADVICE_REPLANS, CNM_ADVICE_RESTORED, CNM_ADVICE_ADVICE]⟩,
  ⟨.cnm, 0x80, 4, 22, 0x0, [CNM_TEMP_d_b_HOURS]⟩]

/-- The descriptors of OTP, SEC, MZW, BST and CNM. -/
def regTableE : List RegDesc := regTableE0 ++ regTableE1 ++ regTableE2

end Sys2Proof.Machine
end

