-- ==== Sys2Proof/Machine/State.lean ====
section
/-! DEFINITION. The state of the block, its reset value, and the reasons a step can stop. -/

namespace Sys2Proof.Machine

open Sys2Proof

/-- Why a step stops with a fault. Every command of the table takes a next state, so this model raises none; the one constructor names a use the model rules out. -/
inductive Fault where
  /-- A memory access outside the map of R31 made by the model itself: raised by no meaning; safe. -/
  | unmapped (addr : Nat)
  deriving DecidableEq, Repr

/-- Why a command has no meaning. -/
inductive Refusal where
  /-- The command's row has not been given its meaning; raised by Machine/Dispatch.lean alone; safe. -/
  | notModelled (mnemonic : String)
  deriving DecidableEq, Repr

/-- The supply condition the device states rest on (R431): OFF and STANDBY have no code in SYS_STATE. -/
inductive Power where
  /-- OFF: no AON supply -/
  | off
  /-- STANDBY: only the AON domain runs -/
  | standby
  /-- the main die is powered; SYS_STATE.DEV_STATE names the device state -/
  | on
  deriving DecidableEq, Repr

/-- The state of the block. Registers have one home, `regs`; the rest is the state the spec gives beside them. -/
structure State where
  regs : RegFile := []
  mem : List Host.Cell := []
  /-- device time in ns, as last told by a command -/
  now : Nat := 0
  /-- draws made of Config.free; the model's own field -/
  freeCount : Nat := 0
  power : Power := .on
  fc : Two FcSt := ⟨{}, {}⟩
  die : Two Die := ⟨{}, {}⟩
  inp : InSt := {}
  pairs : Tab PairSt := []
  srcs : Tab SrcSt := []
  pulse : PulseSt := {}
  outs : OutsSt := {}
  graph : Two GraphSt := ⟨{}, {}⟩
  stop : Two StopSt := ⟨{}, {}⟩
  stay : Two StaySt := ⟨{}, {}⟩
  ae : Two AeSt := ⟨{}, {}⟩
  /-- error lines asserted at present, with their element: a latched fault whose line stands here has its condition present (R94, R121, R185) -/
  conds : List (Nat × Elem) := []
  ev : EvSt := {}
  recd : RecSt := {}
  ptp : Two PtpSt := ⟨{}, {}⟩
  /-- consecutive frequency-monitor windows beyond ±2 %, by monitor (R19) -/
  fmon : Two Nat := ⟨0, 0⟩
  /-- next word the patrol scrubber reads, by memory (R17) -/
  scrub : Tab Nat := []
  adcs : Tab AdcSt := []
  ses : Tab SesSt := []
  nets : Two NetSt := ⟨{}, {}⟩
  link : LinkSt := {}
  /-- network, PTP time and epoch of a commanded epoch switch (R236) -/
  epochAt : Option (Net × Nat × Nat) := none
  /-- the logic graph in force -/
  prog : Prog := {}
  /-- safety functions held by a running Refit (R153) -/
  refitHeld : List Nat := []
  /-- the graph sees HLY_PI_LOSS instead of the host image (R287, R303) -/
  hostLost : Bool := false
  /-- boundaries SLEEP_SIG has been 1 with every condition met (R433) -/
  sleepRun : Nat := 0
  shdnPrev : Bool := false
  cutPrev : Bool := false
  /-- SERVICE lasts until this time, ns (R355) -/
  service : Option Nat := none
  tims : Tab TimSt := []
  crcs : Tab CrcSt := []
  /-- what a register read has latched, by initiator and address (R75, R183, R320, R341, R350, R395, R437) -/
  latches : Tab Nat := []
  /-- the answer of the last register access -/
  bus : BusAns := .idle
  /-- the regions of the bus firewall, by 64 · initiator code + region (R370) -/
  fw : Tab FwRegion := []
  /-- time (ns) at which the AON counter was 0 (R437) -/
  aonStart : Nat := 0
  hly : HlySt := {}
  /-- SEC, the fuses, flash and the AON retention RAM -/
  sec : SecSt := {}
  /-- entry into SLEEP, ns, and the device state it was entered from (R435) -/
  sleepAt : Nat := 0
  sleptFrom : Nat := 0
  /-- the image of the Refit that runs, from CHECK to COMMIT (R153) -/
  refit : Option Image := none
  /-- the Mizzen die -/
  mz : MzSt := {}
  /-- commands waiting, first in, first out -/
  pending : List Instr := []
  deriving DecidableEq, Repr

/-- The fixed words that differ from the reset word of their description: the consequential maps of both collectors (R190) and channel B's lockstep delay (R205). -/
def fixedWords : RegFile := [
  (0x40010204, 0x000E0000#32),
  (0x4001020C, 0x000E0000#32),
  (0x40010214, 0x00100000#32),
  (0x4001021C, 0x00100000#32),
  (0x40010224, 0x00400000#32),
  (0x4001022C, 0x00800000#32),
  (0x40010234, 0x00800000#32),
  (0x4001023C, 0x00800000#32),
  (0x40010244, 0x00800000#32),
  (0x40010248, 0x00804000#32),
  (0x40010254, 0x08000000#32),
  (0x50010204, 0x000E0000#32),
  (0x5001020C, 0x000E0000#32),
  (0x50010214, 0x00100000#32),
  (0x5001021C, 0x00100000#32),
  (0x50010224, 0x00400000#32),
  (0x5001022C, 0x00800000#32),
  (0x50010234, 0x00800000#32),
  (0x5001023C, 0x00800000#32),
  (0x50010244, 0x00800000#32),
  (0x50010248, 0x00804000#32),
  (0x50010254, 0x08000000#32),
  (0x50070004, 0x00000033#32)]

/-- The state right after reset: every register at its reset value, every queue empty. -/
def State.reset : State := { regs := fixedWords }

end Sys2Proof.Machine
end

