-- ==== Sys2Proof/Machine/Ops.lean ====
section
/-! DEFINITION. The operations every family shares: reading and writing a register field, latching a fault in the collectors with the reaction of its class, the event and recorder queues, the switches of an I/O die, and settling the device state. -/

namespace Sys2Proof.Machine

open Sys2Proof

/-- An element put into a list ordered by a key, after the elements of the same key. -/
def insertBy {α : Type} (key : α → Nat) (x : α) : List α → List α
  | [] => [x]
  | y :: t => if key x < key y then x :: y :: t else y :: insertBy key x t

/-- A list in the order of a key; equal keys keep their order. -/
def sortBy {α : Type} (key : α → Nat) : List α → List α
  | l => l.foldl (fun acc x => insertBy key x acc) []

/-! ## Register fields -/

/-- The value of field `f` of the register of index `i` in channel `c`'s view (R32). -/
def State.get (s : State) (f : Fld) (c : Chan := .a) (i : Nat := 0) : Nat := fldGet s.regs f (blockBase f.blk c) i

/-- Field `f` of the register of index `i` in channel `c`'s view set to `v`. -/
def State.put (s : State) (f : Fld) (v : Nat) (c : Chan := .a) (i : Nat := 0) : State :=
  { s with regs := fldPut s.regs f (blockBase f.blk c) i v }

/-- A field of a register in a block at a base of its own (R31: TIM_P at 0x6000_0000, CRC_P at 0x6001_0000; the second converter's area of the ADC block). -/
def State.getAt (s : State) (f : Fld) (base : Nat) (i : Nat := 0) : Nat := fldGet s.regs f base i

/-- Such a field set to `v`. -/
def State.putAt (s : State) (f : Fld) (v base : Nat) (i : Nat := 0) : State := { s with regs := fldPut s.regs f base i v }

/-- A one-bit field as a truth value. -/
def State.flag (s : State) (f : Fld) (c : Chan := .a) (i : Nat := 0) : Bool := s.get f c i == 1

/-- A one-bit field set from a truth value. -/
def State.putFlag (s : State) (f : Fld) (v : Bool) (c : Chan := .a) (i : Nat := 0) : State := s.put f v.toNat c i

/-- The same field in both views, for what both channels hold alike after agreement (R95, R110). -/
def State.putBoth (s : State) (f : Fld) (v : Nat) (i : Nat := 0) : State := (s.put f v .a i).put f v .b i

/-- A counter field one up, saturating at its largest value. -/
def State.satInc (s : State) (f : Fld) (c : Chan := .a) (i : Nat := 0) : State :=
  let v := s.get f c i
  if v + 1 < 2 ^ (f.hi + 1 - f.lo) then s.put f (v + 1) c i else s

/-- The value of an `n`-bit two's-complement field. -/
def signed (n v : Nat) : Int := if v < 2 ^ (n - 1) then (v : Int) else (v : Int) - 2 ^ n

/-- An integer as an `n`-bit two's-complement field, wrapping. -/
def unsigned (n : Nat) (v : Int) : Nat := (v % 2 ^ n).toNat

/-- An integer as an `n`-bit two's-complement field, saturating. -/
def saturated (n : Nat) (v : Int) : Nat :=
  unsigned n (max (-(2 ^ (n - 1))) (min v (2 ^ (n - 1) - 1)))

/-- Bit `n` of a number. -/
def bit (v n : Nat) : Bool := v.testBit n

/-- A number with bit `n` set or cleared. -/
def setBit (v n : Nat) (b : Bool) : Nat :=
  if b then v ||| (1 <<< n) else if v.testBit n then v - 1 <<< n else v

/-- A quotient rounded in a direction the spec leaves open; exact quotients are exact. -/
def roundFree (num den : Int) : Int :=
  if num % den = 0 then num / den else num / den + (if Config.roundUp num den then 1 else 0)

/-- The next free value; the counter advances. -/
def State.draw (s : State) : Nat × State := (Config.free s.freeCount, { s with freeCount := s.freeCount + 1 })

/-- Both halves of a `Two` changed alike. -/
def twoMap {α β : Type} (t : Two α) (f : α → β) : Two β := ⟨f t.a, f t.b⟩

/-- What SEC, the fuses, flash and the AON RAM hold, changed. -/
def State.updSec (s : State) (f : SecSt → SecSt) : State := { s with sec := f s.sec }

/-! ## Device state (SYS_STATE) -/

def stINIT : Nat := 0
def stSAFE_READY : Nat := 1
def stRUN : Nat := 2
def stSTOPPING : Nat := 3
def stSAFE : Nat := 4
def stLOCKOUT : Nat := 5
def stSLEEP : Nat := 6
def stSHUTDOWN : Nat := 7

/-- SYS_STATE.DEV_STATE. -/
def State.dev (s : State) : Nat := s.get SYS_STATE_DEV_STATE

/-- T_G in ns (SYS_GCYCLE.TG_SEL). -/
def State.tg (s : State) : Nat := 125000 * 2 ^ s.get SYS_GCYCLE_TG_SEL

/-- A time in ms as whole guard cycles, rounded up (R131). -/
def State.cyclesOfMs (s : State) (ms : Nat) : Nat := (ms * 1000000 + s.tg - 1) / s.tg

/-- max(2 ms, 4 · T_G) in ns (R90, R110). -/
def State.agreeTime (s : State) : Nat := max 2000000 (4 * s.tg)

/-- The main die runs: powered and out of reset. -/
def State.running (s : State) : Bool := s.power == .on

/-- Channel `c`'s part of the coordinate state, LC_STATUS.STATE. -/
def State.lcState (s : State) (c : Chan) : Nat := s.get LC_STATUS_STATE c

/-- The update number as LC_STAMP (32 bits, wrapping). -/
def State.lcStamp (s : State) (c : Chan) : Nat := (twoAt s.ae c).stamp % 2 ^ 32

/-- R200: the two self-test flags. -/
def State.overdue (s : State) : Bool := s.flag FC_SELFTEST_OVERDUE .a

/-! ## Events and records -/

/-- The source and value of the time stamps of R270 and R299: the first SYNCED network in the order X, Y, else local time. -/
def State.stampTime (s : State) : Nat × Nat :=
  if s.ptp.a.synced then (1, ((s.now : Int) + s.ptp.a.offset).toNat)
  else if s.ptp.b.synced then (2, ((s.now : Int) + s.ptp.b.offset).toNat)
  else (0, s.now)

/-! ### Rings of the host interface -/

/-- R282: a ring exists when LOG2SIZE is 4 to 12. -/
def State.ringPresent (s : State) (n : Nat) : Bool :=
  let l := s.get HLY_RING_n_CFG_LOG2SIZE .a n
  decide (4 ≤ l) && decide (l ≤ 12)

/-- Entries of a ring. -/
def State.ringSize (s : State) (n : Nat) : Nat := 2 ^ s.get HLY_RING_n_CFG_LOG2SIZE .a n

def State.ringType (s : State) (n : Nat) : Nat := s.get HLY_RING_n_CFG_TYPE .a n

/-- The ring is ACTIVE. -/
def State.ringActive (s : State) (n : Nat) : Bool := s.get HLY_RING_n_STATUS_STATE .a n == 1

/-- The first active ring of a type. -/
def State.ringOf (s : State) (ty : Nat) : Option Nat :=
  (List.range 8).find? (fun n => s.ringPresent n && s.ringActive n && s.ringType n == ty)

/-- R300: a dropped event, counted beside the queue and on the event ring. -/
def State.dropEvent (s : State) : State :=
  let s := { s with ev := { s.ev with dropped := s.ev.dropped + 1 } }
  match s.ringOf 1 with
  | some n => s.satInc HLY_RING_n_STATUS_DROPPED .a n
  | none => s

/-- R300: an event for the host. When the queue of 64 is full, an event that is not a fault record of Class 1 to 3 is dropped and counted; such a record stays in its collector and waits beside the queue. -/
def State.pushEvent (s : State) (typ : Nat) (words : List Nat) (fault : Option (Chan × Nat) := none) : State :=
  let important : Bool := match fault with
    | some (_, k) => decide (1 ≤ k)
    | none => false
  if s.ev.queue.length < 64 ∨ important = true then
    let st := s.stampTime
    let e : HlyEv := { typ := typ, words := words, fault := fault, gcount := s.get SYS_GCOUNT_COUNT, time := st.2, timeSrc := st.1, seq := s.ev.seq % 65536 }
    let loss : List HlyEv :=
      if 0 < s.ev.dropped then [{ typ := 7, words := [s.ev.dropped], gcount := s.get SYS_GCOUNT_COUNT, time := st.2, timeSrc := st.1, seq := s.ev.seq % 65536 }] else []
    let e' := if 0 < s.ev.dropped then { e with seq := (s.ev.seq + 1) % 65536 } else e
    { s with ev := { queue := s.ev.queue ++ loss ++ [e'], dropped := 0, seq := s.ev.seq + loss.length + 1 } }
  else s.dropEvent

/-- Entries in the Recorder FIFO. -/
def RecSt.level (r : RecSt) : Nat := (r.fifo.map List.length).sum

/-- The 48.16 coordinate for a record: 0 while the state is INVALID (R270). -/
def State.recCoord (s : State) : Nat :=
  if s.lcState .a = 0 then 0 else unsigned 64 (s.ae.a.pos)

/-- The 16-bit entries of a record (R270), its CRC last. -/
def recEntries (typ src timeSrc seq time lc : Nat) (payload : List Nat) : List Nat :=
  let body := [typ % 256 * 256 + payload.length % 256, src % 32 * 2048 + timeSrc % 8 * 256 + seq % 256]
    ++ entries64 time ++ entries64 lc ++ payload
  body ++ [crc16 (body.flatMap entryBytes)]

/-- Whether a record of `n` entries is dropped: Cam, Goale, Statistics and Test records below 1,024 free entries, every record that does not fit (R271). -/
def State.recDrops (s : State) (typ n : Nat) : Bool :=
  let free := 8192 - s.recd.level
  ((typ == 1 || typ == 5 || typ == 7 || typ == 9) && decide (free < 1024)) || decide (free < n)

/-- R272: REC_RDY follows the fill level between its marks. -/
def State.recReady (s : State) : State :=
  let l := s.recd.level
  let s := s.put REC_STATUS_LEVEL l
  if s.get REC_WMARK_HIGH ≤ l then s.putFlag REC_STATUS_RDY true
  else if l ≤ s.get REC_WMARK_LOW then s.putFlag REC_STATUS_RDY false
  else s

/-- R271: a record for the Recorder Port, when enabled and its type is enabled; a Loss record goes before the next record that fits. -/
def State.pushRec (s : State) (typ : Nat) (payload : List Nat) : State :=
  if s.flag REC_CFG_EN ∧ (typ = 8 ∨ bit (s.get REC_CFG_TYPES) typ) then
    let st := s.stampTime
    let src := s.get LLK_CFG_POS
    let mk (ty sq : Nat) (p : List Nat) := recEntries ty src st.1 sq st.2 s.recCoord p
    let r := mk typ s.recd.seq payload
    if s.recDrops typ r.length then
      ({ s with recd := { s.recd with lost := s.recd.lost + 1 } }.satInc REC_COUNT_DROPPED)
    else if s.recd.lost = 0 then
      ({ s with recd := { s.recd with fifo := s.recd.fifo ++ [r], seq := (s.recd.seq + 1) % 256 } }).recReady
    else
      let loss := mk 8 s.recd.seq [s.recd.lost / 65536 % 65536, s.recd.lost % 65536]
      if s.recd.level + loss.length + r.length ≤ 8192 then
        ({ s with recd := { s.recd with fifo := s.recd.fifo ++ [loss, mk typ (s.recd.seq + 1) payload], seq := (s.recd.seq + 2) % 256, lost := 0 } }).recReady
      else
        ({ s with recd := { s.recd with fifo := s.recd.fifo ++ [r], seq := (s.recd.seq + 1) % 256 } }).recReady
  else s

/-- A 32-bit word as two entries, high entry first. -/
def twoEntries (w : Nat) : List Nat := [w / 65536 % 65536, w % 65536]

/-! ## Switches of a die -/

/-- All switches a kill path of R109 holds open on a die. -/
def Die.held (d : Die) : BitVec 16 := d.heldWd ||| d.heldFk ||| d.heldFurl ||| d.heldFatal ||| d.heldUv

/-- The STO map, a word whose bit n is SOUT_n_CFG.STO (R168). -/
def State.stoMap (s : State) (c : Chan) : BitVec 16 :=
  BitVec.ofNat 16 ((List.range 16).foldl (fun m n => m + s.get SOUT_n_CFG_STO c n * 2 ^ n) 0)

/-- The brake map, DSF_SBC_MAP. -/
def State.brakeMap (s : State) (c : Chan) : BitVec 16 := BitVec.ofNat 16 (s.get DSF_SBC_MAP_BRAKE c)

/-- The bit of output `n`. -/
def outBit (n : Nat) : BitVec 16 := BitVec.ofNat 16 (2 ^ n)

/-- The switch of a die that a running test slot keeps open, or closes, against its command (R111). -/
def State.testMask (s : State) (c : Chan) : BitVec 16 × BitVec 16 :=
  let t := s.outs.slot
  if t.phase = .test then
    match t.kind, c with
    | .offA, .a => (outBit t.unit, 0)
    | .offB, .b => (outBit t.unit, 0)
    | .midA, .a => (0, outBit t.unit)
    | .midB, .b => (0, outBit t.unit)
    | _, _ => (0, 0)
  else (0, 0)

/-- The switches of SOnn that die `c` has closed: commanded closed or closed by a test, and neither opened by a test, held by a kill path nor opened by the current limit (R109, R111). An unpowered die, and one that has had no command frame, has none closed (R424). -/
def State.closed (s : State) (c : Chan) : BitVec 16 :=
  let d := twoAt s.die c
  let t := s.testMask c
  if d.powered && d.stream then ((d.cmd ||| t.2) &&& ~~~t.1) &&& ~~~d.held &&& ~~~d.limitOpen else 0

/-- The low-side returns closed on die B. -/
def State.lsClosed (s : State) : BitVec 4 :=
  let d := s.die.b
  let t := s.outs.slot
  let close : BitVec 4 := if t.phase = .test ∧ t.kind = .lsMid then BitVec.ofNat 4 (2 ^ t.unit) else 0
  let opn : BitVec 4 := if t.phase = .test ∧ t.kind = .lsOff then BitVec.ofNat 4 (2 ^ t.unit) else 0
  if d.powered && d.stream then ((d.lsCmd ||| close) &&& ~~~opn) &&& ~~~d.lsHeld &&& ~~~d.lsLimitOpen else 0

/-- Every output is de-energised (one open switch is enough, R27) and every LSk open. -/
def State.allOff (s : State) : Bool := (s.closed .a &&& s.closed .b) == 0 && s.lsClosed == 0

/-- Die `c` changed. -/
def State.updDie (s : State) (c : Chan) (f : Die → Die) : State := { s with die := twoUpd s.die c f }

/-- The kill-path states shown to both views after the exchange (R110, SOUT_KILL and SOUT_LS_n_STAT). -/
def State.showKill (s : State) : State :=
  let s := (s.putBoth SOUT_KILL_HELD_A s.die.a.held.toNat).putBoth SOUT_KILL_HELD_B s.die.b.held.toNat
  (List.range 4).foldl (fun s k =>
    (s.putBoth SOUT_LS_n_STAT_HELD (s.die.b.lsHeld.getLsbD k).toNat k).putBoth SOUT_LS_n_STAT_CLOSED (s.lsClosed.getLsbD k).toNat k) s

/-- R117: the running output test is aborted; its readback is discarded and counted, and the test is due again at once. -/
def State.abortTest (s : State) : State :=
  let t := s.outs.slot
  if t.phase = .idle then s
  else
    let isLs := t.kind == .lsOff || t.kind == .lsMid
    let key := if isLs then 32 + t.unit else if t.kind == .offA || t.kind == .midA then 2 * t.unit else 2 * t.unit + 1
    let s := { s with outs := { s.outs with slot := {}, tests := tabUpd {} s.outs.tests key (fun x => { x with due := true }),
                                            outs := if isLs then s.outs.outs else tabUpd {} s.outs.outs t.unit (fun o => { o with changed := s.now }) } }
    if isLs then (s.satInc SOUT_LS_n_STAT_ABORTED .a t.unit).satInc SOUT_LS_n_STAT_ABORTED .b t.unit
    else
      let s := (s.satInc SOUT_n_STAT_ABORTED .a t.unit).satInc SOUT_n_STAT_ABORTED .b t.unit
      (s.putBoth SOUT_n_FAULT_PHASE 0 t.unit).pushRec 9 [t.unit, 0x8000]

/-- Whether the running test stands on one of these outputs, or on an LSk of `ls`. -/
def State.testHits (s : State) (m : BitVec 16) (ls : BitVec 4) : Bool :=
  let t := s.outs.slot
  t.phase != .idle && (if t.kind == .lsOff || t.kind == .lsMid then ls.getLsbD t.unit else m.getLsbD t.unit)

/-- Outputs a hold has touched owe their midpoint tests before the next switch-on, when tested (R119). -/
def State.oweTests (s : State) (m : BitVec 16) : State :=
  { s with outs := { s.outs with outs := (List.range 16).foldl (fun t n =>
      if m.getLsbD n ∧ s.get SOUT_n_CFG_TESTED .a n = 1 then tabUpd {} t n (fun o => { o with owesMidA := true, owesMidB := true }) else t) s.outs.outs } }

/-- A kill path of R109 takes hold of switches `m` (and returns `ls`) on die `c` through `f`: a test running on them is aborted (R117), and the outputs owe their midpoint tests (R119). -/
def State.kill (s : State) (c : Chan) (m : BitVec 16) (ls : BitVec 4) (f : Die → Die) : State :=
  let s := if s.testHits m ls then s.abortTest else s
  let s := (s.updDie c f).oweTests m
  let s := if ls = 0 then s else { s with outs := { s.outs with lsOwes := s.outs.lsOwes ||| ls } }
  s.showKill

/-- R30: the device-fatal line opens every output switch and every low-side return on both dies. -/
def State.fatalKill (s : State) : State :=
  let s := s.kill .a 0xFFFF 0xF (fun d => { d with heldFatal := 0xFFFF, staged := none })
  s.kill .b 0xFFFF 0xF (fun d => { d with heldFatal := 0xFFFF, lsHeld := 0xF, staged := none })

/-! ## Furl timers (R166, R167, R178) -/

/-- Arms the Furl timer of die `c`; a running timer keeps its own start (R160). In Furl-only mode the timers are never armed (R166). -/
def State.armFurl (s : State) (c : Chan) : State :=
  let d := twoAt s.die c
  if d.furl.armed || s.get DSF_CFG_MODE c < 2 then s
  else (s.updDie c (fun d => { d with furl := { armed := true, expired := false, start := s.now } }))

/-- R29: starting one timer asserts the Furl-arm line, so both run. -/
def State.armBothFurl (s : State) : State := (s.armFurl .a).armFurl .b

/-- Disarms the Furl timer of die `c` and releases its Furl-arm line. -/
def State.disarmFurl (s : State) (c : Chan) : State :=
  s.updDie c (fun d => { d with furl := {}, heldFurl := 0 })

/-- Whether die `c` holds every STO-designated switch open. -/
def State.stoOpen (s : State) (c : Chan) : Bool := (s.closed c &&& s.stoMap c) == 0

/-- ms left on die `c`'s timer; 0 = disarmed or expired. -/
def State.furlRemain (s : State) (c : Chan) : Nat :=
  let d := twoAt s.die c
  if d.furl.armed && !d.furl.expired then (d.furl.start + s.get DSF_FURL_TIME c * 1000000 - s.now) / 1000000 else 0

/-- DSF_STATUS.FURL_A, FURL_B and DSF_FURL_REMAIN in both views. -/
def State.showFurl (s : State) : State :=
  let s := (s.putBoth DSF_STATUS_FURL_A (s.die.a.furl.armed && !s.die.a.furl.expired).toNat).putBoth DSF_STATUS_FURL_B (s.die.b.furl.armed && !s.die.b.furl.expired).toNat
  (s.putBoth DSF_FURL_REMAIN_DIE_A (s.furlRemain .a)).putBoth DSF_FURL_REMAIN_DIE_B (s.furlRemain .b)

/-! ## Fault collectors -/

/-- Channel `c`'s collector changed. -/
def State.updFc (s : State) (c : Chan) (f : FcSt → FcSt) : State := { s with fc := twoUpd s.fc c f }

/-- Whether collector `c` has a fault of class `k` or above latched. -/
def State.hasClass (s : State) (c : Chan) (k : Nat) : Bool := (twoAt s.fc c).latches.any (fun l => k ≤ l.cls)

/-- Whether a charge falls on channel `c`. -/
def chargeHits (g : Charge) (c : Chan) : Bool :=
  match g, c with
  | .a, .a | .b, .b | .both, _ => true
  | _, _ => false

/-- Whether a Class 2 fault is charged to channel `c`, in whichever collector it is latched. -/
def State.chanClass2 (s : State) (c : Chan) : Bool :=
  (s.fc.a.latches ++ s.fc.b.latches).any (fun l => l.cls == 2 && chargeHits l.chg c)

/-- A Class 2 or Class 3 fault is latched in either collector. -/
def State.locked (s : State) : Bool := s.hasClass .a 2 || s.hasClass .b 2

/-- The status word's bit of line `n` (R184). -/
def lineFld (n : Nat) : Fld := if n < 32 then FC_STATUS_LO_LINES else FC_STATUS_HI_LINES

/-- Whether line `n` is latched in the status word of collector `c`. -/
def State.lineSet (s : State) (c : Chan) (n : Nat) : Bool := bit (s.get (lineFld n) c) (n % 32)

/-- The status word recomputed from the latches. -/
def State.showLines (s : State) (c : Chan) : State :=
  let ls := (twoAt s.fc c).latches
  let lo := (List.range 32).foldl (fun v n => v + (if ls.any (·.line == n) then 2 ^ n else 0)) 0
  let hi := (List.range 32).foldl (fun v n => v + (if ls.any (·.line == n + 32) then 2 ^ n else 0)) 0
  let s := (s.put FC_STATUS_LO_LINES lo c).put FC_STATUS_HI_LINES hi c
  (s.putFlag FC_LOCKOUT_CL2 (ls.any (·.cls == 2)) c)

/-- R190: whether an open consequential window of collector `c` masks line `n`. -/
def State.masks (s : State) (c : Chan) (n : Nat) : Bool :=
  (twoAt s.fc c).windows.any (fun w =>
    if n < 32 then bit (s.get FC_CMAP_n_LO_MASK c w) n else bit (s.get FC_CMAP_n_HI_MASK c w) (n - 32))

/-- The charged safety function of a record: the element's when it is one, 0xFF = none. -/
def elemSf : Elem → Nat
  | .sf n => n
  | _ => 0xFF

/-- Words W0 to W3 of a fault record (R188). -/
def State.recordWords (s : State) (c : Chan) (e : FaultEv) : List Nat :=
  [2 ^ 31 + e.cls * 2 ^ 28 + chargeCode e.chg * 2 ^ 26 + elemSf e.elem * 2 ^ 16 + e.line, e.detail % 2 ^ 32, s.get SYS_GCOUNT_COUNT, s.lcStamp c]

/-- Writes the words of a fault record into slot `n` of the ring. -/
def State.putRecord (s : State) (c : Chan) (n : Nat) (e : FaultEv) : State :=
  let s := ((((s.put FC_REC_n_W0_VALID 1 c n).put FC_REC_n_W0_CLASS e.cls c n).put FC_REC_n_W0_CHANNEL (chargeCode e.chg) c n).put FC_REC_n_W0_SF (elemSf e.elem) c n).put FC_REC_n_W0_LINE e.line c n
  ((s.put FC_REC_n_W1_DETAIL e.detail c n).put FC_REC_n_W2_GCOUNT (s.get SYS_GCOUNT_COUNT) c n).put FC_REC_n_W3_UPDATE (s.lcStamp c) c n

/-- The oldest unread Class 0 record of a full ring, by slot (R188). -/
def State.oldestClass0 (s : State) (c : Chan) : Option Nat :=
  ((List.range 16).map (fun k => (s.get FC_REC_PTR_NEXT c + k) % 16)).find? (fun n => s.get FC_REC_n_W0_CLASS c n == 0)

/-- R188: the fault record, into the ring, the event ring and the Recorder Port. In a full ring the oldest Class 0 record is overwritten; where there is none, OVERRUN is set. -/
def State.record (s : State) (c : Chan) (e : FaultEv) : State :=
  let w := s.recordWords c e
  let n := s.get FC_REC_PTR_NEXT c
  let u := s.get FC_REC_PTR_UNREAD c
  let s :=
    if u < 16 then ((s.putRecord c n e).put FC_REC_PTR_NEXT ((n + 1) % 16) c).put FC_REC_PTR_UNREAD (u + 1) c
    else match s.oldestClass0 c with
      | some k => s.putRecord c k e
      | none => s.putFlag FC_REC_PTR_OVERRUN true c
  (s.pushEvent 1 w (some (c, e.cls))).pushRec 2 (w.flatMap twoEntries)

/-- R187: FC_FIRST, when it holds none. `multi` when several lines latch in the same cycle. -/
def State.first (s : State) (c : Chan) (e : FaultEv) (multi : Bool) : State :=
  if s.flag FC_FIRST_VALID c then s
  else
    let s := (((s.put FC_FIRST_VALID 1 c).putFlag FC_FIRST_MULTI multi c).put FC_FIRST_CLASS e.cls c).put FC_FIRST_LINE e.line c
    (s.put FC_FIRST_GCOUNT_COUNT (s.get SYS_GCOUNT_COUNT) c).put FC_FIRST_STAMP_UPDATE (s.lcStamp c) c

/-- One line into one collector (R185 to R191). A mapped line in a consequential window is masked unless its class is 3; a latch already held with the same charge makes no new record. -/
def State.latchIn (s : State) (c : Chan) (e : FaultEv) (multi : Bool := false) : State :=
  if e.cls ≠ 3 ∧ s.masks c e.line = true then
    let f := if e.line < 32 then FC_CONSEQ_LO_LINES else FC_CONSEQ_HI_LINES
    ((s.put f (setBit (s.get f c) (e.line % 32) true) c).satInc FC_CONSEQ_COUNT_COUNT c).updFc c (fun x => { x with masked := x.masked ++ [e] })
  else
    let l : Latch := { line := e.line, cls := e.cls, chg := e.chg, elem := e.elem }
    if (twoAt s.fc c).latches.contains l then s
    else ((((s.first c e multi).record c e).updFc c (fun x => { x with latches := x.latches ++ [l], fresh := x.fresh ++ [l] })).showLines c)

/-- Whether collector `c` would latch the event (it reaches that collector and no window masks it). -/
def State.reaches (s : State) (c : Chan) (e : FaultEv) : Bool :=
  (match e.coll with
   | .both => true
   | .own d => d == c) && !(e.cls != 3 && s.masks c e.line)

/-- The event into the collectors it reaches. -/
def State.latch (s : State) (e : FaultEv) (multi : Bool := false) : State :=
  match e.coll with
  | .own c => s.latchIn c e multi
  | .both => (s.latchIn .a e multi).latchIn .b e multi

/-- R199: the level commanded at fault pin `c`. -/
def State.fltCmd (s : State) (c : Chan) : Bool :=
  (twoAt s.die c).ready && s.dev != stINIT && s.dev != stLOCKOUT && s.dev != stSHUTDOWN && !s.hasClass c (s.get FC_FLT_CFG_LEVEL c)

/-- R199: both fault pins as commanded; in SLEEP a pin keeps its level. -/
def State.showPins (s : State) : State :=
  if s.dev = stSLEEP then s
  else (s.putFlag FC_FLT_CFG_PIN_CMD (s.fltCmd .a) .a).putFlag FC_FLT_CFG_PIN_CMD (s.fltCmd .b) .b

/-- A stop runs in either channel. -/
def State.stopRuns (s : State) : Bool := s.stop.a.running || s.stop.b.running || s.stop.a.survivorNext || s.stop.b.survivorNext

/-- A change of DEV_STATE, with its event for the host (R299). -/
def State.setDev (s : State) (n : Nat) : State :=
  let o := s.dev
  if o = n then s else (s.put SYS_STATE_DEV_STATE n).pushEvent 2 [o, n, s.get SYS_STATE_SC_CLK_STEP, 0]

/-- R431: a Class 2 or Class 3 latch takes INIT to LOCKOUT at once, and the running states once every output is off and every stop has ended; STOPPING without one becomes SAFE when the stop has ended. The fault pins follow. -/
def State.settle (s : State) : State :=
  let d := s.dev
  let s :=
    if s.locked = true ∧ d = stINIT then s.setDev stLOCKOUT
    else if s.locked = true ∧ (d = stSAFE_READY ∨ d = stRUN ∨ d = stSTOPPING ∨ d = stSAFE) ∧ s.allOff = true ∧ s.stopRuns = false then s.setDev stLOCKOUT
    else if s.locked = false ∧ d = stSTOPPING ∧ s.stopRuns = false then s.setDev stSAFE
    else s
  s.showPins

/-- R176: whether channel `c` may carry a stop on alone: CL2_REEF set, monitored mode, no Class 2 of its own, coordinate VALID or DEGRADED. -/
def State.mayReef (s : State) (c : Chan) : Bool :=
  s.flag DSF_CFG_CL2_REEF c && s.get DSF_CFG_MODE c == 3 && !s.chanClass2 c && (s.lcState c == 2 || s.lcState c == 3)

/-- Torque is permitted or a stop runs: a stop by the survivor has something to stop. -/
def State.reefActive (s : State) : Bool := s.dev == stRUN || s.dev == stSTOPPING

/-- The output-enable part of R177: the switches a faulted channel's die keeps closed on hold frames. -/
def State.holdMap (s : State) (c : Chan) : BitVec 16 := s.stoMap c ||| s.brakeMap c

/-- The LSk of brake outputs in PM mode (R177). -/
def State.holdLs (s : State) : BitVec 4 :=
  BitVec.ofNat 4 ((List.range 16).foldl (fun m n =>
    if (s.brakeMap .b).getLsbD n ∧ s.get SOUT_n_CFG_MODE .b n = 2 then m ||| 2 ^ s.get SOUT_n_CFG_LS_SEL .b n else m) 0)

/-- Stops the channel's staging and opens its die's switches except those in `keep` (R194). A test running on an opened output is aborted (R117). -/
def State.openDie (s : State) (c : Chan) (keep : BitVec 16) (keepLs : BitVec 4) : State :=
  let s := if s.testHits (~~~keep) (~~~keepLs) then s.abortTest else s
  let s := s.updFc c (fun x => { x with stopped := true })
  (s.updDie c (fun d => { d with cmd := d.cmd &&& keep, lsCmd := d.lsCmd &&& keepLs, staged := none }))

/-- R222: Stay enters single mode with `c` the faulted channel. -/
def State.singleMode (s : State) (c : Chan) : State :=
  let s := (s.put STY_STATUS_MODE 3 c).put STY_STATUS_MODE 2 (otherChan c)
  let s := if s.outs.slot.phase = .idle then s else s.abortTest
  { s with pulse := {}, srcs := s.srcs.map (fun p => (p.1, { p.2 with due := false })) }

/-- The end of a stop that no channel carries on: every stop ends with the given END_CAUSE, and the timers disarm once the STO switches are open (R167). -/
def State.endStops (s : State) (cause : Nat) : State :=
  let one (s : State) (c : Chan) : State :=
    let st := twoAt s.stop c
    if st.running then
      ((({ s with stop := twoUpd s.stop c (fun x => { x with running := false, atT0 := false, overlap := false, furlNext := none, survivorNext := false, req := .none, qCycles := 0 }) }).put DSF_STATUS_END_CAUSE cause c).put DSF_STATUS_PHASE 0 c).satInc (if cause = 1 then DSF_COUNTS_COMPLETED else DSF_COUNTS_FURLED) c
    else s
  let s := one (one s .a) .b
  let s := if s.stoOpen .a then s.disarmFurl .a else s
  let s := if s.stoOpen .b then s.disarmFurl .b else s
  s.showFurl

/-- R176: channel `o` is to carry the stop on alone. -/
def State.survives (s : State) (o : Chan) (suspect : Bool) : Bool := !suspect && s.mayReef o && s.reefActive

/-- R194, R220, R222: the Class 2 reaction of channel `c` itself. Its Class 2 line asserts (`line`, unless R221 charged the fault), its staging stops and its die opens every switch. Where the other channel may carry the stop on, the die holds its STO and brake switches and both Furl timers arm; otherwise the stop ends. -/
def State.class2 (s : State) (c : Chan) (suspect : Bool := false) (line : Bool := true) : State :=
  let o := otherChan c
  let s := if line then s.updFc c (fun x => { x with cl2Line := true }) else s
  let s := if s.chanClass2 o then s else s.singleMode c
  if s.survives o suspect then
    let s := (s.openDie c (s.holdMap c) s.holdLs).updDie c (fun d => { d with holding := true })
    ((s.armBothFurl).put DSF_STATUS_HOLD_OTHER 1 o).showFurl
  else (s.openDie c 0 0).endStops 9

/-- R194, R176: how channel `o` answers the other channel's Class 2 signal: at its next boundary it starts the surviving-channel Reef, or every output it drives goes off. -/
def State.answerClass2 (s : State) (o : Chan) (suspect : Bool := false) : State :=
  if s.survives o suspect then { s with stop := twoUpd s.stop o (fun x => { x with survivorNext := true }) }
  else s.updDie o (fun d => { d with staged := some (0, 0) })

/-- R197: a Class 3 latch writes its record into the AON retention RAM and flash, and fires the device-fatal line (R30). -/
def State.class3 (s : State) : State :=
  let s := (s.putFlag FC_LOCKOUT_L3_PEND true .a).putFlag FC_LOCKOUT_L3_PEND true .b
  (s.fatalKill).endStops 8

/-- R197: the record of the first Class 3 latch, in the AON retention RAM and in flash. -/
def State.keepL3 (s : State) (e : FaultEv) : State :=
  match s.sec.l3 with
  | some _ => s
  | none => { s with sec := { s.sec with l3 := some (s.recordWords .a e), l3Flash := some (s.recordWords .a e) } }

/-- The reaction of a latched event by its class (R192). Class 1 acts in the evaluation that carries it (R193); E06 and E07 wait for the attribution of R221 and are not passed here. -/
def State.react (s : State) (e : FaultEv) : State :=
  match e.cls with
  | 2 => match e.chg with
    | .a => s.class2 .a
    | .b => s.class2 .b
    | .both => (s.class2 .a true).class2 .b true
    | .shared => s
  | 3 => (s.class3).keepL3 e
  | _ => s

/-- A line is asserted: its condition stands, it latches, and its class reacts. -/
def State.raise (s : State) (e : FaultEv) : State :=
  let acts := s.reaches .a e || s.reaches .b e
  let s := { s with conds := if s.conds.contains (e.line, e.elem) then s.conds else s.conds ++ [(e.line, e.elem)] }
  let s := s.latch e
  (if acts && !(e.line == 6 || e.line == 7) then s.react e else s).settle

/-- A line that is asserted for a moment only: it leaves no condition behind. -/
def State.raiseOnce (s : State) (e : FaultEv) : State :=
  let s' := s.raise e
  { s' with conds := s.conds }

/-- The condition of a line on an element is gone. -/
def State.clearCond (s : State) (line : Nat) (e : Elem) : State := { s with conds := s.conds.filter (· != (line, e)) }

/-- Whether the condition of a line on an element stands. -/
def State.condOn (s : State) (line : Nat) (e : Elem) : Bool := s.conds.contains (line, e)

/-- Drops latches from collector `c` and shows its status word. -/
def State.dropLatches (s : State) (c : Chan) (p : Latch → Bool) : State :=
  ((s.updFc c (fun x => { x with latches := x.latches.filter (fun l => !p l) })).showLines c)

/-- A Class 0 event of a shared block. -/
def class0 (line detail : Nat) : FaultEv := ⟨line, 0, .shared, .both, .none, detail⟩

/-- A Class 2 fault of one channel, on its own collector. -/
def class2Own (line : Nat) (c : Chan) (detail : Nat) : FaultEv := ⟨line, 2, chanCharge c, .own c, .none, detail⟩

/-- A Class 1 fault of an element, on both collectors. -/
def class1Both (line : Nat) (el : Elem) (detail : Nat) : FaultEv := ⟨line, 1, .shared, .both, el, detail⟩

/-! ## Block resets and consequential windows (R190, R191) -/

/-- A mapped block reset is asserted: its window opens in both collectors. -/
def State.openWindow (s : State) (n : Nat) : State :=
  let f (x : FcSt) : FcSt := { x with windows := if x.windows.contains n then x.windows else x.windows ++ [n] }
  (s.updFc .a f).updFc .b f

/-- Whether a word of the register of descriptor `d` at index `i` in `base` is at address `a`. -/
def descIdx (d : RegDesc) (base a : Nat) : Option Nat :=
  if a < base + d.off then none
  else
    let o := a - (base + d.off)
    if d.stride = 0 then (if o = 0 then some 0 else none)
    else if o % d.stride = 0 ∧ o / d.stride < d.count then some (o / d.stride) else none

/-- Every descriptor of the device. -/
def regTable : List RegDesc := regTableA ++ regTableB ++ regTableC ++ regTableD ++ regTableE

/-- The block and base of an address in the map of R31 and R32; the second converter of a channel has its own area 0x4000 above the first. -/
def blockOf (a : Nat) : Option (Block × Nat) :=
  let bs : List Block := [.sys, .fc, .lc, .sin, .sout, .lge, .dsf, .lks, .net, .llk, .hly, .adc, .tim, .crc, .otp, .mzw, .bst, .cnm, .pwr]
  if 0x40000000 ≤ a ∧ a < 0x40130000 then (bs[(a - 0x40000000) / 0x10000]?).map (fun b => (b, a / 0x10000 * 0x10000))
  else if 0x50000000 ≤ a ∧ a < 0x50130000 then
    match bs[(a - 0x50000000) / 0x10000]? with
    | some b => if blockPerChan b then some (b, a / 0x10000 * 0x10000) else none
    | none => none
  else if 0x60000000 ≤ a ∧ a < 0x60010000 then some (.tim, 0x60000000)
  else if 0x60010000 ≤ a ∧ a < 0x60020000 then some (.crc, 0x60010000)
  else none

/-- The descriptor, base and index of the register at an address. In the ADC block the area from 0x4000 to 0x7FFF is the second converter's. -/
def lookupReg (a : Nat) : Option (RegDesc × Nat × Nat) :=
  match blockOf a with
  | none => none
  | some (b, base) =>
    let base' := if b = .adc ∧ base + 0x4000 ≤ a ∧ a < base + 0x8000 then base + 0x4000 else base
    (regTable.find? (fun d => d.blk == b && (descIdx d base' a).isSome)).bind (fun d => (descIdx d base' a).map (fun i => (d, base', i)))

/-- The bits of a register's word that hold fields for which `p` holds, as a mask. -/
def fieldMask (d : RegDesc) (p : Fld → Bool) : Nat :=
  d.fields.foldl (fun m f => if p f then m ||| ((2 ^ (f.hi + 1 - f.lo) - 1) <<< f.lo) else m) 0

/-- One stored word after the fields for which `p` holds have returned to their reset value (R9). -/
def resetWord (p : Fld → Bool) (a : Nat) (w : Word) : Word :=
  match lookupReg a with
  | none => w
  | some (d, _, _) =>
    let m := BitVec.ofNat 32 (fieldMask d p)
    (w &&& ~~~m) ||| (BitVec.ofNat 32 d.rst &&& m)

/-- R438: the fields for which `p` holds, at addresses for which `q` holds, return to their reset value. -/
def State.resetFields (s : State) (q : Nat → Bool) (p : Fld → Bool) : State :=
  { s with regs := s.regs.map (fun e => if q e.1 then (e.1, resetWord p e.1 e.2) else e) }

/-- R438, block reset: the volatile fields of one block (in one view) return to their reset value. -/
def State.blockReset (s : State) (base : Nat) (size : Nat := 0x10000) : State :=
  s.resetFields (fun a => base ≤ a && a < base + size) (fun f => f.cls == .v)

end Sys2Proof.Machine
end

