-- ==== Sys2Proof/Machine/CnmCore.lean ====
section
/-! DEFINITION. What other families use of Crow's Nest (16_selftest_and_ageing.md): advisories, the ages the AON domain counts, VERIFY, and the drifts that outputs and converters report. -/

namespace Sys2Proof.Machine

open Sys2Proof

/-- R419: an advisory is set once, with E59. -/
def State.advise (s : State) (n : Nat) : State :=
  let v := s.get CNM_ADVICE_ADVICE
  if bit v n then s else (s.put CNM_ADVICE_ADVICE (setBit v n true)).raiseOnce (class0 59 n)

/-- R413: a measurement is kept with the temperatures at which it was taken; `k` is its row in the order of R413. -/
def State.keepTemps (s : State) (k : Nat) : State := s.updSec (fun x => { x with keptTemps := tabSet x.keptTemps k x.temps })

/-- An hour in ns. -/
def hourNs : Nat := 3600000000000

/-- The self-test age in both views. -/
def State.setAge (s : State) (h : Nat) : State := s.putBoth FC_SELFTEST_AGE_H (min h 65535)

/-- R200: the hours since the last passing full Ratline, as the AON domain has counted them. -/
def State.showAge (s : State) : State := s.setAge (max (s.get FC_SELFTEST_AGE_H) ((s.now - s.sec.testedAt) / hourNs))

/-- R200: a passing full Ratline resets the count. -/
def State.resetAge (s : State) : State :=
  (((s.updSec (fun x => { x with testedAt := s.now })).setAge 0).putBoth FC_SELFTEST_WARN 0).putBoth FC_SELFTEST_OVERDUE 0

/-- CNM_SRAM.SBE_24H and CNM_FUSE.AGE_H as they stand now. -/
def State.showCnm (s : State) : State :=
  let s := s.updSec (fun x => { x with sbeAt := x.sbeAt.filter (fun t => decide (s.now < t + 24 * hourNs)) })
  (s.put CNM_SRAM_SBE_24H (min s.sec.sbeAt.length 65535)).put CNM_FUSE_AGE_H (min ((s.now - s.sec.fuseAt) / hourNs) 255)

/-- A re-plan is counted (CNM_ADVICE.REPLANS). -/
def State.replan (s : State) : State := s.satInc CNM_ADVICE_REPLANS

/-- SOUT_VERIFY in both views. -/
def State.setVerify (s : State) (v : Nat) : State := s.putBoth SOUT_VERIFY_VERIFY v

/-- R415: a due rise of VERIFY takes effect when no output test slot runs; VERIFY never exceeds 100 µs. -/
def State.applyVerify (s : State) : State :=
  if s.sec.verifyDue = true ∧ s.outs.slot.phase = .idle then
    ((s.setVerify (min 100 (s.get SOUT_VERIFY_VERIFY + 10))).updSec (fun x => { x with verifyDue := false })).replan
  else s

/-- R419: an on-resistance (mΩ) normalised to 125 °C: R × 1.4 / (1 + 0.004 × (Tj − 25)), Tj in °C. -/
def ronNormal (r : Nat) (tj : Int) : Nat := (roundFree ((r : Int) * 1400) (1000 + 4 * (tj - 25))).toNat

/-- R413, R419: the on-resistance of one switch of output `n` (die 0 = A, 1 = B); above 0.40 Ω normalised it is advisory RON. -/
def State.noteRon (s : State) (n die r : Nat) (tj : Int) : State :=
  let v := ronNormal r tj
  let s := if s.get CNM_RON_RON_MAX < v then ((s.put CNM_RON_RON_MAX (min v 65535)).put CNM_RON_DIE die).put CNM_RON_OUTPUT n else s
  if 400 < v then s.advise 4 else s

/-- R413, R417, R419: the coefficients of converter `k` after a calibration: its gain drift in CNM_ADCREF, and advisory ADC_REF. -/
def State.noteAdcRef (s : State) (k : Nat) (g o : Int) : State :=
  let d := max (-128) (min 127 (roundFree ((g - 32768) * 10000) 32768))
  let v := s.get CNM_ADCREF_DRIFT
  let s := s.put CNM_ADCREF_DRIFT (v - v / 2 ^ (8 * k) % 256 * 2 ^ (8 * k) + unsigned 8 d * 2 ^ (8 * k))
  let s := s.keepTemps 7
  if 492 < (g - 32768).natAbs ∨ 384 < o.natAbs then s.advise 5 else s

/-- R414: the SC clock of both pairs one step down, at a boundary; advisory SLACK_STEP and a State event. -/
def State.clockStep (s : State) : State :=
  let n := s.get SYS_STATE_SC_CLK_STEP
  if s.sec.stepDue = true ∧ n < 2 then
    let s := ((s.updSec (fun x => { x with stepDue := false })).put SYS_STATE_SC_CLK_STEP (n + 1)).replan
    (s.pushEvent 2 [s.dev, s.dev, n + 1, 0]).advise 0
  else s

end Sys2Proof.Machine
end

