-- ==== Sys2Proof/Machine/Adc.lean ====
section
/-! DEFINITION. The analogue converters (12_adc.md): the conversion sequence, settling, results, windows, safe inputs, calibration and injections. Converter k is ADCk; ADC0 and ADC1 belong to channel A, ADC2 and ADC3 to channel B (R308). -/

namespace Sys2Proof.Machine

open Sys2Proof

/-- The channel of a converter. -/
def adcChan (k : Nat) : Chan := if k < 2 then .a else .b

/-- The register area of a converter: offset 0 or 0x4000 of its channel's ADC block. -/
def adcBase (k : Nat) : Nat := blockBase .adc (adcChan k) + 0x4000 * (k % 2)

def State.adc (s : State) (k : Nat) : AdcSt := tabGet {} s.adcs k

def State.updAdc (s : State) (k : Nat) (f : AdcSt → AdcSt) : State := { s with adcs := tabUpd {} s.adcs k f }

/-- A field of converter `k`. -/
def State.getA (s : State) (f : Fld) (k : Nat) (i : Nat := 0) : Nat := s.getAt f (adcBase k) i

def State.putA (s : State) (f : Fld) (v k : Nat) (i : Nat := 0) : State := s.putAt f v (adcBase k) i

/-- A counter field of converter `k` up by `n`, saturating. -/
def State.addA (s : State) (f : Fld) (n k : Nat) (i : Nat := 0) : State :=
  s.putA f (min (s.getA f k i + n) (2 ^ (f.hi + 1 - f.lo) - 1)) k i

/-- Bookkeeping of a context. -/
def State.ctx (s : State) (k n : Nat) : CtxSt := tabGet {} (s.adc k).ctxs n

def State.updCtx (s : State) (k n : Nat) (f : CtxSt → CtxSt) : State := s.updAdc k (fun a => { a with ctxs := tabUpd {} a.ctxs n f })

/-- R310: t_conv in ns. -/
def State.tConv (s : State) (k : Nat) : Nat := if s.getA ADC_CFG_LOWPWR k = 1 then 4000 else 500

/-- R311: a context's input and gain code. Contexts 56 to 63 hold inputs 9 to 16 at gain 1. -/
def State.ctxInput (s : State) (k n : Nat) : Nat × Nat :=
  if n < 56 then (s.getA ADC_CTX_n_CFG_INPUT k n, s.getA ADC_CTX_n_CFG_GAIN k n) else (n - 47, 0)

/-- R311: OSR of a context. -/
def State.ctxOsr (s : State) (k n : Nat) : Nat := 2 ^ s.getA ADC_CTX_n_CFG_OSR k n

/-- R316: conversions discarded for a change from the preceding conversion's input and gain. -/
def discards (last : Option (Nat × Nat)) (now : Nat × Nat) : Nat :=
  match last with
  | none => 2
  | some (i, g) => if g ≠ now.2 then 2 else if i ≠ now.1 then 1 else 0

/-- A quotient of naturals rounded to nearest; the direction of an exact half is not stated. -/
def nearest (num den : Int) : Int :=
  let q := num / den
  let r := num % den
  if 2 * r < den then q else if den < 2 * r then q + 1 else if Config.roundUp num den then q + 1 else q

/-- R325: a sample corrected with the coefficients in use. -/
def State.calibrated (s : State) (k raw : Nat) : Nat :=
  let v := nearest (((raw : Int) - signed 16 (s.getA ADC_CAL_COEF_OFFSET k)) * s.getA ADC_CAL_COEF_GAIN k) 32768
  (max 0 (min v 65535)).toNat

/-- R317: the filter of a context restarts: its partial set is discarded and counted, VALID clears. -/
def State.restartCtx (s : State) (k n : Nat) : State :=
  let s := s.addA ADC_CTX_n_DISC_COUNT (s.ctx k n).n k n
  let s := s.updCtx k n (fun x => { x with sum := 0, n := 0 })
  (s.putA ADC_CTX_n_VALUE_VALID 0 k n)

/-- Every context of a converter restarts (R317). Contexts with nothing in them are untouched. -/
def State.restartAll (s : State) (k : Nat) : State :=
  (List.range 64).foldl (fun s n => if tabHas (s.adc k).ctxs n then s.restartCtx k n else s) s

/-- A Statistics record (R270); its payload is EVAL_MAX, LC_SPEED, FIFO peaks and counts. -/
def State.statRecord (s : State) : State :=
  let sp := max (s.ae.a.vel.natAbs / 256) (s.ae.b.vel.natAbs / 256)
  s.pushRec 7 [s.get SYS_EVAL_EVAL_MAX_A, s.get SYS_EVAL_EVAL_MAX_B, sp / 65536 % 65536, sp % 65536,
    s.get LLK_PORT_n_FIFO_PEAK .a 0, s.get LLK_PORT_n_FIFO_PEAK .a 1, s.get NET_n_COUNT_UNKNOWN .a 0, s.get NET_n_COUNT_UNKNOWN .a 1,
    s.get NET_n_COUNT_FORMAT .a 0, s.get NET_n_COUNT_FORMAT .a 1, s.get LLK_PORT_n_COUNT_CRC .a 0, s.get LLK_PORT_n_COUNT_CRC .a 1]

/-- R321: the window comparator on a result. -/
def State.window (s : State) (k n r : Nat) (fresh : Bool) : State :=
  if s.getA ADC_CTX_n_AGE_WIN_EN k n = 0 then s
  else
    let lo := s.getA ADC_CTX_n_WIN_LOW k n
    let hi := s.getA ADC_CTX_n_WIN_HIGH k n
    let h := s.getA ADC_CTX_n_AGE_HYST k n
    let was := s.getA ADC_CTX_n_VALUE_OUTSIDE k n == 1 && !fresh
    let out := decide (r < lo) || decide (hi < r)
    let back := fresh || (decide (lo + h ≤ r) && decide (r + h ≤ hi))
    let now := if out then true else if back then false else was
    let s := s.putA ADC_CTX_n_VALUE_OUTSIDE now.toNat k n
    if now && !was then
      let f := if n < 32 then ADC_WINEV_LO_OUT else ADC_WINEV_HI_OUT
      ((s.putA f (setBit (s.getA f k) (n % 32) true) k).updAdc k (fun a => { a with winIrqs := a.winIrqs + 1 })).statRecord
    else s

/-- R319: a result added to the statistics. -/
def CtxSt.addStat (x : CtxSt) (r : Nat) : CtxSt :=
  if x.sat = true ∨ 2 ^ 32 - 1 ≤ x.count ∨ 2 ^ 48 ≤ x.total + r then { x with sat := true, lo := min x.lo r, hi := max x.hi r }
  else { x with total := x.total + r, count := x.count + 1, sat := x.count + 1 == 2 ^ 32 - 1, lo := min x.lo r, hi := max x.hi r }

/-- R317, R319, R321, R327: a result of a context. -/
def State.result (s : State) (k n r : Nat) : State :=
  let fresh := s.getA ADC_CTX_n_VALUE_VALID k n == 0
  let s := s.updCtx k n (fun x => { x.addStat r with sum := 0, n := 0, doneAt := s.now, span := s.now - x.first })
  let s := (s.putA ADC_CTX_n_VALUE_RESULT r k n).putA ADC_CTX_n_VALUE_VALID 1 k n
  let s := if n = 63 then s.updAdc k (fun a => { a with refBad := if 492 < ((r : Int) - 32768).natAbs then a.refBad + 1 else 0 }) else s
  s.window k n r fresh

/-- R317: a sample into the context's set. Until the first calibration has passed no sample reaches a context (R325). -/
def State.sampleInto (s : State) (k n raw : Nat) : State :=
  if s.getA ADC_STATUS_READY k = 0 then s
  else
    let v := s.calibrated k raw
    let s := s.updCtx k n (fun x => { x with sum := x.sum + v, n := x.n + 1, first := if x.n = 0 then s.now else x.first })
    let x := s.ctx k n
    if x.n < s.ctxOsr k n then s else s.result k n (nearest x.sum (s.ctxOsr k n)).toNat

/-- The element of a fault of a whole converter: context numbers 128 and 129 stand for every context of the channel's first and second converter. -/
def convElem (k : Nat) : Elem := .ctx (adcChan k) (128 + k % 2)

/-- E55 (R328), on the own collector, with ADC_STATUS as its detail. -/
def State.adcFault (s : State) (k : Nat) (el : Elem) : State :=
  s.raise ⟨55, 1, .shared, .own (adcChan k), el, (regWord s.regs 0 (adcBase k + 4)).toNat⟩

/-- R325, step 36: the new coefficients, taken or rejected. -/
def State.calResult (s : State) (k : Nat) : State :=
  let a := s.adc k
  let m1 : Int := a.m1
  let m2 : Int := a.m2
  let d := m2 - m1
  let g := if d = 0 then 0 else nearest (32768 * 57344 * 16) d
  let o := nearest (m1 * 57344 - 4096 * d) (57344 * 16)
  let s := s.updAdc k (fun a => { a with run := .idle, calDue := false, suspended := false, restarts := 0, m1 := 0, m2 := 0, calAt := s.now })
  let s := (s.putA ADC_STATUS_CAL_RUN 0 k).putA ADC_STATUS_CAL_STARVED 0 k
  if -512 ≤ o ∧ o ≤ 511 ∧ 32113 ≤ g ∧ g ≤ 33423 then
    let s := ((s.putA ADC_CAL_COEF_GAIN g.toNat k).putA ADC_CAL_COEF_OFFSET (unsigned 16 o) k).putA ADC_STATUS_READY 1 k
    ((s.putA ADC_STATUS_CAL_FAIL 0 k).clearCond 55 (convElem k)).noteAdcRef k g o
  else (s.putA ADC_STATUS_CAL_FAIL 1 k).adcFault k (convElem k)

/-- The next used slot at or after `j`, and whether the round ended on the way (R313, R150). -/
def State.nextSlot (s : State) (k j : Nat) : Option Nat × Bool :=
  let len := min (s.getA ADC_CFG_SEQ_LEN k) 32
  let used (i : Nat) : Bool := s.getA ADC_SLOT_k_REPS k i != 0
  match (List.range len).find? (fun i => decide (j ≤ i) && used i) with
  | some i => (some i, false)
  | none => ((List.range len).find? used, true)

/-- R314 to R316, R325, R326: what the converter does next once a conversion has ended. -/
def State.adcNext (s : State) (k : Nat) : State :=
  let a := s.adc k
  let noSlots := (s.nextSlot k 0).1 == none
  let calOk := a.calDue && a.queue.isEmpty && (!a.suspended || a.roundDone || noSlots)
  if s.getA ADC_CFG_EN k = 0 ∨ a.run ≠ .idle then s
  else
    match a.queue with
    | n :: rest =>
      let c := s.ctxInput k n
      let left := discards a.last c
      let start := s.now + left * s.tConv k
      let spaced : Bool := match a.lastInj with
        | none => true
        | some t => decide (t + 20 * s.tConv k ≤ start)
      if spaced then (s.updAdc k (fun a => { a with run := .inj n left, queue := rest, lastInj := some start })).putA ADC_STATUS_INJ_RUN 1 k
      else regular s a
    | [] =>
      if calOk then
        let s := if a.suspended then s.addA ADC_CAL_RESTARTS_COUNT 1 k else s
        let n := if a.suspended then a.restarts + 1 else a.restarts
        if 16 < n then (s.updAdc k (fun a => { a with calDue := false, suspended := false, restarts := 0 })).putA ADC_STATUS_CAL_STARVED 1 k
        else (s.updAdc k (fun a => { a with run := .cal 0, m1 := 0, m2 := 0, restarts := n, suspended := false })).putA ADC_STATUS_CAL_RUN 1 k
      else regular s a
where
  regular (s : State) (a : AdcSt) : State :=
    if a.monDue then
      let n := a.monNext
      s.updAdc k (fun a => { a with run := .mon n 0 (discards a.last (s.ctxInput k n)), monDue := false, monNext := if n = 63 then 56 else n + 1 })
    else
      match s.nextSlot k a.next with
      | (none, _) => s
      | (some j, wrap) =>
        let n := s.getA ADC_SLOT_k_CTX k j
        s.updAdc k (fun a => { a with run := .slot j 0 (discards a.last (s.ctxInput k n)), next := j, roundDone := a.roundDone || wrap })

/-- One conversion of a burst: discarded and counted, or a sample. -/
def State.burstConv (s : State) (k n rep disc raw : Nat) : State :=
  let s := if rep < disc then s.addA ADC_CTX_n_DISC_COUNT 1 k n else s.sampleInto k n raw
  s.updAdc k (fun a => { a with last := some (s.ctxInput k n) })

/-- Device contexts 56 to 61: the divider of the input, the operating range of its rail in µV, and the bit that shows it (R308, R423). -/
def railOf : Nat → Option (Nat × Nat × Nat × Fld)
  | 56 => some (24, 19200000, 30000000, PWR_STATUS_VS_A_OK)
  | 57 => some (24, 19200000, 30000000, PWR_STATUS_VS_B_OK)
  | 58 => some (1, 760000, 840000, PWR_STATUS_VDD_CORE_OK)
  | 59 => some (2, 1710000, 1890000, PWR_STATUS_VDD_18_OK)
  | 60 => some (3, 3135000, 3465000, PWR_STATUS_VDDIO_33_OK)
  | 61 => some (2, 1710000, 1890000, PWR_STATUS_VDDA_OK)
  | _ => none

/-- A result of a supply context shows whether its rail is within its operating range (R311, R423). Full scale is 1.25 V at the converter: 25,000 µA through 100 Ω, halved (R308, R309). -/
def State.showRail (s : State) (n raw : Nat) : State :=
  match railOf n with
  | some (d, lo, hi, f) => s.putFlag f (decide (lo * 65536 ≤ raw * 1250000 * d) && decide (raw * 1250000 * d ≤ hi * 65536))
  | none => s

/-- The end of the conversion in progress on converter `k`. -/
def State.conversion (s : State) (k raw : Nat) : State :=
  let idle (s : State) : State := (s.updAdc k (fun a => { a with run := .idle })).adcNext k
  match (s.adc k).run with
  | .idle => s.adcNext k
  | .cal step =>
    let inp := if step < 18 then 17 else 18
    let s := s.updAdc k (fun a => { a with
      last := if step < 36 then some (inp, 0) else a.last
      m1 := if 2 ≤ step ∧ step < 18 then a.m1 + raw else a.m1
      m2 := if 20 ≤ step ∧ step < 36 then a.m2 + raw else a.m2 })
    if step = 36 then (s.calResult k).adcNext k
    else if (s.adc k).queue ≠ [] then
      idle (s.updAdc k (fun a => { a with suspended := true, roundDone := false }))
    else s.updAdc k (fun a => { a with run := .cal (step + 1) })
  | .slot j rep disc =>
    let n := s.getA ADC_SLOT_k_CTX k j
    let s := s.burstConv k n rep disc raw
    if rep + 1 < s.getA ADC_SLOT_k_REPS k j ∧ (s.adc k).queue = [] ∧ ((s.adc k).calDue = false ∨ (s.adc k).suspended = true) then
      s.updAdc k (fun a => { a with run := .slot j (rep + 1) disc })
    else if rep + 1 < s.getA ADC_SLOT_k_REPS k j then idle s
    else idle (s.updAdc k (fun a => { a with next := j + 1, roundDone := a.roundDone || (s.nextSlot k (j + 1)).2 }))
  | .mon n rep disc =>
    let s := s.burstConv k n rep disc raw
    let s := if rep < disc then s else s.showRail n raw
    if rep + 1 < 3 ∧ (s.adc k).queue = [] then s.updAdc k (fun a => { a with run := .mon n (rep + 1) disc })
    else if rep + 1 < 3 then idle (s.updAdc k (fun a => { a with monDue := true, monNext := n }))
    else idle s
  | .inj n left =>
    if 0 < left then
      let s := (s.addA ADC_CTX_n_DISC_COUNT 1 k n).updAdc k (fun a => { a with last := some (s.ctxInput k n) })
      s.updAdc k (fun a => { a with run := .inj n (left - 1) })
    else
      let s := (s.sampleInto k n raw).updAdc k (fun a => { a with last := some (s.ctxInput k n) })
      idle (s.putA ADC_STATUS_INJ_RUN 0 k)

/-- ADC_CONVERSION_DONE (R314 to R321, R325, R326): at time `t` the conversion in progress on converter `k` ends with the raw code. -/
def execAdcConversionDone (k : Fin 4) (raw : BitVec 16) (t : Nat) (s : State) : Host.Outcome State Fault Refusal :=
  .next (({ s with now := max s.now t }).conversion k.val raw.toNat)

/-- R314: a trigger for context `n` of converter `k`: queued, or lost and counted when the queue holds 4. -/
def State.inject (s : State) (k n : Nat) : State :=
  let q := (s.adc k).queue
  if q.length < 4 then
    let s := s.updAdc k (fun a => { a with queue := a.queue ++ [n] })
    let s := s.putA ADC_INJ_PEAK (max (s.getA ADC_INJ_PEAK k) (q.length + 1)) k
    s.adcNext k
  else (s.addA ADC_INJ_LOST 1 k).addA ADC_CTX_n_STATUS_INJ_LOST 1 k n

/-- IOS_INJECTION_TRIGGER (R312, R314): IOS_OFS µs after a boundary, for an enabled context with IOS_INJ = 1. -/
def execIosInjectionTrigger (k : Fin 4) (n : Fin 56) (s : State) : Host.Outcome State Fault Refusal :=
  .next (if s.getA ADC_CTX_n_CFG_EN k.val n.val = 1 ∧ s.getA ADC_CTX_n_CFG_IOS_INJ k.val n.val = 1 then s.inject k.val n.val else s)

/-- An ADC_INJECT cam event (R69, R312): bit 6 of TARGET selects the channel's second converter, bits 5:0 the context. -/
def State.camInject (s : State) (c : Chan) (target : Nat) : State :=
  let k := 2 * chanNum c + target / 64 % 2
  let n := target % 64
  if s.getA ADC_CTX_n_CFG_EN k n = 1 ∧ s.getA ADC_CTX_n_CFG_CAM_INJ k n = 1 then s.inject k n else s

/-- MONITOR_BURST (R315): every 100 µs a monitor burst is inserted between two slots. -/
def execMonitorBurst (k : Fin 4) (s : State) : Host.Outcome State Fault Refusal :=
  .next (if s.getA ADC_CFG_EN k.val = 0 then s else (s.updAdc k.val (fun a => { a with monDue := true })).adcNext k.val)

/-- A calibration falls due: it starts at the next conversion boundary with no trigger queued. -/
def State.calFallsDue (s : State) (k : Nat) : State :=
  if s.getA ADC_CFG_EN k = 0 then s else (s.updAdc k (fun a => { a with calDue := true })).adcNext k

/-- CALIBRATION_DUE (R325): at time `t` CAL_PERIOD has passed, or Crow's Nest requests a calibration. -/
def execCalibrationDue (k : Fin 4) (request : Bool) (t : Nat) (s : State) : Host.Outcome State Fault Refusal :=
  let s := { s with now := max s.now t }
  .next (if request = true ∨ (s.adc k.val).calAt + 60000000000 * s.getA ADC_CFG_CAL_PERIOD k.val ≤ s.now then s.calFallsDue k.val else s)

/-- CALIBRATION_OVERDUE (R326, rule 5): no calibration has completed within 4 × CAL_PERIOD. -/
def execCalibrationOverdue (k : Fin 4) (t : Nat) (s : State) : Host.Outcome State Fault Refusal :=
  let s := { s with now := max s.now t }
  .next (if s.getA ADC_CFG_EN k.val = 1 ∧ (s.adc k.val).calAt + 240000000000 * s.getA ADC_CFG_CAL_PERIOD k.val ≤ s.now then
      (s.putA ADC_STATUS_CAL_FAIL 1 k.val).adcFault k.val (convElem k.val)
    else s)

/-- R317, R438: the converter is reset: volatile fields of its area, its queue and its sequence; every context's filter restarts. A calibration falls due, since READY is 0 again. -/
def State.adcReset (s : State) (k : Nat) : State :=
  let s := s.restartAll k
  let s := s.blockReset (adcBase k) 0x4000
  let s := s.updAdc k (fun a => { a with run := .idle, last := none, queue := [], lastInj := none, next := 0, monDue := false, calDue := true, suspended := false, roundDone := false, restarts := 0, refBad := 0 })
  s

/-- CONVERSION_TIMEOUT (R328): a conversion is not finished within 2 × t_conv, or the ready line is lost: E55 and a block reset of the converter, which opens its consequential window (R190). -/
def execConversionTimeout (k : Fin 4) (s : State) : Host.Outcome State Fault Refusal :=
  .next (if s.getA ADC_CFG_EN k.val = 0 then s
    else
      let s := (s.putA ADC_STATUS_CONV_TO 1 k.val).adcFault k.val (convElem k.val)
      let s := (s.openWindow (5 + k.val)).adcReset k.val
      ((s.putA ADC_STATUS_CONV_TO 1 k.val).clearCond 55 (convElem k.val)).adcNext k.val)

/-- ADC_REF_XCHK_FAULT (R327): the device context of input 16 was off by more than 492 codes on 3 consecutive results. -/
def execAdcRefXchkFault (k : Fin 4) (s : State) : Host.Outcome State Fault Refusal :=
  .next (if 3 ≤ (s.adc k.val).refBad then (s.putA ADC_STATUS_REF_XCHK 1 k.val).adcFault k.val (convElem k.val) else s)

/-! ## Safe analogue inputs (R322 to R324) -/

/-- The converter and context of AIn in channel `c`, when enabled. -/
def State.aiCtx (s : State) (c : Chan) (n : Nat) : Option (Nat × Nat) :=
  if s.get ADC_AI_n_EN c n = 1 then some (2 * chanNum c + s.get ADC_AI_n_CONV c n, s.get ADC_AI_n_CTX c n) else none

/-- The element a context fault is charged to. -/
def ctxElem (k n : Nat) : Elem := .ctx (adcChan k) (64 * (k % 2) + n)

/-- R324: the age and the span of a safe input's latest result; beyond MAX_AGE is E55. -/
def State.aiCheck (s : State) (k n : Nat) : State :=
  if s.getA ADC_CTX_n_VALUE_VALID k n = 0 then s
  else
    let m := 10000 * s.getA ADC_CTX_n_AGE_MAX_AGE k n
    let x := s.ctx k n
    let stale := decide (x.doneAt + m < s.now)
    let wide := decide (m < x.span)
    let s := (s.putA ADC_CTX_n_STATUS_STALE stale.toNat k n).putA ADC_CTX_n_STATUS_SPAN wide.toNat k n
    if stale || wide then s.adcFault k (ctxElem k n) else s.clearCond 55 (ctxElem k n)

/-- The marker of R323. -/
def aiMarker : Int := -2147483648

/-- R323, R309: what AIn of channel `c` reads at this snapshot, and ADC_AI_n with it. -/
def State.aiSnap (s : State) (c : Chan) (n : Nat) : State × Int :=
  match s.aiCtx c n with
  | none => (s, 0)
  | some (k, x) =>
    let s := s.aiCheck k x
    let ok := s.getA ADC_CTX_n_VALUE_VALID k x == 1 && s.getA ADC_CTX_n_STATUS_STALE k x == 0 && s.getA ADC_CTX_n_STATUS_SPAN k x == 0
    let ua := nearest (s.getA ADC_CTX_n_VALUE_RESULT k x * 25000) 65536
    let s := (s.put ADC_AI_n_VALID ok.toNat c n).put ADC_AI_n_UA (if ok then ua.toNat else 0) c n
    (s, if ok then ua else aiMarker)

/-- AI_CONTEXT_STALE (R324): at time `t` the check of AIn of channel `c` finds its result too old or its set too long. -/
def execAiContextStale (c : Chan) (n : Fin 8) (t : Nat) (s : State) : Host.Outcome State Fault Refusal :=
  let s := { s with now := max s.now t }
  .next (match s.aiCtx c n.val with
    | none => s
    | some (k, x) => s.aiCheck k x)

/-- ADC_CTX_CLR (R319): the channel's own SC clears a context's statistics. -/
def execAdcCtxClr (k : Fin 4) (n : Fin 64) (ownSc : Bool) (s : State) : Host.Outcome State Fault Refusal :=
  .next (if ownSc then s.updCtx k.val n.val (fun x => { x with total := 0, count := 0, lo := 0xFFFF, hi := 0, sat := false }) else s)

end Sys2Proof.Machine
end

