-- ==== Sys2Proof/Machine/HlyCore.lean ====
section
/-! DEFINITION. Halyard's rings (R282, R283, R305 of 11_host_interface.md), the completion of a command (R289) and the interrupt vectors (R302). -/

namespace Sys2Proof.Machine

open Sys2Proof

/-! ## Rings -/

def tyCOMMAND : Nat := 0
def tyEVENT : Nat := 1
def tyIMAGE : Nat := 2

def State.updHly (s : State) (f : HlySt → HlySt) : State := { s with hly := f s.hly }

def State.ring (s : State) (n : Nat) : RingSt := tabGet {} s.hly.rings n

def State.updRing (s : State) (n : Nat) (f : RingSt → RingSt) : State :=
  s.updHly (fun h => { h with rings := tabUpd {} h.rings n f })

/-- The device index: CONS of a command ring, PROD of the others. -/
def State.devIdx (s : State) (n : Nat) : Nat := s.get HLY_RING_n_IDX_DEV_IDX .a n

/-- The difference of two free-running indices (R283). -/
def idxSub (x y : Nat) : Nat := (x + 2 ^ 32 - y % 2 ^ 32) % 2 ^ 32

/-- Free entries of an event or image ring. -/
def State.ringRoom (s : State) (n : Nat) : Nat := s.ringSize n - idxSub (s.devIdx n) (s.ring n).host

/-- PHASE of the entry at an index (R298). -/
def State.ringPhase (s : State) (n i : Nat) : Nat := 1 - i / s.ringSize n % 2

/-- HLY_STATUS.STATE. -/
def hlySETUP : Nat := 0
def hlyRUN : Nat := 1
def hlyLOST : Nat := 2

def State.hlyState (s : State) : Nat := s.get HLY_STATUS_STATE

/-- R299: a Halyard event: 1 host loss begun with its cause, 2 ended, 3 ring error with ring and cause, 4 ring reset. -/
def State.hlyEvent (s : State) (kind x y : Nat) : State := s.pushEvent 6 [kind, x, y, 0]

/-- HLY_COUNT.DMA_ERR: a failed host memory access. -/
def State.dmaErr (s : State) : State := s.satInc HLY_COUNT_DMA_ERR

/-- R305: a ring enters ERROR, with its cause. -/
def State.ringError (s : State) (n cause : Nat) : State :=
  ((((s.put HLY_RING_n_STATUS_STATE 2 .a n).put HLY_RING_n_STATUS_CAUSE cause .a n).updRing n (fun r => { r with fetched := 0 })).hlyEvent 3 n cause)

/-! ## Interrupts (R302) -/

def State.vec (s : State) (v : Nat) : VecSt := tabGet {} s.hly.vecs v

def State.updVec (s : State) (v : Nat) (f : VecSt → VecSt) : State := s.updHly (fun h => { h with vecs := tabUpd {} h.vecs v f })

/-- The per-vector mask: bit 0 of the fourth word of the table entry, as the set-up left it. -/
def State.vecMasked (s : State) (v : Nat) : Bool := bit (tabGet 1 s.hly.msix (4 * v + 3)) 0

/-- The message of a vector is sent, or its pending bit set while it is masked. -/
def State.sendVector (s : State) (v : Nat) : State :=
  if s.vecMasked v then s.updVec v (fun x => { x with pend := true }) else s.updVec v (fun x => { x with raised := x.raised + 1 })

/-- An occasion of ring `n`: its vector at once, or when IRQ_DELAY has passed since the first occasion. -/
def State.raiseRing (s : State) (n : Nat) : State :=
  let v := s.get HLY_RING_n_CFG_VECTOR .a n
  let d := s.get HLY_RING_n_CFG_IRQ_DELAY .a n
  if d = 0 then s.sendVector v
  else match (s.vec v).due with
    | some _ => s
    | none => s.updVec v (fun x => { x with due := some (s.now + d * 1000) })

/-! ## Times that SEC shows (R291, R355, R368) -/

/-- Whole units of `u` ns left until `e`, a begun one counting. -/
def State.leftOf (s : State) (e u : Nat) : Nat := (e - s.now + u - 1) / u

/-- Authority lasts 30 min after the last command that needed it. -/
def idleLimit : Nat := 1800000000000

/-- SEC_AUTH_n.IDLE_LEFT, SEC_LIFECYCLE.SVC_LEFT and SEC_AUTH_FAIL.BACKOFF_S at the present time. -/
def State.showTimes (s : State) : State :=
  let s := (List.range 8).foldl (fun (s : State) n =>
    if s.get SEC_AUTH_n_SCOPE .a n = 0 then s else s.put SEC_AUTH_n_IDLE_LEFT (s.leftOf ((s.ring n).authAt + idleLimit) 60000000000) .a n) s
  let s := match s.service with
    | some e => s.put SEC_LIFECYCLE_SVC_LEFT (s.leftOf e 60000000000)
    | none => s
  match s.sec.backoff with
  | some e => s.put SEC_AUTH_FAIL_BACKOFF_S (s.leftOf e 1000000000)
  | none => s

/-! ## Completions -/

/-- Status codes of R293. -/
def csOK : Nat := 0
def csBAD_OPCODE : Nat := 1
def csBAD_ARG : Nat := 2
def csBAD_LENGTH : Nat := 3
def csDMA_ERROR : Nat := 4
def csAUTH_REQUIRED : Nat := 5
def csAUTH_FAILED : Nat := 6
def csSTATE : Nat := 7
def csBUSY : Nat := 8
def csDENIED : Nat := 9
def csUNREAD : Nat := 10
def csCONFIG : Nat := 11
def csABORTED : Nat := 12

/-- R289: a command completes: result data, descriptor, CONS and the vector when IRQ is set. A descriptor that cannot be written puts the ring in ERROR (R305). -/
def State.cmdDone (s : State) (d : Done) (irq doneOk : Bool) : State :=
  if doneOk then
    let s := (s.put HLY_RING_n_IDX_DEV_IDX ((s.devIdx d.ring + 1) % 2 ^ 32) .a d.ring).updRing d.ring (fun r => { r with fetched := r.fetched - 1 })
    let s := s.updHly (fun h => { h with last := some d })
    if irq then s.raiseRing d.ring else s
  else (s.dmaErr).ringError d.ring 3

/-- The exclusive command `op` starts to run beyond its descriptor. -/
def State.runOn (s : State) (r : Running) : State := s.updHly (fun h => { h with exclusive := some r })

/-- The exclusive command `op` ends: its completion is written while its ring still waits for it. -/
def State.endExclusive (s : State) (op status result : Nat) : State :=
  match s.hly.exclusive with
  | none => s
  | some x =>
    if x.opcode ≠ op then s
    else
      let s := s.updHly (fun h => { h with exclusive := none })
      match x.ring with
      | none => s
      | some r => if s.hlyState = hlyRUN ∧ s.ringActive r = true then s.cmdDone { ring := r, tag := x.tag, status := status, result := result } x.irq x.doneOk else s

end Sys2Proof.Machine
end

