-- ==== Sys2Proof/Machine/MzCore.lean ====
section
/-! DEFINITION. The Mizzen die (15_metrology_partition.md): its count, totals, lots and logs, and its end of the link. -/

namespace Sys2Proof.Machine

open Sys2Proof

def State.updMz (s : State) (f : MzSt → MzSt) : State := { s with mz := f s.mz }

/-! ## Codes of R393 -/

def mzLOT_OPEN : Nat := 0x01
def mzLOT_CLOSE : Nat := 0x02
def mzLOT_CUT : Nat := 0x03
def mzREAD_LOT : Nat := 0x10
def mzREAD_AUDIT : Nat := 0x11
def mzREAD_EVENT : Nat := 0x12
def mzREAD_CERT : Nat := 0x13
def mzTIME_HINT : Nat := 0x20

def mzKnown (cmd : Nat) : Bool := [mzLOT_OPEN, mzLOT_CLOSE, mzLOT_CUT, mzREAD_LOT, mzREAD_AUDIT, mzREAD_EVENT, mzREAD_CERT, mzTIME_HINT].contains cmd

def mzOK : Nat := 1
def mzSTATE : Nat := 2
def mzBUSY : Nat := 3
def mzREFUSED : Nat := 4

/-- MZW_RESP, where the main die is there to take it. -/
def State.mzResp (s : State) (cmd result : Nat) : State :=
  if s.running then (s.put MZW_RESP_RESULT result).put MZW_RESP_CMD cmd else s

/-- R393: a command goes to Mizzen, which holds eight; one more is refused with BUSY. Without Mizzen it is lost, and MZW_RESP reads 0. -/
def State.mzSend (s : State) (cmd arg : Nat) : State :=
  if s.mz.on = false then (s.put MZW_RESP_RESULT 0).put MZW_RESP_CMD 0
  else if 8 ≤ s.mz.queue.length then s.mzResp cmd mzBUSY
  else ((s.put MZW_RESP_RESULT 0).put MZW_RESP_CMD 0).updMz (fun m => { m with queue := m.queue ++ [(cmd, arg)] })

/-- A write of MZW_CMD by SC-A: TIME_HINT takes the two last words written to MZW_ARG, high word first. -/
def State.mzWriteCmd (s : State) (cmd : Nat) : State :=
  s.mzSend cmd (if cmd = mzTIME_HINT then s.mz.argPrev * 2 ^ 32 + s.mz.arg else s.mz.arg)

def State.mzWriteArg (s : State) (v : Nat) : State := s.updMz (fun m => { m with argPrev := m.arg, arg := v })

/-! ## Seconds and logs -/

/-- The Mizzen seconds count. -/
def State.mzSecs (s : State) : Nat := s.mz.secs + (s.now - s.mz.onAt) / 1000000000

/-- R388: an entry of the event log; the oldest of 512 is overwritten. -/
def State.mzEvent (s : State) (e : MzEvent) : State :=
  let t := s.mzSecs
  s.updMz (fun m => if m.events.length < 512 then { m with events := m.events ++ [(e, t)] } else { m with events := m.events.drop 1 ++ [(e, t)], eventsLost := m.eventsLost + 1 })

def State.auditFull (s : State) : Bool := decide (4096 ≤ s.mz.audit.length)

/-- R387: an entry of the audit trail, which is never overwritten. -/
def State.mzAudit (s : State) (c : MzChange) : State :=
  if s.auditFull then s
  else
    let t := s.mzSecs
    s.updMz (fun m => { m with audit := m.audit ++ [⟨c, m.seals, t, m.gt⟩] })

/-- The flags of the open lot changed. -/
def State.mzFlag (s : State) (f : LotFlags → LotFlags) : State := s.updMz (fun m => { m with lot := m.lot.map (fun l => { l with flags := f l.flags }) })

/-! ## Totals (R380, R381, R383, R384) -/

/-- One edge of new material: NUM/DEN µm, the remainder carried. -/
def MzSt.add (m : MzSt) : MzSt :=
  let n := m.rem + m.params.num
  { m with gt := (m.gt + n / m.params.den) % 2 ^ 64, rem := n % m.params.den }

/-- R381: the furthest point new material counts from. -/
def MzSt.mark (m : MzSt) : Int := if m.lot.isSome then m.farLot else m.far

/-- One edge forward in the counting direction. -/
def MzSt.forward (m : MzSt) : MzSt :=
  let p := m.pos + 1
  let m' := if m.mark < p then m.add else m
  { m' with pos := p, far := max m.far p, farLot := max m.farLot p }

/-- One edge backward: reverse length of the open lot. -/
def MzSt.backward (m : MzSt) : MzSt := { m with pos := m.pos - 1, lot := m.lot.map (fun l => { l with rev := l.rev + 1 }) }

/-- A length in µm in whole units of RES. -/
def MzSt.units (m : MzSt) (um : Nat) : Nat := um / m.params.res

/-- R397: the grand total into non-volatile memory. -/
def State.mzCommit (s : State) : State := s.updMz (fun m => { m with gtKept := m.gt, remKept := m.rem, committedAt := s.now })

/-! ## Lots (R384, R385) -/

/-- A lot opens: G_open is latched, and new material counts from the present position. -/
def State.openLot (s : State) (ident : Nat) : State :=
  let t := s.mzSecs
  s.updMz (fun m => { m with lotNo := m.lotNo + 1, farLot := m.pos, lot := some ⟨m.lotNo + 1, ident, m.gt, 0, t, { unsealed := m.broken }⟩ })

/-- The open lot closes: its signed record goes into the ring of 1,024, and the grand total is committed. -/
def State.closeLot (s : State) : State :=
  match s.mz.lot with
  | none => s
  | some l =>
    let w := s.draw
    let t := s.mzSecs
    let r : LotRec := ⟨l.number, l.ident, l.gOpen, s.mz.gt, s.mz.units s.mz.gt - s.mz.units l.gOpen, l.rev * s.mz.params.num / s.mz.params.den, l.secs, t, s.mz.hint, l.flags, w.1⟩
    (w.2.updMz (fun m => { m with lot := none, records := (if m.records.length < 1024 then m.records else m.records.drop 1) ++ [r] })).mzCommit

/-! ## Mirror (R395, R396) -/

/-- The registers a mirror frame writes. -/
def mirrorFields : List Fld :=
  [MZW_GT_LO_GT_LO, MZW_GT_HI_GT_HI, MZW_LOT_NUMBER, MZW_LOT_LEN_LEN, MZW_SEAL_COUNT, MZW_SWID_VERSION, MZW_SWCRC_VERSION, MZW_PARCRC_VERSION,
   MZW_STATUS_AUDIT_FULL, MZW_STATUS_MZ_FAULT, MZW_STATUS_MEAS_FAULT, MZW_STATUS_POWER, MZW_STATUS_UNSEALED, MZW_STATUS_LOT_OPEN, MZW_STATUS_QFULL, MZW_STATUS_LINK]

/-- The parameters in the order of MzParams. -/
def MzParams.list (p : MzParams) : List Nat := [p.num, p.den, p.res, p.invert, p.maxRate, p.baud, p.indPeriod]

/-- The content of a mirror frame, in the order of mirrorFields. -/
def MzSt.mirror (m : MzSt) : List Nat :=
  let len := match m.lot with
    | some l => m.units m.gt - m.units l.gOpen
    | none => 0
  let pow := match m.lot with
    | some l => l.flags.power
    | none => false
  [m.gt % 2 ^ 32, m.gt / 2 ^ 32, m.lotNo, len, m.seals, m.version, m.swCrc, Config.mzParamCrc m.params.list % 2 ^ 32,
   (decide (4096 ≤ m.audit.length)).toNat, m.held.toNat, (m.wire || m.quad || m.rate).toNat, pow.toNat, m.broken.toNat, m.lot.isSome.toNat, (decide (8 ≤ m.queue.length)).toNat, 1]

/-- The mirror registers read 0, with LINK = 0. -/
def State.clearMirror (s : State) : State := (mirrorFields.foldl (fun (s : State) f => s.put f 0) s).updMz (fun m => { m with mirrorAt := none })

end Sys2Proof.Machine
end

