-- ==== Sys2Proof/Machine/CamTab.lean ====
section
/-! DEFINITION. Reading the cam table and the position of the coordinate (R45, R46, R65 to R72 of 02_line_coordinate.md). -/

namespace Sys2Proof.Machine

open Sys2Proof

/-- R45: the modulus M, 33 bits. -/
def State.modulus (s : State) (c : Chan) : Nat := s.get LC_MODULUS_M c + 2 ^ 32 * s.get LC_CFG_MOD32 c

/-- Linear mode. -/
def State.linear (s : State) (c : Chan) : Bool := s.flag LC_CFG_MODE c

/-- The integer part of the coordinate: 0 to M − 1 in rotary mode, signed in linear mode. -/
def State.posInt (s : State) (c : Chan) : Int :=
  let p := (twoAt s.ae c).pos / 65536
  if s.linear c ∨ s.modulus c = 0 then p else p % (s.modulus c : Int)

/-- The position cam points are compared with: the integer part, or in linear mode its distance from CAM_ORIGIN (R65, R72). -/
def State.relPos (s : State) (c : Chan) : Int :=
  if s.linear c then s.posInt c - (twoAt s.ae c).origin else s.posInt c

/-- The position of a cam point: unsigned in rotary mode, signed 32 bits from the origin in linear mode (R71). -/
def State.ptPos (s : State) (c : Chan) (n : Nat) : Int :=
  let p := s.get CAM_PT_n_POS_POS c n
  if s.linear c then signed 32 p else p

/-- ACTION codes of a cam point. -/
def actOPEN : Nat := 1
def actCLOSE : Nat := 2
def actADC : Nat := 3
def actCAPTURE : Nat := 4

/-- The cam points that are listed in the register file with another action than "unused", by number. Unused points take no part in any rule. -/
def State.usedPoints (s : State) (c : Chan) : List Nat :=
  let base := blockBase .lc c + 0x2004
  s.regs.filterMap (fun e => if base ≤ e.1 ∧ e.1 < base + 8192 ∧ (e.1 - base) % 8 = 0 ∧ s.get CAM_PT_n_ACT_ACTION c ((e.1 - base) / 8) ≠ 0
    then some ((e.1 - base) / 8) else none)

/-- The position of the OPEN (CLOSE) point of window `w`. -/
def State.winPt (s : State) (c : Chan) (w act : Nat) : Option Int :=
  ((s.usedPoints c).find? (fun n => s.get CAM_PT_n_ACT_ACTION c n == act && s.get CAM_PT_n_ACT_TARGET c n % 64 == w)).map (s.ptPos c)

/-- R65: the position rule of a window between `o` and `k` at position `p`. -/
def winRule (o k p : Int) : Bool :=
  if o ≤ k then decide (o ≤ p ∧ p < k) else decide (o ≤ p ∨ p < k)

/-- R67: the direction qualification: either, forward only, backward only, against DIR of LC_STATUS. -/
def dirAllows (q dir : Nat) : Bool := q == 0 || (q == 1 && dir == 1) || (q == 2 && dir == 2)

/-- R56: windows and events work only in VALID and DEGRADED. -/
def State.camWorks (s : State) (c : Chan) : Bool := s.lcState c == 2 || s.lcState c == 3

/-- R65, R67: the state of window `w` at the present position, apart from R56. -/
def State.winState (s : State) (c : Chan) (w : Nat) : Bool :=
  match s.winPt c w actOPEN, s.winPt c w actCLOSE with
  | some o, some k => winRule o k (s.relPos c) && dirAllows (s.get CAM_WIN_n_CFG_DIR c w) (s.get LC_STATUS_DIR c)
  | _, _ => false

/-- R115, rule 4: the steps left in an open window in the present direction. -/
def State.winLeft (s : State) (c : Chan) (w : Nat) : Nat :=
  match s.winPt c w actOPEN, s.winPt c w actCLOSE with
  | some o, some k =>
    let p := s.relPos c
    let d := if s.get LC_STATUS_DIR c = 2 then p - o else k - p
    (if s.linear c ∨ s.modulus c = 0 then d else d % (s.modulus c : Int)).toNat
  | _, _ => 0

end Sys2Proof.Machine
end

