-- ==== Sys2Proof/Machine/Tim.lean ====
section
/-! DEFINITION. The timer blocks (R333 to R344 of 13_timers_and_crc.md): ticks, wraps, compares, master events, captures and the make-up after SLEEP. A block is brought up to a moment by `advance`; every firing in the span is found from the count before and after it. -/

namespace Sys2Proof.Machine

open Sys2Proof

/-- R333: the base of a block. -/
def timBase : Unit3 → Nat
  | .a => blockBase .tim .a
  | .b => blockBase .tim .b
  | .p => 0x60000000

def unitNum : Unit3 → Nat
  | .a => 0
  | .b => 1
  | .p => 2

/-- The block a channel owns. -/
def unitOf : Chan → Unit3
  | .a => .a
  | .b => .b

/-- The angle engine that clocks a block's line-step timers (R333). -/
def unitAe : Unit3 → Chan
  | .a | .p => .a
  | .b => .b

/-- A field of timer (compare, pin) `i` of block `u`. -/
def State.getT (s : State) (f : Fld) (u : Unit3) (i : Nat := 0) : Nat := s.getAt f (timBase u) i

def State.putT (s : State) (f : Fld) (v : Nat) (u : Unit3) (i : Nat := 0) : State := s.putAt f v (timBase u) i

def State.tim (s : State) (u : Unit3) : TimSt := tabGet {} s.tims (unitNum u)

def State.updTim (s : State) (u : Unit3) (f : TimSt → TimSt) : State := { s with tims := tabUpd {} s.tims (unitNum u) f }

/-- R337: ticks from count `old` to a match with `v`: a value equal to the count takes a whole lap. -/
def ticksTo (old v : Nat) : Nat := (v + 2 ^ 32 - old - 1) % 2 ^ 32 + 1

/-- R339: compare `n` of block `u` fires: its interrupt and its output action. -/
def State.fireCompare (s : State) (u : Unit3) (late : Bool) (n : Nat) : State :=
  let t := n / 4
  let s := (s.putT TIM_CMP_n_ACT_ARMED 0 u n).putT TIM_CMP_n_ACT_FIRED 1 u n
  let s := if late then s.putT TIM_CMP_n_ACT_LATE 1 u n else s
  let s := if s.getT TIM_CMP_n_ACT_IRQ u n = 1 then s.updTim u (fun x => { x with irqs := x.irqs + 1 }) else s
  let o := s.getT TIM_CMP_n_ACT_OUT u n
  if o = 0 then s
  else s.putT TIM_TM_t_STATUS_OUT (if o = 1 then 1 else if o = 2 then 0 else 1 - s.getT TIM_TM_t_STATUS_OUT u t) u t

/-- What a timer produced for its slaves: wraps, and the compares (0 to 3) that fired with EVT set. -/
structure TimEvents where
  wraps : Nat := 0
  fired : List Nat := []
  deriving DecidableEq, Repr

/-- The armed compares of timer `t` that `n` ticks from `old` step into, in the order in which their values are passed, ascending number within one tick (R337, R339). -/
def State.passed (s : State) (u : Unit3) (t old n : Nat) : List Nat :=
  sortBy (fun k => ticksTo old (s.getT TIM_CMP_n_VALUE u k))
    (((List.range 4).map (fun k => 4 * t + k)).filter (fun k =>
      s.getT TIM_CMP_n_ACT_ARMED u k == 1 && decide (ticksTo old (s.getT TIM_CMP_n_VALUE u k) ≤ n)))

/-- Timer `t` makes `n` ticks (R335, R337 to R339). -/
def State.tickTimer (s : State) (u : Unit3) (late : Bool) (t n : Nat) : State × TimEvents :=
  if n = 0 then (s, {})
  else
    let old := s.getT TIM_TM_t_COUNT_COUNT u t
    let fires := s.passed u t old n
    let w := (old + n) / 2 ^ 32
    let s := s.putT TIM_TM_t_COUNT_COUNT ((old + n) % 2 ^ 32) u t
    let s := if 0 < w then s.putT TIM_TM_t_STATUS_OVF 1 u t else s
    let ev := fires.filter (fun k => s.getT TIM_CMP_n_ACT_EVT u k == 1)
    (fires.foldl (fun s k => s.fireCompare u late k) s, { wraps := w, fired := ev.map (fun k => k % 4) })

/-- R342: a capture of the present count of timer `t`. -/
def State.capture (s : State) (u : Unit3) (t : Nat) (stamp : Option Nat) : State :=
  let s := if s.getT TIM_TM_t_STATUS_CAP_FULL u t = 1 then s.putT TIM_TM_t_STATUS_CAP_OVR 1 u t else s
  let s := (s.putT TIM_TM_t_CAP_COUNT (s.getT TIM_TM_t_COUNT_COUNT u t) u t).putT TIM_TM_t_STATUS_CAP_FULL 1 u t
  match stamp with
  | some k => s.putT TIM_TM_t_CAPSTAMP_UPDATE k u t
  | none => s

/-- R340: how many master events timer `t` sees. -/
def State.masterEvents (s : State) (u : Unit3) (t : Nat) (es : Tab TimEvents) : Nat :=
  let e := tabGet {} es (s.getT TIM_TM_t_CFG_MASTER u t)
  let v := s.getT TIM_TM_t_CFG_MEV u t
  if v = 0 then e.wraps else if e.fired.contains (v - 1) then 1 else 0

/-- One timer in a pass over its block: `n` ticks of its own source, master events as ticks, slave reset, capture by the master event (R340, R342). -/
def State.passTimer (s : State) (u : Unit3) (late : Bool) (t n : Nat) (es : Tab TimEvents) : State × Tab TimEvents :=
  if s.getT TIM_TM_t_CFG_EN u t = 0 then (s, es)
  else
    let m := s.masterEvents u t es
    let r := s.tickTimer u late t (if s.getT TIM_TM_t_CFG_CLK u t = 3 then m else n)
    let s := r.1
    let s := if 0 < m ∧ s.getT TIM_TM_t_CFG_CAP_SRC u t = 2 then s.capture u t none else s
    let s := if 0 < m ∧ s.getT TIM_TM_t_CFG_SLAVE u t = 2 then s.putT TIM_TM_t_COUNT_COUNT 0 u t else s
    (s, tabSet es t r.2)

/-- R340: a gated timer ticks only while its master's OUT is 1, as the span began. -/
def State.gateOpen (s : State) (u : Unit3) (t : Nat) : Bool :=
  s.getT TIM_TM_t_CFG_SLAVE u t != 1 || s.getT TIM_TM_t_STATUS_OUT u (s.getT TIM_TM_t_CFG_MASTER u t) == 1

/-- A pass over the eight timers in ascending order; `ticks` gives each one's ticks from its own source. -/
def State.passBlock (s : State) (u : Unit3) (late : Bool) (ticks : Nat → Nat) : State :=
  let gates := (List.range 8).map (fun t => s.gateOpen u t)
  ((List.range 8).foldl (fun (r : State × Tab TimEvents) t =>
    r.1.passTimer u late t (if gates.getD t true then ticks t else 0) r.2) (s, [])).1

/-- Cycles towards the next tick and ticks of a time-clocked timer after `c` kernel cycles (R335). -/
def prescale (phase c presc : Nat) : Nat × Nat := ((phase + c) % (presc + 1), (phase + c) / (presc + 1))

/-- Block `u` brought up to the present time: its time-clocked timers tick (R335). In SLEEP every timer stops (R344). -/
def State.advance (s : State) (u : Unit3) : State :=
  let x := s.tim u
  if s.now < x.last + 10 then s
  else if s.dev = stSLEEP then s.updTim u (fun x => { x with last := s.now })
  else
    let c := (s.now - x.last) / 10
    let on (t : Nat) : Bool := s.getT TIM_TM_t_CFG_EN u t == 1 && s.getT TIM_TM_t_CFG_CLK u t == 0
    let run (t : Nat) : Nat × Nat := prescale (tabGet 0 x.phase t) c (s.getT TIM_TM_t_CFG_PRESC u t)
    let ph := (List.range 8).foldl (fun (p : Tab Nat) t => if on t then tabSet p t (run t).1 else p) x.phase
    let tk := (List.range 8).map (fun t => if on t then (run t).2 else 0)
    (s.updTim u (fun y => { y with last := y.last + 10 * c, phase := ph })).passBlock u false (fun t => tk.getD t 0)

/-- R335, R336: the ticks of a line-step timer for a move of whole steps from `old` to `new`. -/
def State.stepTicks (s : State) (u : Unit3) (t : Nat) (old new : Int) : Nat :=
  if s.getT TIM_TM_t_CFG_EN u t = 0 then 0
  else if s.getT TIM_TM_t_CFG_CLK u t = 1 then (new - old).natAbs
  else if s.getT TIM_TM_t_CFG_CLK u t = 2 then (new - tabGet old (s.tim u).furthest t).toNat
  else 0

/-- R336: the line-step timers of block `u` advance once, at an update of its angle engine. -/
def State.lineSteps (s : State) (u : Unit3) (old new : Int) : State :=
  let tk := (List.range 8).map (fun t => s.stepTicks u t old new)
  let f := (List.range 8).foldl (fun (p : Tab Int) t =>
    if s.getT TIM_TM_t_CFG_EN u t = 1 ∧ s.getT TIM_TM_t_CFG_CLK u t = 2 then tabSet p t (max new (tabGet old p t)) else tabDel p t) (s.tim u).furthest
  (s.updTim u (fun x => { x with furthest := f })).passBlock u false (fun t => tk.getD t 0)

/-- A reference moves the position without movement of the line: the furthest positions move with it. -/
def State.shiftSteps (s : State) (u : Unit3) (d : Int) : State :=
  s.updTim u (fun x => { x with furthest := x.furthest.map (fun e => (e.1, e.2 + d)) })

/-- R342: a CAPTURE cam event for timer `t` of channel `c`'s own block, whose CAP_SRC is cam. -/
def State.camCapture (s : State) (c : Chan) (t : Nat) : State :=
  let u := unitOf c
  let s := s.advance u
  if s.getT TIM_TM_t_CFG_CAP_SRC u t = 1 then s.capture u t (some (s.lcStamp c)) else s

/-- R344: the make-up of block `u` at wake, for `p` periods of 32.768 kHz spent in SLEEP. -/
def State.makeUp (s : State) (u : Unit3) (p : Nat) : State :=
  let s := s.putT TIM_WAKE_AON_TICKS (p % 2 ^ 32) u
  let ticks (t : Nat) : Nat := if s.getT TIM_TM_t_CFG_CLK u t = 0 then p * 100000000 / (32768 * (s.getT TIM_TM_t_CFG_PRESC u t + 1)) else 0
  let tk := (List.range 8).map ticks
  (s.updTim u (fun x => { x with last := s.now, phase := [] })).passBlock u true (fun t => tk.getD t 0)

/-- R343: the level at pin TMIOk when it is an output. -/
def State.tmioOut (s : State) (k : Nat) : Option Bool :=
  if s.getT TIM_PIN_k_DIR .p k = 0 then none
  else some ((s.getT TIM_TM_t_STATUS_OUT .p (s.getT TIM_PIN_k_TIMER .p k) == 1) != (s.getT TIM_PIN_k_INV .p k == 1))

end Sys2Proof.Machine
end

