-- ==== Sys2Proof/Machine/Bus.lean ====
section
/-! DEFINITION. The address map and the bus firewall (R31 to R39 of 01_architecture.md, R370), register access by the codes of R7 and R8, and memory as a list of bytes in canonical form. -/

namespace Sys2Proof.Machine

open Sys2Proof

/-! ## Memory: RAM reads 0 where nothing has been written (R404); no listed byte is 0 -/

/-- One byte. -/
def memByte (m : List Host.Cell) (a : Nat) : BitVec 8 :=
  match m.find? (fun e => e.1 == a) with
  | some e => e.2
  | none => 0

/-- The list without address `a`, or with a byte under it, in rising order. -/
def memInsert (a : Nat) (b : BitVec 8) : List Host.Cell → List Host.Cell
  | [] => if b = 0 then [] else [(a, b)]
  | (k, v) :: t =>
    if a < k then (if b = 0 then (k, v) :: t else (a, b) :: (k, v) :: t)
    else if a = k then (if b = 0 then t else (a, b) :: t)
    else (k, v) :: memInsert a b t

/-- The canonical form: addresses strictly rise, and no byte equals what an unlisted address reads as. -/
abbrev Memory.wf (m : List Host.Cell) : Prop := m.Pairwise (fun x y => x.1 < y.1) ∧ ∀ e ∈ m, e.2 ≠ 0

/-- A word, its lowest-addressed byte least significant (R348). -/
def memWord (m : List Host.Cell) (a : Nat) : Nat :=
  (memByte m a).toNat + (memByte m (a + 1)).toNat * 2 ^ 8 + (memByte m (a + 2)).toNat * 2 ^ 16 + (memByte m (a + 3)).toNat * 2 ^ 24

def memSetWord (m : List Host.Cell) (a w : Nat) : List Host.Cell :=
  memInsert (a + 3) (BitVec.ofNat 8 (w / 2 ^ 24)) (memInsert (a + 2) (BitVec.ofNat 8 (w / 2 ^ 16))
    (memInsert (a + 1) (BitVec.ofNat 8 (w / 2 ^ 8)) (memInsert a (BitVec.ofNat 8 w) m)))

/-! ## The address map (R31, R32) -/

/-- What stands at an address. -/
inductive Place where
  | ram
  | rom
  /-- a register block at its base -/
  | regs (b : Block) (base : Nat)
  | unmapped
  deriving DecidableEq, Repr

/-- The blocks in the order of R32. -/
def blockList : List Block := [.sys, .fc, .lc, .sin, .sout, .lge, .dsf, .lks, .net, .llk, .hly, .adc, .tim, .crc, .otp, .mzw, .bst, .cnm, .pwr]

/-- R31, R32: a shared block has no place in channel B's view. -/
def placeOf (a : Nat) : Place :=
  if a < 0x10000 then .rom
  else if a < 0x20000 then .ram
  else if 0x10000000 ≤ a ∧ a < 0x10080000 then .ram
  else if 0x18000000 ≤ a ∧ a < 0x18080000 then .ram
  else if 0x20000000 ≤ a ∧ a < 0x20200000 then .ram
  else if 0x21000000 ≤ a ∧ a < 0x21040000 then .ram
  else if 0x30000000 ≤ a ∧ a < 0x30000400 then .ram
  else if 0x40000000 ≤ a ∧ a < 0x40000000 + 19 * 0x10000 then
    match blockList[(a - 0x40000000) / 0x10000]? with
    | some b => .regs b (a - a % 0x10000)
    | none => .unmapped
  else if 0x50000000 ≤ a ∧ a < 0x50000000 + 19 * 0x10000 then
    match blockList[(a - 0x50000000) / 0x10000]? with
    | some b => if blockPerChan b then .regs b (a - a % 0x10000) else .unmapped
    | none => .unmapped
  else if 0x60000000 ≤ a ∧ a < 0x60010000 then .regs .tim 0x60000000
  else if 0x60010000 ≤ a ∧ a < 0x60020000 then .regs .crc 0x60010000
  else .unmapped

/-- Every register of the spec. -/
def allRegs : List RegDesc := regTableA ++ regTableB ++ regTableC ++ regTableD ++ regTableE

/-- A register at offset `off` of block `b`: its description and its index in an array. -/
def regAt (b : Block) (off : Nat) : Option (RegDesc × Nat) :=
  (allRegs.find? (fun d => d.blk == b && decide (d.off ≤ off) &&
    (if d.stride = 0 then off == d.off else (off - d.off) % d.stride == 0 && decide ((off - d.off) / d.stride < d.count)))).map
    (fun d => (d, if d.stride = 0 then 0 else (off - d.off) / d.stride))

/-- The offset in a block: below 0x8000 the second converter's registers of the ADC block repeat the first's at 0x4000. -/
def offsetIn (b : Block) (a : Nat) : Nat :=
  let off := a % 0x10000
  if b = .adc ∧ off < 0x8000 then off % 0x4000 else off

/-- The register at an address. -/
def regOf (a : Nat) : Option RegDesc :=
  match placeOf a with
  | .regs b _ => (regAt b (offsetIn b a)).map (·.1)
  | _ => none

/-! ## The firewall (R35 to R39, R370) -/

/-- R370: the code of an initiator; SEC is not filtered. -/
def iniCode : Initiator → Nat
  | .scA => 0
  | .scB => 1
  | .iosA => 2
  | .iosB => 3
  | .aeA => 4
  | .aeB => 5
  | .npeX => 6
  | .npeY => 7
  | .lle => 8
  | .app | .appUser => 9
  | .hmc => 10
  | .bist => 11
  | .halyard => 12
  | .host => 13
  | .sec => 14

/-- R39: the channel of an initiator. -/
def iniChan : Initiator → Option Chan
  | .scA | .iosA | .aeA => some .a
  | .scB | .iosB | .aeB => some .b
  | _ => none

/-- R370: a region permits an access to the words from `a` to `z`. -/
def FwRegion.permits (g : FwRegion) (user : Bool) (k : AccKind) (a z : Nat) : Bool :=
  g.en && decide (g.base ≤ a ∧ z / 4 * 4 ≤ g.limit) && (!user || g.user) &&
    (match k with
     | .read => g.r
     | .write => g.w
     | .fetch => g.x)

/-- Region `n` of initiator code `i`. -/
def State.fwRegion (s : State) (i n : Nat) : FwRegion := tabGet {} s.fw (64 * i + n)

/-- R35, R36: an access, or a burst, lies wholly inside one enabled region of the initiator that permits it. -/
def State.fwAllows (s : State) (i : Initiator) (k : AccKind) (a z : Nat) : Bool :=
  i == .sec || (List.range 64).any (fun n => (s.fwRegion (iniCode i) n).permits (i == .appUser) k a z)

/-- R39: a denied transaction: counted, logged, E23, and a bus error to its initiator. -/
def State.deny (s : State) (i : Initiator) (a : Nat) : State :=
  let s := (s.satInc SEC_FW_DENY_COUNT).put SEC_FW_DENY_LAST_INIT (iniCode i)
  let s := match iniChan i with
    | some c => s.raiseOnce (class2Own 23 c a)
    | none => s.raiseOnce (class0 23 a)
  { s with bus := .error }

/-! ## Reading -/

/-- The registers a read of `a` latches for its initiator, with the values they are given (R75, R183, R320, R341, R350, R395, R437). -/
abbrev LatchMap := List (Nat × Nat)

/-- The key of an initiator's latch. -/
def latchKey (i : Initiator) (a : Nat) : Nat := iniCode i * 2 ^ 32 + a

/-- What initiator `i` has latched of a register; before the first latch, its reset value. -/
def State.latched (s : State) (i : Initiator) (rst a : Nat) : Nat := tabGet rst s.latches (latchKey i a)

/-- The live word of a register. -/
def State.word (s : State) (rst a : Nat) : Nat := (regWord s.regs rst a).toNat

/-- Latches taken. -/
def State.take (s : State) (i : Initiator) (m : LatchMap) : State :=
  { s with latches := m.foldl (fun t e => tabSet t (latchKey i e.1) e.2) s.latches }

/-- The AON counter: periods of 32.768 kHz since the AON domain started (R437). -/
def State.aonCount (s : State) : Nat := (s.now - s.aonStart) * 32768 / 1000000000 % 2 ^ 64

/-- The converter an address of an ADC block belongs to. -/
def adcOf (a : Nat) : Nat := (if 0x50000000 ≤ a then 2 else 0) + (if 0x4000 ≤ a % 0x10000 then 1 else 0)

/-- SUM_HI, COUNT and MINMAX of a context (R319, R320). -/
def CtxSt.sumHi (x : CtxSt) : Nat := x.total / 2 ^ 32 + (if x.sat then 2 ^ 31 else 0)
def CtxSt.minMax (x : CtxSt) : Nat := x.hi * 65536 + x.lo

/-- Live words of registers at offsets of a base. -/
def State.liveMap (s : State) (base : Nat) (offs : List Nat) : LatchMap := offs.map (fun o => (base + o, s.word 0 (base + o)))

/-- R341: the timers clocked by timer `t`, directly or down the chain. -/
def State.clockedBy (s : State) (base t : Nat) : List Nat :=
  (List.range 8).foldl (fun l u =>
    if s.getAt TIM_TM_t_CFG_CLK base u = 3 ∧ (s.getAt TIM_TM_t_CFG_MASTER base u = t ∨ l.contains (s.getAt TIM_TM_t_CFG_MASTER base u) = true) then l ++ [u] else l) []

/-- The key of a check-value unit by its base. -/
def crcKey (base : Nat) : Nat := if base = 0x60010000 then 2 else if base = blockBase .crc .b then 1 else 0

/-- Offsets latched by each latching register. -/
def State.latchesOf (s : State) (b : Block) (base off : Nat) : LatchMap :=
  match b with
  | .lc => if off = 0x24 then s.liveMap base [0x28, 0x2C, 0x30, 0x34, 0x38] else if off = 0x404 then s.liveMap base [0x408] else []
  | .dsf =>
    if off = DSF_P0_LO_POS_LO.off then s.liveMap base [DSF_P0_HI_POS_HI.off]
    else if off = DSF_LIMIT_LO_POS_LO.off then s.liveMap base [DSF_LIMIT_HI_POS_HI.off]
    else if off = DSF_PRED_LO_POS_LO.off then s.liveMap base [DSF_PRED_HI_POS_HI.off, DSF_VENV_SPEED.off, DSF_ELAPSED_TIME.off]
    else []
  | .tim =>
    if off < 0x100 ∧ off % 0x20 = 4 then
      (s.clockedBy base (off / 0x20)).map (fun u => (base + 0x20 * u + 8, s.getAt TIM_TM_t_COUNT_COUNT base u))
    else []
  | .crc =>
    let x : CrcSt := tabGet {} s.crcs (crcKey base)
    if off = 0x14 then [(base + 0x18, x.hi), (base + 0x1C, x.last)] else []
  | .adc =>
    if 0x1010 ≤ off ∧ off < 0x2000 ∧ (off - 0x1010) % 0x40 = 0 then
      let k := (if base < 0x50000000 then 0 else 2) + (if base % 0x10000 = 0 then 0 else 1)
      let x := s.ctx k ((off - 0x1010) / 0x40)
      [(base + off + 4, x.sumHi), (base + off + 8, x.count), (base + off + 12, x.minMax)]
    else []
  | .mzw => if off = 4 then s.liveMap base [0x8, 0xC, 0x10, 0x14, 0x18, 0x1C, 0x20] else []
  | .pwr => if off = 0x30 then [(base + 0x34, s.aonCount / 2 ^ 32)] else []
  | _ => []

/-- The registers that answer from a latch. -/
def isLatched (b : Block) (off : Nat) : Bool :=
  match b with
  | .lc => off == 0x28 || off == 0x2C || off == 0x30 || off == 0x34 || off == 0x38 || off == 0x408
  | .dsf => off == DSF_P0_HI_POS_HI.off || off == DSF_LIMIT_HI_POS_HI.off || off == DSF_PRED_HI_POS_HI.off || off == DSF_VENV_SPEED.off || off == DSF_ELAPSED_TIME.off
  | .tim => decide (off < 0x100) && off % 0x20 == 8
  | .crc => off == 0x18
  | .adc => decide (0x1010 ≤ off ∧ off < 0x2000) && (off % 0x40 == 0x14 || off % 0x40 == 0x18 || off % 0x40 == 0x1C)
  | .mzw => decide (8 ≤ off ∧ off ≤ 0x20)
  | .pwr => off == 0x34
  | _ => false

/-- What a register reads as: the latch of its initiator, the live word, or a word formed at the read. -/
def State.readReg (s : State) (i : Initiator) (b : Block) (off a : Nat) (d : RegDesc) : Nat :=
  if isLatched b off then s.latched i d.rst a
  else match b with
    | .adc => if 0x1010 ≤ off ∧ off < 0x2000 ∧ off % 0x40 = 0x10 then (s.ctx (adcOf a) ((off - 0x1010) / 0x40)).total % 2 ^ 32 else s.word d.rst a
    | .crc => if off = 0x1C then s.word d.rst a / 65536 * 65536 + s.latched i 0 a else s.word d.rst a
    | .pwr => if off = 0x30 then s.aonCount % 2 ^ 32 else s.word d.rst a
    | _ => s.word d.rst a

/-- R8: the RC fields of a register go to 0 after the read. -/
def State.clearRc (s : State) (a : Nat) (d : RegDesc) : State :=
  let w := regWord s.regs d.rst a
  let w' := d.fields.foldl (fun (w : Word) f => match f.acc with
    | .rc => putBits w f.hi f.lo 0
    | _ => w) w
  if w = w' then s else { s with regs := tabSet s.regs a w' }

/-- R342: reading a capture clears CAP_FULL. -/
def State.readCap (s : State) (b : Block) (base off : Nat) : State :=
  match b with
  | .tim => if off < 0x100 ∧ off % 0x20 = 0xC then s.putAt TIM_TM_t_STATUS_CAP_FULL 0 base (off / 0x20) else s
  | _ => s

/-- The timer block an address belongs to, or the times SEC shows, brought up to the present. -/
def State.catchUp (s : State) (b : Block) (base : Nat) : State :=
  match b with
  | .tim => s.advance (if base = 0x60000000 then .p else if base = blockBase .tim .b then .b else .a)
  | .otp => s.showTimes
  | .fc => s.showAge
  | .cnm => s.showCnm
  | _ => s

/-- One register read that the map and the firewall have let through: its word, with the latches and clearing of the read. `clear` is off where RC fields are returned without being cleared (R295). An offset without a register reads 0 (R31). -/
def State.readAt (s : State) (i : Initiator) (clear : Bool) (b : Block) (base a : Nat) : State × Nat :=
  let s := s.catchUp b base
  let off := offsetIn b a
  match (regAt b off).map (·.1) with
  | none => (s, 0)
  | some d =>
    let w := s.readReg i b off a d
    let s := s.take i (s.latchesOf b (a - off) off)
    let s := s.readCap b base off
    (if clear then s.clearRc a d else s, w)

/-- Any word read (R31, R35): a register, RAM, or the ROM. -/
def State.readWord (s : State) (i : Initiator) (clear : Bool) (a : Nat) : State × Nat :=
  match placeOf a with
  | .ram => (s, memWord s.mem a)
  | .rom => (s, (List.range 4).foldl (fun (w : Nat) k => w + (Config.romByte (a + k)).toNat * 2 ^ (8 * k)) 0)
  | .regs b base => s.readAt i clear b base a
  | .unmapped => (s, 0)

/-- A read by an initiator: denied, unmapped, or answered with its word. -/
def State.busRead (s : State) (i : Initiator) (a : Nat) : State :=
  if s.fwAllows i .read a (a + 3) = false then s.deny i a
  else if placeOf a = .unmapped ∨ a % 4 ≠ 0 then { s with bus := .error }
  else
    let r := s.readWord i true a
    { r.1 with bus := .data r.2 }

/-! ## Writing -/

/-- A Refit runs: LGE_REFIT.PHASE is CHECK, STOPPING, APPLY or COMMIT. -/
def State.refitRuns (s : State) : Bool := decide (1 ≤ s.get LGE_REFIT_PHASE ∧ s.get LGE_REFIT_PHASE ≤ 4)

/-- R8: RWS fields are writable before set-up ends or during a Refit; the host has no write access during a Refit (R281). -/
def State.rwsOpen (s : State) (i : Initiator) : Bool :=
  !s.flag HLY_SETUP_DONE_DONE || (s.refitRuns && i != .host)

/-- The word of a register after a write of `v` under its access codes. A W1S bit starts an action of its own row and holds nothing here. -/
def written (rws : Bool) (old : Word) (v : Nat) (fs : List Fld) : Word :=
  fs.foldl (fun (w : Word) f =>
    let n := (v >>> f.lo) % 2 ^ (f.hi + 1 - f.lo)
    match f.acc with
    | .rw => putBits w f.hi f.lo n
    | .rws => if rws then putBits w f.hi f.lo n else w
    | .w1c => putBits w f.hi f.lo (getBits w f.hi f.lo &&& (2 ^ (f.hi + 1 - f.lo) - 1 - n))
    | _ => w) old

/-- Registers whose write is a row of its own, or that a running scan protects: a plain write leaves them to it. -/
def ownRow (b : Block) (base off : Nat) : Bool :=
  match b with
  | .tim => (decide (off < 0x100) && (off % 0x20 == 4 || (off % 0x20 == 0 && base == 0x60000000))) || (decide (0x200 ≤ off ∧ off < 0x400) && off % 0x10 == 0)
  | _ => false

/-- TIM_PIN_k is used in TIM_P only. SEC and HMC write the OTP registers, HMC alone OTP_SENSE, SEC alone the SEC registers. SC-A writes the commands of the sealed window (R395). Who may write anything else is the firewall's to say. -/
def mayWrite (i : Initiator) (b : Block) (base off : Nat) : Bool :=
  match b with
  | .tim => !(decide (0x400 ≤ off ∧ off < 0x410) && base != 0x60000000)
  | .otp => if off = 0x14 then i == .hmc else i == .sec || (i == .hmc && decide (off < 0x100))
  | .mzw => i == .scA || decide (0x100 ≤ off)
  | _ => true

/-- R349: CRC_CFG, CRC_START and CRC_LENGTH are not written while a scan runs: COLL. -/
def State.scanHolds (s : State) (b : Block) (base off : Nat) : Bool :=
  match b with
  | .crc => decide (off < 0xC) && s.getAt CRC_STATUS_BUSY base == 1
  | _ => false

/-- A register write that the map and the firewall have let through. -/
def State.writeAt (s : State) (i : Initiator) (b : Block) (base a v : Nat) : State :=
  let s := s.catchUp b base
  let off := offsetIn b a
  match (regAt b off).map (·.1) with
  | none => s
  | some d =>
    if ownRow b base off || !mayWrite i b base off then s
    else if s.scanHolds b base off then s.putAt CRC_STATUS_COLL 1 base
    else if b = .mzw ∧ off = 0x40 then s.mzWriteCmd (v % 256)
    else if b = .mzw ∧ off = 0x44 then s.mzWriteArg v
    else
      let w := regWord s.regs d.rst a
      let w' := written (s.rwsOpen i || (base == 0x60000000)) w v d.fields
      if w = w' then s else { s with regs := tabSet s.regs a w' }

/-- A write by an initiator (R7, R31, R35): denied, a bus error, or done. -/
def State.busWrite (s : State) (i : Initiator) (width : Width) (a v : Nat) : State :=
  if s.fwAllows i .write a a = false then s.deny i a
  else match placeOf a with
    | .regs b base =>
      if width = .word ∧ a % 4 = 0 then { (s.writeAt i b base a v) with bus := .done } else { s with bus := .error }
    | .ram =>
      { s with mem := (match width with
          | .word => memSetWord s.mem (a / 4 * 4) v
          | .half => memInsert (a / 2 * 2 + 1) (BitVec.ofNat 8 (v / 2 ^ 8)) (memInsert (a / 2 * 2) (BitVec.ofNat 8 v) s.mem)
          | .byte => memInsert a (BitVec.ofNat 8 v) s.mem), bus := .done }
    | _ => { s with bus := .error }

/-! ## The host's window (R34, R277 to R281) -/

/-- R34, R278: the register behind an offset of BAR0; none in the reserved parts. -/
def bar0 (off : Nat) : Option Nat :=
  if off < 0x1000 then some (blockBase .sys .a + off)
  else if off < 0x2000 then some (blockBase .hly .a + (off - 0x1000))
  else if off < 0x2020 then
    let n := (off - 0x2000) / 0x10
    if off % 0x10 = 0 then some (fldAddr NET_n_IP_ADDR (blockBase .net .a) n)
    else if off % 0x10 = 4 then some (fldAddr NET_n_MASK_ADDR (blockBase .net .a) n)
    else if off % 0x10 = 8 then some (fldAddr NET_n_GW_ADDR (blockBase .net .a) n)
    else none
  else if 0x2100 ≤ off ∧ off < 0x2180 then some (blockBase .hly .a + (off - 0x2000))
  else none

/-- R281: a host write after the window has closed is discarded, counted, written to the event ring, and a Class 0 event (R39). -/
def State.hostDenied (s : State) (off : Nat) : State :=
  ((s.satInc HLY_WINDOW_STATUS_DENIED).pushEvent 4 [2, off, 0, 0]).deny .host off

/-- R279: a network address field is the host's to set while the image holds it as 0.0.0.0 and NET_SET is 0. -/
def State.netOpen (s : State) (a : Nat) : Bool := !s.flag HLY_STATUS_NET_SET && (s.word 0 a == 0 || s.hly.netHost.contains a)

/-- A host write to an offset of BAR0 while the window is open (R278 to R280). The MSI-X table follows the PCIe layout. -/
def State.hostWrite (s : State) (off v : Nat) : State :=
  if 0x1800 ≤ off ∧ off < 0x1880 then { s with hly := { s.hly with msix := tabSet s.hly.msix ((off - 0x1800) / 4) v }, bus := .done }
  else match bar0 off with
    | none => { s with bus := .done }
    | some a =>
      if 0x2000 ≤ off ∧ off < 0x2020 then
        if s.netOpen a then { s with regs := tabSet s.regs a (BitVec.ofNat 32 v), bus := .done, hly := { s.hly with netHost := a :: s.hly.netHost.filter (· != a) } }
        else { s with bus := .done }
      else s.busWrite .host .word a v

/-- REGISTER_WRITE (R7, R8, R31, R33, R35): at time `t` initiator `i` writes `v` at an address (the host: at an offset of BAR0), under the firewall and the access codes. A byte or half-word access to a register writes nothing and returns a bus error. -/
def execRegisterWrite (i : Initiator) (width : Width) (a : Word) (v : Word) (t : Nat) (s : State) : Host.Outcome State Fault Refusal :=
  let s := { s with now := max s.now t }
  .next (match i with
    | .host =>
      if width ≠ .word then { s with bus := .error }
      else if s.flag HLY_SETUP_DONE_DONE && a.toNat != 0x1008 then s.hostDenied a.toNat
      else s.hostWrite a.toNat v.toNat
    | _ => s.busWrite i width a.toNat v.toNat)

/-- READ_CLEAR (R8): a read that returns RC fields and then clears them. -/
def execReadClear (i : Initiator) (a : Word) (s : State) : Host.Outcome State Fault Refusal := .next (s.busRead i a.toNat)

/-- LC_POS_LO_READ (R75): initiator `i` reads LC_POS_LO in channel `c`'s view. -/
def execLcPosLoRead (i : Initiator) (c : Chan) (s : State) : Host.Outcome State Fault Refusal := .next (s.busRead i (blockBase .lc c + 0x24))

/-- CAM_ORIGIN_LO_READ (R75). -/
def execCamOriginLoRead (i : Initiator) (c : Chan) (s : State) : Host.Outcome State Fault Refusal := .next (s.busRead i (blockBase .lc c + 0x404))

/-- Which low register a DSF_LATCH_READ reads. -/
def dsfLow : Fin 3 → Nat
  | 0 => DSF_P0_LO_POS_LO.off
  | 1 => DSF_LIMIT_LO_POS_LO.off
  | 2 => DSF_PRED_LO_POS_LO.off

/-- DSF_LATCH_READ (R183): DSF_P0_LO, DSF_LIMIT_LO or DSF_PRED_LO. -/
def execDsfLatchRead (i : Initiator) (c : Chan) (k : Fin 3) (s : State) : Host.Outcome State Fault Refusal := .next (s.busRead i (blockBase .dsf c + dsfLow k))

/-- ADC_SUM_LO_READ (R320): SUM_LO of context `n` of converter `k`. -/
def execAdcSumLoRead (i : Initiator) (k : Fin 4) (n : Fin 64) (s : State) : Host.Outcome State Fault Refusal := .next (s.busRead i (adcBase k.val + 0x1010 + 0x40 * n.val))

/-- TIM_COUNT_READ (R341): at time `t` initiator `i` reads the count of timer `k` of block `u`. -/
def execTimCountRead (i : Initiator) (u : Unit3) (k : Fin 8) (t : Nat) (s : State) : Host.Outcome State Fault Refusal :=
  .next (({ s with now := max s.now t }).busRead i (timBase u + 0x20 * k.val + 4))

/-- TIM_CAP_READ (R342): the capture of timer `k` of block `u`. -/
def execTimCapRead (i : Initiator) (u : Unit3) (k : Fin 8) (s : State) : Host.Outcome State Fault Refusal := .next (s.busRead i (timBase u + 0x20 * k.val + 0xC))

/-- The base of a check-value unit (R346). -/
def crcBase : Unit3 → Nat
  | .a => blockBase .crc .a
  | .b => blockBase .crc .b
  | .p => 0x60010000

/-- CRC_RESULT_LO_READ (R350). -/
def execCrcResultLoRead (i : Initiator) (u : Unit3) (s : State) : Host.Outcome State Fault Refusal := .next (s.busRead i (crcBase u + 0x14))

/-- MZW_GT_LO_READ (R395). -/
def execMzwGtLoRead (i : Initiator) (s : State) : Host.Outcome State Fault Refusal := .next (s.busRead i (blockBase .mzw .a + 4))

/-- PWR_AON_LO_READ (R437): at time `t`. -/
def execPwrAonLoRead (i : Initiator) (t : Nat) (s : State) : Host.Outcome State Fault Refusal :=
  .next (({ s with now := max s.now t }).busRead i (blockBase .pwr .a + 0x30))

end Sys2Proof.Machine
end

