-- ==== Sys2Proof/Machine/Stay.lean ====
section
/-! DEFINITION. The Stay exchange: judging a received frame, charging a Stay fault, training and single mode (R214 to R223 of 08_redundant_execution.md). -/

namespace Sys2Proof.Machine

open Sys2Proof

/-- Channel `c`'s end of Stay changed. -/
def State.updStay (s : State) (c : Chan) (f : StaySt → StaySt) : State := { s with stay := twoUpd s.stay c f }

/-- STY_STATUS.MODE: 0 training, 1 dual, 2 survivor, 3 faulted. -/
def State.stayMode (s : State) (c : Chan) : Nat := s.get STY_STATUS_MODE c

/-- Channel `c` takes part in evaluation: dual mode, or the survivor. -/
def State.evaluates (s : State) (c : Chan) : Bool :=
  (s.stayMode c == 1 || s.stayMode c == 2) && !(twoAt s.fc c).stopped

/-- KIND codes of STY_ERR. -/
def kindMissing : Nat := 1
def kindCorrupt : Nat := 2
def kindSequence : Nat := 3
def kindStamp : Nat := 4
def kindSkew : Nat := 5
def kindTraining : Nat := 6

/-- R221: E06 or E07 latches in both collectors, no command of the cycle is staged, and the charge waits for the attribution window. -/
def State.latchUnattributed (s : State) (line detail : Nat) : State :=
  let s := s.latch ⟨line, 2, .shared, .both, .none, detail⟩
  let s := { s with graph := twoMap s.graph (fun g => { g with noStage := true }) }
  ((s.updStay .a (fun x => { x with attrOpen := true })).updStay .b (fun x => { x with attrOpen := true })).showPins

/-- R219: channel `c` finds a Stay fault. A survivor, which applies no deadline and raises no E06 (R222), finds none. -/
def State.stayFault (s : State) (c : Chan) (typ kind : Nat) : State :=
  if s.stayMode c = 1 then
    let s := if s.get STY_ERR_KIND c = 0 then (s.put STY_ERR_TYPE typ c).put STY_ERR_KIND kind c else s
    s.latchUnattributed 6 (typ * 2 ^ 16 + kind * 2 ^ 8)
  else s

/-- The fields of a lane in STY_SEQ and STY_STATUS. -/
def rxSeqFld : Lane → Fld
  | .cycle => STY_SEQ_CYC_RX
  | .ae => STY_SEQ_AE_RX

def txSeqFld : Lane → Fld
  | .cycle => STY_SEQ_CYC_TX
  | .ae => STY_SEQ_AE_TX

def rxOkFld : Lane → Fld
  | .cycle => STY_STATUS_CYC_RX_OK
  | .ae => STY_STATUS_AE_RX_OK

def txOkFld : Lane → Fld
  | .cycle => STY_STATUS_CYC_TX_OK
  | .ae => STY_STATUS_AE_TX_OK

/-- R216: the types valid on a lane. -/
def typeOnLane (l : Lane) (t : Nat) : Bool :=
  match l with
  | .ae => t == 0x01 || t == 0x02
  | .cycle => t == 0x10 || t == 0x11 || t == 0x12 || t == 0x13 || t == 0x14 || t == 0x15

/-- A frame on this lane awaits its repeat (R217). -/
def repeatOf (x : StaySt) : Lane → Bool
  | .cycle => x.repeatCyc
  | .ae => x.repeatAe

def withRepeat (x : StaySt) (l : Lane) (b : Bool) : StaySt :=
  match l with
  | .cycle => { x with repeatCyc := b }
  | .ae => { x with repeatAe := b }

/-- The receiver's own stamp for a lane (R215). -/
def State.ownStamp (s : State) (c : Chan) : Lane → Nat
  | .cycle => s.get SYS_GCOUNT_COUNT
  | .ae => s.lcStamp c

/-- R217, R219: channel `c` receives a frame. A bad CRC, length or type asks for one repeat; a second failure is corrupt. A late frame that has a deadline is missing. SEQ must be one above the last accepted frame and, outside training, STAMP must be the receiver's own. An accepted frame acts through `body`. -/
def State.receive (s : State) (c : Chan) (l : Lane) (h : StayHead) (hasDeadline : Bool) (body : State → State) : State :=
  let x := twoAt s.stay c
  if s.stayMode c = 2 ∧ h.typ ≠ 0x15 then s
  else if s.stayMode c = 3 then s
  else if s.stayMode c = 0 ∧ h.typ ≠ 0x01 ∧ h.typ ≠ 0x14 then s
  else if !(h.crcOk && h.lengthOk && typeOnLane l h.typ) then
    if repeatOf x l then ((s.updStay c (fun x => withRepeat x l false)).putFlag (rxOkFld l) false c).stayFault c h.typ kindCorrupt
    else (s.updStay c (fun x => withRepeat x l true)).satInc STY_REPEATS_RX c
  else if hasDeadline ∧ h.inTime = false then
    (s.updStay c (fun x => withRepeat x l false)).stayFault c h.typ (if repeatOf x l then kindCorrupt else kindMissing)
  else if h.seq ≠ (s.get (rxSeqFld l) c + 1) % 256 then s.stayFault c h.typ kindSequence
  else if s.stayMode c ≠ 0 ∧ h.stamp ≠ s.ownStamp c l then s.stayFault c h.typ kindStamp
  else body (((s.updStay c (fun x => withRepeat x l false)).put (rxSeqFld l) h.seq c).putFlag (rxOkFld l) true c)

/-- Channel `c` sends a frame on a lane: its SEQ counts up (R215). -/
def State.sent (s : State) (c : Chan) (l : Lane) : State := s.put (txSeqFld l) ((s.get (txSeqFld l) c + 1) % 256) c

/-- R88, rule 8: every used source is due from the moment dual mode begins. -/
def State.sourcesDue (s : State) : State :=
  { s with srcs := (List.range 8).foldl (fun t n =>
      if s.get TPS_n_CFG_INTERVAL .a n = 0 then t else tabUpd {} t n (fun x => if x.pulsed then x else { x with due := true })) s.srcs }

/-- R223: dual mode begins when each side has received 8 consecutive valid ALIGN frames and the other's start verdicts. -/
def State.tryDual (s : State) : State :=
  let ok (c : Chan) : Bool := decide (8 ≤ (twoAt s.stay c).aligns) && (twoAt s.stay c).verdicts
  if s.stayMode .a = 0 ∧ s.stayMode .b = 0 ∧ ok .a = true ∧ ok .b = true then
    let on (s : State) (c : Chan) : State :=
      ((((s.put STY_STATUS_MODE 1 c).put STY_STATUS_AE_RX_OK 1 c).put STY_STATUS_AE_TX_OK 1 c).put STY_STATUS_CYC_RX_OK 1 c).put STY_STATUS_CYC_TX_OK 1 c
    (on (on s .a) .b).sourcesDue
  else s

/-- The charge of R221 from the two Class 2 lines. -/
def attribution (a b : Bool) : Charge :=
  match a, b with
  | true, false => .a
  | false, true => .b
  | _, _ => .both

/-- STY_ERR.ATTR codes. -/
def attrCode : Charge → Nat
  | .a => 1
  | .b => 2
  | .both => 3
  | .shared => 0

/-- The charge stored with the latches of E06 and E07 and in their fault records (R221). -/
def State.chargeStay (s : State) (g : Charge) : State :=
  let fix (l : Latch) : Latch := if (l.line == 6 || l.line == 7) && l.chg == .shared then { l with chg := g } else l
  let s := (s.updFc .a (fun x => { x with latches := x.latches.map fix, fresh := x.fresh.map fix })).updFc .b (fun x => { x with latches := x.latches.map fix, fresh := x.fresh.map fix })
  let one (s : State) (c : Chan) : State := (List.range 16).foldl (fun s n =>
    if s.flag FC_REC_n_W0_VALID c n ∧ (s.get FC_REC_n_W0_LINE c n = 6 ∨ s.get FC_REC_n_W0_LINE c n = 7) ∧ s.get FC_REC_n_W0_CHANNEL c n = 2
    then s.put FC_REC_n_W0_CHANNEL (chargeCode g) c n else s) s
  let attr (s : State) (c : Chan) : State := if s.get STY_ERR_ATTR c = 0 then s.put STY_ERR_ATTR (attrCode g) c else s
  attr (attr (one (one s .a) .b) .a) .b

/-- STAY_ATTRIBUTION_WINDOW_END (R221): 20 µs after an E06 or E07 the charge is decided from the Class 2 lines, and the Class 2 reaction runs; the other channel may survive. -/
def execStayAttributionWindowEnd (s : State) : Host.Outcome State Fault Refusal :=
  if s.stay.a.attrOpen || s.stay.b.attrOpen then
    let g := attribution s.fc.a.cl2Line s.fc.b.cl2Line
    let s := s.chargeStay g
    let s := (s.updStay .a (fun x => { x with attrOpen := false })).updStay .b (fun x => { x with attrOpen := false })
    .next (match g with
      | .a => ((s.class2 .a false false).answerClass2 .b).settle
      | .b => ((s.class2 .b false false).answerClass2 .a).settle
      | _ => ((s.class2 .a true false).class2 .b true false).settle)
  else .next s

/-- STAY_ALIGN_FRAME (R218, R223): `offset` is the receiver's own tick minus the sender's, in ns. AE-B moves its next tick by the whole offset; eight in a row train the lane. -/
def execStayAlignFrame (c : Chan) (h : StayHead) (offset : Int) (s : State) : Host.Outcome State Fault Refusal :=
  .next (s.receive c .ae h false (fun s =>
    let s := s.put STY_SKEW_NOW_NS (saturated 16 offset) c
    let s := s.put STY_SKEW_MAX_NS (max (s.get STY_SKEW_MAX_NS c) (min offset.natAbs 65535)) c
    let s := s.updStay c (fun x => { x with
      aligns := x.aligns + 1
      skewTicks := if 1000 < offset.natAbs then x.skewTicks + 1 else 0
      tickMove := if c = .b then -offset else x.tickMove })
    s.tryDual))

/-- STAY_SKEW_FAULT (R218, R219): the skew was above 1 µs on 3 consecutive ticks. -/
def execStaySkewFault (c : Chan) (s : State) : Host.Outcome State Fault Refusal :=
  .next (if 3 ≤ (twoAt s.stay c).skewTicks then s.stayFault c 0 kindSkew else s)

/-- STAY_HOLD_FRAME (R177, R216): in single mode the survivor `c` receives the hold state of the faulted channel; its fault records are charged with its own. -/
def execStayHoldFrame (c : Chan) (h : StayHead) (s : State) : Host.Outcome State Fault Refusal :=
  .next (if s.stayMode c = 2 then
      s.receive c .cycle h false (fun s =>
        let o := otherChan c
        let s := s.putFlag DSF_STATUS_HOLD_OTHER (twoAt s.die o).holding c
        let s := (s.put FC_OTHER_LO_LINES (s.get FC_STATUS_LO_LINES o) c).put FC_OTHER_HI_LINES (s.get FC_STATUS_HI_LINES o) c
        s.updFc c (fun x => { x with received := x.received ++ (twoAt s.fc o).fresh }))
    else s)

/-- STAY_REPEAT_REQUEST (R217): the other end asks channel `c` to send frame `seq` of a lane once more, with the same SEQ. A second request for the same frame finds the link failed. -/
def execStayRepeatRequest (c : Chan) (l : Lane) (seq : Nat) (s : State) : Host.Outcome State Fault Refusal :=
  .next (if seq = s.get (txSeqFld l) c then s.satInc STY_REPEATS_TX c else s.putFlag (txOkFld l) false c)

/-- A pulse or test whose announcement is not confirmed does not start (R219). -/
def State.dropSlot (s : State) (t : StayToken) : State :=
  match t with
  | .pulse =>
    if s.pulse.phase = .announce then
      let n := s.pulse.src
      let s := (s.updDie .a (fun d => { d with blank := 0 })).updDie .b (fun d => { d with blank := 0 })
      { s.putBoth TPS_n_STAT_ACTIVE 0 n with pulse := {}, srcs := tabUpd {} s.srcs n (fun x => { x with due := true }) }
    else s
  | .test => if s.outs.slot.phase = .announce then s.abortTest else s

/-- STAY_DEADLINE_MISS (R219): a frame or confirmation missed its deadline at channel `c`. COORD must be missing on 2 consecutive updates. -/
def execStayDeadlineMiss (c : Chan) (m : StayMissing) (s : State) : Host.Outcome State Fault Refusal :=
  .next (if s.stayMode c ≠ 1 then s
    else match m with
      | .input => s.stayFault c 0x10 kindMissing
      | .snapshot => s.stayFault c 0x11 kindMissing
      | .result => s.stayFault c 0x12 kindMissing
      | .token t => (s.dropSlot t).stayFault c 0x13 kindMissing
      | .coord =>
        let n := (twoAt s.stay c).coordMissing + 1
        let s := s.updStay c (fun x => { x with coordMissing := n, coordGot := false })
        if 2 ≤ n then s.stayFault c 0x02 kindMissing else s)

/-- STAY_TRAINING_TIMEOUT (R223): training has not completed within 10 ms; E06 is charged to both channels and the device goes from INIT to LOCKOUT. -/
def execStayTrainingTimeout (s : State) : Host.Outcome State Fault Refusal :=
  .next (if s.stayMode .a = 0 ∨ s.stayMode .b = 0 then
      let mark (s : State) (c : Chan) : State := if s.get STY_ERR_KIND c = 0 then (((s.put STY_ERR_TYPE 0 c).put STY_ERR_KIND kindTraining c).put STY_ERR_ATTR 3 c) else s
      let s := (mark (mark s .a) .b).latch ⟨6, 2, .both, .both, .none, kindTraining * 2 ^ 8⟩
      ((s.class2 .a true false).class2 .b true false).settle
    else s)

/-- STAY_TOKEN_FRAME (R88, R115, R216): channel `c` receives the announcement or the confirmation of the slot that holds the token; with its own, both channels have confirmed. -/
def execStayTokenFrame (c : Chan) (h : StayHead) (t : StayToken) (s : State) : Host.Outcome State Fault Refusal :=
  .next (s.receive c .cycle h true (fun s =>
    match t with
    | .pulse => { s with pulse := { s.pulse with confirmed := twoSet s.pulse.confirmed c true } }
    | .test => { s with outs := { s.outs with slot := { s.outs.slot with confirmed := twoSet s.outs.slot.confirmed c true } } }))

end Sys2Proof.Machine
end

