-- ==== Sys2Proof/Machine/Goale.lean ====
section
/-! DEFINITION. The two networks and the Goale sessions (09_goale_networking.md). -/

namespace Sys2Proof.Machine

open Sys2Proof

/-! ## Networks and their time -/

def State.netSt (s : State) (n : Net) : NetSt := twoAt s.nets (netChan n)

def State.updNet (s : State) (n : Net) (f : NetSt → NetSt) : State := { s with nets := twoUpd s.nets (netChan n) f }

def State.ptpSt (s : State) (n : Net) : PtpSt := twoAt s.ptp (netChan n)

def State.updPtp (s : State) (n : Net) (f : PtpSt → PtpSt) : State := { s with ptp := twoUpd s.ptp (netChan n) f }

/-- The present time of a network, ns. -/
def State.netTime (s : State) (n : Net) : Int := (s.now : Int) + (s.ptpSt n).offset

def State.syncedNet (s : State) (n : Net) : Bool := (s.ptpSt n).synced

/-- A field of network `n`. -/
def State.getN (s : State) (f : Fld) (n : Net) : Nat := s.get f .a (netNum n)

def State.putN (s : State) (f : Fld) (v : Nat) (n : Net) : State := s.put f v .a (netNum n)

/-- R227: every address field of the network is non-zero, and the network is in use. -/
def State.netReady (s : State) (n : Net) : Bool :=
  s.getN NET_n_CFG_EN n == 1 && s.getN NET_n_IP_ADDR n != 0 && s.getN NET_n_MASK_ADDR n != 0 && s.getN NET_n_GW_ADDR n != 0

/-- NET_n_STATUS.PTP_STATE from the clock. -/
def State.showPtp (s : State) (n : Net) : State :=
  let p := s.ptpSt n
  s.putN NET_n_STATUS_PTP_STATE (if p.synced then (if p.master then 2 else 1) else 0) n

/-- PTP_MESSAGE (R228, R229): SYNCED after 8 consecutive Syncs within ±1 µs, or as master where the mode allows it; left beyond ±5 µs. -/
def execPtpMessage (n : Net) (o : PtpObs) (t : Nat) (s : State) : Host.Outcome State Fault Refusal :=
  let s := { s with now := max s.now t }
  .next (if s.netReady n then
      let master := o.master && s.getN NET_n_CFG_PTP_MODE n != 0
      let s := s.putN NET_n_PTP_OFFSET_OFFSET (if master then 0 else saturated 32 o.diff) n
      (s.updPtp n (fun p =>
        let good := if o.diff.natAbs ≤ 1000 then p.good + 1 else 0
        if master then { p with synced := true, master := true, offset := o.offset }
        else if o.sync then { p with
          master := false
          good := good
          lastSync := s.now
          offset := o.offset
          synced := (p.synced && !p.master && decide (o.diff.natAbs ≤ 5000)) || decide (8 ≤ good) }
        else { p with master := false, offset := o.offset, synced := p.synced && !p.master && decide (o.diff.natAbs ≤ 5000) })).showPtp n
    else s)

/-- PTP_SYNC_TIMEOUT (R229): no Sync for 3 s at time `t`. -/
def execPtpSyncTimeout (n : Net) (t : Nat) (s : State) : Host.Outcome State Fault Refusal :=
  let s := { s with now := max s.now t }
  .next (if (s.ptpSt n).master = false ∧ (s.ptpSt n).lastSync + 3000000000 ≤ s.now then (s.updPtp n (fun p => { p with synced := false, good := 0 })).showPtp n else s)

/-- PTP_PPS (R229): at a whole second of a SYNCED network's time the pin goes high for 100 µs. -/
def execPtpPps (n : Net) (t : Nat) (s : State) : Host.Outcome State Fault Refusal :=
  let s := { s with now := max s.now t }
  .next (if s.syncedNet n then s.updPtp n (fun p => { p with ppsAt := some s.now }) else s)

/-- PHY_POLL (R224): the link of each external port, and whether it runs at 1,000 Mbit/s. -/
def execPhyPoll (n : Net) (p1 p2 : Option Bool) (s : State) : Host.Outcome State Fault Refusal :=
  let up (o : Option Bool) : Nat := o.isSome.toNat
  let fast (o : Option Bool) : Nat := match o with
    | some true => 1
    | _ => 0
  .next (if s.getN NET_n_CFG_EN n = 1 then
      (((s.putN NET_n_STATUS_P1_UP (up p1) n).putN NET_n_STATUS_P1_1000 (fast p1) n).putN NET_n_STATUS_P2_UP (up p2) n).putN NET_n_STATUS_P2_1000 (fast p2) n
    else s)

/-- R226: policing of frames for the device other than Goale frames: at most 4,000 in each second; one beyond is discarded and counted. -/
def State.police (s : State) (n : Net) (act : State → State) : State :=
  let sec := s.now / 1000000000
  let x := s.netSt n
  let c := if x.polSec = sec then x.polCount else 0
  if c < 4000 then act (s.updNet n (fun x => { x with polSec := sec, polCount := c + 1 })) else s.satInc NET_n_POLICE_POLICED .a (netNum n)

/-- ARP_REQUEST (R226, R227). -/
def execArpRequest (n : Net) (t : Nat) (s : State) : Host.Outcome State Fault Refusal :=
  let s := { s with now := max s.now t }
  .next (if s.netReady n then s.police n (fun s => s.updNet n (fun x => { x with aux := some .arpReply })) else s)

/-- ICMP_ECHO_REQUEST (R226): answered when ICMP = 1, else discarded and counted. -/
def execIcmpEchoRequest (n : Net) (t : Nat) (s : State) : Host.Outcome State Fault Refusal :=
  let s := { s with now := max s.now t }
  .next (if s.netReady n then
      if s.getN NET_n_CFG_ICMP n = 1 then s.police n (fun s => s.updNet n (fun x => { x with aux := some .echoReply }))
      else s.satInc NET_n_POLICE_POLICED .a (netNum n)
    else s)

/-- SWITCH_FRAME_FORWARD (R224, R226): store-and-forward between P1 and P2 with address learning (1,024 entries, 300 s), frames up to 1,522 bytes, broadcasts at most 1,000 in each second. A frame for the device of no kind of R226 is discarded and counted. -/
def execSwitchFrameForward (n : Net) (f : SwitchFrame) (t : Nat) (s : State) : Host.Outcome State Fault Refusal :=
  let s := { s with now := max s.now t }
  .next (if s.getN NET_n_CFG_EN n = 0 ∨ s.getN NET_n_CFG_P1_EN n = 0 ∨ s.getN NET_n_CFG_P2_EN n = 0 ∨ 1522 < f.bytes then s
    else if f.forDevice then s.satInc NET_n_POLICE_POLICED .a (netNum n)
    else
      let x := s.netSt n
      let live := x.macs.filter (fun e => e.1 != f.src && decide (s.now < e.2.2 + 300000000000))
      let known := live.find? (fun e => e.1 == f.dst)
      let s := s.updNet n (fun x => { x with macs := if live.length < 1024 then live ++ [(f.src, f.fromP2, s.now)] else live })
      let sec := s.now / 1000000000
      let c := if x.bcSec = sec then x.bcCount else 0
      if f.broadcast then
        if c < 1000 then s.updNet n (fun x => { x with bcSec := sec, bcCount := c + 1, fwd := some (!f.fromP2, f.bytes) }) else s
      else match known with
        | some (_, p2, _) => if p2 = f.fromP2 then s else s.updNet n (fun x => { x with fwd := some (!f.fromP2, f.bytes) })
        | none => s.updNet n (fun x => { x with fwd := some (!f.fromP2, f.bytes) }))

/-- MASTER_ANGLE_FRAME (R251, R63): used when its CRC, SEQ, sync and age hold; of two networks the later time counts. Both angle engines get it with its local time. -/
def execMasterAngleFrame (n : Net) (f : MasterFrame) (t : Nat) (s : State) : Host.Outcome State Fault Refusal :=
  let s := { s with now := max s.now t }
  .next (if s.flag LC_MASTER_CFG_EN .a && s.netReady n && s.getN NET_n_MASTER_SRC_ADDR n != 0 then
      s.police n (fun s =>
        let ahead : Bool := match (s.netSt n).masterSeq with
          | none => true
          | some q => let d := (f.seq + 2 ^ 32 - q) % 2 ^ 32; decide (1 ≤ d ∧ d < 2 ^ 31)
        let age := s.netTime n - f.time
        let here := (f.time : Int) - (s.ptpSt n).offset
        let later : Bool := match s.ae.a.master with
          | none => true
          | some (m, _, _) => decide ((m : Int) ≤ here)
        if f.crcOk && f.srcAddr == s.getN NET_n_MASTER_SRC_ADDR n && ahead && s.syncedNet n && decide (age ≤ 1000000 * s.get NET_MASTER_STALE) then
          let s := s.updNet n (fun x => { x with masterSeq := some f.seq })
          if later then { s with ae := twoMap s.ae (fun a => { a with master := some (here.toNat, f.angle, f.vel) }) } else s
        else s)
    else s)

/-! ## Sessions -/

def State.se (s : State) (n : Nat) : SesSt := tabGet {} s.ses n

def State.updSes (s : State) (n : Nat) (f : SesSt → SesSt) : State := { s with ses := tabUpd {} s.ses n f }

/-- Session states of R246. -/
def sesUNUSED : Nat := 0
def sesOPENING : Nat := 1
def sesRUN : Nat := 2
def sesFAILED : Nat := 3

def State.sesState (s : State) (n : Nat) : Nat := s.get GOA_SES_n_STATUS_STATE .a n

/-- The bit of a session in GOA_RUN, GOA_FAIL or GOA_SINGLE. -/
def State.putSesBit (s : State) (f : Fld) (n : Nat) (b : Bool) : State :=
  s.put f (setBit (s.get f .a (n / 32)) (n % 32) b) .a (n / 32)

/-- WD of a session in ns. -/
def State.sesWd (s : State) (n : Nat) : Nat := 1000000 * s.get GOA_SES_n_TIME_WD .a n

/-- The path bit of a network in GOA_SES_n_STATUS. -/
def pathFld : Net → Fld
  | .x => GOA_SES_n_STATUS_PATH_X_UP
  | .y => GOA_SES_n_STATUS_PATH_Y_UP

def State.pathUp (s : State) (n : Nat) (p : Net) : Bool := s.flag (pathFld p) .a n

def otherNet : Net → Net
  | .x => .y
  | .y => .x

/-- GOA_SINGLE: in RUN on one path. -/
def State.showSingle (s : State) (n : Nat) : State :=
  s.putSesBit GOA_SINGLE_n_RUN n (s.sesState n == sesRUN && (s.pathUp n .x != s.pathUp n .y))

/-- A session's state code, with GOA_RUN and GOA_FAIL. -/
def State.setSes (s : State) (n st : Nat) : State :=
  (((s.put GOA_SES_n_STATUS_STATE st .a n).putSesBit GOA_RUN_n_RUN n (st == sesRUN)).putSesBit GOA_FAIL_n_RUN n (st == sesFAILED)).showSingle n

/-- The status word of a session, as the detail of its fault records. -/
def State.sesDetail (s : State) (n : Nat) : Nat := n * 2 ^ 16 + s.sesState n

/-- R246: the session goes to FAILED: its receive signals read 0. -/
def State.failSes (s : State) (n line : Nat) : State :=
  let s := (s.setSes n sesFAILED).updSes n (fun x => { x with failedAt := s.now, bits := [], vals := [], wins := [] })
  s.raise (class1Both line (.session n) (s.sesDetail n))

/-- R246: RUN is entered: both paths count as UP from now. -/
def State.runSes (s : State) (n : Nat) : State :=
  if s.sesState n = sesRUN then s
  else
    let s := (s.put GOA_SES_n_STATUS_PATH_X_UP 1 .a n).put GOA_SES_n_STATUS_PATH_Y_UP 1 .a n
    let s := (s.put GOA_SES_n_STATUS_PEER_RESTART 0 .a n).updSes n (fun x => { x with lastPass := ⟨s.now, s.now⟩, matched := 0 })
    ((s.setSes n sesRUN).clearCond 49 (.session n)).clearCond 50 (.session n)

/-- R243: a path of a session changes, with its event for the host. -/
def State.setPath (s : State) (n : Nat) (p : Net) (up : Bool) : State :=
  ((s.putFlag (pathFld p) up .a n).showSingle n).pushEvent 8 [n, if up then 3 else 2, netNum p, 0]

/-- R242: what the Shroud engines compare: everything but the path and the time. -/
def sameContent (a b : GoaFrame) : Bool :=
  a.srcNode == b.srcNode && a.connId == b.connId && a.isOpen == b.isOpen && a.epoch == b.epoch && a.bits == b.bits && a.vals == b.vals
  && a.alive == b.alive && a.lc == b.lc && a.lcState == b.lcState && a.member == b.member && a.gstop == b.gstop

/-- R242, R243: a twin within its window: a match, which after four in a row brings a LOST path back, or E50. -/
def State.twin (s : State) (n : Nat) (w : OpenWin) (f : GoaFrame) : State :=
  if sameContent w.frame f then
    let s := s.updSes n (fun x => { x with wins := x.wins.filter (· != w), matched := x.matched + 1 })
    if 4 ≤ (s.se n).matched then
      let s := if s.pathUp n .x then s else s.setPath n .x true
      if s.pathUp n .y then s else s.setPath n .y true
    else s
  else s.failSes n 50

/-- R240, R241: a copy is delivered: its payload sets the receive signals, its ALIVE and TIME become the references, and its skew window opens. In FAILED only a copy later than the failure brings the session back (R246). -/
def State.deliver (s : State) (n : Nat) (p : Net) (c : Slot) (restart : Bool) : State :=
  let f := c.frame
  let x := s.se n
  let back := s.sesState n != sesFAILED || decide (((x.failedAt : Int) + (s.ptpSt p).offset) < f.time)
  let s := if back then s.runSes n else s
  let s := if restart then (s.put GOA_SES_n_STATUS_PEER_RESTART 1 .a n).pushEvent 8 [n, 1, 0, 0] else s
  let s := (s.put GOA_SES_n_STATUS_ALIVE_LO (f.alive % 65536) .a n).put GOA_SES_n_STATUS_PEER_LC_STATE f.lcState .a n
  let s := s.updSes n (fun x => { x with
    newest := f.alive
    lastTime := twoSet x.lastTime (netChan p) (some f.time)
    lastNet := p
    lastStamp := f.time
    lastArrival := c.arrival
    wins := x.wins ++ [⟨p, f, c.arrival + 500000 * s.get GOA_SES_n_WIN_SKEW .a n⟩]
    bits := if back then f.bits else x.bits
    vals := if back then f.vals else x.vals
    member := f.member
    gstop := f.gstop })
  s.pushRec 5 ([n, f.alive % 65536] ++ entries64 f.lc ++ [f.lcState, 0])

/-- R241: freshness of a copy: by ALIVE, or by OPEN and a later TIME on its network, which resets the reference. In OPENING every copy is fresh. -/
def State.freshness (s : State) (n : Nat) (p : Net) (f : GoaFrame) : Option Bool :=
  let x := s.se n
  let d := (f.alive + 2 ^ 32 - x.newest % 2 ^ 32) % 2 ^ 32
  if s.sesState n = sesOPENING then some false
  else if 1 ≤ d ∧ d < 2 ^ 31 then some false
  else
    let later : Bool := match twoAt x.lastTime (netChan p) with
      | none => true
      | some t => decide (t < f.time)
    if f.isOpen && later then some true else none

/-- Steps 6 and 7 of R240 on one copy that passed the others. -/
def State.processCopy (s : State) (n : Nat) (p : Net) (c : Slot) : State :=
  match (s.se n).wins.find? (fun w => w.net == otherNet p && w.frame.alive == c.frame.alive && decide (c.arrival ≤ w.until_)) with
  | some w => s.twin n w c.frame
  | none => match s.freshness n p c.frame with
    | some restart => s.deliver n p c restart
    | none => s

/-- R239: the copies of a session stamped with cycle `k`, in order of arrival, on equal times X first. -/
def SesSt.copiesOf (x : SesSt) (k : Nat) : List (Net × Slot) :=
  let xs := (x.slots.a.filter (fun c => c.ok && c.cycle == k)).map (fun c => (Net.x, c))
  let ys := (x.slots.b.filter (fun c => c.ok && c.cycle == k)).map (fun c => (Net.y, c))
  sortBy (fun c => c.2.arrival) (xs ++ ys)

/-- R239, R240: the copies stamped in the previous cycle are processed for every session. In SLEEP no Goale frame is accepted (R434). -/
def State.deliverAll (s : State) : State :=
  let k := (s.get SYS_GCOUNT_COUNT + 2 ^ 32 - 1) % 2 ^ 32
  (s.ses.map (·.1)).foldl (fun s n => ((s.se n).copiesOf k).foldl (fun s c => s.processCopy n c.1 c.2) s) s

/-- The session a frame belongs to: source node, connection and the peer's address on the arriving network, enabled with a receive part (R240, step 1). -/
def State.sesOf (s : State) (p : Net) (f : GoaFrame) : Option Nat :=
  (s.ses.map (·.1)).find? (fun n =>
    s.get GOA_SES_n_CFG_EN .a n == 1 && s.get GOA_SES_n_TIME_RX_PERIOD .a n != 0 && s.get GOA_SES_n_PEER_PEER_NODE .a n == f.srcNode
    && s.get GOA_SES_n_PEER_CONN_ID .a n == f.connId
    && s.get (match p with
      | .x => GOA_SES_n_ADDR_X_ADDR
      | .y => GOA_SES_n_ADDR_Y_ADDR) .a n == f.srcAddr)

/-- Steps 2 to 5 of R240: the count of the first failure, or a pass, which refreshes the path (R243). -/
def State.checkCopy (s : State) (n : Nat) (p : Net) (f : GoaFrame) : State × Bool :=
  let age := s.netTime p - f.time
  if !(f.formOk && f.path == p && f.bits.length == s.get GOA_SES_n_CFG_RX_BW .a n && f.vals.length == s.get GOA_SES_n_CFG_RX_VW .a n) then
    (s.satInc NET_n_COUNT_FORMAT .a (netNum p), false)
  else if f.crcOk = false then (s.satInc GOA_SES_n_COUNT_CRC .a n, false)
  else if !(f.macOk && (f.epoch == s.get GOA_KEY_ACTIVE_EPOCH || f.epoch == s.get GOA_KEY_OTHER_EPOCH) && f.epoch != 0) then
    ((s.satInc GOA_SES_n_COUNT_MAC .a n).pushEvent 4 [1, n, 0, 0], false)
  else if !(s.syncedNet p && decide (-50000 ≤ age) && decide (age ≤ 100000 * s.get GOA_SES_n_WIN_AGE .a n)) then
    (s.satInc GOA_SES_n_COUNT_STALE .a n, false)
  else (s.updSes n (fun x => { x with lastPass := twoSet x.lastPass (netChan p) s.now }), true)

/-- R239: a slot for a frame in cycle `k`: an empty one, else the oldest not stamped k − 1; `none` where every slot is. -/
def storeSlot (ss : List Slot) (k : Nat) (c : Slot) : Option (List Slot) :=
  if ss.length < 4 then some (ss ++ [c])
  else
    let prev := (k + 2 ^ 32 - 1) % 2 ^ 32
    match ss.find? (fun x => x.cycle != prev && ss.all (fun y => y.cycle == prev || decide (x.arrival ≤ y.arrival))) with
    | none => none
    | some old => some ((ss.erase old) ++ [c])

/-- GOALE_FRAME_RECEIVED (R239, R240): at time `t` a frame has arrived on a network; it is matched to its session, stored in a slot with its stamp and checked by both Shroud engines. -/
def execGoaleFrameReceived (p : Net) (f : GoaFrame) (t : Nat) (s : State) : Host.Outcome State Fault Refusal :=
  let s := { s with now := max s.now t }
  .next (if s.netReady p = false ∨ s.dev = stSLEEP then s
    else
      match (if f.portOk then s.sesOf p f else none) with
      | none => s.satInc NET_n_COUNT_UNKNOWN .a (netNum p)
      | some n =>
        let k := s.get SYS_GCOUNT_COUNT
        let r := s.checkCopy n p f
        match storeSlot (twoAt (s.se n).slots (netChan p)) k ⟨f, k, s.now, r.2⟩ with
        | none => s.satInc NET_n_POLICE_SLOT_FULL .a (netNum p)
        | some ss => r.1.updSes n (fun x => { x with slots := twoSet x.slots (netChan p) ss }))

/-- TWIN_WINDOW_END (R242): at time `t` the windows of session `n` that have run out without a twin are counted as misses. -/
def execTwinWindowEnd (n : Fin 256) (t : Nat) (s : State) : Host.Outcome State Fault Refusal :=
  let s := { s with now := max s.now t }
  .next (let gone := ((s.se n.val).wins.filter (fun w => decide (w.until_ ≤ s.now))).length
    if gone = 0 then s
    else
      let s := s.updSes n.val (fun x => { x with wins := x.wins.filter (fun w => !decide (w.until_ ≤ s.now)), matched := 0 })
      (List.replicate (min gone 255) ()).foldl (fun s _ => s.satInc GOA_SES_n_COUNT_MISS .a n.val) s)

/-- PATH_LOST (R243): at time `t` no copy from a network has passed steps 1 to 5 for WD in RUN: E51, and with SINGLE_OK = 0 E49 and FAILED. -/
def execPathLost (n : Fin 256) (p : Net) (t : Nat) (s : State) : Host.Outcome State Fault Refusal :=
  let s := { s with now := max s.now t }
  .next (if s.sesState n.val = sesRUN ∧ s.pathUp n.val p = true ∧ twoAt (s.se n.val).lastPass (netChan p) + s.sesWd n.val ≤ s.now then
      let s := ((s.setPath n.val p false).updSes n.val (fun x => { x with matched := 0 })).raiseOnce (class0 51 (s.sesDetail n.val))
      if s.flag GOA_SES_n_CFG_SINGLE_OK .a n.val then s else s.failSes n.val 49
    else s)

/-- A session is enabled. -/
def State.anySession (s : State) : Bool := s.ses.any (fun e => s.get GOA_SES_n_CFG_EN .a e.1 == 1)

/-- NETWORK_LINK_DOWN (R244): both external ports of a network have been without link for 100 ms while a session is enabled. -/
def execNetworkLinkDown (n : Net) (s : State) : Host.Outcome State Fault Refusal :=
  .next (if s.anySession && s.getN NET_n_STATUS_P1_UP n == 0 && s.getN NET_n_STATUS_P2_UP n == 0 then s.raiseOnce (class0 51 (256 * 65536 + netNum n)) else s)

/-- NPE_FAULT (R244, R190): E51 and a block reset of the engine; the network is not SYNCED after it. -/
def execNpeFault (n : Net) (s : State) : Host.Outcome State Fault Refusal :=
  let s := s.putN NET_n_STATUS_NPE_OK 0 n
  let s := s.raiseOnce (class0 51 (257 * 65536 + netNum n))
  let s := s.openWindow (netNum n)
  let s := s.blockReset (blockBase .net .a + 0x100 * netNum n) 0x100
  let s := s.updPtp n (fun p => { p with synced := false, master := false, good := 0, ppsAt := none })
  .next (s.putN NET_n_STATUS_NPE_OK 1 n)

/-- SESSION_WATCHDOG_EXPIRY (R245): at time `t` the session in RUN has had no delivered copy for WD, by its network's time while SYNCED or by the local clock since arrival: E49 and FAILED. -/
def execSessionWatchdogExpiry (n : Fin 256) (t : Nat) (s : State) : Host.Outcome State Fault Refusal :=
  let s := { s with now := max s.now t }
  let x := s.se n.val
  let wd := s.sesWd n.val
  .next (if s.sesState n.val = sesRUN ∧ ((s.syncedNet x.lastNet = true ∧ ((x.lastStamp + wd : Nat) : Int) < s.netTime x.lastNet) ∨ x.lastArrival + wd < s.now) then
      s.failSes n.val 49
    else s)

/-! ## Receive signals and sending -/

/-- R233: the receive signals of every session in RUN: bit i drives 0x100 + 32·RX_BIT_BASE + i, value j drives 0x300 + RX_VAL_BASE + j. Others read 0. -/
def State.goaleSignals (s : State) : Tab Int :=
  s.ses.foldl (fun t e =>
    if s.sesState e.1 = sesRUN then
      let b := 0x100 + 32 * s.get GOA_SES_n_CFG_RX_BIT_BASE .a e.1
      let v := 0x300 + s.get GOA_SES_n_WIN_RX_VAL_BASE .a e.1
      let t := ((List.range (32 * e.2.bits.length)).filter (fun i => ((e.2.bits[i / 32]?).getD 0).testBit (i % 32))).foldl (fun t i => tabSet t (b + i) 1) t
      (List.range e.2.vals.length).foldl (fun t j => tabSet t (v + j) ((e.2.vals[j]?).getD 0)) t
    else t) []

/-- A session drives signal `g` (R233). -/
def State.sesDrives (s : State) (n g : Nat) : Bool :=
  let b := 0x100 + 32 * s.get GOA_SES_n_CFG_RX_BIT_BASE .a n
  let v := 0x300 + s.get GOA_SES_n_WIN_RX_VAL_BASE .a n
  (decide (b ≤ g) && decide (g < b + 32 * s.get GOA_SES_n_CFG_RX_BW .a n)) || (decide (v ≤ g) && decide (g < v + s.get GOA_SES_n_CFG_RX_VW .a n))

/-- TX_PERIOD as whole guard cycles, rounded up (R237). -/
def State.txCycles (s : State) (n : Nat) : Nat := (s.get GOA_SES_n_TIME_TX_PERIOD .a n * 125000 + s.tg - 1) / s.tg

/-- R237: one session in the stage phase: a frame goes when its period has passed or its content differs from the last one's. `w` is the content agreed for this cycle. -/
def State.sendSes (s : State) (n : Nat) (w : TxWords) : State :=
  let x := s.se n
  if s.get GOA_SES_n_CFG_EN .a n = 0 ∨ s.get GOA_SES_n_TIME_TX_PERIOD .a n = 0 ∨ s.get GOA_KEY_ACTIVE_EPOCH = 0 then s
  else if s.txCycles n ≤ x.txWait + 1 ∨ x.txCount = 0 ∨ w ≠ x.txLast then
    s.updSes n (fun x => { x with
      txAlive := if x.txAlive = 2 ^ 32 - 1 then 1 else x.txAlive + 1
      txCount := x.txCount + 1
      txWait := 0
      txLast := w
      txOpen := decide (x.txCount < 255)
      txEpoch := s.get GOA_KEY_ACTIVE_EPOCH
      txTime := ⟨if s.syncedNet .x then (s.netTime .x).toNat else 0, if s.syncedNet .y then (s.netTime .y).toNat else 0⟩ })
  else s.updSes n (fun x => { x with txWait := x.txWait + 1 })

/-- The other installed epoch becomes the active one. -/
def State.useEpoch (s : State) (ep : Nat) : State :=
  if s.get GOA_KEY_OTHER_EPOCH = ep then
    { ((s.put GOA_KEY_OTHER_EPOCH (s.get GOA_KEY_ACTIVE_EPOCH)).put GOA_KEY_ACTIVE_EPOCH ep) with sec := { s.sec with activeKey := ep } }
  else s

/-- EPOCH_SWITCH_TIME (R236): at the first boundary at or after the stated PTP time, at local time `t`, both channels switch the active epoch. -/
def execEpochSwitchTime (t : Nat) (s : State) : Host.Outcome State Fault Refusal :=
  let s := { s with now := max s.now t }
  .next (match s.epochAt with
    | none => s
    | some (n, time, ep) =>
      if s.syncedNet n = true ∧ (time : Int) ≤ s.netTime n then
        let s := ({ s with epochAt := none }).useEpoch ep
        s.endExclusive 0x1A csOK (s.get SYS_GCOUNT_COUNT)
      else s)

end Sys2Proof.Machine
end

