-- ==== Sys2Proof/Machine/Blocks.lean ====
section
/-! DEFINITION. The function blocks of the logic graph as pure functions of their inputs, parameters and internal state (R131, R134 to R143, R171, R172 of 05_logic_graph.md and 06_stop_and_motion.md). REEF, SBC, OUT, GOATX and LLTX act on the device and stand in Graph.lean. -/

namespace Sys2Proof.Machine

open Sys2Proof

/-- What a block sees of the device. -/
structure BlkEnv where
  /-- T_G in ns -/
  tg : Nat
  lcValid : Bool
  velOk : Bool
  /-- LC_SPEED, st/s -/
  speed : Int
  /-- the block's safety function is in its fault state or held by a Refit -/
  faulted : Bool
  /-- this is an SDI's lag, the larger of both channels, in 2⁻¹⁶ st (R172) -/
  lag : Int

/-- What a block answers: its outputs, its next internal state, and the lines whose condition it sees. -/
structure BlkOut where
  outs : List Int
  st : InstSt
  faults : List Nat := []

/-- A time in ms as whole guard cycles, rounded up (R131). -/
def BlkEnv.cyc (e : BlkEnv) (ms : Int) : Nat := (ms.toNat * 1000000 + e.tg - 1) / e.tg

/-- Numeric results saturate at 32 bits (R126). -/
def sat32 (v : Int) : Int := max (-2147483648) (min v 2147483647)

/-- A truth value as a boolean signal. -/
def bInt (b : Bool) : Int := if b then 1 else 0

/-- Input `i`, or the value an unconnected input reads. -/
def inAt (ins : List (Option Int)) (i : Nat) (d : Int) : Int := ((ins[i]?).join).getD d

/-- A boolean input. -/
def inB (ins : List (Option Int)) (i : Nat) (d : Bool := false) : Bool := inAt ins i (bInt d) != 0

/-- Parameter `i`. -/
def parAt (ps : List Int) (i : Nat) : Int := (ps[i]?).getD 0

/-- R131: a condition seen in `k` evaluations in a row, the present one included, has held for `n` cycles. -/
def heldFor (k n : Nat) : Bool := decide (n + 1 ≤ k)

/-- R131: ... has lasted longer than `n` cycles. -/
def longerThan (k n : Nat) : Bool := decide (n + 2 ≤ k)

/-- A run of evaluations that see a condition. -/
def runOf (b : Bool) (k : Nat) : Nat := if b then k + 1 else 0

/-- R134, NCMP: OP 0 to 5 stands for >, ≥, =, ≠, ≤, <. -/
def ncmpSets (op a b : Int) : Bool :=
  if op = 0 then decide (b < a)
  else if op = 1 then decide (b ≤ a)
  else if op = 2 then a == b
  else if op = 3 then a != b
  else if op = 4 then decide (a ≤ b)
  else decide (a < b)

def ncmpDrops (op a b h : Int) : Bool :=
  if op = 0 ∨ op = 1 then decide (a ≤ b - h)
  else if op = 2 ∨ op = 3 then true
  else decide (b + h ≤ a)

/-- R195: the length of a press, in guard cycles between the transitions, is from 0.25 s to 3.0 s. -/
def pressOk (tg k : Nat) : Bool := decide (250000000 ≤ k * tg) && decide (k * tg ≤ 3000000000)

/-- One evaluation of a press: pressing, cycles since it began, and whether it ends here as a valid press. -/
def pressStep (tg : Nat) (v prev pressing : Bool) (k : Nat) : Bool × Nat × Bool :=
  if v then (if prev then (pressing, k + 1, false) else (true, 0, false))
  else (false, 0, pressing && pressOk tg (k + 1))

/-- LCURT (R137). Inputs PAIR, WIN, MS1 to MS4, LAMP_OK; parameters MODE, T_SEQ, MUTE_MAX in ms. `flag`: muting; `flag2`: this sequence is spent; `k`: evaluations muting has lasted; `k2`: evaluations since the earlier sensor rose; `k3` and `v`: evaluations a sensor has stood without its partner. -/
def lcurt (e : BlkEnv) (ps : List Int) (ins : List (Option Int)) (x : InstSt) : BlkOut :=
  let pair := inB ins 0
  let win := inB ins 1
  let m1 := inB ins 2
  let m2 := inB ins 3
  let m3 := inB ins 4
  let m4 := inB ins 5
  let lamp := inB ins 6 true
  let mode := parAt ps 0
  let both := m1 && m2
  let k2 := if m1 || m2 then x.k2 + 1 else 0
  let go := pair && lamp
  let start := if mode = 3 then win && !x.prev && e.lcValid && go
    else if mode = 1 ∨ mode = 2 then both && !x.flag2 && decide (k2 ≤ e.cyc (parAt ps 1) + 1) && go
    else false
  let cont := if mode = 1 then both
    else if mode = 2 then both || (m3 && m4)
    else if mode = 3 then win && e.lcValid
    else false
  let k := if start && !x.flag then 1 else if x.flag && cont then x.k + 1 else 0
  let muting := (start || (x.flag && cont)) && !(x.flag && heldFor k (e.cyc (parAt ps 2)))
  let k3 := runOf ((mode == 1 || mode == 2) && m1 != m2) x.k3
  let k4 := runOf (mode == 2 && m3 != m4) x.v.toNat
  let bad := longerThan k3 (e.cyc (parAt ps 2)) || longerThan k4 (e.cyc (parAt ps 2))
  { outs := [bInt (muting || pair), bInt muting]
    st := { x with flag := muting, flag2 := both, prev := win, k := if muting then k else 0, k2 := k2, k3 := k3, v := k4 }
    faults := if bad then [40] else [] }

/-- GLOCK (R139). Inputs DOOR, LOCK, UREQ, PERMIT; parameters PRINCIPLE, LOCK_TIME. `flag`: locking commanded; `flag2`: LOCK released since; `k`: evaluations since the command. -/
def glock (e : BlkEnv) (ps : List Int) (ins : List (Option Int)) (x : InstSt) : BlkOut :=
  let door := inB ins 0
  let lock := inB ins 1
  let ureq := inB ins 2
  let permit := inB ins 3
  let cmd := if ureq && permit then false else if !ureq && door then true else x.flag
  let k := if cmd then (if x.flag then x.k + 1 else 1) else 0
  let seen := cmd && (lock || (x.flag && x.flag2))
  let late := cmd && !seen && longerThan k (e.cyc (parAt ps 1))
  let left := cmd && x.flag && x.flag2 && !lock
  { outs := [bInt (door && lock && cmd), bInt (if parAt ps 0 = 0 then !cmd else cmd)]
    st := { x with flag := cmd, flag2 := seen, k := k }
    faults := if late || left then [40] else [] }

/-- ENABLE (R138). Inputs PAIR, PERM; parameter ENABLE_MAX in s. `flag`: demand is needed first; `k`: evaluations Q has been 1. -/
def enable (e : BlkEnv) (ps : List Int) (ins : List (Option Int)) (x : InstSt) : BlkOut :=
  let pair := inB ins 0
  let perm := inB ins 1
  let need := if !pair then false else x.flag || (perm && !x.prev)
  let k := runOf (pair && perm && !need) x.k
  let out := parAt ps 0 != 0 && heldFor k (e.cyc (1000 * parAt ps 0))
  let q := pair && perm && !need && !out
  { outs := [bInt q], st := { x with q := q, prev := perm, flag := need || out, k := if q then k else 0 } }

/-- MODESEL (R135): one pin at 1 selects its mode; none or several for longer than T_SW is E40. -/
def modesel (e : BlkEnv) (ps : List Int) (ins : List (Option Int)) (x : InstSt) : BlkOut :=
  let pins := (List.range 8).map (fun i => inB ins i)
  let one := (pins.filter id).length == 1
  let k := runOf (!one) x.k
  { outs := pins.map (fun p => bInt (p && one)), st := { x with k := k }, faults := if longerThan k (e.cyc (parAt ps 0)) then [40] else [] }

/-- RSTIL (R136, R195). Inputs COND, RESET; parameter AUTO. `flag`: a press runs; `flag2`: COND was 1 throughout; `k`: evaluations since it began. A release while the function is faulted acts as its L1 reset only. -/
def rstil (e : BlkEnv) (ps : List Int) (ins : List (Option Int)) (x : InstSt) : BlkOut :=
  let cond := inB ins 0
  let reset := inB ins 1
  let p := pressStep e.tg reset x.prev x.flag x.k
  let through := if reset && !x.prev then cond else x.flag2 && cond
  let valid := p.2.2 && through
  let q := if e.faulted then false
    else if parAt ps 0 = 1 then cond
    else cond && (x.q || valid)
  let held := p.1 && decide (p.2.1 = 30000000000 / e.tg + 1)
  { outs := [bInt q], st := { x with q := q, prev := reset, flag := p.1, flag2 := through, k := p.2.1 }, faults := if held then [42] else [] }

/-- EDM (R96, R140). Inputs CMD, FB; `k`: evaluations the feedback has not been as the command requires since its last change. OK while off needs the feedback at the moment. -/
def edm (ins : List (Option Int)) (x : InstSt) : BlkOut :=
  let cmd := inB ins 0
  let fb := inB ins 1
  let k := if cmd != x.prev then runOf (fb == cmd) 0 else runOf (fb == cmd) x.k
  { outs := [bInt (cmd || fb)], st := { x with prev := cmd, k := k } }

/-- ANAWIN (R143). Inputs A, B in µA; parameters LOW, HIGH, HYST, TOL, T_DISC. A marker holds Q at 0 without a fault (R323). -/
def anawin (e : BlkEnv) (ps : List Int) (ins : List (Option Int)) (x : InstSt) : BlkOut :=
  let a := inAt ins 0 0
  let b := inAt ins 1 0
  let lo := parAt ps 0
  let hi := parAt ps 1
  let h := parAt ps 2
  if a = -2147483648 ∨ b = -2147483648 then { outs := [0], st := { x with q := false, k := 0, k2 := 0 } }
  else
    let wild (v : Int) : Bool := decide (v < 3600) || decide (21000 < v)
    let k := runOf (wild a || wild b) x.k
    let k2 := runOf (decide (parAt ps 3 < (a - b).natAbs)) x.k2
    let bad := decide (3 ≤ k) || longerThan k2 (e.cyc (parAt ps 4))
    let inside (v : Int) : Bool := decide (lo + h ≤ v) && decide (v ≤ hi - h)
    let left (v : Int) : Bool := decide (v < lo) || decide (hi < v)
    let q := !bad && ((inside a && inside b) || (x.q && !left a && !left b))
    { outs := [bInt q], st := { x with q := q, k := k, k2 := k2 }, faults := if bad then [40] else [] }

/-- SLS (R171). Input EN; parameters V_LIM, A_SLS. `v`: v_e; `k`: evaluations since the edge; `k2`: evaluations above the limit; `flag`: violated, until the function's fault state takes over. -/
def sls (e : BlkEnv) (ps : List Int) (ins : List (Option Int)) (x : InstSt) : BlkOut :=
  let en := inB ins 0
  if !en then { outs := [1], st := { x with prev := false, k := 0, k2 := 0, flag := false, v := 0 } }
  else
    let v := if x.prev then x.v else e.speed
    let k := if x.prev then x.k + 1 else 0
    let lim := if parAt ps 1 = 0 then parAt ps 0 * 1000000000 else max (parAt ps 0 * 1000000000) (v * 1000000000 - parAt ps 1 * (k * e.tg))
    let k2 := runOf (decide (lim < e.speed * 1000000000)) x.k2
    let bad := decide (2 ≤ k2)
    let flag := (x.flag || bad) && !e.faulted
    { outs := [bInt (e.velOk && !bad && !flag)], st := { x with prev := true, k := k, k2 := k2, v := v, flag := flag }, faults := if bad then [48] else [] }

/-- SDI (R172). Input EN; parameters DIR, TOL_DIR in whole steps. -/
def sdi (e : BlkEnv) (ps : List Int) (ins : List (Option Int)) (x : InstSt) : BlkOut :=
  let en := inB ins 0
  if !en then { outs := [1], st := { x with prev := false, flag := false } }
  else
    let bad := x.prev && decide (parAt ps 1 * 65536 < e.lag)
    let flag := (x.flag || bad) && !e.faulted
    { outs := [bInt (e.velOk && !bad && !flag)], st := { x with prev := true, flag := flag }, faults := if bad then [48] else [] }

/-- A block that only computes. -/
def pureBlk (x : InstSt) (outs : List Int) : BlkOut := { outs := outs, st := x }

/-- R134, R135: one block by its code. Codes with an effect on the device answer nothing here. -/
def evalBlock (e : BlkEnv) (code : Nat) (ps : List Int) (ins : List (Option Int)) (x : InstSt) : BlkOut :=
  let a := inAt ins 0 0
  let b := inAt ins 1 0
  let i0 := inB ins 0
  match code with
  | 0x01 => pureBlk x [bInt (ins.all (fun v => v.getD 0 != 0))]
  | 0x02 => pureBlk x [bInt (ins.any (fun v => v.getD 0 != 0))]
  | 0x03 => pureBlk x [bInt (!i0)]
  | 0x04 => pureBlk x [bInt (i0 != inB ins 1)]
  | 0x05 =>
    let q := if inB ins 1 then false else i0 || x.q
    { outs := [bInt q], st := { x with q := q } }
  | 0x06 => pureBlk x [x.v]
  | 0x08 =>
    let k := runOf i0 x.k
    { outs := [bInt (i0 && heldFor k (e.cyc (parAt ps 0)))], st := { x with k := k } }
  | 0x09 =>
    let k := runOf (!i0) x.k
    let q := i0 || (x.q && !heldFor k (e.cyc (parAt ps 0)))
    { outs := [bInt q], st := { x with k := k, q := q } }
  | 0x0A =>
    let k := if x.k = 0 ∧ i0 = true ∧ x.prev = false then e.cyc (parAt ps 0) else x.k
    { outs := [bInt (decide (0 < k))], st := { x with k := k - 1, prev := i0 } }
  | 0x0C => { outs := [bInt (i0 && !x.prev)], st := { x with prev := i0 } }
  | 0x0D => { outs := [bInt (!i0 && x.prev)], st := { x with prev := i0 } }
  | 0x10 =>
    let q := ncmpSets (parAt ps 0) a b || (x.q && !ncmpDrops (parAt ps 0) a b (parAt ps 1))
    { outs := [bInt q], st := { x with q := q } }
  | 0x11 => pureBlk x [sat32 (a + b)]
  | 0x12 => pureBlk x [sat32 (a - b)]
  | 0x13 => pureBlk x [sat32 (a * b)]
  | 0x14 => pureBlk x [if i0 then inAt ins 2 0 else b]
  | 0x15 => pureBlk x [max (parAt ps 0) (min a (parAt ps 1))]
  | 0x16 => pureBlk x [sat32 (parAt ps 0)]
  | 0x18 => pureBlk x [bInt (i0 && !inB ins 1)]
  | 0x20 => pureBlk x [bInt i0]
  | 0x21 => lcurt e ps ins x
  | 0x22 => glock e ps ins x
  | 0x23 => enable e ps ins x
  | 0x24 => modesel e ps ins x
  | 0x25 => rstil e ps ins x
  | 0x26 => edm ins x
  | 0x27 => pureBlk x [bInt (i0 && e.lcValid && (parAt ps 0 == 0 || decide (e.speed ≤ parAt ps 0)))]
  | 0x28 => anawin e ps ins x
  | 0x42 => sls e ps ins x
  | 0x43 => sdi e ps ins x
  | _ => pureBlk x []

end Sys2Proof.Machine
end

