-- ==== Sys2Proof/Machine/Link.lean ====
section
/-! DEFINITION. The Line Link, the coupling groups and the Recorder Port (10_line_link_and_recorder.md). -/

namespace Sys2Proof.Machine

open Sys2Proof

/-! ## Ports -/

/-- Port states of R254. -/
def ptUNUSED : Nat := 0
def ptTRAINING : Nat := 1
def ptUP : Nat := 2
def ptLOST : Nat := 3

def State.port (s : State) (p : Port) : PortSt := twoAt s.link.ports (portChan p)

def State.updPort (s : State) (p : Port) (f : PortSt → PortSt) : State :=
  { s with link := { s.link with ports := twoUpd s.link.ports (portChan p) f } }

def State.getP (s : State) (f : Fld) (p : Port) : Nat := s.get f .a (portNum p)

def State.putP (s : State) (f : Fld) (v : Nat) (p : Port) : State := s.put f v .a (portNum p)

def State.portState (s : State) (p : Port) : Nat := s.getP LLK_PORT_n_STATUS_STATE p

def otherPort : Port → Port
  | .up => .dn
  | .dn => .up

/-- A used port (LLK_CFG). -/
def State.portUsed (s : State) (p : Port) : Bool :=
  match p with
  | .up => s.flag LLK_CFG_UP_USED
  | .dn => s.flag LLK_CFG_DN_USED

/-- A port's state changes, with its Port record. -/
def State.setPort (s : State) (p : Port) (v : Nat) : State :=
  if s.portState p = v then s else (s.putP LLK_PORT_n_STATUS_STATE v p).pushRec 6 [portNum p, v]

/-- N of the line, 0 without a line table. -/
def State.lineN (s : State) : Nat := s.get LLK_CFG_N

def State.ownPos (s : State) : Nat := s.get LLK_CFG_POS

/-- The position the port faces (R253); `none` beyond the end of a chain. -/
def State.facing (s : State) (p : Port) : Option Nat :=
  let n := s.lineN
  let q := s.ownPos
  match p with
  | .dn => if q + 1 < n then some (q + 1) else if s.flag LLK_CFG_RING ∧ 0 < n then some 0 else none
  | .up => if 0 < q then some (q - 1) else if s.flag LLK_CFG_RING ∧ 0 < n then some (n - 1) else none

/-- E52 (R274), Class 0. -/
def State.linkFault (s : State) (detail : Nat) : State := s.raiseOnce (class0 52 detail)

/-- LLK_ENTRY_q and LLK_REACH_LL from what the UP ports hold. -/
def State.showEntries (s : State) : State :=
  let held (p : Port) : Tab (Nat × Nat) := if s.portState p = ptUP then (s.port p).entries else []
  let u := held .up
  let d := held .dn
  let one (s : State) (q : Nat) : State :=
    let hu := tabHas u q
    let hd := tabHas d q
    let eu := tabGet (0, 0) u q
    let ed := tabGet (0, 0) d q
    let hops := if hu && hd then min eu.1 ed.1 else if hu then eu.1 else if hd then ed.1 else 0
    let g := (if hu then eu.2 else 0) ||| (if hd then ed.2 else 0)
    ((((s.putFlag LLK_ENTRY_q_VALID (hu || hd) .a q).put LLK_ENTRY_q_HOPS hops .a q).putFlag LLK_ENTRY_q_FROM_DN hd .a q).putFlag LLK_ENTRY_q_FROM_UP hu .a q).put LLK_ENTRY_q_GSTOP g .a q
  let s := (List.range s.lineN).foldl one s
  s.put LLK_REACH_LL_POS ((List.range s.lineN).foldl (fun m q => if tabHas u q || tabHas d q then m + 2 ^ q else m) 0)

/-- R268: XOFF_OUT from the receive FIFO's write-side level: asserted at HIGH, released at LOW. -/
def State.xoffOut (s : State) (p : Port) (peak after : Nat) : State :=
  let s := s.putP LLK_PORT_n_FIFO_PEAK (max (s.getP LLK_PORT_n_FIFO_PEAK p) (min peak 1023)) p
  let s := if s.get LLK_WMARK_HIGH ≤ peak then s.putP LLK_PORT_n_STATUS_XOFF_OUT 1 p else s
  if after ≤ s.get LLK_WMARK_LOW then s.putP LLK_PORT_n_STATUS_XOFF_OUT 0 p else s

/-- R267: words discarded because a FIFO was full: counted, and E52. -/
def State.fifoOverflow (s : State) (p : Port) (words : Nat) : State :=
  if words = 0 then s
  else (s.putP LLK_PORT_n_FIFO_OVERFLOW (min (s.getP LLK_PORT_n_FIFO_OVERFLOW p + words) 65535) p).linkFault (3 * 256 + portNum p)

/-- The halves agree in everything but TYPE and CRC. -/
def sameHalf (a b : Half) : Bool :=
  a.seq == b.seq && a.pos == b.pos && a.single == b.single && a.ring == b.ring && a.lineCrc == b.lineCrc && a.node == b.node && a.entries == b.entries && a.zeroOk == b.zeroOk

/-- R257: the counter of the first check a frame fails; `none` = accepted. -/
def State.frameFails (s : State) (p : Port) (a b : Half) : Option Fld :=
  let ahead := (a.seq + 256 - s.getP LLK_PORT_n_STATUS_SEQ p) % 256
  if !(a.complete && b.complete && a.crcOk && b.crcOk && a.typ == 0x4A && b.typ == 0x4B) then some LLK_PORT_n_COUNT_CRC
  else if !sameHalf a b then some LLK_PORT_n_COUNT_HALF_DIS
  else if a.lineCrc ≠ s.get LLK_LINE_CRC_CRC ∨ s.facing p ≠ some a.pos then some LLK_PORT_n_COUNT_LINE
  else if s.portState p = ptUP ∧ ¬ (1 ≤ ahead ∧ ahead ≤ 4) then some LLK_PORT_n_COUNT_SEQ
  else if a.zeroOk = false ∨ a.entries.any (fun e => decide (30 < e.2.1)) then some LLK_PORT_n_COUNT_SEQ
  else none

/-- The valid entries of a frame by position, the receiver's own left out (R258). -/
def State.takeEntries (s : State) (es : List (Bool × Nat × Nat)) : Tab (Nat × Nat) :=
  (List.range 32).foldl (fun t q =>
    match es[q]? with
    | some (true, h, g) => if q = s.ownPos then t else tabSet t q (h, g)
    | _ => t) []

/-- GROUP_STATE_FRAME (R254, R257, R267, R268): at time `t` a frame arrives on a port. `peak` and `after` are the receive FIFO's write-side level before and after the engine has read it, `lost` the words discarded because it was full. In TRAINING the eighth consecutive accepted frame, with no gap of 40 µs, brings the port UP. -/
def execGroupStateFrame (p : Port) (a b : Half) (peak after lost : Nat) (t : Nat) (s : State) : Host.Outcome State Fault Refusal :=
  let s := { s with now := max s.now t }
  .next (if s.portUsed p = false ∨ s.portState p = ptUNUSED then s
    else
      let s := (s.xoffOut p peak after).fifoOverflow p lost
      match s.frameFails p a b with
      | some f =>
        let s := s.satInc f .a (portNum p)
        if s.portState p = ptUP then s else s.updPort p (fun x => { x with run := 0 })
      | none =>
        let es := s.takeEntries a.entries
        let x := s.port p
        let s := s.putP LLK_PORT_n_STATUS_SEQ a.seq p
        if s.portState p = ptUP then (s.updPort p (fun x => { x with lastOk := s.now, entries := es })).showEntries
        else
          let n := if x.run ≠ 0 ∧ s.now ≤ x.lastOk + 40000 then x.run + 1 else 1
          let s := s.updPort p (fun x => { x with lastOk := s.now, entries := es, run := n })
          if 8 ≤ n then ((s.setPort p ptUP).updPort p (fun x => { x with run := 0 })).showEntries else s.setPort p ptTRAINING)

/-- PORT_LOST (R254, R257): at time `t` no frame has been accepted on an UP port for 100 µs: LOST, its entries invalid, E52. -/
def execPortLost (p : Port) (t : Nat) (s : State) : Host.Outcome State Fault Refusal :=
  let s := { s with now := max s.now t }
  .next (if s.portState p = ptUP ∧ (s.port p).lastOk + 100000 ≤ s.now then
      let s := (s.setPort p ptLOST).updPort p (fun x => { x with run := 0, entries := [] })
      (s.showEntries.satInc LLK_PORT_n_STATUS_LOSTS .a (portNum p)).linkFault (256 + portNum p)
    else s)

/-- R264: whether some channel can build the halves: the device runs, is past its start, and not both channels have failed. -/
def State.canBuild (s : State) : Bool :=
  s.running && s.dev != stINIT && s.dev != stSHUTDOWN && !(s.chanClass2 .a && s.chanClass2 .b) && !(s.hasClass .a 3 || s.hasClass .b 3)

/-- R264: one channel has failed and the survivor builds both halves. -/
def State.linkSingle (s : State) : Bool := s.get STY_STATUS_MODE .a == 2 || s.get STY_STATUS_MODE .b == 2

/-- R258: the entries of the frame that leaves a port: the own one, and each that the other port holds in UP with fewer than N hops. -/
def State.buildEntries (s : State) (p : Port) : Tab (Nat × Nat) :=
  let n := s.lineN
  let o := otherPort p
  let t := if s.portState o = ptUP then (s.port o).entries.filterMap (fun e => if e.1 < n ∧ e.1 ≠ s.ownPos ∧ e.2.1 + 1 + 1 ≤ n then some (e.1, e.2.1 + 1, e.2.2) else none) else []
  tabSet t s.ownPos (0, s.link.own)

/-- LINE_LINK_TICK (R256, R258, R262): every 20 µs, at time `t`, each used port sends a group-state frame. A publication staged at a boundary applies at the first tick at least 2 µs later. -/
def execLineLinkTick (t : Nat) (s : State) : Host.Outcome State Fault Refusal :=
  let s := { s with now := max s.now t }
  .next (let s := if s.link.stagedAt + 2000 ≤ s.now then { s with link := { s.link with own := s.link.staged } } else s
    let s := s.putFlag LLK_STATUS_SINGLE s.linkSingle
    let send (s : State) (p : Port) : State :=
      if s.portUsed p = true ∧ State.canBuild s = true then
        let es := s.buildEntries p
        s.updPort p (fun x => { x with txSeq := (x.txSeq + 1) % 256, sent := some (s.linkSingle, es) })
      else s
    send (send s .up) .dn)

/-! ## Coupling groups (R260 to R263) -/

/-- Positions of the line other than the device's own that belong to group `g` (R255). -/
def State.members (s : State) (g : Nat) : List Nat :=
  (List.range s.lineN).filter (fun q => q != s.ownPos && bit (s.get LLK_LINE_q_MEMBER .a q) g)

/-- R249: the Goale paths handed over at the snapshot: peers with GRP_PEER = 1 in RUN with a path UP. -/
def State.goalePaths (s : State) : List (Nat × Nat) :=
  s.ses.filterMap (fun e =>
    if s.get GOA_SES_n_CFG_GRP_PEER .a e.1 = 1 ∧ s.sesState e.1 = sesRUN ∧ (s.pathUp e.1 .x = true ∨ s.pathUp e.1 .y = true)
    then some (s.get GOA_SES_n_PEER_PEER_NODE .a e.1, e.2.gstop) else none)

/-- R260: the GSTOP words by which member `q` is reachable; none = unreachable. -/
def State.reach (s : State) (q : Nat) : List Nat :=
  let ll (t : Tab (Nat × Nat)) : List Nat := if tabHas t q then [(tabGet (0, 0) t q).2] else []
  let node := s.get LLK_LINE_q_NODE .a q
  ll s.link.held.a ++ ll s.link.held.b ++ (s.link.goale.filter (fun e => e.1 == node)).map (·.2)

/-- A group is complete: every other member is reachable (R261). -/
def State.complete (s : State) (g : Nat) : Bool := (s.members g).all (fun q => s.reach q != [])

/-- R261: the state of group `g`. -/
def State.groupReads (s : State) (g : Nat) : Bool :=
  bit (s.get LLK_GRP_LOST_COMPLETE) g && s.complete g && (s.members g).all (fun q => (s.reach q).all (fun w => !bit w g)) && !bit (s.get LLK_STATUS_OWN_STOP) g

/-- The groups with a line table. -/
def State.groups (s : State) : List Nat := if s.lineN = 0 then [] else List.range 16

/-- R261, R263: every group formed at the snapshot from the entries of the last cycle and the Goale paths; a member group once complete that has lost a member is E53, charged to REEF's safety function `sf` where there is one. -/
def State.formGroups (s : State) (sf : Option Nat) : State :=
  let s := { s with link := { s.link with goale := s.goalePaths } }
  let before : Nat := s.get LLK_GRP_STATE_A
  let mask (p : Nat → Bool) : Nat := (s.groups).foldl (fun (m : Nat) (g : Nat) => if p g then m + 2 ^ g else m) 0
  let s := s.put LLK_GRP_LOST_COMPLETE (s.get LLK_GRP_LOST_COMPLETE ||| mask s.complete)
  let lost := mask (fun g => !s.complete g)
  let s := s.put LLK_GRP_LOST_LOST lost
  let s := s.put LLK_REACH_GOA_POS ((List.range s.lineN).foldl (fun m q => if s.link.goale.any (fun e => e.1 == s.get LLK_LINE_q_NODE .a q) then m + 2 ^ q else m) 0)
  let now : Nat := (s.groups).foldl (fun (m : Nat) g => if s.groupReads g then m + 2 ^ g else m) 0
  let s := (s.put LLK_GRP_STATE_A now).put LLK_GRP_STATE_B now
  let s : State := if now == before then s else s.pushRec 4 [before, now, lost, 0]
  let el : Elem := match sf with
    | some n => .sf n
    | none => .none
  let bad := lost &&& s.get LLK_GRP_LOST_COMPLETE &&& s.get DSF_GROUPS_MEMBER .a
  if bad ≠ 0 then (if s.condOn 53 el then s else s.raise ⟨53, 1, .shared, .both, el, bad⟩) else s.clearCond 53 el

/-! ## Relay and Recorder Port (R268 to R274) -/

/-- The relay port of REC_CFG.RELAY. -/
def State.relayPort (s : State) : Option Port :=
  match s.get REC_CFG_RELAY with
  | 1 => some .up
  | 2 => some .dn
  | _ => none

/-- A relayed record into the Recorder FIFO, under the drop rules of R271. -/
def State.storeRelayed (s : State) (r : List Nat) : State :=
  let typ := (r.headD 0) / 256
  if s.recDrops typ r.length then ({ s with recd := { s.recd with lost := s.recd.lost + 1 } }).satInc REC_COUNT_DROPPED
  else (({ s with recd := { s.recd with fifo := s.recd.fifo ++ [r] } }).satInc REC_COUNT_RELAYED).recReady

/-- RELAY_FRAME_RECEIVED (R273): forwarded towards the own relay port when that is the other port, stored with RELAY = 0, else discarded and counted. -/
def execRelayFrameReceived (p : Port) (r : List (BitVec 16)) (crcOk : Bool) (peak after lost : Nat) (s : State) : Host.Outcome State Fault Refusal :=
  .next (if s.portUsed p = false then s
    else
      let s := (s.xoffOut p peak after).fifoOverflow p lost
      let ok := crcOk && decide (lost = 0) && s.flag REC_CFG_EN && decide (r.length ≤ 36) && (match s.relayPort with
        | none => true
        | some q => q == otherPort p)
      if ok then s.storeRelayed (r.map BitVec.toNat) else s.satInc REC_COUNT_DROPPED)

/-- The oldest record leaves the FIFO. -/
def State.popRec (s : State) : State := ({ s with recd := { s.recd with fifo := s.recd.fifo.drop 1, sent := 0 } }).recReady

/-- RELAY_FRAME_SEND (R267, R268, R273): with at least 92 words free in the transmit FIFO and XOFF_IN released, the oldest record goes out as one relay frame. -/
def execRelayFrameSend (free : Nat) (s : State) : Host.Outcome State Fault Refusal :=
  .next (match s.relayPort, s.recd.fifo with
    | some p, r :: _ =>
      if s.flag REC_CFG_EN ∧ s.portUsed p = true ∧ 92 ≤ free ∧ s.getP LLK_PORT_n_STATUS_XOFF_IN p = 0 then
        (s.updPort p (fun x => { x with relaySeq := (x.relaySeq + 1) % 256, relayed := some r })).popRec
      else s
    | _, _ => s)

/-- XOFF_IN_CHANGE (R268): the pin's level at time `t`, with its Port record. -/
def execXoffInChange (p : Port) (level : Bool) (t : Nat) (s : State) : Host.Outcome State Fault Refusal :=
  let s := { s with now := max s.now t }
  .next (if s.getP LLK_PORT_n_STATUS_XOFF_IN p = level.toNat then s
    else ((s.putP LLK_PORT_n_STATUS_XOFF_IN level.toNat p).updPort p (fun x => { x with xoffAt := s.now })).pushRec 6 [portNum p, 16 + level.toNat])

/-- XOFF_IN_HELD (R268, R274): asserted for longer than 10 ms at time `t`. -/
def execXoffInHeld (p : Port) (t : Nat) (s : State) : Host.Outcome State Fault Refusal :=
  let s := { s with now := max s.now t }
  .next (if s.getP LLK_PORT_n_STATUS_XOFF_IN p = 1 ∧ (s.port p).xoffAt + 10000000 < s.now then s.linkFault (2 * 256 + portNum p) else s)

/-- R254: every used port starts in TRAINING, an unused one is UNUSED. -/
def State.trainPorts (s : State) : State :=
  let one (s : State) (p : Port) : State :=
    (s.updPort p (fun x => { x with run := 0, entries := [], sent := none })).putP LLK_PORT_n_STATUS_STATE (if s.portUsed p then ptTRAINING else ptUNUSED) p
  one (one s .up) .dn

/-- LLE_FAULT (R274, R190): E52 and a block reset of the Line Link engine, whose ports then train. -/
def execLleFault (s : State) : Host.Outcome State Fault Refusal :=
  let s := (s.linkFault (4 * 256)).openWindow 2
  let xu := s.getP LLK_PORT_n_STATUS_XOFF_IN .up
  let xd := s.getP LLK_PORT_n_STATUS_XOFF_IN .dn
  let s := s.blockReset (blockBase .llk .a) 0x400
  .next (((s.putP LLK_PORT_n_STATUS_XOFF_IN xu .up).putP LLK_PORT_n_STATUS_XOFF_IN xd .dn).trainPorts.showEntries)

/-- REC_FLUSH_TIMEOUT (R272): the oldest record has waited FLUSH ms. -/
def execRecFlushTimeout (s : State) : Host.Outcome State Fault Refusal :=
  .next (if s.get REC_CFG_FLUSH ≠ 0 ∧ s.recd.fifo ≠ [] then s.putFlag REC_STATUS_RDY true else s)

/-- REC_CLOCK_TIMEOUT (R274): REC_RDY for longer than 1 s without a REC_CLK edge. -/
def execRecClockTimeout (s : State) : Host.Outcome State Fault Refusal :=
  .next (if s.flag REC_STATUS_RDY then (s.putFlag REC_STATUS_CLK_SEEN false).linkFault (5 * 256) else s.putFlag REC_STATUS_CLK_SEEN false)

/-- Byte `i` of a record's entries, high byte first. -/
def recByte (r : List Nat) (i : Nat) : Nat :=
  let e := (r[i / 2]?).getD 0
  if i % 2 = 0 then e / 256 % 256 else e % 256

/-- REC_CLK_EDGE (R269): after a falling edge the next byte of the oldest record, with REC_VALID; 0x00 and REC_VALID low while the FIFO is empty. Records leave by relay instead while RELAY is set (R273). -/
def execRecClkEdge (s : State) : Host.Outcome State Fault Refusal :=
  let s := s.putFlag REC_STATUS_CLK_SEEN true
  .next (match s.relayPort, s.recd.fifo with
    | none, r :: _ =>
      let i := s.recd.sent
      let s := { s with recd := { s.recd with d := recByte r i, valid := true, sent := i + 1 } }
      if i + 1 < 2 * r.length then s else s.popRec
    | _, _ => { s with recd := { s.recd with d := 0, valid := false } })

end Sys2Proof.Machine
end

