-- ==== Sys2Proof/Machine/Inputs.lean ====
section
/-! DEFINITION. The safe inputs, test pulses and fast-kill pairs (03_safe_inputs.md). -/

namespace Sys2Proof.Machine

open Sys2Proof

/-! ## Pins and pairs -/

/-- SIN_PAIR_n_CFG.MODE: 0 unused, 1 equivalent, 2 antivalent, 3 split (R79). -/
def State.pairMode (s : State) (n : Nat) : Nat := s.get SIN_PAIR_n_CFG_MODE .a n

/-- The level a pin shows when released, by the pair's mode (R79): pin y of an antivalent pair is low. -/
def releasedLevel (mode pin : Nat) : Bool := !(mode == 2 && pin % 2 == 1)

/-- The agreed sample of a pin on one die. -/
def State.sample (s : State) (c : Chan) (pin : Nat) : Bool := (twoAt s.inp.agreed c).getLsbD pin

/-- A pin's sample on die `c` shows the released state. -/
def State.rel (s : State) (c : Chan) (n pin : Nat) : Bool := s.sample c pin == releasedLevel (s.pairMode n) pin

/-- Both samples of a pin show released. -/
def State.pinRel (s : State) (n pin : Nat) : Bool := s.rel .a n pin && s.rel .b n pin

/-- Both samples of a pin show demand. -/
def State.pinDem (s : State) (n pin : Nat) : Bool := !s.rel .a n pin && !s.rel .b n pin

/-- The source of pin x or y of a pair: 0 to 7 a TP source, 8 external (R81). -/
def State.pinSrc (s : State) (n : Nat) (y : Bool) : Nat := if y then s.get SIN_PAIR_n_CFG_SRC_Y .a n else s.get SIN_PAIR_n_CFG_SRC_X .a n

/-- The source that supplies a pin of a used pair. -/
def State.srcOf (s : State) (pin : Nat) : Option Nat :=
  if s.pairMode (pin / 2) = 0 then none else some (s.pinSrc (pin / 2) (pin % 2 == 1))

/-- A pair has a pin supplied by source `k`. -/
def State.suppliedBy (s : State) (n k : Nat) : Bool := s.pairMode n != 0 && (s.pinSrc n false == k || s.pinSrc n true == k)

/-- A fault of the pair is latched in SIN_PAIR_n_FAULT (all bits but STUCK_DIE, PEND_CYCLE and XSRC). -/
def State.pairFaulty (s : State) (n : Nat) : Bool :=
  s.flag SIN_PAIR_n_FAULT_DISC .a n || s.flag SIN_PAIR_n_FAULT_CMP_DIS_X .a n || s.flag SIN_PAIR_n_FAULT_CMP_DIS_Y .a n
  || s.flag SIN_PAIR_n_FAULT_STUCK_X .a n || s.flag SIN_PAIR_n_FAULT_STUCK_Y .a n
  || s.flag SIN_PAIR_n_FAULT_SHORT_X .a n || s.flag SIN_PAIR_n_FAULT_SHORT_Y .a n
  || s.flag SIN_PAIR_n_FAULT_XCIRC_X .a n || s.flag SIN_PAIR_n_FAULT_XCIRC_Y .a n || s.flag SIN_PAIR_n_FAULT_SRC .a n

/-- The bookkeeping of pair `n`. -/
def State.pair (s : State) (n : Nat) : PairSt := tabGet {} s.pairs n

/-- Pair `n`'s bookkeeping changed. -/
def State.updPair (s : State) (n : Nat) (f : PairSt → PairSt) : State := { s with pairs := tabUpd {} s.pairs n f }

/-- The pair is held in demand whatever its samples show: a latched fault, a pending cycle (R86), a pulse still owed (R94), or another pair's cross-circuit (R92). -/
def State.pairHeld (s : State) (n : Nat) : Bool :=
  s.pairFaulty n || s.flag SIN_PAIR_n_FAULT_PEND_CYCLE .a n || (s.pair n).owesX || (s.pair n).owesY || (s.pair n).heldCross

/-- R80: the pair reads released. -/
def State.pairReleased (s : State) (n : Nat) : Bool :=
  (s.pairMode n == 1 || s.pairMode n == 2) && s.pinRel n (2 * n) && s.pinRel n (2 * n + 1) && !s.pairHeld n

/-- R80: a split pin reads high. -/
def State.pinHigh (s : State) (pin : Nat) : Bool :=
  s.pairMode (pin / 2) == 3 && s.sample .a pin && s.sample .b pin && !s.pairHeld (pin / 2)

/-- The status word of pair `n`, as the detail of its fault records (R188). -/
def State.pairDetail (s : State) (n : Nat) : Nat := (regWord s.regs 0 (blockBase .sin .a + 0x200 + 4 * n)).toNat

/-- A fault field of the pair, in both views. -/
def State.pairBit (s : State) (f : Fld) (n : Nat) (b : Bool := true) : State := s.putBoth f b.toNat n

/-! ## Agreement at the boundary (R85, R86, R95) -/

/-- R85: one boundary of the discrepancy timer: it starts when one pin shows demand on both samples and the other released on both, and stops when the pins agree. -/
def State.discStep (s : State) (n : Nat) : State :=
  let x := 2 * n
  let y := 2 * n + 1
  let apart := (s.pinDem n x && s.pinRel n y) || (s.pinRel n x && s.pinDem n y)
  let same := (s.pinDem n x && s.pinDem n y) || (s.pinRel n x && s.pinRel n y)
  let d := (s.pair n).disc
  let d' := if same then 0 else if apart || d != 0 then d + 1 else 0
  let s := s.updPair n (fun p => { p with disc := d' })
  let s := s.putBoth SIN_DISC_RUN_RUN (setBit (s.get SIN_DISC_RUN_RUN) n (d' != 0))
  if same then s.clearCond 28 (.pair n) else s

/-- R86: after a discrepancy fault, demand on all four samples and then release of both pins within DISC of each other clears PEND_CYCLE. -/
def State.cycleStep (s : State) (n : Nat) : State :=
  if s.flag SIN_PAIR_n_FAULT_PEND_CYCLE .a n then
    let x := 2 * n
    let y := 2 * n + 1
    let p := s.pair n
    if s.pinDem n x && s.pinDem n y then s.updPair n (fun p => { p with allDemand := true, back := 0 })
    else if p.allDemand && s.pinRel n x && s.pinRel n y then
      if p.back ≤ s.cyclesOfMs (s.get SIN_PAIR_n_TIME_DISC .a n) then (s.pairBit SIN_PAIR_n_FAULT_PEND_CYCLE n false).updPair n (fun p => { p with allDemand := false, back := 0 })
      else s.updPair n (fun p => { p with allDemand := false, back := 0 })
    else if p.allDemand && (s.pinRel n x || s.pinRel n y || p.back != 0) then s.updPair n (fun p => { p with back := p.back + 1 })
    else s
  else s

/-- One pair at agreement: discrepancy and cycle of an equivalent or antivalent pair; equal samples of both pins end an E24 condition; the released state shown. -/
def State.pairStep (s : State) (n : Nat) : State :=
  if s.pairMode n = 0 then s
  else
    let s := if s.pairMode n = 3 then s else (s.discStep n).cycleStep n
    let s := if s.sample .a (2 * n) == s.sample .b (2 * n) && s.sample .a (2 * n + 1) == s.sample .b (2 * n + 1) then s.clearCond 24 (.pair n) else s
    s.putBoth SIN_PAIR_STATE_RELEASED (setBit (s.get SIN_PAIR_STATE_RELEASED) n (s.pairReleased n))

/-- R95: both channels hold the same 96 samples and evaluate every pair on them. In single mode each sample of the faulted die is replaced by the survivor's own (R222). -/
def State.agreeInputs (s : State) : State :=
  let v : Two (BitVec 48) :=
    if s.stayMode .a = 2 then ⟨s.inp.latched.a, s.inp.latched.a⟩
    else if s.stayMode .b = 2 then ⟨s.inp.latched.b, s.inp.latched.b⟩
    else s.inp.latched
  let s := { s with inp := { s.inp with agreed := v, got := ⟨false, false⟩ } }
  let s := (s.putBoth SIN_CMP_A_LO_FILT (v.a.toNat % 2 ^ 32)).putBoth SIN_CMP_A_HI_FILT (v.a.toNat / 2 ^ 32)
  let s := (s.putBoth SIN_CMP_B_LO_FILT (v.b.toNat % 2 ^ 32)).putBoth SIN_CMP_B_HI_FILT (v.b.toNat / 2 ^ 32)
  (List.range 24).foldl State.pairStep s

/-- R110: readback and kill-path states of both dies in both views. -/
def State.agreeReadback (s : State) : State :=
  let s := (s.putBoth SOUT_RB_M_DIE_A s.outs.readM.a.toNat).putBoth SOUT_RB_M_DIE_B s.outs.readM.b.toNat
  ((s.putBoth SOUT_RB_O_DIE_A s.outs.readO.a.toNat).putBoth SOUT_RB_O_DIE_B s.outs.readO.b.toNat).showKill

/-- R186: what both collectors sent is charged in this cycle's evaluation by both channels. -/
def State.exchangeFaults (s : State) : State :=
  let all := s.fc.a.sent ++ s.fc.b.sent.filter (fun l => !s.fc.a.sent.contains l)
  (s.updFc .a (fun x => { x with received := all })).updFc .b (fun x => { x with received := all })

/-- STAY_INPUT_FRAME (R95, R110, R186): channel `c` receives the other die's samples, verdicts, readback and newly latched lines. When both channels have them, the vectors are agreed. -/
def execStayInputFrame (c : Chan) (h : StayHead) (s : State) : Host.Outcome State Fault Refusal :=
  .next (s.receive c .cycle h true (fun s =>
    let o := otherChan c
    let s := (s.put FC_OTHER_LO_LINES (s.get FC_STATUS_LO_LINES o) c).put FC_OTHER_HI_LINES (s.get FC_STATUS_HI_LINES o) c
    let s := { s with inp := { s.inp with got := twoSet s.inp.got c true } }
    if s.inp.got.a && s.inp.got.b then (s.agreeInputs.agreeReadback).exchangeFaults else s))

/-! ## Filter, discrepancy and comparator events -/

/-- INPUT_FILTER_CHANGE (R82): the raw samples of a pin on die `c` have shown `level` for t_filter. An unpowered die delivers no samples (R78). -/
def execInputFilterChange (c : Chan) (pin : Fin 48) (level : Bool) (s : State) : Host.Outcome State Fault Refusal :=
  .next (if (twoAt s.die c).powered then
      let m : BitVec 48 := BitVec.ofNat 48 (2 ^ pin.val)
      let v := twoAt s.inp.filt c
      { s with inp := { s.inp with filt := twoSet s.inp.filt c (if level then v ||| m else v &&& ~~~m) } }
    else s)

/-- DISCREPANCY_TIMEOUT (R85, R86): the timer of pair `n` has run longer than DISC. -/
def execDiscrepancyTimeout (n : Fin 24) (s : State) : Host.Outcome State Fault Refusal :=
  .next (if (s.pair n.val).disc ≠ 0 then
      let s := ((s.pairBit SIN_PAIR_n_FAULT_DISC n.val).pairBit SIN_PAIR_n_FAULT_PEND_CYCLE n.val).updPair n.val (fun p => { p with allDemand := false, back := 0 })
      let s := s.putBoth SIN_PAIR_STATE_RELEASED (setBit (s.get SIN_PAIR_STATE_RELEASED) n.val false)
      s.raise (class1Both 28 (.pair n.val) (s.pairDetail n.val))
    else s)

/-- COMPARATOR_DISAGREEMENT (R90): the two filtered samples of a pin of a used pair have differed for max(2 ms, 4 · T_G). -/
def execComparatorDisagreement (pin : Fin 48) (s : State) : Host.Outcome State Fault Refusal :=
  let n := pin.val / 2
  .next (if s.pairMode n ≠ 0 ∧ s.sample .a pin.val ≠ s.sample .b pin.val then
      let s := s.pairBit (if pin.val % 2 = 1 then SIN_PAIR_n_FAULT_CMP_DIS_Y else SIN_PAIR_n_FAULT_CMP_DIS_X) n
      let s := s.putBoth SIN_PAIR_STATE_RELEASED (setBit (s.get SIN_PAIR_STATE_RELEASED) n false)
      s.raise (class1Both 24 (.pair n) (s.pairDetail n))
    else s)

/-! ## Test pulses (R87 to R89) -/

/-- The channel whose IOS drives a source: TP0 to TP3 on die A, TP4 to TP7 on die B. -/
def srcChan (n : Nat) : Chan := if n < 4 then .a else .b

/-- A source that supplies a pin. -/
def State.srcUsed (s : State) (n : Nat) : Bool := (List.range 24).any (fun k => s.suppliedBy k n)

/-- The bookkeeping of source `n`. -/
def State.src (s : State) (n : Nat) : SrcSt := tabGet {} s.srcs n

def State.updSrc (s : State) (n : Nat) (f : SrcSt → SrcSt) : State := { s with srcs := tabUpd {} s.srcs n f }

/-- The time (ns) at which a source's INTERVAL expires; a source that has not pulsed is due from the beginning of dual mode (R88, rule 8). -/
def State.srcExpiry (s : State) (n : Nat) : Nat :=
  if (s.src n).pulsed then (s.src n).lastStart + s.get TPS_n_CFG_INTERVAL .a n * 1000000 else 0

/-- A cam test window that targets group `g` is open in channel `c` (R68). -/
def State.testWindow (s : State) (c : Chan) (g : Nat) : Bool :=
  (List.range 64).any (fun w => (twoAt s.ae c).win.getLsbD w && s.flag CAM_WIN_n_CFG_TEST c w && s.get CAM_WIN_n_CFG_TARGET c w == g)

/-- Both channels in dual mode: no test pulse or output test starts otherwise (R222, R223). -/
def State.dual (s : State) : Bool := s.stayMode .a == 1 && s.stayMode .b == 1

/-- TEST_PULSE_DUE (R88, rules 2, 3, 8): at time `t` source `n` is due: INTERVAL has passed, or it is placed, half of INTERVAL has passed and a window of its group is open. -/
def execTestPulseDue (n : Fin 8) (t : Nat) (s : State) : Host.Outcome State Fault Refusal :=
  let s := { s with now := max s.now t }
  let half := (s.src n.val).lastStart + s.get TPS_n_CFG_INTERVAL .a n.val * 500000
  let open_ := s.flag TPS_n_CFG_PLACED .a n.val && decide (half ≤ s.now) && s.testWindow (srcChan n.val) (n.val + 1)
  .next (if s.dual && s.srcUsed n.val && (decide (s.srcExpiry n.val ≤ s.now) || open_) then s.updSrc n.val (fun x => { x with due := true }) else s)

/-- R88, rule 4: of the due sources the one whose INTERVAL expires first, on a tie the lower number. -/
def State.nextSource (s : State) : Option Nat :=
  (List.range 8).foldl (fun best n =>
    if (s.src n).due then
      match best with
      | none => some n
      | some b => if s.srcExpiry n < s.srcExpiry b then some n else some b
    else best) none

/-- R98: the fast-kill pins of a source. -/
def State.blankPins (s : State) (k : Nat) : BitVec 48 :=
  BitVec.ofNat 48 ((List.range 48).foldl (fun m p =>
    if s.srcOf p = some k ∧ s.flag SIN_PAIR_n_CFG_FK_EN .a (p / 2) then m + 2 ^ p else m) 0)

/-- TEST_PULSE_TOKEN_GRANT (R88, R98): the free token goes to the due source that expires first; the pulse is announced through Stay, and both dies blank fast-kill on its pins. `high` are the pins that read high on both comparators in the 20 µs before. -/
def execTestPulseTokenGrant (high : BitVec 48) (s : State) : Host.Outcome State Fault Refusal :=
  .next (if s.pulse.phase = .idle ∧ s.dual = true then
      match s.nextSource with
      | none => s
      | some k =>
        let c := srcChan k
        let b := s.blankPins k
        let s := { s with pulse := { phase := .announce, src := k, confirmed := twoSet ⟨false, false⟩ c true, judged := high } }
        let s := ((s.updDie .a (fun d => { d with blank := b })).updDie .b (fun d => { d with blank := b })).updSrc k (fun x => { x with due := false, badPulse := false })
        (s.putBoth TPS_n_STAT_ACTIVE 1 k).sent c .cycle
    else s)

/-- TEST_PULSE_START (R88, rules 5 and 6): 20 µs after a confirmed announcement, at time `t`, the source is driven to 0 V. -/
def execTestPulseStart (t : Nat) (s : State) : Host.Outcome State Fault Refusal :=
  let s := { s with now := max s.now t }
  .next (if s.pulse.phase = .announce ∧ s.pulse.confirmed = ⟨true, true⟩ then
      let k := s.pulse.src
      let late := (s.src k).pulsed && s.flag TPS_n_CFG_PLACED .a k && decide (s.srcExpiry k < s.now)
      let s := if late then (s.satInc TPS_n_STAT_UNPLACED .a k).satInc TPS_n_STAT_UNPLACED .b k else s
      let s := s.updSrc k (fun x => { x with pulsed := true, lastStart := s.now, late := late })
      { s.putBoth TPS_n_LAST_UPDATE (s.lcStamp (srcChan k)) k with pulse := { s.pulse with phase := .pulse } }
    else s)

/-- R91, R92: an input path of a die has failed. -/
def State.dieInputFault (s : State) (c : Chan) : State :=
  s.raiseOnce ⟨26, 2, chanCharge c, .both, .none, (regWord s.regs 0 (blockBase .sin .a + 0x124)).toNat⟩

/-- E25 on a pin, attributed to the die whose comparator stayed high; three different pins of a die within 60 s are E26 (R91). -/
def State.stuckPin (s : State) (die : Chan) (pin : Nat) : State :=
  let n := pin / 2
  let s := (s.pairBit (if pin % 2 = 1 then SIN_PAIR_n_FAULT_STUCK_Y else SIN_PAIR_n_FAULT_STUCK_X) n).putBoth SIN_PAIR_n_FAULT_STUCK_DIE (chanNum die) n
  let f := match die with
    | .a => SIN_DIE_STATUS_STUCK_CNT_A
    | .b => SIN_DIE_STATUS_STUCK_CNT_B
  let s := (s.satInc f .a).satInc f .b
  let recent := ((twoAt s.outs.stuck die).filter (fun e => s.now ≤ e.1 + 60000000000 && e.2 != pin)) ++ [(s.now, pin)]
  let s := { s with outs := { s.outs with stuck := twoSet s.outs.stuck die recent } }
  let s := s.raiseOnce (class1Both 25 (.pair n) (s.pairDetail n))
  if 3 ≤ recent.length then s.dieInputFault die else s

/-- E29 on source `k`: every pair it supplies is held in demand (R92). -/
def State.sourceFault (s : State) (k : Nat) : State :=
  let s := (List.range 24).foldl (fun s n => if s.suppliedBy n k then s.pairBit SIN_PAIR_n_FAULT_SRC n else s) s
  s.raise (class1Both 29 (.source k) (s.get TPS_n_STAT_NOT_LOW .a k * 4 + s.get TPS_n_STAT_LOW_IDLE .a k * 8))

/-- One judged pin at the end of WIDTH (R89): own pins first, then other sources' pins. -/
def State.judgeWidth (s : State) (a b : PulseObs) (pin : Nat) : State :=
  if s.pulse.judged.getLsbD pin = false then s
  else
    let n := pin / 2
    let lowA := a.lowEnd.getLsbD pin
    let lowB := b.lowEnd.getLsbD pin
    let mark (s : State) : State := { s with pulse := { s.pulse with wasLow := s.pulse.wasLow ||| BitVec.ofNat 48 (2 ^ pin) } }
    match s.srcOf pin with
    | none => s
    | some k =>
      if k = s.pulse.src then
        if lowA && lowB then mark s
        else if lowA then s.stuckPin .b pin
        else if lowB then s.stuckPin .a pin
        else
          let s := s.pairBit (if pin % 2 = 1 then SIN_PAIR_n_FAULT_SHORT_Y else SIN_PAIR_n_FAULT_SHORT_X) n
          s.raiseOnce (class1Both 27 (.pair n) (s.pairDetail n))
      else if k = 8 then s
      else if lowA && lowB then mark s
      else if a.wentLow.getLsbD pin != b.wentLow.getLsbD pin then
        let s := s.pairBit (if pin % 2 = 1 then SIN_PAIR_n_FAULT_CMP_DIS_Y else SIN_PAIR_n_FAULT_CMP_DIS_X) n
        s.raise (class1Both 24 (.pair n) (s.pairDetail n))
      else s

/-- TEST_PULSE_WIDTH_END (R89): each IOS judges the pulse on its own die; `tpLow`: the source's readback was below 2 V. A source fault gives no verdict on any pin. -/
def execTestPulseWidthEnd (a b : PulseObs) (tpLow : Bool) (s : State) : Host.Outcome State Fault Refusal :=
  .next (if s.pulse.phase = .pulse then
      let k := s.pulse.src
      let s := { s with pulse := { s.pulse with phase := .settle } }
      let s := s.putBoth TPS_n_STAT_NOT_LOW (!tpLow).toNat k
      if tpLow then (List.range 48).foldl (fun s p => s.judgeWidth a b p) s
      else (s.updSrc k (fun x => { x with badPulse := true })).sourceFault k
    else s)

/-- One pin at the end of SETTLE (R89): an own pin low in the pulse and high again passes, which pays a pulse owed under R94; another source's pin is a cross-circuit, which holds its pair and every pair of the pulsing source (R92). -/
def State.judgeSettle (s : State) (high : BitVec 48) (pin : Nat) : State :=
  if s.pulse.wasLow.getLsbD pin && high.getLsbD pin then
    let n := pin / 2
    let k := s.pulse.src
    if s.srcOf pin = some k then
      s.updPair n (fun p => if pin % 2 = 1 then { p with owesY := false } else { p with owesX := false })
    else
      let s := (s.pairBit (if pin % 2 = 1 then SIN_PAIR_n_FAULT_XCIRC_Y else SIN_PAIR_n_FAULT_XCIRC_X) n).putBoth SIN_PAIR_n_FAULT_XSRC k n
      let s := (List.range 24).foldl (fun s m => if m ≠ n ∧ s.suppliedBy m k = true then
        (s.updPair m (fun p => { p with heldCross := true })).raiseOnce (class1Both 27 (.pair m) (s.pairDetail n)) else s) s
      s.raiseOnce (class1Both 27 (.pair n) (s.pairDetail n))
  else s

/-- TEST_PULSE_SETTLE_END (R89): the pin verdicts complete with the pins that are high again on both comparators; blanking ends and the token is freed. A source with a good pulse is free of its E29 condition. -/
def execTestPulseSettleEnd (high : BitVec 48) (s : State) : Host.Outcome State Fault Refusal :=
  .next (if s.pulse.phase = .settle then
      let k := s.pulse.src
      let s := (List.range 48).foldl (fun s p => s.judgeSettle high p) s
      let s := if (s.src k).badPulse then s else (s.putBoth TPS_n_STAT_LOW_IDLE 0 k).clearCond 29 (.source k)
      let s := (s.updDie .a (fun d => { d with blank := 0 })).updDie .b (fun d => { d with blank := 0 })
      let late := (s.src k).late
      let s := { s.putBoth TPS_n_STAT_ACTIVE 0 k with pulse := {} }
      s.pushRec 9 [k, (if (s.src k).badPulse then 1 else 0) + (if late then 2 else 0)]
    else s)

/-- SOURCE_LOW_IDLE (R93): outside announce, pulse and settle the readback of a source stays below VS − 3 V for 50 µs. -/
def execSourceLowIdle (n : Fin 8) (s : State) : Host.Outcome State Fault Refusal :=
  .next (if s.srcUsed n.val && !(s.pulse.phase != .idle && s.pulse.src == n.val) then
      (s.putBoth TPS_n_STAT_LOW_IDLE 1 n.val).sourceFault n.val
    else s)

/-! ## Fast-kill (R97 to R100, R28) -/

/-- FK_GROUP of pair `n`, as loaded into die `c`. -/
def State.fkGroup (s : State) (c : Chan) (n : Nat) : BitVec 16 := BitVec.ofNat 16 (s.get SIN_PAIR_n_CFG_FK_GROUP c n)

/-- A fast-kill pair (R97): FK_EN in equivalent or antivalent mode. -/
def State.isFk (s : State) (c : Chan) (n : Nat) : Bool :=
  s.flag SIN_PAIR_n_CFG_FK_EN c n && (s.get SIN_PAIR_n_CFG_MODE c n == 1 || s.get SIN_PAIR_n_CFG_MODE c n == 2)

/-- The switches of die `c` held by pairs that have fired and not left demand. -/
def State.fkWanted (s : State) (c : Chan) : BitVec 16 :=
  (List.range 24).foldl (fun m n => if (twoAt s.die c).fkFired.getLsbD n then m ||| s.fkGroup c n else m) 0

/-- SIN_FK_STAT.FIRED: set while either die has not released the pair. -/
def State.showFk (s : State) : State := s.putBoth SIN_FK_STAT_FIRED (s.die.a.fkFired ||| s.die.b.fkFired).toNat

/-- R28: a switch held by fast-kill is free when no pair that holds it is in demand and an opening command and, later, a closing one have come since the kill. -/
def State.fkFree (s : State) (c : Chan) : State :=
  let w := s.fkWanted c
  (s.updDie c (fun d =>
    let free := d.heldFk &&& d.fkCycled &&& ~~~w
    { d with heldFk := d.heldFk &&& ~~~free, fkOpened := d.fkOpened &&& ~~~free, fkCycled := d.fkCycled &&& ~~~free })).showKill

/-- FAST_KILL (R97): a pin (`y`: pin y) of pair `n` has shown demand on die `c`'s own comparators for FK_FILT. A blanked pin does not fire. -/
def execFastKill (c : Chan) (n : Fin 24) (y : Bool) (s : State) : Host.Outcome State Fault Refusal :=
  let pin := 2 * n.val + y.toNat
  .next (if (twoAt s.die c).powered && s.isFk c n.val && !(twoAt s.die c).blank.getLsbD pin then
      let g := s.fkGroup c n.val
      (s.kill c g 0 (fun d => { d with
        heldFk := d.heldFk ||| g
        fkFired := d.fkFired ||| BitVec.ofNat 24 (2 ^ n.val)
        fkOpened := d.fkOpened &&& ~~~g
        fkCycled := d.fkCycled &&& ~~~g })).showFk.settle
    else s)

/-- FAST_KILL_RELEASE (R97, R28): both pins of the pair have read released on die `c` for FK_FILT, neither blanked in that span; the die judges that the pair has left demand. -/
def execFastKillRelease (c : Chan) (n : Fin 24) (s : State) : Host.Outcome State Fault Refusal :=
  let d := twoAt s.die c
  .next (if d.fkFired.getLsbD n.val && !d.blank.getLsbD (2 * n.val) && !d.blank.getLsbD (2 * n.val + 1) then
      ((s.updDie c (fun d => { d with fkFired := d.fkFired &&& ~~~(BitVec.ofNat 24 (2 ^ n.val)) })).fkFree c).showFk
    else s)

/-- The words of R100: SIN_PAIR_0_CFG to SIN_PAIR_23_CFG. -/
def State.fkWordsOf (s : State) (c : Chan) : List Nat := (List.range 24).map (fun n => (regWord s.regs 0 (blockBase .sin c + 8 * n)).toNat)

/-- FAST_KILL_CRC_CHECK (R100): the die returns the CRC-32C of the words it holds, `upset` having changed one of them since the last check, and the channel compares it with the image's. -/
def execFastKillCrcCheck (c : Chan) (upset : Option (Fin 24 × Word)) (s : State) : Host.Outcome State Fault Refusal :=
  let s := match upset with
    | none => s
    | some (k, w) => s.updDie c (fun d => { d with fkWords := d.fkWords.set k.val w.toNat })
  let crc := crc32cWords (twoAt s.die c).fkWords
  let s := s.put SIN_FK_CRC_DIE_CRC crc c
  .next (if crc = s.get SIN_FK_CRC_IMG_CRC c then s.clearCond 31 .none else s.raise ⟨31, 2, chanCharge c, .both, .none, crc⟩)

end Sys2Proof.Machine
end

