-- ==== Sys2Proof/Machine/Outputs.lean ====
section
/-! DEFINITION. The safe outputs: readback, output tests and their faults (04_safe_outputs.md). -/

namespace Sys2Proof.Machine

open Sys2Proof

/-! ## Outputs and their faults -/

/-- SOUT_n_CFG.MODE: 0 unused, 1 PP, 2 PM (R103). -/
def State.outMode (s : State) (n : Nat) : Nat := s.get SOUT_n_CFG_MODE .a n

/-- A PM output that LSk serves (R104). -/
def State.lsMember (s : State) (k n : Nat) : Bool := s.outMode n == 2 && s.get SOUT_n_CFG_LS_SEL .a n == k

/-- LSk is used. -/
def State.lsUsed (s : State) (k : Nat) : Bool := (List.range 16).any (s.lsMember k)

/-- A tested output (R113). -/
def State.tested (s : State) (n : Nat) : Bool := s.outMode n != 0 && s.flag SOUT_n_CFG_TESTED .a n

/-- A fault of R120 that holds the output off is latched; E39 does so in Class 1 only. -/
def State.outFaulty (s : State) (n : Nat) : Bool :=
  s.flag SOUT_n_FAULT_STUCK_A .a n || s.flag SOUT_n_FAULT_STUCK_B .a n || s.flag SOUT_n_FAULT_OPEN_A .a n || s.flag SOUT_n_FAULT_OPEN_B .a n
  || s.flag SOUT_n_FAULT_FEED .a n || s.flag SOUT_n_FAULT_LIMIT_A .a n || s.flag SOUT_n_FAULT_LIMIT_B .a n || s.flag SOUT_n_FAULT_RB_DIS .a n
  || s.flag SOUT_n_FAULT_LS .a n || (s.flag SOUT_n_FAULT_OPEN_LOAD .a n && s.flag SOUT_n_CFG_OPEN_CLASS .a n)

/-- A switch of the output is held open by a kill path. -/
def State.outKilled (s : State) (n : Nat) : Bool := s.die.a.held.getLsbD n || s.die.b.held.getLsbD n

/-- SO_OK of an output (R125): no output fault latched and no switch held by a kill path. -/
def State.soOk (s : State) (n : Nat) : Bool :=
  !(s.outFaulty n || s.flag SOUT_n_FAULT_OPEN_LOAD .a n) && !s.outKilled n

/-- The output's bookkeeping. -/
def State.out (s : State) (n : Nat) : OutSt := tabGet {} s.outs.outs n

def State.updOut (s : State) (n : Nat) (f : OutSt → OutSt) : State :=
  { s with outs := { s.outs with outs := tabUpd {} s.outs.outs n f } }

/-- Midpoint tests are owed before the output may be switched on (R119, R121). -/
def State.outOwes (s : State) (n : Nat) : Bool :=
  s.tested n && ((s.out n).owesMidA || (s.out n).owesMidB || (s.outMode n == 2 && s.outs.lsOwes.getLsbD (s.get SOUT_n_CFG_LS_SEL .a n)))

/-- The status word of an output, as the detail of its fault records. -/
def State.outDetail (s : State) (n : Nat) : Nat := (regWord s.regs 0 (blockBase .sout .a + 0xC + 0x20 * n)).toNat

/-- R120: three outputs of one die attributed under E32 or E33 within 60 s are E37. -/
def State.attributeTo (s : State) (die : Chan) (n : Nat) : State :=
  let f := match die with
    | .a => SOUT_DIE_STATUS_ATTR_CNT_A
    | .b => SOUT_DIE_STATUS_ATTR_CNT_B
  let s := (s.satInc f .a).satInc f .b
  let recent := ((twoAt s.outs.attr die).filter (fun e => s.now ≤ e.1 + 60000000000 && e.2 != n)) ++ [(s.now, n)]
  let s := { s with outs := { s.outs with attr := twoSet s.outs.attr die recent } }
  if 3 ≤ recent.length then
    s.raiseOnce ⟨37, 2, chanCharge die, .both, .none, (regWord s.regs 0 (blockBase .sout .a + 0x20C)).toNat⟩
  else s

/-- A Class 1 fault of output `n`: its bit, its line, and the attribution to a die where the fault names a switch. -/
def State.outFault (s : State) (n line : Nat) (f : Fld) (die : Option Chan) : State :=
  let s := s.putBoth f 1 n
  let s := s.raise (class1Both line (.output n) (s.outDetail n))
  match die with
  | some c => s.attributeTo c n
  | none => s

/-- E38 of LSk: the bit of SOUT_LS_k_STAT, and LS of every member (R120). -/
def State.lsFault (s : State) (k : Nat) (f : Fld) : State :=
  let s := s.putBoth f 1 k
  let s := (List.range 16).foldl (fun s n => if s.lsMember k n then s.putBoth SOUT_n_FAULT_LS 1 n else s) s
  s.raise (class1Both 38 (.ls k) (regWord s.regs 0 (blockBase .sout .a + 0x304 + 0x10 * k)).toNat)

/-- E32 of a switch. -/
def State.stuckClosed (s : State) (n : Nat) (c : Chan) : State :=
  s.outFault n 32 (match c with
    | .a => SOUT_n_FAULT_STUCK_A
    | .b => SOUT_n_FAULT_STUCK_B) (some c)

/-- E33 of a switch. -/
def State.failedOpen (s : State) (n : Nat) (c : Chan) : State :=
  s.outFault n 33 (match c with
    | .a => SOUT_n_FAULT_OPEN_A
    | .b => SOUT_n_FAULT_OPEN_B) (some c)

/-- E34. -/
def State.fedOutside (s : State) (n : Nat) : State := s.outFault n 34 SOUT_n_FAULT_FEED none

/-! ## Readback outside tests (R107 to R110) -/

/-- A node is not at a level on some die. -/
def notAt (want a b : Level) : Bool := a != want || b != want

/-- R108, R109: the fault that a readback lasting 3 samples shows on output `n`, from the actual switch states; `limA`, `limB`: a switch is in current limit. -/
def State.judgeReadback (s : State) (n : Nat) (o : TestObs) (limA limB : Bool) : State :=
  let ca := (s.closed .a).getLsbD n
  let cb := (s.closed .b).getLsbD n
  let killA := s.die.a.held.getLsbD n
  let killB := s.die.b.held.getLsbD n
  let cmdA := s.die.a.cmd.getLsbD n
  let cmdB := s.die.b.cmd.getLsbD n
  if ca && cb then
    if notAt .h o.mA o.mB then (if limA then s else s.failedOpen n .a)
    else if notAt .h o.oA o.oB then (if limB then s else s.failedOpen n .b)
    else s
  else if (!ca && !cb) || (killA && cmdB) then
    if killB && cmdA && !killA then s
    else if notAt .l o.mA o.mB then s.stuckClosed n .a
    else if notAt .l o.oA o.oB then s.fedOutside n
    else s
  else if killB && cmdA then
    if notAt .h o.mA o.mB then (if limA then s else s.failedOpen n .a)
    else if notAt .l o.oA o.oB then (if o.forward then s.stuckClosed n .b else s.fedOutside n)
    else s
  else s

/-- R108 on an LSk: closed and D not L, or open with every member off and D L. -/
def State.judgeLs (s : State) (k : Nat) (o : TestObs) : State :=
  if s.lsClosed.getLsbD k then
    if o.dA != .l || o.dB != .l then s.lsFault k SOUT_LS_n_STAT_FAIL_CLOSE else s
  else if (List.range 16).all (fun n => !(s.lsMember k n && (s.closed .a).getLsbD n && (s.closed .b).getLsbD n)) && (o.dA == .l || o.dB == .l) then
    s.lsFault k SOUT_LS_n_STAT_STUCK
  else s

/-- OUTPUT_READBACK_FAULT (R108): unit 0 to 15 is an output, 16 to 19 an LSk. No check within 150 µs of the last command change or test end, nor while the unit is in a test; an unused output has none (R103). -/
def execOutputReadbackFault (unit : Fin 20) (t : Nat) (o : TestObs) (limA limB : Bool) (s : State) : Host.Outcome State Fault Refusal :=
  let s := { s with now := max s.now t }
  .next (if unit.val < 16 then
      if s.outMode unit.val ≠ 0 ∧ s.testHits (outBit unit.val) 0 = false ∧ (s.out unit.val).changed + 150000 ≤ s.now then s.judgeReadback unit.val o limA limB else s
    else if s.lsUsed (unit.val - 16) ∧ s.testHits 0 (BitVec.ofNat 4 (2 ^ (unit.val - 16))) = false then s.judgeLs (unit.val - 16) o
    else s)

/-- CURRENT_LIMIT_OPEN (R105): a switch has been in limit for 200 µs, opens and stays open; unit 16 to 19 is an LSk, of die B. -/
def execCurrentLimitOpen (c : Chan) (unit : Fin 20) (s : State) : Host.Outcome State Fault Refusal :=
  .next (if unit.val < 16 then
      let s := if s.testHits (outBit unit.val) 0 then s.abortTest else s
      let s := s.updDie c (fun d => { d with limitOpen := d.limitOpen ||| outBit unit.val })
      s.outFault unit.val 35 (match c with
        | .a => SOUT_n_FAULT_LIMIT_A
        | .b => SOUT_n_FAULT_LIMIT_B) none
    else
      let k := unit.val - 16
      let s := s.updDie .b (fun d => { d with lsLimitOpen := d.lsLimitOpen ||| BitVec.ofNat 4 (2 ^ k) })
      s.lsFault k SOUT_LS_n_STAT_LIMIT)

/-- READBACK_DISAGREEMENT (R110): the dies' comparators on a node of the output have differed for max(2 ms, 4 · T_G); the output is held off while they differ. -/
def execReadbackDisagreement (n : Fin 16) (s : State) : Host.Outcome State Fault Refusal :=
  .next (if s.outMode n.val = 0 then s else (s.updOut n.val (fun o => { o with disagree := true })).outFault n.val 36 SOUT_n_FAULT_RB_DIS none)

/-- OPEN_LOAD (R108): the load current of a closed output has been below OPEN_LOAD for 100 ms; Class 0 or 1 by OPEN_CLASS. -/
def execOpenLoad (n : Fin 16) (s : State) : Host.Outcome State Fault Refusal :=
  .next (if 0 < s.get SOUT_n_CFG_OPEN_LOAD .a n.val ∧ ((s.closed .a &&& s.closed .b).getLsbD n.val) = true then
      let s := s.putBoth SOUT_n_FAULT_OPEN_LOAD 1 n.val
      if s.flag SOUT_n_CFG_OPEN_CLASS .a n.val then s.raise (class1Both 39 (.output n.val) (s.outDetail n.val))
      else s.raiseOnce ⟨39, 0, .shared, .both, .output n.val, s.outDetail n.val⟩
    else s)

/-! ## Output tests (R111 to R119) -/

/-- The unit of a test: 2·n and 2·n + 1 are the A- and B-switch of SOn, 32 + k is LSk. -/
def testUnit (key : Nat) : Nat := if key < 32 then key / 2 else key - 32

/-- The channel whose die the tested switch is on; LSk is on die B. -/
def testChan (key : Nat) : Chan := if key < 32 ∧ key % 2 = 0 then .a else .b

def State.testSt (s : State) (key : Nat) : TestSt := tabGet {} s.outs.tests key

def State.updTest (s : State) (key : Nat) (f : TestSt → TestSt) : State :=
  { s with outs := { s.outs with tests := tabUpd {} s.outs.tests key f } }

/-- INTERVAL of a test in ns. -/
def State.testInterval (s : State) (key : Nat) : Nat :=
  1000000 * (if key < 32 then s.get SOUT_n_TEST_INTERVAL .a (key / 2) else s.get SOUT_LS_n_CFG_INTERVAL .a (key - 32))

/-- The time at which a test's INTERVAL expires. -/
def State.testExpiry (s : State) (key : Nat) : Nat := (s.testSt key).lastDone + s.testInterval key

/-- The test runs in this image: a tested output, or a used LSk. -/
def State.testUsed (s : State) (key : Nat) : Bool := if key < 32 then s.tested (key / 2) else s.lsUsed (key - 32)

/-- R119, R121: a midpoint test that is owed, and so due at once. -/
def State.testOwed (s : State) (key : Nat) : Bool :=
  if key < 32 then (if key % 2 = 0 then (s.out (key / 2)).owesMidA else (s.out (key / 2)).owesMidB) else s.outs.lsOwes.getLsbD (key - 32)

/-- R115, rule 8: no test starts while a kill path holds a switch of the output, or a latched fault holds it off; a test owed after the reset of a fault runs. -/
def State.testBlocked (s : State) (key : Nat) : Bool :=
  if key < 32 then s.outKilled (key / 2) || s.outFaulty (key / 2)
  else s.die.b.lsHeld.getLsbD (key - 32) || s.flag SOUT_LS_n_STAT_STUCK .a (key - 32) || s.flag SOUT_LS_n_STAT_FAIL_CLOSE .a (key - 32) || s.flag SOUT_LS_n_STAT_LIMIT .a (key - 32)

/-- The output is on: both switches commanded closed and closed. -/
def State.outOn (s : State) (n : Nat) : Bool := (s.closed .a &&& s.closed .b).getLsbD n

/-- The members of LSk are on: LSk is closed. -/
def State.lsOn (s : State) (k : Nat) : Bool := s.lsClosed.getLsbD k

/-- R111: which test runs is decided by the state of the output when it starts. -/
def State.testKindOf (s : State) (key : Nat) : TestKind :=
  if key < 32 then
    match s.outOn (key / 2), key % 2 with
    | true, 0 => .offA
    | true, _ => .offB
    | false, 0 => .midA
    | false, _ => .midB
  else if s.lsOn (key - 32) then .lsOff else .lsMid

/-- The length of a test slot in ns (R115, rule 4). -/
def State.slotLength (s : State) (key : Nat) : Nat :=
  1000 * (20 + s.get SOUT_VERIFY_VERIFY + (match s.testKindOf key with
    | .offA | .offB => 10 * s.get SOUT_n_TEST_WIDTH .a (key / 2)
    | .lsOff => 10 * s.get SOUT_LS_n_CFG_WIDTH .a (key - 32)
    | .midA | .midB | .lsMid => 200))

/-- R115, rules 3 and 4: a placed test has an open window of its group whose remaining part lasts at least the slot at the present speed; at STANDSTILL it lasts without limit. -/
def State.placedNow (s : State) (key : Nat) : Bool :=
  let c := testChan key
  (List.range 64).any (fun w =>
    (twoAt s.ae c).win.getLsbD w && s.flag CAM_WIN_n_CFG_TEST c w && s.get CAM_WIN_n_CFG_TARGET c w == 0x10 + key / 2 &&
      (s.flag LC_STATUS_STANDSTILL c || decide ((twoAt s.ae c).vel.natAbs * s.slotLength key ≤ s.winLeft c w * 256 * 1000000000)))

/-- OUTPUT_TEST_DUE (R115, rules 2 and 3): at time `t` the test is due. -/
def execOutputTestDue (key : Fin 36) (t : Nat) (s : State) : Host.Outcome State Fault Refusal :=
  let s := { s with now := max s.now t }
  let half := (s.testSt key.val).lastDone + s.testInterval key.val / 2
  let placed := decide (key.val < 32) && s.flag SOUT_n_CFG_PLACED .a (key.val / 2) && decide (half ≤ s.now) && s.placedNow key.val
  .next (if s.testUsed key.val && !s.testBlocked key.val && (s.testOwed key.val || decide (s.testExpiry key.val ≤ s.now) || placed) then
      s.updTest key.val (fun x => { x with due := true })
    else s)

/-- R115, rules 4, 5 and 8: the due test whose INTERVAL expires first; on a tie the lower number. A test due only through its window needs room for its slot. -/
def State.nextTest (s : State) : Option Nat :=
  (List.range 36).foldl (fun best k =>
    let ok := s.testUsed k && !s.testBlocked k && (s.testOwed k || ((s.testSt k).due && (decide (s.testExpiry k ≤ s.now) || decide (32 ≤ k) || s.placedNow k)))
    if ok then
      match best with
      | none => some k
      | some b => if s.testExpiry k < s.testExpiry b then some k else some b
    else best) none

/-- SOUT_n_FAULT.PHASE codes. -/
def phaseCode : TestKind → Nat
  | .offA => 2
  | .offB => 3
  | .midA => 4
  | .midB => 5
  | .lsOff | .lsMid => 0

/-- Whether a test is of an LSk. -/
def isLsKind : TestKind → Bool
  | .lsOff | .lsMid => true
  | _ => false

/-- The phase shown for the output under test. -/
def State.showPhase (s : State) (k : TestKind) (unit v : Nat) : State := if isLsKind k then s else s.putBoth SOUT_n_FAULT_PHASE v unit

/-- R122: on-resistance in mΩ of a voltage in mV at a current in mA, saturating. -/
def ronOf (mv ma : Nat) : Nat := min 65535 (roundFree (mv * 1000) ma).toNat

/-- R122: in the announce of an off-pulse, with at least 50 mA of load current, the voltage across each switch gives SOUT_n_RON. -/
def State.measureRon (s : State) (k : TestKind) (unit mvA mvB ma : Nat) (tjA tjB : Int) : State :=
  if (k = .offA ∨ k = .offB) ∧ 50 ≤ ma then
    let s := (s.putBoth SOUT_n_RON_RON_A (ronOf mvA ma) unit).putBoth SOUT_n_RON_RON_B (ronOf mvB ma) unit
    ((s.keepTemps 5).noteRon unit 0 (ronOf mvA ma) tjA).noteRon unit 1 (ronOf mvB ma) tjB
  else s

/-- OUTPUT_TEST_TOKEN_GRANT (R115, R122): at time `t` the free token goes to the due test that expires first; the slot is announced. The voltages across the switches (mV), the load current (mA) and the temperatures of the two I/O dies (°C) are those of the announce. -/
def execOutputTestTokenGrant (t mvA mvB ma : Nat) (tjA tjB : Int) (s : State) : Host.Outcome State Fault Refusal :=
  let s := { s with now := max s.now t }
  .next (if s.outs.slot.phase = .idle ∧ s.dual = true then
      match s.nextTest with
      | none => s
      | some key =>
        let unit := testUnit key
        let kind := s.testKindOf key
        let late := decide (key < 32) && s.flag SOUT_n_CFG_PLACED .a unit && decide (s.testExpiry key < s.now) && !s.testOwed key
        let s := if late then (s.satInc SOUT_n_STAT_UNPLACED .a unit).satInc SOUT_n_STAT_UNPLACED .b unit else s
        let s := s.updTest key (fun x => { x with due := false })
        let s := { s with outs := { s.outs with slot := { phase := .announce, kind := kind, unit := unit, confirmed := twoSet ⟨false, false⟩ (testChan key) true } } }
        (((s.showPhase kind unit 1).measureRon kind unit mvA mvB ma tjA tjB).sent (testChan key) .cycle)
    else s)

/-- The slot ends: the switches are at their command again, the token is free. -/
def State.endSlot (s : State) : State :=
  let t := s.outs.slot
  let s := s.showPhase t.kind t.unit 0
  let s := ({ s with outs := { s.outs with slot := {} } }).applyVerify
  if isLsKind t.kind then s else s.updOut t.unit (fun o => { o with changed := s.now })

/-- OUTPUT_TEST_PHASE_START (R111, R116): after the announce, and if both channels confirmed it, the switches take their test states. A Midpoint A closes the A-switch only when the probe has shown the B-switch open; an LS midpoint closes LSk only when D is not low. -/
def execOutputTestPhaseStart (o : TestObs) (s : State) : Host.Outcome State Fault Refusal :=
  let t := s.outs.slot
  .next (if t.phase = .announce ∧ t.confirmed = ⟨true, true⟩ then
      if t.kind = .midA ∧ o.diff ≠ .isOpen then (s.endSlot).stuckClosed t.unit .b
      else if t.kind = .lsMid ∧ (o.dA = .l ∨ o.dB = .l) then (s.endSlot).lsFault t.unit SOUT_LS_n_STAT_STUCK
      else ({ s with outs := { s.outs with slot := { t with phase := .test } } }).showPhase t.kind t.unit (phaseCode t.kind)
    else s)

/-- The verdict of a test phase (R116): `none` passes, otherwise the fault is latched. -/
def State.verdict (s : State) (k : TestKind) (n : Nat) (o : TestObs) : Option State :=
  match k with
  | .offA =>
    if o.mA == .h && o.mB == .h && o.oA == .h && o.oB == .h && o.forward then some (s.stuckClosed n .a)
    else if notAt .l o.oA o.oB && !o.forward then some (s.fedOutside n)
    else if notAt .l o.oA o.oB then some (s.stuckClosed n .a)
    else if notAt .l o.mA o.mB then some (s.stuckClosed n .a)
    else none
  | .offB =>
    if notAt .l o.oA o.oB then some (if o.forward then s.stuckClosed n .b else s.fedOutside n)
    else if notAt .h o.mA o.mB then some (s.failedOpen n .a)
    else none
  | .midA =>
    if notAt .l o.oA o.oB then some (s.stuckClosed n .b)
    else if notAt .h o.mA o.mB then some (s.failedOpen n .a)
    else none
  | .midB =>
    if o.mA == .h || o.mB == .h then some (s.stuckClosed n .a)
    else if o.diff != .isClosed then some (s.failedOpen n .b)
    else none
  | .lsOff => if o.dA != .h || o.dB != .h then some (s.lsFault n SOUT_LS_n_STAT_STUCK) else none
  | .lsMid => if o.dA != .l || o.dB != .l then some (s.lsFault n SOUT_LS_n_STAT_FAIL_CLOSE) else none

/-- The key of a running test. -/
def slotKey (k : TestKind) (unit : Nat) : Nat :=
  match k with
  | .offA | .midA => 2 * unit
  | .offB | .midB => 2 * unit + 1
  | .lsOff | .lsMid => 32 + unit

/-- R112: the test is complete: its time, its stamp, and the midpoint test it pays (R119). -/
def State.testDone (s : State) (k : TestKind) (n : Nat) : State :=
  let s := s.updTest (slotKey k n) (fun x => { x with lastDone := s.now, due := false })
  if isLsKind k then
    (if k = .lsMid then { s with outs := { s.outs with lsOwes := s.outs.lsOwes &&& ~~~(BitVec.ofNat 4 (2 ^ n)) } } else s)
  else
    let s := s.putBoth SOUT_n_LAST_UPDATE (s.lcStamp (testChan (slotKey k n))) n
    let s := s.updOut n (fun o => { o with owesMidA := o.owesMidA && k != .midA, owesMidB := o.owesMidB && k != .midB })
    s.pushRec 9 [n, phaseCode k]

/-- R118: on-commands that waited for a test take effect: each die's switches follow the last command applied. -/
def State.applyWant (s : State) : State :=
  (s.updDie .a (fun d => { d with cmd := d.want })).updDie .b (fun d => { d with cmd := d.want })

/-- OUTPUT_TEST_PHASE_END (R111, R116, R118): at time `t` the test phase ends with what it showed. O leaving L in Midpoint A made the die open the A-switch through its test abort, and is E32 of the B-switch. A passing test is complete; VERIFY follows unless an on-command waited. -/
def execOutputTestPhaseEnd (t : Nat) (o : TestObs) (s : State) : Host.Outcome State Fault Refusal :=
  let s := { s with now := max s.now t }
  let x := s.outs.slot
  .next (if x.phase = .test then
      match s.endSlot.verdict x.kind x.unit o with
      | some s' => s'
      | none =>
        let s := s.testDone x.kind x.unit
        if x.onWaits then s.endSlot.applyWant
        else ({ s with outs := { s.outs with slot := { x with phase := .verify, passed := true } } }).showPhase x.kind x.unit 6
    else s)

/-- R116, last row: the readback in VERIFY must be as R108 expects: both nodes high on an output that is on, both low on one that is off; D low while LSk is closed. -/
def verifyOk (k : TestKind) (o : TestObs) : Bool :=
  match k with
  | .offA | .offB => !notAt .h o.mA o.mB && !notAt .h o.oA o.oB
  | .midA | .midB => !notAt .l o.mA o.mB && !notAt .l o.oA o.oB
  | .lsOff => o.dA == .l && o.dB == .l
  | .lsMid => o.dA != .l && o.dB != .l

/-- OUTPUT_TEST_VERIFY_END (R111, R116): at time `t` VERIFY ends; a readback other than expected is E33 of the tested switch, or E38. The token is freed. -/
def execOutputTestVerifyEnd (t : Nat) (o : TestObs) (s : State) : Host.Outcome State Fault Refusal :=
  let s := { s with now := max s.now t }
  let x := s.outs.slot
  .next (if x.phase = .verify then
      let s := s.endSlot
      if verifyOk x.kind o then s
      else match x.kind with
        | .offA | .midA => s.failedOpen x.unit .a
        | .offB | .midB => s.failedOpen x.unit .b
        | .lsOff | .lsMid => s.lsFault x.unit SOUT_LS_n_STAT_FAIL_CLOSE
    else s)

end Sys2Proof.Machine
end

