-- ==== Sys2Proof/Machine/Graph.lean ====
section
/-! DEFINITION. The evaluation of the logic graph by one channel (05_logic_graph.md, 06_stop_and_motion.md): charging faults, the instances in their stored order, REEF and SBC, L1 presses, and the displays. -/

namespace Sys2Proof.Machine

open Sys2Proof

/-- Channel `c`'s graph changed. -/
def State.updGraph (s : State) (c : Chan) (f : GraphSt → GraphSt) : State := { s with graph := twoUpd s.graph c f }

/-- Channel `c`'s stop changed. -/
def State.updStop (s : State) (c : Chan) (f : StopSt → StopSt) : State := { s with stop := twoUpd s.stop c f }

/-! ## Which elements a safety function uses (R128) -/

/-- The instances of the graph in force, by number. -/
def Prog.list (p : Prog) : List (Nat × Inst) := p.insts

/-- An instance reads signal `g`. -/
def Inst.reads (i : Inst) (g : Nat) : Bool := i.ins.any (fun x => x == some g)

/-- The instances of function `sf` for which `p` holds. -/
def Prog.anyOf (p : Prog) (sf : Nat) (q : Inst → Bool) : Bool := p.insts.any (fun e => e.2.sf == sf && q e.2)

/-- System signals whose reading is a use of the coordinate: LC_VALID, LC_VEL_OK, LC_FAULT, LC_STANDSTILL, LC_FWD, LC_BWD, LC_SPEED, and the graph windows. -/
def coordSignal (g : Nat) : Bool :=
  g == 0x003 || g == 0x004 || g == 0x005 || g == 0x007 || g == 0x008 || g == 0x009 || g == 0x00C || (decide (0x080 ≤ g) && decide (g < 0x0C0))

/-- An instance drives output `n`: OUT by its parameter, REEF through STO, SBC through the brake map. -/
def State.instDrives (s : State) (i : Inst) (n : Nat) : Bool :=
  if i.code = 0x30 then parAt i.params 0 == (n : Int)
  else if i.code = 0x40 then (s.stoMap .a).getLsbD n
  else if i.code = 0x41 then (s.brakeMap .a).getLsbD n
  else false

/-- A pair's signals are read: the pair signal or, in split mode, a pin signal. -/
def Inst.readsPair (i : Inst) (n : Nat) : Bool := i.reads (0x020 + n) || i.reads (0x040 + 2 * n) || i.reads (0x040 + 2 * n + 1)

/-- The input of a numeric signal AIn_A or AIn_B that channel `c` converts with context `n` of its converters, or with converter `n − 128` (R309). -/
def State.ctxSignal (s : State) (c : Chan) (n i : Nat) : Bool :=
  match s.aiCtx c i with
  | none => false
  | some (k, x) => if 128 ≤ n then k % 2 == n - 128 else 64 * (k % 2) + x == n

/-- R128: whether safety function `sf` uses an element. -/
def State.uses (s : State) (sf : Nat) (e : Elem) : Bool :=
  match e with
  | .none => false
  | .pair n => s.prog.anyOf sf (fun i => i.readsPair n)
  | .pin n => s.prog.anyOf sf (fun i => i.reads (0x040 + n))
  | .source k => s.prog.anyOf sf (fun i => (List.range 24).any (fun n =>
      (s.pinSrc n false == k && s.pairMode n != 0 && (i.reads (0x020 + n) || i.reads (0x040 + 2 * n)))
      || (s.pinSrc n true == k && s.pairMode n != 0 && (i.reads (0x020 + n) || i.reads (0x040 + 2 * n + 1)))))
  | .output n => s.prog.anyOf sf (fun i => i.reads (0x0D0 + n) || s.instDrives i n)
  | .ls k => s.prog.anyOf sf (fun i => (List.range 16).any (fun n => s.lsMember k n && (i.reads (0x0D0 + n) || s.instDrives i n)))
  | .coord => s.prog.anyOf sf (fun i => i.ins.any (fun x => match x with
      | some g => coordSignal g
      | none => false) || i.code == 0x27 || i.code == 0x42 || i.code == 0x43 || (i.code == 0x40 && s.prog.hasLc))
  | .ctx c n => s.prog.anyOf sf (fun i => (List.range 8).any (fun k => s.ctxSignal c n k && i.reads (0x0E0 + 2 * k + chanNum c)))
  | .session n => s.prog.anyOf sf (fun i => i.ins.any (fun x => match x with
      | some g => s.sesDrives n g
      | none => false))
  | .sf n => n == sf

/-- The number of safety functions of the graph in force. -/
def Prog.sfs (p : Prog) : List Nat := List.range p.sfReset.length

/-- R129: the functions that use an element. -/
def State.users (s : State) (e : Elem) : List Nat := s.prog.sfs.filter (fun n => s.uses n e)

/-- REEF's safety function. -/
def State.reefSf (s : State) : Option Nat := (s.prog.insts.find? (fun e => e.2.code == 0x40)).map (fun e => e.2.sf)

/-! ## Charging and clearing (R129, R185, R195) -/

/-- Channel `c` charges the Class 1 latches that this cycle's exchange carried (R186). -/
def State.chargeReceived (s : State) (c : Chan) : State :=
  let ls := (twoAt s.fc c).received.filter (fun l => l.cls == 1)
  let s := s.updFc c (fun x => { x with received := [] })
  ls.foldl (fun s l => (s.users l.elem).foldl (fun s n =>
    s.updGraph c (fun g =>
      if g.sfFaults.any (fun f => f.sf == n && f.line == l.line && f.elem == l.elem) then g
      else { g with sfFaults := g.sfFaults ++ [⟨n, l.line, l.elem, g.evals⟩] })) s) s

/-- R129: safety function `n` is in its fault state in channel `c`. -/
def State.sfFaulted (s : State) (c : Chan) (n : Nat) : Bool := (twoAt s.graph c).sfFaults.any (fun f => f.sf == n)

/-- R129, R153: outputs of the function read 0. -/
def State.sfHeld (s : State) (c : Chan) (n : Nat) : Bool := s.sfFaulted c n || s.refitHeld.contains n

/-- A pin of a pair that owes a passing pulse after the reset of E25 or E27: one supplied by a TP source (R94). -/
def State.owePulses (s : State) (n : Nat) : State :=
  s.updPair n (fun p => { p with owesX := decide (s.pinSrc n false < 8), owesY := decide (s.pinSrc n true < 8), heldCross := false })

/-- R121: an output released by the reset owes its midpoint tests when it is tested, with the LS midpoint in PM mode. -/
def State.oweOutput (s : State) (n : Nat) : State :=
  let s := s.oweTests (outBit n)
  if s.outMode n = 2 ∧ s.tested n = true then { s with outs := { s.outs with lsOwes := s.outs.lsOwes ||| BitVec.ofNat 4 (2 ^ s.get SOUT_n_CFG_LS_SEL .a n) } } else s

/-- Fields of both views set to 0. -/
def State.zeroBoth (s : State) (fs : List Fld) (i : Nat) : State := fs.foldl (fun s f => s.putBoth f 0 i) s

/-- The release of an element that no latched fault of a line holds any longer (R94, R121, R62). -/
def State.clearElem (s : State) (line : Nat) (e : Elem) : State :=
  match e with
  | .pair n =>
    if line = 24 then s.zeroBoth [SIN_PAIR_n_FAULT_CMP_DIS_X, SIN_PAIR_n_FAULT_CMP_DIS_Y] n
    else if line = 25 then (s.zeroBoth [SIN_PAIR_n_FAULT_STUCK_X, SIN_PAIR_n_FAULT_STUCK_Y] n).owePulses n
    else if line = 27 then (s.zeroBoth [SIN_PAIR_n_FAULT_SHORT_X, SIN_PAIR_n_FAULT_SHORT_Y, SIN_PAIR_n_FAULT_XCIRC_X, SIN_PAIR_n_FAULT_XCIRC_Y] n).owePulses n
    else if line = 28 then s.zeroBoth [SIN_PAIR_n_FAULT_DISC] n
    else s
  | .source k =>
    (List.range 24).foldl (fun s n =>
      if s.suppliedBy n k && !(List.range 8).any (fun j => j != k && s.suppliedBy n j && (s.fc.a.latches ++ s.fc.b.latches).any (fun l => l.line == 29 && l.elem == .source j))
      then s.zeroBoth [SIN_PAIR_n_FAULT_SRC] n else s) s
  | .output n =>
    let s := s.zeroBoth (if line = 32 then [SOUT_n_FAULT_STUCK_A, SOUT_n_FAULT_STUCK_B]
      else if line = 33 then [SOUT_n_FAULT_OPEN_A, SOUT_n_FAULT_OPEN_B]
      else if line = 34 then [SOUT_n_FAULT_FEED]
      else if line = 35 then [SOUT_n_FAULT_LIMIT_A, SOUT_n_FAULT_LIMIT_B]
      else if line = 36 then [SOUT_n_FAULT_RB_DIS]
      else if line = 39 then [SOUT_n_FAULT_OPEN_LOAD]
      else []) n
    let s := if line = 35 then (s.updDie .a (fun d => { d with limitOpen := d.limitOpen &&& ~~~outBit n })).updDie .b (fun d => { d with limitOpen := d.limitOpen &&& ~~~outBit n }) else s
    let s := if line = 36 then s.updOut n (fun o => { o with disagree := false }) else s
    s.oweOutput n
  | .ls k =>
    let s := s.zeroBoth [SOUT_LS_n_STAT_STUCK, SOUT_LS_n_STAT_FAIL_CLOSE, SOUT_LS_n_STAT_LIMIT] k
    let s := s.updDie .b (fun d => { d with lsLimitOpen := d.lsLimitOpen &&& ~~~(BitVec.ofNat 4 (2 ^ k)) })
    (List.range 16).foldl (fun s n => if s.lsMember k n then (s.zeroBoth [SOUT_n_FAULT_LS] n).oweOutput n else s) s
  | .coord =>
    let one (s : State) (c : Chan) : State :=
      let at_ (e : EncSt) : EncSt := { e with base := (twoAt s.ae c).pos, zero := e.count }
      let re (t : Tab EncSt) (n : Nat) : Tab EncSt := tabUpd {} t n at_
      let s := { s with ae := twoUpd s.ae c (fun a => { a with class1 := false, healthy := 0, refd := a.refd && s.lcState c == 1, confirm := [], otherSaw := [],
                                                               enc := re (re a.enc (s.get LC_CFG_PRI_SRC c)) (s.get LC_CFG_SEC_SRC c) }) }
      let bits : List Fld := [AE_ENC_n_STATUS_EXCLUDED, AE_ENC_n_STATUS_WIRE, AE_ENC_n_STATUS_ILLEGAL, AE_ENC_n_STATUS_RATE, AE_ENC_n_STATUS_AMPL, AE_ENC_n_STATUS_FRAME, AE_ENC_n_STATUS_ZDEV]
      let s := (List.range 4).foldl (fun (s : State) n => bits.foldl (fun (s : State) f => s.put f 0 c n) s) s
      if s.lcState c = 2 ∨ s.lcState c = 3 then s.put LC_STATUS_STATE 0 c else s
    one (one s .a) .b
  | _ => s

/-- A Class 1 latch is dropped from both collectors, and its element released, when no safety function of an evaluating channel holds the fault any longer (R185). -/
def State.dropCleared (s : State) (f : SfFault) : State :=
  let still (c : Chan) : Bool := s.evaluates c && (twoAt s.graph c).sfFaults.any (fun x => x.line == f.line && x.elem == f.elem)
  if still .a || still .b then s
  else
    let p (l : Latch) : Bool := l.cls == 1 && l.line == f.line && l.elem == f.elem
    ((s.dropLatches .a p).dropLatches .b p).clearElem f.line f.elem

/-! ## Inputs (R125, R127) -/

/-- The signals agreed outside the snapshot: constants, FIRST_CYCLE, pairs, split pins, SO_OK. -/
def State.liveInputs (s : State) (c : Chan) : Tab Int :=
  let b (k : Nat) (v : Bool) : List (Nat × Int) := if v then [(k, 1)] else []
  b 0x001 true ++ b 0x002 ((twoAt s.graph c).evals == 0)
    ++ (List.range 24).flatMap (fun n => b (0x020 + n) (s.pairReleased n))
    ++ (List.range 48).flatMap (fun n => b (0x040 + n) (s.pinHigh n))
    ++ (List.range 16).flatMap (fun n => b (0x0D0 + n) (s.soOk n))

/-- All input signals of channel `c` for this evaluation. -/
def State.inputs (s : State) (c : Chan) : Tab Int :=
  (s.liveInputs c).foldl (fun t e => tabSet t e.1 e.2) (twoAt s.graph c).ins

/-! ## One channel's evaluation -/

/-- What an evaluation carries from instance to instance. -/
structure Ev where
  sigs : Tab Int
  insts : Tab InstSt
  stop : StopSt
  /-- line and safety function of the faults seen -/
  present : List (Nat × Nat) := []
  outs : BitVec 16 := 0
  sto : Bool := false
  brake : Bool := false
  tx : Tab TxWords := []
  lltx : Nat := 0
  sdiOn : List (Nat × Bool) := []
  /-- REEF raised its Q in this evaluation -/
  raised : Bool := false

/-- Signal `g` as a truth value. -/
def Ev.sig (e : Ev) (g : Nat) : Bool := tabGet 0 e.sigs g != 0

/-- The member groups that read 0 (R159). -/
def State.groupsLow (s : State) (c : Chan) (e : Ev) : Nat :=
  (List.range 16).foldl (fun (m : Nat) g => if bit (s.get DSF_GROUPS_MEMBER c) g && !e.sig (0x0C0 + g) then m + 2 ^ g else m) 0

/-- R159, in the order of its table: the first Reef demand; 0 = none. -/
def reefCause (run nsd low fault held : Bool) : Nat :=
  if run = false then 1 else if nsd then 2 else if low then 3 else if fault then 4 else if held then 5 else 0

/-- R432: the device makes no transition into RUN while SERVICE lasts or a debug session is attached. -/
def State.noRun (s : State) : Bool := s.service.isSome || s.flag LKS_STATUS_DBG_ATTACHED .a || s.flag LKS_STATUS_DBG_ATTACHED .b

/-- R179, every condition but that of the groups (R265). -/
def State.reefMay (s : State) (c : Chan) (e : Ev) (run qstop nsd held : Bool) : Bool :=
  run && qstop && !nsd && !e.sig 0x005 && (s.get DSF_CFG_MODE c != 3 || e.sig 0x004) && !held
    && !s.locked && !s.die.a.furl.armed && !s.die.b.furl.armed && !s.overdue && !s.noRun && (s.dev == stSAFE_READY || s.dev == stSAFE)

/-- A stop that is asked for and starts at the next boundary. -/
def StopReq.isReef : StopReq → Bool
  | .reef _ => true
  | _ => false

/-- R156 to R161, R169, R179, R265: the REEF block. Its press is measured in `prev`, `flag` and `k` of the instance. -/
def State.evalReef (s : State) (c : Chan) (i : Inst) (x : InstSt) (e : Ev) : Ev × InstSt :=
  let ins := i.ins.map (fun o => o.map (tabGet 0 e.sigs))
  let run := inB ins 0 true
  let qstop := inB ins 1 true
  let nsd := inB ins 2
  let st := e.stop
  let mode := s.get DSF_CFG_MODE c
  let held := s.sfHeld c i.sf
  let alone := s.stayMode c == 2
  let low := s.groupsLow c e
  let cause := reefCause run nsd (low != 0) (e.sig 0x005) held
  let reset : Bool := match (s.prog.sfReset[i.sf]?).join with
    | some g => e.sig g
    | none => false
  let p := pressStep s.tg reset x.prev x.flag x.k
  let busy := st.running || s.locked
  let req : StopReq :=
    if !x.q || busy || alone then .none
    else if !qstop then .furl 7 5
    else if cause = 0 then .none
    else if mode = 1 then .furl cause 5
    else if mode = 3 ∧ e.sig 0x004 = false then .furl cause 7
    else .reef cause
  let may := !x.q && !busy && !alone && s.reefMay c e run qstop nsd held
  let up := may && p.2.2 && low == 0
  let q := (x.q && !busy && req == .none) || up
  let armed := may && !up && (st.armed || (p.2.2 && low != 0))
  let furlNext := if st.running && !qstop && !alone && !st.complete then some (st.furlNext.getD 5) else st.furlNext
  let late := s.flag DSF_CFG_SBC_ORDER c
  let sto := q || req.isReef || (st.survivorNext && x.q) || (st.running && furlNext == none && !(st.complete && (!late || st.overlapDone)))
  let st := { st with req := req, armed := armed, furlNext := furlNext, qCycles := if q then st.qCycles + 1 else 0 }
  ({ e with stop := st, sto := sto, raised := e.raised || up }, { x with q := q, prev := reset, flag := p.1, k := p.2.1 })

/-- R157, R169, R170: the SBC block. `flag` is the brake command, `prev` and `k2` watch the feedback. -/
def State.evalSbc (s : State) (c : Chan) (i : Inst) (x : InstSt) (e : Ev) : Ev × InstSt :=
  let ins := i.ins.map (fun o => o.map (tabGet 0 e.sigs))
  let rel := inB ins 0
  let st := e.stop
  let held := s.sfHeld c i.sf
  let tRel := (s.get DSF_SBC_TIME_T_REL c * 1000000 + s.tg - 1) / s.tg
  let stopping := st.req.isReef || st.survivorNext || (st.running && st.furlNext == none && !st.complete)
  let q := !held && rel && (heldFor st.qCycles tRel || (stopping && x.flag))
  let cmd := if held then x.flag && (st.qCycles != 0 || stopping) else q
  let fb : Option Bool := (ins[1]?).join.map (fun v => v != 0)
  let k2 := match fb with
    | none => 0
    | some v => if cmd != x.prev then runOf (v == cmd) 0 else runOf (v == cmd) x.k2
  ({ e with brake := cmd }, { x with q := q, flag := cmd, prev := cmd, k2 := k2 })

/-- R234: the words of a GOATX: inputs B0 to B63, then V0 to V15; an unconnected input sends 0. -/
def txWords (bw vw : Nat) (ins : List (Option Int)) (zero : Bool) : TxWords :=
  { bits := (List.range bw).map (fun w => (List.range 32).foldl (fun (v : Nat) i => if !zero && inB ins (32 * w + i) then v + 2 ^ i else v) 0)
    vals := (List.range vw).map (fun j => if zero then 0 else inAt ins (64 + j) 0) }

/-- R266: the groups an LLTX publishes stop in: those of the inputs that read 0, all of them while its function is held. -/
def lltxStops (ps : List Int) (ins : List (Option Int)) (held : Bool) : Nat :=
  (List.range 4).foldl (fun (m : Nat) i =>
    let g := (parAt ps i).toNat
    if g < 16 ∧ (held = true ∨ inB ins i = false) then m ||| 2 ^ g else m) 0

/-- The outputs of an instance written to its signals; a held function's outputs read 0 (R129). -/
def Ev.write (e : Ev) (i : Inst) (outs : List Int) (held : Bool) : Ev :=
  { e with sigs := ((List.range i.outs.length).foldl (fun t k => tabSet t ((i.outs[k]?).getD 0) (if held then 0 else (outs[k]?).getD 0)) e.sigs) }

/-- One instance (R130). -/
def State.evalInst (s : State) (c : Chan) (n : Nat) (e : Ev) : Ev :=
  match s.prog.insts.find? (fun p => p.1 == n) with
  | none => e
  | some (_, i) =>
    let x := tabGet {} e.insts n
    let ins := i.ins.map (fun o => o.map (tabGet 0 e.sigs))
    let held := s.sfHeld c i.sf
    if i.code = 0x40 then
      let r := s.evalReef c i x e
      { r.1.write i [bInt r.2.q] held with insts := tabSet e.insts n r.2 }
    else if i.code = 0x41 then
      let r := s.evalSbc c i x e
      { r.1.write i [bInt r.2.q] held with insts := tabSet e.insts n r.2 }
    else if s.stayMode c = 2 then e
    else if i.code = 0x30 then
      let on := !held && inB ins 0
      { e with outs := if on then e.outs ||| outBit (parAt i.params 0).toNat else e.outs, insts := tabSet e.insts n { x with q := on } }
    else if i.code = 0x38 then
      let k := (parAt i.params 0).toNat
      { e with tx := tabSet e.tx k (txWords (s.get GOA_SES_n_CFG_TX_BW .a k) (s.get GOA_SES_n_CFG_TX_VW .a k) ins (held || s.locked)) }
    else if i.code = 0x39 then { e with lltx := e.lltx ||| lltxStops i.params ins held }
    else
      let env : BlkEnv := { tg := s.tg, lcValid := e.sig 0x003, velOk := e.sig 0x004, speed := tabGet 0 e.sigs 0x00C, faulted := held, lag := (tabGet 0 (twoAt s.graph c).lags n : Nat) }
      let r := evalBlock env i.code i.params ins x
      let e := if i.code = 0x43 ∧ inB ins 0 = true then { e with sdiOn := e.sdiOn ++ [(n, parAt i.params 0 == 2)] } else e
      { e.write i r.outs held with insts := tabSet e.insts n r.st, present := e.present ++ r.faults.map (fun l => (l, i.sf)) }

/-- R130: LAST delivers its value of the previous evaluation from the beginning of this one, wherever it stands in the order. -/
def State.giveLast (s : State) (c : Chan) (e : Ev) : Ev :=
  s.prog.insts.foldl (fun (e : Ev) (p : Nat × Inst) => if p.2.code = 0x06 then e.write p.2 [(tabGet {} e.insts p.1).v] (s.sfHeld c p.2.sf) else e) e

/-- R130: LAST takes the value its input has at the end of the evaluation. -/
def State.takeLast (s : State) (e : Ev) : Ev :=
  s.prog.insts.foldl (fun e p =>
    if p.2.code = 0x06 then
      { e with insts := tabUpd {} e.insts p.1 (fun x => { x with v := match (p.2.ins.head?).join with
        | some g => tabGet 0 e.sigs g
        | none => 0 }) }
    else e) e

/-! ## L1 presses (R195) -/

/-- The reset signals of the graph, each once. -/
def Prog.resets (p : Prog) : List Nat := (p.sfReset.filterMap id).eraseDups

/-- R195 on reset signal `g`: a valid press clears every Class 1 fault of its functions whose condition is absent and which was latched before the press began. Without effect while a Class 2 or 3 is latched (R192). -/
def State.pressOn (s : State) (c : Chan) (e : Ev) (g : Nat) : State :=
  let gr := twoAt s.graph c
  let p := tabGet {} gr.presses g
  let v := e.sig g
  let p' : PressSt := if v then (if p.prev then p else { prev := true, pressing := true, since := gr.evals }) else { p with prev := false, pressing := false }
  let valid := !v && p.pressing && pressOk s.tg (gr.evals - p.since) && !s.locked
  let s := s.updGraph c (fun x => { x with presses := tabSet x.presses g p' })
  if valid then
    let keep (f : SfFault) : Bool := (s.prog.sfReset[f.sf]?).join != some g || s.condOn f.line f.elem || decide (p.since ≤ f.at_)
    s.updGraph c (fun x => { x with sfFaults := x.sfFaults.filter keep })
  else s

/-! ## Displays -/

/-- A field changed only where it differs. -/
def State.putNew (s : State) (f : Fld) (v : Nat) (c : Chan) (i : Nat) : State := if s.get f c i = v % 2 ^ (f.hi + 1 - f.lo) then s else s.put f v c i

/-- LGE_SIG_n: the values at the end of the evaluation. -/
def State.showSignals (s : State) (c : Chan) (old new : Tab Int) : State :=
  let s := old.foldl (fun s e => if tabHas new e.1 then s else s.putNew LGE_SIG_n_VALUE 0 c e.1) s
  new.foldl (fun s e => s.putNew LGE_SIG_n_VALUE (unsigned 32 e.2) c e.1) s

/-- LGE_INST_n: the state of every instance. -/
def State.showInsts (s : State) (c : Chan) (insts : Tab InstSt) : State :=
  s.prog.insts.foldl (fun s p =>
    let x := tabGet {} insts p.1
    let s := s.putNew LGE_INST_n_FAULT (s.sfFaulted c p.2.sf).toNat c p.1
    let s := s.putNew LGE_INST_n_HELD (s.refitHeld.contains p.2.sf).toNat c p.1
    let s := s.putNew LGE_INST_n_MUTED (p.2.code == 0x21 && x.flag).toNat c p.1
    s.putNew LGE_INST_n_Q (match p.2.outs.head? with
      | some g => (tabGet 0 (twoAt s.graph c).sigs g != 0 && !s.prog.numeric.contains g).toNat
      | none => 0) c p.1) s

/-- A 128-bit map over the safety functions in four words. -/
def State.putMap (s : State) (f : Fld) (c : Chan) (p : Nat → Bool) : State :=
  (List.range 4).foldl (fun s w => s.putNew f ((List.range 32).foldl (fun (m : Nat) i => if p (32 * w + i) then m + 2 ^ i else m) 0) c w) s

/-- Every output signal of safety function `n` reads 0. -/
def State.sfSafe (s : State) (c : Chan) (n : Nat) : Bool :=
  decide (n < s.prog.sfReset.length) && s.prog.insts.all (fun p => p.2.sf != n || p.2.outs.all (fun g => tabGet 0 (twoAt s.graph c).sigs g == 0))

/-- An RSTIL of safety function `n` holds Q = 0 while its COND is 1. -/
def State.sfWaits (s : State) (c : Chan) (n : Nat) : Bool :=
  s.prog.insts.any (fun p => p.2.sf == n && p.2.code == 0x25 &&
    (match (p.2.ins.head?).join, p.2.outs.head? with
     | some g, some o => tabGet 0 (twoAt s.graph c).sigs g != 0 && tabGet 0 (twoAt s.graph c).sigs o == 0
     | _, _ => false))

/-- LGE_SF_FAULT, LGE_SF_SAFE, LGE_SF_RIL, LGE_SF_REFIT and FC_LOCKOUT.CL1. -/
def State.showSf (s : State) (c : Chan) : State :=
  let s := s.putMap LGE_SF_FAULT_n_FAULT c (s.sfFaulted c)
  let s := s.putMap LGE_SF_SAFE_n_SAFE c (s.sfSafe c)
  let s := s.putMap LGE_SF_RIL_n_WAIT c (s.sfWaits c)
  let s := s.putMap LGE_SF_REFIT_n_HELD c (fun n => s.refitHeld.contains n)
  s.putFlag FC_LOCKOUT_CL1 (decide ((twoAt s.graph c).sfFaults ≠ [])) c

/-! ## The whole evaluation of a channel -/

/-- The outputs in the masks of REEF and SBC joined to those of the OUT blocks (R142). A survivor drives only the former (R176); in an image without REEF nothing is first commanded on while R432 forbids RUN. -/
def State.formOuts (s : State) (c : Chan) (e : Ev) : BitVec 16 :=
  let own := (if e.sto then s.stoMap c else 0) ||| (if e.brake then s.brakeMap c else 0)
  if s.stayMode c = 2 then own
  else if s.reefSf = none ∧ s.noRun = true ∧ s.dev ≠ stRUN then 0
  else own ||| e.outs

/-- R104: LSk is commanded with its members. -/
def State.formLs (s : State) (o : BitVec 16) : BitVec 4 :=
  BitVec.ofNat 4 ((List.range 4).foldl (fun (m : Nat) k => if (List.range 16).any (fun n => s.lsMember k n && o.getLsbD n) then m + 2 ^ k else m) 0)

/-- R130 to R133: channel `c` evaluates the graph and forms its result vector. -/
def State.evalChannel (s : State) (c : Chan) : State :=
  let s := s.chargeReceived c
  let g := twoAt s.graph c
  let base : Tab Int := if s.stayMode c = 2 then g.sigs.filter (fun p => decide (0x400 ≤ p.1)) else []
  let e : Ev := { sigs := (s.inputs c).foldl (fun t p => tabSet t p.1 p.2) base, insts := g.insts, stop := twoAt s.stop c,
                  tx := if s.locked then g.tx.map (fun p => (p.1, txWords p.2.bits.length p.2.vals.length [] true)) else [],
                  lltx := if s.stayMode c = 2 then g.lltx else 0, sdiOn := if s.stayMode c = 2 then g.sdiOn else [] }
  let e := if s.stayMode c = 2 then e else s.giveLast c e
  let e := s.takeLast (s.prog.order.foldl (fun e n => s.evalInst c n e) e)
  let s := s.prog.resets.foldl (fun s g => s.pressOn c e g) s
  let o := s.formOuts c e
  let s := { s with stop := twoSet s.stop c e.stop }
  let s := s.showSignals c g.sigs e.sigs
  let s := s.updGraph c (fun g => { g with
    sigs := e.sigs
    insts := e.insts
    evals := g.evals + 1
    outCmd := o
    lsCmd := s.formLs o
    stoOn := e.sto
    brakeOn := e.brake
    present := e.present
    tx := e.tx
    lltx := e.lltx
    sdiOn := e.sdiOn
    delivered := true
    agreed := false })
  let s := (s.showInsts c e.insts).showSf c
  let s := s.putFlag LLK_STATUS_ARMED e.stop.armed .a
  if e.raised then s.setDev stRUN else s

/-- The faults of blocks an evaluation saw or no longer sees: E40 and E48 of Class 1, E42 of Class 0. -/
def State.raiseBlocks (s : State) (old new : List (Nat × Nat)) : State :=
  let s := old.foldl (fun s p => if new.contains p then s else s.clearCond p.1 (.sf p.2)) s
  new.foldl (fun s p =>
    if p.1 = 42 then s.raiseOnce ⟨42, 0, .shared, .both, .sf p.2, p.2⟩
    else if s.condOn p.1 (.sf p.2) then s
    else s.raise (class1Both p.1 (.sf p.2) p.2)) s

/-- A signal as channel `c` saw it at the end of its last evaluation. -/
def State.sigOf (s : State) (c : Chan) (g : Nat) : Bool := tabGet 0 (twoAt s.graph c).sigs g != 0

end Sys2Proof.Machine
end

