-- ==== Sys2Proof/Machine/Stop.lean ====
section
/-! DEFINITION. Stops (06_stop_and_motion.md): start, t0, envelope and prediction, the ends of R164, the hardware Furl timers, and the stop events of the command table. -/

namespace Sys2Proof.Machine

open Sys2Proof

/-! ## Participants -/

/-- The channels that carry the graph: both in dual mode, the survivor alone in single mode (R222). -/
def State.parts (s : State) : List Chan :=
  if s.stayMode .a = 2 then [.a] else if s.stayMode .b = 2 then [.b] else if s.stayMode .a = 1 ∧ s.stayMode .b = 1 then [.a, .b] else []

/-- Every participant's stop changed. -/
def State.updStops (s : State) (f : StopSt → StopSt) : State := s.parts.foldl (fun s c => s.updStop c f) s

/-- The stop of the first participant; both channels run the same. -/
def State.theStop (s : State) : StopSt :=
  match s.parts with
  | c :: _ => twoAt s.stop c
  | [] => {}

/-- The Stop record: START_CAUSE or END_CAUSE, p0 and v0 (R270). The entry after them is 0. -/
def State.recStop (s : State) (cause : Nat) (st : StopSt) : State :=
  s.pushRec 3 ([cause] ++ entries64 (unsigned 64 (st.p0 / 65536)) ++ twoEntries (st.v0 / 256) ++ [0])

/-- DSF_STATUS.PHASE of channel `c`. -/
def State.showPhaseOf (s : State) (c : Chan) : State :=
  let st := twoAt s.stop c
  let v :=
    if st.running then
      if st.overlap then 4
      else if st.atT0 ∨ s.now < st.t0 + 1000000 * s.get DSF_TIME_T_DELAY c then 2
      else 3
    else if (twoAt s.graph c).stoOn then 1
    else 0
  s.putNew DSF_STATUS_PHASE v c 0

/-! ## Start and end -/

/-- R160: at the boundary the stop of channel `c` starts: it waits for t0, both Furl timers arm, DEV_STATE reads STOPPING. -/
def State.beginStop (s : State) (c : Chan) (cause : Nat) : State :=
  let s := s.updStop c (fun x => { x with
    running := true
    atT0 := true
    slow := 0
    complete := false
    req := .none
    furlNext := none
    overlap := false
    overlapDone := false
    armed := false
    survivorNext := false
    number := x.number + 1 })
  let s := s.put DSF_STATUS_START_CAUSE cause c
  let s := if 2 ≤ s.get DSF_CFG_MODE c then s.armFurl c else s
  (s.setDev stSTOPPING).showPhaseOf c

/-- The end of channel `c`'s stop with its END_CAUSE, counted; its die disarms (R164, R167). -/
def State.finishStop (s : State) (c : Chan) (cause : Nat) : State :=
  let s := s.updStop c (fun x => { x with running := false, complete := false, furlNext := none, overlap := false, overlapDone := false, survivorNext := false })
  let s := (s.put DSF_STATUS_END_CAUSE cause c).putFlag DSF_STATUS_SURVIVOR false c
  let s := s.satInc (if cause = 1 then DSF_COUNTS_COMPLETED else DSF_COUNTS_FURLED) c
  ((s.disarmFurl c).showFurl.showKill).showPhaseOf c

/-- A stop that Furls at once (R159): it starts and ends at the boundary; t0 still comes at the next update. -/
def State.furlStop (s : State) (c : Chan) (cause endCause : Nat) : State :=
  let s := s.updStop c (fun x => { x with atT0 := true, req := .none, armed := false, number := x.number + 1 })
  let s := s.put DSF_STATUS_START_CAUSE cause c
  (s.setDev stSTOPPING).finishStop c endCause

/-- R29: a Furl-arm line is a level: an armed die arms the other, whose timer keeps its own start when it runs already. -/
def State.armLines (s : State) : State :=
  let s := if s.die.a.furl.armed then s.armFurl .b else s
  (if s.die.b.furl.armed then s.armFurl .a else s).showFurl

/-- What channel `c` does at a boundary with its stop: start what the evaluation asked for, take over as the survivor, begin the overlap, or end once its own STO switches are open. -/
def State.stopBoundary (s : State) (c : Chan) : State :=
  let st := twoAt s.stop c
  match st.req with
  | .reef k => s.beginStop c k
  | .furl k e => s.furlStop c k e
  | .none =>
    if st.survivorNext then
      let s := s.putFlag DSF_STATUS_SURVIVOR true c
      if st.running then s.updStop c (fun x => { x with survivorNext := false })
      else if s.dev = stRUN then s.beginStop c 6
      else s.updStop c (fun x => { x with survivorNext := false })
    else if st.running then
      let late := s.flag DSF_CFG_SBC_ORDER c
      if s.stoOpen c && !(twoAt s.graph c).stoOn && (st.furlNext.isSome || (st.complete && (!late || st.overlapDone))) then
        s.finishStop c (st.furlNext.getD 1)
      else if st.complete && late && !st.overlap then (s.updStop c (fun x => { x with overlap := true, overlapAt := s.now })).showPhaseOf c
      else if st.furlNext == none && !st.complete && (s.closed .a &&& s.closed .b &&& s.stoMap c) == 0 then
        s.updStop c (fun x => { x with furlNext := some 8 })
      else s
    else s.showPhaseOf c

/-! ## t0, envelope and prediction (R160, R162, R163), at every angle-engine update -/

/-- R160, R175, R250: the first update of channel `c` at or after the boundary: p0, v0, s0 and L are latched; the ramp notice is built by channel A, or by a survivor B. -/
def State.latchT0 (s : State) (c : Chan) : State :=
  let a := twoAt s.ae c
  let st := twoAt s.stop c
  if st.atT0 then
    let dir := s.get LC_STATUS_DIR c
    let s0 : Int := if dir = 1 then 1 else if dir = 2 then -1 else 0
    let lim := a.pos + s0 * (65536 * s.get DSF_DLIM_DIST c : Nat)
    let s := s.updStop c (fun x => { x with atT0 := false, t0 := s.now, p0 := a.pos, v0 := a.vel.natAbs, s0 := s0, limit := lim, slow := 0 })
    let p := unsigned 64 (a.pos / 65536)
    let l := unsigned 64 (lim / 65536)
    let s := (s.put DSF_P0_LO_POS_LO (p % 2 ^ 32) c).put DSF_P0_HI_POS_HI (p / 2 ^ 32) c
    let s := (s.put DSF_LIMIT_LO_POS_LO (l % 2 ^ 32) c).put DSF_LIMIT_HI_POS_HI (l / 2 ^ 32) c
    let v := min (2 ^ 23 - 1) (roundFree a.vel.natAbs 256).toNat
    let s := s.put DSF_V0_SPEED v c
    let m := s.get DSF_GROUPS_MEMBER c
    let s := s.put DSF_START_GROUPS_GROUPS ((List.range 16).foldl (fun (k : Nat) g => if bit m g && !s.sigOf c (0x0C0 + g) then k + 2 ^ g else k) 0) c
    if s.parts.head? = some c then
      let s := s.recStop (s.get DSF_STATUS_START_CAUSE c) (twoAt s.stop c)
      if s.get DSF_ARAMP_ACC c = 0 then s
      else
        let send (s : State) (n : Net) : State := s.updNet n (fun x => { x with aux := some (.ramp m st.number (a.pos / 65536) v (s.get DSF_ARAMP_ACC c) (if s.syncedNet n then (s.netTime n).toNat else 0)) })
        send (send s .x) .y
    else s
  else if st.running && st.s0 == 0 then
    let dir := s.get LC_STATUS_DIR c
    let s0 : Int := if dir = 1 then 1 else if dir = 2 then -1 else 0
    if s0 = 0 then s
    else
      let lim := st.p0 + s0 * (65536 * s.get DSF_DLIM_DIST c : Nat)
      let l := unsigned 64 (lim / 65536)
      ((s.updStop c (fun x => { x with s0 := s0, limit := lim })).put DSF_LIMIT_LO_POS_LO (l % 2 ^ 32) c).put DSF_LIMIT_HI_POS_HI (l / 2 ^ 32) c
  else s

/-- R165, R166: the Furl timer of die `c` expires: the die opens its switch of every STO-designated output and of every brake output. Its switches read open at once, so it counts as disarmed (R167). -/
def State.furlExpire (s : State) (c : Chan) : State :=
  let m := s.stoMap c ||| s.brakeMap c
  ((s.kill c m 0 (fun d => { d with heldFurl := d.heldFurl ||| m, furl := { d.furl with armed := false, expired := true } })).showFurl)

/-- R164: a stop that ends by Furl: the graph of every participant commands the STO and brake outputs off with this END_CAUSE. The first cause stands. -/
def State.furlBy (s : State) (cause : Nat) : State :=
  s.updStops (fun x => if x.running && x.furlNext == none then { x with furlNext := some cause } else x)

/-- The safety function of REEF as an element; with no REEF there is none. -/
def State.reefElem (s : State) : Elem :=
  match s.reefSf with
  | some n => .sf n
  | none => .none

/-- R162: v_env in 2⁻⁸ st/s times 10⁹, `el` ns after t0. -/
def State.vEnv (s : State) (c : Chan) (v0 : Nat) (el : Nat) : Int :=
  let d := 1000000 * s.get DSF_TIME_T_DELAY c
  max (256000000000 * (s.get DSF_VEND_SPEED c : Int))
    ((v0 + 256 * s.get DSF_VMARGIN_SPEED c : Nat) * 1000000000 - (256 * s.get DSF_AENV_ACC c * (el - d) : Nat))

/-- R163: the predicted distance as a fraction, numerator and denominator, in 2⁻¹⁶ st. -/
def State.stopDistance (s : State) (c : Chan) (st : StopSt) (el : Nat) : Int × Int :=
  let a := twoAt s.ae c
  let v : Nat := a.vel.natAbs
  let d := 1000000 * s.get DSF_TIME_T_DELAY c
  let win := 31250 * (8 * 2 ^ s.get LC_CFG_ACC_WIN c)
  if el < d + win then
    let den : Nat := 2 * s.get DSF_AENV_ACC c * 1000000000
    (((v * 256 * (d - el) * (2 * s.get DSF_AENV_ACC c) + v * v * 1000000000 : Nat) : Int), (den : Int))
  else
    let dec := max (-(st.s0 * a.acc)) (s.get DSF_AMIN_ACC c)
    (((v * v : Nat) : Int), 2 * dec)

/-- R162 to R165: one update of the monitor of channel `c` in a running monitored stop. A violation trips the envelope line of its own die, and the graph Furls. -/
def State.monitor (s : State) (c : Chan) : State :=
  let st := twoAt s.stop c
  let a := twoAt s.ae c
  if st.running && !st.atT0 then
    let el := s.now - st.t0
    let s := s.put DSF_ELAPSED_TIME ((roundFree el 1000).toNat % 2 ^ 32) c
    if s.get DSF_CFG_MODE c ≠ 3 then s
    else
      let v : Nat := a.vel.natAbs
      let env := s.vEnv c st.v0 el
      let s := s.put DSF_VENV_SPEED (min (2 ^ 23 - 1) (roundFree env 256000000000).toNat) c
      let sd := s.stopDistance c st el
      let pr := unsigned 64 (roundFree (a.pos * sd.2 + st.s0 * sd.1) (65536 * sd.2))
      let s := (s.put DSF_PRED_LO_POS_LO (pr % 2 ^ 32) c).put DSF_PRED_HI_POS_HI (pr / 2 ^ 32) c
      let s := s.updStop c (fun x => { x with slow := if v ≤ 256 * s.get DSF_VEND_SPEED c then x.slow + 1 else 0 })
      if st.complete || st.furlNext.isSome then s
      else if env < v * 1000000000 then
        ((s.raiseOnce ⟨44, 1, .shared, .own c, s.reefElem, (regWord s.regs 0 (blockBase .dsf c + 0x100)).toNat⟩).furlExpire c).furlBy 2
      else if st.s0 ≠ 0 ∧ 0 < st.s0 * (a.pos - st.limit) * sd.2 + sd.1 then
        ((s.raiseOnce ⟨45, 1, .shared, .own c, s.reefElem, (regWord s.regs 0 (blockBase .dsf c + 0x100)).toNat⟩).furlExpire c).furlBy 3
      else s
  else if (twoAt s.stop c).atT0 then s
  else s.putNew DSF_VENV_SPEED 0 c 0

/-! ## The stop events -/

/-- MONITORED_STOP_COMPLETION (R164): V_END on 3 consecutive updates, or STANDSTILL, in every participating channel. -/
def execMonitoredStopCompletion (s : State) : Host.Outcome State Fault Refusal :=
  let ok (c : Chan) : Bool := decide (3 ≤ (twoAt s.stop c).slow) || s.flag LC_STATUS_STANDSTILL c
  let st := s.theStop
  .next (if st.running ∧ st.atT0 = false ∧ st.furlNext = none ∧ s.get DSF_CFG_MODE .a = 3 ∧ s.parts.all ok = true then
      s.updStops (fun x => { x with complete := true })
    else s)

/-- TIMED_STOP_COMPLETION (R164): at time `t` T_STOP has passed since t0 in a timed stop. -/
def execTimedStopCompletion (t : Nat) (s : State) : Host.Outcome State Fault Refusal :=
  let s := { s with now := max s.now t }
  let st := s.theStop
  .next (if st.running ∧ st.atT0 = false ∧ st.furlNext = none ∧ s.get DSF_CFG_MODE .a = 2 ∧ st.t0 + 1000000 * s.get DSF_TIME_T_STOP .a ≤ s.now then
      s.updStops (fun x => { x with complete := true })
    else s)

/-- STOP_TIME_EXCEEDED (R164, R180): at time `t` a monitored stop has not completed by t0 + T_STOP: E46, and the graph Furls. A survivor's stop has no such end (R176). -/
def execStopTimeExceeded (t : Nat) (s : State) : Host.Outcome State Fault Refusal :=
  let s := { s with now := max s.now t }
  let st := s.theStop
  .next (if st.running ∧ st.atT0 = false ∧ st.complete = false ∧ st.furlNext = none ∧ s.get DSF_CFG_MODE .a = 3 ∧ s.parts.length = 2
        ∧ st.t0 + 1000000 * s.get DSF_TIME_T_STOP .a ≤ s.now then
      (s.raiseOnce (class1Both 46 s.reefElem (regWord s.regs 0 (blockBase .dsf .a + 0x100)).toNat)).furlBy 4
    else s)

/-- BRAKE_OVERLAP_END (R169): at time `t` T_OVERLAP has passed since the brake engaged at completion. -/
def execBrakeOverlapEnd (t : Nat) (s : State) : Host.Outcome State Fault Refusal :=
  let s := { s with now := max s.now t }
  let st := s.theStop
  .next (if st.overlap ∧ st.overlapAt + 1000000 * s.get DSF_SBC_TIME_T_OVERLAP .a ≤ s.now then s.updStops (fun x => { x with overlapDone := true }) else s)

/-- FURL_TIMER_EXPIRY (R166, R167): at time `t` the timer of die `c` has reached TIME. A channel still commanding an STO-designated switch closed raises E47; a held die only sends hold frames. -/
def execFurlTimerExpiry (c : Chan) (t : Nat) (s : State) : Host.Outcome State Fault Refusal :=
  let s := { s with now := max s.now t }
  let d := twoAt s.die c
  .next (if d.furl.armed ∧ d.furl.expired = false ∧ d.furl.start + 1000000 * s.get DSF_FURL_TIME c ≤ s.now then
      let commanding := !d.holding && (d.cmd &&& s.stoMap c) != 0
      let s := (s.furlExpire c).furlBy 6
      if commanding then s.raiseOnce (class2Own 47 c (regWord s.regs 0 (blockBase .dsf c + 0x100)).toNat) else s.settle
    else s)

/-- FURL_ARM_RELEASE (R178): the survivor's Furl-arm line is released; the held die `c` opens what it still holds and disarms. -/
def execFurlArmRelease (c : Chan) (s : State) : Host.Outcome State Fault Refusal :=
  .next (if (twoAt s.die c).holding ∧ (twoAt s.die (otherChan c)).furl.armed = false then
      let s := s.updDie c (fun d => { d with holding := false, cmd := 0, lsCmd := 0, staged := none })
      (((s.disarmFurl c).putFlag DSF_STATUS_HOLD_OTHER false (otherChan c)).showFurl.showKill).settle
    else s)

/-- The three words of R168 as channel `c` loads them into its die. -/
def State.furlImage (s : State) (c : Chan) : List Nat := [(regWord s.regs 0 (blockBase .dsf c + 0xC)).toNat, (s.stoMap c).toNat, (regWord s.regs 0 (blockBase .dsf c + 0x2C)).toNat]

/-- FURL_CRC_CHECK (R168): every 10 ms channel `c` compares the CRC the die returns with the image's; `upset` is a word the die has lost since. -/
def execFurlCrcCheck (c : Chan) (upset : Option (Fin 3 × Word)) (s : State) : Host.Outcome State Fault Refusal :=
  let s := match upset with
    | none => s
    | some (k, w) => s.updDie c (fun d => { d with furlWords := d.furlWords.set k.val w.toNat })
  let s := s.put DSF_FURL_CRC_DIE_CRC (crc32cWords (twoAt s.die c).furlWords) c
  .next (if s.get DSF_FURL_CRC_DIE_CRC c = s.get DSF_FURL_CRC_IMG_CRC c then s.clearCond 43 .none else s.raise (class2Own 43 c (s.get DSF_FURL_CRC_DIE_CRC c)))

/-- COMMAND_WATCHDOG_EXPIRY (R24): at time `t` no valid command frame has come within 2 · T_G + 20 µs; die `c` opens every switch until a channel reset. SLEEP suspends it (R434). Without a channel left to send the stop-end command the die disarms its own timer (R167). -/
def execCommandWatchdogExpiry (c : Chan) (t : Nat) (s : State) : Host.Outcome State Fault Refusal :=
  let s := { s with now := max s.now t }
  let d := twoAt s.die c
  .next (if d.powered ∧ d.stream ∧ s.dev ≠ stSLEEP ∧ d.lastCmd + 2 * s.tg + 20000 ≤ s.now then
      let ls : BitVec 4 := match c with
        | .a => 0
        | .b => 0xF
      let s := s.kill c 0xFFFF ls (fun d => { d with heldWd := 0xFFFF, lsHeld := d.lsHeld ||| ls, staged := none, holding := false })
      let s := if s.evaluates c then s else (s.disarmFurl c).showFurl
      let s := if s.parts = [] then s.endStops 8 else s
      s.settle
    else s)

end Sys2Proof.Machine
end

