-- ==== Sys2Proof/Machine/Line.lean ====
section
/-! DEFINITION. The angle engine (02_line_coordinate.md): sources and scaling, velocity and acceleration, the cross-checks, referencing and the states of R52. -/

namespace Sys2Proof.Machine

open Sys2Proof

/-- Channel `c`'s angle engine changed. -/
def State.updAe (s : State) (c : Chan) (f : AeSt → AeSt) : State := { s with ae := twoUpd s.ae c f }

/-- One source of channel `c` changed. -/
def State.updEnc (s : State) (c : Chan) (n : Nat) (f : EncSt → EncSt) : State := s.updAe c (fun a => { a with enc := tabUpd {} a.enc n f })

def State.enc (s : State) (c : Chan) (n : Nat) : EncSt := tabGet {} (twoAt s.ae c).enc n

/-! ## Sources -/

def State.priSrc (s : State) (c : Chan) : Nat := s.get LC_CFG_PRI_SRC c
def State.secSrc (s : State) (c : Chan) : Nat := s.get LC_CFG_SEC_SRC c

/-- R60: the source is excluded. -/
def State.excluded (s : State) (c : Chan) (n : Nat) : Bool := s.flag AE_ENC_n_STATUS_EXCLUDED c n

/-- The coordinate runs on the secondary: the primary is excluded. -/
def State.onSec (s : State) (c : Chan) : Bool := s.excluded c (s.priSrc c) && !s.excluded c (s.secSrc c)

def State.activeSrc (s : State) (c : Chan) : Nat := if s.onSec c then s.secSrc c else s.priSrc c

/-- R44: the position of source `n` at a count, in 2⁻¹⁶ st, truncated; the remainder of the division stays in the count. -/
def State.srcAt (s : State) (c : Chan) (n : Nat) (count : Int) : Int :=
  let e := s.enc c n
  e.base + (count - e.zero) * (s.get AE_ENC_n_NUM_NUM c n * 65536 : Nat) / (s.get AE_ENC_n_DEN_DEN c n : Int)

/-- The position of source `n` at its present count. -/
def State.srcPos (s : State) (c : Chan) (n : Nat) : Int := s.srcAt c n (s.enc c n).count

/-- A source set to a position at its present count. -/
def State.setSrc (s : State) (c : Chan) (n : Nat) (p : Int) : State := s.updEnc c n (fun e => { e with base := p, zero := e.count })

/-- The source is an SSI encoder. -/
def State.isSsi (s : State) (c : Chan) (n : Nat) : Bool := 2 ≤ s.get AE_ENC_n_CFG_TYPE c n

/-- R48: a count change of the active source is stamped, and STANDSTILL ends. -/
def State.stampChange (s : State) (c : Chan) (n t : Nat) : State :=
  if n = s.activeSrc c then
    let p := s.srcPos c n
    (s.updAe c (fun a => { a with prev := a.last, last := some (t, p) })).putNew LC_STATUS_STANDSTILL 0 c 0
  else s

/-- R42: what one channel's decoder counts. The first frame of an SSI source is its zero until it is referenced. -/
def State.decode (s : State) (c : Chan) (n : Nat) (o : EncObs) : State :=
  let sign : Int := if s.flag AE_ENC_n_CFG_INVERT c n then -1 else 1
  let e := s.enc c n
  let ssi := s.isSsi c n
  let k := if ssi then sign * o.count else e.count + sign * o.count
  let s := s.updEnc c n (fun e => { e with
    count := k
    zero := if ssi && !e.framed then k else e.zero
    framed := true
    refEdge := if ssi || (o.ref && s.flag AE_ENC_n_CFG_ZREF c n) then some k else e.refEdge })
  if k = e.count then s else s.stampChange c n o.t

/-- ENCODER_EDGE (R42, R48): both channels decode interface `n` on their own receivers. In SLEEP the receivers are off (R55). -/
def execEncoderEdge (n : Fin 4) (a b : EncObs) (s : State) : Host.Outcome State Fault Refusal :=
  .next (if s.running = true ∧ s.dev ≠ stSLEEP then (({ s with now := max s.now (max a.t b.t) }).decode .a n.val a).decode .b n.val b else s)

/-! ## States (R51 to R56) -/

/-- State LOST: no cam window reads open. -/
def State.lose (s : State) (c : Chan) : State := (s.put LC_STATUS_STATE 4 c).updAe c (fun a => { a with win := 0, pts := [] })

/-- R60: the Class 1 fault of the coordinate in channel `c`, with line `n`'s record. -/
def State.coordFault (s : State) (c : Chan) (line detail : Nat) : State :=
  let s := s.updAe c (fun a => { a with class1 := true })
  s.raise ⟨line, 1, .shared, .own c, .coord, detail⟩

/-- The outcome of a source fault seen by both channels (R52, R60). -/
def State.sourceClass1 (s : State) (c : Chan) (n : Nat) : State :=
  let s := s.updAe c (fun a => { a with confirm := tabDel a.confirm n, healthy := 0 })
  let s := s.put LC_STATUS_STATE (if s.lcState c = 2 ∨ s.lcState c = 3 then 3 else if s.lcState c = 4 then 4 else 0) c
  s.coordFault c 16 n

/-- Both sources faulted, in either channel: LOST and Class 2 in both (R60). -/
def State.bothSourcesFault (s : State) (n : Nat) : State :=
  ((s.lose .a).lose .b).raise ⟨16, 2, .both, .both, .coord, n⟩

/-- The status bit of a source fault. -/
def srcFaultBit : SrcFault → Fld
  | .wire => AE_ENC_n_STATUS_WIRE
  | .illegal => AE_ENC_n_STATUS_ILLEGAL
  | .rate => AE_ENC_n_STATUS_RATE
  | .ampl => AE_ENC_n_STATUS_AMPL
  | .frame => AE_ENC_n_STATUS_FRAME
  | .zdev => AE_ENC_n_STATUS_ZDEV

/-- A report of the other channel still counts: it is at most 2 updates old (R60). -/
def State.otherReported (s : State) (c : Chan) (n : Nat) : Bool :=
  let a := twoAt s.ae c
  a.otherSaw.any (fun e => e.1 == n && decide (a.stamp ≤ e.2 + 2))

/-- SOURCE_FAULT (R60, R61): channel `c` finds source `n` faulty, excludes it at once and reports it. In single mode its own detection counts for both. -/
def execSourceFault (c : Chan) (n : Fin 4) (k : SrcFault) (s : State) : Host.Outcome State Fault Refusal :=
  let s := s.putFlag (srcFaultBit k) true c n.val
  let s := s.updEnc c n.val (fun e => { e with faulty := true })
  .next (if (n.val = s.priSrc c ∨ n.val = s.secSrc c) ∧ s.prog.hasLc = true ∧ s.excluded c n.val = false then
      let s := s.putFlag AE_ENC_n_STATUS_EXCLUDED true c n.val
      if s.lcState c = 4 then s
      else if s.excluded c (s.priSrc c) ∧ s.excluded c (s.secSrc c) then s.bothSourcesFault n.val
      else if s.stayMode c = 2 ∨ s.otherReported c n.val = true then (s.sent c .cycle).sourceClass1 c n.val
      else (s.sent c .cycle).updAe c (fun a => { a with confirm := tabSet a.confirm n.val a.stamp })
    else s)

/-- SOURCE_FAULT_CONFIRM_TIMEOUT (R60): no confirmation of channel `c`'s report on source `n` within 2 updates: Class 2 of `c`; the other keeps both sources. -/
def execSourceFaultConfirmTimeout (c : Chan) (n : Fin 4) (s : State) : Host.Outcome State Fault Refusal :=
  let a := twoAt s.ae c
  .next (if tabHas a.confirm n.val = true ∧ tabGet 0 a.confirm n.val + 2 ≤ a.stamp then
      (s.updAe c (fun a => { a with confirm := tabDel a.confirm n.val })).raise (class2Own 16 c n.val)
    else s)

/-- SOURCE_XCHECK_EXCESS (R57, R61): the sources of channel `c` have differed by more than TOL_SRC on 3 consecutive updates. -/
def execSourceXcheckExcess (c : Chan) (s : State) : Host.Outcome State Fault Refusal :=
  .next (if 3 ≤ (twoAt s.ae c).srcBad ∧ s.lcState c ≠ 4 then (s.lose c).raise (class2Own 17 c (s.get LC_XCHK_SRC_DIFF c)) else s)

/-- CHANNEL_XCHECK_EXCESS (R59, R61): the channels' coordinates have differed by more than TOL_CH on 3 consecutive updates: LOST and Class 2 in both. -/
def execChannelXcheckExcess (s : State) : Host.Outcome State Fault Refusal :=
  .next (if (3 ≤ s.ae.a.chBad ∨ 3 ≤ s.ae.b.chBad) ∧ (s.lcState .a ≠ 4 ∨ s.lcState .b ≠ 4) then
      ((s.lose .a).lose .b).raise ⟨18, 2, .both, .both, .coord, s.get LC_XCHK_CH_DIFF .a⟩
    else s)

/-- R46: the linear coordinate stands at its end. -/
def State.saturatedPos (s : State) (c : Chan) : Bool := s.linear c && decide ((2 ^ 47 - 1) * 65536 ≤ (twoAt s.ae c).pos.natAbs)

/-- The condition of E21 in channel `c`. -/
def State.implausible (s : State) (c : Chan) : Bool :=
  decide (3 ≤ (twoAt s.ae c).velBad) || decide (3 ≤ (twoAt s.ae c).accBad) || s.saturatedPos c

/-- COORDINATE_PLAUSIBILITY (R46, R61, R62): speed or acceleration above its limit on 3 consecutive updates, or saturation: E21; the state stays. -/
def execCoordinatePlausibility (c : Chan) (s : State) : Host.Outcome State Fault Refusal :=
  .next (if s.implausible c then s.coordFault c 21 (s.get LC_VEL_VEL c) else s)

/-- ANGLE_ENGINE_OVERRUN (R61): an update was not complete before the next tick. -/
def execAngleEngineOverrun (c : Chan) (s : State) : Host.Outcome State Fault Refusal := .next (s.raise (class2Own 22 c (s.lcStamp c)))

/-- How long (ns) no count of the active source has changed in channel `c`. -/
def State.stillFor (s : State) (c : Chan) : Nat :=
  let a := twoAt s.ae c
  match a.last with
  | some (t, _) => s.now - t
  | none => a.since * 31250

/-- STANDSTILL_SET (R50): at time `t` no count has changed for longer than 1/VSTILL seconds; velocity and acceleration read 0. -/
def execStandstillSet (c : Chan) (t : Nat) (s : State) : Host.Outcome State Fault Refusal :=
  let s := { s with now := max s.now t }
  .next (if 1000000000 < s.stillFor c * s.get LC_CFG_VSTILL c then
      (((s.putFlag LC_STATUS_STANDSTILL true c).put LC_VEL_VEL 0 c).put LC_ACC_ACC 0 c).updAe c (fun a => { a with vel := 0, acc := 0 })
    else s)

/-! ## Velocity and acceleration (R48, R49) -/

/-- Updates of VEL_WIN and ACC_WIN. -/
def State.velWin (s : State) (c : Chan) : Nat := 2 ^ s.get LC_CFG_VEL_WIN c
def State.accWin (s : State) (c : Chan) : Nat := 8 * 2 ^ s.get LC_CFG_ACC_WIN c

/-- The velocity between two count changes, in 1/256 st/s. -/
def velBetween (old new : Nat × Int) : Int := roundFree ((new.2 - old.2) * 1000000000) (256 * ((new.1 : Int) - old.1))

/-- R48: from the last count change now and the one of VEL_WIN updates ago; with none in the window, from the last two. -/
def State.velocity (s : State) (c : Chan) : Int :=
  let a := twoAt s.ae c
  match a.last with
  | none => a.vel
  | some l =>
    match (a.hist.getD (s.velWin c - 1) none) with
    | some o => if o.1 < l.1 then velBetween o l
      else match a.prev with
        | some p => if p.1 < l.1 then velBetween p l else a.vel
        | none => a.vel
    | none => match a.prev with
        | some p => if p.1 < l.1 then velBetween p l else a.vel
        | none => a.vel

/-- R48, R49, R50: velocity, acceleration and DIR of the update. -/
def State.motion (s : State) (c : Chan) : State :=
  let still := s.flag LC_STATUS_STANDSTILL c
  let v := if still then 0 else s.velocity c
  let w := s.accWin c
  let a := twoAt s.ae c
  let g : Int := match a.velHist[w - 1]? with
    | some o => if still then 0 else roundFree ((v - o) * 1000000000) (256 * (w : Int) * 31250)
    | none => 0
  let s := s.updAe c (fun a => { a with
    vel := v
    acc := g
    hist := (a.last :: a.hist).take 16
    velHist := (v :: a.velHist).take 64
    velBad := if 256 * s.get LC_VMAX_VMAX c < v.natAbs then a.velBad + 1 else 0
    accBad := if s.get LC_AMAX_AMAX c < g.natAbs then a.accBad + 1 else 0 })
  let s := (s.put LC_VEL_VEL (saturated 32 v) c).put LC_ACC_ACC (saturated 32 g) c
  if v = 0 then s else s.put LC_STATUS_DIR (if 0 < v then 1 else 2) c

/-! ## Position -/

/-- The registers of the position (R45, R46). -/
def State.showPos (s : State) (c : Chan) : State :=
  let p := (twoAt s.ae c).pos
  let i := unsigned 48 (s.posInt c)
  let cyc : Int := if s.linear c ∨ s.modulus c = 0 then 0 else p / 65536 / (s.modulus c : Int)
  let s := (s.put LC_POS_LO_POS_FRAC (p % 65536).toNat c).put LC_POS_LO_POS_INT_LO (i % 65536) c
  (s.put LC_POS_HI_POS_INT_HI (i / 65536) c).put LC_CYCLE_CYCLE (unsigned 32 cyc) c

/-- R46: a linear position saturates. -/
def State.clampPos (s : State) (c : Chan) (p : Int) : Int :=
  if s.linear c then max (-((2 ^ 47 - 1) * 65536)) (min p ((2 ^ 47 - 1) * 65536)) else p

/-- The position of the update from the active source's count (R47). -/
def State.takePos (s : State) (c : Chan) : State :=
  let p := s.clampPos c (s.srcPos c (s.activeSrc c))
  s.updAe c (fun a => { a with travel := a.travel + (p - a.pos).natAbs, pos := p })

/-- A reference or a start of the coordinate moves the active position to `p` without movement of the line: the stamped positions and the furthest points move with it. -/
def State.rebase (s : State) (c : Chan) (p : Int) : State :=
  let d := p - (twoAt s.ae c).pos
  let mv (x : Option (Nat × Int)) : Option (Nat × Int) := x.map (fun y => (y.1, y.2 + d))
  let s := s.updAe c (fun a => { a with pos := p, last := mv a.last, prev := mv a.prev, hist := a.hist.map mv, sdi := a.sdi.map (fun e => (e.1, (e.2.1 + d, e.2.2))) })
  match c with
  | .a => (s.shiftSteps .a (d / 65536)).shiftSteps .p (d / 65536)
  | .b => s.shiftSteps .b (d / 65536)

/-- R55, R58: the secondary aligned to the primary. -/
def State.alignSec (s : State) (c : Chan) : State :=
  (s.setSrc c (s.secSrc c) (s.srcPos c (s.priSrc c))).updAe c (fun a => { a with travel := 0 })

/-- The distance of two positions: in rotary mode around the circle. -/
def State.apart (s : State) (c : Chan) (p q : Int) : Nat :=
  if s.linear c ∨ s.modulus c = 0 then (p - q).natAbs
  else
    let m : Int := 65536 * (s.modulus c : Int)
    let d := (p - q) % m
    (min d (m - d)).natAbs

/-- R53: the primary's reference: the integer part becomes OFFSET, and for SSI the scaled value plus OFFSET modulo M; the cycle count stays. -/
def State.reference (s : State) (c : Chan) (k : Int) : State :=
  let n := s.priSrc c
  let m : Int := 65536 * (s.modulus c : Int)
  let off : Int := 65536 * (s.get AE_ENC_n_OFFSET_OFFSET c n : Int)
  let cyc := if m = 0 then 0 else (twoAt s.ae c).pos / m * m
  let s := s.updAe c (fun a => { a with refd := true, enc := a.enc.map (fun e => (e.1, { e.2 with refPos := none })) })
  let s :=
    if s.isSsi c n then
      let v := k * (s.get AE_ENC_n_NUM_NUM c n * 65536 : Nat) / (s.get AE_ENC_n_DEN_DEN c n : Int) + off
      s.updEnc c n (fun e => { e with base := cyc + (if m = 0 then v else v % m), zero := k })
    else s.updEnc c n (fun e => { e with base := cyc + off, zero := k, refPos := some (cyc + off) })
  let s := s.rebase c (s.srcPos c n)
  (s.alignSec c).putFlag AE_ENC_n_STATUS_REFD true c n

/-- R53, R54: what a reference edge of source `n` at count `k` does once the coordinate is referenced: the first one is remembered, a later one must fall within ±TOL_SRC of it. -/
def State.checkRef (s : State) (c : Chan) (n : Nat) (k : Int) : State :=
  let p := s.srcAt c n k
  let s := s.putFlag AE_ENC_n_STATUS_REFD true c n
  match (s.enc c n).refPos with
  | none => s.updEnc c n (fun e => { e with refPos := some p })
  | some q => if 65536 * s.get LC_TOL_TOL_SRC c < s.apart c p q then s.putFlag AE_ENC_n_STATUS_ZDEV true c n else s

/-- The reference edges of the update (R53, R54); in linear mode they are not used. -/
def State.references (s : State) (c : Chan) : State :=
  let one (s : State) (n : Nat) : State :=
    match (s.enc c n).refEdge with
    | none => s
    | some k =>
      let s := s.updEnc c n (fun e => { e with refEdge := none })
      if s.linear c then s
      else if (twoAt s.ae c).refd then (if s.isSsi c n then s else s.checkRef c n k)
      else if n = s.priSrc c ∧ s.lcState c = 1 then s.reference c k
      else s
  one (one s (s.priSrc c)) (s.secSrc c)

/-- A source is free of fault in channel `c`. -/
def State.srcOk (s : State) (c : Chan) (n : Nat) : Bool := !s.excluded c n && !(s.enc c n).faulty

/-- |P − S| is within TOL_SRC (R57). -/
def State.srcNear (s : State) (c : Chan) : Bool :=
  decide ((s.srcPos c (s.priSrc c) - s.srcPos c (s.secSrc c)).natAbs ≤ 65536 * s.get LC_TOL_TOL_SRC c)

/-- R57, R58: the comparison of the sources, then the re-alignment. -/
def State.compareSources (s : State) (c : Chan) : State :=
  let p := s.srcPos c (s.priSrc c)
  let q := s.srcPos c (s.secSrc c)
  let s := s.put LC_XCHK_SRC_DIFF (saturated 16 ((p - q) / 65536)) c
  if s.excluded c (s.priSrc c) || s.excluded c (s.secSrc c) then s
  else
    let s := s.updAe c (fun a => { a with srcBad := if s.srcNear c then 0 else a.srcBad + 1 })
    let d := s.get LC_REALIGN_D c
    if 0 < d ∧ 65536 * d ≤ (twoAt s.ae c).travel then (s.alignSec c).satInc AE_ENC_n_STATUS_REALIGNS c (s.secSrc c) else s

/-- R55: linear mode enters VALID: after a channel reset the coordinate starts at 0; the secondary is aligned in every case. -/
def State.enterLinear (s : State) (c : Chan) : State :=
  let s :=
    if (twoAt s.ae c).wasValid then s
    else (s.setSrc c (s.priSrc c) 0).rebase c 0
  (s.alignSec c).updAe c (fun a => { a with wasValid := true })

/-- Both channels' primaries are referenced (R52); a survivor looks at its own. -/
def State.bothRefd (s : State) (c : Chan) : Bool :=
  (twoAt s.ae c).refd && (s.stayMode c == 2 || (twoAt s.ae (otherChan c)).refd)

/-- R52: INVALID to VEL_ONLY or VALID, VEL_ONLY to VALID. -/
def State.advanceState (s : State) (c : Chan) : State :=
  if s.lcState c = 0 then
    let ok := s.srcOk c (s.priSrc c) && s.srcOk c (s.secSrc c) && !(twoAt s.ae c).class1 && s.srcNear c
    let h := if ok then (twoAt s.ae c).healthy + 1 else 0
    let s := s.updAe c (fun a => { a with healthy := h })
    if 4 ≤ h then
      if s.linear c then (s.enterLinear c).put LC_STATUS_STATE 2 c
      else (s.updAe c (fun a => { a with refd := false, enc := a.enc.map (fun e => (e.1, { e.2 with refEdge := none })) })).put LC_STATUS_STATE 1 c
    else s
  else if s.lcState c = 1 ∧ s.bothRefd c = true then s.put LC_STATUS_STATE 2 c
  else s

/-- The source bits of LC_STATUS, and the conditions of E16 and E21, which are gone when both channels see neither. -/
def State.showSources (s : State) (c : Chan) (bad : BitVec 4) : State :=
  let s := (List.range 4).foldl (fun (s : State) n => s.updEnc c n (fun e => { e with faulty := bad.getLsbD n })) s
  let s := (s.putFlag LC_STATUS_ON_SEC (s.onSec c) c).putFlag LC_STATUS_PRI_OK (s.srcOk c (s.priSrc c)) c
  let s := s.putFlag LC_STATUS_SEC_OK (s.srcOk c (s.secSrc c)) c
  let clean (d : Chan) : Bool := !(s.enc d (s.priSrc d)).faulty && !(s.enc d (s.secSrc d)).faulty
  let s := if clean .a && clean .b then s.clearCond 16 .coord else s
  if s.implausible .a || s.implausible .b then s else s.clearCond 21 .coord

end Sys2Proof.Machine
end

