-- ==== Sys2Proof/Machine/Cam.lean ====
section
/-! DEFINITION. Cam windows and events, the cam origin, the SDI displacement, the master angle, the angle-engine update and the frames of the AE lane (R59, R60, R63 to R74 of 02_line_coordinate.md, R172). -/

namespace Sys2Proof.Machine

open Sys2Proof

/-! ## Windows (R65 to R67, R74) -/

/-- R74: a running Refit holds a function that reads window `w`. -/
def State.winHeld (s : State) (w : Nat) : Bool := s.refitHeld.any (fun f => s.prog.anyOf f (fun i => i.reads (0x080 + w)))

/-- The windows open at the present update. -/
def State.winNow (s : State) (c : Chan) : BitVec 64 :=
  if s.camWorks c then
    BitVec.ofNat 64 ((List.range 64).foldl (fun (v : Nat) w => if s.winState c w && !s.winHeld w then v + 2 ^ w else v) 0)
  else 0

/-- The Cam record (R270): number, then action and direction. Both channels hold the same table: channel A, or a survivor B, sends it. -/
def State.recCam (s : State) (c : Chan) (n act dir : Nat) : State :=
  if s.parts.head? = some c then s.pushRec 1 [n, 256 * act + dir] else s

/-- The windows of the update, with a record of every change. -/
def State.windows (s : State) (c : Chan) : State :=
  let old := (twoAt s.ae c).win
  let new := s.winNow c
  if old = new then s
  else
    let s := (s.updAe c (fun a => { a with win := new })).put CAM_WIN_LO_OPEN (new.toNat % 2 ^ 32) c
    let s := s.put CAM_WIN_HI_OPEN (new.toNat / 2 ^ 32) c
    (List.range 64).foldl (fun (s : State) w =>
      if old.getLsbD w = new.getLsbD w then s
      else s.recCam c w (if new.getLsbD w then actOPEN else actCLOSE) (s.get LC_STATUS_DIR c)) s

/-! ## Events (R69, R70, R72) -/

def State.updPt (s : State) (c : Chan) (n : Nat) (f : PtSt → PtSt) : State := s.updAe c (fun a => { a with pts := tabUpd {} a.pts n f })

/-- An event point fires: the conversion or the capture, and its record. -/
def State.fireCam (s : State) (c : Chan) (n dir : Nat) : State :=
  let act := s.get CAM_PT_n_ACT_ACTION c n
  let tg := s.get CAM_PT_n_ACT_TARGET c n
  let s := if act = actADC then s.camInject c tg else if act = actCAPTURE then s.camCapture c (tg % 8) else s
  s.recCam c n act dir

/-- The first position of point `n` above `p` (forward) or at or below it (backward), unwrapped, 2⁻¹⁶ st: in rotary mode the point repeats every M (R69). -/
def State.ptAbove (s : State) (c : Chan) (n : Nat) (p : Int) : Int :=
  let m : Int := 65536 * (s.modulus c : Int)
  if s.linear c ∨ m = 0 then 65536 * (s.ptPos c n + (twoAt s.ae c).origin)
  else
    let x := 65536 * s.ptPos c n
    x + ((p - x) / m + 1) * m

def State.ptBelow (s : State) (c : Chan) (n : Nat) (p : Int) : Int :=
  let m : Int := 65536 * (s.modulus c : Int)
  if s.linear c ∨ m = 0 then 65536 * (s.ptPos c n + (twoAt s.ae c).origin)
  else
    let x := 65536 * s.ptPos c n
    x + (p - x) / m * m

/-- R69: the crossing from `p` to `q`: direction (1 forward, 2 backward) and position crossed. -/
def State.crossing (s : State) (c : Chan) (n : Nat) (p q : Int) : Option (Nat × Int) :=
  let dir := s.get CAM_PT_n_ACT_DIR c n
  let f := s.ptAbove c n p
  let b := s.ptBelow c n p
  if dir % 2 = 1 ∧ p < f ∧ f ≤ q then some (1, f)
  else if 2 ≤ dir ∧ b ≤ p ∧ q < b then some (2, b)
  else none

/-- The point has fired at this position in this direction and is not armed again (R69). -/
def PtSt.spent (x : PtSt) (d : Nat) (at_ : Int) : Bool := (if d = 1 then x.spentF else x.spentB) == some at_

/-- It is marked as fired, when there is hysteresis. -/
def PtSt.mark (x : PtSt) (h : Nat) (d : Nat) (at_ : Int) : PtSt :=
  if h = 0 then x else if d = 1 then { x with spentF := some at_ } else { x with spentB := some at_ }

/-- R69: armed again after a move of HYST back beyond the point. -/
def PtSt.rearm (x : PtSt) (h : Nat) (q : Int) : PtSt :=
  let f := match x.spentF with
    | some y => if q + 65536 * h ≤ y then none else some y
    | none => none
  let b := match x.spentB with
    | some y => if y + 65536 * h ≤ q then none else some y
    | none => none
  { x with spentF := f, spentB := b }

/-- The crossing is one that does not fire (R70): confirmed, to be skipped, or not armed. -/
def PtSt.quiet (x : PtSt) (d : Nat) (at_ : Int) : Bool := x.pending == d || (if d = 1 then x.skipF else x.skipB) || x.spent d at_

/-- R69, R70 at an update, for one event point that crossed or did not cross: confirmation, the unconfirmed count, the firing. -/
def State.judgePoint (s : State) (c : Chan) (n : Nat) (x : PtSt) (cr : Option (Nat × Int)) : State :=
  let d := match cr with
    | some (d, _) => d
    | none => 0
  let s := if x.pending ≠ 0 ∧ x.pending ≠ d then s.satInc CAM_COUNT_UNCONF c else s
  let s := s.updPt c n (fun y => { y with
    pending := 0
    skipF := if d = 1 then false else y.skipF || (x.pending == 1)
    skipB := if d = 2 then false else y.skipB || (x.pending == 2) })
  match cr with
  | none => s
  | some (d, p) =>
    if x.quiet d p then s
    else
      let s := s.updPt c n (fun y => y.mark (s.get CAM_CFG_HYST c) d p)
      let s := if s.flag CAM_PT_n_ACT_PREDICT c n then s.satInc CAM_COUNT_LATE c else s
      s.fireCam c n d

/-- R70: ns from now to the crossing of distance `dist` (2⁻¹⁶ st) at speed `v` (1/256 st/s), rounded to the nearest 5 ns. -/
def crossingIn (dist v : Nat) : Nat :=
  let den := 5 * 256 * v
  5 * ((2 * dist * 1000000000 + den) / (2 * den))

/-- R70: a crossing before the next update is predicted and scheduled. -/
def State.predict (s : State) (c : Chan) (n : Nat) : State :=
  let a := twoAt s.ae c
  let x := tabGet {} a.pts n
  let v := a.vel.natAbs
  let dir := s.get CAM_PT_n_ACT_DIR c n
  let d := if 0 < a.vel then 1 else 2
  let p := if d = 1 then s.ptAbove c n a.pos else s.ptBelow c n a.pos
  let dist := (if d = 1 then p - a.pos else a.pos - p).toNat
  let ahead : Bool := if d = 1 then decide (a.pos < p) else decide (p ≤ a.pos)
  if s.flag CAM_PT_n_ACT_PREDICT c n && v != 0 && (if d = 1 then dir % 2 == 1 else decide (2 ≤ dir)) && ahead && decide (dist * 1000000000 < v * 256 * 31250)
      && !x.spent d p && !(if d = 1 then x.skipF else x.skipB) then
    s.updPt c n (fun y => { y.mark (s.get CAM_CFG_HYST c) d p with pending := d, due := some (s.now + crossingIn dist v) })
  else s

/-- A scheduled event whose time has come fires. -/
def State.firePredicted (s : State) (c : Chan) (n : Nat) : State :=
  let x := tabGet {} (twoAt s.ae c).pts n
  match x.due with
  | some t => if t ≤ s.now then (s.updPt c n (fun y => { y with due := none })).fireCam c n x.pending else s
  | none => s

/-- The event points in use. -/
def State.eventPoints (s : State) (c : Chan) : List Nat :=
  (s.usedPoints c).filter (fun n => s.get CAM_PT_n_ACT_ACTION c n == actADC || s.get CAM_PT_n_ACT_ACTION c n == actCAPTURE)

/-- R74: a running Refit of a function that uses the coordinate silences the events. -/
def State.camHeld (s : State) : Bool := s.refitHeld.any (fun f => s.uses f .coord)

/-- One event point at an update that went from `p` to the present position. -/
def State.eventPoint (s : State) (c : Chan) (p : Int) (n : Nat) : State :=
  let s := s.firePredicted c n
  let q := (twoAt s.ae c).pos
  let s := s.judgePoint c n (tabGet {} (twoAt s.ae c).pts n) (s.crossing c n p q)
  (s.updPt c n (fun x => x.rearm (s.get CAM_CFG_HYST c) q)).predict c n

/-- R56, R69 to R72: the events of the update; after a jump of the origin, or out of reach, none is judged. -/
def State.events (s : State) (c : Chan) (p : Int) (jumped wasFar : Bool) : State :=
  if !s.camWorks c || s.camHeld then s.updAe c (fun a => { a with pts := a.pts.map (fun e => (e.1, { e.2 with pending := 0, due := none })) })
  else if (twoAt s.ae c).far then s
  else if jumped || wasFar then (s.eventPoints c).foldl (fun (s : State) n => s.predict c n) s
  else (s.eventPoints c).foldl (fun (s : State) n => s.eventPoint c p n) s

/-! ## Origin and reach (R71, R72) -/

/-- R71: a rising ORIGIN_SIG latches the coordinate: predictions are cancelled and hysteresis is armed again. -/
def State.takeOrigin (s : State) (c : Chan) : State × Bool :=
  let sig := s.sigOf c (s.get CAM_CFG_ORIGIN_SIG c)
  let rise := s.linear c && s.flag CAM_CFG_ORIGIN_EN c && sig && !(twoAt s.ae c).originSig
  let s := s.updAe c (fun a => { a with originSig := sig })
  if rise then
    let o := s.posInt c
    let u := unsigned 48 o
    (((s.updAe c (fun a => { a with origin := o, pts := [] })).put CAM_ORIGIN_LO_ORIGIN_LO (u % 2 ^ 32) c).put CAM_ORIGIN_HI_ORIGIN_HI (u / 2 ^ 32) c, true)
  else (s, false)

/-- R72: FAR and its count. -/
def State.takeFar (s : State) (c : Chan) : State :=
  let r := s.relPos c
  let far := s.linear c && !decide (-(2 ^ 31) ≤ r ∧ r < 2 ^ 31)
  let s := if far && !(twoAt s.ae c).far then s.satInc CAM_STATUS_FAR_COUNT c else s
  (s.updAe c (fun a => { a with far := far })).putNew CAM_STATUS_FAR far.toNat c 0

/-! ## SDI and the master angle (R172, R63) -/

/-- R172: the displacement of every SDI whose EN is 1. -/
def State.displacements (s : State) (c : Chan) : State :=
  let a := twoAt s.ae c
  let one (e : Nat × Bool) : Nat × (Int × Int) :=
    let d := if e.2 then -a.pos else a.pos
    let f := max d (tabGet (d, 0) a.sdi e.1).1
    (e.1, (f, (f - d + 65535) / 65536))
  let t := ((twoAt s.graph c).sdiOn.map one).foldl (fun (t : Tab (Int × Int)) e => tabSet t e.1 e.2) []
  s.updAe c (fun a => { a with sdi := t })

/-- R63: the master angle at the present update minus the coordinate, in whole steps (in rotary mode the shorter way round); none while it is missing or stale. -/
def State.masterDiff (s : State) (c : Chan) : Option Int :=
  match (twoAt s.ae c).master with
  | none => none
  | some (t, ang, vel) =>
    if s.now ≤ t + 1000000 * s.get NET_MASTER_STALE then
      let m := ang + roundFree (vel * 256 * ((s.now : Int) - t)) 1000000000
      let d := m - (twoAt s.ae c).pos
      let r : Int := 65536 * (s.modulus c : Int)
      let d := if s.linear c ∨ r = 0 then d else (d + r / 2) % r - r / 2
      some (d / 65536)
    else none

/-- R63: LC_MASTER_DIFF and how long it has stood outside or inside TOL. -/
def State.master (s : State) (c : Chan) : State :=
  if s.flag LC_MASTER_CFG_EN c then
    match s.masterDiff c with
    | none => (s.putNew LC_MASTER_DIFF_DIFF 0 c 0).updAe c (fun a => { a with devOut := 0, devIn := 0 })
    | some d =>
      let s := s.put LC_MASTER_DIFF_DIFF (saturated 32 d) c
      if s.get LC_MASTER_CFG_TOL c < d.natAbs then s.updAe c (fun a => { a with devOut := a.devOut + 1, devIn := 0 })
      else s.updAe c (fun a => { a with devOut := 0, devIn := a.devIn + 1 })
  else s

/-- MASTER_DEV_TIMEOUT (R63): the difference has exceeded TOL for longer than TIME ms: E19 and LC_MASTER_DEV; or has been within TOL for TIME ms: the signal clears. -/
def execMasterDevTimeout (c : Chan) (s : State) : Host.Outcome State Fault Refusal :=
  let a := twoAt s.ae c
  let n := 32 * s.get LC_MASTER_CFG_TIME c
  .next (if s.flag LC_MASTER_CFG_EN c ∧ n < a.devOut then
      if s.flag LC_STATUS_MASTER_DEV c then s
      else (s.putFlag LC_STATUS_MASTER_DEV true c).raiseOnce ⟨19, 0, .shared, .own c, .none, s.get LC_MASTER_DIFF_DIFF c⟩
    else if n ≤ a.devIn ∧ 0 < a.devIn then s.putFlag LC_STATUS_MASTER_DEV false c
    else s)

/-! ## The update -/

/-- The counts of the decoders as the update uses them, and its number (R47). -/
def State.startUpdate (s : State) (c : Chan) (t : Nat) : State :=
  let s := { s with now := max s.now t }
  let s := (List.range 4).foldl (fun (s : State) n => s.putNew AE_ENC_n_COUNT_COUNT (unsigned 32 (s.enc c n).count) c n) s
  let s := s.updAe c (fun a => { a with stamp := a.stamp + 1, since := a.since + 1 })
  s.put LC_STAMP_UPDATE (s.lcStamp c) c

/-- The line-step timers clocked by channel `c`'s angle engine (R336). -/
def State.stepTimers (s : State) (c : Chan) (p : Int) : State :=
  if s.lcState c = 0 ∨ s.lcState c = 4 then s
  else
    let q := (twoAt s.ae c).pos / 65536
    match c with
    | .a => (s.lineSteps .a (p / 65536) q).lineSteps .p (p / 65536) q
    | .b => s.lineSteps .b (p / 65536) q

/-- Position, velocity, cross-check and state of the update. A reference moves the position of the last update too, so that no crossing or step comes of it. -/
def State.coordinate (s : State) (c : Chan) (bad : BitVec 4) : State × Int :=
  let p := (twoAt s.ae c).pos
  let s := (s.takePos c).motion c
  let q := (twoAt s.ae c).pos
  let s := ((s.references c).compareSources c).advanceState c
  let d := (twoAt s.ae c).pos - q
  ((s.showPos c).showSources c bad, p + d)

/-- Origin, reach, windows and events of the update. -/
def State.cams (s : State) (c : Chan) (p : Int) : State :=
  let wasFar := (twoAt s.ae c).far
  let r := s.takeOrigin c
  ((r.1.takeFar c).windows c).events c p r.2 wasFar

/-- ANGLE_ENGINE_UPDATE (R47): one update of channel `c`'s angle engine at tick time `t`; bit n of `bad` says that source n shows a fault at present (R61). The COORD frame goes out. In SLEEP there are no updates. -/
def execAngleEngineUpdate (c : Chan) (t : Nat) (bad : BitVec 4) (s : State) : Host.Outcome State Fault Refusal :=
  .next (if s.running = true ∧ s.dev ≠ stSLEEP ∧ s.prog.hasLc = true then
      let r := (s.startUpdate c t).coordinate c bad
      let s := (r.1.cams c r.2).stepTimers c r.2
      ((((s.displacements c).master c).latchT0 c).monitor c).sent c .ae
    else s)

/-- CAM_PREDICTED_EVENT (R70): at time `t` the scheduled event of point `n` fires. -/
def execCamPredictedEvent (c : Chan) (n : Fin 1024) (t : Nat) (s : State) : Host.Outcome State Fault Refusal :=
  .next (({ s with now := max s.now t }).firePredicted c n.val)

/-- R73: the addresses of the 2,113 words, in order. -/
def camAddr (c : Chan) (i : Nat) : Nat :=
  blockBase .lc c + (if i = 0 then 0x400 else if i < 65 then 0x500 + 4 * (i - 1) else 0x2000 + 4 * (i - 65))

/-- R73: the CRC-32C over the cam table and window configuration. -/
def State.camCrc (s : State) (c : Chan) : Nat := crc32cWords ((List.range 2113).map (fun i => (regWord s.regs 0 (camAddr c i)).toNat))

/-- CAM_CRC_CHECK (R73): every 10 ms channel `c` recomputes the CRC of its own table; `upset` is a word its memory has lost since. An image without a cam table has none to check. -/
def execCamCrcCheck (c : Chan) (upset : Option (Fin 2113 × Word)) (s : State) : Host.Outcome State Fault Refusal :=
  let s := match upset with
    | none => s
    | some (i, w) => { s with regs := tabSet s.regs (camAddr c i.val) w }
  .next (if s.get CAM_CRC_CRC c = 0 ∧ s.usedPoints c = [] then s
    else if s.camCrc c = s.get CAM_CRC_CRC c then s.clearCond 20 .none
    else s.raise (class2Own 20 c (s.camCrc c)))

/-! ## Frames of the other channel -/

/-- STAY_COORD_FRAME (R59, R216, R219): channel `c` receives the other's coordinate of the same update and compares it with its own. -/
def execStayCoordFrame (c : Chan) (h : StayHead) (s : State) : Host.Outcome State Fault Refusal :=
  .next (s.receive c .ae h true (fun s =>
    let d := (twoAt s.ae c).pos - (twoAt s.ae (otherChan c)).pos
    let s := (s.updStay c (fun x => { x with coordMissing := 0, coordGot := true })).put LC_XCHK_CH_DIFF (saturated 16 (d / 65536)) c
    s.updAe c (fun a => { a with chBad := if 65536 * s.get LC_TOL_TOL_CH c < d.natAbs then a.chBad + 1 else 0 })))

/-- STAY_EVENT_FRAME (R60, R73, R148, R223): channel `c` receives a source-fault report, a configuration verdict or the other's CAM_CRC. `same` says that its own verdict is the same. -/
def execStayEventFrame (c : Chan) (h : StayHead) (e : StayEvent) (same : Bool) (s : State) : Host.Outcome State Fault Refusal :=
  .next (s.receive c .cycle h false (fun s =>
    match e with
    | .sourceFault n =>
      let s := s.updAe c (fun a => { a with otherSaw := tabSet a.otherSaw n a.stamp })
      if tabHas (twoAt s.ae c).confirm n ∧ s.lcState c ≠ 4 then s.sourceClass1 c n else s
    | .verdict _ =>
      let s := (s.updStay c (fun x => { x with verdicts := true }))
      if same then s.tryDual else s.latchUnattributed 7 0
    | .camCrc k => if k = s.get CAM_CRC_CRC c then s else s.raise ⟨20, 2, .both, .both, .none, k⟩))

end Sys2Proof.Machine
end

