-- ==== Sys2Proof/Machine/Clocks.lean ====
section
/-! DEFINITION. The commands of the clock monitors (R19 and R20 of 01_architecture.md). -/

namespace Sys2Proof.Machine

open Sys2Proof

/-- R20: the crystal runs, so the judgements of R19 count. -/
def State.crystalRuns (s : State) : Bool := s.flag CLK_STATUS_X32_RUN

/-- R19: the charge of a clock fault by the latest judgement of each channel; while the crystal is stopped both count as within. -/
def State.clockCharge (s : State) : Charge :=
  let a := s.crystalRuns && s.flag CLK_STATUS_SUSPECT_A
  let b := s.crystalRuns && s.flag CLK_STATUS_SUSPECT_B
  match a, b with
  | true, false => .a
  | false, true => .b
  | _, _ => .both

/-- The nominal count of the other channel's reference in 100 µs: 100 MHz seen by A, 25 MHz seen by B. -/
def fmonNominal : Chan → Nat
  | .a => 10000
  | .b => 2500

/-- FREQ_WINDOW_END (R19): channel `c`'s 100 µs window ends with `count` periods of the other channel's reference. A deviation above ±2 % in two consecutive windows is a clock fault, charged by the latest judgements. -/
def execFreqWindowEnd (c : Chan) (count : Nat) (s : State) : Host.Outcome State Fault Refusal :=
  let nom := fmonNominal c
  let diff : Int := (count : Int) - nom
  let dev := roundFree (diff * 10000) nom
  let f := match c with
    | .a => CLK_FMON_X_DEV_AB
    | .b => CLK_FMON_X_DEV_BA
  let bad : Bool := decide (2 * nom < 100 * diff.natAbs)
  let n := if bad then twoAt s.fmon c + 1 else 0
  let s := { s.put f (saturated 16 dev) with fmon := twoSet s.fmon c n }
  .next (if 2 ≤ n then s.raiseOnce ⟨9, 2, s.clockCharge, .both, .none, s.get CLK_STATUS_SUSPECT_A + 2 * s.get CLK_STATUS_SUSPECT_B⟩ else s)

/-- REF_JUDGEMENT_WINDOW_END (R19): channel `c`'s 1 ms window against 32.768 kHz ends with a deviation of `dev` in 0.01 %. -/
def execRefJudgementWindowEnd (c : Chan) (dev : Int) (s : State) : Host.Outcome State Fault Refusal :=
  let bad := decide (200 < dev.natAbs)
  .next (match c with
    | .a => (s.put CLK_FMON_DEV_A (saturated 16 dev)).putFlag CLK_STATUS_SUSPECT_A bad
    | .b => (s.put CLK_FMON_DEV_B (saturated 16 dev)).putFlag CLK_STATUS_SUSPECT_B bad)

/-- AON_CLK_STOP (R20, R425): the crystal has stopped; E11, the flag of class A, and the AON domain counts from channel A's reference. -/
def execAonClkStop (s : State) : Host.Outcome State Fault Refusal :=
  let s := s.putFlag PWR_FLAGS_AON_CLK_STOP true
  .next (if s.power = .on then (s.putFlag CLK_STATUS_X32_RUN false).raise (class0 11 0) else s)

/-- CRYSTAL_RESTART (R20): the crystal runs again and the AON domain counts from it. -/
def execCrystalRestart (s : State) : Host.Outcome State Fault Refusal :=
  .next (if s.power = .on then (s.putFlag CLK_STATUS_X32_RUN true).clearCond 11 .none else s)

/-- PLL_LOCK_LOST (R20): a tree loses lock, a Class 2 fault of that channel. -/
def execPllLockLost (c : Chan) (s : State) : Host.Outcome State Fault Refusal :=
  let f := match c with
    | .a => CLK_STATUS_PLL_A_LOCK
    | .b => CLK_STATUS_PLL_B_LOCK
  .next ((s.putFlag f false).raise ⟨10, 2, chanCharge c, .both, .none, s.get CLK_STATUS_PLL_A_LOCK⟩)

end Sys2Proof.Machine
end

