-- ==== Sys2Proof/Machine/Otp.lean ====
section
/-! DEFINITION. The fuses: words, tally words, the registers that mirror them, and the OTP commands (R371 to R377 of 14_security_lifecycle_otp.md). -/

namespace Sys2Proof.Machine

open Sys2Proof

/-- The fuses of OTP word `n`. -/
def State.fuses (s : State) (n : Nat) : BitVec 72 := tabGet 0 s.sec.otp n

/-- R371: the group of a word. -/
def otpGroup (n : Nat) : Nat :=
  if n < 8 then 0 else if n < 16 then 1 else if n < 32 then 2 else if n < 64 then 3
  else if n < 128 then 4 else if n < 144 then 5 else 6

/-- First word and number of words of a group. -/
def groupSpan : Nat → Nat × Nat
  | 0 => (0, 8)
  | 1 => (8, 8)
  | 2 => (16, 16)
  | 3 => (32, 32)
  | 4 => (64, 64)
  | 5 => (128, 16)
  | 6 => (144, 368)
  | _ => (0, 0)

def groupWords (g : Nat) : List Nat := (List.range (groupSpan g).2).map (fun k => (groupSpan g).1 + k)

/-- R373, R376: W0 to W3 and words 16 to 31 are tally words. -/
def isTally (n : Nat) : Bool := decide (n < 4) || (decide (16 ≤ n) && decide (n < 32))

/-- R373: logical bit `k` is set when either of its fuses is blown. -/
def tallyBit (w : BitVec 72) (k : Nat) : Bool := w.getLsbD (2 * k) || w.getLsbD (2 * k + 1)

/-- The 32 logical bits of a tally word. -/
def tallyValue (w : BitVec 72) : Nat := (List.range 32).foldl (fun v k => v + (tallyBit w k).toNat * 2 ^ k) 0

/-- R373: the two fuses of some logical bit differ. -/
def tallyUneven (w : BitVec 72) : Bool := (List.range 32).any (fun k => w.getLsbD (2 * k) != w.getLsbD (2 * k + 1))

/-- Both fuses of the named logical bits. -/
def tallyFuses (bits : Nat) : BitVec 72 := BitVec.ofNat 72 ((List.range 32).foldl (fun v k => if bits.testBit k then v + 3 * 4 ^ k else v) 0)

/-- R372: a normal word as fuses: its data, and its check code inverted. -/
def wordFuses (d : Nat) : BitVec 72 := BitVec.ofNat 72 (d % 2 ^ 64 + (255 - Config.otpCheck (d % 2 ^ 64) % 256) * 2 ^ 64)

/-- What the check code says of a reading (R374): the data with whether it was corrected, or none where it is uncorrectable. -/
def wordData (w : BitVec 72) : Option (Nat × Bool) :=
  let d := w.toNat % 2 ^ 64
  let c := 255 - w.toNat / 2 ^ 64
  let code (x : Nat) : Nat := Config.otpCheck x % 256
  if code d = c then some (d, false)
  else if (List.range 8).any (fun j => code d == c ^^^ 2 ^ j) then some (d, true)
  else ((List.range 64).find? (fun i => code (d ^^^ 2 ^ i) == c)).map (fun i => (d ^^^ 2 ^ i, true))

/-- R372: the void pattern. -/
def voidData : Nat := 0xDEAD000000000000

/-- The data of normal word `n` as its readers take it: none where it is unwritten, uncorrectable or void. -/
def State.otpData (s : State) (n : Nat) : Option Nat :=
  if s.fuses n = 0 then none
  else match wordData (s.fuses n) with
    | some (d, _) => if d = voidData then none else some d
    | none => none

/-- W1: the group is locked (R373). -/
def State.groupLocked (s : State) (g : Nat) : Bool := tallyBit (s.fuses 1) g

/-- R364: the value of a counter of two tally words: consecutive set logical bits from bit 0. -/
def countBits (bits : List Bool) : Nat := (bits.takeWhile id).length

def State.counterAt (s : State) (n : Nat) : Nat :=
  countBits ((List.range 32).map (tallyBit (s.fuses n)) ++ (List.range 32).map (tallyBit (s.fuses (n + 1))))

/-! ## Lifecycle (R351, R373) -/

def lcBLANK : Nat := 0
def lcMANUFACTURE : Nat := 1
def lcPROVISIONED : Nat := 2
def lcFIELD : Nat := 3
def lcSERVICE : Nat := 4
def lcRETURN : Nat := 5
def lcSCRAPPED : Nat := 6

/-- R353, R373: the lifecycle code of W0: its highest set logical bit. -/
def lifecycleOf (w : BitVec 72) : Nat :=
  if tallyBit w 4 then lcSCRAPPED else if tallyBit w 3 then lcRETURN else if tallyBit w 2 then lcFIELD
  else if tallyBit w 1 then lcPROVISIONED else if tallyBit w 0 then lcMANUFACTURE else lcBLANK

/-- R373: a set W0 bit without the bits below it that its path requires reads MARGINAL. -/
def pathBroken (w : BitVec 72) : Bool :=
  let b := tallyBit w
  (b 1 && !b 0) || (b 2 && !b 1) || (b 3 && !b 2) || (b 4 && !b 0)

/-- SEC_LIFECYCLE.STATE. -/
def State.lifecycle (s : State) : Nat := s.get SEC_LIFECYCLE_STATE

/-- The fused state under a SERVICE. -/
def State.fusedState (s : State) : Nat := if s.lifecycle = lcSERVICE then s.get SEC_LIFECYCLE_SVC_FROM else s.lifecycle

/-- Some ring holds a scope of R367. -/
def State.scopeHeld (s : State) (k : Nat) : Bool := (List.range 8).any (fun n => bit (s.get SEC_AUTH_n_SCOPE .a n) k)

/-! ## Registers that mirror the fuses -/

/-- Bits shown in registers whenever fuses have been blown: the locks, the written map, the counters, the revocations, the repair enables and the identities. W3 is numbered as SEC_KEYCTL shows it. -/
def State.showOtp (s : State) : State :=
  let s := s.put OTP_LOCK_LOCKED (tallyValue (s.fuses 1) % 128)
  let s := s.sec.otp.foldl (fun (s : State) e => s.put OTP_WMAP_k_WRITTEN (setBit (s.get OTP_WMAP_k_WRITTEN .a (e.1 / 32)) (e.1 % 32) (e.2 != 0)) .a (e.1 / 32)) s
  let s := (s.put SEC_ROLLBACK_FW (s.counterAt 16)).put SEC_ROLLBACK_CLZ (s.counterAt 18)
  let w3 := tallyValue (s.fuses 3)
  let s := (s.put SEC_KEYCTL_OWNER_REV (w3 % 256)).put SEC_KEYCTL_VENDOR_REV (w3 / 256 % 16)
  s.put BST_REPAIR_USED_USED (tallyValue (s.fuses 2))

/-- The device identity (words 10 and 11) and the network addresses (words 12 and 13) as their readers take them. -/
def State.showIdentity (s : State) : State :=
  let d (n : Nat) : Nat := (s.otpData n).getD 0
  let s := (((s.put SEC_DEVICE_ID_n_ID (d 10 % 2 ^ 32) .a 0).put SEC_DEVICE_ID_n_ID (d 10 / 2 ^ 32) .a 1).put SEC_DEVICE_ID_n_ID (d 11 % 2 ^ 32) .a 2).put SEC_DEVICE_ID_n_ID (d 11 / 2 ^ 32) .a 3
  (((s.put NET_n_MAC_LO_MAC_LO (d 12 % 2 ^ 32) .a 0).put NET_n_MAC_HI_MAC_HI (d 12 / 2 ^ 32 % 65536) .a 0).put NET_n_MAC_LO_MAC_LO (d 13 % 2 ^ 32) .a 1).put NET_n_MAC_HI_MAC_HI (d 13 / 2 ^ 32 % 65536) .a 1

/-- Fuses blown in word `n`; a fuse never closes again. -/
def State.blow (s : State) (n : Nat) (f : BitVec 72) : State :=
  (s.updSec (fun x => { x with otp := tabUpd 0 x.otp n (fun w => w ||| f) })).showOtp

/-- The fuses of an interrupted or failed programming: any part of what was to be blown (R376). -/
def State.blowPart (s : State) (n : Nat) (f : BitVec 72) : State :=
  let r := s.draw
  r.2.blow n (f &&& BitVec.ofNat 72 r.1)

/-- Logical bits of a tally word programmed by SEC: both fuses of each (R373). -/
def State.tally (s : State) (n bits : Nat) : State := s.blow n (tallyFuses bits)

/-- R364: a counter of two tally words advanced to `v`. -/
def State.advanceCounter (s : State) (n v : Nat) : State :=
  let m := 2 ^ v - 1
  (s.tally n (m % 2 ^ 32)).tally (n + 1) (m / 2 ^ 32 % 2 ^ 32)

/-! ## The commands -/

def resOK : Nat := 0
def resLOCK_INCOMPLETE : Nat := 1
def resLOCKED : Nat := 2
def resSTATE : Nat := 3
def resUNCORRECTABLE : Nat := 4
def resPROG_FAIL : Nat := 5
def resNOT_BLANK : Nat := 6

/-- R371, R376: the present lifecycle state permits programming word `n`. W4 to W7 and group 5 are written at a claim only. -/
def State.mayProgram (s : State) (n : Nat) : Bool :=
  let l := s.lifecycle
  match otpGroup n with
  | 0 => decide (n < 4)
  | 2 => true
  | 3 => l == lcMANUFACTURE || l == lcRETURN || (l == lcSERVICE && s.scopeHeld 8)
  | 5 => false
  | _ => l == lcBLANK || l == lcMANUFACTURE

/-- R376: the verdict on a PROGRAM before any fuse is blown. -/
def State.programCheck (s : State) (n : Nat) : Nat :=
  if isTally n = false ∧ s.fuses n ≠ 0 then resNOT_BLANK
  else if s.groupLocked (otpGroup n) then resLOCKED
  else if s.mayProgram n then resOK
  else resSTATE

/-- R377: the verdict on a LOCK of group `g`. -/
def State.lockCheck (s : State) (g : Nat) : Nat :=
  if g = 0 ∨ g = 2 ∨ 6 < g ∨ (g = 3 ∧ s.mayProgram 32 = false) then resSTATE
  else if (groupWords g).any (fun n => s.fuses n == 0) then resLOCK_INCOMPLETE
  else resOK

/-- OTP_DATA. -/
def State.otpDataReg (s : State) : Nat := s.get OTP_DATA_LO_DATA + 2 ^ 32 * s.get OTP_DATA_HI_DATA

/-- The fuses a PROGRAM of word `n` blows (R376). -/
def State.programFuses (s : State) (n : Nat) : BitVec 72 :=
  if isTally n then tallyFuses (s.get OTP_DATA_LO_DATA) else wordFuses s.otpDataReg

/-- The words a VOID of group `g` writes (R377). -/
def State.voidWords (s : State) (g : Nat) : List Nat := (groupWords g).filter (fun n => s.fuses n == 0)

/-- R374: a command starts; while one runs, it is ignored and COLL is set. -/
def State.otpStart (s : State) (cmd addr : Nat) : State :=
  if s.flag OTP_STATUS_BUSY then s.putFlag OTP_STATUS_COLL true
  else (((s.put OTP_CTRL_CMD cmd).put OTP_CTRL_ADDR addr).putFlag OTP_STATUS_BUSY true).updSec (fun x => { x with otpRun := some ⟨cmd, addr⟩ })

/-- A write of OTP_CTRL by initiator `i`: the firewall first, then the rights of R374. -/
def State.otpCommand (s : State) (i : Initiator) (who : Bool) (cmd addr : Nat) : State :=
  if s.fwAllows i .write (blockBase .otp .a) (blockBase .otp .a + 3) = false then s.deny i (blockBase .otp .a)
  else { (if who then s.otpStart cmd addr else s) with bus := .done }

/-- OTP_READ (R374): SEC or HMC reads word `n` at the nominal reference. -/
def execOtpRead (i : Initiator) (n : Fin 512) (s : State) : Host.Outcome State Fault Refusal := .next (s.otpCommand i (i == .sec || i == .hmc) 0 n.val)

/-- OTP_MREAD (R374): SEC or HMC reads word `n` at three references. -/
def execOtpMread (i : Initiator) (n : Fin 512) (s : State) : Host.Outcome State Fault Refusal := .next (s.otpCommand i (i == .sec || i == .hmc) 1 n.val)

/-- OTP_PROGRAM (R376): SEC programs word `n` from OTP_DATA. -/
def execOtpProgram (i : Initiator) (n : Fin 512) (s : State) : Host.Outcome State Fault Refusal := .next (s.otpCommand i (i == .sec) 2 n.val)

/-- OTP_LOCK (R377): SEC locks group `g`. -/
def execOtpLock (i : Initiator) (g : Fin 512) (s : State) : Host.Outcome State Fault Refusal := .next (s.otpCommand i (i == .sec) 3 g.val)

/-- OTP_VOID (R377): SEC writes the void pattern into every unwritten word of group `g`. -/
def execOtpVoid (i : Initiator) (g : Fin 512) (s : State) : Host.Outcome State Fault Refusal := .next (s.otpCommand i (i == .sec) 4 g.val)

/-- Blown bits of a 72-bit word. -/
def popCount (w : BitVec 72) : Nat := ((List.range 72).filter (fun k => w.getLsbD k)).length

/-- R374, R375: OTP_ALARM and E56, Class 0. -/
def State.otpAlarm (s : State) (n : Nat) : State := (s.putFlag OTP_STATUS_ALARM true).raiseOnce (class0 56 n)

/-- What a READ or MREAD of word `n` shows (R374): the margin counts, MARGINAL, and the data by the check code at nominal. Words 8 and 9 deliver 0 and STATE. -/
def State.otpShow (s : State) (n : Nat) (three : Bool) (o : Sense) : State :=
  let w := s.fuses n ^^^ o.err
  let s := s.put OTP_MARGIN_CHECK (w.toNat / 2 ^ 64)
  let odd := three && (o.low != 0 || o.high != 0 || (isTally n && tallyUneven w))
  let s := if three then ((s.put OTP_MARGIN_DIFF_LOW (popCount o.low)).put OTP_MARGIN_DIFF_HIGH (popCount o.high)).putFlag OTP_STATUS_MARGINAL odd else s
  let s := if odd then s.otpAlarm n else s
  let fin (s : State) (d : Nat) (corr : Bool) (r : Nat) : State :=
    (((s.put OTP_DATA_LO_DATA (d % 2 ^ 32)).put OTP_DATA_HI_DATA (d / 2 ^ 32)).putFlag OTP_STATUS_CORRECTED corr).put OTP_STATUS_RESULT r
  if n = 8 ∨ n = 9 then fin s 0 false resSTATE
  else if isTally n then fin s (w.toNat % 2 ^ 64) false resOK
  else match wordData w with
    | some (d, c) => fin s d c resOK
    | none => fin s 0 false resUNCORRECTABLE

/-- The blowing part of a command with its verdict; `ok`: every fuse verifies at all three references. -/
def State.otpBlow (s : State) (c : OtpCmd) (ok : Bool) : State × Nat :=
  match c.cmd with
  | 2 =>
    let r := s.programCheck c.addr
    if r ≠ resOK then (s, r)
    else if ok then (s.blow c.addr (s.programFuses c.addr), resOK)
    else (s.blowPart c.addr (s.programFuses c.addr), resPROG_FAIL)
  | 3 =>
    let r := s.lockCheck c.addr
    if r ≠ resOK then (s, r)
    else if ok then (s.tally 1 (2 ^ c.addr), resOK)
    else (s.blowPart 1 (tallyFuses (2 ^ c.addr)), resPROG_FAIL)
  | 4 =>
    if s.lifecycle ≠ lcMANUFACTURE ∨ c.addr = 0 ∨ c.addr = 2 ∨ 6 < c.addr then (s, resSTATE)
    else if ok then ((s.voidWords c.addr).foldl (fun s n => s.blow n (wordFuses voidData)) s, resOK)
    else ((s.voidWords c.addr).foldl (fun s n => s.blowPart n (wordFuses voidData)) s, resPROG_FAIL)
  | _ => (s, resSTATE)

/-- OTP_COMMAND_DONE (R374 to R377): the running command completes; `o` is how the word read reads, `ok` whether programmed fuses verify. -/
def execOtpCommandDone (o : Sense) (ok : Bool) (s : State) : Host.Outcome State Fault Refusal :=
  .next (match s.sec.otpRun with
    | none => s
    | some c =>
      let s := (s.updSec (fun x => { x with otpRun := none })).putFlag OTP_STATUS_BUSY false
      if c.cmd = 0 then s.otpShow c.addr false o
      else if c.cmd = 1 then s.otpShow c.addr true o
      else
        let r := s.otpBlow c ok
        (r.1.put OTP_STATUS_RESULT r.2).showIdentity)

/-- R376: power lost while a command blows fuses leaves any part of them blown. -/
def State.otpInterrupt (s : State) : State :=
  match s.sec.otpRun with
  | none => s
  | some c => (s.otpBlow c false).1.updSec (fun x => { x with otpRun := none })

end Sys2Proof.Machine
end

