-- ==== Sys2Proof/Machine/ImgFields.lean ====
section
/-! DEFINITION. The fields of a Cleuz image (R147 of 05_logic_graph.md): which register field each entry names, its section, and the value the image carries for a field. -/

namespace Sys2Proof.Machine

open Sys2Proof

/-- A failure of R148: error code, section-table index, byte offset of the record. -/
structure ImgErr where
  code : Nat
  sect : Nat := 0
  record : Nat := 0
  deriving DecidableEq, Repr

/-- R147: the section type that carries the class C fields of a block. -/
def sectionOf (b : Block) (off : Nat) : Nat :=
  match b with
  | .lc => if off < 0x400 then 2 else 3
  | .sin => 4
  | .sout => 5
  | .lge => 6
  | .dsf => 7
  | .net => 8
  | .llk => 9
  | .adc => 10
  | .tim => 11
  | _ => 1

/-- The fields an image may carry at an address: class C, and the network addresses of R227. -/
def imageFields (a : Nat) : List Fld :=
  match placeOf a with
  | .regs b _ =>
    match regAt b (offsetIn b a) with
    | some (d, _) => d.fields.filter (fun f => f.cls == .c || (b == .net && f.cls == .w && f.acc == .rws))
    | none => []
  | _ => []

/-- Blocks whose two views are configured one by one: converters and timers. -/
def ownViews (b : Block) : Bool := b == .adc || b == .tim

/-- The section a field of the image belongs to, where it names a field. -/
def ImgField.sect (f : ImgField) : Option Nat :=
  match placeOf f.addr with
  | .regs b base =>
    if (imageFields f.addr).any (fun g => g.hi == f.hi && g.lo == f.lo) && (decide (base < 0x50000000) || (ownViews b && decide (base < 0x60000000)))
    then some (sectionOf b (offsetIn b f.addr)) else none
  | _ => none

/-- R464: the value fits the field. -/
def ImgField.fits (f : ImgField) : Bool := decide (f.value < 2 ^ (f.hi + 1 - f.lo))

/-- The reset word of the register at an address. -/
def rstOf (a : Nat) : Nat :=
  match regOf a with
  | some d => d.rst
  | none => 0

/-- One field written at an address. -/
def putField (r : RegFile) (a hi lo v : Nat) : RegFile := tabSet r a (putBits (regWord r (rstOf a) a) hi lo v)

/-- One field of an image into the register file: per-channel blocks hold it in both views. -/
def loadField (r : RegFile) (f : ImgField) : RegFile :=
  match placeOf f.addr with
  | .regs b _ =>
    let r := putField r f.addr f.hi f.lo f.value
    if blockPerChan b && !ownViews b then putField r (f.addr + 0x10000000) f.hi f.lo f.value else r
  | _ => r

/-- The image has a section of this type that is not empty. -/
def Image.has (im : Image) (typ : Nat) : Bool := im.table.any (fun e => e.typ == typ && e.length != 0)

/-- The fields of the image's present sections, in section-table order. -/
def Image.used (im : Image) : List ImgField := im.table.flatMap (fun e => if e.length = 0 then [] else im.fields.filter (fun f => f.sect == some e.typ))

/-- Whether a field is a network address field (class W, R227). -/
def ImgField.isNetAddr (f : ImgField) : Bool :=
  match placeOf f.addr with
  | .regs .net _ => (imageFields f.addr).any (fun g => g.hi == f.hi && g.lo == f.lo && g.cls == .w)
  | _ => false

/-! ## The configuration an image carries -/

/-- What the checks of step 7 of R148 read: the fields of the present sections, last written first, and the image. -/
structure Cand where
  fs : List ImgField
  im : Image
  deriving DecidableEq, Repr

def Image.cand (im : Image) : Cand := ⟨im.used.reverse, im⟩

/-- The value carried for a field of a register at a base, unlimited by its width; a field the image does not carry has its reset value (R147). -/
def Cand.at_ (k : Cand) (f : Fld) (base : Nat) (i : Nat := 0) : Nat :=
  match k.fs.find? (fun x => x.addr == fldAddr f base i && x.hi == f.hi && x.lo == f.lo) with
  | some x => x.value
  | none => (f.rst >>> f.lo) % 2 ^ (f.hi + 1 - f.lo)

/-- ... in channel A's view. -/
def Cand.v (k : Cand) (f : Fld) (i : Nat := 0) : Nat := k.at_ f (blockBase f.blk .a) i

/-- R464: some carried value does not fit its field. -/
def Cand.wideAt (k : Cand) (fs : List Fld) (base : Nat) (i : Nat := 0) : Bool := fs.any (fun f => decide (2 ^ (f.hi + 1 - f.lo) ≤ k.at_ f base i))

def Cand.wide (k : Cand) (fs : List Fld) (i : Nat := 0) : Bool := fs.any (fun f => decide (2 ^ (f.hi + 1 - f.lo) ≤ k.v f i))

/-- The checks of one record in their order: each with whether it fails and its code. -/
abbrev Rec := List (Bool × Nat)

/-- The first failing check of a section: record index and code. -/
def firstFail : Nat → List Rec → Option (Nat × Nat)
  | _, [] => none
  | n, r :: t =>
    match r.find? (fun (e : Bool × Nat) => e.1) with
    | some e => some (n, e.2)
    | none => firstFail (n + 1) t

/-- A value outside a closed range. -/
def outside (v lo hi : Nat) : Bool := decide (v < lo) || decide (hi < v)

/-- Bits set in a 16-bit map. -/
def bits16 (m : Nat) : Nat := ((List.range 16).filter (fun g => bit m g)).length

/-- A sum of fractions exceeds one half (R88, R115). -/
def overHalf (l : List (Nat × Nat)) : Bool :=
  let r := l.foldl (fun (a : Nat × Nat) (e : Nat × Nat) => (a.1 * e.2 + e.1 * a.2, a.2 * e.2)) ((0 : Nat), (1 : Nat))
  decide (r.2 < 2 * r.1)

/-! ## Signals and instances of an image -/

/-- The instances of a code, with their numbers. -/
def Cand.ofCode (k : Cand) (code : Nat) : List (Nat × Inst) := k.im.prog.insts.filter (fun e => e.2.code == code)

/-- Every instance output, as often as an instance writes it. -/
def Prog.allOuts (p : Prog) : List Nat := p.insts.flatMap (fun e => e.2.outs)

/-- Mode of a pair: 3 = split (R79). -/
def Cand.pairMode (k : Cand) (n : Nat) : Nat := k.v SIN_PAIR_n_CFG_MODE n

/-- R65: some point of the image opens or closes a window. -/
def Cand.hasWindow (k : Cand) (w : Nat) : Bool :=
  (List.range 1024).any (fun p => (k.v CAM_PT_n_ACT_ACTION p == 1 || k.v CAM_PT_n_ACT_ACTION p == 2) && k.v CAM_PT_n_ACT_TARGET p == w)

/-- Kind of a signal an image may name: `some true` numeric, `some false` boolean, none where the number is reserved or the image does not produce the signal (R125, R126). -/
def Cand.kind (k : Cand) (g : Nat) : Option Bool :=
  if g = 0x00C then some true
  else if g < 0x038 then some false
  else if 0x040 ≤ g ∧ g < 0x070 then (if k.pairMode ((g - 0x040) / 2) = 3 then some false else none)
  else if 0x080 ≤ g ∧ g < 0x0C0 then (if k.v CAM_WIN_n_CFG_TEST (g - 0x080) = 0 ∧ k.hasWindow (g - 0x080) = true then some false else none)
  else if 0x0C0 ≤ g ∧ g < 0x0E0 then some false
  else if 0x0E0 ≤ g ∧ g < 0x0F0 then some true
  else if 0x100 ≤ g ∧ g < 0x300 then some false
  else if 0x300 ≤ g ∧ g < 0x380 then some true
  else if 0x380 ≤ g ∧ g < 0x400 then some false
  else if 0x400 ≤ g ∧ g < 0x800 then (if k.im.prog.allOuts.contains g then some (k.im.prog.numeric.contains g) else none)
  else none

/-- R145: the signals of non-safe origin: the two process images and LC_MASTER_DEV. -/
def nonSafe (g : Nat) : Bool := g == 0x006 || (decide (0x380 ≤ g) && decide (g < 0x400))

/-- A configuration field names a boolean, or numeric, signal: wrong kind and unusable number, each with its code. -/
def Cand.names (k : Cand) (g : Nat) (numeric : Bool) (kindCode rangeCode : Nat) : Rec :=
  [(k.kind g == some (!numeric), kindCode), ((k.kind g).isNone, rangeCode)]

end Sys2Proof.Machine
end

