-- ==== Sys2Proof/Machine/CfgRules.lean ====
section
/-! DEFINITION. The configuration checks of the sections of a Cleuz image other than LGE and DSF: SYS, LC, CAM, SIN, SOUT, NET, LLK, ADC and TIM (step 7 of R148, R464, and the rules each record names). The order of the records of a section is that of their registers. -/

namespace Sys2Proof.Machine

open Sys2Proof

def cSIG_KIND : Nat := 0x0803
def cSIG_RANGE : Nat := 0x0804
def cPARAM : Nat := 0x0807

/-! ## SYS -/

/-- T_G in µs. -/
def Cand.tgUs (k : Cand) : Nat := 125 * 2 ^ k.v SYS_GCYCLE_TG_SEL

def Cand.sysRecs (k : Cand) : List Rec :=
  let sig (en : Fld) (g : Fld) (numeric : Bool) : Rec := if k.v en = 1 then k.names (k.v g) numeric cSIG_KIND cPARAM else []
  [[(k.wide [SYS_GCYCLE_TG_SEL], cPARAM)],
   [(k.v FC_FLT_CFG_LEVEL == 0 || k.wide [FC_FLT_CFG_LEVEL], cPARAM)],
   [(k.wide [MZW_LOT_CFG_EN, MZW_LOT_CFG_ID_SIG, MZW_LOT_CFG_CUT_SIG], cPARAM)]
     ++ sig MZW_LOT_CFG_EN MZW_LOT_CFG_CUT_SIG false ++ (if k.v MZW_LOT_CFG_ID_SIG = 0 then [] else sig MZW_LOT_CFG_EN MZW_LOT_CFG_ID_SIG true),
   [(decide (30 < k.v BST_CFG_CERT_DAYS), cPARAM)],
   [(k.wide [PWR_SLEEP_CFG_SLEEP_EN, PWR_SLEEP_CFG_SHDN_EN, PWR_SLEEP_CFG_WAKE_HOST, PWR_SLEEP_CFG_SHDN_SIG, PWR_SLEEP_CFG_SLEEP_SIG], cPARAM)]
     ++ sig PWR_SLEEP_CFG_SLEEP_EN PWR_SLEEP_CFG_SLEEP_SIG false ++ sig PWR_SLEEP_CFG_SHDN_EN PWR_SLEEP_CFG_SHDN_SIG false,
   [(k.wide [PWR_WAKE_PAIRS_PAIRS], cPARAM)],
   [(k.wide [PWR_WAKE_WAKE_TIME], cPARAM)]]

/-! ## LC and AE (R41, R43, R45, R50, R59) -/

def cLC_RANGE : Nat := 0x030B

/-- M (R45). -/
def Cand.modulus (k : Cand) : Nat := k.v LC_CFG_MOD32 * 2 ^ 32 + k.v LC_MODULUS_M

def Cand.rotary (k : Cand) : Bool := k.v LC_CFG_MODE == 0

/-- An encoder interface that is a source. -/
def Cand.source (k : Cand) (n : Nat) : Bool := k.v LC_CFG_PRI_SRC == n || k.v LC_CFG_SEC_SRC == n

/-- R41: the frame of an SSI encoder, in ns. -/
def ssiFrame (bits clk : Nat) : Nat := (bits + 3) * (8000 / 2 ^ clk) + 15000

def Cand.lcCfg (k : Cand) : Rec :=
  let p := k.v LC_CFG_PRI_SRC
  [(k.wide [LC_CFG_VSTILL, LC_CFG_ACC_WIN, LC_CFG_SEC_SRC, LC_CFG_PRI_SRC, LC_CFG_MOD32, LC_CFG_MODE], cLC_RANGE),
   (k.v LC_CFG_PRI_SRC == k.v LC_CFG_SEC_SRC, 0x0302),
   (k.rotary && decide (k.v AE_ENC_n_CFG_TYPE p < 2) && k.v AE_ENC_n_CFG_ZREF p == 0, 0x0303),
   (decide (4 < k.v LC_CFG_VEL_WIN), cLC_RANGE),
   (k.v LC_CFG_VSTILL == 0, 0x0308)]

/-- R45: in rotary mode M lies in 2 to 2³² and VMAX × 31.25 µs below M/2. -/
def Cand.lcModulus (k : Cand) : Rec :=
  [(decide (2 ^ 32 ≤ k.v LC_MODULUS_M) || (k.rotary && outside k.modulus 2 (2 ^ 32)), 0x0306),
   (k.rotary && decide (k.modulus * 100000000 ≤ k.v LC_VMAX_VMAX * 6250), 0x0307)]

def Cand.lcTol (k : Cand) : Rec :=
  [(k.v LC_TOL_TOL_CH == 0 || k.v LC_TOL_TOL_SRC == 0, 0x030A), (k.wide [LC_TOL_TOL_CH, LC_TOL_TOL_SRC], cLC_RANGE),
   (decide (k.v LC_TOL_TOL_CH * 1000000 < 2000000 + k.v LC_VMAX_VMAX), 0x0309)]

def Cand.lcMaster (k : Cand) : Rec :=
  [(k.v LC_MASTER_CFG_EN == 1 && (k.v LC_MASTER_CFG_TIME == 0 || k.v LC_MASTER_CFG_TOL == 0), 0x030A),
   (k.wide [LC_MASTER_CFG_EN, LC_MASTER_CFG_TIME, LC_MASTER_CFG_TOL], cLC_RANGE)]

def Cand.encoder (k : Cand) (n : Nat) : Rec :=
  let ty := k.v AE_ENC_n_CFG_TYPE n
  let e := k.v AE_ENC_n_CFG_EDGE_MAX n
  let general : Rec := [(k.wide [AE_ENC_n_CFG_EDGE_MAX, AE_ENC_n_CFG_SSI_BITS, AE_ENC_n_CFG_INVERT, AE_ENC_n_CFG_ZREF, AE_ENC_n_CFG_TYPE, AE_ENC_n_NUM_NUM, AE_ENC_n_DEN_DEN, AE_ENC_n_OFFSET_OFFSET] n
    || decide (4 < k.v AE_ENC_n_CFG_SSI_CLK n), cLC_RANGE)]
  let used : Rec :=
    [(ty == 0 && outside e 1 8000 || ty == 1 && outside e 1 500, 0x0305),
     (decide (2 ≤ ty) && (e != 0 || outside (k.v AE_ENC_n_CFG_SSI_BITS n) 8 32), cLC_RANGE),
     (decide (2 ≤ ty) && decide (31250 < ssiFrame (k.v AE_ENC_n_CFG_SSI_BITS n) (k.v AE_ENC_n_CFG_SSI_CLK n)), 0x0301),
     (k.v AE_ENC_n_NUM_NUM n == 0 || k.v AE_ENC_n_DEN_DEN n == 0, 0x0304),
     (k.rotary && k.v LC_CFG_PRI_SRC == n && decide (k.modulus ≤ k.v AE_ENC_n_OFFSET_OFFSET n), cLC_RANGE)]
  if k.source n then used ++ general else general

def Cand.lcRecs (k : Cand) : List Rec :=
  [k.lcCfg, k.lcModulus, k.lcTol, [(k.wide [LC_REALIGN_D], cLC_RANGE)],
   [(k.v LC_VMAX_VMAX == 0, 0x030A), (k.wide [LC_VMAX_VMAX], cLC_RANGE)],
   [(k.v LC_AMAX_AMAX == 0, 0x030A), (k.wide [LC_AMAX_AMAX], cLC_RANGE)],
   k.lcMaster] ++ (List.range 4).map k.encoder

/-! ## CAM (R65, R66, R68) -/

def cCAM_RANGE : Nat := 0x0403
def cADC_INJ : Nat := 0x0C05
def cTIM_CAP : Nat := 0x0D03

/-- The positions of the points of an action that name a window. -/
def Cand.points (k : Cand) (action target : Nat) : List Nat :=
  ((List.range 1024).filter (fun p => k.v CAM_PT_n_ACT_ACTION p == action && k.v CAM_PT_n_ACT_TARGET p == target)).map (fun p => k.v CAM_PT_n_POS_POS p)

/-- The width of a window from its open to its close point; none in linear mode where the window reads open outside the two (R65, R72). -/
def Cand.width (k : Cand) (o c : Nat) : Option Nat :=
  if k.rotary then some ((c + k.modulus - o) % k.modulus)
  else
    let d := signed 32 c - signed 32 o
    if 0 ≤ d then some d.toNat else none

/-- R66: 2 × LC_VMAX × 31.25 µs, rounded up. -/
def Cand.leastWidth (k : Cand) : Nat := (k.v LC_VMAX_VMAX * 625 + 9999999) / 10000000

def Cand.narrow (k : Cand) (o c : Nat) : Bool :=
  o != c && (match k.width o c with
    | some w => decide (w < k.leastWidth)
    | none => false)

/-- R68: the test groups. -/
def testGroup (g : Nat) : Bool := (decide (1 ≤ g) && decide (g ≤ 8)) || (decide (0x10 ≤ g) && decide (g ≤ 0x1F))

def Cand.window (k : Cand) (w : Nat) : Rec :=
  let os := k.points 1 w
  let cs := k.points 2 w
  let test := k.v CAM_WIN_n_CFG_TEST w
  let used := os != [] || cs != [] || test != 0 || k.v CAM_WIN_n_CFG_DIR w != 0 || k.v CAM_WIN_n_CFG_TARGET w != 0
  if used then
    [(decide (1 < test) || decide (2 < k.v CAM_WIN_n_CFG_DIR w), cCAM_RANGE),
     (if test = 1 then !testGroup (k.v CAM_WIN_n_CFG_TARGET w) else k.v CAM_WIN_n_CFG_TARGET w != 0, cCAM_RANGE),
     (os.length != 1 || cs.length != 1, 0x0401),
     (k.narrow (os.headD 0) (cs.headD 0), 0x0402)]
  else []

/-- An injection point names a context of the channel's first or second converter with CAM_INJ set, in both channels (R308, R332). -/
def Cand.badInject (k : Cand) (target : Nat) : Bool :=
  let n := target % 64
  let j := target / 64 % 2
  decide (56 ≤ n) || [j, 2 + j].any (fun c => k.at_ ADC_CTX_n_CFG_CAM_INJ (adcBase c) n == 0)

/-- A capture point names a timer whose CAP_SRC is cam, in both channels (R345). -/
def Cand.badCapture (k : Cand) (t : Nat) : Bool := [Chan.a, Chan.b].any (fun c => k.at_ TIM_TM_t_CFG_CAP_SRC (blockBase .tim c) t != 1)

def Cand.point (k : Cand) (p : Nat) : Rec :=
  let act := k.v CAM_PT_n_ACT_ACTION p
  let tgt := k.v CAM_PT_n_ACT_TARGET p
  if act = 0 then [(k.wide [CAM_PT_n_POS_POS, CAM_PT_n_ACT_PREDICT, CAM_PT_n_ACT_TARGET, CAM_PT_n_ACT_DIR] p, cCAM_RANGE)]
  else
    [(decide (4 < act) || k.wide [CAM_PT_n_POS_POS, CAM_PT_n_ACT_PREDICT, CAM_PT_n_ACT_TARGET, CAM_PT_n_ACT_DIR] p, cCAM_RANGE),
     (k.rotary && decide (k.modulus ≤ k.v CAM_PT_n_POS_POS p), cCAM_RANGE),
     (decide (act ≤ 2) && decide (63 < tgt), cCAM_RANGE),
     (decide (3 ≤ act) && k.v CAM_PT_n_ACT_DIR p == 0, cCAM_RANGE),
     (act == 3 && decide (127 < tgt), cCAM_RANGE), (act == 3 && k.badInject tgt, cADC_INJ),
     (act == 4 && decide (7 < tgt), cCAM_RANGE), (act == 4 && k.badCapture tgt, cTIM_CAP)]

def Cand.camRecs (k : Cand) : List Rec :=
  let origin : Rec := if k.v CAM_CFG_ORIGIN_EN = 1 ∧ k.rotary = false then k.names (k.v CAM_CFG_ORIGIN_SIG) false cSIG_KIND cSIG_RANGE else []
  [[(k.wide [CAM_CFG_ORIGIN_EN, CAM_CFG_ORIGIN_SIG, CAM_CFG_HYST], cCAM_RANGE)] ++ origin, [(k.wide [CAM_CRC_CRC], cCAM_RANGE)]]
    ++ (List.range 64).map k.window ++ (List.range 1024).map k.point

/-! ## SIN and TPS (R81 to R88, R97, R99) -/

def cSIN_RANGE : Nat := 0x050A
def cOSSD_RANGE : Nat := 0x0505

/-- The sources of pins x and y of a pair; 8 = external. -/
def Cand.srcs (k : Cand) (n : Nat) : List Nat := [k.v SIN_PAIR_n_CFG_SRC_X n, k.v SIN_PAIR_n_CFG_SRC_Y n]

/-- A source that supplies a pin of a pair in use (R87). -/
def Cand.tpUsed (k : Cand) (t : Nat) : Bool := (List.range 24).any (fun n => k.pairMode n != 0 && (k.srcs n).contains t)

/-- R83: one pulse of the source would pass the filter of pair `n`. -/
def Cand.pulsePasses (k : Cand) (n src : Nat) : Bool := decide (src < 8) && decide (k.v SIN_PAIR_n_TIME_FILT n ≤ k.v TPS_n_CFG_WIDTH src + k.v TPS_n_CFG_SETTLE src)

def Cand.pairCfg (k : Cand) (n : Nat) : Rec :=
  let m := k.pairMode n
  let ss := k.srcs n
  let filt := k.v SIN_PAIR_n_TIME_FILT n
  let tol := k.v SIN_PAIR_n_TIME_OSSD_TOL n
  let disc := k.v SIN_PAIR_n_TIME_DISC n
  let general : Rec :=
    [(k.wide [SIN_PAIR_n_CFG_FK_EN, SIN_PAIR_n_CFG_MODE, SIN_PAIR_n_CFG_FK_GROUP] n || ss.any (fun x => decide (8 < x)) || decide (6 < k.v SIN_PAIR_n_CFG_FK_FILT n), cSIN_RANGE),
     (k.wide [SIN_PAIR_n_TIME_FILT] n, 0x0502), (k.wide [SIN_PAIR_n_TIME_OSSD_TOL] n, cOSSD_RANGE), (k.wide [SIN_PAIR_n_TIME_DISC] n, 0x0507)]
  let used : Rec :=
    [(ss.all (fun x => decide (x < 8)) && ss[0]? == ss[1]?, 0x0501),
     (outside filt 10 2000, 0x0502),
     (ss.any (k.pulsePasses n), 0x0503),
     (decide (100 < tol) || (ss.all (fun x => decide (x < 8)) && tol != 0), cOSSD_RANGE),
     (ss.contains 8 && decide (filt ≤ tol), 0x0504)]
  let disc2 : Rec := if m = 1 ∨ m = 2 then [(disc == 0, 0x0506), (decide (5000 < disc), 0x0507)] else [(decide (5000 < disc), 0x0507)]
  let kill : Rec := if (m = 1 ∨ m = 2) ∧ k.v SIN_PAIR_n_CFG_FK_EN n = 1 then
      [(k.v SIN_PAIR_n_CFG_FK_GROUP n == 0, 0x0508), (ss.contains 8 && decide (k.v SIN_PAIR_n_CFG_FK_FILT n + 1 < tol), 0x0509)]
    else []
  if m = 0 then general else general ++ used ++ disc2 ++ kill

def Cand.tpCfg (k : Cand) (t : Nat) : Rec :=
  let general : Rec := [(k.wide [TPS_n_CFG_INTERVAL, TPS_n_CFG_PLACED] t, 0x0601), (k.wide [TPS_n_CFG_WIDTH, TPS_n_CFG_SETTLE] t, 0x0602)]
  if k.tpUsed t then
    general ++ [(outside (k.v TPS_n_CFG_INTERVAL t) 10 60000, 0x0601), (outside (k.v TPS_n_CFG_WIDTH t) 10 100 || outside (k.v TPS_n_CFG_SETTLE t) 2 50, 0x0602)]
  else general

/-- R88, rule 7. -/
def Cand.tpLoad (k : Cand) : Bool :=
  overHalf (((List.range 8).filter k.tpUsed).map (fun t => (20 + 10 * k.v TPS_n_CFG_WIDTH t + 10 * k.v TPS_n_CFG_SETTLE t, 1000 * k.v TPS_n_CFG_INTERVAL t)))

def Cand.sinRecs (k : Cand) : List Rec :=
  (List.range 24).map k.pairCfg ++ [[(k.wide [SIN_FK_CRC_IMG_CRC], cSIN_RANGE)]] ++ (List.range 8).map k.tpCfg ++ [[(k.tpLoad, 0x0603)]]

/-! ## SOUT (R104, R113, R115) -/

def cSOUT_RANGE : Nat := 0x0708

def Cand.outMode (k : Cand) (n : Nat) : Nat := k.v SOUT_n_CFG_MODE n

def Cand.sto (k : Cand) (n : Nat) : Bool := k.v SOUT_n_CFG_STO n == 1

def Cand.brake (k : Cand) (n : Nat) : Bool := bit (k.v DSF_SBC_MAP_BRAKE) n

/-- The PM outputs of a low-side return. -/
def Cand.members (k : Cand) (l : Nat) : List Nat := (List.range 16).filter (fun n => k.outMode n == 2 && k.v SOUT_n_CFG_LS_SEL n == l)

/-- The OUT instances that name an output. -/
def Cand.outsOf (k : Cand) (n : Nat) : List Inst := (k.im.prog.insts.filter (fun e => e.2.code == 0x30 && e.2.params.head? == some (n : Int))).map (·.2)

/-- What commands an output (R142): 0 for SBC, 1 for an OUT without input or no OUT at all, else the signal at the input of its OUT, plus 2. -/
def Cand.driver (k : Cand) (n : Nat) : Nat :=
  if k.brake n then 0
  else match (k.outsOf n).head? with
    | some i => match i.ins.head?.join with
      | some g => g + 2
      | none => 1
    | none => 1

/-- The outputs of blocks that are permits (R113): Q of the listed blocks, GUARD of GLOCK, OK of EDM, M0 to M7 of MODESEL. -/
def permitOuts (i : Inst) : List Nat :=
  if i.code = 0x24 then i.outs
  else if [0x20, 0x21, 0x22, 0x23, 0x25, 0x26, 0x27, 0x28, 0x40, 0x42, 0x43].contains i.code then i.outs.take 1
  else []

/-- One round of growing a set of signals along the instances for which `p` holds. -/
def growOnce (insts : List (Nat × Inst)) (p : Inst → Bool) (set : List Nat) : List Nat :=
  insts.foldl (fun (t : List Nat) (e : Nat × Inst) =>
    if p e.2 && e.2.ins.any (fun o => match o with
      | some g => t.contains g
      | none => false) then t ++ e.2.outs.filter (fun g => !t.contains g) else t) set

/-- The signals reached from a set along any path of such instances. -/
def reachFrom (insts : List (Nat × Inst)) (p : Inst → Bool) : Nat → List Nat → List Nat
  | 0, set => set
  | n + 1, set =>
    let next := growOnce insts p set
    if next.length = set.length then set else reachFrom insts p n next

/-- R113: the signals that depend on a permit output. -/
def Cand.permits (k : Cand) : List Nat :=
  let p := k.im.prog
  reachFrom p.insts (fun _ => true) p.insts.length (p.insts.flatMap (fun e => permitOuts e.2))

/-- R113: an untested output that may not be. -/
def Cand.mustTest (k : Cand) (safe : List Nat) (n : Nat) : Bool :=
  k.sto n || k.brake n || k.outMode n == 2 || (k.outsOf n).any (fun i => match i.ins.head?.join with
    | some g => safe.contains g
    | none => false)

def Cand.tested (k : Cand) (n : Nat) : Bool := k.outMode n != 0 && k.v SOUT_n_CFG_TESTED n == 1

def Cand.outCfg (k : Cand) (safe : List Nat) (n : Nat) : Rec :=
  let ls := k.members (k.v SOUT_n_CFG_LS_SEL n)
  let used : Rec :=
    [(k.outMode n == 2 && decide (4 < ls.length), 0x0701),
     (k.outMode n == 2 && ls.any (fun m => k.driver m != k.driver n), 0x0702),
     (k.outMode n == 2 && k.sto n, 0x0703),
     (k.v SOUT_n_CFG_TESTED n == 0 && k.mustTest safe n, 0x0706)]
  let test : Rec := if k.tested n then [(outside (k.v SOUT_n_TEST_INTERVAL n) 100 60000, 0x0704), (outside (k.v SOUT_n_TEST_WIDTH n) 10 100, 0x0705)] else []
  [(k.wide [SOUT_n_CFG_OPEN_LOAD, SOUT_n_CFG_OPEN_CLASS, SOUT_n_CFG_PLACED, SOUT_n_CFG_STO, SOUT_n_CFG_TESTED, SOUT_n_CFG_LS_SEL] n || decide (2 < k.outMode n), cSOUT_RANGE),
   (k.wide [SOUT_n_TEST_INTERVAL] n, 0x0704), (k.wide [SOUT_n_TEST_WIDTH] n, 0x0705)] ++ (if k.outMode n = 0 then [] else used ++ test)

def Cand.lsCfg (k : Cand) (l : Nat) : Rec :=
  [(k.wide [SOUT_LS_n_CFG_INTERVAL] l, 0x0704), (k.wide [SOUT_LS_n_CFG_WIDTH] l, 0x0705)]
    ++ (if k.members l = [] then [] else [(outside (k.v SOUT_LS_n_CFG_INTERVAL l) 100 60000, 0x0704), (outside (k.v SOUT_LS_n_CFG_WIDTH l) 10 100, 0x0705)])

/-- R115, rule 7. -/
def Cand.outLoad (k : Cand) : Bool :=
  overHalf (((List.range 16).filter k.tested).map (fun n => (2 * (120 + 10 * k.v SOUT_n_TEST_WIDTH n), 1000 * k.v SOUT_n_TEST_INTERVAL n))
    ++ ((List.range 4).filter (fun l => k.members l != [])).map (fun l => (2 * (120 + 10 * k.v SOUT_LS_n_CFG_WIDTH l), 1000 * k.v SOUT_LS_n_CFG_INTERVAL l)))

def Cand.soutRecs (k : Cand) : List Rec :=
  (List.range 16).map (k.outCfg k.permits) ++ (List.range 4).map k.lsCfg ++ [[(k.outLoad, 0x0707)]]

/-! ## NET and GOA (R233, R252) -/

def cNET_ADDR : Nat := 0x0A08
def cNET_PARAM : Nat := 0x0A09
def cGOA_RANGE : Nat := 0x0A03
def cGOA_PARAM : Nat := 0x0A06
def cGOA_MAP : Nat := 0x0A05
def cGOA_TX : Nat := 0x0A07

def Cand.sesEn (k : Cand) (n : Nat) : Bool := k.v GOA_SES_n_CFG_EN n == 1

/-- Some session is enabled. -/
def Cand.anySes (k : Cand) : Bool := (List.range 256).any k.sesEn

def Cand.netCfg (k : Cand) (x : Nat) : Rec :=
  [(k.wide [NET_n_CFG_EN, NET_n_CFG_P2_EN, NET_n_CFG_P1_EN, NET_n_CFG_ICMP, NET_n_CFG_PTP_P2P, NET_n_CFG_PTP_L2, NET_n_CFG_PTP_DOMAIN, NET_n_CFG_PCP, NET_n_CFG_VLAN_EN, NET_n_CFG_VID,
     NET_n_RAMP_DEST_ADDR, NET_n_MASTER_SRC_ADDR, NET_n_PHY_P1_ADDR, NET_n_PHY_P2_ADDR, NET_n_IP_ADDR, NET_n_MASK_ADDR, NET_n_GW_ADDR] x || decide (2 < k.v NET_n_CFG_PTP_MODE x), cNET_PARAM),
   (k.v NET_n_CFG_VLAN_EN x == 1 && (k.v NET_n_CFG_VID x == 0 || k.v NET_n_CFG_VID x == 4095), cNET_PARAM),
   (x == 1 && k.v NET_n_IP_ADDR 0 != 0 && k.v NET_n_IP_ADDR 0 == k.v NET_n_IP_ADDR 1, cNET_ADDR)]

def Cand.netNode (k : Cand) : Rec :=
  [(k.wide [NET_NODE_NODE], cNET_PARAM),
   (k.v NET_NODE_NODE == 0 && (k.anySes || k.im.has 9 || k.v NET_n_RAMP_DEST_ADDR 0 != 0 || k.v NET_n_RAMP_DEST_ADDR 1 != 0), cNET_ADDR)]

def Cand.netUdp (k : Cand) : Rec :=
  let g := k.v NET_UDP_GOALE_PORT
  [(k.wide [NET_UDP_AUX_PORT, NET_UDP_GOALE_PORT] || g == k.v NET_UDP_AUX_PORT || g == 319 || g == 320, cNET_PARAM)]

/-- A unicast IPv4 address. -/
def unicast (a : Nat) : Bool := decide (2 ^ 24 ≤ a) && decide (a < 0xE0000000)

/-- The receive signals of two sessions meet. -/
def Cand.sesShare (k : Cand) (n m : Nat) : Bool :=
  let meets (a la b lb : Nat) : Bool := decide (a < b + lb) && decide (b < a + la) && la != 0 && lb != 0
  meets (k.v GOA_SES_n_CFG_RX_BIT_BASE n) (k.v GOA_SES_n_CFG_RX_BW n) (k.v GOA_SES_n_CFG_RX_BIT_BASE m) (k.v GOA_SES_n_CFG_RX_BW m)
    || meets (k.v GOA_SES_n_WIN_RX_VAL_BASE n) (k.v GOA_SES_n_CFG_RX_VW n) (k.v GOA_SES_n_WIN_RX_VAL_BASE m) (k.v GOA_SES_n_CFG_RX_VW m)

/-- An earlier enabled session for which `p` holds. -/
def Cand.earlier (k : Cand) (n : Nat) (p : Nat → Bool) : Bool := (List.range n).any (fun m => k.sesEn m && p m)

/-- The GOATX instances that name a session. -/
def Cand.goatx (k : Cand) (n : Nat) : Nat := ((k.ofCode 0x38).filter (fun e => e.2.params.head? == some (n : Int))).length

/-- The session has a transmit payload (R234). -/
def Cand.sendsWords (k : Cand) (n : Nat) : Bool := k.sesEn n && (k.v GOA_SES_n_CFG_TX_BW n != 0 || k.v GOA_SES_n_CFG_TX_VW n != 0)

def Cand.sesTimes (k : Cand) (n : Nat) : Rec :=
  let rx := k.v GOA_SES_n_TIME_RX_PERIOD n
  let tx := k.v GOA_SES_n_TIME_TX_PERIOD n
  let wd := k.v GOA_SES_n_TIME_WD n
  let age := k.v GOA_SES_n_WIN_AGE n
  let skew := k.v GOA_SES_n_WIN_SKEW n
  [(rx != 0 && wd == 0, 0x0A01),
   (rx != 0 && decide (wd * 1000 < 250 * rx), 0x0A02),
   ((rx != 0 && outside rx 4 800) || (tx != 0 && outside tx 4 800) || (wd != 0 && outside wd 2 500) || decide (500 < age)
     || (if rx = 0 then skew != 0 && outside skew 2 100 else outside skew 2 100), cGOA_RANGE),
   (rx != 0 && (age == 0 || decide (10 * wd < age)), 0x0A04)]

def Cand.sesSpace (k : Cand) (n : Nat) : Rec :=
  let c (f : Fld) : Nat := k.v f n
  [(outside (c GOA_SES_n_PEER_PEER_NODE) 1 65535 || decide (65535 < c GOA_SES_n_PEER_CONN_ID) || decide (2 < c GOA_SES_n_CFG_TX_BW) || decide (2 < c GOA_SES_n_CFG_RX_BW) || decide (16 < c GOA_SES_n_CFG_TX_VW)
     || decide (16 < c GOA_SES_n_CFG_RX_VW) || k.wide [GOA_SES_n_CFG_EN, GOA_SES_n_CFG_SINGLE_OK, GOA_SES_n_CFG_GRP_PEER, GOA_SES_n_CFG_RX_BIT_BASE, GOA_SES_n_WIN_RX_VAL_BASE, GOA_SES_n_ADDR_X_ADDR, GOA_SES_n_ADDR_Y_ADDR] n, cGOA_RANGE),
   (decide (16 < c GOA_SES_n_CFG_RX_BIT_BASE + c GOA_SES_n_CFG_RX_BW) || decide (128 < c GOA_SES_n_WIN_RX_VAL_BASE + c GOA_SES_n_CFG_RX_VW) || k.earlier n (k.sesShare n), cGOA_MAP)]

def Cand.sesParam (k : Cand) (n : Nat) : Bool :=
  let c (f : Fld) : Nat := k.v f n
  let tx := c GOA_SES_n_TIME_TX_PERIOD
  let rx := c GOA_SES_n_TIME_RX_PERIOD
  (tx == 0 && rx == 0) || (tx == 0 && (c GOA_SES_n_CFG_TX_BW != 0 || c GOA_SES_n_CFG_TX_VW != 0)) || (rx == 0 && (c GOA_SES_n_CFG_RX_BW != 0 || c GOA_SES_n_CFG_RX_VW != 0))
    || !unicast (c GOA_SES_n_ADDR_X_ADDR) || !unicast (c GOA_SES_n_ADDR_Y_ADDR) || c GOA_SES_n_PEER_CONN_ID == 0
    || k.earlier n (fun m => k.v GOA_SES_n_PEER_PEER_NODE m == c GOA_SES_n_PEER_PEER_NODE && k.v GOA_SES_n_PEER_CONN_ID m == c GOA_SES_n_PEER_CONN_ID)
    || (c GOA_SES_n_CFG_GRP_PEER == 1 && (tx == 0 || rx == 0))

def Cand.session (k : Cand) (n : Nat) : Rec :=
  let own (x a : Nat) : Bool := k.v NET_n_IP_ADDR x != 0 && a == k.v NET_n_IP_ADDR x
  if k.sesEn n then
    k.sesTimes n ++ k.sesSpace n ++ [(k.sesParam n, cGOA_PARAM), (k.sendsWords n && k.goatx n != 1, cGOA_TX),
      (own 0 (k.v GOA_SES_n_ADDR_X_ADDR n) || own 1 (k.v GOA_SES_n_ADDR_Y_ADDR n), cNET_ADDR)]
  else [(k.wide [GOA_SES_n_CFG_EN] n, cGOA_RANGE)]

def Cand.netRecs (k : Cand) : List Rec :=
  [k.netCfg 0, k.netCfg 1, k.netNode, k.netUdp, [((k.v NET_MASTER_STALE == 0 && k.v LC_MASTER_CFG_EN == 1) || k.wide [NET_MASTER_STALE], cNET_PARAM)]] ++ (List.range 256).map k.session

/-! ## LLK and REC (R255, R268, R275) -/

def cLLK_POS : Nat := 0x0B01
def cLLK_TABLE : Nat := 0x0B02
def cREC_PARAM : Nat := 0x0B05

/-- R255: a chain leaves its outer ports unused, a ring uses both. -/
def Cand.badPorts (k : Cand) : Bool :=
  let p := k.v LLK_CFG_POS
  let ring := k.v LLK_CFG_RING == 1
  (k.v LLK_CFG_UP_USED == 1) != (ring || p != 0) || (k.v LLK_CFG_DN_USED == 1) != (ring || p + 1 != k.v LLK_CFG_N)

def Cand.llkCfg (k : Cand) : Rec :=
  [(outside (k.v LLK_CFG_N) 1 32 || decide (k.v LLK_CFG_N ≤ k.v LLK_CFG_POS) || k.wide [LLK_CFG_DN_USED, LLK_CFG_UP_USED, LLK_CFG_RING, LLK_CFG_POS]
     || (k.v LLK_CFG_RING == 1 && decide (k.v LLK_CFG_N < 3)) || k.badPorts, cLLK_POS)]

/-- A word of the line table. -/
def Cand.lineWord (k : Cand) (q : Nat) : Nat := k.v LLK_LINE_q_NODE q * 65536 + k.v LLK_LINE_q_MEMBER q

def Cand.lineRow (k : Cand) (q : Nat) : Rec :=
  let node := k.v LLK_LINE_q_NODE q
  [(k.wide [LLK_LINE_q_NODE, LLK_LINE_q_MEMBER] q || (q == k.v LLK_CFG_POS && node != k.v NET_NODE_NODE) || decide (4 < bits16 (k.v LLK_LINE_q_MEMBER q))
     || (decide (q < k.v LLK_CFG_N) && (List.range q).any (fun r => k.v LLK_LINE_q_NODE r == node)) || (decide (k.v LLK_CFG_N ≤ q) && k.lineWord q != 0), cLLK_TABLE)]

def Cand.lineCrc (k : Cand) : Rec := [(k.v LLK_LINE_CRC_CRC != crc32cWords ((List.range 32).map k.lineWord), cLLK_TABLE)]

/-- R268: HIGH ≤ 400 and 16 ≤ LOW ≤ HIGH − 64. -/
def Cand.llkMark (k : Cand) : Rec :=
  let l := k.v LLK_WMARK_LOW
  let h := k.v LLK_WMARK_HIGH
  [(decide (400 < h) || decide (l < 16) || decide (h < l + 64), 0x0B03)]

/-- R271, R275: the record types are 1 to 9. -/
def Cand.recCfg (k : Cand) : Rec :=
  let r := k.v REC_CFG_RELAY
  [(k.wide [REC_CFG_EN] || decide (2 < r) || (r == 1 && k.v LLK_CFG_UP_USED == 0) || (r == 2 && k.v LLK_CFG_DN_USED == 0) || decide (1000 < k.v REC_CFG_FLUSH)
     || (List.range 16).any (fun t => bit (k.v REC_CFG_TYPES) t && (t == 0 || decide (9 < t))) || k.wide [REC_CFG_TYPES], cREC_PARAM)]

def Cand.llkRecs (k : Cand) : List Rec :=
  [k.llkCfg, k.lineCrc, k.llkMark] ++ (List.range 32).map k.lineRow
    ++ [k.recCfg, [(outside (k.v REC_WMARK_HIGH) 1024 8000 || decide (k.v REC_WMARK_HIGH < k.v REC_WMARK_LOW + 256), cREC_PARAM)]]

/-! ## ADC (R313, R322, R324, R332) -/

def cADC_RANGE : Nat := 0x0C01
def cADC_AI : Nat := 0x0C03

/-- The used slots of a converter: context and REPS. -/
def Cand.slots (k : Cand) (c : Nat) : List (Nat × Nat) :=
  ((List.range (min 32 (k.at_ ADC_CFG_SEQ_LEN (adcBase c)))).map (fun j => (k.at_ ADC_SLOT_k_CTX (adcBase c) j, k.at_ ADC_SLOT_k_REPS (adcBase c) j))).filter (fun (e : Nat × Nat) => e.2 != 0)

def Cand.adcCfg (k : Cand) (c : Nat) : Rec :=
  let b := adcBase c
  [(k.wideAt [ADC_CFG_EN, ADC_CFG_LOWPWR] b || decide (32 < k.at_ ADC_CFG_SEQ_LEN b), cADC_RANGE), (k.at_ ADC_CFG_EN b == 1 && outside (k.at_ ADC_CFG_CAL_PERIOD b) 1 60 || k.wideAt [ADC_CFG_CAL_PERIOD] b, 0x0C07)]

def Cand.adcSlot (k : Cand) (c j : Nat) : Rec :=
  let b := adcBase c
  let r := k.at_ ADC_SLOT_k_REPS b j
  let x := k.at_ ADC_SLOT_k_CTX b j
  [(k.wideAt [ADC_SLOT_k_REPS, ADC_SLOT_k_CTX] b j, cADC_RANGE), (r == 1 || r == 2, 0x0C02), (r != 0 && (decide (56 ≤ x) || k.at_ ADC_CTX_n_CFG_EN b x == 0), cADC_RANGE)]

/-- A context of the device (56 to 63) that the image carries something for. -/
def Cand.adcCtx (k : Cand) (c n : Nat) : Rec :=
  let b := adcBase c
  let lo := k.at_ ADC_CTX_n_WIN_LOW b n
  let hi := k.at_ ADC_CTX_n_WIN_HIGH b n
  if 56 ≤ n then
    [(k.at_ ADC_CTX_n_CFG_IOS_INJ b n != 0, cADC_INJ),
     ([ADC_CTX_n_CFG_EN, ADC_CTX_n_CFG_CAM_INJ, ADC_CTX_n_CFG_IOS_OFS, ADC_CTX_n_CFG_OSR, ADC_CTX_n_CFG_GAIN, ADC_CTX_n_CFG_INPUT, ADC_CTX_n_WIN_HIGH, ADC_CTX_n_WIN_LOW, ADC_CTX_n_AGE_WIN_EN,
       ADC_CTX_n_AGE_HYST, ADC_CTX_n_AGE_MAX_AGE].any (fun f => k.at_ f b n != 0), cADC_RANGE)]
  else
    [(k.wideAt [ADC_CTX_n_CFG_EN, ADC_CTX_n_CFG_CAM_INJ, ADC_CTX_n_CFG_IOS_INJ, ADC_CTX_n_CFG_IOS_OFS, ADC_CTX_n_CFG_GAIN, ADC_CTX_n_WIN_HIGH, ADC_CTX_n_WIN_LOW, ADC_CTX_n_AGE_WIN_EN, ADC_CTX_n_AGE_HYST,
       ADC_CTX_n_AGE_MAX_AGE] b n || decide (8 < k.at_ ADC_CTX_n_CFG_INPUT b n) || decide (8 < k.at_ ADC_CTX_n_CFG_OSR b n)
       || (k.at_ ADC_CTX_n_CFG_IOS_INJ b n == 1 && decide (k.tgUs ≤ k.at_ ADC_CTX_n_CFG_IOS_OFS b n)), cADC_RANGE),
     (k.at_ ADC_CTX_n_AGE_WIN_EN b n == 1 && (decide (hi < lo) || decide (hi < lo + 2 * k.at_ ADC_CTX_n_AGE_HYST b n)), 0x0C06)]

/-- R324: the rate check of a safe-input context fails. -/
def Cand.tooSlow (k : Cand) (c n : Nat) : Bool :=
  let b := adcBase c
  let t := if k.at_ ADC_CFG_LOWPWR b = 1 then 4000 else 500
  let sum := ((k.slots c).map (fun (e : Nat × Nat) => e.2)).sum
  let u := (((k.slots c).filter (fun (e : Nat × Nat) => e.1 == n)).map (fun (e : Nat × Nat) => e.2 - 2)).sum
  let osr := 2 ^ k.at_ ADC_CTX_n_CFG_OSR b n
  decide (k.at_ ADC_CTX_n_AGE_MAX_AGE b n * 10000 < 2 * (sum * t + 37 * t) * ((osr + u - 1) / u))

/-- R322: safe input `i` of a channel. -/
def Cand.adcAi (k : Cand) (ch : Chan) (i : Nat) : Rec :=
  let a := blockBase .adc ch
  if k.at_ ADC_AI_n_EN a i = 1 then
    let c := (match ch with
      | .a => 0
      | .b => 2) + k.at_ ADC_AI_n_CONV a i % 2
    let n := k.at_ ADC_AI_n_CTX a i
    let b := adcBase c
    [(k.wideAt [ADC_AI_n_EN, ADC_AI_n_CONV] a i || decide (56 ≤ n), cADC_RANGE),
     (k.at_ ADC_CTX_n_CFG_INPUT b n != i || k.at_ ADC_CTX_n_CFG_GAIN b n != 0 || !(k.slots c).any (fun (e : Nat × Nat) => e.1 == n) || k.at_ ADC_CTX_n_CFG_CAM_INJ b n == 1
       || k.at_ ADC_CTX_n_CFG_IOS_INJ b n == 1 || k.at_ ADC_CTX_n_AGE_MAX_AGE b n == 0, cADC_AI),
     (k.tooSlow c n, 0x0C04)]
  else [(k.wideAt [ADC_AI_n_EN] a i, cADC_RANGE)]

def Cand.adcRecs (k : Cand) : List Rec :=
  (List.range 4).flatMap (fun c => [k.adcCfg c] ++ (List.range 32).map (k.adcSlot c) ++ (List.range 64).map (k.adcCtx c))
    ++ [Chan.a, Chan.b].flatMap (fun ch => (List.range 8).map (k.adcAi ch))

/-! ## TIM (R345) -/

def Cand.timer (k : Cand) (ch : Chan) (t : Nat) : Rec :=
  let b := blockBase .tim ch
  let v (f : Fld) : Nat := k.at_ f b t
  let slaved := v TIM_TM_t_CFG_CLK == 3 || v TIM_TM_t_CFG_SLAVE != 0
  let m := v TIM_TM_t_CFG_MASTER
  [(decide (2 < v TIM_TM_t_CFG_SLAVE) || decide (4 < v TIM_TM_t_CFG_MEV) || k.wideAt [TIM_TM_t_CFG_EN, TIM_TM_t_CFG_CLK, TIM_TM_t_CFG_MASTER, TIM_TM_t_CFG_PRESC] b t
     || ((v TIM_TM_t_CFG_CLK == 1 || v TIM_TM_t_CFG_CLK == 2) && !k.im.has 2), 0x0D02),
   ((slaved && (decide (t ≤ m) || k.at_ TIM_TM_t_CFG_EN b m == 0)) || v TIM_TM_t_CFG_MEV != 0 || v TIM_TM_t_CFG_SLAVE == 1, 0x0D01),
   (decide (2 < v TIM_TM_t_CFG_CAP_SRC) || v TIM_TM_t_CFG_CAP_EDGE != 0, cTIM_CAP)]

def Cand.timRecs (k : Cand) : List Rec := [Chan.a, Chan.b].flatMap (fun ch => (List.range 8).map (k.timer ch))

end Sys2Proof.Machine
end

