-- ==== Sys2Proof/Machine/CfgGraph.lean ====
section
/-! DEFINITION. The configuration checks of the logic graph and of the stop and motion functions (R126 to R145, R155, R156, R166, R170 to R173, R181, R234, R266). -/

namespace Sys2Proof.Machine

open Sys2Proof

/-! ## The library -/

/-- Kind of an input or output of a block: boolean, numeric, or the kind of the block's input (LAST). -/
inductive SigKind where
  | bool
  | num
  | same
  deriving DecidableEq, Repr

/-- A block of the library: the fewest inputs it must have, the kinds of all it may have, the kinds of its outputs, and its cost in 10 ns (R134, R135, R155, R234, R266). -/
structure BlkType where
  least : Nat
  ins : List SigKind
  outs : List SigKind
  cost : Nat
  deriving DecidableEq, Repr

def bools (n : Nat) : List SigKind := List.replicate n .bool

/-- The general blocks (R134). -/
def generalType (code : Nat) : Option BlkType :=
  match code with
  | 0x01 | 0x02 => some ⟨2, bools 8, bools 1, 10⟩
  | 0x03 => some ⟨0, bools 1, bools 1, 5⟩
  | 0x04 => some ⟨0, bools 2, bools 1, 5⟩
  | 0x05 => some ⟨0, bools 2, bools 1, 8⟩
  | 0x06 => some ⟨0, [.same], [.same], 5⟩
  | 0x08 | 0x09 | 0x0A => some ⟨0, bools 1, bools 1, 15⟩
  | 0x0C | 0x0D => some ⟨0, bools 1, bools 1, 5⟩
  | 0x10 => some ⟨0, [.num, .num], bools 1, 10⟩
  | 0x11 | 0x12 => some ⟨0, [.num, .num], [.num], 8⟩
  | 0x13 => some ⟨0, [.num, .num], [.num], 10⟩
  | 0x14 => some ⟨0, [.bool, .num, .num], [.num], 8⟩
  | 0x15 => some ⟨0, [.num], [.num], 8⟩
  | 0x16 => some ⟨0, [], [.num], 2⟩
  | 0x18 => some ⟨0, bools 2, bools 1, 5⟩
  | _ => none

/-- The safety, transmit, and stop and motion blocks. -/
def safetyType (code : Nat) : Option BlkType :=
  match code with
  | 0x20 => some ⟨0, bools 1, bools 1, 30⟩
  | 0x21 => some ⟨0, bools 7, bools 2, 120⟩
  | 0x22 => some ⟨0, bools 4, bools 2, 60⟩
  | 0x23 => some ⟨0, bools 2, bools 1, 30⟩
  | 0x24 => some ⟨2, bools 8, bools 8, 40⟩
  | 0x25 => some ⟨0, bools 2, bools 1, 40⟩
  | 0x26 => some ⟨0, bools 2, bools 1, 25⟩
  | 0x27 => some ⟨0, bools 1, bools 1, 10⟩
  | 0x28 => some ⟨0, [.num, .num], bools 1, 50⟩
  | 0x30 => some ⟨0, bools 1, [], 5⟩
  | 0x38 => some ⟨0, bools 64 ++ List.replicate 16 .num, [], 60⟩
  | 0x39 => some ⟨0, bools 4, [], 30⟩
  | 0x40 => some ⟨0, bools 3, bools 1, 150⟩
  | 0x41 => some ⟨0, bools 2, bools 1, 40⟩
  | 0x42 => some ⟨0, bools 1, bools 1, 30⟩
  | 0x43 => some ⟨0, bools 1, bools 1, 30⟩
  | _ => none

def blkType (code : Nat) : Option BlkType :=
  match generalType code with
  | some t => some t
  | none => safetyType code

/-- R128: a safety block. -/
def safetyBlock (code : Nat) : Bool := decide (0x20 ≤ code) && decide (code ≤ 0x4F)

/-! ## One instance -/

def cMULTI : Nat := 0x0805
def cNS_PATH : Nat := 0x0808
def cDSF_PARAM : Nat := 0x090A
def cLLK_TX : Nat := 0x0B04

/-- A parameter outside a closed range. -/
def parOut (ps : List Int) (i : Nat) (lo hi : Int) : Bool := decide (parAt ps i < lo) || decide (hi < parAt ps i)

/-- R126: an input on a signal of the other kind. `SigKind.same` takes either. -/
def Cand.wrongKind (k : Cand) (g : Nat) (p : SigKind) : Bool :=
  match p with
  | .bool => k.kind g == some true
  | .num => k.kind g == some false
  | .same => false

/-- The inputs of an instance with the kinds its block gives them. -/
def Inst.wires (i : Inst) (t : BlkType) : List (Nat × SigKind) :=
  (i.ins.zip t.ins).filterMap (fun (e : Option Nat × SigKind) => e.1.map (fun g => (g, e.2)))

/-- R126, R134: the number and the kinds of inputs and outputs. -/
def Cand.wiring (k : Cand) (i : Inst) (t : BlkType) : Rec :=
  let numeric (g : Nat) : Bool := k.im.prog.numeric.contains g
  let outKind (p : SigKind) : Bool := match p with
    | .bool => false
    | .num => true
    | .same => match i.ins.head?.join with
      | some g => k.kind g == some true
      | none => false
  [(decide (t.ins.length < i.ins.length) || decide (i.ins.length < t.least) || decide (t.outs.length < i.outs.length), cPARAM),
   ((i.wires t).any (fun e => (k.kind e.1).isNone), cSIG_RANGE),
   ((i.wires t).any (fun e => k.wrongKind e.1 e.2) || (i.outs.zip t.outs).any (fun e => numeric e.1 != outKind e.2), cSIG_KIND),
   (i.outs.any (fun g => decide (g < 0x400) || decide (0x800 ≤ g)), cSIG_RANGE),
   (i.outs.any (fun g => decide (1 < (k.im.prog.allOuts.filter (· == g)).length)), cMULTI)]

/-- R145: an input on a signal of non-safe origin, other than INH of an NSGATE and NSD of REEF. -/
def unsafeUse (i : Inst) : Bool :=
  i.ins.zipIdx.any (fun (e : Option Nat × Nat) => match e.1 with
    | some g => nonSafe g && !(i.code == 0x18 && e.2 == 1) && !(i.code == 0x40 && e.2 == 2)
    | none => false)

/-- R140, R170: a pin of a split pair, supplied from a TP source. -/
def Cand.fbPin (k : Cand) (g : Nat) : Bool :=
  decide (0x040 ≤ g) && decide (g < 0x070) && k.pairMode ((g - 0x040) / 2) == 3 && decide (((k.srcs ((g - 0x040) / 2))[g % 2]?).getD 8 < 8)

/-- R143: A and B are AIn_A and AIn_B of one input, which ADC_AI_n enables in both channels (R322). -/
def Cand.aiInputs (k : Cand) (i : Inst) : Rec :=
  match i.ins with
  | [some a, some b] =>
    let n := (a - 0x0E0) / 2
    let pair := decide (0x0E0 ≤ a) && decide (a < 0x0F0) && a % 2 == 0 && b == a + 1
    [(!pair, cPARAM), ([Chan.a, Chan.b].any (fun c => k.at_ ADC_AI_n_EN (blockBase .adc c) n == 0), cADC_AI)]
  | _ => [(true, cPARAM)]

/-- R137: the parameters of LCURT; in mode 3 WIN is a graph window and no sensor is connected. -/
def lcurtPars (i : Inst) : Rec :=
  let m := parAt i.params 0
  let seq := parAt i.params 1
  let win : Bool := match (i.ins[1]?).join with
    | some g => decide (0x080 ≤ g) && decide (g < 0x0C0)
    | none => false
  let ms := [2, 3, 4, 5].any (fun j => ((i.ins[j]?).join).isSome)
  [(parOut i.params 0 0 3, cPARAM), (parAt i.params 2 == 0, 0x080B), ((m == 1 || m == 2) && seq == 0, 0x080B),
   (parOut i.params 2 100 600000 || (seq != 0 && parOut i.params 1 100 4000), cPARAM), (m == 3 && (!win || ms), cPARAM)]

/-- R234: a GOATX. -/
def Cand.goatxPars (k : Cand) (i : Inst) : Rec :=
  let n := (parAt i.params 0).toNat
  let extra := i.ins.zipIdx.any (fun (e : Option Nat × Nat) => e.1.isSome && (if e.2 < 64 then decide (32 * k.v GOA_SES_n_CFG_TX_BW n ≤ e.2) else decide (k.v GOA_SES_n_CFG_TX_VW n ≤ e.2 - 64)))
  [(parOut i.params 0 0 255, cPARAM), (!k.sendsWords n || extra, cGOA_TX)]

/-- R266: an LLTX; 0xFF names no group. -/
def Cand.lltxPars (k : Cand) (i : Inst) : Rec :=
  [(decide (1 < (k.ofCode 0x39).length) || (List.range 4).any (fun j =>
      let g := parAt i.params j
      let wired := ((i.ins[j]?).join).isSome
      if g = 0xFF then wired else !wired || decide (g < 0) || decide (15 < g) || !bit (k.v DSF_GROUPS_MEMBER) g.toNat), cLLK_TX)]

/-- An OUT (R142). -/
def Cand.outPars (k : Cand) (i : Inst) : Rec :=
  let n := (parAt i.params 0).toNat
  [(parOut i.params 0 0 15, cPARAM), (decide (1 < (k.outsOf n).length), cMULTI), (k.sto n, 0x080D)]

/-- R136: AUTO = 1 beside a block that protects. -/
def Cand.autoPars (k : Cand) (i : Inst) : Rec :=
  let guards := k.im.prog.insts.any (fun e => e.2.sf == i.sf && [0x20, 0x21, 0x22, 0x23].contains e.2.code)
  [(parOut i.params 0 0 1, cPARAM), (parAt i.params 0 == 1 && guards, 0x080A)]

/-- The parameters of an instance: their ranges and the rules beside them. -/
def Cand.pars (k : Cand) (i : Inst) : Rec :=
  let ps := i.params
  let big : Int := 2 ^ 31 - 1
  match i.code with
  | 0x08 | 0x09 | 0x0A => [(parOut ps 0 0 600000, cPARAM)]
  | 0x10 => [(parOut ps 0 0 5 || parOut ps 1 0 big || ((parAt ps 0 == 2 || parAt ps 0 == 3) && parAt ps 1 != 0), cPARAM)]
  | 0x15 => [(parOut ps 0 (-big - 1) big || parOut ps 1 (-big - 1) big || decide (parAt ps 1 < parAt ps 0), cPARAM)]
  | 0x16 => [(parOut ps 0 (-big - 1) big, cPARAM)]
  | 0x21 => lcurtPars i
  | 0x22 => [(parOut ps 0 0 1 || parOut ps 1 10 2000, cPARAM)]
  | 0x23 => [(parOut ps 0 0 600, cPARAM)]
  | 0x24 => [(parOut ps 0 10 1000, cPARAM)]
  | 0x25 => k.autoPars i
  | 0x26 => [(!(match (i.ins[1]?).join with
      | some g => k.fbPin g
      | none => false), cPARAM), (parOut ps 0 10 1000, 0x080C)]
  | 0x27 => [(parOut ps 0 0 8388607, cPARAM)]
  | 0x28 => k.aiInputs i ++ [(parOut ps 0 4000 20000 || parOut ps 1 4000 20000 || decide (parAt ps 1 ≤ parAt ps 0) || parOut ps 2 0 2000 || parOut ps 3 100 2000 || parOut ps 4 10 5000, cPARAM)]
  | 0x30 => k.outPars i
  | 0x38 => k.goatxPars i
  | 0x39 => k.lltxPars i
  | 0x42 => [(parOut ps 0 1 8388607 || parOut ps 1 0 big, cDSF_PARAM)]
  | 0x43 => [(parOut ps 0 1 2 || parOut ps 1 1 65535, cDSF_PARAM)]
  | _ => []

/-! ## The restart latch (R136) -/

/-- The outputs that need an RSTIL behind them: Q of ESTOP and LCURT, GUARD of GLOCK. -/
def ruledOuts (i : Inst) : List Nat := if [0x20, 0x21, 0x22].contains i.code then i.outs.take 1 else []

/-- An OUT or a stop function; LLTX counts as one (R266). -/
def isStopFn (code : Nat) : Bool := [0x30, 0x39, 0x40, 0x41].contains code

/-- R136: the permit reaches an OUT or a stop function without an RSTIL. -/
def Cand.noRil (k : Cand) (i : Inst) : Bool :=
  let p := k.im.prog
  let set := reachFrom p.insts (fun j => j.code != 0x25 && !isStopFn j.code) p.insts.length (ruledOuts i)
  p.insts.any (fun e => isStopFn e.2.code && e.2.ins.any (fun o => match o with
    | some g => set.contains g
    | none => false))

/-- The checks of one instance. -/
def Cand.checkInst (k : Cand) (i : Inst) : Rec :=
  match blkType i.code with
  | none => [(true, cPARAM)]
  | some t => [(decide (k.im.prog.sfReset.length ≤ i.sf), cPARAM)] ++ k.wiring i t ++ [(unsafeUse i, cNS_PATH)] ++ k.pars i ++ [(k.noRil i, 0x0809)]

/-! ## The graph as a whole (R128, R130, R132) -/

/-- R128: the signals an N-origin signal contributes to, along any path. -/
def Cand.nFed (k : Cand) : List Nat :=
  let p := k.im.prog
  reachFrom p.insts (fun _ => true) p.insts.length (p.insts.flatMap (fun e => e.2.ins.filterMap (fun o => o.filter nonSafe)))

/-- R128: a safety function's reset signal: of safe origin, and no N-origin signal contributes to it. -/
def Cand.sfRec (k : Cand) (n : Nat) (reset : Option Nat) : Rec :=
  match reset with
  | some g => k.names g false cSIG_KIND cSIG_RANGE ++ [(nonSafe g || k.nFed.contains g, cNS_PATH)]
  | none => [(k.im.prog.insts.any (fun e => e.2.sf == n && safetyBlock e.2.code), 0x080E)]

/-- The place of an instance in the stored order. -/
def Prog.place (p : Prog) (n : Nat) : Nat := p.order.findIdx (· == n)

/-- R130: the order names every instance once, and no instance stands before one whose output it reads, other than through a LAST. -/
def Prog.ordered (p : Prog) : Bool :=
  p.order.length == p.insts.length && p.insts.all (fun e => (p.order.filter (· == e.1)).length == 1)
    && p.insts.all (fun e => e.2.code == 0x06 || p.insts.all (fun f => f.2.code == 0x06
      || !e.2.ins.any (fun o => match o with
        | some g => f.2.outs.contains g
        | none => false) || decide (p.place f.1 < p.place e.1)))

/-- R132: 12 µs and the costs, in 10 ns. -/
def Prog.evalCost (p : Prog) : Nat := 1200 + (p.insts.map (fun e => match blkType e.2.code with
  | some t => t.cost
  | none => 0)).sum

def Cand.lgeRecs (k : Cand) : List Rec :=
  let p := k.im.prog
  [[(decide (512 < p.insts.length) || decide (128 < p.sfReset.length) || p.insts.any (fun e => decide (512 ≤ e.1)), 0x0806)]]
    ++ p.sfReset.zipIdx.map (fun (e : Option Nat × Nat) => k.sfRec e.2 e.1)
    ++ p.insts.map (fun e => k.checkInst e.2)
    ++ [[(!p.ordered, 0x0802)], [(decide (100 * k.tgUs < p.evalCost + 6000), 0x0801)]]

/-! ## DSF (R156, R166, R170, R173, R181) -/

def cDSF_RANGE : Nat := 0x0902
def cDSF_SBC : Nat := 0x0908
def cDSF_GROUP : Nat := 0x090B

def Cand.dsfMode (k : Cand) : Nat := k.v DSF_CFG_MODE

/-- REEF and SBC of the image. -/
def Cand.reefs (k : Cand) : Nat := (k.ofCode 0x40).length

def Cand.dsfCfg (k : Cand) : Rec :=
  let m := k.dsfMode
  let anySto := (List.range 16).any k.sto
  [(k.wide [DSF_CFG_SBC_ORDER, DSF_CFG_CL2_REEF, DSF_CFG_MODE], cDSF_RANGE),
   (decide (1 < k.reefs) || decide (1 < (k.ofCode 0x41).length) || (k.reefs == 0) != (m == 0), 0x0906),
   (anySto != (k.reefs != 0), 0x0907),
   (!k.im.has 2 && (m == 3 || k.ofCode 0x42 != [] || k.ofCode 0x43 != []), 0x0909)]

/-- R173: MEMBER is the device's own row of the line table, 0 without one. -/
def Cand.dsfGroups (k : Cand) : Rec :=
  let m := k.v DSF_GROUPS_MEMBER
  let own := if k.im.has 9 then k.v LLK_LINE_q_MEMBER (k.v LLK_CFG_POS) else 0
  [(k.wide [DSF_GROUPS_MEMBER] || decide (4 < bits16 m) || m != own, cDSF_GROUP)]

/-- R166: in timed and monitored mode. -/
def Cand.dsfTimes (k : Cand) : Rec :=
  let ts := k.v DSF_TIME_T_STOP
  let furl := k.v DSF_FURL_TIME
  let ov := k.v DSF_SBC_TIME_T_OVERLAP
  let timed : Rec :=
    [(ts == 0 || furl == 0, 0x0901), (outside furl 10 65535 || outside ts 10 60000, cDSF_RANGE), (decide (furl * 1000 < (ts + ov + 1) * 1000 + 2 * k.tgUs), 0x0903)]
  [(k.wide [DSF_TIME_T_STOP, DSF_FURL_TIME] || decide (5000 < k.v DSF_TIME_T_DELAY), cDSF_RANGE)] ++ (if k.dsfMode = 2 ∨ k.dsfMode = 3 then timed else [])

/-- R181: in monitored mode. -/
def Cand.dsfEnv (k : Cand) : Rec :=
  let v := k.v DSF_VRUN_SPEED
  let a := k.v DSF_AENV_ACC
  let d := k.v DSF_DLIM_DIST
  let monitored : Rec :=
    [(a == 0 || k.v DSF_AMIN_ACC == 0 || k.v DSF_VEND_SPEED == 0 || v == 0 || d == 0 || decide (a < k.v DSF_AMIN_ACC) || decide (v ≤ k.v DSF_VEND_SPEED)
       || decide (k.v LC_VMAX_VMAX < k.v DSF_VMARGIN_SPEED + v), 0x0904),
     (decide (d * (2000 * a) < v * k.v DSF_TIME_T_DELAY * (2 * a) + 1000 * v * v), 0x0905)]
  [(k.wide [DSF_VRUN_SPEED, DSF_VMARGIN_SPEED, DSF_VEND_SPEED, DSF_AENV_ACC, DSF_AMIN_ACC, DSF_DLIM_DIST, DSF_ARAMP_ACC], cDSF_RANGE)] ++ (if k.dsfMode = 3 then monitored else [])

/-- R170. -/
def Cand.dsfSbc (k : Cand) : Rec :=
  let fb : Option Nat := ((k.ofCode 0x41).head?).bind (fun e => (e.2.ins[1]?).join)
  let ov := k.v DSF_SBC_TIME_T_OVERLAP
  let late := k.v DSF_CFG_SBC_ORDER == 1
  let brakes := (List.range 16).filter k.brake
  [(brakes.any (fun n => k.sto n || k.outsOf n != []) || (brakes != [] && k.ofCode 0x41 == [])
     || (match fb with
        | some g => !k.fbPin g || outside (k.v DSF_SBC_TIME_FB_TIME) 10 1000
        | none => false)
     || (late && outside ov 10 500), cDSF_SBC),
   (k.wide [DSF_SBC_MAP_BRAKE, DSF_SBC_TIME_FB_TIME, DSF_SBC_TIME_T_OVERLAP] || decide (2000 < k.v DSF_SBC_TIME_T_REL) || (!late && ov != 0), cDSF_RANGE)]

def Cand.dsfRecs (k : Cand) : List Rec := [k.dsfCfg, k.dsfGroups, k.dsfTimes, k.dsfEnv, k.dsfSbc, [(k.wide [DSF_FURL_CRC_IMG_CRC], cDSF_RANGE)]]

end Sys2Proof.Machine
end

