-- ==== Sys2Proof/Machine/ImgRules.lean ====
section
/-! DEFINITION. The configuration check of a Cleuz image as a whole (step 7 of R148): section by section in section-table order, record by record. -/

namespace Sys2Proof.Machine

open Sys2Proof

/-- The records of a section with their checks. -/
def Cand.recs (k : Cand) (typ : Nat) : List Rec :=
  match typ with
  | 1 => k.sysRecs
  | 2 => k.lcRecs
  | 3 => k.camRecs
  | 4 => k.sinRecs
  | 5 => k.soutRecs
  | 6 => k.lgeRecs
  | 7 => k.dsfRecs
  | 8 => k.netRecs
  | 9 => k.llkRecs
  | 10 => k.adcRecs
  | 11 => k.timRecs
  | _ => []

/-- The first failure in one section, at its place in the section table. -/
def Cand.checkSection (k : Cand) (typ sect : Nat) : Option ImgErr :=
  (firstFail 0 (k.recs typ)).map (fun (e : Nat × Nat) => { code := e.2, sect := sect, record := Config.recordOffset typ e.2 e.1 })

/-- The sections an image has, by type with their places in the table, and after them DSF and NET where it has none: a block whose section is missing has every field at reset, which the rules of R156, R173 and R252 can still reject. -/
def Image.turns (im : Image) : List (Nat × Nat) :=
  ((im.table.zipIdx.filter (fun (e : ImgSection × Nat) => e.1.length != 0)).map (fun (e : ImgSection × Nat) => (e.1.typ, e.2)))
    ++ ([7, 8].filter (fun t => !im.has t)).map (fun t => (t, im.table.length))

/-- Step 7 of R148: the first failing check. -/
def configCheck (im : Image) : Option ImgErr := im.turns.findSome? (fun (e : Nat × Nat) => im.cand.checkSection e.1 e.2)

end Sys2Proof.Machine
end

