-- ==== Sys2Proof/Machine/ImageLoad.lean ====
section
/-! DEFINITION. Checking and loading a Cleuz image (R146 to R149 of 05_logic_graph.md). -/

namespace Sys2Proof.Machine

open Sys2Proof

/-! ## Loading fields -/

/-- The class C fields of the image blocks at their reset values, as a missing section leaves them (R147). TIM_P is not the image's. -/
def State.clearConfig (s : State) : State := s.resetFields (fun a => decide (a < 0x60000000)) (fun f => f.cls == .c)

/-- The class C fields as the image has them; with `nets`, the network addresses too (R227). -/
def State.loadFields (s : State) (im : Image) (nets : Bool) : State :=
  let s := s.clearConfig
  { s with regs := (im.used.filter (fun f => nets || !f.isNetAddr)).foldl loadField s.regs }

/-! ## Checks 1 to 6 of R148 -/

def errFORMAT : Nat := 0x0101
def errCRC : Nat := 0x0102
def errSECTION : Nat := 0x0103
def errTARGET : Nat := 0x0104
def errSIG : Nat := 0x0105
def errROLLBACK : Nat := 0x0106
def errHASH : Nat := 0x0107

/-- Two sections of the image overlap. -/
def overlap (x y : ImgSection) : Bool := x.length != 0 && y.length != 0 && decide (x.offset < y.offset + y.length) && decide (y.offset < x.offset + x.length)

/-- R147: a section-table entry is well formed by itself. -/
def ImgSection.ok (e : ImgSection) (len : Nat) : Bool :=
  ((decide (1 ≤ e.typ) && decide (e.typ ≤ 11)) || e.typ == 0xF0) && e.flags == 0 && e.offset % 16 == 0 && decide (0x280 ≤ e.offset) && decide (e.offset + e.length + 64 ≤ len)

/-- The first entry that breaks the table: a bad entry, a type that appears before, or an overlap with an earlier section. -/
def badSection (len : Nat) : List ImgSection → List ImgSection → Nat → Option Nat
  | _, [], _ => none
  | seen, e :: t, i => if !e.ok len || seen.any (fun x => x.typ == e.typ || overlap x e) then some i else badSection len (seen ++ [e]) t (i + 1)

/-- R147: the required sections are there: SYS, LGE, and the Refit scope exactly with REFIT. -/
def Image.complete (im : Image) : Bool :=
  im.has 1 && im.has 6 && (if im.flags % 2 = 1 then im.has 0xF0 else im.table.all (fun e => e.typ != 0xF0))

/-- The device identity as BIND carries it: its 16 bytes, the first least significant. -/
def State.identity (s : State) : Nat :=
  (List.range 4).foldl (fun (v : Nat) k => v + s.get SEC_DEVICE_ID_n_ID .a k * 2 ^ (32 * k)) 0

/-- R146, step 3: TARGET and BIND fit this device. -/
def State.targetOk (s : State) (target bind : Nat) : Bool :=
  target / 65536 == s.get SYS_ID_PART && decide (target / 256 % 256 ≤ s.get SYS_ID_STEPPING) && target % 256 == 0 && (bind == 0 || bind == s.identity)

/-- R357, R358: an owner key that may sign: 0 to 7 and not revoked, or the root key. -/
def State.ownerKeyOk (s : State) (k : Nat) : Bool := k == 0x1F || (decide (k < 8) && !bit (s.get SEC_KEYCTL_OWNER_REV) k)

/-- The index of the first section whose CRC fails; an empty section has CRC 0 (R147). -/
def firstBadCrc (l : List ImgSection) : Option Nat := l.findIdx? (fun e => !e.crcOk)

/-- Steps 1 to 6 of R148. -/
def State.headerCheck (s : State) (im : Image) : Option ImgErr :=
  if im.magic ≠ 0xC1E20A5E ∨ im.format ≠ 1 ∨ 4 ≤ im.flags ∨ im.hdrOk = false then some { code := errFORMAT }
  else if im.length % 4 ≠ 0 ∨ 4194304 < im.length ∨ im.sections ≠ im.table.length ∨ im.sections = 0 ∨ 32 < im.sections then some { code := errSECTION }
  else match badSection im.length [] im.table 0 with
    | some i => some { code := errSECTION, sect := i }
    | none =>
      if im.complete = false then some { code := errSECTION }
      else match firstBadCrc im.table with
        | some i => some { code := errCRC, sect := i }
        | none =>
          if s.targetOk im.target im.bind = false then some { code := errTARGET }
          else if s.ownerKeyOk im.keyId = false ∨ im.sigOk = false then some { code := errSIG }
          else if im.rollback < s.get SEC_ROLLBACK_CLZ ∨ 63 < im.rollback then some { code := errROLLBACK }
          else if im.hashOk = false then some { code := errHASH }
          else none

/-- R148 in full: header, sections and signature, then every configuration check over the registers as the image would leave them. -/
def State.checkImage (s : State) (im : Image) : Option ImgErr :=
  match s.headerCheck im with
  | some e => some e
  | none => configCheck im

/-! ## Loading -/

/-- LGE_IMG_STATUS and LGE_IMG_RECORD in both views (R149). -/
def State.showImgErr (s : State) (e : ImgErr) : State :=
  ((((s.putBoth LGE_IMG_STATUS_STATE 3).putBoth LGE_IMG_STATUS_ERR_CODE e.code).putBoth LGE_IMG_STATUS_SECTION e.sect).putBoth LGE_IMG_RECORD_OFFSET e.record)

/-- The registers that name the image in force. -/
def State.showImage (s : State) (im : Image) (slot : Nat) : State :=
  let s := ((s.putBoth LGE_IMG_STATUS_STATE 2).putBoth LGE_IMG_STATUS_ERR_CODE 0).putBoth LGE_IMG_STATUS_SECTION 0
  let s := ((s.putBoth LGE_IMG_RECORD_OFFSET 0).putBoth LGE_IMG_VERSION_VERSION im.version).putBoth LGE_IMG_SLOT_SLOT slot
  let s := s.putBoth LGE_IMG_SLOT_ROLLBACK im.rollback
  let s := (List.range 8).foldl (fun s n => s.putBoth LGE_IMG_HASH_n_HASH ((im.hash[n]?).getD 0) n) s
  let s := (s.putBoth LGE_COUNTS_SF im.prog.sfReset.length).putBoth LGE_COUNTS_INST im.prog.insts.length
  im.prog.insts.foldl (fun s p => (s.putBoth LGE_INST_n_TYPE p.2.code p.1).putBoth LGE_INST_n_SF p.2.sf p.1) s

/-- The words each die holds of the fast-kill and Furl configuration (R100, R168). -/
def State.loadDies (s : State) : State :=
  let one (s : State) (c : Chan) : State := s.updDie c (fun d => { d with fkWords := s.fkWordsOf c, furlWords := s.furlImage c })
  one (one s .a) .b

/-- R119: every tested output and every used LSk owes its midpoint tests before its next switch-on. -/
def State.oweAll (s : State) : State :=
  let s := s.oweTests 0xFFFF
  { s with outs := { s.outs with lsOwes := BitVec.ofNat 4 ((List.range 4).foldl (fun m k => if (List.range 16).any (fun n => s.get SOUT_n_CFG_MODE .a n == 2 && s.get SOUT_n_CFG_LS_SEL .a n == k) then m + 2 ^ k else m) 0) } }

/-- R246: every enabled session is OPENING, every other UNUSED. -/
def State.openSessions (s : State) : State :=
  (List.range 256).foldl (fun (s : State) n =>
    if s.get GOA_SES_n_CFG_EN .a n = 1 then s.setSes n sesOPENING
    else if s.sesState n = sesUNUSED then s else s.setSes n sesUNUSED) s

/-- R325: a calibration falls due on every converter. -/
def State.calibrateAll (s : State) : State := (List.range 4).foldl (fun (s : State) k => s.calFallsDue k) s

/-- A checked image is loaded: its fields, its graph, what the dies hold, and the starting states of sessions, ports and converters. -/
def State.loadImage (s : State) (im : Image) (slot : Nat) (nets : Bool) : State :=
  let s := { (s.loadFields im nets) with prog := { im.prog with hasLc := im.has 2, hasLlk := im.has 9 } }
  (((((s.showImage im slot).loadDies).oweAll).openSessions).trainPorts).calibrateAll

end Sys2Proof.Machine
end

