-- ==== Sys2Proof/Machine/SecFw.lean ====
section
/-! DEFINITION. SEC programs the bus firewall (R35 to R38 of 01_architecture.md, R370 of 14_security_lifecycle_otp.md). -/

namespace Sys2Proof.Machine

open Sys2Proof

/-- A region's attributes as five bits: EN, USER, X, W, R. -/
def FwRegion.attr (g : FwRegion) : Nat := g.en.toNat * 16 + g.user.toNat * 8 + g.x.toNat * 4 + g.w.toNat * 2 + g.r.toNat

/-- R38: a firewall change in the event ring: initiator and region, then contents before and after. -/
def State.fwEvent (s : State) (i n : Nat) (old new : FwRegion) : State :=
  s.pushEvent 3 [i, n, old.attr, new.attr, old.base, old.limit, new.base, new.limit]

/-- R37, R38: region `n` of initiator `i` takes new contents; one logged change. -/
def State.setRegion (s : State) (i n : Nat) (g : FwRegion) : State :=
  let old := s.fwRegion i n
  ({ s with fw := tabSet s.fw (64 * i + n) g }).fwEvent i n old g

/-- The staged region (SEC_FW_BASE, SEC_FW_LIMIT, SEC_FW_ATTR). -/
def State.staged (s : State) : FwRegion where
  base := 4 * s.get SEC_FW_BASE_ADDR
  limit := 4 * s.get SEC_FW_LIMIT_ADDR
  en := s.flag SEC_FW_ATTR_EN
  user := s.flag SEC_FW_ATTR_USER
  x := s.flag SEC_FW_ATTR_X
  w := s.flag SEC_FW_ATTR_W
  r := s.flag SEC_FW_ATTR_R

/-- A write of SEC_FW_CTRL: only SEC writes the SEC registers. -/
def State.fwControl (s : State) (i : Initiator) (act : State → State) : State :=
  let a := blockBase .otp .a + 0x210
  if s.fwAllows i .write a (a + 3) = false then s.deny i a
  else { (if i = .sec then act s else s) with bus := .done }

/-- SEC_FW_COMMIT (R370): the staged region is applied whole and logged, or refused with ERR. -/
def execSecFwCommit (i : Initiator) (s : State) : Host.Outcome State Fault Refusal :=
  .next (s.fwControl i (fun s =>
    let g := s.staged
    if g.en ∧ g.limit < g.base then s.putFlag SEC_FW_CTRL_ERR true
    else s.setRegion (s.get SEC_FW_SEL_INIT) (s.get SEC_FW_SEL_REGION) g))

/-- SEC_FW_LOAD (R370): the selected live region into staging. -/
def execSecFwLoad (i : Initiator) (s : State) : Host.Outcome State Fault Refusal :=
  .next (s.fwControl i (fun s =>
    let g := s.fwRegion (s.get SEC_FW_SEL_INIT) (s.get SEC_FW_SEL_REGION)
    let s := (s.put SEC_FW_BASE_ADDR (g.base / 4)).put SEC_FW_LIMIT_ADDR (g.limit / 4)
    ((((s.putFlag SEC_FW_ATTR_EN g.en).putFlag SEC_FW_ATTR_USER g.user).putFlag SEC_FW_ATTR_X g.x).putFlag SEC_FW_ATTR_W g.w).putFlag SEC_FW_ATTR_R g.r))

end Sys2Proof.Machine
end

