-- ==== Sys2Proof/Machine/Start.lean ====
section
/-! DEFINITION. Resets and starts: what a reset takes away (R428, R429, R438, R439), the history of R430, the course of a start (R362, R375, R411, R420, R354, R363, R364) and its end (R412). -/

namespace Sys2Proof.Machine

open Sys2Proof

/-! ## What a reset takes away -/

/-- Blocks whose volatile fields a channel reset takes (R438). -/
def chanResetBlock (a : Nat) : Bool :=
  match placeOf a with
  | .regs b base => decide (base < 0x60000000) && (blockPerChan b || b == .sys || b == .net || b == .llk)
  | _ => false

/-- A die after a reset of its channel: every switch open, the timers disarmed, no frame yet; its supply and what it has reached stay (R424, R429). The fatal line holds while a Class 3 fault stays latched. -/
def Die.afterReset (d : Die) (fatal : Bool) : Die :=
  { powered := d.powered, wasReady := d.wasReady, heldUv := d.heldUv, fkWords := d.fkWords, furlWords := d.furlWords
    heldFatal := if fatal then d.heldFatal else 0, lsHeld := if fatal || d.heldUv != 0 then d.lsHeld else 0 }

def State.resetDies (s : State) (fatal : Bool) : State := { s with die := twoMap s.die (fun d => d.afterReset fatal) }

/-- The running state of the inputs, outputs, graph and stops after a channel reset. -/
def State.resetSafety (s : State) : State :=
  { s with inp := {}, pairs := [], srcs := [], pulse := {}, outs := {}, graph := ⟨{}, {}⟩, stop := ⟨{}, {}⟩, stay := ⟨{}, {}⟩, ae := ⟨{}, {}⟩, conds := [] }

/-- ... and of converters, networks and the Line Link. -/
def State.resetNets (s : State) : State :=
  { s with ptp := ⟨{}, {}⟩, fmon := ⟨0, 0⟩, adcs := [], ses := [], nets := ⟨{}, {}⟩, link := {}, recd := {}, prog := {}, refitHeld := [], refit := none }

/-- ... and of what counts over cycles and accesses. -/
def State.resetRest (s : State) : State :=
  { s with sleepRun := 0, shdnPrev := false, cutPrev := false, service := none, latches := s.latches.filter (fun e => !chanResetBlock (e.1 % 2 ^ 32))
           tims := s.tims.filter (fun e => e.1 == 2), crcs := s.crcs.filter (fun e => e.1 == 2) }

/-- A collector after a channel reset: its Class 2 line is released, windows and counts are gone; with `clear` its latches too (R196). -/
def FcSt.afterReset (x : FcSt) (clear : Bool) : FcSt := { latches := if clear then x.latches.filter (fun l => l.cls == 3) else x.latches }

def State.resetFaults (s : State) (clear : Bool) : State :=
  let s := { s with fc := twoMap s.fc (fun x => x.afterReset clear) }
  let first (s : State) (c : Chan) : State :=
    if clear then ((((s.put FC_FIRST_VALID 0 c).put FC_FIRST_MULTI 0 c).put FC_FIRST_CLASS 0 c).put FC_FIRST_LINE 0 c).put FC_FIRST_GCOUNT_COUNT 0 c |>.put FC_FIRST_STAMP_UPDATE 0 c
    else s
  ((first (first s .a) .b).showLines .a).showLines .b

/-- R428, R430: the history of the last 8 resets, newest first, with the AON seconds. -/
def State.noteReset (s : State) (code : Nat) : State :=
  let s := [7, 6, 5, 4, 3, 2, 1].foldl (fun (s : State) n =>
    (s.put PWR_HIST_n_CAUSE (s.get PWR_HIST_n_CAUSE .a (n - 1)) .a n).put PWR_HIST_n_SECONDS (s.get PWR_HIST_n_SECONDS .a (n - 1)) .a n) s
  let s := (s.put PWR_HIST_n_CAUSE code .a 0).put PWR_HIST_n_SECONDS (s.aonCount / 32768 % 2 ^ 28) .a 0
  (s.put PWR_RESET_LAST_CAUSE code).satInc PWR_RESET_COUNT

/-- R355: SERVICE ends and every vendor scope is withdrawn; SEC_LIFECYCLE shows the state it was opened from. -/
def State.endService (s : State) : State :=
  let s := if s.lifecycle = lcSERVICE then s.put SEC_LIFECYCLE_STATE (s.get SEC_LIFECYCLE_SVC_FROM) else s
  let s := ({ s with service := none, hly := { s.hly with svcRing := none } }.put SEC_LIFECYCLE_SVC_FROM 0).put SEC_LIFECYCLE_SVC_LEFT 0
  (List.range 8).foldl (fun (s : State) n => s.put SEC_AUTH_n_SCOPE (s.get SEC_AUTH_n_SCOPE .a n % 256) .a n) s

/-- HLY_STATUS.OWNER_AUTH and VENDOR_AUTH (R291, R367). -/
def State.showAuth (s : State) : State :=
  (s.putFlag HLY_STATUS_OWNER_AUTH ((List.range 8).any (fun n => s.get SEC_AUTH_n_SCOPE .a n % 256 != 0))).putFlag HLY_STATUS_VENDOR_AUTH
    ((List.range 8).any (fun n => s.get SEC_AUTH_n_SCOPE .a n / 256 != 0))

/-- The region of Halyard DMA that opens the event logs in shared SRAM, while a ring holds DIAG (R367). -/
def State.showDiag (s : State) : State :=
  let held := s.scopeHeld 1
  let g := s.fwRegion 12 63
  if held = g.en then s
  else s.setRegion 12 63 (if held then ⟨Config.eventLogBase, Config.eventLogLimit, true, false, false, false, true⟩ else {})

/-- What follows a change of the scopes held. -/
def State.authChanged (s : State) : State := s.showAuth.showDiag

/-- R291: every authority ends. -/
def State.endAuthority (s : State) : State :=
  let s := (List.range 8).foldl (fun (s : State) n => (s.put SEC_AUTH_n_SCOPE 0 .a n).put SEC_AUTH_n_IDLE_LEFT 0 .a n) s
  s.endService.authChanged

/-- R154: a channel reset, or a loss of power, before COMMIT ends aborts the Refit. -/
def State.abortRefit (s : State) : State :=
  if s.refitRuns then ((((s.putBoth LGE_REFIT_PHASE 7).putBoth LGE_REFIT_ERR_CODE 0x0F05).pushEvent 5 [7, 0x0F05, 0, 0]).endExclusive 0x10 csCONFIG 0x0F05) else s

/-! ## Loading the active image at a start -/

/-- The active image slot. -/
def State.activeImage (s : State) : Option Image := (s.sec.img.find? (fun e => e.1 == s.sec.imgSlot)).map (·.2)

/-- R352: in MANUFACTURE, PROVISIONED and RETURN no image is loaded. -/
def State.loadsImage (s : State) : Bool := s.fusedState == lcFIELD

/-- What the start is to end in. -/
def State.startWith (s : State) (k : StartImg) : State := s.updSec (fun x => { x with startImg := k })

/-- R364: a start whose active image carries a value above the Cleuz counter advances it first. -/
def State.advanceClz (s : State) (v : Nat) : State := if s.get SEC_ROLLBACK_CLZ < v ∧ v < 64 then s.advanceCounter 18 v else s

/-- R148, R149, R362 step 8: the channels check the active image and load it, or reject it. `ok`: its flash authenticates. -/
def State.bootImage (s : State) (ok nets : Bool) : State :=
  if s.loadsImage = false ∨ s.flag OTP_SHADOW_STATUS_HOLD = true then s.startWith .none
  else match s.activeImage with
    | none => (s.showImgErr { code := errFORMAT }).startWith .rejected
    | some im =>
      if ok = false then ((s.showImgErr { code := errSIG }).raiseOnce (class0 57 s.sec.imgSlot)).startWith .rejected
      else
        match s.checkImage im with
        | some e => (s.showImgErr e).startWith .rejected
        | none => ((s.advanceClz im.rollback).loadImage im s.sec.imgSlot nets).startWith .loaded

/-! ## Channel reset -/

/-- What both channels and their surroundings lose at a channel reset (R438). -/
def State.loseChannels (s : State) (clear : Bool) : State :=
  let s := (s.setDev stINIT).abortRefit.endStops 9
  let s := s.endAuthority.resetFields chanResetBlock (fun f => f.cls == .v)
  let s := (s.clearConfig.resetSafety.resetNets.resetRest)
  (s.resetFaults clear).resetDies (s.hasClass .a 3 || s.hasClass .b 3)

/-- The clocks of a start: timers begin to count, the network engines run. -/
def State.beginClocks (s : State) : State :=
  let s := { s with tims := [Unit3.a, Unit3.b].foldl (fun t u => tabUpd {} t (unitNum u) (fun x => { x with last := s.now })) s.tims }
  (s.put NET_n_STATUS_NPE_OK 1 .a 0).put NET_n_STATUS_NPE_OK 1 .a 1

/-- R428, codes 4 to 6: both channels reset together and start again from the active image, without Ratline. -/
def State.channelReset (s : State) (code : Nat) (imgOk clear : Bool) : State :=
  let s := (s.noteReset code).loseChannels clear
  let s := (s.updSec (fun x => { x with startAt := s.now })).beginClocks
  ((s.bootImage imgOk false).showKill.showFurl).settle

/-! ## A start from POR, BOR or RESET_N -/

/-- Everything the main die loses (R438): W, C and V, the queues, and what runs. -/
def State.loseMain (s : State) : State :=
  let s := s.otpInterrupt
  let s := { (s.resetFields (fun _ => true) (fun f => f.cls == .w || f.cls == .c || f.cls == .v)) with
    fc := ⟨{}, {}⟩, ev := {}, recd := {}, tims := [], crcs := [], latches := [], bus := .idle, fw := [], hly := {}, hostLost := false, epochAt := none, scrub := [], mz := { s.mz with mirrorAt := none, arg := 0, argPrev := 0 } }
  let s := { (s.resetSafety.resetNets.resetRest) with mem := s.mem.filter (fun e => decide (0x30000000 ≤ e.1 ∧ e.1 < 0x30000400)) }
  (s.resetDies false).updSec (fun x => { x with run := none, abort := false, backoff := none, fwRun := none, startImg := .idle, slackLow := ⟨0, 0⟩, stepDue := false, verifyDue := false, rows := [], columns := [] })

/-- R375: W0 to W7 sensed into the shadow registers; a word that disagrees, breaks its path or cannot be corrected is flagged. -/
def State.senseWord (s : State) (n : Nat) (o : Sense) : State :=
  let w := s.fuses n ^^^ o.err
  let s := (s.put OTP_SHADOW_n_LO_FUSES (w.toNat % 2 ^ 32) .a n).put OTP_SHADOW_n_HI_FUSES (w.toNat / 2 ^ 32 % 2 ^ 32) .a n
  let odd := o.low != 0 || o.high != 0 || (isTally n && tallyUneven w) || (n == 0 && pathBroken w)
  let bad := !isTally n && w != 0 && (wordData w).isNone
  let s := s.put OTP_SHADOW_STATUS_MARGINAL (setBit (s.get OTP_SHADOW_STATUS_MARGINAL) n odd)
  let s := s.put OTP_SHADOW_STATUS_UNCORR (setBit (s.get OTP_SHADOW_STATUS_UNCORR) n bad)
  if odd || bad then s.otpAlarm n else s

/-- R375: the sensing at reset; a flagged word makes the boot ROM hold the device, with an event. -/
def State.sense (s : State) (priv : List Sense) : State :=
  let s := (List.range 8).foldl (fun s n => s.senseWord n ((priv[n]?).getD Sense.clean)) s
  let s := ((s.showOtp).showIdentity).putFlag OTP_STATUS_BUSY false
  let hold := s.get OTP_SHADOW_STATUS_MARGINAL != 0 || s.get OTP_SHADOW_STATUS_UNCORR != 0
  let s := s.putFlag OTP_SHADOW_STATUS_HOLD hold
  let s := if hold then s.pushEvent 4 [6, s.get OTP_SHADOW_STATUS_MARGINAL, s.get OTP_SHADOW_STATUS_UNCORR, 0] else s
  s.put SEC_LIFECYCLE_STATE (lifecycleOf (s.fuses 0 ^^^ ((priv[0]?).getD Sense.clean).err))

/-- R353, R354: acting on a ticket. A ticket from another state, for another device, or with a signature that fails is erased and logged as E57. The W0 bit comes last, after every other fuse has verified. -/
def State.ticketEnds (s : State) (bad : Bool) : State :=
  let s := s.updSec (fun x => { x with ticket := none })
  if bad then s.raiseOnce (class0 57 0x0E0A) else s

/-- The transitions a ticket may ask for, by present and target state: the W0 bit (R353). -/
def ticketBit (src dst : Nat) : Option Nat :=
  if src = lcPROVISIONED ∧ dst = lcFIELD then some 2
  else if src = lcFIELD ∧ dst = lcRETURN then some 3
  else if (src = lcMANUFACTURE ∨ src = lcPROVISIONED ∨ src = lcRETURN ∨ src = lcFIELD) ∧ dst = lcSCRAPPED then some 4
  else none

/-- R353: W4 to W7 stand empty, or hold the ticket's hash already. -/
def State.claimFree (s : State) (k : Ticket) : Bool :=
  (List.range 4).all (fun i => s.fuses (4 + i) == 0) || (List.range 4).all (fun i => s.fuses (4 + i) == wordFuses ((k.ownerHash[i]?).getD 0))

/-- The fuses of a claim: W4 to W7, group 5 and its lock. -/
def State.claimFuses (s : State) (k : Ticket) : State :=
  let s := (List.range 4).foldl (fun (s : State) i => if s.fuses (4 + i) = 0 then s.blow (4 + i) (wordFuses ((k.ownerHash[i]?).getD 0)) else s) s
  let s := (List.range 16).foldl (fun (s : State) i => if s.fuses (128 + i) = 0 then s.blow (128 + i) (wordFuses ((k.ownerOtp[i]?).getD 0)) else s) s
  s.tally 1 32

/-- R354: one ticket at a start; where a fuse does not verify the old state stands and the ticket is acted on again at the next start. -/
def State.actTicket (s : State) (k : Ticket) (fusesOk : Bool) : State :=
  match ticketBit k.source k.target with
  | none => s.ticketEnds true
  | some b =>
    if k.source ≠ s.lifecycle ∨ k.mine = false ∨ k.signed = false then s.ticketEnds true
    else if b = 2 ∧ s.claimFree k = false then s.ticketEnds true
    else if fusesOk = false then s
    else
      let s := if b = 2 then s.claimFuses k else s
      let s := (s.tally 0 (2 ^ b)).ticketEnds false
      s.put SEC_LIFECYCLE_STATE k.target

def State.tickets (s : State) (o : StartObs) : State :=
  let s := match o.ticket with
    | some k => s.updSec (fun x => { x with ticket := some k })
    | none => s
  match s.sec.ticket with
  | some k => s.actTicket k o.fusesOk
  | none => s

/-! ### Firmware (R362, R363) -/

def State.fwSlotAt (s : State) (n : Nat) : FwSlot := tabGet {} s.sec.fw n

def FwSlot.usable (x : FwSlot) : Bool := x.mark != .empty && x.mark != .failed

/-- R362 step 3, R363: the slot to be started: the inactive one by BOOTSEL 0b01 when its ROLLBACK allows it, a TRIAL set, else the active one. -/
def State.fwPick (s : State) (bootsel : Nat) : Nat :=
  let other := 1 - s.sec.fwSlot
  let x := s.fwSlotAt other
  if (x.mark = .trial) ∨ (bootsel = 1 ∧ x.usable = true ∧ s.get SEC_ROLLBACK_FW ≤ x.rollback) then other else s.sec.fwSlot

/-- A slot's verification verdict. -/
def fwVerdict (o : StartObs) (n : Nat) : Bool := if n = 0 then o.fwOk.a else o.fwOk.b

/-- The slot runs. -/
def State.runFw (s : State) (n : Nat) : State :=
  let x := s.fwSlotAt n
  let s := (s.updSec (fun y => { y with fwRun := some n })).put SEC_FW_VERSION_VERSION x.version
  let s := s.put SEC_ROLLBACK_FW_SLOT s.sec.fwSlot
  if x.mark = .trial then s.put SEC_ROLLBACK_TRIAL 1 else s

/-- R363: a slot is marked FAILED, with E57. -/
def State.failFw (s : State) (n : Nat) : State :=
  ((s.updSec (fun y => { y with fw := tabUpd {} y.fw n (fun x => { x with mark := .failed }) })).put SEC_ROLLBACK_TRIAL 2).raiseOnce (class0 57 n)

/-- R362 step 5, R363: the picked set runs when it verifies; a TRIAL set that does not is marked FAILED and the device starts from the previous slot. A Phithen test load over JTAG (BOOTSEL 0b10) runs without a slot in MANUFACTURE and RETURN. -/
def State.startFw (s : State) (o : StartObs) : State × Bool :=
  if o.bootsel.val = 2 ∧ (s.lifecycle = lcMANUFACTURE ∨ s.lifecycle = lcRETURN) then (s, true)
  else
    let n := s.fwPick o.bootsel.val
    let x := s.fwSlotAt n
    if x.usable ∧ fwVerdict o n = true then (s.runFw n, true)
    else
      let s := if x.mark = .trial then s.failFw n else s.raiseOnce (class0 57 n)
      let m := s.sec.fwSlot
      if n ≠ m ∧ (s.fwSlotAt m).usable = true ∧ fwVerdict o m = true then (s.runFw m, true) else (s, false)

/-! ### Certificate and ageing summary (R411, R420) -/

/-- R411: the first failing check of the certificate, 0 when it is valid. `hash` is the HASH of the set to be started. -/
def State.certReason (s : State) (o : StartObs) (hash : List Nat) : Nat :=
  match s.sec.cert with
  | none => 1
  | some k =>
    if o.certParityOk = false ∨ o.certMacOk = false then 2
    else if s.sec.certFlash ≠ some (k, false) ∨ o.certFlashOk = false then 3
    else if s.flag PWR_FLAGS_VBAT_DIP then 4
    else if s.flag PWR_FLAGS_AON_CLK_STOP then 5
    else if k.days = 0 ∨ k.days * 86400 * 32768 ≤ s.aonCount - k.written then 6
    else if k.fwHash ≠ hash then 7
    else if k.w2 ≠ tallyValue (s.fuses 2) then 8
    else if s.sec.l3.isSome ∨ s.flag FC_LOCKOUT_L3_PEND then 9
    else 0

/-- R411: whether it was valid or not, the AON copy is erased and the flash copy marked used. -/
def State.spendCert (s : State) (reason : Nat) : State :=
  (s.put BST_CERT_REASON reason).updSec (fun x => { x with cert := none, certFlash := x.certFlash.map (fun k => (k.1, true)) })

/-- BST_STATUS.ORIGIN of a run. -/
def RunKind.origin : RunKind → Nat
  | .cold => 1
  | .cert => 2
  | .shutdown => 3
  | .l3 => 4
  | .controlled _ => 5

/-- A Ratline run starts (R399). -/
def State.startRun (s : State) (k : RunKind) : State :=
  ((s.put BST_STATUS_ORIGIN k.origin).putFlag BST_STATUS_BUSY true).updSec (fun x => { x with run := some k, runAt := s.now, abort := false })

/-- Addresses of the ageing summary: the class A fields of CNM, the clock step, VERIFY and the sense shift (R420). -/
def summaryAddr (a : Nat) : Bool :=
  (decide (0x40110000 ≤ a) && decide (a < 0x40120000)) || a == 0x40000004 || a == fldAddr SOUT_VERIFY_VERIFY (blockBase .sout .a) 0 || a == 0x400E0014

/-- The class A fields of one summary word taken from a copy. -/
def restoreWord (r : RegFile) (a : Nat) (w : BitVec 32) : RegFile :=
  match regOf a with
  | none => r
  | some d => (d.fields.filter (fun f => f.cls == .a)).foldl (fun r f => putField r a f.hi f.lo (getBits w f.hi f.lo)) r

/-- R420: after a loss of the AON contents the summary comes back from flash, or the device starts at its most conservative settings. -/
def State.restoreSummary (s : State) (aonOk flashOk : Bool) : State :=
  if s.sec.aonLost = false ∧ aonOk = true then s
  else match (if flashOk then s.sec.summary else none) with
    | some l =>
      let s := { s with regs := l.foldl (fun (r : RegFile) (e : Nat × BitVec 32) => restoreWord r e.1 e.2) s.regs }
      (s.setVerify (s.get SOUT_VERIFY_VERIFY)).putFlag CNM_ADVICE_RESTORED true
    | none =>
      let s := s.resetFields (fun a => decide (0x40110000 ≤ a) && decide (a < 0x40120000)) (fun f => f.cls == .a)
      (((s.put SYS_STATE_SC_CLK_STEP 2).setVerify 100).put OTP_SENSE_SHIFT 0).advise 9

/-- R439: the Class 3 record and L3_PEND come back from flash. -/
def State.restoreL3 (s : State) : State :=
  if s.sec.aonLost then
    let s := s.updSec (fun x => { x with l3 := x.l3Flash })
    (s.putFlag FC_LOCKOUT_L3_PEND s.sec.l3.isSome .a).putFlag FC_LOCKOUT_L3_PEND s.sec.l3.isSome .b
  else s

def State.restoreAon (s : State) (o : StartObs) : State :=
  ((s.restoreL3).restoreSummary o.summaryMacOk o.summaryFlashOk).updSec (fun x => { x with aonLost := false })

/-- The run a start makes: L3 clearance, cold, or with a valid certificate (R399, R411). -/
def State.startRatline (s : State) (reason : Nat) : State :=
  s.startRun (if s.sec.l3.isSome || s.flag FC_LOCKOUT_L3_PEND then .l3 else if reason = 0 then .cert else .cold)

/-! ### Keys and firewall (R362 steps 6 and 7) -/

/-- R235, R357: line keys are readable in FIELD only; the register shows the active epoch and the other. -/
def State.loadKeys (s : State) : State :=
  let ks := if s.loadsImage then s.sec.lineKeys else []
  let act := if ks.contains s.sec.activeKey then s.sec.activeKey else (ks.head?).getD 0
  let s := (s.put GOA_KEY_ACTIVE_EPOCH act).put GOA_KEY_OTHER_EPOCH (((ks.filter (· != act)).head?).getD 0)
  s.put SEC_MANIFEST_VERSION s.sec.manifest

/-- A region of default permissions. -/
def fwr (base limit : Nat) (w x user : Bool) : FwRegion := ⟨base, limit, true, user, x, w, true⟩

/-- The regions SEC programs for each initiator before it releases it, by 64 · initiator code + region. The spec leaves them to SEC's firmware; these grant what R31 to R34, R277, R295 and R395 ask for. -/
def defaultFw : Tab FwRegion :=
  let view (i base tcm : Nat) : Tab FwRegion :=
    [(64 * i, fwr base (base + 0x12FFFC) true false false), (64 * i + 1, fwr tcm (tcm + 0x7FFFC) true true false), (64 * i + 2, fwr 0x20000000 0x201FFFFC true true false),
     (64 * i + 3, fwr 0x40000000 0x4012FFFC (base == 0x40000000) false false)]
  let shared (i : Nat) : Tab FwRegion := [(64 * i, fwr 0x20000000 0x201FFFFC true false false)]
  view 0 0x40000000 0x10000000 ++ view 1 0x50000000 0x18000000 ++ view 2 0x40000000 0x10000000 ++ view 3 0x50000000 0x18000000
    ++ view 4 0x40000000 0x10000000 ++ view 5 0x50000000 0x18000000 ++ shared 6 ++ shared 7 ++ shared 8
    ++ [(64 * 9, fwr 0x40000000 0x400EFFFC false false true), (64 * 9 + 1, fwr 0x400F0000 0x400F0020 false false true), (64 * 9 + 2, fwr 0x40100000 0x5FFFFFFC false false true),
        (64 * 9 + 3, fwr 0x60000000 0x6001FFFC true false true), (64 * 9 + 4, fwr 0x21000000 0x2103FFFC true true true),
        (64 * 10, fwr 0x40000000 0x4012FFFC true false false), (64 * 10 + 1, fwr 0x50000000 0x5012FFFC false false false),
        (64 * 12, fwr 0x40000000 0x400DFFFC false false false), (64 * 12 + 1, fwr 0x400F0000 0x400F0020 false false false), (64 * 12 + 2, fwr 0x40100000 0x5FFFFFFC false false false),
        (64 * 13, fwr 0x40000000 0x40000FFC true false false), (64 * 13 + 1, fwr 0x400A0000 0x400A0FFC true false false), (64 * 13 + 2, fwr 0x40080000 0x400803FC true false false)]

/-- The host's regions with the window open, or read-only except HLY_WINDOW_STATUS (R280); each change is logged. -/
def State.hostWindow (s : State) (opened : Bool) : State :=
  let s := s.setRegion 13 0 (fwr 0x40000000 0x40000FFC opened false false)
  let s := s.setRegion 13 1 (fwr 0x400A0000 0x400A0FFC opened false false)
  let s := s.setRegion 13 2 (fwr 0x40080000 0x400803FC opened false false)
  if opened then s.setRegion 13 3 {} else s.setRegion 13 3 (fwr 0x400A0008 0x400A0008 true false false)

/-! ### The course of a start -/

/-- PWR_STATUS and CLK_STATUS as the start finds them. -/
def State.showRails (s : State) (o : StartObs) : State :=
  let fs := [PWR_STATUS_VDD_CORE_OK, PWR_STATUS_VDD_18_OK, PWR_STATUS_VDDIO_33_OK, PWR_STATUS_VDDA_OK, PWR_STATUS_VS_A_OK, PWR_STATUS_VS_B_OK]
  let s := fs.zipIdx.foldl (fun (s : State) (e : Fld × Nat) => s.putFlag e.1 (o.rails.getLsbD e.2)) s
  let s := (s.putFlag PWR_STATUS_VS_A_UV (s.die.a.heldUv != 0)).putFlag PWR_STATUS_VS_B_UV (s.die.b.heldUv != 0)
  let s := ((s.putFlag CLK_STATUS_PLL_A_LOCK true).putFlag CLK_STATUS_PLL_B_LOCK true).putFlag CLK_STATUS_X32_RUN o.crystal
  if o.crystal then s else s.raise (class0 11 0)

/-- A fault of SEC: E15, Class 3 (R184). -/
def secFault (detail : Nat) : FaultEv := ⟨15, 3, .shared, .both, .none, detail⟩

/-- Steps 3 to 8 of R362, after the lifecycle has been decoded. -/
def State.startElements (s : State) (o : StartObs) : State :=
  let hash := (s.fwSlotAt (s.fwPick o.bootsel.val)).hash
  let reason := s.certReason o hash
  let s := ((s.restoreAon o).spendCert reason).startRatline reason
  let s := s.tickets o
  let r := s.startFw o
  if r.2 = false then r.1.startWith .halted
  else
    let s := r.1.loadKeys
    let s := { s with fw := defaultFw }
    let s := s.putFlag HLY_WINDOW_STATUS_OPEN true
    s.beginClocks.bootImage o.imgOk true

/-- R357, R374: the DRK and the device identity are sound. -/
def State.drkChecks (s : State) (o : StartObs) : State :=
  let s := if o.drkMarginal then s.otpAlarm 8 else s
  if o.drkOk = false ∨ o.idOk = false then (s.raise (secFault 2)).startWith .halted else s

/-- The course of R362 and R412 from reset release to the check of the image. In BLANK and SCRAPPED the boot ROM stops; a failed SEC ROM or key is E15. -/
def State.course (s : State) (o : StartObs) : State :=
  let s := (s.sense o.priv).showRails o
  let s := if o.flashTrained then s else s.raiseOnce (class0 57 0)
  if o.romOk = false then (s.raise (secFault 1)).startWith .halted
  else if s.lifecycle = lcBLANK ∨ s.lifecycle = lcSCRAPPED then s.startWith .halted
  else
    let s := s.drkChecks o
    if s.sec.startImg = .halted then s else s.startElements o

/-- A start from POR, BOR or RESET_N: the main die resets, the entry goes into the history, and the start runs. `code` 0 makes no entry. -/
def State.mainStart (s : State) (code : Nat) (o : StartObs) : State :=
  let s := { s with now := max s.now o.t }
  let s := if code = 0 then s else s.noteReset code
  let s := { s.loseMain with power := .on }
  let s := s.updSec (fun x => { x with startAt := s.now, bootsel := o.bootsel.val })
  (((s.course o).showKill).showFurl).settle

end Sys2Proof.Machine
end

