-- ==== Sys2Proof/Machine/Requests.lean ====
section
/-! DEFINITION. What the end of an evaluation can ask of other parts: an orderly shutdown (R436) and a lot cut (R394); the copy of the ageing summary in flash (R420). -/

namespace Sys2Proof.Machine

open Sys2Proof

/-- R420: the ageing summary is copied to flash. -/
def State.copySummary (s : State) : State :=
  s.updSec (fun x => { x with summary := some (s.regs.filter (fun e => summaryAddr e.1)) })

/-- R436: the states a shutdown is accepted in. -/
def State.mayShutdown (s : State) : Bool := s.dev == stSAFE_READY || s.dev == stSAFE || s.dev == stLOCKOUT

/-- R436: an orderly shutdown: every output open, the summary in flash, Ratline and its certificate. A device that holds a Class 3 record writes no certificate (R410). -/
def State.shutdownRequest (s : State) : State :=
  if s.mayShutdown then
    let s := (s.setDev stSHUTDOWN).abortTest.copySummary
    let s := ({ s with die := twoMap s.die (fun d => { d with cmd := 0, lsCmd := 0, staged := none, holding := false }) }).showKill
    (if s.sec.l3.isSome then s else s.startRun .shutdown).settle
  else s

/-- R394: channel A issues LOT_CUT with the value of ID_SIG, or LOT_OPEN when no lot is open. -/
def State.lotCut (s : State) (id : Int) : State :=
  s.mzSend (if s.flag MZW_STATUS_LOT_OPEN then mzLOT_CUT else mzLOT_OPEN) (unsigned 32 id)

end Sys2Proof.Machine
end

