-- ==== Sys2Proof/Machine/Cnm.lean ====
section
/-! DEFINITION. Crow's Nest (R413 to R422 of 16_selftest_and_ageing.md): measurements, the histogram and life of the dies, and the re-plans. -/

namespace Sys2Proof.Machine

open Sys2Proof

/-! ## Temperature and life (R418) -/

/-- R418: the bin of a junction temperature (°C); each bin includes its upper limit. -/
def tempBin (tj : Int) : Nat :=
  if tj ≤ 85 then 0 else if tj ≤ 95 then 1 else if tj ≤ 105 then 2 else if tj ≤ 115 then 3 else if tj ≤ 125 then 4 else 5

/-- R418: the weight of a bin, in tenths. -/
def binWeight (b : Nat) : Nat := ([10, 17, 30, 52, 90, 160][b]?).getD 0

/-- The rated life in equivalent hours (R418). -/
def ratedLife : Nat := 631152

/-- Equivalent hours of a die. -/
def State.eqHours (s : State) (d : Nat) : Nat := tabGet 0 s.sec.life d / 36000

/-- One second of die `d` at `tj`; a second in bin 5 is advisory HOT. -/
def State.accrue (s : State) (d : Nat) (tj : Int) : State :=
  let b := tempBin tj
  let s := s.updSec (fun x => { x with secs := tabUpd 0 x.secs (8 * d + b) (fun n => n + 1), life := tabUpd 0 x.life d (fun n => n + binWeight b) })
  let s := (s.put CNM_TEMP_d_b_HOURS (tabGet 0 s.sec.secs (8 * d + b) / 3600 % 2 ^ 32) .a (8 * d + b)).put CNM_LIFE_d_EQ_HOURS (s.eqHours d % 2 ^ 32) .a d
  if b = 5 then s.advise 7 else s

/-- Days of the AON count. -/
def State.aonDay (s : State) : Nat := s.aonCount / 32768 / 86400

/-- The equivalent hours of the dies at the first second of a day are kept for 365 days (R418). -/
def State.logLife (s : State) : State :=
  let d := s.aonDay
  if (s.sec.lifeLog.head?).any (fun (e : Nat × List Nat) => e.1 == d) then s
  else s.updSec (fun x => { x with lifeLog := ((d, [s.eqHours 0, s.eqHours 1, s.eqHours 2]) :: x.lifeLog).filter (fun (e : Nat × List Nat) => decide (d ≤ e.1 + 366)) })

/-- The die that has used most of its life. -/
def State.oldestDie (s : State) : Nat :=
  let d := if s.eqHours 0 < s.eqHours 1 then 1 else 0
  if s.eqHours d < s.eqHours 2 then 2 else d

/-- A quotient to the nearest integer. -/
def nearestNat (a b : Nat) : Nat := (2 * a + b) / (2 * b)

/-- The equivalent hours that die `d` had 365 days ago, when the count reaches back so far. -/
def State.yearAgo (s : State) (d : Nat) : Option Nat :=
  ((s.sec.lifeLog.filter (fun (e : Nat × List Nat) => decide (e.1 + 365 ≤ s.aonDay))).head?).map (fun (e : Nat × List Nat) => (e.2[d]?).getD 0)

/-- R418, R419: life used and the projection of what remains, in 0.01 % and 0.1 years; below 5 years is advisory LIFE. -/
def State.project (s : State) : State :=
  let d := s.oldestDie
  let u := s.eqHours d
  let s := s.put CNM_PROJ_USED (min 65535 (nearestNat (u * 10000) ratedLife))
  match s.yearAgo d with
  | none => s
  | some v =>
    let left := ratedLife - u
    let gained := u - v
    let s := s.put CNM_PROJ_REMAIN (if gained = 0 then 65534 else min 65534 (nearestNat (left * 10) gained))
    if left < 5 * gained then s.advise 6 else s

/-- RING_OSC_MEASURE (R413, R418): at time `t`, a second after the last, the drift of the eight oscillators (0.01 %) and the temperatures (°C) of the main die and I/O dies A and B. -/
def execRingOscMeasure (drift : List Int) (tMain tA tB : Int) (t : Nat) (s : State) : Host.Outcome State Fault Refusal :=
  let s := { s with now := max s.now t }
  .next (if s.running = true ∧ s.sec.measAt + 1000000000 ≤ s.now then
      let s := s.updSec (fun x => { x with measAt := s.now, temps := [tMain, tA, tB] })
      let s := (drift.take 8).zipIdx.foldl (fun (s : State) (e : Int × Nat) => s.put CNM_RO_k_DRIFT (saturated 16 e.1) .a e.2) (s.keepTemps 0)
      let s := ((s.accrue 0 tMain).accrue 1 tA).accrue 2 tB
      (s.logLife).project
    else s)

/-! ## The SC clock (R414) -/

/-- SLACK_HOURLY (R414, R419): the worst slack (ps) of each pair over an hour. Below 60 ps at 400 or 380 MHz the clock steps down at the next boundary; at 360 MHz it is advisory SLACK_FLOOR. -/
def execSlackHourly (a b : Nat) (s : State) : Host.Outcome State Fault Refusal :=
  let s := ((s.put CNM_SLACK_SLACK_A (min a 65535)).put CNM_SLACK_SLACK_B (min b 65535)).keepTemps 1
  .next (if min a b < 60 then
      (if s.get SYS_STATE_SC_CLK_STEP < 2 then s.updSec (fun x => { x with stepDue := true }) else s.advise 1)
    else s)

/-- SLACK_READING_LOW (R414): one reading (ps) of a pair in hardware. Below 30 ps the clock steps down at the next boundary; three in a row at 360 MHz are E60, Class 2 of the channel. A reading of 30 ps or more ends a run of low ones. -/
def execSlackReadingLow (c : Chan) (ps : Nat) (s : State) : Host.Outcome State Fault Refusal :=
  .next (if 30 ≤ ps then s.updSec (fun x => { x with slackLow := twoSet x.slackLow c 0 })
    else if s.get SYS_STATE_SC_CLK_STEP < 2 then s.updSec (fun x => { x with stepDue := true })
    else
      let n := twoAt s.sec.slackLow c + 1
      let s := s.updSec (fun x => { x with slackLow := twoSet x.slackLow c n })
      if 3 ≤ n then s.raiseOnce (class2Own 60 c ps) else s)

/-! ## Fuses (R416) -/

/-- 30 days of AON seconds. -/
def days30 : Nat := 30 * 86400

/-- R416: whether a step of the sense references is allowed now. -/
def State.mayShift (s : State) : Bool :=
  match s.sec.shiftedAt with
  | none => true
  | some t => decide (t + days30 ≤ s.aonCount / 32768)

/-- R416: the direction of a due step: away from the reference at which fuses differed. -/
def shiftDir (low high : Nat) : Int := if 4 ≤ low ∧ high = 0 then 1 else if 4 ≤ high ∧ low = 0 then -1 else 0

/-- FUSE_SWEEP (R413, R416, R419): at time `t` the daily sweep ends: the words with DIFF_LOW, with DIFF_HIGH, and with either; `changed`: some nominal value changes at the shifted references, which withdraws the step. At ±4 it is advisory FUSE_LIMIT. -/
def execFuseSweep (low high words : Nat) (changed : Bool) (t : Nat) (s : State) : Host.Outcome State Fault Refusal :=
  let s := { s with now := max s.now t }
  let s := ((s.updSec (fun x => { x with fuseAt := s.now })).put CNM_FUSE_DIFF_WORDS (min words 65535)).put CNM_FUSE_AGE_H 0
  let s := s.keepTemps 4
  let old := signed 4 (s.get OTP_SENSE_SHIFT)
  let new := old + shiftDir low high
  .next (if new = old ∨ s.mayShift = false ∨ 4 < new.natAbs ∨ changed = true then s
    else
      let s := ((s.put OTP_SENSE_SHIFT (unsigned 4 new)).updSec (fun x => { x with shiftedAt := some (s.aonCount / 32768) })).replan
      if new.natAbs = 4 then s.advise 3 else s)

/-! ## VERIFY and the summary -/

/-- VERIFY_ADJUST (R415, R419): the longest readback settle time (µs) of any output in 24 h. -/
def execVerifyAdjust (us : Nat) (s : State) : Host.Outcome State Fault Refusal :=
  let v := s.get SOUT_VERIFY_VERIFY
  let s := s.keepTemps 6
  .next (if 100 ≤ v then (if 85 < us then s.advise 8 else s)
    else if v < us + 15 then (s.updSec (fun x => { x with verifyDue := true })).applyVerify
    else s)

/-- SUMMARY_COPY (R420): at time `t`, 24 h after the last, the ageing summary is copied to flash. -/
def execSummaryCopy (t : Nat) (s : State) : Host.Outcome State Fault Refusal :=
  let s := { s with now := max s.now t }
  .next (if s.running = true ∧ s.sec.summaryAt + 24 * hourNs ≤ s.now then (s.updSec (fun x => { x with summaryAt := s.now })).copySummary else s)

/-- HMC_FAULT (R190, R422): a block reset of HMC within its consequential window; the volatile fields of CNM go, the summary stays. -/
def execHmcFault (s : State) : Host.Outcome State Fault Refusal :=
  .next ((s.openWindow 10).blockReset (blockBase .cnm .a))

end Sys2Proof.Machine
end

