-- ==== Sys2Proof/Machine/Cycle.lean ====
section
/-! DEFINITION. The guard cycle (R21 to R24 of 01_architecture.md): boundary, coordinate snapshot, evaluation, result agreement and staging, and the Stay frames that carry them. -/

namespace Sys2Proof.Machine

open Sys2Proof

/-- Guard cycles run: the device is powered and neither asleep nor shut down (R434, R436). -/
def State.cycles (s : State) : Bool := s.running && s.dev != stSLEEP && s.dev != stSHUTDOWN

/-- The device state in which the graph is evaluated. -/
def State.graphRuns (s : State) : Bool := s.dev == stSAFE_READY || s.dev == stRUN || s.dev == stSTOPPING || s.dev == stSAFE

/-! ## The boundary -/

/-- R117, R118: the switch commands of a die at a boundary. An on-command of the unit under test in announce or in the test phase waits; in VERIFY it aborts the test, and an off-command aborts it at any phase. -/
def State.applySwitches (s : State) (c : Chan) (w : BitVec 16) (l : BitVec 4) : State :=
  let d := twoAt s.die c
  let t := s.outs.slot
  let off := s.testHits (d.cmd &&& ~~~w) (d.lsCmd &&& ~~~l)
  let on := s.testHits (w &&& ~~~d.cmd) (l &&& ~~~d.lsCmd)
  let s := if off || (on && t.phase == .verify) then s.abortTest else s
  let waits := on && (t.phase == .announce || t.phase == .test) && !off
  let hold : BitVec 16 := if waits && !isLsKind t.kind then outBit t.unit &&& ~~~d.cmd else 0
  let s := if waits then { s with outs := { s.outs with slot := { s.outs.slot with onWaits := true } } } else s
  let cmd := w &&& ~~~hold
  let s := (List.range 16).foldl (fun (s : State) n => if d.cmd.getLsbD n != cmd.getLsbD n then s.updOut n (fun o => { o with changed := s.now }) else s) s
  let s := s.updDie c (fun d => { d with
    cmd := cmd
    lsCmd := match c with
      | .a => 0
      | .b => l
    want := w
    stream := true
    staged := none
    lastCmd := s.now
    fkCycled := d.fkCycled ||| (d.heldFk &&& d.fkOpened &&& w)
    fkOpened := d.fkOpened ||| (d.heldFk &&& ~~~w) })
  s.fkFree c

/-- R24, R120: the command frame of channel `c` at this boundary. A held die gets hold frames, which keep its switches as they are (R177). A frame that fails its check is E37. -/
def State.applyDie (s : State) (c : Chan) (o : DieObs) : State :=
  let d := twoAt s.die c
  if d.powered = false then s
  else if d.holding then
    if o.cmdOk then (s.updDie c (fun d => { d with lastCmd := s.now })).sent c .cycle else s
  else match d.staged with
    | none => s
    | some (w, l) => if o.cmdOk then s.applySwitches c w l else s.updDie c (fun d => { d with staged := none })

/-- The E26 and E37 conditions that a boundary shows on die `c` (R91, R120). -/
def State.judgeDie (s : State) (c : Chan) (o : DieObs) : State :=
  let f (x y : Fld) : Fld := match c with
    | .a => x
    | .b => y
  let d := twoAt s.die c
  if d.powered = false then s
  else
    let s := s.putBoth (f SIN_DIE_STATUS_FRAME_A SIN_DIE_STATUS_FRAME_B) (!o.frameOk).toNat
    let s := s.putBoth (f SIN_DIE_STATUS_REF_A SIN_DIE_STATUS_REF_B) (!o.refOk).toNat
    let s := if o.frameOk && o.refOk then s else s.dieInputFault c
    let pump := !o.pumpOk && d.cmd != 0
    let s := s.putBoth (f SOUT_DIE_STATUS_FRAME_A SOUT_DIE_STATUS_FRAME_B) (!o.cmdOk).toNat
    let s := s.putBoth (f SOUT_DIE_STATUS_REF_A SOUT_DIE_STATUS_REF_B) (!o.rbRefOk).toNat
    let s := s.putBoth (f SOUT_DIE_STATUS_PUMP_A SOUT_DIE_STATUS_PUMP_B) pump.toNat
    if o.cmdOk && o.rbRefOk && !pump then s
    else s.raiseOnce ⟨37, 2, chanCharge c, .both, .none, (regWord s.regs 0 (blockBase .sout .a + 0x20C)).toNat⟩

/-- The samples of a die latched at the boundary (R21, R110); a missing frame leaves the last ones. -/
def State.latchSamples (s : State) (c : Chan) (o : DieObs) : State :=
  if (twoAt s.die c).powered && o.frameOk then
    { s with inp := { s.inp with latched := twoSet s.inp.latched c (twoAt s.inp.filt c) },
             outs := { s.outs with readM := twoSet s.outs.readM c o.mHigh, readO := twoSet s.outs.readO c o.oHigh } }
  else s

/-- R185: a Class 0 latch clears at the boundary when its line is no longer asserted; its record is stored or counted. -/
def State.clearClass0 (s : State) : State :=
  let p (l : Latch) : Bool := l.cls == 0 && !s.condOn l.line l.elem
  (s.dropLatches .a p).dropLatches .b p

/-- R262: the groups the device publishes stop in: every member group while REEF neither permits torque nor is ARMED, and what LLTX publishes. In SLEEP it publishes stop in every member group (R434). -/
def State.publication (s : State) : Nat :=
  let c := (s.parts.head?).getD .a
  let q := (s.prog.insts.any (fun p => p.2.code == 0x40 && (tabGet {} (twoAt s.graph c).insts p.1).q)) && !s.locked
  let reef := if s.reefSf.isSome && !q && !(twoAt s.stop c).armed then s.get DSF_GROUPS_MEMBER .a else 0
  if s.dev = stSLEEP then s.get DSF_GROUPS_MEMBER .a else reef ||| (twoAt s.graph c).lltx

/-- R258, R261: the Line Link at the boundary: the entries of the ended cycle are held for the groups, and the publication is staged. -/
def State.linkBoundary (s : State) : State :=
  let ent (p : Port) : Tab (Nat × Nat) := if s.portState p = ptUP then (s.port p).entries else []
  let s := { s with link := { s.link with held := ⟨ent .up, ent .dn⟩, staged := s.publication, stagedAt := s.now } }
  s.put LLK_STATUS_OWN_STOP s.link.staged

/-- R431: in an image without REEF the first output on is RUN, and every output and LSk open is SAFE. -/
def State.plainRun (s : State) : State :=
  if s.reefSf.isSome then s
  else if (s.dev = stSAFE_READY ∨ s.dev = stSAFE) ∧ (s.die.a.cmd &&& s.die.b.cmd) ≠ 0 then s.setDev stRUN
  else if s.dev = stRUN ∧ s.allOff = true then s.setDev stSAFE
  else s

/-- R433: every sleep condition but the length of SLEEP_SIG. -/
def State.maySleep (s : State) : Bool :=
  s.flag PWR_SLEEP_CFG_SLEEP_EN && (s.dev == stSAFE_READY || s.dev == stSAFE) && s.allOff && !s.die.a.furl.armed && !s.die.b.furl.armed
    && (!s.prog.hasLc || (s.flag LC_STATUS_STANDSTILL .a && s.flag LC_STATUS_STANDSTILL .b))
    && s.refitHeld == [] && s.get LGE_REFIT_PHASE .a != 1 && s.get LGE_REFIT_PHASE .a != 2 && s.get LGE_REFIT_PHASE .a != 3 && s.get LGE_REFIT_PHASE .a != 4
    && s.service == none && s.hly.exclusive == none && !s.locked && s.sigOf ((s.parts.head?).getD .a) (s.get PWR_SLEEP_CFG_SLEEP_SIG)

/-- SYS_GCOUNT counts the boundary, and the dies apply what was staged. -/
def State.boundaryApply (s : State) (t : Nat) (a b : DieObs) : State :=
  let s := { s with now := max s.now t }
  let s := s.put SYS_GCOUNT_COUNT ((s.get SYS_GCOUNT_COUNT + 1) % 2 ^ 32)
  let s := s.clockStep
  let s := (s.applyDie .a a).applyDie .b b
  (s.judgeDie .a a).judgeDie .b b

/-- Stops start and end in every participating channel. -/
def State.stopsBoundary (s : State) : State := s.parts.foldl State.stopBoundary s

/-- What both collectors have newly latched goes into this cycle's INPUT frames (R186). -/
def FcSt.move (x : FcSt) : FcSt := { x with sent := x.fresh, fresh := [] }

/-- A new cycle begins in a channel's graph. -/
def GraphSt.newCycle (g : GraphSt) : GraphSt := { g with delivered := false, agreed := false, noStage := false }

/-- The samples and lines of the boundary go out; in single mode the survivor's own samples are agreed at once (R222). -/
def State.boundarySend (s : State) (a b : DieObs) : State :=
  let s := (s.latchSamples .a a).latchSamples .b b
  let s := { s with graph := twoMap s.graph GraphSt.newCycle, fc := twoMap s.fc FcSt.move }
  let s := s.clearClass0.linkBoundary
  if s.parts.length = 2 then (s.sent .a .cycle).sent .b .cycle
  else if s.parts.length = 1 then (s.agreeInputs.agreeReadback).exchangeFaults
  else s

/-- The run of boundaries that meet every sleep condition (R433). -/
def State.countSleep (s : State) : State := { s with sleepRun := if s.maySleep then s.sleepRun + 1 else 0 }

/-- GUARD_CYCLE_BOUNDARY (R21): at time `t` the dies apply the staged commands, stops start and end, and the samples are latched and sent. -/
def execGuardCycleBoundary (t : Nat) (a b : DieObs) (s : State) : Host.Outcome State Fault Refusal :=
  .next (if s.cycles then
      (((((s.boundaryApply t a b).stopsBoundary.armLines).plainRun).boundarySend a b).countSleep).settle
    else s)

/-! ## The coordinate snapshot -/

/-- R127: the system signals, combined from the participating channels: what lets the line run needs both. -/
def State.systemSignals (s : State) : List (Nat × Int) :=
  let ps := s.parts
  let every (f : Chan → Bool) : Int := bInt (ps != [] && ps.all f)
  let any (f : Chan → Bool) : Int := bInt (ps.any f)
  let usable (c : Chan) : Bool := s.lcState c == 2 || s.lcState c == 3
  [(0x003, every usable), (0x004, every (fun c => s.lcState c == 1 || usable c)), (0x005, any (fun c => (twoAt s.ae c).class1)),
   (0x006, any (fun c => s.flag LC_STATUS_MASTER_DEV c)), (0x007, every (fun c => s.flag LC_STATUS_STANDSTILL c)), (0x008, every (fun c => s.get LC_STATUS_DIR c == 1)),
   (0x009, every (fun c => s.get LC_STATUS_DIR c == 2)), (0x00A, bInt (s.flag FC_SELFTEST_WARN)), (0x00B, bInt s.overdue),
   (0x00C, roundFree (ps.foldl (fun m c => max m (twoAt s.ae c).vel.natAbs) 0 : Nat) 256)]

/-- The frozen windows, of every participating channel. -/
def State.graphWindows (s : State) : BitVec 64 :=
  match s.parts with
  | [] => 0
  | ps => ps.foldl (fun w c => w &&& (twoAt s.ae c).winSnap) (BitVec.allOnes 64)

/-- The frozen inputs both channels hold alike. -/
def State.sharedInputs (s : State) : List (Nat × Int) :=
  s.systemSignals ++ (List.range 64).map (fun w => (0x080 + w, bInt (s.graphWindows.getLsbD w)))
    ++ (List.range 16).map (fun g => (0x0C0 + g, bInt (bit (s.get LLK_GRP_STATE_A) g))) ++ s.goaleSignals

/-- The host process image the graph sees: as last taken over, or HLY_PI_LOSS while the host is lost (R303). -/
def State.hostImage (s : State) : Nat :=
  if s.hostLost then s.get HLY_PI_LOSS_LO_LOSS + 2 ^ 32 * s.get HLY_PI_LOSS_HI_LOSS else s.get HLY_HOST_IMG_LO_IMG + 2 ^ 32 * s.get HLY_HOST_IMG_HI_IMG

/-- HLY_HOST_IMG shows the loss value from the first snapshot of a host loss on (R303). -/
def State.showHostImage (s : State) : State :=
  if s.hostLost then (s.put HLY_HOST_IMG_LO_IMG (s.get HLY_PI_LOSS_LO_LOSS)).put HLY_HOST_IMG_HI_IMG (s.get HLY_PI_LOSS_HI_LOSS) else s

/-- The process images as channel A (or a survivor) takes them (R127). -/
def State.imageInputs (s : State) (app : BitVec 64) : List (Nat × Int) :=
  (List.range 64).map (fun i => (0x380 + i, bInt (s.hostImage.testBit i))) ++ (List.range 64).map (fun i => (0x3C0 + i, bInt (app.getLsbD i)))

/-- Non-zero inputs as a table. -/
def inputTab (l : List (Nat × Int)) : Tab Int := l.foldl (fun t e => if e.2 = 0 then tabDel t e.1 else tabSet t e.1 e.2) []

/-- AIn of channel `c` at the snapshot, n from 0 to 7 (R323). -/
def State.aiInputs (s : State) (c : Chan) : State × List (Nat × Int) :=
  (List.range 8).foldl (fun (r : State × List (Nat × Int)) n =>
    let x := r.1.aiSnap c n
    (x.1, r.2 ++ [(0x0E0 + 2 * n + chanNum c, x.2)])) (s, [])

/-- The larger lag of the participating channels, by SDI instance (R172). -/
def State.sdiLags (s : State) : Tab Nat :=
  s.parts.foldl (fun t c => (twoAt s.ae c).sdi.foldl (fun t e => tabUpd 0 t e.1 (fun m => max m e.2.2.natAbs)) t) []

/-- The network inputs taken over and the windows frozen. -/
def State.freeze (s : State) (t : Nat) : State :=
  let s := ({ s with now := max s.now t }).deliverAll
  let s := s.formGroups s.reefSf
  let s := { s with ae := twoMap s.ae (fun a => { a with winSnap := a.win }) }
  s.updGraph .a (fun g => { g with lags := s.sdiLags })

/-- The frozen inputs of both channels, from the AIn of each. -/
def State.setInputs (s : State) (app : BitVec 64) (aiA aiB : List (Nat × Int)) : State :=
  let img := s.imageInputs app
  let s' := s.updGraph .a (fun g => { g with ins := inputTab (s.sharedInputs ++ img ++ aiA) })
  s'.updGraph .b (fun g => { g with ins := inputTab (s.sharedInputs ++ (if s.parts == [.b] then img else []) ++ aiB), lags := s.graph.a.lags })

/-- COORDINATE_SNAPSHOT (R21, R127): at time `t` each channel freezes the latest update, the windows and the network inputs; channel A takes the process images, `app` being APP's. The other channel's AIn and, in channel B, the images follow in the SNAPSHOT frames. -/
def execCoordinateSnapshot (t : Nat) (app : BitVec 64) (s : State) : Host.Outcome State Fault Refusal :=
  .next (if s.cycles then
      let ra := ((s.freeze t).showHostImage).aiInputs .a
      let rb := ra.1.aiInputs .b
      let s := rb.1.setInputs app ra.2 rb.2
      if s.parts.length = 2 then (s.sent .a .cycle).sent .b .cycle else s
    else s)

/-- STAY_SNAPSHOT_FRAME (R127, R216): channel `c` receives the other's AIn values, and channel B the process images; `testOk` is the outcome of the other collector's test (R189). -/
def execStaySnapshotFrame (c : Chan) (h : StayHead) (testOk : Bool) (s : State) : Host.Outcome State Fault Refusal :=
  .next (s.receive c .cycle h true (fun s =>
    let other := (twoAt s.graph (otherChan c)).ins
    let mine (k : Nat) : Bool := (decide (0x0E0 ≤ k) && decide (k < 0x0F0) && k % 2 == chanNum (otherChan c)) || (c == .b && decide (0x380 ≤ k) && decide (k < 0x400))
    let s := s.updGraph c (fun g => { g with ins := (other.filter (fun e => mine e.1)).foldl (fun t e => tabSet t e.1 e.2) g.ins })
    if testOk then s else s.raise ⟨63, 3, .shared, .both, .none, 0⟩))

/-! ## Evaluation -/

/-- The safety functions an EDM or SBC instance's E30 is charged to (R92, R170): its own, and those whose OUT, REEF or SBC switches the command it watches. -/
def State.edmFns (s : State) (i : Inst) : List Nat :=
  let cmd := (i.ins.head?).join
  let sw := if i.code = 0x26 then
      s.prog.insts.filterMap (fun p =>
        match cmd with
        | none => none
        | some g => if (p.2.code = 0x30 ∧ (p.2.ins.head?).join = some g) ∨ ((p.2.code = 0x40 ∨ p.2.code = 0x41) ∧ p.2.outs.contains g = true) then some p.2.sf else none)
    else []
  (i.sf :: sw).eraseDups

/-- The evaluations an EDM's (SBC's) feedback has been wrong since the command. -/
def edmRun (i : Inst) (x : InstSt) : Nat := if i.code = 0x26 then x.k else x.k2

/-- E30 is free of its condition where the feedback is as required again. -/
def State.clearEdm (s : State) (c : Chan) : State :=
  s.prog.insts.foldl (fun (s : State) p =>
    if (p.2.code = 0x26 ∨ p.2.code = 0x41) ∧ edmRun p.2 (tabGet {} (twoAt s.graph c).insts p.1) = 0 then
      (s.edmFns p.2).foldl (fun (s : State) n => s.clearCond 30 (.sf n)) s
    else s) s

/-- R394 and R436 at the end of an evaluation: the edges of CUT_SIG and SHDN_SIG. -/
def State.edges (s : State) (c : Chan) : State :=
  let cut := s.flag MZW_LOT_CFG_EN && s.sigOf c (s.get MZW_LOT_CFG_CUT_SIG)
  let shdn := s.sigOf c (s.get PWR_SLEEP_CFG_SHDN_SIG)
  let cutUp := cut && !s.cutPrev && c == .a
  let shdnUp := shdn && !s.shdnPrev && s.flag PWR_SLEEP_CFG_SHDN_EN
  let s := { s with cutPrev := cut, shdnPrev := shdn }
  let s := if cutUp then s.lotCut (tabGet 0 (twoAt s.graph c).sigs (s.get MZW_LOT_CFG_ID_SIG)) else s
  if shdnUp then s.shutdownRequest else s

/-- SYS_EVAL: the longest evaluation of a channel, in µs. -/
def State.evalMax (s : State) (c : Chan) (us : Nat) : State :=
  let f := match c with
    | .a => SYS_EVAL_EVAL_MAX_A
    | .b => SYS_EVAL_EVAL_MAX_B
  s.put f (max (s.get f) (min us 1023))

/-- The latched faults of the evaluating channels after charging, before any press. -/
def State.chargedFaults (s : State) (run : List Chan) : List SfFault := run.flatMap (fun c => (twoAt (s.chargeReceived c).graph c).sfFaults)

/-- The evaluation of the channels in `run`, and the release of what their presses cleared. -/
def State.evalAll (s : State) (run : List Chan) (us : Chan → Nat) : State :=
  let t := run.foldl (fun (s : State) c => (s.evalChannel c).evalMax c (us c)) s
  (s.chargedFaults run).foldl (fun (s : State) f => if run.any (fun c => (twoAt s.graph c).sfFaults.contains f) then s else s.dropCleared f) t

/-- GRAPH_EVALUATION (R130): both channels evaluate every instance once; a survivor REEF and SBC alone. `usA` and `usB` are the lengths of the two evaluations in µs. -/
def execGraphEvaluation (usA usB : Nat) (s : State) : Host.Outcome State Fault Refusal :=
  .next (if s.cycles && s.graphRuns then
      match s.parts.filter s.evaluates with
      | [] => s
      | c :: r =>
        let t := s.evalAll (c :: r) (fun c => match c with
          | .a => usA
          | .b => usB)
        (((t.raiseBlocks (twoAt s.graph c).present (twoAt t.graph c).present).clearEdm c).edges c).settle
    else s)

/-- EDM_TIMEOUT (R96, R140, R170): the feedback of instance `n` has not been as required within EDM_TIME (FB_TIME for SBC) of the command: E30. -/
def execEdmTimeout (n : Fin 512) (s : State) : Host.Outcome State Fault Refusal :=
  .next (match s.prog.insts.find? (fun p => p.1 == n.val), s.parts with
    | some (_, i), c :: _ =>
      let ms := if i.code = 0x26 then (parAt i.params 0).toNat else s.get DSF_SBC_TIME_FB_TIME c
      if (i.code = 0x26 ∨ i.code = 0x41) ∧ longerThan (edmRun i (tabGet {} (twoAt s.graph c).insts n.val)) (s.cyclesOfMs ms) = true then
        (s.edmFns i).foldl (fun (s : State) f => s.raise (class1Both 30 (.sf f) n.val)) s
      else s
    | _, _ => s)

/-- GRAPH_INTEGRITY_CHECK (R144): every 100 ms channel `c` recomputes the CRC of its LGE section; a mismatch is E41. -/
def execGraphIntegrityCheck (c : Chan) (same : Bool) (s : State) : Host.Outcome State Fault Refusal :=
  .next (if same then s.clearCond 41 .none else s.raise (class2Own 41 c (s.get LGE_IMG_VERSION_VERSION c)))

/-! ## Agreement and staging -/

/-- RESULT_AGREEMENT (R133, R22): each channel that has delivered its vector sends it in a RESULT frame; a survivor has nothing to compare (R222). -/
def execResultAgreement (s : State) : Host.Outcome State Fault Refusal :=
  .next (if s.cycles = false then s
    else match s.parts with
      | [c] => s.updGraph c (fun g => { g with agreed := g.delivered })
      | [_, _] =>
        let one (s : State) (c : Chan) : State := if (twoAt s.graph c).delivered && s.evaluates c then s.sent c .cycle else s
        one (one s .a) .b
      | _ => s)

/-- R133: what a RESULT frame carries in full: switch and LSk commands and transmit words. -/
def sameResult (x y : GraphSt) : Bool := x.outCmd == y.outCmd && x.lsCmd == y.lsCmd && x.tx == y.tx && x.lltx == y.lltx

/-- STAY_RESULT_FRAME (R22, R133): channel `c` compares the other's result vector with its own; `crcSame` is the comparison of the CRCs over the whole vectors. A difference is the disagreement of R22, E07. -/
def execStayResultFrame (c : Chan) (h : StayHead) (crcSame : Bool) (s : State) : Host.Outcome State Fault Refusal :=
  .next (s.receive c .cycle h true (fun s =>
    if crcSame && sameResult (twoAt s.graph c) (twoAt s.graph (otherChan c)) then s.updGraph c (fun g => { g with agreed := true })
    else (s.satInc LGE_MISMATCH_COUNT c).latchUnattributed 7 (regWord s.regs 0 (blockBase .lge c + 0x90)).toNat))

/-- GUARD_CYCLE_OVERRUN (R23): channel `c` has not delivered its vector by T_G − 25 µs. -/
def execGuardCycleOverrun (c : Chan) (s : State) : Host.Outcome State Fault Refusal :=
  .next (if s.cycles ∧ s.evaluates c = true ∧ (twoAt s.graph c).delivered = false then s.raiseOnce (class2Own 8 c (s.get SYS_EVAL_EVAL_MAX_A))
    else s)

/-- The command staged for die `c`: outputs held off by a fault, while the dies' readbacks disagree, or until their midpoint tests have passed (R118 to R121) are left out; a survivor drives only the STO and brake outputs of a stop it carries (R176). -/
def State.stagedFor (s : State) (c : Chan) : BitVec 16 × BitVec 4 :=
  let g := twoAt s.graph c
  let st := twoAt s.stop c
  let may (n : Nat) : Bool := s.outMode n != 0 && !s.outFaulty n && !(s.out n).disagree && ((twoAt s.die c).cmd.getLsbD n || !s.outOwes n)
  let mask := BitVec.ofNat 16 ((List.range 16).foldl (fun (m : Nat) n => if may n then m + 2 ^ n else m) 0)
  let alone := s.stayMode c == 2
  let own : BitVec 16 := if alone then (if st.running || st.survivorNext then s.stoMap c ||| s.brakeMap c else 0) else BitVec.allOnes 16
  let o := g.outCmd &&& mask &&& own
  (o, s.formLs o)

/-- R238: what a session sends: the agreed words, or zeros after a Class 2. -/
def State.txOf (s : State) (c : Chan) (n : Nat) : TxWords :=
  let bw := s.get GOA_SES_n_CFG_TX_BW .a n
  let vw := s.get GOA_SES_n_CFG_TX_VW .a n
  let w := if s.locked then txWords bw vw [] true else tabGet (txWords bw vw [] true) (twoAt s.graph c).tx n
  { w with member := s.get DSF_GROUPS_MEMBER .a, gstop := s.publication }

/-- STAGE (R21, R22, R237): each channel whose vector agreed stages its commands, and the Goale frames go to the NPEs. -/
def execStage (s : State) : Host.Outcome State Fault Refusal :=
  .next (if s.cycles = false then s
    else
      let one (s : State) (c : Chan) : State :=
        let g := twoAt s.graph c
        if s.evaluates c && g.agreed && !g.noStage && s.graphRuns then s.updDie c (fun d => { d with staged := some (s.stagedFor c) })
        else if s.evaluates c && s.stayMode c == 2 then s.updDie c (fun d => { d with staged := some (s.stagedFor c) })
        else s
      let s := s.parts.foldl one s
      match s.parts with
      | [] => s
      | c :: _ => if (twoAt s.graph c).noStage then s else (s.ses.map (·.1)).foldl (fun (s : State) n => s.sendSes n (s.txOf c n)) s)

end Sys2Proof.Machine
end

