-- ==== Sys2Proof/Machine/Faults.lean ====
section
/-! DEFINITION. The commands of the fault collectors and of memory protection (07_faults_and_reactions.md, R15 to R17 of 01_architecture.md). -/

namespace Sys2Proof.Machine

open Sys2Proof

/-- OTHER_CLASS2_LINE (R194, R220): channel `c` sees the other collector's Class 2 line assert. -/
def execOtherClass2Line (c : Chan) (s : State) : Host.Outcome State Fault Refusal :=
  .next (if (twoAt s.fc (otherChan c)).cl2Line then (s.answerClass2 c).settle else s)

/-- FC_TEST_INJECTION (R189): collector `c` injects its test event on the next input; `passed` is the outcome the other collector finds through Stay. -/
def execFcTestInjection (c : Chan) (passed : Bool) (s : State) : Host.Outcome State Fault Refusal :=
  let line := (twoAt s.fc c).testLine
  let s := s.updFc c (fun x => { x with testLine := (line + 1) % 64 })
  .next (if s.dev = stSLEEP ∨ passed then s else s.raise ⟨63, 3, .shared, .both, .none, line⟩)

/-- FLT_PIN_MISMATCH (R189): collector `c` reads `level` back from its own pin for more than 10 µs. -/
def execFltPinMismatch (c : Chan) (level : Bool) (s : State) : Host.Outcome State Fault Refusal :=
  let s := s.putFlag FC_FLT_CFG_PIN_READ level c
  .next (if level = s.flag FC_FLT_CFG_PIN_CMD c then s.clearCond 63 .none
    else s.raise (class2Own 63 c (s.get FC_FLT_CFG_PIN_READ c)))

/-- The masked lines of a collector that window `n` held back and that are still asserted when it ends (R191, exception 2). -/
def State.stillMasked (s : State) (c : Chan) : List FaultEv :=
  (twoAt s.fc c).masked.filter (fun e => s.condOn e.line e.elem && !s.masks c e.line)

/-- CONSEQUENTIAL_WINDOW_END (R190, R191): window `n` ends in both collectors; what is still asserted latches and is handled normally. -/
def execConsequentialWindowEnd (n : Fin 16) (s : State) : Host.Outcome State Fault Refusal :=
  let close (x : FcSt) : FcSt := { x with windows := x.windows.filter (· != n.val) }
  let s := (s.updFc .a close).updFc .b close
  let late := s.stillMasked .a ++ (s.stillMasked .b).filter (fun e => !(s.stillMasked .a).contains e)
  let keep (c : Chan) (x : FcSt) : FcSt := { x with masked := x.masked.filter (fun e => s.masks c e.line) }
  .next (late.foldl (fun t e => t.raise e) ((s.updFc .a (keep .a)).updFc .b (keep .b)))

/-- SELFTEST_WARN (R200): the age reaches 8,036 h. -/
def execSelftestWarn (s : State) : Host.Outcome State Fault Refusal :=
  .next (((s.setAge (max (s.get FC_SELFTEST_AGE_H) 8036)).putBoth FC_SELFTEST_WARN 1).pushEvent 2 [s.dev, s.dev, s.get SYS_STATE_SC_CLK_STEP, 1])

/-- SELFTEST_OVERDUE (R200): the age reaches 9,497 h; the running line is not stopped. -/
def execSelftestOverdue (s : State) : Host.Outcome State Fault Refusal :=
  .next ((((s.setAge (max (s.get FC_SELFTEST_AGE_H) 9497)).putBoth FC_SELFTEST_WARN 1).putBoth FC_SELFTEST_OVERDUE 1).pushEvent 2 [s.dev, s.dev, s.get SYS_STATE_SC_CLK_STEP, 3])

/-- R15: a single-bit error is corrected and counted for Crow's Nest, as a Class 0 event without a line. -/
def State.eccSingle (s : State) : State := (s.updSec (fun x => { x with sbeAt := x.sbeAt ++ [s.now] })).showCnm

/-- R16: the event an uncorrectable error fires, by where the word lies. -/
def eccEvent : MemLoc → FaultEv
  | .tcm c => class2Own 12 c 0
  | .sharedSession n => class1Both 13 (.session n) n
  | .sharedFunction f => class1Both 13 (.sf f) f
  | .sharedFree => class0 13 0
  | .app => class0 14 0
  | .sec => ⟨15, 3, .shared, .both, .none, 0⟩

/-- R15 and R16 on one word. -/
def State.eccFound (s : State) (m : MemLoc) (e : Ecc) : State :=
  match e with
  | .good => s
  | .single => s.eccSingle
  | .double => s.raiseOnce (eccEvent m)

/-- The scrubber's pointer for a memory, and the memory's words (R17): each tightly coupled memory, the shared SRAM and the APP SRAM. SEC SRAM is not scrubbed. -/
def scrubArea : MemLoc → Option (Nat × Nat)
  | .tcm .a => some (0, 131072)
  | .tcm .b => some (1, 131072)
  | .sharedSession _ | .sharedFunction _ | .sharedFree => some (2, 524288)
  | .app => some (3, 65536)
  | .sec => none

/-- PATROL_SCRUB (R17): the scrubber reads the next word of a memory and applies R15 and R16 to what it finds. -/
def execPatrolScrub (m : MemLoc) (e : Ecc) (s : State) : Host.Outcome State Fault Refusal :=
  .next (match scrubArea m with
    | none => s
    | some (k, n) => ({ s with scrub := tabUpd 0 s.scrub k (fun p => (p + 1) % n) }).eccFound m e)

end Sys2Proof.Machine
end

