-- ==== Sys2Proof/Machine/Hly.lean ====
section
/-! DEFINITION. Halyard (11_host_interface.md): the set-up window (R278 to R281), the doorbell page (R285 to R287), events and images for the host (R298 to R301), interrupts (R302), host loss (R303, R304), and acknowledging fault records (R188). -/

namespace Sys2Proof.Machine

open Sys2Proof

/-! ## Fault records read (R188) -/

/-- R188: the oldest `n` unread records of collector `c` count as read. -/
def State.recAck (s : State) (c : Chan) (n : Nat) : State := s.put FC_REC_PTR_UNREAD (s.get FC_REC_PTR_UNREAD c - n) c

/-- FC_REC_ACK (R188): initiator `i` writes `n` to FC_REC_ACK of collector `c`. -/
def execFcRecAck (i : Initiator) (c : Chan) (n : Fin 17) (s : State) : Host.Outcome State Fault Refusal :=
  let a := blockBase .fc c + 0x54
  .next (if s.fwAllows i .write a (a + 3) = false then s.deny i a else { (s.recAck c n.val) with bus := .done })

/-! ## The set-up window -/

/-- The rings of a type, as configured. -/
def State.ringCount (s : State) (ty : Nat) : Nat := ((List.range 8).filter (fun n => s.get HLY_RING_n_CFG_LOG2SIZE .a n != 0 && s.ringType n == ty)).length

/-- A configured ring is sound (code 0x04 of R280). -/
def State.ringSound (s : State) (n : Nat) : Bool :=
  s.get HLY_RING_n_CFG_LOG2SIZE .a n == 0 ||
    (s.ringPresent n && s.ringType n != 3 && (s.get HLY_RING_n_BASE_LO_ADDR .a n != 0 || s.get HLY_RING_n_BASE_HI_ADDR .a n != 0))

/-- R280: the code of the first failing check, 0 when every one passes. -/
def State.setupCheck (s : State) (msix testRead : Bool) : Nat :=
  let poll := s.get HLY_POLL_POLL_US
  let div := s.get HLY_IMG_CFG_IMG_DIV
  if s.get HLY_DB_BASE_LO_ADDR = 0 ∧ s.get HLY_DB_BASE_HI_ADDR = 0 then 1
  else if s.get HLY_RING_n_CFG_LOG2SIZE .a 0 = 0 ∨ s.ringType 0 ≠ tyCOMMAND then 2
  else if 1 < s.ringCount tyEVENT ∨ 1 < s.ringCount tyIMAGE then 3
  else if (List.range 8).all s.ringSound = false then 4
  else if poll < 2 ∨ 200 < poll then 5
  else if 10000 < s.get HLY_POLL_HOST_WD then 6
  else if s.ringCount tyIMAGE = 1 ∧ (div = 0 ∨ 1000 < div) then 7
  else if msix = false then 8
  else if testRead = false then 9
  else 0

/-- All present rings become ACTIVE with both indices 0. -/
def State.startRings (s : State) : State :=
  let s := (List.range 8).foldl (fun (s : State) n =>
    ((s.put HLY_RING_n_STATUS_STATE (s.ringPresent n).toNat .a n).put HLY_RING_n_STATUS_CAUSE 0 .a n).put HLY_RING_n_IDX_DEV_IDX 0 .a n) s
  s.updHly (fun h => { h with rings := h.rings.map (fun e => (e.1, { e.2 with host := 0, fetched := 0, logged := [] })) })

/-- The unread records of collector `c`, oldest first: their words and class. -/
def State.unreadRecords (s : State) (c : Chan) : List (List Nat × Chan × Nat) :=
  let u := s.get FC_REC_PTR_UNREAD c
  let first := (s.get FC_REC_PTR_NEXT c + 16 - u) % 16
  (List.range u).map (fun k =>
    let n := (first + k) % 16
    let a := fldAddr FC_REC_n_W0_LINE (blockBase .fc c) n
    ((List.range 4).map (fun j => (regWord s.regs 0 (a + 4 * j)).toNat), c, s.get FC_REC_n_W0_CLASS c n))

/-- R304: after a new set-up the unread fault records come first, then every other queued event. -/
def State.requeue (s : State) : State :=
  let rs := s.unreadRecords .a ++ s.unreadRecords .b
  let st := s.stampTime
  let new := rs.zipIdx.map (fun (e : (List Nat × Chan × Nat) × Nat) =>
    ({ typ := 1, words := e.1.1, fault := some (e.1.2.1, e.1.2.2), gcount := (e.1.1[2]?).getD 0, time := st.2, timeSrc := st.1, seq := (s.ev.seq + e.2) % 65536 } : HlyEv))
  let old := s.ev.queue.filter (fun e => match e.fault with
    | none => true
    | some (c, _) => !rs.any (fun r => r.1 == e.words && r.2.1 == c))
  { s with ev := { s.ev with queue := new ++ old, seq := s.ev.seq + new.length } }

/-- R304: host loss ends. -/
def State.endLoss (s : State) : State :=
  if s.hly.loss = .none then s
  else (s.updHly (fun h => { h with loss := .none, hbAt := s.now })).hlyEvent 2 0 0

/-- R280: the window closes: BAR0 is read-only but for HLY_WINDOW_STATUS, and Halyard runs. -/
def State.closeWindow (s : State) : State :=
  let s := ((s.putFlag HLY_SETUP_DONE_DONE true).putFlag HLY_WINDOW_STATUS_OPEN false).putFlag HLY_STATUS_NET_SET true
  let s := (s.hostWindow false).startRings
  let s := if s.hly.loss = .none then s else s.endLoss.requeue
  let s := (s.put HLY_STATUS_STATE hlyRUN).put HLY_STATUS_SETUP_ERR 0
  s.updHly (fun h => { h with hbAt := s.now, fails := 0, imgWait := s.get SYS_GCOUNT_COUNT, kick := false })

/-- HLY_SETUP_DONE (R280): at time `t` the host writes 1 to DONE. `msix`: MSI-X is enabled in configuration space; `testRead`: the test read of the doorbell page succeeds. -/
def execHlySetupDone (msix testRead : Bool) (t : Nat) (s : State) : Host.Outcome State Fault Refusal :=
  let s := { s with now := max s.now t }
  .next (if s.flag HLY_SETUP_DONE_DONE then s.hostDenied 0x1004
    else if s.flag HLY_WINDOW_STATUS_OPEN = false then s
    else
      let e := s.setupCheck msix testRead
      if e = 0 then s.closeWindow else s.put HLY_STATUS_SETUP_ERR e)

/-- BAR0_WRITE_DENIED (R281): a host write to offset `off` of BAR0, other than to HLY_WINDOW_STATUS, after the window has closed. -/
def execBar0WriteDenied (off : BitVec 16) (s : State) : Host.Outcome State Fault Refusal :=
  .next (if s.flag HLY_SETUP_DONE_DONE && off.toNat != 0x1008 then s.hostDenied off.toNat else s)

/-! ## Host loss -/

/-- R303: the codes of the causes as the Halyard event and E54 carry them: heartbeat, doorbell, bus master, link, reset, power. -/
def lossHEARTBEAT : Nat := 1
def lossDOORBELL : Nat := 2
def lossMASTER : Nat := 3
def lossLINK : Nat := 4
def lossRESET : Nat := 5
def lossPOWER : Nat := 6

/-- R303: host loss begins: E54 and an event, LOST, the loss value, no authority, and no completion for what runs on. -/
def State.beginLoss (s : State) (cause : Nat) (k : HostLoss) : State :=
  let s := (s.raiseOnce (class0 54 cause)).hlyEvent 1 cause 0
  let s := ((s.satInc HLY_COUNT_HOST_LOSS).put HLY_STATUS_STATE hlyLOST).endAuthority
  { s with hostLost := true, hly := { s.hly with
      loss := k
      kick := false
      rings := s.hly.rings.map (fun e => (e.1, { e.2 with fetched := 0, nonce := none }))
      exclusive := s.hly.exclusive.map (fun x => { x with ring := none }) } }

/-- R304: every HLY field of class W but NET_SET returns to its reset value, and the window opens again. -/
def State.reopen (s : State) : State :=
  let b := blockBase .hly .a
  let net := s.get HLY_STATUS_NET_SET
  let s := s.resetFields (fun a => decide (b ≤ a) && decide (a < b + 0x10000)) (fun f => f.cls == .w)
  let s := (s.put HLY_STATUS_NET_SET net).putFlag HLY_WINDOW_STATUS_OPEN true
  (s.hostWindow true).updHly (fun h => { h with rings := [], vecs := [], msix := [], kick := false })

/-- A loss from which the host comes back by a poll (R304). -/
def State.losePoll (s : State) (cause : Nat) : State := if s.running = true ∧ s.hlyState = hlyRUN then s.beginLoss cause .poll else s

/-- A loss from which the host comes back by a new set-up. Where the window has never closed there is no host to lose, and the fields return to reset. -/
def State.loseSetup (s : State) (cause : Nat) : State :=
  if s.running = false then s
  else if s.hlyState = hlySETUP then (if s.flag HLY_WINDOW_STATUS_OPEN then s.reopen else s)
  else
    let s := if s.hlyState = hlyRUN then s.beginLoss cause .setup else s.updHly (fun h => { h with loss := .setup })
    s.reopen

/-- HEARTBEAT_TIMEOUT (R303): at time `t`. -/
def execHeartbeatTimeout (t : Nat) (s : State) : Host.Outcome State Fault Refusal :=
  let s := { s with now := max s.now t }
  let wd := s.get HLY_POLL_HOST_WD
  .next (if wd ≠ 0 ∧ s.hly.hbAt + wd * 1000000 ≤ s.now then s.losePoll lossHEARTBEAT else s)

/-- DOORBELL_READ_FAILURES (R303): the third doorbell read in a row has failed. -/
def execDoorbellReadFailures (s : State) : Host.Outcome State Fault Refusal :=
  .next (if 3 ≤ s.hly.fails then s.losePoll lossDOORBELL else s)

/-- BUS_MASTER_DISABLE (R303). -/
def execBusMasterDisable (s : State) : Host.Outcome State Fault Refusal := .next (s.losePoll lossMASTER)

/-- PCIE_LINK_LOSS (R303): the link has been down for more than 1 ms, or PERST_N is asserted. -/
def execPcieLinkLoss (s : State) : Host.Outcome State Fault Refusal := .next (s.loseSetup lossLINK)

/-- PCIE_FLR (R303, R304): a function-level or hot reset. -/
def execPcieFlr (s : State) : Host.Outcome State Fault Refusal := .next (s.loseSetup lossRESET)

/-- PCIE_D3HOT (R303, R304). -/
def execPcieD3hot (s : State) : Host.Outcome State Fault Refusal := .next (s.loseSetup lossPOWER)

/-! ## The doorbell page -/

/-- DOORBELL_KICK (R286): the host writes bit `n` of HLY_WINDOW_STATUS.KICK; the bit of an absent ring is ignored (R282). -/
def execDoorbellKick (n : Fin 8) (s : State) : Host.Outcome State Fault Refusal :=
  .next (if s.ringPresent n.val ∧ s.hlyState ≠ hlySETUP then s.updHly (fun h => { h with kick := true }) else s)

/-- R300: records whose last entry the host's CONS has passed count as read. -/
def State.ackLogged (s : State) (n : Nat) : State :=
  let r := s.ring n
  let past (e : Nat × Chan) : Bool := decide (idxSub (s.devIdx n) r.host ≤ idxSub (s.devIdx n) e.1)
  let s := (r.logged.filter past).foldl (fun (s : State) (e : Nat × Chan) => s.recAck e.2 1) s
  s.updRing n (fun x => { x with logged := x.logged.filter (fun e => !past e) })

/-- R283, R289, R305: what a poll finds for ring `n`: its host index, up to four new descriptors, or an error. -/
def State.pollRing (s : State) (o : PollObs) (n : Nat) : State :=
  if s.ringPresent n = false ∨ s.ringActive n = false then s
  else
    let h := ((o.host[n]?).getD 0) % 2 ^ 32
    if s.ringType n = tyCOMMAND then
      let ahead := idxSub h (s.devIdx n)
      if s.ringSize n < ahead then s.ringError n 1
      else
        let new := min 4 (ahead - (s.ring n).fetched)
        if new ≠ 0 ∧ o.fetchBad.getLsbD n = true then (s.dmaErr).ringError n 2
        else s.updRing n (fun r => { r with host := h, fetched := r.fetched + new })
    else if idxSub (s.devIdx n) (s.ring n).host < idxSub h (s.ring n).host then s.ringError n 1
    else (s.updRing n (fun r => { r with host := h })).ackLogged n

/-- R287: the host image is accepted when the two sequence words agree. -/
def State.pollImage (s : State) (o : PollObs) : State :=
  if o.seqA = o.seqB then
    { ((s.put HLY_HOST_IMG_LO_IMG (o.img.toNat % 2 ^ 32)).put HLY_HOST_IMG_HI_IMG (o.img.toNat / 2 ^ 32)) with
      hostLost := false, hly := { s.hly with imgSeq := o.seqA % 2 ^ 32 } }
  else s

/-- DEV_ALIVE, the heartbeat and the end of a loss (R285, R303, R304). -/
def State.pollBeat (s : State) (o : PollObs) : State :=
  let changed := o.heartbeat != s.hly.hb
  let s := s.updHly (fun h => { h with fails := 0, alive := (h.alive + 1) % 2 ^ 32, kick := false, hb := o.heartbeat, hbAt := if changed then s.now else h.hbAt })
  if s.hlyState = hlyLOST ∧ (changed = true ∨ s.get HLY_POLL_HOST_WD = 0) then (s.put HLY_STATUS_STATE hlyRUN).endLoss else s

/-- DOORBELL_POLL (R286): at time `t` the device reads the doorbell page and acts on it. -/
def execDoorbellPoll (o : PollObs) (t : Nat) (s : State) : Host.Outcome State Fault Refusal :=
  let s := { s with now := max s.now t }
  .next (if s.running = false ∨ s.hlyState = hlySETUP then s
    else if o.ok = false then (s.dmaErr).updHly (fun h => { h with fails := h.fails + 1, kick := false })
    else
      let s := s.pollBeat o
      if s.hlyState = hlyLOST then s else (List.range 8).foldl (fun s n => s.pollRing o n) (s.pollImage o))

/-! ## Entries for the host -/

/-- Entries an event takes: four payload words each (R299). -/
def HlyEv.entries (e : HlyEv) : Nat := max 1 ((e.words.length + 3) / 4)

/-- Descriptor `k` of an event, eight words (R298, R299). -/
def State.evWords (s : State) (n i : Nat) (e : HlyEv) (k : Nat) : List Nat :=
  let flags := s.ringPhase n ((i + k) % 2 ^ 32) + (if k + 1 < e.entries then 2 else 0) + e.timeSrc % 4 * 4
  [e.typ + flags * 2 ^ 8 + e.seq % 65536 * 2 ^ 16, e.gcount, e.time % 2 ^ 32, e.time / 2 ^ 32 % 2 ^ 32] ++ (List.range 4).map (fun j => (e.words[4 * k + j]?).getD 0)

/-- One event written at PROD. -/
def State.writeEvent (s : State) (n : Nat) (e : HlyEv) : State :=
  let i := s.devIdx n
  let z := (i + e.entries) % 2 ^ 32
  let ws := (List.range e.entries).flatMap (fun k => s.evWords n i e k)
  let s := (s.put HLY_RING_n_IDX_DEV_IDX z .a n).updHly (fun h => { h with evLast := ws })
  let s := match e.fault with
    | some (c, _) => s.updRing n (fun r => { r with logged := r.logged ++ [(z, c)] })
    | none => s
  { s with ev := { s.ev with queue := s.ev.queue.drop 1 } }.raiseRing n

/-- EVENT_RING_WRITE (R300): at time `t` the oldest queued event is written, once the ring has room; `ok`: the write succeeds. -/
def execEventRingWrite (ok : Bool) (t : Nat) (s : State) : Host.Outcome State Fault Refusal :=
  let s := { s with now := max s.now t }
  .next (if s.running = false ∨ s.hlyState ≠ hlyRUN then s
    else match s.ringOf tyEVENT, s.ev.queue with
      | some n, e :: _ =>
        if s.ringRoom n < e.entries then s
        else if ok then s.writeEvent n e
        else (s.dmaErr).ringError n 3
      | _, _ => s)

/-- The image descriptor of R301, eight words. -/
def State.imageWords (s : State) (n : Nat) : List Nat :=
  let st := s.stampTime
  let ok := (List.range 16).foldl (fun (m : Nat) k => m + (s.soOk k).toNat * 2 ^ k) 0
  let spd := (((s.systemSignals.find? (fun (e : Nat × Int) => e.1 == 0x00C)).map (fun (e : Nat × Int) => e.2)).getD 0).toNat
  [s.ringPhase n (s.devIdx n) + st.1 % 4 * 4 + s.dev * 2 ^ 8 + s.hly.imgSeq % 65536 * 2 ^ 16, s.get SYS_GCOUNT_COUNT, st.2 % 2 ^ 32, st.2 / 2 ^ 32 % 2 ^ 32,
   s.get SIN_PAIR_STATE_RELEASED + s.lcState .a * 2 ^ 24, (s.die.a.cmd &&& s.die.b.cmd).toNat + ok * 2 ^ 16,
   s.get LLK_GRP_STATE_A % 65536 + s.get LLK_STATUS_OWN_STOP * 2 ^ 16, spd]

/-- IMAGE_ENTRY_WRITE (R301): at time `t`, every IMG_DIV guard cycles, an image is written, or skipped and counted where the ring is full; `ok`: the write succeeds. -/
def execImageEntryWrite (ok : Bool) (t : Nat) (s : State) : Host.Outcome State Fault Refusal :=
  let s := { s with now := max s.now t }
  .next (if s.cycles = false ∨ s.hlyState ≠ hlyRUN ∨ idxSub (s.get SYS_GCOUNT_COUNT) s.hly.imgWait < s.get HLY_IMG_CFG_IMG_DIV then s
    else match s.ringOf tyIMAGE with
      | none => s
      | some n =>
        let s := s.updHly (fun h => { h with imgWait := s.get SYS_GCOUNT_COUNT })
        if s.ringRoom n = 0 then s.satInc HLY_RING_n_STATUS_DROPPED .a n
        else if ok then
          let w := s.imageWords n
          let s := (s.put HLY_RING_n_IDX_DEV_IDX ((s.devIdx n + 1) % 2 ^ 32) .a n).updHly (fun h => { h with imgLast := w })
          s.raiseRing n
        else (s.dmaErr).ringError n 3)

/-- IRQ_DELAY_EXPIRY (R302): at time `t` the delay of vector `v` has passed. -/
def execIrqDelayExpiry (v : Fin 8) (t : Nat) (s : State) : Host.Outcome State Fault Refusal :=
  let s := { s with now := max s.now t }
  .next (match (s.vec v.val).due with
    | some d => if d ≤ s.now then (s.updVec v.val (fun x => { x with due := none })).sendVector v.val else s
    | none => s)

/-- HALYARD_FAULT (R306): E54, and a block reset under the consequential map (R190); class W fields survive. A command that has not begun is fetched again. -/
def execHalyardFault (s : State) : Host.Outcome State Fault Refusal :=
  .next (if s.running then (((s.raiseOnce (class0 54 0)).openWindow 4).blockReset (blockBase .hly .a)).showAuth else s)

end Sys2Proof.Machine
end

