-- ==== Sys2Proof/Machine/HlyCmd.lean ====
section
/-! DEFINITION. The command set of the host (R288 to R297 of 11_host_interface.md) apart from REFIT, and authority (R291, R365 to R368 of 14_security_lifecycle_otp.md). -/

namespace Sys2Proof.Machine

open Sys2Proof

/-! ## Running a command -/

/-- What a command's buffer is (R290): none, written with at most `n` bytes, or read with at most `n` bytes. -/
inductive Buf where
  | none
  | out (n : Nat)
  | inp (n : Nat)
  deriving DecidableEq, Repr

/-- FLAGS.IRQ and FLAGS.CLEAR. -/
def Desc.irq (d : Desc) : Bool := bit d.flags 0
def Desc.clear (d : Desc) : Bool := bit d.flags 1

/-- R289: the head of ring `r` may run: fetched, and no command of the ring is still running. In SLEEP a posted command waits (R435). -/
def State.mayRun (s : State) (r : Nat) : Bool :=
  s.running && s.dev != stSLEEP && s.hlyState == hlyRUN && s.ringPresent r && s.ringActive r && s.ringType r == tyCOMMAND && decide (0 < (s.ring r).fetched)
    && !(s.hly.exclusive.any (fun x => x.ring == some r))

/-- R290: LENGTH and ADDR are acceptable. -/
def Buf.fits (b : Buf) (d : Desc) : Bool :=
  match b with
  | .none => d.length == 0
  | .out n | .inp n => d.length == 0 || (d.length % 4 == 0 && d.addr % 4 == 0 && decide (d.length ≤ n))

/-- What a command ends in: status, RESULT and data. -/
structure Ends where
  status : Nat
  result : Nat
  data : List Nat := []
  deriving DecidableEq, Repr

/-- A command completes with what it ends in. -/
def State.finish (s : State) (r : Nat) (d : Desc) (e : Ends) : State :=
  s.cmdDone { ring := r, tag := d.tag, status := e.status, result := e.result, data := e.data } d.irq d.doneOk

/-- R293, in the order of its codes: FLAGS, buffer rules, then what the command itself finds. A command that takes its input from a buffer of LENGTH 0 does nothing and completes OK; a buffer that cannot be written is DMA_ERROR. -/
def State.command (s : State) (r : Nat) (d : Desc) (b : Buf) (f : State → State × Ends) : State :=
  let s := { s with now := max s.now d.t }
  if s.mayRun r = false then s
  else if 4 ≤ d.flags then s.finish r d ⟨csBAD_OPCODE, 0, []⟩
  else if b.fits d = false then s.finish r d ⟨csBAD_LENGTH, 0, []⟩
  else match b with
    | .none => let x := f s; x.1.finish r d x.2
    | .inp _ => if d.length = 0 then s.finish r d ⟨csOK, 0, []⟩ else let x := f s; x.1.finish r d x.2
    | .out _ =>
      let x := f s
      if x.2.status = csOK ∧ d.length ≠ 0 ∧ d.bufOk = false then (x.1.dmaErr).finish r d ⟨csDMA_ERROR, 1, []⟩ else x.1.finish r d x.2

/-- A buffer read that fails (R290). -/
def State.readFails (s : State) : State × Ends := (s.dmaErr, ⟨csDMA_ERROR, 0, []⟩)

def endOK (n : Nat) : Ends := ⟨csOK, n, []⟩
def endARG (n : Nat) : Ends := ⟨csBAD_ARG, n, []⟩

/-- SYS_STATE as a word (R293). -/
def State.sysState (s : State) : Nat := (regWord s.regs SYS_STATE_DEV_STATE.rst (fldAddr SYS_STATE_DEV_STATE (blockBase .sys .a) 0)).toNat

def State.endSTATE (s : State) : Ends := ⟨csSTATE, s.sysState, []⟩

/-! ## Authority (R291, R367) -/

/-- Ring `r` holds scope bit `k`. -/
def State.holds (s : State) (r k : Nat) : Bool := bit (s.get SEC_AUTH_n_SCOPE .a r) k

/-- R291, R367: the ring holds the authority a command needs, and the time of that need is noted; else AUTH_REQUIRED. -/
def State.withScope (s : State) (r k : Nat) (f : State → State × Ends) : State × Ends :=
  if s.holds r k then f ((s.updRing r (fun x => { x with authAt := s.now })).put SEC_AUTH_n_IDLE_LEFT 30 .a r) else (s, ⟨csAUTH_REQUIRED, 0, []⟩)

/-- R294: an exclusive command while another runs is BUSY. -/
def State.alone (s : State) (f : State → State × Ends) : State × Ends :=
  match s.hly.exclusive with
  | some x => (s, ⟨csBUSY, x.opcode, []⟩)
  | none => f s

/-- The authority of ring `r` ends, and SERVICE with it where that ring granted it (R291, R355). -/
def State.endAuth (s : State) (r : Nat) : State :=
  if s.get SEC_AUTH_n_SCOPE .a r = 0 then s
  else
    let s := ((s.put SEC_AUTH_n_SCOPE 0 .a r).put SEC_AUTH_n_IDLE_LEFT 0 .a r).pushEvent 4 [4, r, 0, 0]
    (if s.hly.svcRing = some r then s.endService else s).authChanged

/-- AUTHORITY_IDLE_TIMEOUT (R291): at time `t`, 30 min after the last command of ring `r` that needed its authority. -/
def execAuthorityIdleTimeout (r : Fin 8) (t : Nat) (s : State) : Host.Outcome State Fault Refusal :=
  let s := { s with now := max s.now t }
  .next (if (s.ring r.val).authAt + idleLimit ≤ s.now then s.endAuth r.val else s)

/-- NONCE_LAPSE (R365): at time `t`, 60 s after the nonce of ring `r` was issued. -/
def execNonceLapse (r : Fin 8) (t : Nat) (s : State) : Host.Outcome State Fault Refusal :=
  let s := { s with now := max s.now t }
  .next (match (s.ring r.val).nonce with
    | some n => if n.at_ + 60000000000 ≤ s.now then s.updRing r.val (fun x => { x with nonce := none }) else s
    | none => s)

/-- AUTH_BACKOFF_END (R368): at time `t`. -/
def execAuthBackoffEnd (t : Nat) (s : State) : Host.Outcome State Fault Refusal :=
  let s := { s with now := max s.now t }
  .next (match s.sec.backoff with
    | some e => if e ≤ s.now then (s.updSec (fun x => { x with backoff := none })).put SEC_AUTH_FAIL_BACKOFF_S 0 else s
    | none => s)

/-- SERVICE_DURATION_END (R355): at time `t`. -/
def execServiceDurationEnd (t : Nat) (s : State) : Host.Outcome State Fault Refusal :=
  let s := { s with now := max s.now t }
  .next (match s.service with
    | some e => if e ≤ s.now then s.endService.authChanged else s
    | none => s)

/-- AUTH_CHALLENGE (R292, R365, R368): a fresh nonce; STATE during the back-off. -/
def execAuthChallenge (r : Fin 8) (d : Desc) (s : State) : Host.Outcome State Fault Refusal :=
  .next (s.command r.val d (.out 32) (fun s =>
    if d.length ≠ 0 ∧ d.length ≠ 32 then (s, ⟨csBAD_LENGTH, 0, []⟩)
    else if d.arg0 ≠ 1 ∧ d.arg0 ≠ 2 then (s, endARG 0)
    else if s.sec.backoff.isSome then (s, s.endSTATE)
    else
      let w := s.draw
      let v := w.1 % 2 ^ 256
      (w.2.updRing r.val (fun x => { x with nonce := some ⟨v, d.arg0, s.now⟩ }),
        ⟨csOK, 32, if d.length = 0 then [] else (List.range 8).map (fun k => v / 2 ^ (32 * k) % 2 ^ 32)⟩)))

/-! ### The checks of R366 -/

def AuthResp.service (a : AuthResp) : Bool := bit a.scope 10

/-- Check 1: length, zero bytes, AUTHORITY as challenged, DURATION. -/
def AuthResp.formOk (a : AuthResp) (len : Nat) (n : NonceSt) : Bool :=
  a.zeros && a.authority == n.authority && (if a.authority = 1 then len == 120 && a.token.isNone else (len == 120 && a.token.isNone) || (len == 208 && a.token.isSome))
    && (if a.service then decide (1 ≤ a.duration) && decide (a.duration ≤ 480) else a.duration == 0)

/-- Check 3: the key is of the authority's kind and not revoked. -/
def State.authKeyOk (s : State) (a : AuthResp) : Bool :=
  if a.authority = 1 then s.ownerKeyOk a.keyId else (a.keyId == 2 || a.keyId == 3) && !bit (s.get SEC_KEYCTL_VENDOR_REV) a.keyId

/-- Check 5: every scope is the authority's, and allowed in the lifecycle state. -/
def State.scopesOk (s : State) (a : AuthResp) : Bool :=
  let field := s.fusedState == lcFIELD
  let svc := s.lifecycle == lcSERVICE
  if a.authority = 1 then field && decide (a.scope < 4)
  else a.scope % 256 == 0 && decide (a.scope < 4096) && (!bit a.scope 11 || !field) && (!a.service || !svc) && (!bit a.scope 9 || a.service || svc)

/-- Check 6: in FIELD a vendor response carries the owner's consent. -/
def State.consentOk (s : State) (a : AuthResp) : Bool :=
  if a.authority = 1 ∨ s.fusedState ≠ lcFIELD then true
  else match a.token with
    | none => false
    | some k => k.zeros && k.signed && s.ownerKeyOk k.keyId && a.scope &&& k.scope == a.scope

/-- R366: every check. -/
def State.authPasses (s : State) (a : AuthResp) (len : Nat) (n : NonceSt) : Bool :=
  a.formOk len n && a.device == s.identity && a.nonce == n.value && s.authKeyOk a && a.signed && s.scopesOk a && s.consentOk a

/-- R368: a failed response: E57, an event, the count, and from the third on a back-off. -/
def State.authFails (s : State) (r : Nat) : State :=
  let s := ((s.raiseOnce (class0 57 r)).pushEvent 4 [5, r, 0, 0]).satInc SEC_AUTH_FAIL_FAILS
  let f := s.get SEC_AUTH_FAIL_FAILS
  if f < 3 then s
  else
    let len := min 3600 (60 * 2 ^ (f - 3))
    (s.updSec (fun x => { x with backoff := some (s.now + len * 1000000000), backoffLen := len })).put SEC_AUTH_FAIL_BACKOFF_S len

/-- R355: SERVICE opens for DURATION minutes. -/
def State.openService (s : State) (r dur : Nat) : State :=
  let l := s.lifecycle
  let s := { s with service := some (s.now + dur * 60000000000), hly := { s.hly with svcRing := some r } }
  ((s.put SEC_LIFECYCLE_SVC_FROM l).put SEC_LIFECYCLE_STATE lcSERVICE).put SEC_LIFECYCLE_SVC_LEFT dur

/-- A response that passes: the count returns to 0 and the ring holds the scopes, beside those it already holds. -/
def State.grant (s : State) (r : Nat) (a : AuthResp) : State :=
  let s := s.put SEC_AUTH_FAIL_FAILS 0
  let s := (s.put SEC_AUTH_n_SCOPE (s.get SEC_AUTH_n_SCOPE .a r ||| a.scope) .a r).put SEC_AUTH_n_IDLE_LEFT 30 .a r
  let s := (s.updRing r (fun x => { x with authAt := s.now })).pushEvent 4 [3, r, a.scope, 0]
  (if a.service then s.openService r a.duration else s).authChanged

/-- AUTH_RESPONSE (R292, R366): the response to the ring's nonce, which it uses up. -/
def execAuthResponse (r : Fin 8) (d : Desc) (a : AuthResp) (s : State) : Host.Outcome State Fault Refusal :=
  .next (s.command r.val d (.inp 256) (fun s =>
    match (s.ring r.val).nonce with
    | none => (s, s.endSTATE)
    | some n =>
      if n.at_ + 60000000000 ≤ s.now then (s, s.endSTATE)
      else if d.bufOk = false then s.readFails
      else
        let s := s.updRing r.val (fun x => { x with nonce := none })
        if s.authPasses a d.length n = false then (s.authFails r.val, ⟨csAUTH_FAILED, 0, []⟩)
        else if a.service ∧ s.mayShutdown = false then (s, s.endSTATE)
        else (s.grant r.val a, endOK a.scope)))

/-- AUTH_END (R291). -/
def execAuthEnd (r : Fin 8) (d : Desc) (s : State) : Host.Outcome State Fault Refusal :=
  .next (s.command r.val d .none (fun s => (s.endAuth r.val, endOK 0)))

/-! ## Reading -/

/-- NOP (R292). -/
def execNop (r : Fin 8) (d : Desc) (s : State) : Host.Outcome State Fault Refusal :=
  .next (s.command r.val d .none (fun s => (s, endOK d.arg0)))

/-- The word of the register that holds field `f`. -/
def State.wordOf (s : State) (f : Fld) (c : Chan := .a) (i : Nat := 0) : Nat := (regWord s.regs f.rst (fldAddr f (blockBase f.blk c) i)).toNat

/-- The information block of R296, 32 words. -/
def State.infoBlock (s : State) : List Nat :=
  [s.wordOf SYS_ID_PART, s.sysState, s.get SEC_FW_VERSION_VERSION, s.wordOf LGE_IMG_VERSION_VERSION, s.wordOf LGE_IMG_SLOT_SLOT, s.lifecycle]
    ++ (List.range 4).map (fun n => s.get SEC_DEVICE_ID_n_ID .a n) ++ (List.range 8).map (fun n => s.get LGE_IMG_HASH_n_HASH .a n)
    ++ [s.wordOf FC_SELFTEST_AGE_H, s.wordOf FC_LOCKOUT_CL2 .a % 65536 + s.wordOf FC_LOCKOUT_CL2 .b % 65536 * 65536] ++ List.replicate 12 0

/-- GET_INFO (R296): the first LENGTH bytes of the information block. -/
def execGetInfo (r : Fin 8) (d : Desc) (s : State) : Host.Outcome State Fault Refusal :=
  .next (s.command r.val d (.out 128) (fun s => (s.showAge, ⟨csOK, d.length, s.showAge.infoBlock.take (d.length / 4)⟩)))

/-- R33, R295: an address APP may read, outside the OTP/SEC block: the register views, APP's own blocks and SRAM, and of the MZW block the totals. -/
def appReads (a : Nat) : Bool :=
  match placeOf a with
  | .regs b base => b != .otp && (b != .mzw || decide (a - base ≤ 0x20))
  | .ram => decide (0x21000000 ≤ a) && decide (a < 0x21040000)
  | _ => false

/-- R295: one address of the range is readable by the ring. -/
def State.cmdReads (s : State) (r a : Nat) : Bool :=
  appReads a || (s.holds r 1 && decide (Config.eventLogBase ≤ a) && decide (a ≤ Config.eventLogLimit) && placeOf a == .ram)

/-- The words of a range, read in ascending order. -/
def State.readRange (s : State) (clear : Bool) (a : Nat) : Nat → State × List Nat
  | 0 => (s, [])
  | n + 1 =>
    let x := s.readWord .halyard clear a
    let y := x.1.readRange clear (a + 4) n
    (y.1, x.2 :: y.2)

/-- READ_REG (R295): LENGTH/4 words from ARG0 upwards, all or nothing. -/
def execReadReg (r : Fin 8) (d : Desc) (s : State) : Host.Outcome State Fault Refusal :=
  .next (s.command r.val d (.out 16384) (fun s =>
    if d.arg0 % 4 ≠ 0 then (s, endARG 0)
    else
      let n := d.length / 4
      match ((List.range n).map (fun k => d.arg0 + 4 * k)).find? (fun a => !s.cmdReads r.val a) with
      | some a => (s, ⟨csDENIED, a, []⟩)
      | none =>
        let x := s.readRange d.clear d.arg0 n
        (x.1, ⟨csOK, n, x.2⟩)))

/-- The 16 words of a 64-byte value. -/
def words512 (f : Nat → Nat) : List Nat := (List.range 16).map (fun k => f k % 2 ^ 32)

/-- The report of R369, 84 words: `nonce` is the host's, eight words. -/
def State.report (s : State) (nonce : List Nat) (sig : Nat) : List Nat :=
  let st := s.stampTime
  let flags := (s.flag LKS_STATUS_DBG_ATTACHED .a || s.flag LKS_STATUS_DBG_ATTACHED .b).toNat + (s.flag OTP_STATUS_ALARM).toNat * 2 + (s.get SEC_ROLLBACK_TRIAL == 1).toNat * 4
  let fwHash := match s.sec.fwRun with
    | some n => (s.fwSlotAt n).hash
    | none => []
  let drk := (s.fuses 8).toNat + (s.fuses 9).toNat * 2 ^ 72
  [0x41545354, s.lifecycle + flags * 2 ^ 8 + s.get SEC_ROLLBACK_FW * 2 ^ 16 + s.get SEC_ROLLBACK_CLZ * 2 ^ 24]
    ++ (List.range 4).map (fun n => s.get SEC_DEVICE_ID_n_ID .a n) ++ (List.range 8).map (fun n => (nonce[n]?).getD 0)
    ++ (List.range 8).map (fun n => s.get LGE_IMG_HASH_n_HASH .a n) ++ [s.get LGE_IMG_VERSION_VERSION, s.get SEC_FW_VERSION_VERSION]
    ++ (List.range 8).map (fun n => (fwHash[n]?).getD 0) ++ [s.wordOf FC_SELFTEST_AGE_H, s.get GOA_KEY_ACTIVE_EPOCH + st.1 * 2 ^ 8, st.2 % 2 ^ 32, st.2 / 2 ^ 32 % 2 ^ 32]
    ++ words512 (Config.identityKey drk) ++ words512 (Config.deviceCert drk) ++ words512 (fun k => sig / 2 ^ (32 * k))

/-- ATTEST (R292, R369): the report over the host's nonce; a buffer shorter than 336 bytes is BAD_LENGTH. -/
def execAttest (r : Fin 8) (d : Desc) (nonce : BitVec 256) (s : State) : Host.Outcome State Fault Refusal :=
  .next (s.command r.val d (.inp 1024) (fun s =>
    if d.length < 336 then (s, ⟨csBAD_LENGTH, 0, []⟩)
    else if d.bufOk = false then s.readFails
    else
      let w := s.showAge.draw
      (w.2, ⟨csOK, 336, w.2.report ((List.range 8).map (fun k => nonce.toNat / 2 ^ (32 * k) % 2 ^ 32)) w.1⟩)))

/-! ## Rings -/

/-- RING_RESET (R292, R305): another present ring returns to ACTIVE with both indices 0. -/
def State.resetRing (s : State) (n : Nat) : State :=
  let s := ((s.put HLY_RING_n_STATUS_STATE 1 .a n).put HLY_RING_n_STATUS_CAUSE 0 .a n).put HLY_RING_n_IDX_DEV_IDX 0 .a n
  let s := s.updRing n (fun x => { x with host := 0, fetched := 0, logged := [] })
  let s := s.updHly (fun h => { h with exclusive := h.exclusive.map (fun x => if x.ring = some n then { x with ring := none } else x) })
  s.hlyEvent 4 n 0

def execRingReset (r : Fin 8) (d : Desc) (s : State) : Host.Outcome State Fault Refusal :=
  .next (s.command r.val d .none (fun s =>
    if d.arg0 = r.val ∨ 8 ≤ d.arg0 ∨ s.ringPresent d.arg0 = false then (s, endARG 0) else (s.resetRing d.arg0, endOK 0)))

/-- SET_POLL (R292). -/
def execSetPoll (r : Fin 8) (d : Desc) (s : State) : Host.Outcome State Fault Refusal :=
  .next (s.command r.val d .none (fun s =>
    if d.arg0 < 2 ∨ 200 < d.arg0 then (s, endARG 0) else (s.put HLY_POLL_POLL_US d.arg0, endOK 0)))

/-! ## Clearance and shutdown -/

/-- R196: what refuses a RESTART: a STATE condition, then unread records. -/
def State.restartRefused (s : State) : Option Ends :=
  if s.hasClass .a 3 ∨ s.hasClass .b 3 ∨ s.dev = stSTOPPING ∨ s.dev = stSHUTDOWN ∨ s.die.a.furl.armed ∨ s.die.b.furl.armed then some s.endSTATE
  else if s.get FC_REC_PTR_UNREAD .a ≠ 0 ∨ s.get FC_REC_PTR_UNREAD .b ≠ 0 then
    some ⟨csUNREAD, s.get FC_REC_PTR_UNREAD .a + s.get FC_REC_PTR_UNREAD .b * 2 ^ 8, []⟩
  else none

/-- RESTART (R196, R292): L2 clearance by a channel reset of both channels; `imgOk`: the active image authenticates at the start that follows. -/
def execRestart (r : Fin 8) (d : Desc) (imgOk : Bool) (s : State) : Host.Outcome State Fault Refusal :=
  let s := { s with now := max s.now d.t }
  let starts := s.mayRun r.val && decide (d.flags < 4) && d.length == 0 && s.hly.exclusive.isNone && s.restartRefused.isNone
  let s := s.command r.val d .none (fun s => s.alone (fun s =>
    match s.restartRefused with
    | some e => (s, e)
    | none => (s, endOK 0)))
  .next (if starts then s.channelReset 4 imgOk true else s)

/-- SHUTDOWN (R292, R436): accepted in SAFE_READY, SAFE and LOCKOUT, and completed at acceptance. -/
def execShutdown (r : Fin 8) (d : Desc) (s : State) : Host.Outcome State Fault Refusal :=
  .next (s.command r.val d .none (fun s => s.alone (fun s => if s.mayShutdown then (s.shutdownRequest, endOK 0) else (s, s.endSTATE))))

/-! ## Firmware, tickets and manifests (R361) -/

/-- A group 0x0E code. -/
def endCONFIG (code : Nat) : Ends := ⟨csCONFIG, code, []⟩

/-- Step 1. -/
def StageFile.formOk (f : StageFile) (len : Nat) : Bool :=
  f.magic == 0xF1E20A5E && f.format == 1 && f.headOk && f.length % 4 == 0 && decide (f.length ≤ 16777216) && f.length == len
    && (match f.pay with
      | .firmware => f.typ == 1 && decide (f.revoke < 16) && decide (f.rollback < 64)
      | .ticket _ => f.typ == 2 && f.revoke == 0 && f.rollback == 0
      | .manifest _ _ _ => f.typ == 3 && f.revoke == 0 && f.rollback == 0)

/-- Step 2: a ticket carries DEVICE_ID. -/
def State.stageTarget (s : State) (f : StageFile) : Bool := s.targetOk f.target f.bind && (f.typ != 2 || f.bind == s.identity)

/-- Step 3. -/
def State.stageKey (s : State) (f : StageFile) : Bool :=
  match f.pay with
  | .firmware => decide (f.keyId < 2) && !bit (s.get SEC_KEYCTL_VENDOR_REV) f.keyId && !bit f.revoke f.keyId
  | .ticket _ => (f.keyId == 2 || f.keyId == 3) && !bit (s.get SEC_KEYCTL_VENDOR_REV) f.keyId
  | .manifest _ _ _ => f.keyId == 0x1F

/-- Step 4; a manifest's root key must be the one of W4 to W7 (R358). -/
def StageFile.sigOk (f : StageFile) : Bool :=
  f.signed && (match f.pay with
    | .manifest _ _ ok => ok
    | _ => true)

/-- Step 5. -/
def State.stageRollback (s : State) (f : StageFile) : Bool :=
  match f.pay with
  | .firmware => decide (s.get SEC_ROLLBACK_FW ≤ f.rollback)
  | .ticket _ => true
  | .manifest v _ _ => decide (s.sec.manifest < v)

/-- R361: the code of the first failing check. -/
def State.stageCheck (s : State) (f : StageFile) (len : Nat) : Option Nat :=
  if f.formOk len = false then some 0x0E01
  else if s.stageTarget f = false then some 0x0E02
  else if s.stageKey f = false then some 0x0E03
  else if f.sigOk = false then some 0x0E04
  else if s.stageRollback f = false then some 0x0E05
  else if f.hashOk = false then some 0x0E06
  else if f.flashOk = false then some 0x0E07
  else none

/-- A passing image takes its place: the inactive slot, marked TRIAL; the ticket area; or the manifest, whose REVOKE bits go into W3. -/
def State.stageStore (s : State) (f : StageFile) : State :=
  match f.pay with
  | .firmware => s.updSec (fun x => { x with fw := tabSet x.fw (1 - x.fwSlot) { mark := .trial, version := f.version, rollback := f.rollback, revoke := f.revoke, hash := f.hash } })
  | .ticket k => s.updSec (fun x => { x with ticket := some k })
  | .manifest v rev _ => ((s.updSec (fun x => { x with manifest := v })).put SEC_MANIFEST_VERSION v).tally 3 (rev % 256)

/-- The scope FW_STAGE needs: CONFIG where the device belongs to an owner, else STAGE (R292, R367). -/
def State.stageScope (s : State) : Nat := if s.fusedState = lcFIELD then 0 else 11

/-- FW_STAGE (R292, R361). -/
def execFwStage (r : Fin 8) (d : Desc) (f : StageFile) (s : State) : Host.Outcome State Fault Refusal :=
  .next (s.command r.val d (.inp 16777216) (fun s => s.withScope r.val s.stageScope (fun s => s.alone (fun s =>
    if d.bufOk = false then s.readFails
    else match s.stageCheck f d.length with
      | some e => (s, endCONFIG e)
      | none => (s.stageStore f, endOK 0)))))

/-! ## Line keys (R235, R236, R359) -/

/-- The installed epochs. -/
def State.hasEpoch (s : State) (e : Nat) : Bool := e != 0 && s.sec.lineKeys.contains e

/-- R359: the buffer is good. -/
def State.keyOk (s : State) (d : Desc) (k : KeyBlob) : Bool :=
  d.length == 172 && k.device == s.identity && k.epoch == d.arg0 && decide (0x10 ≤ k.keyId) && decide (k.keyId < 0x18) && s.ownerKeyOk (k.keyId - 0x10)
    && k.zeros && k.signed && k.unwraps && !s.hasEpoch k.epoch

/-- A key is installed: the first is active at once, the second is the other one. -/
def State.installKey (s : State) (e : Nat) : State :=
  let one := s.sec.lineKeys.isEmpty
  let s := s.updSec (fun x => { x with lineKeys := e :: x.lineKeys, activeKey := if one then e else x.activeKey })
  if one then s.put GOA_KEY_ACTIVE_EPOCH e else s.put GOA_KEY_OTHER_EPOCH e

/-- KEY_INSTALL (R359). -/
def execKeyInstall (r : Fin 8) (d : Desc) (k : KeyBlob) (s : State) : Host.Outcome State Fault Refusal :=
  .next (s.command r.val d (.inp 256) (fun s =>
    if d.arg0 = 0 ∨ 255 < d.arg0 then (s, endARG 0)
    else s.withScope r.val 0 (fun s => s.alone (fun s =>
      if d.bufOk = false then s.readFails
      else if s.keyOk d k = false then (s, endCONFIG 0x0E08)
      else if 2 ≤ s.sec.lineKeys.length then (s, endCONFIG 0x0E09)
      else (s.installKey d.arg0, endOK 0)))))

/-- KEY_REMOVE (R292): a key that is not active; the active one is STATE, one that is not installed BAD_ARG. -/
def execKeyRemove (r : Fin 8) (d : Desc) (s : State) : Host.Outcome State Fault Refusal :=
  .next (s.command r.val d .none (fun s =>
    if s.hasEpoch d.arg0 = false then (s, endARG 0)
    else s.withScope r.val 0 (fun s => s.alone (fun s =>
      if s.get GOA_KEY_ACTIVE_EPOCH = d.arg0 then (s, s.endSTATE)
      else ((s.updSec (fun x => { x with lineKeys := x.lineKeys.filter (fun e => e != d.arg0) })).put GOA_KEY_OTHER_EPOCH 0, endOK 0)))))

/-- The network ARG1 names. -/
def argNet (n : Nat) : Net := if n = 0 then .x else .y

/-- EPOCH_SWITCH (R236, R292): the switch is set for a PTP time of a SYNCED network; the command completes when both channels have switched. -/
def execEpochSwitch (r : Fin 8) (d : Desc) (s : State) : Host.Outcome State Fault Refusal :=
  let s := { s with now := max s.now d.t }
  if s.mayRun r.val ∧ d.flags < 4 ∧ d.length = 0 ∧ s.hasEpoch d.arg0 = true ∧ d.arg1 < 2 ∧ s.holds r.val 0 = true ∧ s.hly.exclusive = none ∧ s.syncedNet (argNet d.arg1) = true then
    let s := (s.updRing r.val (fun x => { x with authAt := s.now })).put SEC_AUTH_n_IDLE_LEFT 30 .a r.val
    .next ({ s with epochAt := some (argNet d.arg1, d.addr, d.arg0) }.runOn ⟨0x1A, some r.val, d.tag, d.irq, d.doneOk⟩)
  else
    .next (s.command r.val d .none (fun s =>
      if s.hasEpoch d.arg0 = false then (s, endARG 0)
      else if 2 ≤ d.arg1 then (s, endARG 1)
      else s.withScope r.val 0 (fun s => s.alone (fun s => (s, s.endSTATE)))))

end Sys2Proof.Machine
end

