-- ==== Sys2Proof/Machine/Lockstep.lean ====
section
/-! DEFINITION. The commands of the lockstep pairs (R203 to R212 of 08_redundant_execution.md). -/

namespace Sys2Proof.Machine

open Sys2Proof

/-- E00 for SC-A, E01 for SC-B. -/
def mismatchLine : Chan → Nat
  | .a => 0
  | .b => 1

/-- LKS_MM_INFO keeps the vectors of the first reported cycle. -/
def State.mmInfo (s : State) (c : Chan) (t0 t1 : BitVec 8) : State :=
  if s.get LKS_MM_INFO_TT0_GROUPS c = 0 ∧ s.get LKS_MM_INFO_TT1_GROUPS c = 0 then
    (s.put LKS_MM_INFO_TT0_GROUPS t0.toNat c).put LKS_MM_INFO_TT1_GROUPS t1.toNat c
  else s

/-- A lockstep mismatch of channel `c` (R206). -/
def State.mismatch (s : State) (c : Chan) : State :=
  let s := s.putFlag LKS_STATUS_MISMATCH true c
  s.raise (class2Own (mismatchLine c) c (regWord s.regs 0 (blockBase .lks c)).toNat)

/-- A disagreement of the two Tell-tales (R206). -/
def State.ttDisagree (s : State) (c : Chan) (side : Nat) : State :=
  let s := (s.putFlag LKS_STATUS_TT_DIS true c).put LKS_STATUS_TT_SIDE side c
  s.raise (class2Own 2 c (regWord s.regs 0 (blockBase .lks c)).toNat)

/-- TELLTALE_REPORT (R206): the collector judges the two vectors of one cycle outside the forced one. A decoupled checker is not compared (R213). -/
def execTelltaleReport (c : Chan) (t0 t1 : BitVec 8) (s : State) : Host.Outcome State Fault Refusal :=
  .next (if (twoAt s.stay c).decoupled then s
    else if t0 = 0 ∧ t1 = 0 then s
    else if t0 ≠ 0 ∧ t1 ≠ 0 then (s.mmInfo c t0 t1).mismatch c
    else (s.mmInfo c t0 t1).ttDisagree c (if t0 ≠ 0 then 1 else 2))

/-- R465: the group that holds a compared bit. -/
def bitGroup (n : Nat) : Nat :=
  if n < 32 then 0 else if n < 48 then 1 else if n < 80 then 2 else if n < 112 then 3
  else if n < 128 then 4 else if n < 160 then 5 else if n < 192 then 6 else 7

/-- FORCED_MISMATCH (R208): the pair inverts its next compared bit for one cycle, and the collector judges the report: exactly the injected group on both is the passed test; another vector on both is a lockstep mismatch; anything else is E02. -/
def execForcedMismatch (c : Chan) (t0 t1 : BitVec 8) (s : State) : Host.Outcome State Fault Refusal :=
  let x := twoAt s.stay c
  .next (if x.decoupled then s
    else
      let want : BitVec 8 := BitVec.ofNat 8 (2 ^ bitGroup x.nextBit)
      let s := { s.put LKS_FORCE_LAST_BIT x.nextBit c with stay := twoSet s.stay c { x with nextBit := (x.nextBit + 1) % 224 } }
      if t0 = want ∧ t1 = want then s.satInc LKS_FORCE_PASSES c
      else if t0 = t1 then (s.mmInfo c t0 t1).mismatch c
      else
        let s := (s.mmInfo c t0 t1).putFlag LKS_STATUS_FORCE_FAIL true c
        s.raise (class2Own 2 c (regWord s.regs 0 (blockBase .lks c)).toNat))

/-- LATENT_DIVERGENCE_SWEEP (R210): a sweep of `us` µs ends; `diff` is the area (1 register file or control register, 2 cache tag, 3 cache data) and index of the first difference, if any. -/
def execLatentDivergenceSweep (c : Chan) (us : Fin 201) (diff : Option (Fin 3 × Fin 8192)) (s : State) : Host.Outcome State Fault Refusal :=
  .next (if (twoAt s.stay c).decoupled then s
    else
      let s := (s.satInc LKS_SWEEP_SWEEPS c).put LKS_SWEEP_TIME_LAST_US us.val c
      match diff with
      | none => s
      | some (a, i) =>
        let s := if s.get LKS_SWEEP_AREA c = 0 then (s.put LKS_SWEEP_AREA (a.val + 1) c).put LKS_SWEEP_INDEX i.val c else s
        let s := s.putFlag LKS_STATUS_SWEEP true c
        s.raise (class2Own 3 c (regWord s.regs 0 (blockBase .lks c)).toNat))

/-- ASYNC_INPUT_DISAGREEMENT (R211): the two synchronisers of an input have disagreed for `cycles` cycles; more than 4 is E04. The value last agreed goes on being delivered. -/
def execAsyncInputDisagreement (c : Chan) (input : Fin 64) (cycles : Nat) (s : State) : Host.Outcome State Fault Refusal :=
  let s := s.put LKS_ASYNC_MAX_DIS (max (s.get LKS_ASYNC_MAX_DIS c) (min cycles 255)) c
  .next (if 4 < cycles then
      let s := (s.putFlag LKS_STATUS_ASYNC true c).put LKS_ASYNC_SOURCE input.val c
      s.raise (class2Own 4 c (regWord s.regs 0 (blockBase .lks c)).toNat)
    else s)

end Sys2Proof.Machine
end

