-- ==== Sys2Proof/Machine/Mz.lean ====
section
/-! DEFINITION. The events and commands of Mizzen (15_metrology_partition.md). -/

namespace Sys2Proof.Machine

open Sys2Proof

/-- Device time moved on to `t`. -/
def State.at (s : State) (t : Nat) : State := { s with now := max s.now t }

/-! ## Measuring -/

/-- R382: a measuring fault is logged, flagged in the open lot and shown. -/
def State.measFault (s : State) (k : MzFault) : State :=
  let s := (s.mzEvent (.fault k)).mzFlag (fun f => { f with fault := true })
  s.updMz (fun m => match k with
    | .wire => { m with wire := true }
    | .quadrature => { m with quad := true }
    | .rate => { m with rate := true })

/-- The quadrature sequence forward: (0,0), (1,0), (1,1), (0,1). -/
def quadForward (a b a' b' : Bool) : Bool :=
  (a == b && a' != a) || (a != b && b' != b)

/-- MEASURING_WHEEL_EDGE (R379 to R381): at time `t` MW_A and MW_B read `a` and `b`. Both changing within one sample is a quadrature fault; during a wire or quadrature fault no length is added. -/
def execMeasuringWheelEdge (a b : Bool) (t : Nat) (s : State) : Host.Outcome State Fault Refusal :=
  let s := s.at t
  let m := s.mz
  .next (if m.on = false ∨ (a = m.a ∧ b = m.b) then s
    else if a ≠ m.a ∧ b ≠ m.b then (s.updMz (fun m => { m with a := a, b := b })).measFault .quadrature
    else
      let fwd := quadForward m.a m.b a b != (m.params.invert == 1)
      let s := s.updMz (fun m => { m with a := a, b := b })
      if m.wire ∨ m.quad ∨ m.held then s
      else s.updMz (fun m => { (if fwd then m.forward else m.backward) with edgeAt := s.now }))

/-- MEASURING_FAULT (R382): at time `t` a fault is found, or is no longer present. -/
def execMeasuringFault (k : MzFault) (present : Bool) (t : Nat) (s : State) : Host.Outcome State Fault Refusal :=
  let s := s.at t
  .next (if s.mz.on = false then s
    else if present then s.measFault k
    else s.updMz (fun m => match k with
      | .wire => { m with wire := false }
      | .quadrature => { m with quad := false }
      | .rate => { m with rate := false }))

/-- GRAND_TOTAL_COMMIT (R397): every second. -/
def execGrandTotalCommit (t : Nat) (s : State) : Host.Outcome State Fault Refusal :=
  let s := s.at t
  .next (if s.mz.on ∧ s.mz.committedAt + 1000000000 ≤ s.now then s.mzCommit else s)

/-- SEAL_CHANGE (R386, R387, R390): at time `t` MZ_SEAL has read the new level for 20 ms. The audit entry comes before the change. -/
def execSealChange (broken : Bool) (t : Nat) (s : State) : Host.Outcome State Fault Refusal :=
  let s := s.at t
  .next (if s.mz.on = false ∨ broken = s.mz.broken then s
    else
      let s := (s.mzAudit (.seal broken)).updMz (fun m => { m with broken := broken, seals := if broken then (m.seals + 1) % 2 ^ 32 else m.seals, staged := if broken then m.staged else [] })
      if broken then s.mzFlag (fun f => { f with unsealed := true }) else s)

/-- MZ_LOCKSTEP_RESTART (R398): at time `t` the pair restarts. After the third restart in 24 h Mizzen stays in FAULT. -/
def execMzLockstepRestart (t : Nat) (s : State) : Host.Outcome State Fault Refusal :=
  let s := s.at t
  .next (if s.mz.on = false ∨ s.mz.held = true then s
    else
      let s := (s.mzEvent .lockstep).mzFlag (fun f => { f with restart := true, fault := true })
      let rs := s.mz.restarts.filter (fun x => decide (s.now < x + 86400000000000)) ++ [s.now]
      s.updMz (fun m => { m with restarts := rs, held := decide (3 ≤ rs.length) }))

/-! ## VMZ (R397, R423) -/

/-- VMZ_LOW (R397): at time `t` VMZ falls below 3.0 V. -/
def execVmzLow (t : Nat) (s : State) : Host.Outcome State Fault Refusal :=
  let s := s.at t
  .next (if s.mz.on then (s.mzCommit).mzEvent .powerLost else s)

/-- VMZ_RESET (R423): at time `t` VMZ falls below 2.7 V: Mizzen stops; what was not committed and what was staged is gone. -/
def execVmzReset (t : Nat) (s : State) : Host.Outcome State Fault Refusal :=
  let s := s.at t
  .next (if s.mz.on then
      let n := s.mzSecs
      s.updMz (fun m => { m with on := false, gt := m.gtKept, rem := m.remKept, staged := [], queue := [], secs := n, wire := false, quad := false, rate := false, restarts := [], held := false })
    else s)

/-- VMZ_RELEASE (R397): at time `t` VMZ rises above 2.9 V: Mizzen starts, and the lot open at the loss is closed, flagged POWER. -/
def execVmzRelease (t : Nat) (s : State) : Host.Outcome State Fault Refusal :=
  let s := s.at t
  .next (if s.mz.on then s
    else
      let s := s.updMz (fun m => { m with on := true, onAt := s.now, pos := 0, far := 0, farLot := 0, committedAt := s.now, lineAt := s.now, edgeAt := s.now })
      ((s.mzEvent .powerBack).mzFlag (fun f => { f with power := true })).closeLot)

/-! ## The link to the main die (R393 to R396) -/

/-- The command at the head of the queue is `cmd` and Mizzen works: it is taken. -/
def State.mzTake (s : State) (cmd : Nat) (f : State → Nat → State × Nat) : State :=
  match s.mz.queue with
  | [] => s
  | (c, arg) :: q =>
    if c ≠ cmd ∨ s.mz.on = false ∨ s.mz.held = true then s
    else
      let r := f (s.updMz (fun m => { m with queue := q })) arg
      r.1.mzResp cmd r.2

/-- LOT_OPEN (R384, R393): at time `t`; STATE while a lot is open. -/
def execLotOpen (t : Nat) (s : State) : Host.Outcome State Fault Refusal :=
  .next ((s.at t).mzTake mzLOT_OPEN (fun s arg => if s.mz.lot.isSome then (s, mzSTATE) else (s.openLot arg, mzOK)))

/-- LOT_CLOSE (R384, R385, R393): at time `t`; STATE while none is open. -/
def execLotClose (t : Nat) (s : State) : Host.Outcome State Fault Refusal :=
  .next ((s.at t).mzTake mzLOT_CLOSE (fun s _ => if s.mz.lot.isSome then (s.closeLot, mzOK) else (s, mzSTATE)))

/-- LOT_CUT (R393): at time `t` one lot closes and the next opens at the same grand total. -/
def execLotCut (t : Nat) (s : State) : Host.Outcome State Fault Refusal :=
  .next ((s.at t).mzTake mzLOT_CUT (fun s arg => (s.closeLot.openLot arg, mzOK)))

/-- MZW_DATA_0 to 15. -/
def State.mzData (s : State) (f : Nat → Nat) : State := (List.range 16).foldl (fun (s : State) n => s.put MZW_DATA_n_DATA (f n % 2 ^ 32) .a n) s

def LotFlags.code (f : LotFlags) : Nat := f.fault.toNat + f.unsealed.toNat * 2 + f.restart.toNat * 4 + f.power.toNat * 8

/-- The contents of a record as numbers. -/
def LotRec.list (r : LotRec) : List Nat :=
  [r.number, r.ident, r.gOpen, r.gClose, r.length, r.reverse, r.secsOpen, r.secsClose, r.hint.isSome.toNat, r.hint.getD 0, r.flags.code, r.sig]

def paramCode : MzParam → Nat
  | .num => 0
  | .den => 1
  | .res => 2
  | .invert => 3
  | .maxRate => 4
  | .baud => 5
  | .indPeriod => 6

def AuditEntry.list (e : AuditEntry) : List Nat :=
  (match e.change with
   | .seal b => [0, b.toNat]
   | .param p o n => [1, paramCode p, o, n]
   | .firmware v w c d => [2, v, w, c, d]) ++ [e.sealCount, e.secs, e.gt]

def MzEvent.list : MzEvent → List Nat
  | .powerLost => [0]
  | .powerBack => [1]
  | .fault .wire => [2]
  | .fault .quadrature => [3]
  | .fault .rate => [4]
  | .lockstep => [5]
  | .refused c => [6, c]

def State.lotRecord (s : State) (n : Nat) : Option LotRec := s.mz.records.find? (fun r => r.number == n)

/-- Entry `n` of the event log, numbered from its first. -/
def State.eventEntry (s : State) (n : Nat) : Option (MzEvent × Nat) := if n < s.mz.eventsLost then none else s.mz.events[n - s.mz.eventsLost]?

/-- READ_LOT (R393): at time `t`; a record that is not held answers STATE. -/
def execReadLot (t : Nat) (s : State) : Host.Outcome State Fault Refusal :=
  .next ((s.at t).mzTake mzREAD_LOT (fun s arg => match s.lotRecord arg with
    | some r => (s.mzData (Config.mzWord mzREAD_LOT r.list), mzOK)
    | none => (s, mzSTATE)))

/-- READ_AUDIT (R393). -/
def execReadAudit (t : Nat) (s : State) : Host.Outcome State Fault Refusal :=
  .next ((s.at t).mzTake mzREAD_AUDIT (fun s arg => match s.mz.audit[arg]? with
    | some e => (s.mzData (Config.mzWord mzREAD_AUDIT e.list), mzOK)
    | none => (s, mzSTATE)))

/-- READ_EVENT (R393). -/
def execReadEvent (t : Nat) (s : State) : Host.Outcome State Fault Refusal :=
  .next ((s.at t).mzTake mzREAD_EVENT (fun s arg => match s.eventEntry arg with
    | some e => (s.mzData (Config.mzWord mzREAD_EVENT (e.1.list ++ [e.2])), mzOK)
    | none => (s, mzSTATE)))

/-- READ_CERT (R393): word index 0 to 3. -/
def execReadCert (t : Nat) (s : State) : Host.Outcome State Fault Refusal :=
  .next ((s.at t).mzTake mzREAD_CERT (fun s arg => if arg < 4 then (s.mzData (fun n => Config.mzCert arg n), mzOK) else (s, mzSTATE)))

/-- TIME_HINT (R393): attached to later records. -/
def execTimeHint (t : Nat) (s : State) : Host.Outcome State Fault Refusal :=
  .next ((s.at t).mzTake mzTIME_HINT (fun s arg => (s.updMz (fun m => { m with hint := some arg }), mzOK)))

/-- R393: a refusal by Mizzen: its event log, E57, REFUSED. -/
def State.mzRefuse (s : State) (cmd : Nat) : State := ((s.mzEvent (.refused cmd)).raiseOnce (class0 57 cmd)).mzResp cmd mzREFUSED

/-- MZW_COMMAND_REFUSED (R393): at time `t` the head of the queue is unknown, or its frame is bad; or SC-A writes a command while the queue is full. -/
def execMzwCommandRefused (k : MzRefusal) (t : Nat) (s : State) : Host.Outcome State Fault Refusal :=
  let s := s.at t
  .next (match k with
    | .head bad => match s.mz.queue with
      | [] => s
      | (c, _) :: q => if s.mz.on = true ∧ s.mz.held = false ∧ (bad = true ∨ mzKnown c = false) then (s.updMz (fun m => { m with queue := q })).mzRefuse c else s
    | .write cmd => if 8 ≤ s.mz.queue.length then s.mzResp cmd.toNat mzBUSY else s)

/-- MIRROR_FRAME (R395): at time `t` the MZW block applies a mirror frame whole. In SLEEP and without the main die none is applied (R396). -/
def execMirrorFrame (t : Nat) (s : State) : Host.Outcome State Fault Refusal :=
  let s := s.at t
  .next (if s.mz.on = false ∨ s.running = false ∨ s.dev = stSLEEP then s
    else ((mirrorFields.zip s.mz.mirror).foldl (fun (s : State) (e : Fld × Nat) => s.put e.1 e.2) s).updMz (fun m => { m with mirrorAt := some s.now }))

/-- MIZZEN_LINK_TIMEOUT (R395, R396): at time `t` no mirror frame has come for 10 ms. -/
def execMizzenLinkTimeout (t : Nat) (s : State) : Host.Outcome State Fault Refusal :=
  let s := s.at t
  .next (match s.mz.mirrorAt with
    | some x => if x + 10000000 ≤ s.now then s.clearMirror else s
    | none => s)

/-! ## The legal indication port (R392) -/

/-- Characters of a string. -/
def chars (x : String) : List Nat := x.toList.map Char.toNat

/-- Decimal digits, at least `w` of them. -/
def decimal (v : Nat) : Nat → List Nat
  | 0 => []
  | w + 1 => decimal (v / 10) w ++ [48 + v % 10]

/-- The number of decimal digits of a number below 10^20. -/
def digitsOf (v : Nat) : Nat := 1 + ((List.range 20).filter (fun k => 10 ^ (k + 1) ≤ v)).length

def number (v : Nat) : List Nat := decimal v (digitsOf v)

/-- Decimals of a metre that RES implies. -/
def MzParams.decimals (p : MzParams) : Nat :=
  if p.res = 100 then 4 else if p.res = 1000 then 3 else if p.res = 10000 then 2 else if p.res = 100000 then 1 else 0

/-- A length in units of RES as metres. -/
def metres (d v : Nat) : List Nat := number (v / 10 ^ d) ++ (if d = 0 then [] else 46 :: decimal (v % 10 ^ d) d)

/-- Four hexadecimal digits. -/
def hex4 (v : Nat) : List Nat := [v / 4096 % 16, v / 256 % 16, v / 16 % 16, v % 16].map (fun h => if h < 10 then 48 + h else 55 + h)

/-- The status field: F while Mizzen is held in FAULT. -/
def MzSt.statusText (m : MzSt) : List Nat :=
  if m.held then chars "F" else Config.mzStatus ((m.wire || m.quad || m.rate).toNat + m.broken.toNat * 2 + m.lot.isSome.toNat * 4 + (decide (4096 ≤ m.audit.length)).toNat * 8)

/-- The indication line of R392. -/
def MzSt.indication (m : MzSt) : List Nat :=
  let d := m.params.decimals
  let len := match m.lot with
    | some l => m.units m.gt - m.units l.gOpen
    | none => 0
  let body := chars "GT=" ++ metres d (m.units m.gt) ++ chars ";LOT=" ++ number m.lotNo ++ chars ";LEN=" ++ metres d len ++ chars ";SEAL=" ++ number m.seals ++ chars ";ST=" ++ m.statusText ++ chars ";CK="
  body ++ hex4 (crc16 body)

/-- INDICATION_LINE (R392): at time `t`, every IND_PERIOD. -/
def execIndicationLine (t : Nat) (s : State) : Host.Outcome State Fault Refusal :=
  let s := s.at t
  .next (if s.mz.on ∧ s.mz.lineAt + s.mz.params.indPeriod * 1000000 ≤ s.now then s.updMz (fun m => { m with line := m.indication, lineAt := s.now }) else s)

/-- An answer on MZ_TX; a pair held in FAULT answers nothing. -/
def State.mzAnswer (s : State) (f : State → State × MzAnswer) : State :=
  if s.mz.on = true ∧ s.mz.held = false then
    let r := f s
    r.1.updMz (fun m => { m with answer := r.2 })
  else s

/-- ID_REQUEST (R392). -/
def execIdRequest (s : State) : Host.Outcome State Fault Refusal :=
  .next (s.mzAnswer (fun s => (s, .ident s.mz.version s.mz.swCrc (Config.mzParamCrc s.mz.params.list % 2 ^ 32) s.mz.seals)))

/-- LOT_REQUEST (R392): lot record `n`, ERR where it is not held. -/
def execLotRequest (n : Nat) (s : State) : Host.Outcome State Fault Refusal :=
  .next (s.mzAnswer (fun s => (s, match s.lotRecord n with
    | some r => .lot r
    | none => .err)))

/-- AUD_REQUEST (R392). -/
def execAudRequest (n : Nat) (s : State) : Host.Outcome State Fault Refusal :=
  .next (s.mzAnswer (fun s => (s, match s.mz.audit[n]? with
    | some e => .audit e
    | none => .err)))

/-- EVT_REQUEST (R392). -/
def execEvtRequest (n : Nat) (s : State) : Host.Outcome State Fault Refusal :=
  .next (s.mzAnswer (fun s => (s, match s.eventEntry n with
    | some e => .event e.1 e.2
    | none => .err)))

/-! ## Changing parameters and firmware (R390, R391) -/

def MzParams.get (p : MzParams) : MzParam → Nat
  | .num => p.num
  | .den => p.den
  | .res => p.res
  | .invert => p.invert
  | .maxRate => p.maxRate
  | .baud => p.baud
  | .indPeriod => p.indPeriod

def MzParams.set (p : MzParams) (k : MzParam) (v : Nat) : MzParams :=
  match k with
  | .num => { p with num := v }
  | .den => { p with den := v }
  | .res => { p with res := v }
  | .invert => { p with invert := v }
  | .maxRate => { p with maxRate := v }
  | .baud => { p with baud := v }
  | .indPeriod => { p with indPeriod := v }

/-- The values each parameter may take (R380, R382, R383, R392). -/
def paramFits (k : MzParam) (v : Nat) : Bool :=
  match k with
  | .num | .den => decide (1 ≤ v) && decide (v < 2 ^ 32)
  | .res => [100, 1000, 10000, 100000, 1000000].contains v
  | .invert => decide (v < 2)
  | .maxRate => decide (10000 ≤ v) && decide (v ≤ 2000000)
  | .baud => [9600, 19200, 38400, 57600, 115200].contains v
  | .indPeriod => decide (100 ≤ v) && decide (v ≤ 10000)

/-- SET_PARAMETER (R390, R392): with the seal broken one parameter is staged. -/
def execSetParameter (k : MzParam) (v : Nat) (s : State) : Host.Outcome State Fault Refusal :=
  .next (s.mzAnswer (fun s =>
    if s.mz.broken = false ∨ paramFits k v = false then (s, .err)
    else (s.updMz (fun m => { m with staged := m.staged.filter (fun e => e.1 != k) ++ [(k, v)] }), .ok)))

/-- The staged set changes this parameter. -/
def MzSt.changes (m : MzSt) (k : MzParam) : Bool := m.staged.any (fun e => e.1 == k && e.2 != m.params.get k)

/-- The staged set takes effect; a changed NUM, DEN or INVERT starts counting at the present position. -/
def MzSt.applyStaged (m : MzSt) : MzSt :=
  let p := m.staged.foldl (fun (p : MzParams) (e : MzParam × Nat) => p.set e.1 e.2) m.params
  let anew := m.changes .num || m.changes .den || m.changes .invert
  { m with params := p, staged := [], rem := if m.changes .den then 0 else m.rem, far := if anew then m.pos else m.far, farLot := if anew then m.pos else m.farLot }

/-- COMMIT (R387, R390): at time `t` the staged set is applied after its audit entries. -/
def execCommit (t : Nat) (s : State) : Host.Outcome State Fault Refusal :=
  .next ((s.at t).mzAnswer (fun s =>
    let m := s.mz
    if m.broken = false ∨ 4096 < m.audit.length + m.staged.length ∨ s.auditFull = true then (s, .err)
    else if m.lot.isSome ∧ (m.changes .num || m.changes .den || m.changes .res || m.changes .invert) = true then (s, .err)
    else
      let s := m.staged.foldl (fun (s : State) (e : MzParam × Nat) => s.mzAudit (.param e.1 (m.params.get e.1) e.2)) s
      (s.updMz MzSt.applyStaged, .ok)))

/-- FWLOAD (R387, R391): at time `t`; the audit entry, then the pair restarts on the new image while the decoder counts on. -/
def execFwload (f : MzFw) (t : Nat) (s : State) : Host.Outcome State Fault Refusal :=
  .next ((s.at t).mzAnswer (fun s =>
    let m := s.mz
    if m.broken = false ∨ m.lot.isSome ∨ s.now < m.edgeAt + 1000000000 ∨ f.framesOk = false ∨ f.signed = false ∨ f.rollback < m.rollback ∨ s.auditFull = true then (s, .err)
    else ((s.mzAudit (.firmware m.version f.version m.swCrc f.crc)).updMz (fun m => { m with version := f.version, swCrc := f.crc, rollback := f.rollback }), .ok)))

end Sys2Proof.Machine
end

