-- ==== Sys2Proof/Machine/Power.lean ====
section
/-! DEFINITION. Supplies, resets, the end of a start, SLEEP, and the debug and APP resets (R424 to R439 of 17_power_reset_retention.md, R213, R353, R363). -/

namespace Sys2Proof.Machine

open Sys2Proof

/-! ## Main-die rails and VBAT -/

/-- A loss of the AON supply (R425, R439): every class A field returns to its reset value, which sets PWR_FLAGS; the certificate, the summary and the Class 3 record in AON RAM are gone. -/
def State.loseAon (s : State) : State :=
  let s := { (s.resetFields (fun _ => true) (fun f => f.cls == .a)) with
    mem := s.mem.filter (fun e => !decide (0x30000000 ≤ e.1 ∧ e.1 < 0x30000400)), aonStart := s.now }
  let s := (s.putFlag PWR_FLAGS_VBAT_DIP true).putFlag PWR_FLAGS_AON_CLK_STOP true
  s.updSec (fun x => { x with cert := none, l3 := none, aonLost := true, secs := [], life := [], lifeLog := [], shiftedAt := none, testedAt := s.now })

/-- POR (R428): the main-die rails rise; a device that was OFF has lost its AON contents before. -/
def execPor (o : StartObs) (s : State) : Host.Outcome State Fault Refusal :=
  let s := { s with now := max s.now o.t }
  .next ((if s.power = .off then s.loseAon else s).mainStart 1 o)

/-- BOR (R426, R428): a main-die rail has fallen below its reset threshold while the die ran; E61, Class 0, at the start that follows. Without VBAT the history has no entry (R430). -/
def execBor (o : StartObs) (vbat : Bool) (s : State) : Host.Outcome State Fault Refusal :=
  .next (if s.running then (s.mainStart (if vbat then 2 else 0) o).raiseOnce (class0 61 0x100) else s)

/-- RESET_N (R428): a low pulse of `ns`. 1 µs resets, less than 200 ns never does, between the two it may. -/
def execResetN (ns : Nat) (o : StartObs) (s : State) : Host.Outcome State Fault Refusal :=
  .next (if s.running = true ∧ 200 ≤ ns ∧ (1000 ≤ ns ∨ Config.resetPulse ns = true) then s.mainStart 3 o else s)

/-- VBAT_RISE (R431): at time `t` VBAT rises above 2.0 V; OFF becomes STANDBY and the AON domain starts. -/
def execVbatRise (t : Nat) (s : State) : Host.Outcome State Fault Refusal :=
  let s := { s with now := max s.now t }
  .next (if s.power = .off then { s.loseAon with power := .standby } else s)

/-- MAIN_RAILS_REMOVED (R431, R438): the main die loses everything but class P; with VBAT the AON domain goes on in STANDBY. -/
def execMainRailsRemoved (vbat : Bool) (t : Nat) (s : State) : Host.Outcome State Fault Refusal :=
  let s := { s with now := max s.now t }
  .next (if s.running then
      let s := (s.loseMain).showKill.showFurl
      if vbat then { s with power := .standby } else { s.loseAon with power := .off }
    else s)

/-- VBAT_DIP (R425): the AON supply falls below 1.9 V; in STANDBY the device goes OFF. -/
def execVbatDip (t : Nat) (s : State) : Host.Outcome State Fault Refusal :=
  let s := ({ s with now := max s.now t }).loseAon
  .next (if s.power = .standby then { s with power := .off } else s)

/-- R426: in INIT, SLEEP and SHUTDOWN what names Class 1 or Class 2 is Class 0. -/
def State.quietSupply (s : State) : Bool := s.dev == stINIT || s.dev == stSLEEP || s.dev == stSHUTDOWN

/-- VBAT_LOW (R426): VBAT below 2.0 V while VDDIO_33 is present. -/
def execVbatLow (s : State) : Host.Outcome State Fault Refusal :=
  .next (if s.running then (s.putFlag PWR_STATUS_VBAT_LOW true).raiseOnce (class0 61 0x200) else s)

/-! ## VS -/

/-- PWR_STATUS.VS_A_UV, VS_B_UV. -/
def uvFld : Chan → Fld
  | .a => PWR_STATUS_VS_A_UV
  | .b => PWR_STATUS_VS_B_UV

/-- VS_UNDERVOLTAGE (R424, R426): VS of die `c` below 16.0 V for 50 µs. The die opens every switch as a kill path and is in reset; once it has reached SAFE_READY this is Class 2 of its channel. -/
def execVsUndervoltage (c : Chan) (s : State) : Host.Outcome State Fault Refusal :=
  let was := (twoAt s.die c).wasReady
  let s := (s.kill c 0xFFFF (if c = .b then 0xF else 0) (fun d => { d with heldUv := 0xFFFF, lsHeld := if c = .b then 0xF else d.lsHeld, staged := none, powered := false, stream := false }))
  let s := s.putFlag (uvFld c) s.running
  .next (if s.running = false ∨ was = false then s.settle
    else if s.quietSupply then s.raiseOnce (class0 61 (chanNum c))
    else s.raiseOnce ⟨61, 2, chanCharge c, .both, .none, chanNum c⟩)

/-- VS_RELEASE (R424): VS of die `c` above 17.0 V; the die leaves reset with every switch open until its channel's first valid command frame, and its channel gives it its configuration again. -/
def execVsRelease (c : Chan) (s : State) : Host.Outcome State Fault Refusal :=
  let d := twoAt s.die c
  let s := s.updDie c (fun _ => { powered := true, wasReady := d.wasReady, ready := d.ready, lastCmd := s.now, fkWords := s.fkWordsOf c, furlWords := s.furlImage c })
  .next ((s.putFlag (uvFld c) false).showKill.showFurl.settle)

/-- PWR_STATUS.*_OK. -/
def railFld : Rail → Fld
  | .vddCore => PWR_STATUS_VDD_CORE_OK
  | .vdd18 => PWR_STATUS_VDD_18_OK
  | .vddio33 => PWR_STATUS_VDDIO_33_OK
  | .vdda => PWR_STATUS_VDDA_OK
  | .vsA => PWR_STATUS_VS_A_OK
  | .vsB => PWR_STATUS_VS_B_OK

def railNum : Rail → Nat
  | .vddCore => 2
  | .vdd18 => 3
  | .vddio33 => 4
  | .vdda => 5
  | .vsA => 0
  | .vsB => 1

/-- The four rails of the main die. -/
def mainRail : Rail → Bool
  | .vsA | .vsB => false
  | _ => true

/-- SUPPLY_MONITOR_FAULT (R426): three results in a row, or 10 ms for VS, outside the operating range. A main-die rail above +10 % of nominal is Class 3. -/
def execSupplyMonitorFault (r : Rail) (high : Bool) (s : State) : Host.Outcome State Fault Refusal :=
  let s := s.putFlag (railFld r) false
  .next (if mainRail r && high then s.raiseOnce ⟨61, 3, .shared, .both, .none, 0x300 + railNum r⟩ else s.raiseOnce (class0 61 (0x300 + railNum r)))

/-! ## The end of a start -/

/-- R363: a TRIAL set whose start completes becomes ACTIVE, the counter follows its ROLLBACK, and its REVOKE bits are programmed. -/
def State.acceptFw (s : State) : State :=
  match s.sec.fwRun with
  | none => s
  | some n =>
    let x := s.fwSlotAt n
    if x.mark = .trial then
      let s := s.updSec (fun y => { y with fwSlot := n, fw := tabUpd {} (tabUpd {} y.fw (1 - n) (fun z => if z.mark = .active then { z with mark := .former } else z)) n (fun z => { z with mark := .active }) })
      let s := if s.get SEC_ROLLBACK_FW < x.rollback then s.advanceCounter 16 x.rollback else s
      let s := s.tally 3 (x.revoke % 16 * 256)
      (s.put SEC_ROLLBACK_TRIAL 0).put SEC_ROLLBACK_FW_SLOT n
    else s

/-- Both dies have reached SAFE_READY (R199, R426). -/
def State.markReady (s : State) : State := { s with die := twoMap s.die (fun d => { d with ready := true, wasReady := d.wasReady || d.powered }) }

/-- Stay works in both directions, or one channel survives. -/
def State.stayTrained (s : State) : Bool := s.stayMode .a != 0 && s.stayMode .b != 0

/-- START_COMPLETE (R412, R431): the start sequence ends. With an image the device is SAFE_READY; without one, or with a rejected one, SAFE. Ratline must have passed and, with an image, Stay must be trained. -/
def execStartComplete (t : Nat) (s : State) : Host.Outcome State Fault Refusal :=
  let s := { s with now := max s.now t }
  .next (if s.running = true ∧ s.dev = stINIT ∧ s.sec.run = none ∧ s.locked = false then
      match s.sec.startImg with
      | .loaded => if s.stayTrained then ((((s.startWith .idle).acceptFw).markReady).setDev stSAFE_READY).settle else s
      | .none => (((s.startWith .idle).acceptFw).setDev stSAFE).settle
      | .rejected => ((s.startWith .idle).setDev stSAFE).settle
      | _ => s
    else s)

/-- TRIAL_START_TIMEOUT (R363): a TRIAL set has not completed its start within 5 s; its slot is FAILED, E57, and the main die starts again from the previous slot. -/
def execTrialStartTimeout (o : StartObs) (s : State) : Host.Outcome State Fault Refusal :=
  .next (match s.sec.fwRun with
    | none => s
    | some n =>
      if (s.fwSlotAt n).mark = .trial ∧ s.sec.startAt + 5000000000 ≤ max s.now o.t then
        (((s.updSec (fun y => { y with fw := tabUpd {} y.fw n (fun x => { x with mark := .failed }) })).mainStart 0 o).put SEC_ROLLBACK_TRIAL 2).raiseOnce (class0 57 n)
      else s)

/-! ## SLEEP -/

/-- A converter stops; its statistics, coefficients and configuration stay (R330). -/
def AdcSt.stop (a : AdcSt) : AdcSt := { a with run := .idle, queue := [], monDue := false, suspended := false, last := none, lastInj := none }

/-- Stay lanes stop; training starts over at wake (R223, R434). -/
def State.stopStay (s : State) : State :=
  let one (s : State) (c : Chan) : State :=
    ((((s.put STY_STATUS_MODE 0 c).put STY_STATUS_AE_RX_OK 0 c).put STY_STATUS_AE_TX_OK 0 c).put STY_STATUS_CYC_RX_OK 0 c).put STY_STATUS_CYC_TX_OK 0 c
  let keep (x : StaySt) : StaySt := { decoupled := x.decoupled, nextBit := x.nextBit }
  { one (one s .a) .b with stay := twoMap s.stay keep, pulse := {} }

/-- SLEEP_ENTRY (R433, R434): at the boundary at time `t` SLEEP_SIG has been 1 for 1 s with every condition met. -/
def execSleepEntry (t : Nat) (s : State) : Host.Outcome State Fault Refusal :=
  let s := { s with now := max s.now t }
  .next (if s.cyclesOfMs 1000 ≤ s.sleepRun ∧ s.maySleep = true then
      let s := (((s.advance .a).advance .b).advance .p).abortTest.stopStay
      let s := { s with sleepAt := s.now, sleptFrom := s.dev, sleepRun := 0, adcs := s.adcs.map (fun (e : Nat × AdcSt) => (e.1, e.2.stop)) }
      s.clearMirror.setDev stSLEEP
    else s)

/-- R435: the wake event is one the configuration names. -/
def State.wakes (s : State) (w : WakeCause) : Bool :=
  match w with
  | .pair n => bit (s.get PWR_WAKE_PAIRS_PAIRS) n.val
  | .host => s.flag PWR_SLEEP_CFG_WAKE_HOST
  | .time => s.get PWR_WAKE_WAKE_TIME != 0 && decide (s.sleepAt + 60000000000 * s.get PWR_WAKE_WAKE_TIME ≤ s.now)
  | .fault => s.locked

def wakeCode : WakeCause → Nat
  | .pair _ => 1
  | .host => 2
  | .time => 3
  | .fault => 4

/-- R52, R55: the coordinate enters INVALID; its value and counts stay. -/
def State.invalidate (s : State) : State :=
  let one (s : State) (c : Chan) : State :=
    (s.updAe c (fun a => { a with since := 0, last := none, prev := none, hist := [], velHist := [], healthy := 0, refd := false, vel := 0, acc := 0 })).put LC_STATUS_STATE 0 c
  one (one s .a) .b

/-- R435: what happens at wake, in its order: the timers are made up, Stay retrains, the coordinate is INVALID, converters calibrate, sessions are OPENING, and every output owes its midpoint tests. -/
def State.resume (s : State) : State :=
  let p := (s.now - s.sleepAt) * 32768 / 1000000000
  let s := (((s.makeUp .a p).makeUp .b p).makeUp .p p).stopStay
  let s := (s.invalidate.calibrateAll).openSessions.oweAll
  { s with die := twoMap s.die (fun d => { d with lastCmd := s.now }) }

/-- WAKE (R435): at time `t`. The device returns to the state it slept from, or to LOCKOUT with a Class 2 or 3 fault. -/
def execWake (w : WakeCause) (t : Nat) (s : State) : Host.Outcome State Fault Refusal :=
  let s := { s with now := max s.now t }
  .next (if s.dev = stSLEEP ∧ s.wakes w = true then
      let s := (s.noteReset 7).put PWR_WAKE_LAST_WAKE (wakeCode w)
      ((s.setDev s.sleptFrom).resume).settle
    else s)

/-! ## Temperature, SEC, JTAG -/

/-- JUNCTION_OVERTEMPERATURE (R184, E62): the sensor of a die (0 main, 1 I/O die A, 2 I/O die B) reads `temp`, in 0.1 °C. -/
def execJunctionOvertemperature (die : Fin 3) (temp : Int) (s : State) : Host.Outcome State Fault Refusal :=
  .next (if 1350 < temp then s.raiseOnce ⟨62, 3, .shared, .both, .none, die.val⟩
    else if 1250 < temp then s.raiseOnce (class0 62 die.val)
    else s)

/-- SEC_INTERNAL_FAULT (R184): E15, Class 3. -/
def execSecInternalFault (s : State) : Host.Outcome State Fault Refusal := .next (s.raiseOnce (secFault 3))

/-- R353: the DRK drawn from the TRNG into words 8 and 9. -/
def State.drawDrk (s : State) : State :=
  [8, 9].foldl (fun (s : State) n =>
    if s.fuses n ≠ 0 then s
    else
      let r := s.draw
      r.2.blow n (wordFuses r.1)) s

/-- JTAG_LIFECYCLE_REQUEST (R353): BLANK to MANUFACTURE (with BOOTSEL 0b10, R351), or MANUFACTURE to PROVISIONED with groups 1, 4 and 6 locked; `ok`: every fuse verifies at all three references. -/
def execJtagLifecycleRequest (ok : Bool) (s : State) : Host.Outcome State Fault Refusal :=
  .next (if s.lifecycle = lcBLANK ∧ s.sec.bootsel = 2 then
      let s := s.drawDrk
      if ok then (s.tally 0 1).put SEC_LIFECYCLE_STATE lcMANUFACTURE else s
    else if s.lifecycle = lcMANUFACTURE ∧ s.groupLocked 1 = true ∧ s.groupLocked 4 = true ∧ s.groupLocked 6 = true then
      if ok then (s.tally 0 2).put SEC_LIFECYCLE_STATE lcPROVISIONED else s
    else s)

/-! ## Debug and APP -/

/-- DEBUG_ATTACH (R213): possible only in SERVICE with the DEBUG scope. The checker copy is decoupled, and DBG_UNCHECKED is E05. -/
def execDebugAttach (c : Chan) (e : DbgElem) (s : State) : Host.Outcome State Fault Refusal :=
  .next (if s.lifecycle = lcSERVICE ∧ s.scopeHeld 9 = true then
      let s := { s with stay := twoUpd s.stay c (fun x => { x with decoupled := true }) }
      let s := (s.putFlag LKS_STATUS_DBG_ATTACHED true c).putFlag LKS_STATUS_DBG_UNCHECKED true c
      s.raise (class2Own 5 c (match e with
        | .sc => 0
        | .ios => 1
        | .ae => 2))
    else s)

/-- DEBUG_DETACH (R213): the pair stays decoupled and E05 latched. -/
def execDebugDetach (c : Chan) (s : State) : Host.Outcome State Fault Refusal := .next (s.putFlag LKS_STATUS_DBG_ATTACHED false c)

/-- The blocks of an element in its channel's view. -/
def dbgBlocks : DbgElem → List Block
  | .sc => [.lge, .dsf]
  | .ios => [.sin, .sout]
  | .ae => [.lc]

/-- The running state of an element that a block reset takes. -/
def State.resetElem (s : State) (c : Chan) (e : DbgElem) : State :=
  match e with
  | .sc => { s with graph := twoSet s.graph c {} }
  | .ios => { s with inp := { s.inp with filt := twoSet s.inp.filt c 0, latched := twoSet s.inp.latched c 0 } }
  | .ae => { s with ae := twoSet s.ae c {} }

/-- DEBUG_RESET (R428, code 0x8): a debugger attached in SERVICE resets an element; the pair stays decoupled. -/
def execDebugReset (c : Chan) (e : DbgElem) (s : State) : Host.Outcome State Fault Refusal :=
  .next (if s.lifecycle = lcSERVICE ∧ s.flag LKS_STATUS_DBG_ATTACHED c = true then
      let s := (dbgBlocks e).foldl (fun (s : State) b => s.blockReset (blockBase b c)) (s.noteReset 8)
      s.resetElem c e
    else s)

/-- APP_RESET (R190, R438): the volatile fields of TIM_P and CRC_P, within the consequential window of APP. -/
def execAppReset (t : Nat) (s : State) : Host.Outcome State Fault Refusal :=
  let s := ({ s with now := max s.now t }).openWindow 9
  let s := s.resetFields (fun a => decide (0x60000000 ≤ a) && decide (a < 0x60020000)) (fun f => f.cls == .v)
  .next { s with tims := tabSet s.tims (unitNum .p) { last := s.now }, crcs := tabDel s.crcs 2 }

end Sys2Proof.Machine
end

