-- ==== Sys2Proof/Machine/Ratline.lean ====
section
/-! DEFINITION. Ratline (R399 to R412 of 16_selftest_and_ageing.md): controlled runs, REPAIR, and the end of a run with its failures, its certificate and what it resets. -/

namespace Sys2Proof.Machine

open Sys2Proof

/-! ## Controlled runs and REPAIR (R407, R408) -/

/-- R408: the lifecycle states in which JTAG may start controlled runs and REPAIR. -/
def State.bstState (s : State) : Bool := s.lifecycle == lcMANUFACTURE || s.lifecycle == lcRETURN || (s.lifecycle == lcSERVICE && s.scopeHeld 8)

/-- R408: SAFE or LOCKOUT, every output and LSk open, no stop and no run in progress. -/
def State.bstFree (s : State) : Bool := (s.dev == stSAFE || s.dev == stLOCKOUT) && s.allOff && !s.stopRuns && s.sec.run.isNone

/-- GO with a controlled run: ignored with COLL, or started with its selection. -/
def State.goRun (s : State) (full : Bool) (cmd logic lo hi : Nat) : State :=
  if s.bstState = true ∧ s.bstFree = true then
    let s := (((s.put BST_CTRL_CMD cmd).put BST_CTRL_LOGIC_SEL logic).put BST_MEM_SEL_LO_SEL lo).put BST_MEM_SEL_HI_SEL hi
    s.startRun (.controlled full)
  else s.putFlag BST_STATUS_COLL true

/-- BST_FULL_RUN (R408). -/
def execBstFullRun (s : State) : Host.Outcome State Fault Refusal :=
  .next (s.goRun true 0 (s.get BST_CTRL_LOGIC_SEL) (s.get BST_MEM_SEL_LO_SEL) (s.get BST_MEM_SEL_HI_SEL))

/-- BST_SELECTED_RUN (R408): the elements and items of LOGIC_SEL and the arrays of the selection registers. -/
def execBstSelectedRun (logic : BitVec 13) (arrays : BitVec 64) (s : State) : Host.Outcome State Fault Refusal :=
  .next (s.goRun false 1 logic.toNat (arrays.toNat % 2 ^ 32) (arrays.toNat / 2 ^ 32))

/-- The failing rows of an array in the last run, each once. -/
def State.badRows (s : State) (a : Nat) : List Nat := ((s.sec.rows.filter (fun (e : Nat × Nat) => e.1 == a)).map (·.2)).eraseDups

/-- R407: the pair of arrays cannot be repaired: more than two failing rows in one, or a failure that spans rows. -/
def State.beyondRepair (s : State) (k : Nat) : Bool :=
  [2 * k, 2 * k + 1].any (fun a => decide (2 < (s.badRows a).length) || s.sec.columns.contains a)

/-- R407: the two 16-bit entries of one array. -/
def spareEntries (rows : List Nat) : Nat := (rows.take 2).zipIdx.foldl (fun v (e : Nat × Nat) => v + (2 ^ 15 + e.1 % 4096) * 2 ^ (16 * e.2)) 0

/-- R407: the repair word of arrays 2k and 2k + 1. -/
def State.repairWord (s : State) (k : Nat) : Nat := spareEntries (s.badRows (2 * k)) + spareEntries (s.badRows (2 * k + 1)) * 2 ^ 32

/-- BST_REPAIR (R407): word 32 + k is programmed and verified, then W2 logical bit k is set; `ok`: every fuse verifies. -/
def execBstRepair (k : Fin 32) (ok : Bool) (s : State) : Host.Outcome State Fault Refusal :=
  .next (if s.bstFree = false then s.putFlag BST_STATUS_COLL true
    else
      let n := 32 + k.val
      let s := (s.put BST_CTRL_CMD 2).put BST_CTRL_REPAIR_WORD k.val
      if s.bstState = false then s.put BST_STATUS_REPAIR_RESULT 4
      else if s.beyondRepair k.val then s.put BST_STATUS_REPAIR_RESULT 2
      else if s.fuses n ≠ 0 then s.put BST_STATUS_REPAIR_RESULT 3
      else if ok = false then (s.blowPart n (wordFuses (s.repairWord k.val))).put BST_STATUS_REPAIR_RESULT 5
      else ((s.blow n (wordFuses (s.repairWord k.val))).tally 2 (2 ^ k.val)).put BST_STATUS_REPAIR_RESULT 1)

/-- BST_ABORT (R408): a controlled run ends at its next item boundary. -/
def execBstAbort (s : State) : Host.Outcome State Fault Refusal :=
  .next (match s.sec.run with
    | some (.controlled _) => s.updSec (fun x => { x with abort := true })
    | _ => s)

/-! ## The end of a run -/

/-- BST_FAIL of one failure: kind, unit, STEP or interval, and detail (R406). -/
def BstFail.words : BstFail → Nat × Nat × Nat × Nat
  | .memory a w b st => (1, a, st, b % 256 * 2 ^ 24 + w % 65536)
  | .logic e i d => (2, e, i, d)
  | .item n _ => (3, n, 0, 0)

/-- R406: the count of failures and the first eight of them. -/
def State.logFails (s : State) (fs : List BstFail) : State :=
  let s := (s.put BST_STATUS_FAILS (min fs.length 255)).put BST_STATUS_LOGGED (min fs.length 8)
  (List.range 8).foldl (fun (s : State) n =>
    let w := match fs[n]? with
      | some f => f.words
      | none => (0, 0, 0, 0)
    let s := ((s.put BST_FAIL_n_W0_VALID (if w.1 = 0 then 0 else 1) .a n).put BST_FAIL_n_W0_KIND w.1 .a n).put BST_FAIL_n_W0_STEP w.2.2.1 .a n
    (s.put BST_FAIL_n_W0_UNIT w.2.1 .a n).put BST_FAIL_n_W1_DETAIL w.2.2.2 .a n) s

/-- E58, Class 3 (R184, R400). -/
def ratlineFault (f : BstFail) : FaultEv := ⟨58, 3, .shared, .both, .none, f.words.1 * 2 ^ 24 + f.words.2.1⟩

/-- R399, R400: the line a failed item raises at a start. -/
def startFault : BstFail → FaultEv
  | .item 0 _ => ⟨63, 3, .shared, .both, .none, 0⟩
  | .item 1 c => class2Own 2 c 0
  | .item 2 c => ⟨31, 2, chanCharge c, .both, .none, 0⟩
  | .item 3 c => class2Own 43 c 0
  | f => ratlineFault f

/-- R209: a failed Tell-tale test also shows in LKS_STATUS. -/
def State.showForce (s : State) : BstFail → State
  | .item 1 c => s.putFlag LKS_STATUS_FORCE_FAIL true c
  | _ => s

/-- A full run tests the memories (R399). -/
def RunKind.full : RunKind → Bool
  | .cold | .shutdown | .l3 => true
  | .cert => false
  | .controlled f => f

/-- A start made this run. -/
def RunKind.atStart : RunKind → Bool
  | .cold | .cert => true
  | _ => false

/-- R404: every array is zero after its test; the AON retention RAM is not tested. -/
def State.clearArrays (s : State) : State := { s with mem := s.mem.filter (fun e => decide (0x30000000 ≤ e.1 ∧ e.1 < 0x30000400)) }

/-- R401, R419: the read margin of the weakest array, and advisory SRAM. -/
def State.noteSram (s : State) (o : RatlineObs) : State :=
  let s := ((s.put CNM_SRAM_WORST_ARRAY o.worst).put CNM_SRAM_READ_MARGIN o.margin).keepTemps 2
  if o.flips = true ∨ o.margin < 2 then s.advise 2 else s

/-- R400: the lines of a run's failures. A controlled run raises none. -/
def State.raiseFails (s : State) (k : RunKind) (fs : List BstFail) : State :=
  match k with
  | .controlled _ => s
  | .cold | .cert => fs.foldl (fun (s : State) f => (s.showForce f).raise (startFault f)) s
  | _ => fs.foldl (fun (s : State) f => s.raise (ratlineFault f)) s

/-- R410: the shutdown certificate, in AON RAM and flash, of a run that lasted `ms`. -/
def State.writeCert (s : State) (ms : Nat) : State :=
  let hash := match s.sec.fwRun with
    | some n => (s.fwSlotAt n).hash
    | none => []
  let seq := s.sec.certSeq + 1
  let k : Cert := ⟨seq, s.aonCount, s.get BST_CFG_CERT_DAYS, s.get SYS_STATE_SC_CLK_STEP, ms, tallyValue (s.fuses 2), hash⟩
  let s := s.updSec (fun x => { x with cert := some k, certFlash := some (k, false), certSeq := seq })
  ((s.put BST_CERT_SEQ (seq % 2 ^ 24)).putFlag PWR_FLAGS_VBAT_DIP false).putFlag PWR_FLAGS_AON_CLK_STOP false

/-- R197: an L3 clearance that passes erases the Class 3 record; after one that failed, no further start clears it. -/
def State.endL3 (s : State) (passed : Bool) : State :=
  if passed = false then s.updSec (fun x => { x with l3Dead := true })
  else if s.sec.l3Dead then s.raise (ratlineFault (.item 4 .a))
  else (s.updSec (fun x => { x with l3 := none, l3Flash := none })).putBoth FC_LOCKOUT_L3_PEND 0

/-- What a passing run leaves, by its kind (R200, R410, R412). -/
def State.passRun (s : State) (k : RunKind) (ms : Nat) : State :=
  match k with
  | .cold => s.resetAge
  | .l3 => s.resetAge.endL3 true
  | .shutdown => s.resetAge.writeCert ms
  | .controlled true => s.resetAge
  | .controlled false => s
  | .cert => s

/-- BST_STATUS and BST_TIME of a run that has ended: 1 pass, 2 fail, 3 aborted. -/
def State.showRun (s : State) (o : RatlineObs) (result : Nat) : State :=
  let s := (s.putFlag BST_STATUS_BUSY false).put BST_STATUS_RESULT result
  (s.put BST_TIME_PEAK_MW (min o.peak 65535)).put BST_TIME_DURATION (min ((s.now - s.sec.runAt) / 1000000) 65535)

/-- What follows the run: the main die of a shutdown holds no firmware (R404); a controlled run ends with a channel reset (R408). -/
def State.leaveRun (s : State) (k : RunKind) (imgOk : Bool) : State :=
  match k with
  | .shutdown => s.updSec (fun x => { x with fwRun := none })
  | .controlled _ => s.channelReset 6 imgOk false
  | _ => s

/-- RATLINE_COMPLETE (R400, R404, R406, R410): the run in progress ends at time `o.t` with what it found. -/
def execRatlineComplete (o : RatlineObs) (s : State) : Host.Outcome State Fault Refusal :=
  let s := { s with now := max s.now o.t }
  .next (match s.sec.run with
    | none => s
    | some k =>
      let result := if s.sec.abort then 3 else if o.fails = [] then 1 else 2
      let s := (s.showRun o result).logFails o.fails
      let s := s.updSec (fun x => { x with run := none, abort := false, rows := o.rows, columns := o.columns })
      let s := if k.full then s.clearArrays.noteSram o else s
      let s := s.raiseFails k o.fails
      let s := if result = 1 then s.passRun k ((s.now - s.sec.runAt) / 1000000) else if k = .l3 then s.endL3 false else s
      (s.leaveRun k o.imgOk).settle)

end Sys2Proof.Machine
end

