-- ==== Sys2Proof/Machine/Refit.lean ====
section
/-! DEFINITION. The Refit (R152 to R154 of 05_logic_graph.md, R297 of 11_host_interface.md). -/

namespace Sys2Proof.Machine

open Sys2Proof

/-! ## The scope check (R152) -/

/-- Who a configuration register belongs to. -/
inductive Owner where
  /-- a change needs WHOLE: it belongs to the SYS or LC section, or to the whole device -/
  | whole
  /-- computed from other fields, or naming the image: no item of its own -/
  | derived
  | elem (e : Elem)
  /-- read by the functions that read a graph window -/
  | window (w : Nat)
  /-- the cam point's windows, before and after -/
  | point (n : Nat)
  /-- AIn of the channels -/
  | ai (n : Nat)
  /-- the function of the stop: REEF -/
  | reef
  /-- the function of SBC -/
  | sbc
  deriving DecidableEq, Repr

/-- The owner of the configuration register at an address of the image's views. -/
def ownerOf (a : Nat) : Owner :=
  match placeOf a with
  | .regs b base =>
    let off := offsetIn b a
    match b with
    | .lc => if off = 0x40C then .derived else if 0x500 ≤ off ∧ off < 0x600 then .window ((off - 0x500) / 4) else if 0x2000 ≤ off ∧ off < 0x4000 then .point ((off - 0x2000) / 8) else .whole
    | .sin => if off < 0xC0 then .elem (.pair (off / 8)) else if off = 0x11C then .derived else if 0x800 ≤ off then .elem (.source ((off - 0x800) / 16)) else .whole
    | .sout => if off < 0x200 then .elem (.output (off / 32)) else if 0x300 ≤ off ∧ off < 0x340 then .elem (.ls ((off - 0x300) / 16)) else .whole
    | .lge => .derived
    | .dsf => if off = 0x34 then .derived else if off = 0x2C ∨ off = 0x30 then .sbc else .reef
    | .net => if 0x1000 ≤ off ∧ off < 0x3000 then .elem (.session ((off - 0x1000) / 32)) else .whole
    | .adc =>
      let c : Chan := if base < 0x50000000 then .a else .b
      let k := if a % 0x8000 < 0x4000 then 0 else 1
      if 0x1000 ≤ off ∧ off < 0x2000 ∧ a % 0x10000 < 0x8000 then .elem (.ctx c (64 * k + (off - 0x1000) / 64)) else if 0x8000 ≤ off then .ai ((off - 0x8000) / 4) else .whole
    | _ => .whole
  | _ => .whole

/-- The window an OPEN or CLOSE point bounds. -/
def pointWindow (r : RegFile) (n : Nat) : Option Nat :=
  let b := blockBase .lc .a
  let act := fldGet r CAM_PT_n_ACT_ACTION b n
  if act = actOPEN ∨ act = actCLOSE then some (fldGet r CAM_PT_n_ACT_TARGET b n % 64) else none

/-- Functions of an image whose instances meet a condition. -/
def Prog.fnsWith (p : Prog) (q : Inst → Bool) : List Nat := (p.insts.filter (fun e => q e.2)).map (fun e => e.2.sf)

/-- The functions an owner belongs to under the registers and graph of `s`. -/
def State.ownerFns (s : State) (o : Owner) : List Nat :=
  match o with
  | .whole | .derived => []
  | .elem e => s.users e
  | .window w => s.prog.fnsWith (fun i => i.reads (0x080 + w))
  | .point n => match pointWindow s.regs n with
    | some w => s.prog.fnsWith (fun i => i.reads (0x080 + w))
    | none => []
  | .ai n => s.prog.fnsWith (fun i => i.reads (0x0E0 + 2 * n) || i.reads (0x0E0 + 2 * n + 1))
  | .reef => s.prog.fnsWith (fun i => i.code == 0x40)
  | .sbc => s.prog.fnsWith (fun i => i.code == 0x41)

/-- The addresses of channel A's view, and of the converters and timers of channel B, at which two register files differ. -/
def changedRegs (x y : RegFile) : List Nat :=
  let all := (x.map (fun (e : Nat × Word) => e.1)) ++ (y.map (fun (e : Nat × Word) => e.1))
  all.filter (fun a => decide (a < 0x50000000 ∨ (0x500B0000 ≤ a ∧ a < 0x500D0000)) && regWord x (rstOf a) a != regWord y (rstOf a) a)

/-- The numbers of the instances that differ between two graphs, with the functions that own them. -/
def changedInsts (x y : Prog) : List Nat :=
  let diff (p q : Prog) : List Nat := (p.insts.filter (fun e => !q.insts.contains e)).map (fun e => e.2.sf)
  let sfs := (List.range (max x.sfReset.length y.sfReset.length)).filter (fun n => x.sfReset[n]? != y.sfReset[n]?)
  diff x y ++ diff y x ++ sfs

/-- R152: the image changes nothing but what belongs to its scope. -/
def State.inScope (s : State) (im : Image) : Bool :=
  let n := { (s.loadFields im false) with prog := im.prog }
  let named (f : Nat) : Bool := im.scope.contains f
  (changedRegs s.regs n.regs).all (fun a =>
    let o := ownerOf a
    o != .whole && (s.ownerFns o).all named && (n.ownerFns o).all named && !((s.ownerFns o) != [] && s.prog.sfs.all (fun f => (s.ownerFns o).contains f)))
  && (changedInsts s.prog im.prog).all named
  && (s.prog.order.filter (fun i => !named ((tabGet ⟨0, 0, [], [], []⟩ s.prog.insts i).sf))) == (im.prog.order.filter (fun i => !named ((tabGet ⟨0, 0, [], [], []⟩ im.prog.insts i).sf)))

/-- FLAGS of R146. -/
def Image.isRefit (im : Image) : Bool := bit im.flags 0
def Image.isWhole (im : Image) : Bool := bit im.flags 1

/-- The functions the Refit stops: those named, or with WHOLE every one. -/
def State.refitScope (s : State) (im : Image) : List Nat := if im.isWhole then s.prog.sfs else im.scope

/-- CHECK of R153: R148 in full, then the scope. -/
def State.refitCheck (s : State) (im : Image) : Option Nat :=
  match s.checkImage im with
  | some e => some e.code
  | none => if im.isRefit = false ∨ (im.isWhole = false ∧ s.inScope im = false) then some 0x0F03 else none

/-! ## The phases (R153) -/

def phCHECK : Nat := 1
def phSTOPPING : Nat := 2
def phAPPLY : Nat := 3
def phCOMMIT : Nat := 4
def phDONE : Nat := 5
def phREFUSED : Nat := 6
def phABORTED : Nat := 7

/-- A change of LGE_REFIT.PHASE, with its event (R297). -/
def State.refitPhase (s : State) (p : Nat) : State :=
  let s := s.putBoth LGE_REFIT_PHASE p
  s.pushEvent 5 [p, s.get LGE_REFIT_ERR_CODE, 0, 0]

/-- A refusal: nothing stops. -/
def State.refuseRefit (s : State) (code : Nat) : State := (s.putBoth LGE_REFIT_ERR_CODE code).refitPhase phREFUSED

def opREFIT : Nat := 0x10

/-- Refused before CHECK: AUTH, BUSY, STATE (R152, R154, R294); while another Refit runs, its own PHASE stands. -/
def State.refitRefused (s : State) (r : Nat) : Option (State × Ends) :=
  if s.holds r 0 = false then some (if s.refitRuns then s else s.refuseRefit 0x0F04, ⟨csAUTH_REQUIRED, 0, []⟩)
  else if s.refitRuns then some (s.putBoth LGE_REFIT_ERR_CODE 0x0F01, endCONFIG 0x0F01)
  else if s.hly.exclusive.isSome then some (s.refuseRefit 0x0F01, endCONFIG 0x0F01)
  else if s.dev = stSTOPPING ∨ s.dev = stLOCKOUT ∨ s.dev = stSLEEP ∨ s.dev = stSHUTDOWN then some (s.refuseRefit 0x0F02, endCONFIG 0x0F02)
  else none

/-- CHECK passes: STOPPING begins, and the command runs on. -/
def State.startRefit (s : State) (r : Nat) (d : Desc) (im : Image) : State :=
  let s := { s with refit := some im, refitHeld := s.refitScope im }
  (s.refitPhase phSTOPPING).runOn ⟨opREFIT, some r, d.tag, d.irq, d.doneOk⟩

/-- The command runs from here on: it is fetched, acceptable, and passes every check. -/
def State.refitStarts (s : State) (r : Nat) (d : Desc) (im : Image) : Bool :=
  s.mayRun r && decide (d.flags < 4) && (Buf.inp 4194304).fits d && d.length != 0 && (s.refitRefused r).isNone && d.bufOk && d.length == im.length && (s.refitCheck im).isNone

/-- REFIT (R152 to R154, R297): `im` is the image in the buffer. -/
def execRefit (r : Fin 8) (d : Desc) (im : Image) (s : State) : Host.Outcome State Fault Refusal :=
  let s := { s with now := max s.now d.t }
  if s.refitStarts r.val d im then
    let s := (s.updRing r.val (fun x => { x with authAt := s.now })).put SEC_AUTH_n_IDLE_LEFT 30 .a r.val
    .next ((s.refitPhase phCHECK).startRefit r.val d im)
  else
    .next (s.command r.val d (.inp 4194304) (fun s =>
      match s.refitRefused r.val with
      | some x => x
      | none => s.withScope r.val 0 (fun s =>
        let s := s.refitPhase phCHECK
        if d.bufOk = false then ((s.dmaErr).refitPhase phREFUSED, ⟨csDMA_ERROR, 0, []⟩)
        else
          let e := if d.length ≠ im.length then errSECTION else (s.refitCheck im).getD errFORMAT
          (s.refuseRefit e, endCONFIG e))))

/-- R153: every output and LSk driven by a held function is open, and every stop of one has completed. -/
def State.refitOpen (s : State) : Bool :=
  s.refitHeld.all (fun f =>
    (List.range 16).all (fun n => !(s.prog.anyOf f (fun i => s.instDrives i n)) || (!s.outOn n && (s.outMode n != 2 || !s.lsOn (s.get SOUT_n_CFG_LS_SEL .a n))))
    && (s.reefSf != some f || !s.stopRuns))

/-- REFIT_STOPPED (R153): every named function has stopped; APPLY begins. -/
def execRefitStopped (s : State) : Host.Outcome State Fault Refusal :=
  .next (if s.refit.isSome ∧ s.get LGE_REFIT_PHASE = phSTOPPING ∧ s.refitOpen = true then s.refitPhase phAPPLY else s)

/-- The elements whose configuration has changed start afresh: sessions open, pairs and outputs lose what their old configuration had built up. -/
def State.freshElem (s : State) (o : Owner) : State :=
  match o with
  | .elem (.session n) => s.setSes n (if s.get GOA_SES_n_CFG_EN .a n = 1 then sesOPENING else sesUNUSED)
  | .elem (.pair n) => { s with pairs := tabDel s.pairs n }
  | .elem (.output n) => s.oweOutput n
  | _ => s

/-- APPLY of a Refit of named functions: fields, instances, tables, and what the dies hold. -/
def State.applyRefit (s : State) (im : Image) : State :=
  let old := s.regs
  let s := { (s.loadFields im false) with prog := im.prog }
  let s := (s.showImage im s.sec.imgSlot).loadDies
  (changedRegs old s.regs).foldl (fun (s : State) a => s.freshElem (ownerOf a)) s

/-- The Refit ends without having taken place: the functions restart with the image that is in force. -/
def State.dropRefit (s : State) (code : Nat) : State :=
  let s := ({ s with refit := none, refitHeld := [] }.putBoth LGE_REFIT_ERR_CODE code).refitPhase phABORTED
  s.endExclusive opREFIT csCONFIG code

/-- REFIT_APPLIED (R153): the staged copy agrees with its section CRCs and is loaded; COMMIT begins. A whole-device Refit loads at the channel reset that follows. -/
def execRefitApplied (crcOk : Bool) (s : State) : Host.Outcome State Fault Refusal :=
  .next (match s.refit with
    | none => s
    | some im =>
      if s.get LGE_REFIT_PHASE ≠ phAPPLY then s
      else if crcOk = false then s.dropRefit errCRC
      else (if im.isWhole then s else s.applyRefit im).refitPhase phCOMMIT)

/-- The instances of the named functions start from their initial state (R153). -/
def State.restartFns (s : State) (fs : List Nat) : State :=
  let ins := (s.prog.insts.filter (fun e => fs.contains e.2.sf)).map (fun e => e.1)
  let f (g : GraphSt) : GraphSt := { g with insts := g.insts.filter (fun (e : Nat × InstSt) => !ins.contains e.1), sdiOn := g.sdiOn.filter (fun (e : Nat × Bool) => !ins.contains e.1) }
  { s with graph := twoMap s.graph f }

/-- REFIT_COMMITTED (R153): the image is in the other flash slot, which becomes active; the named functions restart, or the whole device takes a channel reset; `imgOk`: the new slot authenticates at that start. -/
def execRefitCommitted (imgOk : Bool) (s : State) : Host.Outcome State Fault Refusal :=
  .next (match s.refit with
    | none => s
    | some im =>
      if s.get LGE_REFIT_PHASE ≠ phCOMMIT then s
      else
        let slot := 1 - s.sec.imgSlot
        let s := (s.updSec (fun x => { x with img := tabSet x.img slot im, imgSlot := slot })).advanceClz im.rollback
        let fs := s.refitHeld
        let s := { s with refit := none, refitHeld := [] }.refitPhase phDONE
        let s := s.endExclusive opREFIT csOK 0
        if im.isWhole then s.channelReset 5 imgOk false else (s.showImage im slot).restartFns fs)

end Sys2Proof.Machine
end

