-- ==== Sys2Proof/Machine/TimRows.lean ====
section
/-! DEFINITION. The commands of the timer blocks and check-value units (13_timers_and_crc.md). -/

namespace Sys2Proof.Machine

open Sys2Proof

/-- A write access of an initiator to one register of a block, which the firewall lets through or denies; then `f` acts (R35, R39). -/
def State.guarded (s : State) (i : Initiator) (a : Nat) (f : State → State) : State :=
  if s.fwAllows i .write a a then { (f s) with bus := .done } else s.deny i a

/-- TIM_CMP_WRITE (R337, R338): initiator `i` writes compare `n` of block `u`; at time `t`, 2 cycles later, the write takes effect: an earlier arm that has matched by then has fired. -/
def execTimCmpWrite (i : Initiator) (u : Unit3) (n : Fin 32) (v : Word) (t : Nat) (s : State) : Host.Outcome State Fault Refusal :=
  let s := { s with now := max s.now t }
  .next (s.guarded i (timBase u + 0x200 + 0x10 * n.val) (fun s =>
    let s := s.advance u
    let c := s.getT TIM_TM_t_COUNT_COUNT u (n.val / 4)
    let s := (s.putT TIM_CMP_n_VALUE v.toNat u n.val).putT TIM_CMP_n_ARMED_COUNT c u n.val
    (s.putT TIM_CMP_n_ACT_ARMED 1 u n.val).putT TIM_CMP_n_ACT_CMP_LAP (if v.toNat ≤ c then 1 else 0) u n.val))

/-- TIM_CMP_DISARM (R338): DISARM of compare `n` takes effect at time `t`, 2 cycles after the write. -/
def execTimCmpDisarm (i : Initiator) (u : Unit3) (n : Fin 32) (t : Nat) (s : State) : Host.Outcome State Fault Refusal :=
  let s := { s with now := max s.now t }
  .next (s.guarded i (timBase u + 0x208 + 0x10 * n.val) (fun s => (s.advance u).putT TIM_CMP_n_ACT_ARMED 0 u n.val))

/-- TIM_COUNT_WRITE (R338): a write loads the count; no compare fires, and every arm stays. -/
def execTimCountWrite (i : Initiator) (u : Unit3) (k : Fin 8) (v : Word) (t : Nat) (s : State) : Host.Outcome State Fault Refusal :=
  let s := { s with now := max s.now t }
  .next (s.guarded i (timBase u + 0x20 * k.val + 4) (fun s => (s.advance u).putT TIM_TM_t_COUNT_COUNT v.toNat u k.val))

/-- R340, R345: a TIM_P configuration that breaks the master rule or names a reserved code. -/
def badTimCfg (t w : Nat) : Bool :=
  let f (g : Fld) : Nat := (w >>> g.lo) % 2 ^ (g.hi + 1 - g.lo)
  let usesMaster := f TIM_TM_t_CFG_CLK == 3 || f TIM_TM_t_CFG_SLAVE == 1 || f TIM_TM_t_CFG_SLAVE == 2 || f TIM_TM_t_CFG_CAP_SRC == 2
  (usesMaster && decide (t ≤ f TIM_TM_t_CFG_MASTER)) || f TIM_TM_t_CFG_SLAVE == 3 || decide (4 < f TIM_TM_t_CFG_MEV) || f TIM_TM_t_CFG_CAP_SRC == 7

/-- TIM_P_CFG_WRITE (R345): a configuration of timer `k` of TIM_P is taken, or ignored with CFG_ERR. -/
def execTimPCfgWrite (i : Initiator) (k : Fin 8) (v : Word) (t : Nat) (s : State) : Host.Outcome State Fault Refusal :=
  let s := { s with now := max s.now t }
  .next (s.guarded i (timBase .p + 0x20 * k.val) (fun s =>
    let s := s.advance .p
    if badTimCfg k.val v.toNat then s.putT TIM_TM_t_STATUS_CFG_ERR 1 .p k.val
    else
      let on := s.getT TIM_TM_t_CFG_EN .p k.val
      let s := { s with regs := tabSet s.regs (timBase .p + 0x20 * k.val) v }
      let s := s.putT TIM_TM_t_STATUS_CFG_ERR 0 .p k.val
      if on = 0 then s.updTim .p (fun x => { x with phase := tabDel x.phase k.val, furthest := tabSet x.furthest k.val (s.ae.a.pos / 65536) }) else s))

/-- TIMER_COMPARE_MATCH (R339): at time `t` block `u` ticks; the armed compares it steps into fire. -/
def execTimerCompareMatch (u : Unit3) (t : Nat) (s : State) : Host.Outcome State Fault Refusal := .next (({ s with now := max s.now t }).advance u)

/-- TIMER_OVERFLOW (R335): at time `t` block `u` ticks; a timer that wraps sets OVF and produces its overflow event. -/
def execTimerOverflow (u : Unit3) (t : Nat) (s : State) : Host.Outcome State Fault Refusal :=
  let s := { s with now := max s.now t }
  .next (s.advance u)

/-- R342: CAP_EDGE takes this edge. -/
def edgeTaken (sel : Nat) (rise : Bool) : Bool := if rise then sel % 2 == 1 else decide (2 ≤ sel)

/-- TMIO_CAPTURE_EDGE (R342, R343): pin TMIOk changes to `level`; at time `t`, 2 cycles later, every TIM_P timer whose source it is captures its count. -/
def execTmioCaptureEdge (k : Fin 4) (level : Bool) (t : Nat) (s : State) : Host.Outcome State Fault Refusal :=
  let s := { s with now := max s.now t }
  let was := (s.tim .p).pins.getLsbD k.val
  .next (if s.dev = stSLEEP ∨ was = level then s
    else
      let s := (s.advance .p).updTim .p (fun x => { x with pins := x.pins ^^^ BitVec.ofNat 4 (2 ^ k.val) })
      (List.range 8).foldl (fun (s : State) n =>
        if s.getT TIM_TM_t_CFG_CAP_SRC .p n = 3 + k.val ∧ edgeTaken (s.getT TIM_TM_t_CFG_CAP_EDGE .p n) level = true then s.capture .p n none else s) s)

/-! ## Check-value units (R346 to R350) -/

def State.getC (s : State) (f : Fld) (u : Unit3) : Nat := s.getAt f (crcBase u) 0
def State.putC (s : State) (f : Fld) (v : Nat) (u : Unit3) : State := s.putAt f v (crcBase u) 0
def State.updCrc (s : State) (u : Unit3) (f : CrcSt → CrcSt) : State := { s with crcs := tabUpd {} s.crcs (unitNum u) f }

/-- The owner of a unit, which issues its reads (R346). -/
def crcOwner : Unit3 → Initiator
  | .a => .scA
  | .b => .scB
  | .p => .app

/-- The end of a scan: DONE, and the interrupt when enabled. -/
def State.scanEnds (s : State) (u : Unit3) (err : Nat) : State :=
  let s := ((s.putC CRC_STATUS_BUSY 0 u).putC CRC_STATUS_DONE 1 u).putC CRC_STATUS_ERR err u
  if s.getC CRC_CFG_IRQ_EN u = 1 then s.updCrc u (fun x => { x with irqs := x.irqs + 1 }) else s

/-- CRC_GO (R348, R349): initiator `i` writes GO; the alive counter steps and the scan starts, unless one runs or the start or length is not a multiple of 4. -/
def execCrcGo (i : Initiator) (u : Unit3) (s : State) : Host.Outcome State Fault Refusal :=
  .next (s.guarded i (crcBase u + 0xC) (fun s =>
    if s.getC CRC_STATUS_BUSY u = 1 then s.putC CRC_STATUS_COLL 1 u
    else if (s.getC CRC_LENGTH_BYTES u ≠ 0 ∧ s.getC CRC_START_ADDR u % 4 ≠ 0) ∨ s.getC CRC_LENGTH_BYTES u % 4 ≠ 0 then s.scanEnds u 1
    else
      let a := s.getC CRC_ALIVE_NEXT u
      ((s.putC CRC_ALIVE_NEXT ((a + 1) % 65536) u).putC CRC_STATUS_BUSY 1 u).updCrc u (fun x => { x with alive := a })))

/-- R347: the algorithm that POLY selects. -/
def crcBy (poly : Nat) (bytes : List Nat) : Nat :=
  if poly = 0 then crc32 bytes else if poly = 1 then crc32c bytes else if poly = 2 then crc16 bytes else crc64 bytes

/-- The words of a scan, read by the unit's owner; none where a read returns a bus error (R349). -/
def State.scanWords (s : State) (u : Unit3) (a n : Nat) : Option (State × List Nat) :=
  (List.range n).foldl (fun (r : Option (State × List Nat)) k =>
    match r with
    | none => none
    | some (s, ws) =>
      let p := a + 4 * k
      if s.fwAllows (crcOwner u) .read p (p + 3) ∧ placeOf p ≠ .unmapped then
        let x := s.readWord (crcOwner u) true p
        some (x.1, ws ++ [x.2])
      else none) (some (s, []))

/-- The first word of a scan that its owner may not read. -/
def State.scanDenied (s : State) (u : Unit3) (a n : Nat) : Option Nat :=
  ((List.range n).map (fun k => a + 4 * k)).find? (fun p => !s.fwAllows (crcOwner u) .read p (p + 3))

/-- CRC_SCAN_DONE (R348 to R350): the running scan ends: the result over its bytes and the two alive bytes is stored, or a read returned a bus error. -/
def execCrcScanDone (u : Unit3) (s : State) : Host.Outcome State Fault Refusal :=
  .next (if s.getC CRC_STATUS_BUSY u = 0 then s
    else
      let a := s.getC CRC_START_ADDR u
      let n := s.getC CRC_LENGTH_BYTES u / 4
      match s.scanWords u a n with
      | none =>
        let s := s.scanEnds u 2
        match s.scanDenied u a n with
        | some p => s.deny (crcOwner u) p
        | none => s
      | some (s, ws) =>
        let al := (tabGet {} s.crcs (unitNum u) : CrcSt).alive
        let r := crcBy (s.getC CRC_CFG_POLY u) (ws.flatMap wordBytes ++ [al % 256, al / 256])
        ((s.putC CRC_RESULT_LO_RESULT (r % 2 ^ 32) u).updCrc u (fun x => { x with hi := r / 2 ^ 32, last := al })).scanEnds u 0)

end Sys2Proof.Machine
end

