-- ==== Sys2Proof/Machine/Dispatch.lean ====
section
/-! DEFINITION. One arm for every command: its meaning. -/

namespace Sys2Proof.Machine

open Sys2Proof

def exec (i : Instr) (s : State) : Host.Outcome State Fault Refusal :=
  match i with
  | .por o => Sys2Proof.Machine.execPor o s
  | .bor o vbat => Sys2Proof.Machine.execBor o vbat s
  | .resetN ns o => Sys2Proof.Machine.execResetN ns o s
  | .vbatRise t => Sys2Proof.Machine.execVbatRise t s
  | .mainRailsRemoved vbat t => Sys2Proof.Machine.execMainRailsRemoved vbat t s
  | .vbatDip t => Sys2Proof.Machine.execVbatDip t s
  | .vbatLow => Sys2Proof.Machine.execVbatLow s
  | .aonClkStop => Sys2Proof.Machine.execAonClkStop s
  | .pllLockLost c => Sys2Proof.Machine.execPllLockLost c s
  | .freqWindowEnd c count => Sys2Proof.Machine.execFreqWindowEnd c count s
  | .refJudgementWindowEnd c dev => Sys2Proof.Machine.execRefJudgementWindowEnd c dev s
  | .vsUndervoltage c => Sys2Proof.Machine.execVsUndervoltage c s
  | .supplyMonitorFault r high => Sys2Proof.Machine.execSupplyMonitorFault r high s
  | .vmzLow t => Sys2Proof.Machine.execVmzLow t s
  | .startComplete t => Sys2Proof.Machine.execStartComplete t s
  | .trialStartTimeout o => Sys2Proof.Machine.execTrialStartTimeout o s
  | .guardCycleBoundary t a b => Sys2Proof.Machine.execGuardCycleBoundary t a b s
  | .coordinateSnapshot t app => Sys2Proof.Machine.execCoordinateSnapshot t app s
  | .sessionWatchdogExpiry n t => Sys2Proof.Machine.execSessionWatchdogExpiry n t s
  | .aiContextStale c n t => Sys2Proof.Machine.execAiContextStale c n t s
  | .graphEvaluation usA usB => Sys2Proof.Machine.execGraphEvaluation usA usB s
  | .resultAgreement => Sys2Proof.Machine.execResultAgreement s
  | .guardCycleOverrun c => Sys2Proof.Machine.execGuardCycleOverrun c s
  | .stage => Sys2Proof.Machine.execStage s
  | .imageEntryWrite ok t => Sys2Proof.Machine.execImageEntryWrite ok t s
  | .commandWatchdogExpiry c t => Sys2Proof.Machine.execCommandWatchdogExpiry c t s
  | .angleEngineUpdate c t bad => Sys2Proof.Machine.execAngleEngineUpdate c t bad s
  | .monitoredStopCompletion => Sys2Proof.Machine.execMonitoredStopCompletion s
  | .standstillSet c t => Sys2Proof.Machine.execStandstillSet c t s
  | .sourceFault c n k => Sys2Proof.Machine.execSourceFault c n k s
  | .sourceFaultConfirmTimeout c n => Sys2Proof.Machine.execSourceFaultConfirmTimeout c n s
  | .sourceXcheckExcess c => Sys2Proof.Machine.execSourceXcheckExcess c s
  | .channelXcheckExcess => Sys2Proof.Machine.execChannelXcheckExcess s
  | .coordinatePlausibility c => Sys2Proof.Machine.execCoordinatePlausibility c s
  | .angleEngineOverrun c => Sys2Proof.Machine.execAngleEngineOverrun c s
  | .camPredictedEvent c n t => Sys2Proof.Machine.execCamPredictedEvent c n t s
  | .camCrcCheck c upset => Sys2Proof.Machine.execCamCrcCheck c upset s
  | .masterAngleFrame n f t => Sys2Proof.Machine.execMasterAngleFrame n f t s
  | .masterDevTimeout c => Sys2Proof.Machine.execMasterDevTimeout c s
  | .inputFilterChange c pin level => Sys2Proof.Machine.execInputFilterChange c pin level s
  | .discrepancyTimeout n => Sys2Proof.Machine.execDiscrepancyTimeout n s
  | .comparatorDisagreement pin => Sys2Proof.Machine.execComparatorDisagreement pin s
  | .testPulseDue n t => Sys2Proof.Machine.execTestPulseDue n t s
  | .testPulseTokenGrant high => Sys2Proof.Machine.execTestPulseTokenGrant high s
  | .testPulseStart t => Sys2Proof.Machine.execTestPulseStart t s
  | .testPulseWidthEnd a b tpLow => Sys2Proof.Machine.execTestPulseWidthEnd a b tpLow s
  | .testPulseSettleEnd high => Sys2Proof.Machine.execTestPulseSettleEnd high s
  | .sourceLowIdle n => Sys2Proof.Machine.execSourceLowIdle n s
  | .fastKill c n y => Sys2Proof.Machine.execFastKill c n y s
  | .fastKillRelease c n => Sys2Proof.Machine.execFastKillRelease c n s
  | .fastKillCrcCheck c upset => Sys2Proof.Machine.execFastKillCrcCheck c upset s
  | .outputTestDue key t => Sys2Proof.Machine.execOutputTestDue key t s
  | .outputTestTokenGrant t mvA mvB ma tjA tjB => Sys2Proof.Machine.execOutputTestTokenGrant t mvA mvB ma tjA tjB s
  | .outputTestPhaseStart o => Sys2Proof.Machine.execOutputTestPhaseStart o s
  | .outputTestPhaseEnd t o => Sys2Proof.Machine.execOutputTestPhaseEnd t o s
  | .outputTestVerifyEnd t o => Sys2Proof.Machine.execOutputTestVerifyEnd t o s
  | .outputReadbackFault unit t o limA limB => Sys2Proof.Machine.execOutputReadbackFault unit t o limA limB s
  | .currentLimitOpen c unit => Sys2Proof.Machine.execCurrentLimitOpen c unit s
  | .readbackDisagreement n => Sys2Proof.Machine.execReadbackDisagreement n s
  | .openLoad n => Sys2Proof.Machine.execOpenLoad n s
  | .edmTimeout n => Sys2Proof.Machine.execEdmTimeout n s
  | .graphIntegrityCheck c same => Sys2Proof.Machine.execGraphIntegrityCheck c same s
  | .furlTimerExpiry c t => Sys2Proof.Machine.execFurlTimerExpiry c t s
  | .furlArmRelease c => Sys2Proof.Machine.execFurlArmRelease c s
  | .timedStopCompletion t => Sys2Proof.Machine.execTimedStopCompletion t s
  | .stopTimeExceeded t => Sys2Proof.Machine.execStopTimeExceeded t s
  | .brakeOverlapEnd t => Sys2Proof.Machine.execBrakeOverlapEnd t s
  | .furlCrcCheck c upset => Sys2Proof.Machine.execFurlCrcCheck c upset s
  | .otherClass2Line c => Sys2Proof.Machine.execOtherClass2Line c s
  | .fcTestInjection c passed => Sys2Proof.Machine.execFcTestInjection c passed s
  | .fltPinMismatch c level => Sys2Proof.Machine.execFltPinMismatch c level s
  | .consequentialWindowEnd n => Sys2Proof.Machine.execConsequentialWindowEnd n s
  | .selftestWarn => Sys2Proof.Machine.execSelftestWarn s
  | .selftestOverdue => Sys2Proof.Machine.execSelftestOverdue s
  | .telltaleReport c t0 t1 => Sys2Proof.Machine.execTelltaleReport c t0 t1 s
  | .forcedMismatch c t0 t1 => Sys2Proof.Machine.execForcedMismatch c t0 t1 s
  | .latentDivergenceSweep c us diff => Sys2Proof.Machine.execLatentDivergenceSweep c us diff s
  | .asyncInputDisagreement c input cycles => Sys2Proof.Machine.execAsyncInputDisagreement c input cycles s
  | .debugAttach c e => Sys2Proof.Machine.execDebugAttach c e s
  | .debugDetach c => Sys2Proof.Machine.execDebugDetach c s
  | .debugReset c e => Sys2Proof.Machine.execDebugReset c e s
  | .appReset t => Sys2Proof.Machine.execAppReset t s
  | .patrolScrub m e => Sys2Proof.Machine.execPatrolScrub m e s
  | .stayAlignFrame c h offset => Sys2Proof.Machine.execStayAlignFrame c h offset s
  | .stayCoordFrame c h => Sys2Proof.Machine.execStayCoordFrame c h s
  | .stayInputFrame c h => Sys2Proof.Machine.execStayInputFrame c h s
  | .staySnapshotFrame c h testOk => Sys2Proof.Machine.execStaySnapshotFrame c h testOk s
  | .stayResultFrame c h crcSame => Sys2Proof.Machine.execStayResultFrame c h crcSame s
  | .stayTokenFrame c h t => Sys2Proof.Machine.execStayTokenFrame c h t s
  | .stayEventFrame c h e same => Sys2Proof.Machine.execStayEventFrame c h e same s
  | .stayHoldFrame c h => Sys2Proof.Machine.execStayHoldFrame c h s
  | .stayRepeatRequest c l seq => Sys2Proof.Machine.execStayRepeatRequest c l seq s
  | .stayDeadlineMiss c m => Sys2Proof.Machine.execStayDeadlineMiss c m s
  | .staySkewFault c => Sys2Proof.Machine.execStaySkewFault c s
  | .stayTrainingTimeout => Sys2Proof.Machine.execStayTrainingTimeout s
  | .stayAttributionWindowEnd => Sys2Proof.Machine.execStayAttributionWindowEnd s
  | .goaleFrameReceived p f t => Sys2Proof.Machine.execGoaleFrameReceived p f t s
  | .twinWindowEnd n t => Sys2Proof.Machine.execTwinWindowEnd n t s
  | .pathLost n p t => Sys2Proof.Machine.execPathLost n p t s
  | .networkLinkDown n => Sys2Proof.Machine.execNetworkLinkDown n s
  | .npeFault n => Sys2Proof.Machine.execNpeFault n s
  | .phyPoll n p1 p2 => Sys2Proof.Machine.execPhyPoll n p1 p2 s
  | .ptpMessage n o t => Sys2Proof.Machine.execPtpMessage n o t s
  | .ptpSyncTimeout n t => Sys2Proof.Machine.execPtpSyncTimeout n t s
  | .ptpPps n t => Sys2Proof.Machine.execPtpPps n t s
  | .arpRequest n t => Sys2Proof.Machine.execArpRequest n t s
  | .icmpEchoRequest n t => Sys2Proof.Machine.execIcmpEchoRequest n t s
  | .epochSwitchTime t => Sys2Proof.Machine.execEpochSwitchTime t s
  | .lineLinkTick t => Sys2Proof.Machine.execLineLinkTick t s
  | .groupStateFrame p a b peak after lost t => Sys2Proof.Machine.execGroupStateFrame p a b peak after lost t s
  | .portLost p t => Sys2Proof.Machine.execPortLost p t s
  | .relayFrameReceived p r crcOk peak after lost => Sys2Proof.Machine.execRelayFrameReceived p r crcOk peak after lost s
  | .relayFrameSend free => Sys2Proof.Machine.execRelayFrameSend free s
  | .xoffInChange p level t => Sys2Proof.Machine.execXoffInChange p level t s
  | .xoffInHeld p t => Sys2Proof.Machine.execXoffInHeld p t s
  | .lleFault => Sys2Proof.Machine.execLleFault s
  | .recFlushTimeout => Sys2Proof.Machine.execRecFlushTimeout s
  | .recClockTimeout => Sys2Proof.Machine.execRecClockTimeout s
  | .hlySetupDone msix testRead t => Sys2Proof.Machine.execHlySetupDone msix testRead t s
  | .bar0WriteDenied off => Sys2Proof.Machine.execBar0WriteDenied off s
  | .doorbellKick n => Sys2Proof.Machine.execDoorbellKick n s
  | .doorbellPoll o t => Sys2Proof.Machine.execDoorbellPoll o t s
  | .doorbellReadFailures => Sys2Proof.Machine.execDoorbellReadFailures s
  | .heartbeatTimeout t => Sys2Proof.Machine.execHeartbeatTimeout t s
  | .busMasterDisable => Sys2Proof.Machine.execBusMasterDisable s
  | .pcieLinkLoss => Sys2Proof.Machine.execPcieLinkLoss s
  | .pcieFlr => Sys2Proof.Machine.execPcieFlr s
  | .pcieD3hot => Sys2Proof.Machine.execPcieD3hot s
  | .irqDelayExpiry v t => Sys2Proof.Machine.execIrqDelayExpiry v t s
  | .eventRingWrite ok t => Sys2Proof.Machine.execEventRingWrite ok t s
  | .halyardFault => Sys2Proof.Machine.execHalyardFault s
  | .nop r d => Sys2Proof.Machine.execNop r d s
  | .getInfo r d => Sys2Proof.Machine.execGetInfo r d s
  | .readReg r d => Sys2Proof.Machine.execReadReg r d s
  | .restart r d imgOk => Sys2Proof.Machine.execRestart r d imgOk s
  | .shutdown r d => Sys2Proof.Machine.execShutdown r d s
  | .authChallenge r d => Sys2Proof.Machine.execAuthChallenge r d s
  | .authResponse r d a => Sys2Proof.Machine.execAuthResponse r d a s
  | .authEnd r d => Sys2Proof.Machine.execAuthEnd r d s
  | .refit r d im => Sys2Proof.Machine.execRefit r d im s
  | .fwStage r d f => Sys2Proof.Machine.execFwStage r d f s
  | .keyInstall r d k => Sys2Proof.Machine.execKeyInstall r d k s
  | .keyRemove r d => Sys2Proof.Machine.execKeyRemove r d s
  | .epochSwitch r d => Sys2Proof.Machine.execEpochSwitch r d s
  | .attest r d nonce => Sys2Proof.Machine.execAttest r d nonce s
  | .ringReset r d => Sys2Proof.Machine.execRingReset r d s
  | .setPoll r d => Sys2Proof.Machine.execSetPoll r d s
  | .authorityIdleTimeout r t => Sys2Proof.Machine.execAuthorityIdleTimeout r t s
  | .nonceLapse r t => Sys2Proof.Machine.execNonceLapse r t s
  | .authBackoffEnd t => Sys2Proof.Machine.execAuthBackoffEnd t s
  | .serviceDurationEnd t => Sys2Proof.Machine.execServiceDurationEnd t s
  | .refitStopped => Sys2Proof.Machine.execRefitStopped s
  | .refitApplied crcOk => Sys2Proof.Machine.execRefitApplied crcOk s
  | .refitCommitted imgOk => Sys2Proof.Machine.execRefitCommitted imgOk s
  | .adcConversionDone k raw t => Sys2Proof.Machine.execAdcConversionDone k raw t s
  | .adcRefXchkFault k => Sys2Proof.Machine.execAdcRefXchkFault k s
  | .iosInjectionTrigger k n => Sys2Proof.Machine.execIosInjectionTrigger k n s
  | .monitorBurst k => Sys2Proof.Machine.execMonitorBurst k s
  | .calibrationDue k request t => Sys2Proof.Machine.execCalibrationDue k request t s
  | .calibrationOverdue k t => Sys2Proof.Machine.execCalibrationOverdue k t s
  | .conversionTimeout k => Sys2Proof.Machine.execConversionTimeout k s
  | .adcCtxClr k n ownSc => Sys2Proof.Machine.execAdcCtxClr k n ownSc s
  | .lcPosLoRead ini c => Sys2Proof.Machine.execLcPosLoRead ini c s
  | .camOriginLoRead ini c => Sys2Proof.Machine.execCamOriginLoRead ini c s
  | .dsfLatchRead ini c k => Sys2Proof.Machine.execDsfLatchRead ini c k s
  | .adcSumLoRead ini k n => Sys2Proof.Machine.execAdcSumLoRead ini k n s
  | .timCountRead ini u k t => Sys2Proof.Machine.execTimCountRead ini u k t s
  | .timCapRead ini u k => Sys2Proof.Machine.execTimCapRead ini u k s
  | .crcResultLoRead ini u => Sys2Proof.Machine.execCrcResultLoRead ini u s
  | .mzwGtLoRead ini => Sys2Proof.Machine.execMzwGtLoRead ini s
  | .pwrAonLoRead ini t => Sys2Proof.Machine.execPwrAonLoRead ini t s
  | .readClear ini a => Sys2Proof.Machine.execReadClear ini a s
  | .fcRecAck ini c n => Sys2Proof.Machine.execFcRecAck ini c n s
  | .registerWrite ini width a v t => Sys2Proof.Machine.execRegisterWrite ini width a v t s
  | .timCmpWrite ini u n v t => Sys2Proof.Machine.execTimCmpWrite ini u n v t s
  | .timCmpDisarm ini u n t => Sys2Proof.Machine.execTimCmpDisarm ini u n t s
  | .timCountWrite ini u k v t => Sys2Proof.Machine.execTimCountWrite ini u k v t s
  | .timPCfgWrite ini k v t => Sys2Proof.Machine.execTimPCfgWrite ini k v t s
  | .timerCompareMatch u t => Sys2Proof.Machine.execTimerCompareMatch u t s
  | .timerOverflow u t => Sys2Proof.Machine.execTimerOverflow u t s
  | .tmioCaptureEdge k level t => Sys2Proof.Machine.execTmioCaptureEdge k level t s
  | .crcGo ini u => Sys2Proof.Machine.execCrcGo ini u s
  | .crcScanDone u => Sys2Proof.Machine.execCrcScanDone u s
  | .otpRead ini n => Sys2Proof.Machine.execOtpRead ini n s
  | .otpMread ini n => Sys2Proof.Machine.execOtpMread ini n s
  | .otpProgram ini n => Sys2Proof.Machine.execOtpProgram ini n s
  | .otpLock ini g => Sys2Proof.Machine.execOtpLock ini g s
  | .otpVoid ini g => Sys2Proof.Machine.execOtpVoid ini g s
  | .otpCommandDone o ok => Sys2Proof.Machine.execOtpCommandDone o ok s
  | .secFwCommit ini => Sys2Proof.Machine.execSecFwCommit ini s
  | .secFwLoad ini => Sys2Proof.Machine.execSecFwLoad ini s
  | .lotOpen t => Sys2Proof.Machine.execLotOpen t s
  | .lotClose t => Sys2Proof.Machine.execLotClose t s
  | .lotCut t => Sys2Proof.Machine.execLotCut t s
  | .readLot t => Sys2Proof.Machine.execReadLot t s
  | .readAudit t => Sys2Proof.Machine.execReadAudit t s
  | .readEvent t => Sys2Proof.Machine.execReadEvent t s
  | .readCert t => Sys2Proof.Machine.execReadCert t s
  | .timeHint t => Sys2Proof.Machine.execTimeHint t s
  | .mzwCommandRefused k t => Sys2Proof.Machine.execMzwCommandRefused k t s
  | .mirrorFrame t => Sys2Proof.Machine.execMirrorFrame t s
  | .mizzenLinkTimeout t => Sys2Proof.Machine.execMizzenLinkTimeout t s
  | .measuringFault k present t => Sys2Proof.Machine.execMeasuringFault k present t s
  | .sealChange broken t => Sys2Proof.Machine.execSealChange broken t s
  | .indicationLine t => Sys2Proof.Machine.execIndicationLine t s
  | .grandTotalCommit t => Sys2Proof.Machine.execGrandTotalCommit t s
  | .idRequest => Sys2Proof.Machine.execIdRequest s
  | .lotRequest n => Sys2Proof.Machine.execLotRequest n s
  | .audRequest n => Sys2Proof.Machine.execAudRequest n s
  | .evtRequest n => Sys2Proof.Machine.execEvtRequest n s
  | .setParameter k v => Sys2Proof.Machine.execSetParameter k v s
  | .commit t => Sys2Proof.Machine.execCommit t s
  | .fwload f t => Sys2Proof.Machine.execFwload f t s
  | .mzLockstepRestart t => Sys2Proof.Machine.execMzLockstepRestart t s
  | .bstFullRun => Sys2Proof.Machine.execBstFullRun s
  | .bstSelectedRun logic arrays => Sys2Proof.Machine.execBstSelectedRun logic arrays s
  | .bstRepair k ok => Sys2Proof.Machine.execBstRepair k ok s
  | .bstAbort => Sys2Proof.Machine.execBstAbort s
  | .ratlineComplete o => Sys2Proof.Machine.execRatlineComplete o s
  | .ringOscMeasure drift tMain tA tB t => Sys2Proof.Machine.execRingOscMeasure drift tMain tA tB t s
  | .slackHourly a b => Sys2Proof.Machine.execSlackHourly a b s
  | .slackReadingLow c ps => Sys2Proof.Machine.execSlackReadingLow c ps s
  | .fuseSweep low high words changed t => Sys2Proof.Machine.execFuseSweep low high words changed t s
  | .verifyAdjust us => Sys2Proof.Machine.execVerifyAdjust us s
  | .summaryCopy t => Sys2Proof.Machine.execSummaryCopy t s
  | .hmcFault => Sys2Proof.Machine.execHmcFault s
  | .sleepEntry t => Sys2Proof.Machine.execSleepEntry t s
  | .wake w t => Sys2Proof.Machine.execWake w t s
  | .crystalRestart => Sys2Proof.Machine.execCrystalRestart s
  | .vsRelease c => Sys2Proof.Machine.execVsRelease c s
  | .vmzReset t => Sys2Proof.Machine.execVmzReset t s
  | .vmzRelease t => Sys2Proof.Machine.execVmzRelease t s
  | .measuringWheelEdge a b t => Sys2Proof.Machine.execMeasuringWheelEdge a b t s
  | .encoderEdge n a b => Sys2Proof.Machine.execEncoderEdge n a b s
  | .recClkEdge => Sys2Proof.Machine.execRecClkEdge s
  | .junctionOvertemperature die temp => Sys2Proof.Machine.execJunctionOvertemperature die temp s
  | .secInternalFault => Sys2Proof.Machine.execSecInternalFault s
  | .jtagLifecycleRequest ok => Sys2Proof.Machine.execJtagLifecycleRequest ok s
  | .switchFrameForward n f t => Sys2Proof.Machine.execSwitchFrameForward n f t s

end Sys2Proof.Machine
end

