-- ==== Sys2Proof/Safety.lean ====
section
/-! DEFINITION. What the statements speak of: a command that completes, a latch a collector holds, and the invariant every step keeps. -/

namespace Sys2Proof.Machine

open Sys2Proof

/-- The command completes in `s` with a next state of which `P` holds. -/
def Answers (i : Instr) (s : State) (P : State → Prop) : Prop := ∃ t, exec i s = .next t ∧ P t

/-- Collector `c` holds latch `l` (R184, R185). -/
def State.faulted (s : State) (c : Chan) (l : Latch) : Prop := l ∈ (twoAt s.fc c).latches

/-- The latch an event leaves (R185). -/
def FaultEv.latch (e : FaultEv) : Latch := ⟨e.line, e.cls, e.chg, e.elem⟩

/-- The collectors an event goes to (R184). -/
def FaultEv.to (e : FaultEv) (c : Chan) : Prop := e.coll = .both ∨ e.coll = .own c

/-- No consequential window stands open in either collector (R190). -/
def State.quiet (s : State) : Prop := s.fc.a.windows = [] ∧ s.fc.b.windows = []

/-- In dual mode channel `c` accepts a Stay frame on lane `l`: complete, of the lane, in time, the next in sequence, and stamped with its own cycle or update (R215, R217). -/
def State.accepts (s : State) (c : Chan) (l : Lane) (h : StayHead) : Prop :=
  s.stayMode c = 1 ∧ (h.crcOk && h.lengthOk && typeOnLane l h.typ) = true ∧ h.inTime = true ∧ h.seq = (s.get (rxSeqFld l) c + 1) % 256 ∧ h.stamp = s.ownStamp c l

/-- Timer `k` alone is enabled in block `u`: it counts time, is nobody's slave and does not capture by its master (R335, R340). -/
def State.onlyTimer (s : State) (u : Unit3) (k : Nat) : Prop :=
  s.getT TIM_TM_t_CFG_EN u k = 1 ∧ s.getT TIM_TM_t_CFG_CLK u k = 0 ∧ s.getT TIM_TM_t_CFG_SLAVE u k = 0 ∧ s.getT TIM_TM_t_CFG_CAP_SRC u k ≠ 2 ∧ ∀ j : Fin 8, j.val ≠ k → s.getT TIM_TM_t_CFG_EN u j = 0

/-- The ticks timer `k` of block `u` makes up to time `t`, by its prescaler (R335). -/
def State.ticksDue (s : State) (u : Unit3) (k t : Nat) : Nat :=
  (tabGet 0 (s.tim u).phase k + (t - (s.tim u).last) / 10) / (s.getT TIM_TM_t_CFG_PRESC u k + 1)

/-- A block whose registers a plain access neither brings up to date nor protects. -/
def Block.still (b : Block) : Bool :=
  match b with
  | .tim | .otp | .fc | .cnm | .mzw | .crc => false
  | _ => true

/-- The commands that may change RAM. -/
def memWriters : Instr → Bool
  | .por .. | .bor .. | .resetN .. | .vbatRise .. | .mainRailsRemoved .. | .vbatDip .. | .trialStartTimeout .. | .registerWrite ..
  | .ratlineComplete .. => true
  | _ => false

/-- The commands that may change the running image, a waiting Refit, the functions a Refit holds. -/
def progWriters : Instr → Bool
  | .por .. | .bor .. | .resetN .. | .mainRailsRemoved .. | .trialStartTimeout .. | .restart .. | .refit .. | .refitApplied ..
  | .refitCommitted .. | .ratlineComplete .. => true
  | _ => false

/-- The commands that may change the power state. -/
def powerWriters : Instr → Bool
  | .por .. | .bor .. | .resetN .. | .vbatRise .. | .mainRailsRemoved .. | .vbatDip .. | .trialStartTimeout .. => true
  | _ => false

/-- The commands that may change a switch of epoch that waits. -/
def epochAtWriters : Instr → Bool
  | .por .. | .bor .. | .resetN .. | .mainRailsRemoved .. | .trialStartTimeout .. | .epochSwitchTime .. | .epochSwitch .. => true
  | _ => false

/-- The commands that may change the service session. -/
def serviceWriters : Instr → Bool
  | .por .. | .bor .. | .resetN .. | .mainRailsRemoved .. | .trialStartTimeout .. | .doorbellReadFailures .. | .heartbeatTimeout .. | .busMasterDisable ..
  | .pcieLinkLoss .. | .pcieFlr .. | .pcieD3hot .. | .restart .. | .authResponse .. | .authEnd .. | .authorityIdleTimeout .. | .serviceDurationEnd ..
  | .refitCommitted .. | .ratlineComplete .. => true
  | _ => false

/-- The commands that may change the loss of the host. -/
def hostLostWriters : Instr → Bool
  | .por .. | .bor .. | .resetN .. | .mainRailsRemoved .. | .trialStartTimeout .. | .doorbellPoll .. | .doorbellReadFailures .. | .heartbeatTimeout ..
  | .busMasterDisable .. | .pcieLinkLoss .. | .pcieFlr .. | .pcieD3hot .. => true
  | _ => false

/-- The commands that may change the firewall. -/
def fwWriters : Instr → Bool
  | .por .. | .bor .. | .resetN .. | .mainRailsRemoved .. | .trialStartTimeout .. | .hlySetupDone .. | .doorbellReadFailures .. | .heartbeatTimeout ..
  | .busMasterDisable .. | .pcieLinkLoss .. | .pcieFlr .. | .pcieD3hot .. | .restart .. | .authResponse .. | .authEnd .. | .authorityIdleTimeout ..
  | .serviceDurationEnd .. | .refitCommitted .. | .secFwCommit .. | .ratlineComplete .. => true
  | _ => false

/-- The commands that may change the safe inputs. -/
def inpWriters : Instr → Bool
  | .por .. | .bor .. | .resetN .. | .mainRailsRemoved .. | .trialStartTimeout .. | .guardCycleBoundary .. | .inputFilterChange .. | .debugReset ..
  | .stayInputFrame .. | .restart .. | .refitCommitted .. | .ratlineComplete .. => true
  | _ => false

/-- The commands that may change the input pairs. -/
def pairsWriters : Instr → Bool
  | .por .. | .bor .. | .resetN .. | .mainRailsRemoved .. | .trialStartTimeout .. | .guardCycleBoundary .. | .graphEvaluation .. | .discrepancyTimeout ..
  | .testPulseSettleEnd .. | .stayInputFrame .. | .restart .. | .refitApplied .. | .refitCommitted .. | .ratlineComplete .. => true
  | _ => false

/-- The commands that may change the logic graph. -/
def graphWriters : Instr → Bool
  | .por .. | .bor .. | .resetN .. | .mainRailsRemoved .. | .trialStartTimeout .. | .guardCycleBoundary .. | .coordinateSnapshot .. | .graphEvaluation ..
  | .resultAgreement .. | .debugReset .. | .stayAlignFrame .. | .stayCoordFrame .. | .stayInputFrame .. | .staySnapshotFrame .. | .stayResultFrame .. | .stayTokenFrame ..
  | .stayEventFrame .. | .stayHoldFrame .. | .stayDeadlineMiss .. | .staySkewFault .. | .restart .. | .refitCommitted .. | .ratlineComplete .. => true
  | _ => false

/-- The commands that may change the Stay link. -/
def stayWriters : Instr → Bool
  | .por .. | .bor .. | .resetN .. | .mainRailsRemoved .. | .trialStartTimeout .. | .forcedMismatch .. | .debugAttach .. | .stayAlignFrame ..
  | .stayCoordFrame .. | .stayInputFrame .. | .staySnapshotFrame .. | .stayResultFrame .. | .stayTokenFrame .. | .stayEventFrame .. | .stayHoldFrame .. | .stayDeadlineMiss ..
  | .staySkewFault .. | .stayAttributionWindowEnd .. | .restart .. | .refitCommitted .. | .ratlineComplete .. | .sleepEntry .. | .wake .. => true
  | _ => false

/-- The commands that may change the Goale sessions. -/
def sesWriters : Instr → Bool
  | .por .. | .bor .. | .resetN .. | .mainRailsRemoved .. | .trialStartTimeout .. | .coordinateSnapshot .. | .sessionWatchdogExpiry .. | .stage ..
  | .goaleFrameReceived .. | .twinWindowEnd .. | .pathLost .. | .restart .. | .refitCommitted .. | .ratlineComplete .. => true
  | _ => false

/-- The commands that may change the networks. -/
def netsWriters : Instr → Bool
  | .por .. | .bor .. | .resetN .. | .mainRailsRemoved .. | .trialStartTimeout .. | .angleEngineUpdate .. | .masterAngleFrame .. | .arpRequest ..
  | .icmpEchoRequest .. | .restart .. | .refitCommitted .. | .ratlineComplete .. | .switchFrameForward .. => true
  | _ => false

/-- The commands that may change the Line Link. -/
def linkWriters : Instr → Bool
  | .por .. | .bor .. | .resetN .. | .mainRailsRemoved .. | .trialStartTimeout .. | .guardCycleBoundary .. | .coordinateSnapshot .. | .lineLinkTick ..
  | .groupStateFrame .. | .portLost .. | .relayFrameSend .. | .xoffInChange .. | .lleFault .. | .restart .. | .refitCommitted .. | .ratlineComplete .. => true
  | _ => false

/-- The commands that may change the time of the networks. -/
def ptpWriters : Instr → Bool
  | .por .. | .bor .. | .resetN .. | .mainRailsRemoved .. | .trialStartTimeout .. | .npeFault .. | .ptpMessage .. | .ptpSyncTimeout ..
  | .ptpPps .. | .restart .. | .refitCommitted .. | .ratlineComplete .. => true
  | _ => false

/-- The commands that may change the converters. -/
def adcsWriters : Instr → Bool
  | .por .. | .bor .. | .resetN .. | .mainRailsRemoved .. | .trialStartTimeout .. | .angleEngineUpdate .. | .camPredictedEvent .. | .restart ..
  | .refitCommitted .. | .adcConversionDone .. | .iosInjectionTrigger .. | .monitorBurst .. | .calibrationDue .. | .conversionTimeout .. | .adcCtxClr .. | .ratlineComplete ..
  | .sleepEntry .. | .wake .. => true
  | _ => false

/-- The commands that may change the timers. -/
def timsWriters : Instr → Bool
  | .por .. | .bor .. | .resetN .. | .mainRailsRemoved .. | .trialStartTimeout .. | .angleEngineUpdate .. | .camPredictedEvent .. | .appReset ..
  | .readReg .. | .restart .. | .refitCommitted .. | .lcPosLoRead .. | .camOriginLoRead .. | .dsfLatchRead .. | .adcSumLoRead .. | .timCountRead ..
  | .timCapRead .. | .crcResultLoRead .. | .mzwGtLoRead .. | .pwrAonLoRead .. | .readClear .. | .registerWrite .. | .timCmpWrite .. | .timCmpDisarm ..
  | .timCountWrite .. | .timPCfgWrite .. | .timerCompareMatch .. | .timerOverflow .. | .tmioCaptureEdge .. | .crcScanDone .. | .ratlineComplete .. | .sleepEntry ..
  | .wake .. => true
  | _ => false

/-- The commands that may change the check-value units. -/
def crcsWriters : Instr → Bool
  | .por .. | .bor .. | .resetN .. | .mainRailsRemoved .. | .trialStartTimeout .. | .appReset .. | .restart .. | .refitCommitted ..
  | .crcGo .. | .crcScanDone .. | .ratlineComplete .. => true
  | _ => false

/-- The commands that may change the Mizzen die. -/
def mzWriters : Instr → Bool
  | .por .. | .bor .. | .resetN .. | .mainRailsRemoved .. | .vmzLow .. | .trialStartTimeout .. | .graphEvaluation .. | .registerWrite ..
  | .lotOpen .. | .lotClose .. | .lotCut .. | .readLot .. | .readAudit .. | .readEvent .. | .readCert .. | .timeHint ..
  | .mzwCommandRefused .. | .mirrorFrame .. | .mizzenLinkTimeout .. | .measuringFault .. | .sealChange .. | .indicationLine .. | .grandTotalCommit .. | .idRequest ..
  | .lotRequest .. | .audRequest .. | .evtRequest .. | .setParameter .. | .commit .. | .fwload .. | .mzLockstepRestart .. | .sleepEntry ..
  | .vmzReset .. | .vmzRelease .. | .measuringWheelEdge .. => true
  | _ => false

/-- The address is one of the registers of block `b`: of either view, or of the units at APP (R31). -/
def inBlock (b : Block) (a : Nat) : Bool :=
  a / 0x10000 == 0x4000 + blockNum b || a / 0x10000 == 0x5000 + blockNum b || (a / 0x10000 == 0x6000 && b == .tim) || (a / 0x10000 == 0x6001 && b == .crc)

/-- The blocks whose registers a command may write, directly or by a fault it raises. Answers none for what may write any: a register access, a start of the main die, a Refit, a debugger's reset, a Ratline run that ends in a reset. -/
def regBlocks : Instr → Option (List Block)
  | .vmzLow .. | .stage .. | .monitoredStopCompletion .. | .inputFilterChange .. | .testPulseDue .. | .outputTestDue .. | .timedStopCompletion .. | .brakeOverlapEnd ..
  | .ptpPps .. | .doorbellKick .. | .irqDelayExpiry .. | .nonceLapse .. | .adcCtxClr .. | .measuringFault .. | .sealChange .. | .indicationLine ..
  | .grandTotalCommit .. | .idRequest .. | .lotRequest .. | .audRequest .. | .evtRequest .. | .setParameter .. | .commit .. | .fwload ..
  | .mzLockstepRestart .. | .bstAbort .. | .summaryCopy .. | .vmzReset .. | .vmzRelease .. | .measuringWheelEdge .. => some []
  | .iosInjectionTrigger .. | .monitorBurst .. | .calibrationDue .. => some [.adc]
  | .bstFullRun .. | .bstSelectedRun .. => some [.bst]
  | .hmcFault .. => some [.cnm]
  | .imageEntryWrite .. | .eventRingWrite .. | .nop .. | .authChallenge .. | .ringReset .. | .setPoll .. => some [.hly]
  | .standstillSet .. | .encoderEdge .. => some [.lc]
  | .resultAgreement .. | .debugDetach .. | .stayRepeatRequest .. => some [.lks]
  | .lineLinkTick .. | .relayFrameSend .. | .xoffInChange .. | .recFlushTimeout .. | .recClkEdge .. => some [.llk]
  | .lotOpen .. | .lotClose .. | .lotCut .. | .readLot .. | .readAudit .. | .readEvent .. | .readCert .. | .timeHint ..
  | .mirrorFrame .. | .mizzenLinkTimeout .. => some [.mzw]
  | .masterAngleFrame .. | .twinWindowEnd .. | .phyPoll .. | .ptpMessage .. | .ptpSyncTimeout .. | .arpRequest .. | .icmpEchoRequest .. | .switchFrameForward .. => some [.net]
  | .authBackoffEnd .. => some [.otp]
  | .refJudgementWindowEnd .. | .crystalRestart .. => some [.pwr]
  | .testPulseStart .. => some [.sin]
  | .timerCompareMatch .. | .timerOverflow .. | .tmioCaptureEdge .. => some [.tim]
  | .selftestWarn .. | .selftestOverdue .. | .doorbellPoll .. | .getInfo .. | .attest .. => some [.fc, .hly]
  | .authEnd .. | .epochSwitch .. | .authorityIdleTimeout .. | .serviceDurationEnd .. => some [.hly, .otp]
  | .refitStopped .. => some [.lge, .hly]
  | .goaleFrameReceived .. | .epochSwitchTime .. => some [.net, .hly]
  | .bstRepair .. | .jtagLifecycleRequest .. => some [.otp, .bst]
  | .testPulseTokenGrant .. => some [.sin, .lks]
  | .fastKillRelease .. => some [.sin, .sout]
  | .appReset .. => some [.tim, .crc]
  | .fwStage .. => some [.hly, .otp, .bst]
  | .camPredictedEvent .. => some [.llk, .adc, .tim]
  | .keyInstall .. | .keyRemove .. => some [.net, .hly, .otp]
  | .otherClass2Line .. => some [.sys, .fc, .hly]
  | .stayAlignFrame .. | .stayTokenFrame .. | .staySkewFault .. => some [.fc, .lks, .llk, .hly]
  | .edmTimeout .. | .stopTimeExceeded .. | .networkLinkDown .. | .groupStateFrame .. | .portLost .. | .relayFrameReceived .. | .xoffInHeld .. | .lleFault ..
  | .recClockTimeout .. | .halyardFault .. => some [.sys, .fc, .llk, .hly]
  | .stayHoldFrame .. => some [.fc, .dsf, .lks, .llk, .hly]
  | .stayCoordFrame .. => some [.fc, .lc, .lks, .llk, .hly]
  | .stayResultFrame .. => some [.fc, .lge, .lks, .llk, .hly]
  | .startComplete .. => some [.sys, .fc, .hly, .otp, .bst]
  | .masterDevTimeout .. => some [.sys, .fc, .lc, .llk, .hly]
  | .aiContextStale .. | .adcRefXchkFault .. | .calibrationOverdue .. | .conversionTimeout .. => some [.sys, .fc, .llk, .hly, .adc]
  | .ringOscMeasure .. | .slackHourly .. => some [.sys, .fc, .llk, .hly, .cnm]
  | .mzwCommandRefused .. => some [.sys, .fc, .llk, .hly, .mzw]
  | .doorbellReadFailures .. | .heartbeatTimeout .. | .busMasterDisable .. | .pcieLinkLoss .. | .pcieFlr .. | .pcieD3hot .. | .authResponse .. => some [.sys, .fc, .llk, .hly, .otp]
  | .vbatLow .. | .aonClkStop .. => some [.sys, .fc, .llk, .hly, .pwr]
  | .sessionWatchdogExpiry .. | .pathLost .. | .npeFault .. => some [.sys, .fc, .net, .llk, .hly]
  | .discrepancyTimeout .. | .comparatorDisagreement .. | .testPulseSettleEnd .. | .sourceLowIdle .. => some [.sys, .fc, .sin, .llk, .hly]
  | .furlArmRelease .. => some [.sys, .fc, .sout, .dsf, .hly]
  | .openLoad .. => some [.sys, .fc, .sout, .llk, .hly]
  | .stayInputFrame .. | .stayDeadlineMiss .. => some [.fc, .sin, .sout, .lks, .llk, .hly]
  | .fuseSweep .. => some [.sys, .fc, .llk, .hly, .otp, .cnm]
  | .fastKill .. => some [.sys, .fc, .sin, .sout, .llk, .hly]
  | .vsRelease .. => some [.sys, .fc, .sout, .dsf, .hly, .pwr]
  | .commandWatchdogExpiry .. => some [.sys, .fc, .sout, .dsf, .llk, .hly]
  | .shutdown .. => some [.sys, .fc, .sout, .llk, .hly, .bst]
  | .verifyAdjust .. => some [.sys, .fc, .sout, .llk, .hly, .cnm]
  | .coordinateSnapshot .. => some [.sys, .fc, .lks, .net, .llk, .hly, .adc]
  | .adcConversionDone .. => some [.sys, .fc, .llk, .hly, .adc, .cnm, .pwr]
  | .otpCommandDone .. => some [.sys, .fc, .net, .llk, .hly, .otp, .bst]
  | .guardCycleOverrun .. | .sourceFaultConfirmTimeout .. | .coordinatePlausibility .. | .angleEngineOverrun .. | .graphIntegrityCheck .. | .furlTimerExpiry .. | .furlCrcCheck .. | .fcTestInjection ..
  | .fltPinMismatch .. | .consequentialWindowEnd .. | .telltaleReport .. | .forcedMismatch .. | .latentDivergenceSweep .. | .asyncInputDisagreement .. | .debugAttach .. | .staySnapshotFrame ..
  | .stayTrainingTimeout .. | .stayAttributionWindowEnd .. | .slackReadingLow .. | .junctionOvertemperature .. | .secInternalFault .. => some [.sys, .fc, .sout, .dsf, .lks, .llk, .hly]
  | .outputTestTokenGrant .. => some [.sys, .fc, .sout, .lks, .llk, .hly, .cnm]
  | .sleepEntry .. => some [.sys, .sout, .lks, .llk, .hly, .tim, .mzw]
  | .sourceFault .. | .sourceXcheckExcess .. | .channelXcheckExcess .. | .camCrcCheck .. | .stayEventFrame .. => some [.sys, .fc, .lc, .sout, .dsf, .lks, .llk, .hly]
  | .testPulseWidthEnd .. | .fastKillCrcCheck .. | .outputReadbackFault .. | .currentLimitOpen .. | .readbackDisagreement .. => some [.sys, .fc, .sin, .sout, .dsf, .lks, .llk, .hly]
  | .patrolScrub .. => some [.sys, .fc, .sout, .dsf, .lks, .llk, .hly, .cnm]
  | .hlySetupDone .. | .bar0WriteDenied .. | .fcRecAck .. | .otpRead .. | .otpMread .. | .otpProgram .. | .otpLock .. | .otpVoid ..
  | .secFwCommit .. | .secFwLoad .. => some [.sys, .fc, .sout, .dsf, .lks, .llk, .hly, .otp]
  | .pllLockLost .. | .vsUndervoltage .. | .supplyMonitorFault .. => some [.sys, .fc, .sout, .dsf, .lks, .llk, .hly, .pwr]
  | .wake .. => some [.sys, .fc, .lc, .lks, .net, .hly, .adc, .tim, .pwr]
  | .guardCycleBoundary .. | .outputTestPhaseStart .. | .outputTestPhaseEnd .. | .outputTestVerifyEnd .. => some [.sys, .fc, .sin, .sout, .dsf, .lks, .llk, .hly, .cnm]
  | .freqWindowEnd .. => some [.sys, .fc, .sout, .dsf, .lks, .llk, .hly, .cnm, .pwr]
  | .crcGo .. => some [.sys, .fc, .sout, .dsf, .lks, .llk, .hly, .crc, .otp]
  | .timCmpWrite .. | .timCmpDisarm .. | .timCountWrite .. | .timPCfgWrite .. => some [.sys, .fc, .sout, .dsf, .lks, .llk, .hly, .tim, .otp]
  | .graphEvaluation .. => some [.sys, .fc, .lc, .sin, .sout, .lge, .llk, .hly, .mzw, .bst]
  | .angleEngineUpdate .. => some [.sys, .fc, .lc, .sout, .dsf, .lks, .llk, .hly, .adc, .tim]
  | .por .. | .bor .. | .resetN .. | .vbatRise .. | .mainRailsRemoved .. | .vbatDip .. | .trialStartTimeout .. | .debugReset ..
  | .readReg .. | .restart .. | .refit .. | .refitApplied .. | .refitCommitted .. | .lcPosLoRead .. | .camOriginLoRead .. | .dsfLatchRead ..
  | .adcSumLoRead .. | .timCountRead .. | .timCapRead .. | .crcResultLoRead .. | .mzwGtLoRead .. | .pwrAonLoRead .. | .readClear .. | .registerWrite ..
  | .crcScanDone .. | .ratlineComplete .. => none

/-- The invariant every step keeps: memory has its canonical form and lists bytes of RAM only (R31). -/
def State.Inv (s : State) : Prop := Memory.wf s.mem ∧ ∀ e ∈ s.mem, placeOf e.1 = .ram

end Sys2Proof.Machine
end

