-- ==== Sys2Proof/Certificates/Slice0/Obligations.lean ====
section
/-! DEFINITION. The statements for the provers. A clause about one command says that it answers a next state under conditions on the state and the operands alone, and what that state holds. -/

open Sys2Proof Sys2Proof.Machine

/-- Derived from R283. For every command c and state whose queue begins with c, a step is exec of c on the state with the rest of the queue. -/
def Obligations.StepRunsCommand : Prop :=
  ∀ (c : Instr) (q : List Instr) (s : State), s.pending = c :: q → step s = exec c { s with pending := q }

/-- Derived from R283. With an empty queue a step leaves the state as it is: the model's choice, log entry 2. -/
def Obligations.StepIdles : Prop :=
  ∀ s : State, s.pending = [] → step s = .next s

/-- Derived from R5, R9. After reset no command waits, RAM lists nothing, every register reads its reset word but for the words the chip fixes, the device is in INIT, every output switch and low-side switch is open, and the fault collectors and the Stay link are clear. That RAM then reads 0 is the model's choice, log entry 10. -/
def Obligations.ResetState : Prop :=
  State.reset.pending = [] ∧ State.reset.mem = [] ∧ (∀ (rst a : Nat), (∀ e ∈ fixedWords, e.1 ≠ a) → regWord State.reset.regs rst a = BitVec.ofNat 32 rst) ∧ State.reset.dev = stINIT ∧ State.reset.closed .a = 0 ∧ State.reset.closed .b = 0 ∧ State.reset.lsClosed = 0 ∧ State.reset.fc = ⟨{}, {}⟩ ∧ State.reset.stay = ⟨{}, {}⟩

/-- Derived from R31. The memory of the reset state has its canonical form and lists bytes of RAM only. -/
def Obligations.ResetHasInv : Prop :=
  State.reset.Inv

/-- Derived from R31, R35. Whatever command runs, the memory keeps its canonical form (addresses strictly rise, no listed byte equals what an unlisted address reads as) and lists bytes of RAM only. -/
def Obligations.StepKeepsInv : Prop :=
  ∀ s t : State, s.Inv → step s = .next t → t.Inv

/-- Derived from R283. Every command of the table answers a next state in every state, and none adds to or takes from the commands that wait. -/
def Obligations.CommandsComplete : Prop :=
  ∀ (i : Instr) (s : State), Answers i s (fun t => t.pending = s.pending)

/-- Derived from R31, R35, R153, R355, R431. Every command but those listed leaves every byte of memory, the running image and its Refit, the power state, a waiting epoch switch, the service session, the loss of the host and the firewall unchanged. -/
def Obligations.ProgramFrames : Prop :=
  ∀ (i : Instr) (s t : State), exec i s = .next t → (memWriters i = false → t.mem = s.mem) ∧ (progWriters i = false → t.prog = s.prog) ∧ (progWriters i = false → t.refit = s.refit) ∧ (progWriters i = false → t.refitHeld = s.refitHeld) ∧ (powerWriters i = false → t.power = s.power) ∧ (epochAtWriters i = false → t.epochAt = s.epochAt) ∧ (serviceWriters i = false → t.service = s.service) ∧ (hostLostWriters i = false → t.hostLost = s.hostLost) ∧ (fwWriters i = false → t.fw = s.fw)

/-- Derived from R80, R130, R215. Every command but those listed leaves the safe inputs and their pairs, the state of the logic graph, and the Stay link unchanged. -/
def Obligations.SafetyFrames : Prop :=
  ∀ (i : Instr) (s t : State), exec i s = .next t → (inpWriters i = false → t.inp = s.inp) ∧ (pairsWriters i = false → t.pairs = s.pairs) ∧ (graphWriters i = false → t.graph = s.graph) ∧ (stayWriters i = false → t.stay = s.stay)

/-- Derived from R229, R240, R257. Every command but those listed leaves the Goale sessions, the networks, the Line Link and the network time unchanged. -/
def Obligations.NetworkFrames : Prop :=
  ∀ (i : Instr) (s t : State), exec i s = .next t → (sesWriters i = false → t.ses = s.ses) ∧ (netsWriters i = false → t.nets = s.nets) ∧ (linkWriters i = false → t.link = s.link) ∧ (ptpWriters i = false → t.ptp = s.ptp)

/-- Derived from R12, R314, R338, R346. Every command but those listed leaves the converters, the timers, the check-value units and the Mizzen die unchanged. -/
def Obligations.MeasuringFrames : Prop :=
  ∀ (i : Instr) (s t : State), exec i s = .next t → (adcsWriters i = false → t.adcs = s.adcs) ∧ (timsWriters i = false → t.tims = s.tims) ∧ (crcsWriters i = false → t.crcs = s.crcs) ∧ (mzWriters i = false → t.mz = s.mz)

/-- Derived from R31, R184. Every register outside the blocks listed for a command reads the same word before and after it, for each of the 213 commands that have a list. -/
def Obligations.RegisterFrames : Prop :=
  ∀ (i : Instr) (s t : State) (B : List Block), exec i s = .next t → regBlocks i = some B → ∀ a : Nat, (∀ b ∈ B, inBlock b a = false) → ∀ rst : Nat, regWord t.regs rst a = regWord s.regs rst a

/-- Derived from R30, R426, R184. A failed collector test outside SLEEP, a SEC internal fault, a junction above 135 °C and a main-die rail above its range each open every output switch of both I/O dies and every low-side switch. The 60 µs of R30 are time, which the model leaves out. -/
def Obligations.FatalKill : Prop :=
  (∀ (c : Chan) (s : State), s.dev ≠ stSLEEP → Answers (.fcTestInjection c false) s (fun t => t.die.a.heldFatal = 0xFFFF ∧ t.die.b.heldFatal = 0xFFFF ∧ t.die.b.lsHeld = 0xF)) ∧
  (∀ (s : State), Answers (.secInternalFault) s (fun t => t.die.a.heldFatal = 0xFFFF ∧ t.die.b.heldFatal = 0xFFFF ∧ t.die.b.lsHeld = 0xF)) ∧
  (∀ (d : Fin 3) (temp : Int) (s : State), 1350 < temp → Answers (.junctionOvertemperature d temp) s (fun t => t.die.a.heldFatal = 0xFFFF ∧ t.die.b.heldFatal = 0xFFFF ∧ t.die.b.lsHeld = 0xF)) ∧
  (∀ (r : Rail) (s : State), mainRail r = true → Answers (.supplyMonitorFault r true) s (fun t => t.die.a.heldFatal = 0xFFFF ∧ t.die.b.heldFatal = 0xFFFF ∧ t.die.b.lsHeld = 0xF))

/-- Derived from R190. A failed graph check (E41) that a consequential window of its collector masks sets its bit of FC_CONSEQ_HI and counts once in FC_CONSEQ_COUNT; the latches of both collectors, FC_FIRST and the switches stay as they are: it is not escalated. -/
def Obligations.MaskedLine : Prop :=
  ∀ (c d : Chan) (s : State), s.masks c 41 = true →
  Answers (.graphIntegrityCheck c false) s (fun t => (twoAt t.fc d).latches = (twoAt s.fc d).latches ∧ bit (t.get FC_CONSEQ_HI_LINES c) 9 = true ∧ t.get FC_CONSEQ_COUNT_COUNT c = min (s.get FC_CONSEQ_COUNT_COUNT c + 1) 65535 ∧ t.get FC_FIRST_LINE c = s.get FC_FIRST_LINE c ∧ t.die = s.die)

/-- Derived from R126, R134. NADD, NSUB and NMUL saturate at 32 bits; AND is 1 when every input is, OR when one is; SR has R dominant and holds its value with neither input. -/
def Obligations.GeneralBlocks : Prop :=
  (∀ (e : BlkEnv) (ps : List Int) (x : InstSt) (a b : Int),
  (evalBlock e 0x11 ps [some a, some b] x).outs = [max (-2147483648) (min (a + b) 2147483647)] ∧
  (evalBlock e 0x12 ps [some a, some b] x).outs = [max (-2147483648) (min (a - b) 2147483647)] ∧
  (evalBlock e 0x13 ps [some a, some b] x).outs = [max (-2147483648) (min (a * b) 2147483647)]) ∧
  (∀ (e : BlkEnv) (ps : List Int) (x : InstSt) (ins : List (Option Int)),
  ((evalBlock e 0x01 ps ins x).outs = [1] ↔ ∀ v ∈ ins, v.getD 0 ≠ 0) ∧ ((evalBlock e 0x02 ps ins x).outs = [1] ↔ ∃ v ∈ ins, v.getD 0 ≠ 0)) ∧
  (∀ (e : BlkEnv) (ps : List Int) (x : InstSt) (v : Int),
  (evalBlock e 0x05 ps [some v, some 1] x).outs = [0] ∧ (evalBlock e 0x05 ps [some 1, some 0] x).outs = [1] ∧ (evalBlock e 0x05 ps [some 0, some 0] x).outs = [if x.q then 1 else 0])

/-- Derived from R131, R134. From an input that was 0, evaluation k + n of a TON whose input is 1 in every one gives 1 exactly when n whole guard cycles cover PT, rounded up. -/
def Obligations.OnDelay : Prop :=
  ∀ (e : BlkEnv) (ps : List Int) (x : InstSt) (n : Nat), x.k = 0 →
  ((List.range (n + 1)).foldl (fun (r : BlkOut) _ => evalBlock e 0x08 ps [some 1] r.st) { outs := [], st := x }).outs = [if ((parAt ps 0).toNat * 1000000 + e.tg - 1) / e.tg ≤ n then 1 else 0]

/-- Derived from R129, R142. The OUT of a safety function in its fault state, or held by a Refit, adds no output to the command and shows 0. -/
def Obligations.HeldFunctionIsOff : Prop :=
  ∀ (s : State) (c : Chan) (n : Nat) (e : Ev) (i : Inst), s.prog.insts.find? (fun p => p.1 == n) = some (n, i) → i.code = 0x30 → s.sfHeld c i.sf = true → s.stayMode c ≠ 2 →
  (s.evalInst c n e).outs = e.outs ∧ (tabGet {} (s.evalInst c n e).insts n).q = false

/-- Derived from R347. Over the nine ASCII bytes 123456789 the four algorithms of CRC_CFG.POLY give the check values of the table. -/
def Obligations.CheckValues : Prop :=
  crc32 [49, 50, 51, 52, 53, 54, 55, 56, 57] = 0xCBF43926 ∧ crc32c [49, 50, 51, 52, 53, 54, 55, 56, 57] = 0xE3069283 ∧ crc16 [49, 50, 51, 52, 53, 54, 55, 56, 57] = 0x29B1 ∧ crc64 [49, 50, 51, 52, 53, 54, 55, 56, 57] = 0x6C40DF5F0B497347

/-- Derived from R312, R314, R315, R321, R325. What converters do when a conversion, a trigger or a due time arrives. -/
def Obligations.AdcConversions : Prop :=
  (∀ (k : Fin 4) (raw : BitVec 16) (t step : Nat) (s : State), (s.adc k).run = .cal step → step < 36 → (s.adc k).queue = [] → Answers (.adcConversionDone k raw t) s (fun t => (t.adc k).run = .cal (step + 1) ∧ (t.adc k).m1 = (if 2 ≤ step ∧ step < 18 then (s.adc k).m1 + raw.toNat else (s.adc k).m1) ∧ (t.adc k).m2 = (if 20 ≤ step then (s.adc k).m2 + raw.toNat else (s.adc k).m2))) ∧
  (∀ (k : Fin 4) (raw : BitVec 16) (t n left : Nat) (s : State), (s.adc k).run = .inj n (left + 1) → Answers (.adcConversionDone k raw t) s (fun t => (t.adc k).run = .inj n left ∧ (t.adc k).last = some (s.ctxInput k n) ∧ (t.adc k).ctxs = (s.adc k).ctxs)) ∧
  (∀ (k : Fin 4) (n : Fin 56) (s : State), s.getA ADC_CTX_n_CFG_EN k n = 1 → s.getA ADC_CTX_n_CFG_IOS_INJ k n = 1 → (s.adc k).queue.length < 4 → (s.adc k).run ≠ .idle → Answers (.iosInjectionTrigger k n) s (fun t => (t.adc k).queue = (s.adc k).queue ++ [n.val])) ∧
  (∀ (k : Fin 4) (s : State), s.getA ADC_CFG_EN k ≠ 0 → (s.adc k).run ≠ .idle → Answers (.monitorBurst k) s (fun t => (t.adc k).monDue = true ∧ (t.adc k).run = (s.adc k).run)) ∧
  (∀ (k : Fin 4) (t : Nat) (s : State), s.getA ADC_CFG_EN k ≠ 0 → (s.adc k).run ≠ .idle → Answers (.calibrationDue k true t) s (fun t => (t.adc k).calDue = true))

/-- Derived from R190, R319, R324, R326, R327, R328. When a converter or one of its contexts is faulty. -/
def Obligations.AdcFaults : Prop :=
  (∀ (k : Fin 4) (t : Nat) (s : State), s.quiet → s.getA ADC_CFG_EN k = 1 → (s.adc k).calAt + 240000000000 * s.getA ADC_CFG_CAL_PERIOD k ≤ max s.now t → Answers (.calibrationOverdue k t) s (fun t => t.faulted (adcChan k) ⟨55, 1, .shared, convElem k⟩)) ∧
  (∀ (k : Fin 4) (s : State), s.quiet → 3 ≤ (s.adc k).refBad → Answers (.adcRefXchkFault k) s (fun t => t.faulted (adcChan k) ⟨55, 1, .shared, convElem k⟩)) ∧
  (∀ (k : Fin 4) (s : State), s.quiet → s.getA ADC_CFG_EN k ≠ 0 → Answers (.conversionTimeout k) s (fun t => t.faulted (adcChan k) ⟨55, 1, .shared, convElem k⟩ ∧ (5 + k.val) ∈ t.fc.a.windows ∧ (5 + k.val) ∈ t.fc.b.windows)) ∧
  (∀ (c : Chan) (n : Fin 8) (t k x : Nat) (s : State), s.quiet → s.aiCtx c n = some (k, x) → s.getA ADC_CTX_n_VALUE_VALID k x ≠ 0 → (s.ctx k x).doneAt + 10000 * s.getA ADC_CTX_n_AGE_MAX_AGE k x < max s.now t → Answers (.aiContextStale c n t) s (fun t => t.faulted (adcChan k) ⟨55, 1, .shared, ctxElem k x⟩)) ∧
  (∀ (k : Fin 4) (n : Fin 64) (s : State), Answers (.adcCtxClr k n true) s (fun t => (t.ctx k n).total = 0 ∧ (t.ctx k n).count = 0 ∧ (t.ctx k n).lo = 0xFFFF ∧ (t.ctx k n).hi = 0 ∧ (t.ctx k n).sat = false ∧ t.regs = s.regs))

/-- Derived from R19, R20, R206, R208, R210, R211, R213, R425. When a clock, a crystal or a lockstep pair is faulty, and when it is not. -/
def Obligations.ClocksAndLockstep : Prop :=
  (∀ (c : Chan) (count : Nat) (s : State), s.quiet → 2 * fmonNominal c < 100 * ((count : Int) - fmonNominal c).natAbs → 1 ≤ twoAt s.fmon c → Answers (.freqWindowEnd c count) s (fun t => t.faulted .a ⟨9, 2, s.clockCharge, .none⟩ ∧ t.faulted .b ⟨9, 2, s.clockCharge, .none⟩)) ∧
  (∀ (c : Chan) (count : Nat) (s : State), 100 * ((count : Int) - fmonNominal c).natAbs ≤ 2 * fmonNominal c → Answers (.freqWindowEnd c count) s (fun t => twoAt t.fmon c = 0 ∧ t.fc = s.fc)) ∧
  (∀ (c : Chan) (dev : Int) (s : State), Answers (.refJudgementWindowEnd c dev) s (fun t => t.flag (match c with | .a => CLK_STATUS_SUSPECT_A | .b => CLK_STATUS_SUSPECT_B) = decide (200 < dev.natAbs))) ∧
  (∀ (s : State), s.quiet → s.power = .on → Answers (.aonClkStop) s (fun t => t.faulted .a ⟨11, 0, .shared, .none⟩ ∧ t.faulted .b ⟨11, 0, .shared, .none⟩ ∧ t.flag PWR_FLAGS_AON_CLK_STOP = true)) ∧
  (∀ (s : State), s.power = .on → Answers (.crystalRestart) s (fun t => t.flag CLK_STATUS_X32_RUN = true ∧ t.condOn 11 .none = false)) ∧
  (∀ (c : Chan) (s : State), s.quiet → Answers (.pllLockLost c) s (fun t => t.faulted .a ⟨10, 2, chanCharge c, .none⟩ ∧ t.faulted .b ⟨10, 2, chanCharge c, .none⟩)) ∧
  (∀ (c : Chan) (t0 t1 : BitVec 8) (s : State), s.quiet → (twoAt s.stay c).decoupled = false → t0 ≠ 0 → t1 ≠ 0 → Answers (.telltaleReport c t0 t1) s (fun t => t.faulted c ⟨mismatchLine c, 2, chanCharge c, .none⟩)) ∧
  (∀ (c : Chan) (t0 t1 : BitVec 8) (s : State), s.quiet → (twoAt s.stay c).decoupled = false → (t0 = 0 ∧ t1 ≠ 0) ∨ (t0 ≠ 0 ∧ t1 = 0) → Answers (.telltaleReport c t0 t1) s (fun t => t.faulted c ⟨2, 2, chanCharge c, .none⟩)) ∧
  (∀ (c : Chan) (t0 : BitVec 8) (s : State), (twoAt s.stay c).decoupled = false → t0 = BitVec.ofNat 8 (2 ^ bitGroup (twoAt s.stay c).nextBit) → Answers (.forcedMismatch c t0 t0) s (fun t => (twoAt t.stay c).nextBit = ((twoAt s.stay c).nextBit + 1) % 224 ∧ t.get LKS_FORCE_LAST_BIT c = (twoAt s.stay c).nextBit % 256 ∧ t.fc = s.fc)) ∧
  (∀ (c : Chan) (us : Fin 201) (x : Fin 3 × Fin 8192) (s : State), s.quiet → (twoAt s.stay c).decoupled = false → Answers (.latentDivergenceSweep c us (some x)) s (fun t => t.faulted c ⟨3, 2, chanCharge c, .none⟩)) ∧
  (∀ (c : Chan) (input : Fin 64) (cycles : Nat) (s : State), s.quiet → 4 < cycles → Answers (.asyncInputDisagreement c input cycles) s (fun t => t.faulted c ⟨4, 2, chanCharge c, .none⟩))

/-- Derived from R15, R17, R189, R190, R191, R194, R200, R220. What the fault collectors do with each other's lines, with test injections and with scrubs. -/
def Obligations.CollectorCommands : Prop :=
  (∀ (c : Chan) (s : State), (twoAt s.fc (otherChan c)).cl2Line = true → s.survives c false = true → Answers (.otherClass2Line c) s (fun t => (twoAt t.stop c).survivorNext = true)) ∧
  (∀ (c : Chan) (s : State), (twoAt s.fc (otherChan c)).cl2Line = true → s.survives c false = false → Answers (.otherClass2Line c) s (fun t => (twoAt t.die c).staged = some (0, 0))) ∧
  (∀ (c : Chan) (s : State), s.dev ≠ stSLEEP → Answers (.fcTestInjection c false) s (fun t => t.faulted .a ⟨63, 3, .shared, .none⟩ ∧ t.faulted .b ⟨63, 3, .shared, .none⟩)) ∧
  (∀ (c : Chan) (s : State), Answers (.fcTestInjection c true) s (fun t => (twoAt t.fc c).testLine = ((twoAt s.fc c).testLine + 1) % 64 ∧ t.regs = s.regs)) ∧
  (∀ (c : Chan) (level : Bool) (s : State), s.quiet → level ≠ s.flag FC_FLT_CFG_PIN_CMD c → Answers (.fltPinMismatch c level) s (fun t => t.faulted c ⟨63, 2, chanCharge c, .none⟩)) ∧
  (∀ (n : Fin 16) (s : State), Answers (.consequentialWindowEnd n) s (fun t => n.val ∉ t.fc.a.windows ∧ n.val ∉ t.fc.b.windows)) ∧
  (∀ (s : State), Answers (.selftestWarn) s (fun t => t.flag FC_SELFTEST_WARN .a = true ∧ t.flag FC_SELFTEST_WARN .b = true)) ∧
  (∀ (s : State), Answers (.selftestOverdue) s (fun t => t.flag FC_SELFTEST_OVERDUE .a = true ∧ t.flag FC_SELFTEST_OVERDUE .b = true)) ∧
  (∀ (m : MemLoc) (k n : Nat) (s : State), scrubArea m = some (k, n) → Answers (.patrolScrub m .good) s (fun t => tabGet 0 t.scrub k = (tabGet 0 s.scrub k + 1) % n ∧ t.fc = s.fc)) ∧
  (∀ (m : MemLoc) (k n : Nat) (s : State), s.quiet → scrubArea m = some (k, n) → (eccEvent m).to .a → Answers (.patrolScrub m .double) s (fun t => t.faulted .a (eccEvent m).latch))

/-- Derived from R46, R50, R57, R59, R60, R61. When the angle engine is faulty. -/
def Obligations.AngleEngineFaults : Prop :=
  (∀ (c : Chan) (n : Fin 4) (k : SrcFault) (s : State), n.val ≠ s.priSrc c → n.val ≠ s.secSrc c → Answers (.sourceFault c n k) s (fun t => (t.enc c n).faulty = true ∧ t.flag (srcFaultBit k) c n = true)) ∧
  (∀ (c : Chan) (n : Fin 4) (s : State), s.quiet → tabHas (twoAt s.ae c).confirm n = true → tabGet 0 (twoAt s.ae c).confirm n + 2 ≤ (twoAt s.ae c).stamp → Answers (.sourceFaultConfirmTimeout c n) s (fun t => t.faulted c ⟨16, 2, chanCharge c, .none⟩)) ∧
  (∀ (c : Chan) (s : State), s.quiet → 3 ≤ (twoAt s.ae c).srcBad → s.lcState c ≠ 4 → Answers (.sourceXcheckExcess c) s (fun t => t.faulted c ⟨17, 2, chanCharge c, .none⟩)) ∧
  (∀ (s : State), s.quiet → 3 ≤ s.ae.a.chBad ∨ 3 ≤ s.ae.b.chBad → s.lcState .a ≠ 4 ∨ s.lcState .b ≠ 4 → Answers (.channelXcheckExcess) s (fun t => t.faulted .a ⟨18, 2, .both, .coord⟩ ∧ t.faulted .b ⟨18, 2, .both, .coord⟩)) ∧
  (∀ (c : Chan) (s : State), s.quiet → s.implausible c = true → Answers (.coordinatePlausibility c) s (fun t => t.faulted c ⟨21, 1, .shared, .coord⟩ ∧ (twoAt t.ae c).class1 = true)) ∧
  (∀ (c : Chan) (s : State), s.quiet → Answers (.angleEngineOverrun c) s (fun t => t.faulted c ⟨22, 2, chanCharge c, .none⟩)) ∧
  (∀ (c : Chan) (t : Nat) (s : State), 1000000000 < ({ s with now := max s.now t }).stillFor c * s.get LC_CFG_VSTILL c → Answers (.standstillSet c t) s (fun t => (twoAt t.ae c).vel = 0 ∧ (twoAt t.ae c).acc = 0 ∧ t.flag LC_STATUS_STANDSTILL c = true)) ∧
  (∀ (c : Chan) (n : Fin 4) (k : SrcFault) (s : State), Answers (.sourceFault c n k) s (fun t => (t.enc c n).faulty = true))

/-- Derived from R42, R47, R48, R61, R63, R70. What edges, updates, predicted events and master deviations do in the angle engine. -/
def Obligations.AngleEngineUpdates : Prop :=
  (∀ (n : Fin 4) (a b : EncObs) (s : State), s.running = true → s.dev ≠ stSLEEP → Answers (.encoderEdge n a b) s (fun t => (t.enc .a n).count = (if s.isSsi .a n then 0 else (s.enc .a n).count) + (if s.flag AE_ENC_n_CFG_INVERT .a n then -1 else 1) * a.count)) ∧
  (∀ (c : Chan) (t : Nat) (bad : BitVec 4) (s : State), s.running = true → s.dev ≠ stSLEEP → s.prog.hasLc = true → Answers (.angleEngineUpdate c t bad) s (fun t => (twoAt t.ae c).stamp = (twoAt s.ae c).stamp + 1)) ∧
  (∀ (c : Chan) (n : Fin 1024) (t u : Nat) (s : State), (tabGet {} (twoAt s.ae c).pts n.val).due = some u → u ≤ max s.now t → Answers (.camPredictedEvent c n t) s (fun t => (tabGet {} (twoAt t.ae c).pts n.val).due = none)) ∧
  (∀ (c : Chan) (s : State), s.quiet → s.flag LC_MASTER_CFG_EN c = true → 32 * s.get LC_MASTER_CFG_TIME c < (twoAt s.ae c).devOut → s.flag LC_STATUS_MASTER_DEV c = false → Answers (.masterDevTimeout c) s (fun t => t.faulted c ⟨19, 0, .shared, .none⟩ ∧ t.flag LC_STATUS_MASTER_DEV c = true))

/-- Derived from R59, R60, R73, R216. What checks and frames of coordinates, verdicts and check values do. -/
def Obligations.StayFrames : Prop :=
  (∀ (c : Chan) (s : State), s.quiet → s.usedPoints c ≠ [] → s.camCrc c ≠ s.get CAM_CRC_CRC c → Answers (.camCrcCheck c none) s (fun t => t.faulted c ⟨20, 2, chanCharge c, .none⟩)) ∧
  (∀ (c : Chan) (h : StayHead) (s : State), s.accepts c .ae h → Answers (.stayCoordFrame c h) s (fun t => (twoAt t.stay c).coordGot = true ∧ (twoAt t.stay c).coordMissing = 0)) ∧
  (∀ (c : Chan) (h : StayHead) (v : Nat) (s : State), s.accepts c .cycle h → Answers (.stayEventFrame c h (.verdict v) true) s (fun t => (twoAt t.stay c).verdicts = true)) ∧
  (∀ (c : Chan) (h : StayHead) (k : Nat) (s : State), s.quiet → s.accepts c .cycle h → k ≠ s.get CAM_CRC_CRC c → Answers (.stayEventFrame c h (.camCrc k) true) s (fun t => t.faulted .a ⟨20, 2, .both, .none⟩ ∧ t.faulted .b ⟨20, 2, .both, .none⟩))

/-- Derived from R88, R95, R110, R115, R177, R216, R217, R218, R219, R221, R223. What the frames and times of the Stay link do. -/
def Obligations.StayLink : Prop :=
  (∀ (s : State), s.stay.a.attrOpen = true ∨ s.stay.b.attrOpen = true → Answers (.stayAttributionWindowEnd) s (fun t => t.stay.a.attrOpen = false ∧ t.stay.b.attrOpen = false)) ∧
  (∀ (c : Chan) (h : StayHead) (o : Int) (s : State), s.accepts c .ae h → Answers (.stayAlignFrame c h o) s (fun t => (twoAt t.stay c).aligns = (twoAt s.stay c).aligns + 1)) ∧
  (∀ (c : Chan) (s : State), s.quiet → s.stayMode c = 1 → 3 ≤ (twoAt s.stay c).skewTicks → Answers (.staySkewFault c) s (fun t => t.faulted .a ⟨6, 2, .shared, .none⟩ ∧ t.faulted .b ⟨6, 2, .shared, .none⟩)) ∧
  (∀ (c : Chan) (m : StayMissing) (s : State), s.quiet → s.stayMode c = 1 → m ≠ .coord ∨ 1 ≤ (twoAt s.stay c).coordMissing → s.pulse.src < 8 → s.outs.slot.unit < 20 → Answers (.stayDeadlineMiss c m) s (fun t => t.faulted .a ⟨6, 2, .shared, .none⟩ ∧ t.faulted .b ⟨6, 2, .shared, .none⟩)) ∧
  (∀ (c : Chan) (h : StayHead) (s : State), s.stayMode c = 2 → h.typ = 0x15 → h.crcOk = true → h.lengthOk = true → h.seq = (s.get STY_SEQ_CYC_RX c + 1) % 256 → h.stamp = s.get SYS_GCOUNT_COUNT → Answers (.stayHoldFrame c h) s (fun t => (twoAt t.fc c).received = (twoAt s.fc c).received ++ (twoAt s.fc (otherChan c)).fresh)) ∧
  (∀ (c : Chan) (l : Lane) (n : Nat) (s : State), n ≠ s.get (txSeqFld l) c → Answers (.stayRepeatRequest c l n) s (fun t => t.flag (txOkFld l) c = false)) ∧
  (∀ (c : Chan) (l : Lane) (s : State), s.get STY_REPEATS_TX c < 65535 → Answers (.stayRepeatRequest c l (s.get (txSeqFld l) c)) s (fun t => t.get STY_REPEATS_TX c = s.get STY_REPEATS_TX c + 1)) ∧
  (∀ (s : State), s.quiet → s.stayMode .a = 0 ∨ s.stayMode .b = 0 → Answers (.stayTrainingTimeout) s (fun t => t.faulted .a ⟨6, 2, .both, .none⟩ ∧ t.faulted .b ⟨6, 2, .both, .none⟩)) ∧
  (∀ (c : Chan) (h : StayHead) (s : State), s.accepts c .cycle h → Answers (.stayTokenFrame c h .pulse) s (fun t => twoAt t.pulse.confirmed c = true)) ∧
  (∀ (c : Chan) (h : StayHead) (s : State), s.accepts c .cycle h → Answers (.stayTokenFrame c h .test) s (fun t => twoAt t.outs.slot.confirmed c = true)) ∧
  (∀ (c : Chan) (h : StayHead) (s : State), s.accepts c .cycle h → twoAt s.inp.got (otherChan c) = false → Answers (.stayInputFrame c h) s (fun t => twoAt t.inp.got c = true ∧ t.inp.agreed = s.inp.agreed))

/-- Derived from R28, R78, R82, R85, R86, R88, R89, R90, R93, R97, R98, R100. What safe inputs, their tests and fast kills do. -/
def Obligations.SafeInputs : Prop :=
  (∀ (c : Chan) (p : Fin 48) (v : Bool) (s : State), (twoAt s.die c).powered = true → Answers (.inputFilterChange c p v) s (fun t => (twoAt t.inp.filt c).getLsbD p = v ∧ ∀ j : Fin 48, j ≠ p → (twoAt t.inp.filt c).getLsbD j = (twoAt s.inp.filt c).getLsbD j)) ∧
  (∀ (n : Fin 24) (s : State), s.quiet → (s.pair n).disc ≠ 0 → Answers (.discrepancyTimeout n) s (fun t => t.faulted .a ⟨28, 1, .shared, (.pair n)⟩ ∧ t.faulted .b ⟨28, 1, .shared, (.pair n)⟩ ∧ (t.pair n).allDemand = false)) ∧
  (∀ (p : Fin 48) (s : State), s.quiet → s.pairMode (p.val / 2) ≠ 0 → s.sample .a p ≠ s.sample .b p → Answers (.comparatorDisagreement p) s (fun t => t.faulted .a ⟨24, 1, .shared, (.pair (p.val / 2))⟩ ∧ t.faulted .b ⟨24, 1, .shared, (.pair (p.val / 2))⟩)) ∧
  (∀ (n : Fin 8) (u : Nat) (s : State), s.dual = true → s.srcUsed n = true → s.srcExpiry n ≤ max s.now u → Answers (.testPulseDue n u) s (fun t => (t.src n).due = true)) ∧
  (∀ (high : BitVec 48) (k : Nat) (s : State), s.pulse.phase = .idle → s.dual = true → s.nextSource = some k → Answers (.testPulseTokenGrant high) s (fun t => t.pulse.phase = .announce ∧ t.pulse.src = k ∧ t.pulse.confirmed = twoSet ⟨false, false⟩ (srcChan k) true ∧ t.die.a.blank = s.blankPins k ∧ t.die.b.blank = s.blankPins k ∧ (t.src k).due = false)) ∧
  (∀ (u : Nat) (s : State), s.pulse.phase = .announce → s.pulse.confirmed = ⟨true, true⟩ → Answers (.testPulseStart u) s (fun t => t.pulse.phase = .pulse ∧ (t.src s.pulse.src).pulsed = true ∧ (t.src s.pulse.src).lastStart = max s.now u)) ∧
  (∀ (a b : PulseObs) (s : State), s.pulse.phase = .pulse → (∀ p : Fin 48, s.pulse.judged.getLsbD p = true → a.lowEnd.getLsbD p = true ∧ b.lowEnd.getLsbD p = true) → Answers (.testPulseWidthEnd a b true) s (fun t => t.pulse.phase = .settle ∧ t.fc = s.fc)) ∧
  (∀ (a b : PulseObs) (s : State), s.pulse.phase = .pulse → s.quiet → Answers (.testPulseWidthEnd a b false) s (fun t => t.faulted .a ⟨29, 1, .shared, (.source s.pulse.src)⟩ ∧ t.faulted .b ⟨29, 1, .shared, (.source s.pulse.src)⟩)) ∧
  (∀ (high : BitVec 48) (s : State), s.pulse.phase = .settle → Answers (.testPulseSettleEnd high) s (fun t => t.pulse = {})) ∧
  (∀ (n : Fin 8) (s : State), s.srcUsed n = true → s.pulse.phase = .idle ∨ s.pulse.src ≠ n.val → s.quiet → Answers (.sourceLowIdle n) s (fun t => t.faulted .a ⟨29, 1, .shared, (.source n)⟩ ∧ t.faulted .b ⟨29, 1, .shared, (.source n)⟩)) ∧
  (∀ (c : Chan) (n : Fin 24) (y : Bool) (s : State), (twoAt s.die c).powered = true → s.isFk c n = true → (twoAt s.die c).blank.getLsbD (2 * n.val + y.toNat) = false → Answers (.fastKill c n y) s (fun t => (twoAt t.die c).heldFk = (twoAt s.die c).heldFk ||| s.fkGroup c n ∧ (twoAt t.die c).fkFired.getLsbD n = true ∧ twoAt t.die (otherChan c) = twoAt s.die (otherChan c))) ∧
  (∀ (c : Chan) (n : Fin 24) (s : State), (twoAt s.die c).fkFired.getLsbD n = true → (twoAt s.die c).blank.getLsbD (2 * n.val) = false → (twoAt s.die c).blank.getLsbD (2 * n.val + 1) = false → Answers (.fastKillRelease c n) s (fun t => (twoAt t.die c).fkFired.getLsbD n = false)) ∧
  (∀ (c : Chan) (s : State), s.quiet → crc32cWords (twoAt s.die c).fkWords ≠ s.get SIN_FK_CRC_IMG_CRC c → Answers (.fastKillCrcCheck c none) s (fun t => t.faulted c ⟨31, 2, chanCharge c, .none⟩)) ∧
  (∀ (c : Chan) (s : State), crc32cWords (twoAt s.die c).fkWords = s.get SIN_FK_CRC_IMG_CRC c → Answers (.fastKillCrcCheck c none) s (fun t => t.conds = s.conds.filter (· != (31, .none)) ∧ t.fc = s.fc))

/-- Derived from R103, R105, R108, R110. When a safe output is faulty. -/
def Obligations.SafeOutputs : Prop :=
  (∀ (u : Fin 20) (w : Nat) (o : TestObs) (m : Bool) (s : State), s.quiet → u.val < 16 → s.outMode u ≠ 0 → s.testHits (outBit u) 0 = false → (s.out u).changed + 150000 ≤ max s.now w → (s.closed .a).getLsbD u = true → (s.closed .b).getLsbD u = true → o.mA ≠ .h ∨ o.mB ≠ .h → Answers (.outputReadbackFault u w o false m) s (fun t => t.faulted .a ⟨33, 1, .shared, (.output u)⟩ ∧ t.faulted .b ⟨33, 1, .shared, (.output u)⟩)) ∧
  (∀ (u : Fin 20) (w : Nat) (o : TestObs) (l m : Bool) (s : State), s.quiet → u.val < 16 → s.outMode u ≠ 0 → s.testHits (outBit u) 0 = false → (s.out u).changed + 150000 ≤ max s.now w → (s.closed .a).getLsbD u = false → (s.closed .b).getLsbD u = false → s.die.b.held.getLsbD u = false → o.mA ≠ .l ∨ o.mB ≠ .l → Answers (.outputReadbackFault u w o l m) s (fun t => t.faulted .a ⟨32, 1, .shared, (.output u)⟩ ∧ t.faulted .b ⟨32, 1, .shared, (.output u)⟩)) ∧
  (∀ (u : Fin 20) (w : Nat) (o : TestObs) (l m : Bool) (s : State), s.quiet → 16 ≤ u.val → s.lsUsed (u.val - 16) = true → s.testHits 0 (BitVec.ofNat 4 (2 ^ (u.val - 16))) = false → s.lsClosed.getLsbD (u.val - 16) = true → o.dA ≠ .l ∨ o.dB ≠ .l → Answers (.outputReadbackFault u w o l m) s (fun t => t.faulted .a ⟨38, 1, .shared, (.ls (u.val - 16))⟩ ∧ t.faulted .b ⟨38, 1, .shared, (.ls (u.val - 16))⟩)) ∧
  (∀ (c : Chan) (u : Fin 20) (s : State), s.quiet → u.val < 16 → Answers (.currentLimitOpen c u) s (fun t => t.faulted .a ⟨35, 1, .shared, (.output u)⟩ ∧ t.faulted .b ⟨35, 1, .shared, (.output u)⟩ ∧ (twoAt t.die c).limitOpen = (twoAt s.die c).limitOpen ||| outBit u)) ∧
  (∀ (c : Chan) (u : Fin 20) (s : State), s.quiet → 16 ≤ u.val → Answers (.currentLimitOpen c u) s (fun t => t.faulted .a ⟨38, 1, .shared, (.ls (u.val - 16))⟩ ∧ t.faulted .b ⟨38, 1, .shared, (.ls (u.val - 16))⟩ ∧ t.die.b.lsLimitOpen = s.die.b.lsLimitOpen ||| BitVec.ofNat 4 (2 ^ (u.val - 16)))) ∧
  (∀ (n : Fin 16) (s : State), s.quiet → s.outMode n ≠ 0 → Answers (.readbackDisagreement n) s (fun t => t.faulted .a ⟨36, 1, .shared, (.output n)⟩ ∧ t.faulted .b ⟨36, 1, .shared, (.output n)⟩ ∧ (t.out n).disagree = true)) ∧
  (∀ (n : Fin 16) (s : State), s.quiet → 0 < s.get SOUT_n_CFG_OPEN_LOAD .a n → (s.closed .a &&& s.closed .b).getLsbD n = true → s.flag SOUT_n_CFG_OPEN_CLASS .a n = true → Answers (.openLoad n) s (fun t => t.faulted .a ⟨39, 1, .shared, (.output n)⟩ ∧ t.faulted .b ⟨39, 1, .shared, (.output n)⟩)) ∧
  (∀ (n : Fin 16) (s : State), s.quiet → 0 < s.get SOUT_n_CFG_OPEN_LOAD .a n → (s.closed .a &&& s.closed .b).getLsbD n = true → s.flag SOUT_n_CFG_OPEN_CLASS .a n = false → Answers (.openLoad n) s (fun t => t.faulted .a ⟨39, 0, .shared, (.output n)⟩ ∧ t.faulted .b ⟨39, 0, .shared, (.output n)⟩))

/-- Derived from R111, R115, R116, R122. What each phase of an output test does. -/
def Obligations.OutputTests : Prop :=
  (∀ (k : Fin 36) (w : Nat) (s : State), s.testUsed k = true → s.testBlocked k = false → s.testOwed k = true ∨ s.testExpiry k ≤ max s.now w → Answers (.outputTestDue k w) s (fun t => (t.testSt k).due = true)) ∧
  (∀ (w va vb ma : Nat) (ta tb : Int) (k : Nat) (s : State), s.outs.slot.phase = .idle → s.dual = true → ({ s with now := max s.now w }).nextTest = some k → Answers (.outputTestTokenGrant w va vb ma ta tb) s (fun t => t.outs.slot.phase = .announce ∧ t.outs.slot.unit = testUnit k ∧ t.outs.slot.kind = s.testKindOf k ∧ (t.testSt k).due = false)) ∧
  (∀ (o : TestObs) (s : State), s.outs.slot.phase = .announce → s.outs.slot.confirmed = ⟨true, true⟩ → s.outs.slot.kind ≠ .midA ∨ o.diff = .isOpen → s.outs.slot.kind ≠ .lsMid ∨ (o.dA ≠ .l ∧ o.dB ≠ .l) → Answers (.outputTestPhaseStart o) s (fun t => t.outs.slot = { s.outs.slot with phase := .test })) ∧
  (∀ (o : TestObs) (s : State), s.quiet → s.outs.slot.phase = .announce → s.outs.slot.confirmed = ⟨true, true⟩ → s.outs.slot.kind = .midA → o.diff ≠ .isOpen → Answers (.outputTestPhaseStart o) s (fun t => t.faulted .a ⟨32, 1, .shared, (.output s.outs.slot.unit)⟩ ∧ t.faulted .b ⟨32, 1, .shared, (.output s.outs.slot.unit)⟩)) ∧
  (∀ (w : Nat) (o : TestObs) (s : State), s.outs.slot.phase = .test → ({ s with now := max s.now w }).endSlot.verdict s.outs.slot.kind s.outs.slot.unit o = none → s.outs.slot.onWaits = false → Answers (.outputTestPhaseEnd w o) s (fun t => t.outs.slot = { s.outs.slot with phase := .verify, passed := true })) ∧
  (∀ (w : Nat) (o : TestObs) (s : State), s.quiet → s.outs.slot.phase = .test → s.outs.slot.kind = .offB → o.oA = .l ∧ o.oB = .l → o.mA ≠ .h ∨ o.mB ≠ .h → Answers (.outputTestPhaseEnd w o) s (fun t => t.faulted .a ⟨33, 1, .shared, (.output s.outs.slot.unit)⟩ ∧ t.faulted .b ⟨33, 1, .shared, (.output s.outs.slot.unit)⟩)) ∧
  (∀ (w : Nat) (o : TestObs) (s : State), s.outs.slot.phase = .verify → verifyOk s.outs.slot.kind o = true → Answers (.outputTestVerifyEnd w o) s (fun t => t.outs.slot = {})) ∧
  (∀ (w : Nat) (o : TestObs) (s : State), s.quiet → s.outs.slot.phase = .verify → s.outs.slot.kind = .offA ∨ s.outs.slot.kind = .midA ∨ s.outs.slot.kind = .offB ∨ s.outs.slot.kind = .midB → verifyOk s.outs.slot.kind o = false → Answers (.outputTestVerifyEnd w o) s (fun t => t.faulted .a ⟨33, 1, .shared, (.output s.outs.slot.unit)⟩ ∧ t.faulted .b ⟨33, 1, .shared, (.output s.outs.slot.unit)⟩))

/-- Derived from R63, R190, R224, R226, R227, R228, R229, R244, R251. What messages and faults do at the networks. -/
def Obligations.Networks : Prop :=
  (∀ (n : Net) (o : PtpObs) (w : Nat) (s : State), s.netReady n = true → o.master = true → s.getN NET_n_CFG_PTP_MODE n ≠ 0 → Answers (.ptpMessage n o w) s (fun t => (t.ptpSt n).synced = true ∧ (t.ptpSt n).master = true ∧ (t.ptpSt n).offset = o.offset)) ∧
  (∀ (n : Net) (o : PtpObs) (w : Nat) (s : State), s.netReady n = true → o.master = false → o.sync = true → o.diff.natAbs ≤ 1000 → 7 ≤ (s.ptpSt n).good → Answers (.ptpMessage n o w) s (fun t => (t.ptpSt n).synced = true ∧ (t.ptpSt n).master = false ∧ (t.ptpSt n).offset = o.offset ∧ (t.ptpSt n).lastSync = max s.now w)) ∧
  (∀ (n : Net) (w : Nat) (s : State), (s.ptpSt n).master = false → (s.ptpSt n).lastSync + 3000000000 ≤ max s.now w → Answers (.ptpSyncTimeout n w) s (fun t => (t.ptpSt n).synced = false ∧ (t.ptpSt n).good = 0)) ∧
  (∀ (n : Net) (w : Nat) (s : State), s.syncedNet n = true → Answers (.ptpPps n w) s (fun t => (t.ptpSt n).ppsAt = some (max s.now w))) ∧
  (∀ (n : Net) (p q : Option Bool) (s : State), s.getN NET_n_CFG_EN n = 1 → Answers (.phyPoll n p q) s (fun t => t.getN NET_n_STATUS_P1_UP n = p.isSome.toNat ∧ t.getN NET_n_STATUS_P2_UP n = q.isSome.toNat)) ∧
  (∀ (n : Net) (w : Nat) (s : State), s.netReady n = true → (s.netSt n).polSec ≠ max s.now w / 1000000000 ∨ (s.netSt n).polCount < 4000 → Answers (.arpRequest n w) s (fun t => (t.netSt n).aux = some .arpReply)) ∧
  (∀ (n : Net) (w : Nat) (s : State), s.netReady n = true → (s.netSt n).polSec ≠ max s.now w / 1000000000 ∨ (s.netSt n).polCount < 4000 → s.getN NET_n_CFG_ICMP n = 1 → Answers (.icmpEchoRequest n w) s (fun t => (t.netSt n).aux = some .echoReply)) ∧
  (∀ (n : Net) (f : SwitchFrame) (w : Nat) (s : State), s.getN NET_n_CFG_EN n ≠ 0 → s.getN NET_n_CFG_P1_EN n ≠ 0 → s.getN NET_n_CFG_P2_EN n ≠ 0 → f.bytes ≤ 1522 → f.forDevice = false → f.broadcast = false → (∀ e ∈ (s.netSt n).macs, e.1 ≠ f.dst) → Answers (.switchFrameForward n f w) s (fun t => (t.netSt n).fwd = some (!f.fromP2, f.bytes))) ∧
  (∀ (n : Net) (f : MasterFrame) (w : Nat) (s : State), s.flag LC_MASTER_CFG_EN .a = true → s.netReady n = true → (s.netSt n).polSec ≠ max s.now w / 1000000000 ∨ (s.netSt n).polCount < 4000 → s.getN NET_n_MASTER_SRC_ADDR n ≠ 0 → f.srcAddr = s.getN NET_n_MASTER_SRC_ADDR n → f.crcOk = true → (s.netSt n).masterSeq = none → s.syncedNet n = true → ((max s.now w : Nat) : Int) + (s.ptpSt n).offset - f.time ≤ 1000000 * s.get NET_MASTER_STALE → s.ae.a.master = none → Answers (.masterAngleFrame n f w) s (fun t => (t.netSt n).masterSeq = some f.seq ∧ t.ae.a.master = some (((f.time : Int) - (s.ptpSt n).offset).toNat, f.angle, f.vel) ∧ t.ae.b.master = t.ae.a.master)) ∧
  (∀ (n : Net) (s : State), s.quiet → s.anySession = true → s.getN NET_n_STATUS_P1_UP n = 0 → s.getN NET_n_STATUS_P2_UP n = 0 → Answers (.networkLinkDown n) s (fun t => t.faulted .a ⟨51, 0, .shared, .none⟩ ∧ t.faulted .b ⟨51, 0, .shared, .none⟩)) ∧
  (∀ (n : Net) (s : State), s.quiet → Answers (.npeFault n) s (fun t => t.faulted .a ⟨51, 0, .shared, .none⟩ ∧ t.faulted .b ⟨51, 0, .shared, .none⟩ ∧ netNum n ∈ t.fc.a.windows ∧ netNum n ∈ t.fc.b.windows ∧ (t.ptpSt n).synced = false))

/-- Derived from R236, R239, R240, R242, R243, R245. What frames and expiries do to Goale sessions. -/
def Obligations.GoaleSessions : Prop :=
  (∀ (p : Net) (f : GoaFrame) (w n : Nat) (s : State), s.netReady p = true → s.dev ≠ stSLEEP → f.portOk = true → s.sesOf p f = some n → (twoAt (s.se n).slots (netChan p)).length < 4 → Answers (.goaleFrameReceived p f w) s (fun t => twoAt (t.se n).slots (netChan p) = twoAt (s.se n).slots (netChan p) ++ [⟨f, s.get SYS_GCOUNT_COUNT, max s.now w, (({ s with now := max s.now w }).checkCopy n p f).2⟩])) ∧
  (∀ (p : Net) (f : GoaFrame) (w : Nat) (s : State), s.netReady p = true → s.dev ≠ stSLEEP → f.portOk = false ∨ s.sesOf p f = none → Answers (.goaleFrameReceived p f w) s (fun t => t.ses = s.ses ∧ t.get NET_n_COUNT_UNKNOWN .a (netNum p) = min (s.get NET_n_COUNT_UNKNOWN .a (netNum p) + 1) 65535)) ∧
  (∀ (n : Fin 256) (w : Nat) (s : State), (∃ x ∈ (s.se n).wins, x.until_ ≤ max s.now w) → Answers (.twinWindowEnd n w) s (fun t => (∀ x ∈ (t.se n).wins, max s.now w < x.until_) ∧ (t.se n).matched = 0)) ∧
  (∀ (n : Fin 256) (p : Net) (w : Nat) (s : State), s.quiet → s.sesState n = sesRUN → s.pathUp n p = true → twoAt (s.se n).lastPass (netChan p) + s.sesWd n ≤ max s.now w → Answers (.pathLost n p w) s (fun t => t.faulted .a ⟨51, 0, .shared, .none⟩ ∧ t.faulted .b ⟨51, 0, .shared, .none⟩)) ∧
  (∀ (n : Fin 256) (w : Nat) (s : State), s.quiet → s.sesState n = sesRUN → (s.syncedNet (s.se n).lastNet = true ∧ (((s.se n).lastStamp + s.sesWd n : Nat) : Int) < ((max s.now w : Nat) : Int) + (s.ptpSt (s.se n).lastNet).offset) ∨ (s.se n).lastArrival + s.sesWd n < max s.now w → Answers (.sessionWatchdogExpiry n w) s (fun t => t.faulted .a ⟨49, 1, .shared, (.session n)⟩ ∧ t.faulted .b ⟨49, 1, .shared, (.session n)⟩ ∧ (t.se n).failedAt = max s.now w ∧ (t.se n).bits = [] ∧ (t.se n).vals = [])) ∧
  (∀ (w tm ep : Nat) (n : Net) (s : State), s.epochAt = some (n, tm, ep) → s.syncedNet n = true → (tm : Int) ≤ ((max s.now w : Nat) : Int) + (s.ptpSt n).offset → Answers (.epochSwitchTime w) s (fun t => t.epochAt = none))

/-- Derived from R190, R254, R256, R257, R258, R267, R268, R269, R272, R273, R274. What frames, times and faults do at the Line Link and the recorder port. -/
def Obligations.LinePorts : Prop :=
  (∀ (p : Port) (a b : Half) (pk af lost w : Nat) (s : State), s.portUsed p = true → s.portState p ≠ ptUNUSED → ((({ s with now := max s.now w }).xoffOut p pk af).fifoOverflow p lost).frameFails p a b = none → ((({ s with now := max s.now w }).xoffOut p pk af).fifoOverflow p lost).portState p = ptUP → Answers (.groupStateFrame p a b pk af lost w) s (fun t => (t.port p).lastOk = max s.now w ∧ (t.port p).entries = ((({ s with now := max s.now w }).xoffOut p pk af).fifoOverflow p lost).takeEntries a.entries)) ∧
  (∀ (p : Port) (a b : Half) (pk af lost w : Nat) (f : Fld) (s : State), s.portUsed p = true → s.portState p ≠ ptUNUSED → ((({ s with now := max s.now w }).xoffOut p pk af).fifoOverflow p lost).frameFails p a b = some f → Answers (.groupStateFrame p a b pk af lost w) s (fun t => (t.port p).entries = (s.port p).entries)) ∧
  (∀ (p : Port) (w : Nat) (s : State), s.quiet → s.portState p = ptUP → (s.port p).lastOk + 100000 ≤ max s.now w → Answers (.portLost p w) s (fun t => t.faulted .a ⟨52, 0, .shared, .none⟩ ∧ t.faulted .b ⟨52, 0, .shared, .none⟩ ∧ (t.port p).entries = [] ∧ (t.port p).run = 0)) ∧
  (∀ (w : Nat) (s : State), s.portUsed .up = true → s.canBuild = true → Answers (.lineLinkTick w) s (fun t => (t.port .up).txSeq = ((s.port .up).txSeq + 1) % 256)) ∧
  (∀ (p : Port) (r : List (BitVec 16)) (pk af : Nat) (s : State), s.portUsed p = true → (s.xoffOut p pk af).flag REC_CFG_EN = true → r.length ≤ 36 → (s.xoffOut p pk af).relayPort = none ∨ (s.xoffOut p pk af).relayPort = some (otherPort p) → ((s.xoffOut p pk af).recDrops (((r.map BitVec.toNat).headD 0) / 256) r.length) = false → Answers (.relayFrameReceived p r true pk af 0) s (fun t => t.recd.fifo = s.recd.fifo ++ [r.map BitVec.toNat])) ∧
  (∀ (n : Nat) (p : Port) (r : List Nat) (l : List (List Nat)) (s : State), s.relayPort = some p → s.recd.fifo = r :: l → s.flag REC_CFG_EN = true → s.portUsed p = true → 92 ≤ n → s.getP LLK_PORT_n_STATUS_XOFF_IN p = 0 → Answers (.relayFrameSend n) s (fun t => t.recd.fifo = l ∧ (t.port p).relayed = some r)) ∧
  (∀ (p : Port) (v : Bool) (w : Nat) (s : State), s.getP LLK_PORT_n_STATUS_XOFF_IN p ≠ v.toNat → Answers (.xoffInChange p v w) s (fun t => t.getP LLK_PORT_n_STATUS_XOFF_IN p = v.toNat ∧ (t.port p).xoffAt = max s.now w)) ∧
  (∀ (p : Port) (w : Nat) (s : State), s.quiet → s.getP LLK_PORT_n_STATUS_XOFF_IN p = 1 → (s.port p).xoffAt + 10000000 < max s.now w → Answers (.xoffInHeld p w) s (fun t => t.faulted .a ⟨52, 0, .shared, .none⟩ ∧ t.faulted .b ⟨52, 0, .shared, .none⟩)) ∧
  (∀ (s : State), s.quiet → Answers (.lleFault) s (fun t => t.faulted .a ⟨52, 0, .shared, .none⟩ ∧ t.faulted .b ⟨52, 0, .shared, .none⟩ ∧ 2 ∈ t.fc.a.windows ∧ 2 ∈ t.fc.b.windows ∧ (t.port .up).entries = [] ∧ (t.port .dn).entries = [])) ∧
  (∀ (s : State), s.get REC_CFG_FLUSH ≠ 0 → s.recd.fifo ≠ [] → Answers (.recFlushTimeout) s (fun t => t.flag REC_STATUS_RDY = true)) ∧
  (∀ (s : State), s.quiet → s.flag REC_STATUS_RDY = true → Answers (.recClockTimeout) s (fun t => t.faulted .a ⟨52, 0, .shared, .none⟩ ∧ t.faulted .b ⟨52, 0, .shared, .none⟩)) ∧
  (∀ (r : List Nat) (l : List (List Nat)) (s : State), s.relayPort = none → s.recd.fifo = r :: l → Answers (.recClkEdge) s (fun t => t.recd.d = recByte r s.recd.sent ∧ t.recd.valid = true ∧ t.recd.fifo = (if s.recd.sent + 1 < 2 * r.length then r :: l else l))) ∧
  (∀ (s : State), s.relayPort = none → s.recd.fifo = [] → Answers (.recClkEdge) s (fun t => t.recd.d = 0 ∧ t.recd.valid = false ∧ t.recd.fifo = []))

/-- Derived from R24, R164, R166, R167, R168, R169, R178, R180, R434. What the times and checks of a monitored stop do. -/
def Obligations.MonitoredStops : Prop :=
  (∀ (c : Chan) (s : State), s.theStop.running = true → s.theStop.atT0 = false → s.theStop.furlNext = none → s.get DSF_CFG_MODE .a = 3 → (∀ d ∈ s.parts, 3 ≤ (twoAt s.stop d).slow ∨ s.flag LC_STATUS_STANDSTILL d = true) → c ∈ s.parts → Answers (.monitoredStopCompletion) s (fun t => (twoAt t.stop c).complete = true)) ∧
  (∀ (c : Chan) (w : Nat) (s : State), s.theStop.running = true → s.theStop.atT0 = false → s.theStop.furlNext = none → s.get DSF_CFG_MODE .a = 2 → s.theStop.t0 + 1000000 * s.get DSF_TIME_T_STOP .a ≤ max s.now w → c ∈ s.parts → Answers (.timedStopCompletion w) s (fun t => (twoAt t.stop c).complete = true)) ∧
  (∀ (w : Nat) (s : State), s.quiet → s.theStop.running = true → s.theStop.atT0 = false → s.theStop.complete = false → s.theStop.furlNext = none → s.get DSF_CFG_MODE .a = 3 → s.parts.length = 2 → s.theStop.t0 + 1000000 * s.get DSF_TIME_T_STOP .a ≤ max s.now w → Answers (.stopTimeExceeded w) s (fun t => t.faulted .a ⟨46, 1, .shared, s.reefElem⟩ ∧ t.faulted .b ⟨46, 1, .shared, s.reefElem⟩)) ∧
  (∀ (c : Chan) (w : Nat) (s : State), s.theStop.overlap = true → s.theStop.overlapAt + 1000000 * s.get DSF_SBC_TIME_T_OVERLAP .a ≤ max s.now w → c ∈ s.parts → Answers (.brakeOverlapEnd w) s (fun t => (twoAt t.stop c).overlapDone = true)) ∧
  (∀ (c : Chan) (w : Nat) (s : State), (twoAt s.die c).furl.armed = true → (twoAt s.die c).furl.expired = false → (twoAt s.die c).furl.start + 1000000 * s.get DSF_FURL_TIME c ≤ max s.now w → (!(twoAt s.die c).holding && ((twoAt s.die c).cmd &&& s.stoMap c) != 0) = false → Answers (.furlTimerExpiry c w) s (fun t => (twoAt t.die c).heldFurl = (twoAt s.die c).heldFurl ||| (s.stoMap c ||| s.brakeMap c) ∧ (twoAt t.die c).furl.expired = true)) ∧
  (∀ (c : Chan) (w : Nat) (s : State), s.quiet → (twoAt s.die c).furl.armed = true → (twoAt s.die c).furl.expired = false → (twoAt s.die c).furl.start + 1000000 * s.get DSF_FURL_TIME c ≤ max s.now w → (twoAt s.die c).holding = false → (twoAt s.die c).cmd &&& s.stoMap c ≠ 0 → Answers (.furlTimerExpiry c w) s (fun t => t.faulted c ⟨47, 2, chanCharge c, .none⟩)) ∧
  (∀ (c : Chan) (s : State), (twoAt s.die c).holding = true → (twoAt s.die (otherChan c)).furl.armed = false → Answers (.furlArmRelease c) s (fun t => (twoAt t.die c).holding = false ∧ (twoAt t.die c).cmd = 0 ∧ (twoAt t.die c).lsCmd = 0 ∧ (twoAt t.die c).furl = {})) ∧
  (∀ (c : Chan) (s : State), s.quiet → crc32cWords (twoAt s.die c).furlWords % 2 ^ 32 ≠ s.get DSF_FURL_CRC_IMG_CRC c → Answers (.furlCrcCheck c none) s (fun t => t.faulted c ⟨43, 2, chanCharge c, .none⟩)) ∧
  (∀ (c : Chan) (w : Nat) (s : State), (twoAt s.die c).powered = true → (twoAt s.die c).stream = true → s.dev ≠ stSLEEP → (twoAt s.die c).lastCmd + 2 * s.tg + 20000 ≤ max s.now w → Answers (.commandWatchdogExpiry c w) s (fun t => (twoAt t.die c).heldWd = 0xFFFF))

/-- Derived from R370, R374, R376, R377. What OTP commands and firewall commands of SEC do. -/
def Obligations.OtpAndFirewall : Prop :=
  (∀ (i : Initiator) (n : Fin 512) (s : State), i = .sec ∨ i = .hmc → s.fwAllows i .write (blockBase .otp .a) (blockBase .otp .a + 3) = true → s.flag OTP_STATUS_BUSY = false → Answers (.otpRead i n) s (fun t => t.sec.otpRun = some ⟨0, n⟩ ∧ t.bus = .done)) ∧
  (∀ (i : Initiator) (n : Fin 512) (s : State), i = .sec ∨ i = .hmc → s.fwAllows i .write (blockBase .otp .a) (blockBase .otp .a + 3) = true → s.flag OTP_STATUS_BUSY = false → Answers (.otpMread i n) s (fun t => t.sec.otpRun = some ⟨1, n⟩ ∧ t.bus = .done)) ∧
  (∀ (n : Fin 512) (s : State), s.flag OTP_STATUS_BUSY = false → Answers (.otpProgram .sec n) s (fun t => t.sec.otpRun = some ⟨2, n⟩ ∧ t.bus = .done)) ∧
  (∀ (n : Fin 512) (s : State), s.flag OTP_STATUS_BUSY = false → Answers (.otpLock .sec n) s (fun t => t.sec.otpRun = some ⟨3, n⟩ ∧ t.bus = .done)) ∧
  (∀ (n : Fin 512) (s : State), s.flag OTP_STATUS_BUSY = false → Answers (.otpVoid .sec n) s (fun t => t.sec.otpRun = some ⟨4, n⟩ ∧ t.bus = .done)) ∧
  (∀ (o : Sense) (ok : Bool) (c : OtpCmd) (s : State), s.sec.otpRun = some c → Answers (.otpCommandDone o ok) s (fun t => t.sec.otpRun = none)) ∧
  (∀ (s : State), s.staged.en = false ∨ s.staged.base ≤ s.staged.limit → Answers (.secFwCommit .sec) s (fun t => t.fw = tabSet s.fw (64 * s.get SEC_FW_SEL_INIT + s.get SEC_FW_SEL_REGION) s.staged ∧ t.bus = .done)) ∧
  (∀ (s : State), s.staged.en = true → s.staged.limit < s.staged.base → Answers (.secFwCommit .sec) s (fun t => t.fw = s.fw ∧ t.flag SEC_FW_CTRL_ERR = true)) ∧
  (∀ (s : State), Answers (.secFwLoad .sec) s (fun t => t.flag SEC_FW_ATTR_EN = (s.fwRegion (s.get SEC_FW_SEL_INIT) (s.get SEC_FW_SEL_REGION)).en ∧ t.flag SEC_FW_ATTR_R = (s.fwRegion (s.get SEC_FW_SEL_INIT) (s.get SEC_FW_SEL_REGION)).r ∧ t.fw = s.fw))

/-- Derived from R190, R413, R414, R415, R416, R418, R419, R420, R422. What the condition monitor notes and when it acts. -/
def Obligations.ConditionMonitor : Prop :=
  (∀ (d : List Int) (a b e : Int) (w : Nat) (s : State), s.running = true → s.sec.measAt + 1000000000 ≤ max s.now w → Answers (.ringOscMeasure d a b e w) s (fun t => t.sec.measAt = max s.now w ∧ t.sec.temps = [a, b, e])) ∧
  (∀ (a b : Nat) (s : State), min a b < 60 → s.get SYS_STATE_SC_CLK_STEP < 2 → Answers (.slackHourly a b) s (fun t => t.sec.stepDue = true)) ∧
  (∀ (c : Chan) (p : Nat) (s : State), 30 ≤ p → Answers (.slackReadingLow c p) s (fun t => twoAt t.sec.slackLow c = 0)) ∧
  (∀ (c : Chan) (p : Nat) (s : State), p < 30 → s.get SYS_STATE_SC_CLK_STEP < 2 → Answers (.slackReadingLow c p) s (fun t => t.sec.stepDue = true)) ∧
  (∀ (c : Chan) (p : Nat) (s : State), s.quiet → p < 30 → 2 ≤ s.get SYS_STATE_SC_CLK_STEP → 2 ≤ twoAt s.sec.slackLow c → Answers (.slackReadingLow c p) s (fun t => t.faulted c ⟨60, 2, chanCharge c, .none⟩)) ∧
  (∀ (lo hi n : Nat) (ch : Bool) (w : Nat) (s : State), Answers (.fuseSweep lo hi n ch w) s (fun t => t.sec.fuseAt = max s.now w)) ∧
  (∀ (u : Nat) (s : State), s.get SOUT_VERIFY_VERIFY < 100 → s.get SOUT_VERIFY_VERIFY < u + 15 → s.outs.slot.phase = .idle → Answers (.verifyAdjust u) s (fun t => t.get SOUT_VERIFY_VERIFY = min 100 (s.get SOUT_VERIFY_VERIFY + 10) ∧ t.sec.verifyDue = false)) ∧
  (∀ (u : Nat) (s : State), s.get SOUT_VERIFY_VERIFY < 100 → s.get SOUT_VERIFY_VERIFY < u + 15 → s.outs.slot.phase ≠ .idle → Answers (.verifyAdjust u) s (fun t => t.sec.verifyDue = true)) ∧
  (∀ (w : Nat) (s : State), s.running = true → s.sec.summaryAt + 24 * hourNs ≤ max s.now w → Answers (.summaryCopy w) s (fun t => t.sec.summaryAt = max s.now w ∧ t.sec.summary = some (s.regs.filter (fun e => summaryAddr e.1)))) ∧
  (∀ (s : State), Answers (.hmcFault) s (fun t => 10 ∈ t.fc.a.windows ∧ 10 ∈ t.fc.b.windows ∧ t.sec = s.sec))

/-- Derived from R335, R337, R338, R339, R342, R343, R345, R348, R349, R350. What timer and check-unit commands do. -/
def Obligations.TimersAndCheckUnits : Prop :=
  (∀ (i : Initiator) (u : Unit3) (n : Fin 32) (v : Word) (w : Nat) (s : State), s.fwAllows i .write (timBase u + 0x200 + 0x10 * n.val) (timBase u + 0x200 + 0x10 * n.val) = true → Answers (.timCmpWrite i u n v w) s (fun t => t.bus = .done ∧ t.getT TIM_CMP_n_VALUE u n = v.toNat ∧ t.getT TIM_CMP_n_ACT_ARMED u n = 1)) ∧
  (∀ (i : Initiator) (u : Unit3) (n : Fin 32) (w : Nat) (s : State), s.fwAllows i .write (timBase u + 0x208 + 0x10 * n.val) (timBase u + 0x208 + 0x10 * n.val) = true → Answers (.timCmpDisarm i u n w) s (fun t => t.bus = .done ∧ t.getT TIM_CMP_n_ACT_ARMED u n = 0)) ∧
  (∀ (i : Initiator) (u : Unit3) (k : Fin 8) (v : Word) (w : Nat) (s : State), s.fwAllows i .write (timBase u + 0x20 * k.val + 4) (timBase u + 0x20 * k.val + 4) = true → Answers (.timCountWrite i u k v w) s (fun t => t.bus = .done ∧ t.getT TIM_TM_t_COUNT_COUNT u k = v.toNat)) ∧
  (∀ (i : Initiator) (k : Fin 8) (v : Word) (w : Nat) (s : State), s.fwAllows i .write (timBase .p + 0x20 * k.val) (timBase .p + 0x20 * k.val) = true → badTimCfg k v.toNat = true → Answers (.timPCfgWrite i k v w) s (fun t => t.bus = .done ∧ t.getT TIM_TM_t_STATUS_CFG_ERR .p k = 1)) ∧
  (∀ (i : Initiator) (k : Fin 8) (v : Word) (w : Nat) (s : State), s.fwAllows i .write (timBase .p + 0x20 * k.val) (timBase .p + 0x20 * k.val) = true → badTimCfg k v.toNat = false → Answers (.timPCfgWrite i k v w) s (fun t => t.bus = .done ∧ regWord t.regs 0 (timBase .p + 0x20 * k.val) = v ∧ t.getT TIM_TM_t_STATUS_CFG_ERR .p k = 0)) ∧
  (∀ (u : Unit3) (k : Fin 8) (n : Fin 32) (w : Nat) (s : State), s.onlyTimer u k → s.dev ≠ stSLEEP → (s.tim u).last + 10 ≤ max s.now w → 0 < s.ticksDue u k (max s.now w) → n.val ∈ s.passed u k (s.getT TIM_TM_t_COUNT_COUNT u k) (s.ticksDue u k (max s.now w)) → Answers (.timerCompareMatch u w) s (fun t => t.getT TIM_CMP_n_ACT_FIRED u n = 1 ∧ t.getT TIM_CMP_n_ACT_ARMED u n = 0)) ∧
  (∀ (u : Unit3) (k : Fin 8) (w : Nat) (s : State), s.onlyTimer u k → s.dev ≠ stSLEEP → (s.tim u).last + 10 ≤ max s.now w → 2 ^ 32 ≤ s.getT TIM_TM_t_COUNT_COUNT u k + s.ticksDue u k (max s.now w) → Answers (.timerOverflow u w) s (fun t => t.getT TIM_TM_t_STATUS_OVF u k = 1 ∧ t.getT TIM_TM_t_COUNT_COUNT u k = (s.getT TIM_TM_t_COUNT_COUNT u k + s.ticksDue u k (max s.now w)) % 2 ^ 32)) ∧
  (∀ (k : Fin 4) (v : Bool) (w : Nat) (s : State), s.dev ≠ stSLEEP → (s.tim .p).pins.getLsbD k ≠ v → Answers (.tmioCaptureEdge k v w) s (fun t => (t.tim .p).pins.getLsbD k = v)) ∧
  (∀ (i : Initiator) (u : Unit3) (s : State), s.fwAllows i .write (crcBase u + 0xC) (crcBase u + 0xC) = true → s.getC CRC_STATUS_BUSY u = 0 → s.getC CRC_START_ADDR u % 4 = 0 → s.getC CRC_LENGTH_BYTES u % 4 = 0 → Answers (.crcGo i u) s (fun t => t.bus = .done ∧ t.getC CRC_STATUS_BUSY u = 1 ∧ (tabGet {} t.crcs (unitNum u) : CrcSt).alive = s.getC CRC_ALIVE_NEXT u)) ∧
  (∀ (i : Initiator) (u : Unit3) (s : State), s.fwAllows i .write (crcBase u + 0xC) (crcBase u + 0xC) = true → s.getC CRC_STATUS_BUSY u = 1 → Answers (.crcGo i u) s (fun t => t.bus = .done ∧ t.getC CRC_STATUS_COLL u = 1 ∧ t.crcs = s.crcs)) ∧
  (∀ (u : Unit3) (r : State) (ws : List Nat) (s : State), s.getC CRC_STATUS_BUSY u = 1 → s.scanWords u (s.getC CRC_START_ADDR u) (s.getC CRC_LENGTH_BYTES u / 4) = some (r, ws) → Answers (.crcScanDone u) s (fun t => t.getC CRC_STATUS_DONE u = 1 ∧ t.getC CRC_STATUS_ERR u = 0 ∧ (tabGet {} t.crcs (unitNum u) : CrcSt).hi = crcBy (r.getC CRC_CFG_POLY u) (ws.flatMap wordBytes ++ [(tabGet {} r.crcs (unitNum u) : CrcSt).alive % 256, (tabGet {} r.crcs (unitNum u) : CrcSt).alive / 256]) / 2 ^ 32))

/-- Derived from R379, R380, R381, R382, R386, R387, R398. How Mizzen counts length, faults, seals and restarts. -/
def Obligations.MizzenCount : Prop :=
  (∀ (a b : Bool) (w : Nat) (s : State), s.mz.on = true → (a != s.mz.a) != (b != s.mz.b) → s.mz.wire = false → s.mz.quad = false → s.mz.held = false → (quadForward s.mz.a s.mz.b a b != (s.mz.params.invert == 1)) = true → s.mz.mark < s.mz.pos + 1 → Answers (.measuringWheelEdge a b w) s (fun t => t.mz.pos = s.mz.pos + 1 ∧ t.mz.gt = (s.mz.gt + (s.mz.rem + s.mz.params.num) / s.mz.params.den) % 2 ^ 64 ∧ t.mz.rem = (s.mz.rem + s.mz.params.num) % s.mz.params.den ∧ t.mz.lot = s.mz.lot)) ∧
  (∀ (a b : Bool) (w : Nat) (s : State), s.mz.on = true → (a != s.mz.a) != (b != s.mz.b) → s.mz.wire = false → s.mz.quad = false → s.mz.held = false → (quadForward s.mz.a s.mz.b a b != (s.mz.params.invert == 1)) = true → s.mz.pos + 1 ≤ s.mz.mark → Answers (.measuringWheelEdge a b w) s (fun t => t.mz.pos = s.mz.pos + 1 ∧ t.mz.gt = s.mz.gt ∧ t.mz.rem = s.mz.rem ∧ t.mz.lot = s.mz.lot)) ∧
  (∀ (a b : Bool) (w : Nat) (s : State), s.mz.on = true → (a != s.mz.a) != (b != s.mz.b) → s.mz.wire = false → s.mz.quad = false → s.mz.held = false → (quadForward s.mz.a s.mz.b a b != (s.mz.params.invert == 1)) = false → Answers (.measuringWheelEdge a b w) s (fun t => t.mz.pos = s.mz.pos - 1 ∧ t.mz.gt = s.mz.gt ∧ t.mz.rem = s.mz.rem ∧ t.mz.lot = s.mz.lot.map (fun l => { l with rev := l.rev + 1 }))) ∧
  (∀ (a b : Bool) (w : Nat) (s : State), s.mz.on = true → a ≠ s.mz.a → b ≠ s.mz.b → Answers (.measuringWheelEdge a b w) s (fun t => t.mz.quad = true ∧ t.mz.gt = s.mz.gt ∧ t.mz.lot = s.mz.lot.map (fun l => { l with flags := { l.flags with fault := true } }))) ∧
  (∀ (k : MzFault) (w : Nat) (s : State), s.mz.on = true → Answers (.measuringFault k true w) s (fun t => (t.mz.wire || k != .wire) = true ∧ (t.mz.quad || k != .quadrature) = true ∧ (t.mz.rate || k != .rate) = true ∧ t.mz.lot = s.mz.lot.map (fun l => { l with flags := { l.flags with fault := true } }) ∧ (MzEvent.fault k, (s.at w).mzSecs) ∈ t.mz.events)) ∧
  (∀ (k : MzFault) (w : Nat) (s : State), s.mz.on = true → Answers (.measuringFault k false w) s (fun t => t.mz = match k with | .wire => { s.mz with wire := false } | .quadrature => { s.mz with quad := false } | .rate => { s.mz with rate := false })) ∧
  (∀ (broken : Bool) (w : Nat) (s : State), s.mz.on = true → broken ≠ s.mz.broken → s.mz.audit.length < 4096 → Answers (.sealChange broken w) s (fun t => t.mz.broken = broken ∧ t.mz.audit = s.mz.audit ++ [⟨.seal broken, s.mz.seals, (s.at w).mzSecs, s.mz.gt⟩] ∧ t.mz.seals = (if broken then (s.mz.seals + 1) % 2 ^ 32 else s.mz.seals) ∧ t.mz.gt = s.mz.gt)) ∧
  (∀ (w : Nat) (s : State), s.mz.on = true → s.mz.held = false → Answers (.mzLockstepRestart w) s (fun t => t.mz.restarts = s.mz.restarts.filter (fun x => decide (max s.now w < x + 86400000000000)) ++ [max s.now w] ∧ t.mz.held = decide (3 ≤ t.mz.restarts.length) ∧ t.mz.gt = s.mz.gt ∧ t.mz.lot = s.mz.lot.map (fun l => { l with flags := { l.flags with restart := true, fault := true } })))

/-- Derived from R395, R396, R397, R423. What supply, commit and mirror do at Mizzen. -/
def Obligations.MizzenPowerAndMirror : Prop :=
  (∀ (w : Nat) (s : State), s.mz.on = true → s.mz.committedAt + 1000000000 ≤ max s.now w → Answers (.grandTotalCommit w) s (fun t => t.mz = { s.mz with gtKept := s.mz.gt, remKept := s.mz.rem, committedAt := max s.now w })) ∧
  (∀ (w : Nat) (s : State), s.mz.on = true → Answers (.vmzLow w) s (fun t => t.mz.gtKept = s.mz.gt ∧ t.mz.remKept = s.mz.rem ∧ t.mz.gt = s.mz.gt ∧ (MzEvent.powerLost, (s.at w).mzSecs) ∈ t.mz.events)) ∧
  (∀ (w : Nat) (s : State), s.mz.on = true → Answers (.vmzReset w) s (fun t => t.mz.on = false ∧ t.mz.gt = s.mz.gtKept ∧ t.mz.rem = s.mz.remKept ∧ t.mz.staged = [] ∧ t.mz.queue = [] ∧ t.mz.gtKept = s.mz.gtKept ∧ t.mz.audit = s.mz.audit ∧ t.mz.records = s.mz.records ∧ t.mz.lot = s.mz.lot)) ∧
  (∀ (w : Nat) (s : State), s.mz.on = false → Answers (.vmzRelease w) s (fun t => t.mz.on = true ∧ t.mz.lot = none ∧ t.mz.pos = 0 ∧ t.mz.gt = s.mz.gt)) ∧
  (∀ (w : Nat) (s : State), s.mz.on = true → s.power = .on → s.dev ≠ stSLEEP → Answers (.mirrorFrame w) s (fun t => t.get MZW_GT_LO_GT_LO = s.mz.gt % 2 ^ 32 ∧ t.get MZW_SEAL_COUNT = s.mz.seals % 2 ^ 32 ∧ t.get MZW_STATUS_LINK = 1 ∧ t.mz = { s.mz with mirrorAt := some (max s.now w) })) ∧
  (∀ (w x : Nat) (s : State), s.mz.mirrorAt = some x → x + 10000000 ≤ max s.now w → Answers (.mizzenLinkTimeout w) s (fun t => t.get MZW_GT_LO_GT_LO = 0 ∧ t.get MZW_SEAL_COUNT = 0 ∧ t.get MZW_STATUS_LINK = 0 ∧ t.mz = { s.mz with mirrorAt := none }))

/-- Derived from R384, R385, R393. What the commands from the main die do at Mizzen. -/
def Obligations.MizzenCommands : Prop :=
  (∀ (n : Nat) (q : List (Nat × Nat)) (w : Nat) (s : State), s.mz.on = true → s.mz.held = false → s.mz.queue = (mzLOT_OPEN, n) :: q → s.power = .on → s.mz.lot = none → Answers (.lotOpen w) s (fun t => t.get MZW_RESP_CMD = mzLOT_OPEN ∧ t.get MZW_RESP_RESULT = 1 ∧ t.mz.lot = some ⟨s.mz.lotNo + 1, n, s.mz.gt, 0, (s.at w).mzSecs, { unsealed := s.mz.broken }⟩ ∧ t.mz.queue = q ∧ t.mz.gt = s.mz.gt)) ∧
  (∀ (n : Nat) (q : List (Nat × Nat)) (w : Nat) (s : State), s.mz.on = true → s.mz.held = false → s.mz.queue = (mzLOT_OPEN, n) :: q → s.power = .on → s.mz.lot.isSome = true → Answers (.lotOpen w) s (fun t => t.get MZW_RESP_CMD = mzLOT_OPEN ∧ t.get MZW_RESP_RESULT = 2 ∧ t.mz = { s.mz with queue := q })) ∧
  (∀ (n : Nat) (q : List (Nat × Nat)) (l : Lot) (w : Nat) (s : State), s.mz.on = true → s.mz.held = false → s.mz.queue = (mzLOT_CLOSE, n) :: q → s.power = .on → s.mz.lot = some l → Answers (.lotClose w) s (fun t => t.get MZW_RESP_CMD = mzLOT_CLOSE ∧ t.get MZW_RESP_RESULT = 1 ∧ t.mz.lot = none ∧ ⟨l.number, l.ident, l.gOpen, s.mz.gt, s.mz.units s.mz.gt - s.mz.units l.gOpen, l.rev * s.mz.params.num / s.mz.params.den, l.secs, (s.at w).mzSecs, s.mz.hint, l.flags, Config.free s.freeCount⟩ ∈ t.mz.records ∧ t.mz.gtKept = s.mz.gt ∧ t.mz.gt = s.mz.gt)) ∧
  (∀ (n : Nat) (q : List (Nat × Nat)) (l : Lot) (w : Nat) (s : State), s.mz.on = true → s.mz.held = false → s.mz.queue = (mzLOT_CUT, n) :: q → s.power = .on → s.mz.lot = some l → Answers (.lotCut w) s (fun t => t.get MZW_RESP_CMD = mzLOT_CUT ∧ t.get MZW_RESP_RESULT = 1 ∧ t.mz.lot = some ⟨s.mz.lotNo + 1, n, s.mz.gt, 0, (s.at w).mzSecs, { unsealed := s.mz.broken }⟩ ∧ ⟨l.number, l.ident, l.gOpen, s.mz.gt, s.mz.units s.mz.gt - s.mz.units l.gOpen, l.rev * s.mz.params.num / s.mz.params.den, l.secs, (s.at w).mzSecs, s.mz.hint, l.flags, Config.free s.freeCount⟩ ∈ t.mz.records ∧ t.mz.gt = s.mz.gt)) ∧
  (∀ (n : Nat) (q : List (Nat × Nat)) (r : LotRec) (w : Nat) (k : Fin 16) (s : State), s.mz.on = true → s.mz.held = false → s.mz.queue = (mzREAD_LOT, n) :: q → s.power = .on → s.lotRecord n = some r → Answers (.readLot w) s (fun t => t.get MZW_RESP_CMD = mzREAD_LOT ∧ t.get MZW_RESP_RESULT = 1 ∧ t.get MZW_DATA_n_DATA .a k = Config.mzWord mzREAD_LOT r.list k % 2 ^ 32 ∧ t.mz = { s.mz with queue := q })) ∧
  (∀ (n : Nat) (q : List (Nat × Nat)) (e : AuditEntry) (w : Nat) (k : Fin 16) (s : State), s.mz.on = true → s.mz.held = false → s.mz.queue = (mzREAD_AUDIT, n) :: q → s.power = .on → s.mz.audit[n]? = some e → Answers (.readAudit w) s (fun t => t.get MZW_RESP_CMD = mzREAD_AUDIT ∧ t.get MZW_RESP_RESULT = 1 ∧ t.get MZW_DATA_n_DATA .a k = Config.mzWord mzREAD_AUDIT e.list k % 2 ^ 32 ∧ t.mz = { s.mz with queue := q })) ∧
  (∀ (n : Nat) (q : List (Nat × Nat)) (e : MzEvent × Nat) (w : Nat) (k : Fin 16) (s : State), s.mz.on = true → s.mz.held = false → s.mz.queue = (mzREAD_EVENT, n) :: q → s.power = .on → s.eventEntry n = some e → Answers (.readEvent w) s (fun t => t.get MZW_RESP_CMD = mzREAD_EVENT ∧ t.get MZW_RESP_RESULT = 1 ∧ t.get MZW_DATA_n_DATA .a k = Config.mzWord mzREAD_EVENT (e.1.list ++ [e.2]) k % 2 ^ 32 ∧ t.mz = { s.mz with queue := q })) ∧
  (∀ (n : Nat) (q : List (Nat × Nat)) (w : Nat) (k : Fin 16) (s : State), s.mz.on = true → s.mz.held = false → s.mz.queue = (mzREAD_CERT, n) :: q → s.power = .on → n < 4 → Answers (.readCert w) s (fun t => t.get MZW_RESP_CMD = mzREAD_CERT ∧ t.get MZW_RESP_RESULT = 1 ∧ t.get MZW_DATA_n_DATA .a k = Config.mzCert n k % 2 ^ 32 ∧ t.mz = { s.mz with queue := q })) ∧
  (∀ (n : Nat) (q : List (Nat × Nat)) (w : Nat) (s : State), s.mz.on = true → s.mz.held = false → s.mz.queue = (mzTIME_HINT, n) :: q → s.power = .on → Answers (.timeHint w) s (fun t => t.get MZW_RESP_CMD = mzTIME_HINT ∧ t.get MZW_RESP_RESULT = 1 ∧ t.mz = { s.mz with queue := q, hint := some n })) ∧
  (∀ (cmd n : Nat) (q : List (Nat × Nat)) (bad : Bool) (w : Nat) (s : State), s.mz.on = true → s.mz.held = false → s.mz.queue = (cmd, n) :: q → bad = true ∨ mzKnown cmd = false → Answers (.mzwCommandRefused (.head bad) w) s (fun t => t.mz.queue = q ∧ t.mz.gt = s.mz.gt ∧ t.mz.lot = s.mz.lot ∧ (MzEvent.refused cmd, (s.at w).mzSecs) ∈ t.mz.events))

/-- Derived from R387, R390, R391, R392. What the requests at the service port do at Mizzen. -/
def Obligations.MizzenRequests : Prop :=
  (∀ (s : State), s.mz.on = true → s.mz.held = false → Answers (.idRequest) s (fun t => t.mz = { s.mz with answer := .ident s.mz.version s.mz.swCrc (Config.mzParamCrc s.mz.params.list % 2 ^ 32) s.mz.seals })) ∧
  (∀ (n : Nat) (s : State), s.mz.on = true → s.mz.held = false → Answers (.lotRequest n) s (fun t => t.mz = { s.mz with answer := (match s.lotRecord n with | some r => .lot r | none => .err) })) ∧
  (∀ (n : Nat) (s : State), s.mz.on = true → s.mz.held = false → Answers (.audRequest n) s (fun t => t.mz = { s.mz with answer := (match s.mz.audit[n]? with | some e => .audit e | none => .err) })) ∧
  (∀ (n : Nat) (s : State), s.mz.on = true → s.mz.held = false → Answers (.evtRequest n) s (fun t => t.mz = { s.mz with answer := (match s.eventEntry n with | some e => .event e.1 e.2 | none => .err) })) ∧
  (∀ (k : MzParam) (v : Nat) (s : State), s.mz.on = true → s.mz.held = false → s.mz.broken = true → paramFits k v = true → Answers (.setParameter k v) s (fun t => t.mz = { s.mz with staged := s.mz.staged.filter (fun e => e.1 != k) ++ [(k, v)], answer := .ok })) ∧
  (∀ (k : MzParam) (v : Nat) (s : State), s.mz.on = true → s.mz.held = false → s.mz.broken = false ∨ paramFits k v = false → Answers (.setParameter k v) s (fun t => t.mz = { s.mz with answer := .err })) ∧
  (∀ (w : Nat) (s : State), s.mz.on = true → s.mz.held = false → s.mz.broken = true → s.mz.audit.length + s.mz.staged.length ≤ 4096 → s.mz.audit.length < 4096 → s.mz.lot = none → Answers (.commit w) s (fun t => t.mz.answer = .ok ∧ t.mz.staged = [] ∧ t.mz.params = s.mz.staged.foldl (fun p e => p.set e.1 e.2) s.mz.params ∧ t.mz.audit.length = s.mz.audit.length + s.mz.staged.length ∧ t.mz.gt = s.mz.gt)) ∧
  (∀ (f : MzFw) (w : Nat) (s : State), s.mz.on = true → s.mz.held = false → s.mz.broken = true → s.mz.lot = none → s.mz.edgeAt + 1000000000 ≤ max s.now w → f.framesOk = true → f.signed = true → s.mz.rollback ≤ f.rollback → s.mz.audit.length < 4096 → Answers (.fwload f w) s (fun t => t.mz.answer = .ok ∧ t.mz.version = f.version ∧ t.mz.swCrc = f.crc ∧ t.mz.rollback = f.rollback ∧ t.mz.audit = s.mz.audit ++ [⟨.firmware s.mz.version f.version s.mz.swCrc f.crc, s.mz.seals, (s.at w).mzSecs, s.mz.gt⟩] ∧ t.mz.gt = s.mz.gt)) ∧
  (∀ (w : Nat) (s : State), s.mz.on = true → s.mz.lineAt + s.mz.params.indPeriod * 1000000 ≤ max s.now w → Answers (.indicationLine w) s (fun t => t.mz = { s.mz with line := s.mz.indication, lineAt := max s.now w }))

/-- Derived from R289, R291, R292, R295, R296, R355, R365, R366, R368. What host commands answer, and when authority and nonces end. -/
def Obligations.HostCommands : Prop :=
  (∀ (r : Fin 8) (d : Desc) (s : State), s.mayRun r.val = true → d.flags < 4 → d.doneOk = true → d.length = 0 → Answers (.nop r d) s (fun t => t.hly.last = some ⟨r.val, d.tag, 0, d.arg0, []⟩ ∧ t.devIdx r.val = (s.devIdx r.val + 1) % 2 ^ 32)) ∧
  (∀ (r : Fin 8) (d : Desc) (s : State), s.mayRun r.val = true → d.flags < 4 → d.doneOk = true → d.length = 0 → 2 ≤ d.arg0 → d.arg0 ≤ 200 → Answers (.setPoll r d) s (fun t => t.hly.last = some ⟨r.val, d.tag, 0, 0, []⟩ ∧ t.get HLY_POLL_POLL_US = d.arg0)) ∧
  (∀ (r : Fin 8) (d : Desc) (s : State), s.mayRun r.val = true → d.flags < 4 → d.doneOk = true → d.length = 0 → d.arg0 < 2 ∨ 200 < d.arg0 → Answers (.setPoll r d) s (fun t => t.hly.last = some ⟨r.val, d.tag, 2, 0, []⟩)) ∧
  (∀ (r : Fin 8) (d : Desc) (s : State), s.mayRun r.val = true → d.flags < 4 → d.doneOk = true → d.length = 0 → d.arg0 ≠ r.val → d.arg0 < 8 → s.ringPresent d.arg0 = true → Answers (.ringReset r d) s (fun t => t.hly.last = some ⟨r.val, d.tag, 0, 0, []⟩ ∧ t.hly.rings = tabUpd {} (tabUpd {} s.hly.rings d.arg0 (fun x => { x with host := 0, fetched := 0, logged := [] })) r.val (fun x => { x with fetched := x.fetched - 1 }))) ∧
  (∀ (r : Fin 8) (d : Desc) (s : State), s.mayRun r.val = true → d.flags < 4 → d.doneOk = true → (Buf.out 128).fits d = true → d.bufOk = true → Answers (.getInfo r d) s (fun t => t.hly.last = some ⟨r.val, d.tag, 0, d.length, ((State.showAge ({ s with now := max s.now d.t } : State)).infoBlock.take (d.length / 4))⟩)) ∧
  (∀ (r : Fin 8) (d : Desc) (s : State), s.mayRun r.val = true → d.flags < 4 → d.doneOk = true → (Buf.out 16384).fits d = true → d.bufOk = true → d.arg0 % 4 = 0 → (∀ k : Fin 4096, k.val < d.length / 4 → s.cmdReads r.val (d.arg0 + 4 * k.val) = true) → Answers (.readReg r d) s (fun t => t.hly.last = some ⟨r.val, d.tag, 0, d.length / 4, (State.readRange ({ s with now := max s.now d.t } : State) d.clear d.arg0 (d.length / 4)).2⟩)) ∧
  (∀ (r : Fin 8) (d : Desc) (s : State), s.mayRun r.val = true → d.flags < 4 → d.doneOk = true → d.length = 0 → s.get SEC_AUTH_n_SCOPE .a r ≠ 0 → Answers (.authEnd r d) s (fun t => t.hly.last = some ⟨r.val, d.tag, 0, 0, []⟩ ∧ t.get SEC_AUTH_n_SCOPE .a r = 0)) ∧
  (∀ (r : Fin 8) (d : Desc) (s : State), s.mayRun r.val = true → d.flags < 4 → d.doneOk = true → d.length = 32 → d.addr % 4 = 0 → d.bufOk = true → d.arg0 = 1 ∨ d.arg0 = 2 → s.sec.backoff = none → Answers (.authChallenge r d) s (fun t => t.hly.last = some ⟨r.val, d.tag, 0, 32, ((List.range 8).map (fun k => Config.free s.freeCount % 2 ^ 256 / 2 ^ (32 * k) % 2 ^ 32))⟩ ∧ (t.ring r.val).nonce = some ⟨Config.free s.freeCount % 2 ^ 256, d.arg0, max s.now d.t⟩)) ∧
  (∀ (r : Fin 8) (d : Desc) (a : AuthResp) (n : NonceSt) (s : State), s.mayRun r.val = true → d.flags < 4 → d.doneOk = true → (Buf.inp 256).fits d = true → d.length ≠ 0 → d.bufOk = true → (s.ring r.val).nonce = some n → max s.now d.t < n.at_ + 60000000000 → State.authPasses (State.updRing { s with now := max s.now d.t } r.val (fun x => { x with nonce := none })) a d.length n = true → a.service = false → a.scope < 2 ^ 16 → Answers (.authResponse r d a) s (fun t => t.hly.last = some ⟨r.val, d.tag, 0, a.scope, []⟩ ∧ t.get SEC_AUTH_n_SCOPE .a r = (s.get SEC_AUTH_n_SCOPE .a r ||| a.scope) ∧ (t.ring r.val).nonce = none ∧ (t.ring r.val).authAt = max s.now d.t)) ∧
  (∀ (r : Fin 8) (d : Desc) (a : AuthResp) (n : NonceSt) (s : State), s.mayRun r.val = true → d.flags < 4 → d.doneOk = true → (Buf.inp 256).fits d = true → d.length ≠ 0 → d.bufOk = true → (s.ring r.val).nonce = some n → max s.now d.t < n.at_ + 60000000000 → State.authPasses (State.updRing { s with now := max s.now d.t } r.val (fun x => { x with nonce := none })) a d.length n = false → Answers (.authResponse r d a) s (fun t => t.hly.last = some ⟨r.val, d.tag, 6, 0, []⟩ ∧ t.service = s.service)) ∧
  (∀ (r : Fin 8) (w : Nat) (s : State), (s.ring r.val).authAt + idleLimit ≤ max s.now w → Answers (.authorityIdleTimeout r w) s (fun t => t.get SEC_AUTH_n_SCOPE .a r = 0)) ∧
  (∀ (r : Fin 8) (w : Nat) (n : NonceSt) (s : State), (s.ring r.val).nonce = some n → n.at_ + 60000000000 ≤ max s.now w → Answers (.nonceLapse r w) s (fun t => (t.ring r.val).nonce = none)) ∧
  (∀ (w e : Nat) (s : State), s.sec.backoff = some e → e ≤ max s.now w → Answers (.authBackoffEnd w) s (fun t => t.sec.backoff = none ∧ t.get SEC_AUTH_FAIL_BACKOFF_S = 0)) ∧
  (∀ (w e : Nat) (s : State), s.service = some e → e ≤ max s.now w → Answers (.serviceDurationEnd w) s (fun t => t.service = none))

/-- Derived from R196, R236, R292, R359, R361, R369, R436. What attestation, shutdown, keys, updates, epochs and restart do. -/
def Obligations.HostKeysAndUpdates : Prop :=
  (∀ (r : Fin 8) (d : Desc) (nonce : BitVec 256) (s : State), s.mayRun r.val = true → d.flags < 4 → d.doneOk = true → (Buf.inp 1024).fits d = true → 336 ≤ d.length → d.bufOk = true → Answers (.attest r d nonce) s (fun t => ∃ data, t.hly.last = some ⟨r.val, d.tag, 0, 336, data⟩ ∧ data.take 1 = [0x41545354])) ∧
  (∀ (r : Fin 8) (d : Desc) (s : State), s.mayRun r.val = true → d.flags < 4 → d.doneOk = true → d.length = 0 → s.hly.exclusive = none → s.mayShutdown = true → s.sec.l3 = none → s.outs.slot.unit < 20 → Answers (.shutdown r d) s (fun t => t.hly.last = some ⟨r.val, d.tag, 0, 0, []⟩ ∧ t.dev = stSHUTDOWN ∧ t.sec.run = some .shutdown ∧ t.die.a.cmd = 0 ∧ t.die.b.cmd = 0 ∧ t.die.b.lsCmd = 0)) ∧
  (∀ (r : Fin 8) (d : Desc) (s : State), s.mayRun r.val = true → d.flags < 4 → d.doneOk = true → d.length = 0 → s.hly.exclusive = none → s.hasEpoch d.arg0 = true → s.holds r.val 0 = true → s.get GOA_KEY_ACTIVE_EPOCH ≠ d.arg0 → Answers (.keyRemove r d) s (fun t => t.hly.last = some ⟨r.val, d.tag, 0, 0, []⟩ ∧ t.sec.lineKeys = s.sec.lineKeys.filter (fun e => e != d.arg0))) ∧
  (∀ (r : Fin 8) (d : Desc) (k : KeyBlob) (s : State), s.mayRun r.val = true → d.flags < 4 → d.doneOk = true → (Buf.inp 256).fits d = true → d.length ≠ 0 → d.bufOk = true → s.hly.exclusive = none → s.holds r.val 0 = true → 1 ≤ d.arg0 → d.arg0 ≤ 255 → s.keyOk d k = true → s.sec.lineKeys.length < 2 → Answers (.keyInstall r d k) s (fun t => t.hly.last = some ⟨r.val, d.tag, 0, 0, []⟩ ∧ t.sec.lineKeys = d.arg0 :: s.sec.lineKeys)) ∧
  (∀ (r : Fin 8) (d : Desc) (f : StageFile) (s : State), s.mayRun r.val = true → d.flags < 4 → d.doneOk = true → (Buf.inp 16777216).fits d = true → d.length ≠ 0 → d.bufOk = true → s.hly.exclusive = none → s.holds r.val s.stageScope = true → s.stageCheck f d.length = none → Answers (.fwStage r d f) s (fun t => t.hly.last = some ⟨r.val, d.tag, 0, 0, []⟩ ∧ (f.pay = .firmware → t.sec.fwSlot = s.sec.fwSlot ∧ (tabGet {} t.sec.fw (1 - s.sec.fwSlot)).mark = .trial))) ∧
  (∀ (r : Fin 8) (d : Desc) (s : State), s.mayRun r.val = true → d.flags < 4 → d.length = 0 → s.hly.exclusive = none → s.hasEpoch d.arg0 = true → d.arg1 < 2 → s.holds r.val 0 = true → s.syncedNet (argNet d.arg1) = true → Answers (.epochSwitch r d) s (fun t => t.epochAt = some (argNet d.arg1, d.addr, d.arg0) ∧ t.hly.exclusive = some ⟨0x1A, some r.val, d.tag, d.irq, d.doneOk⟩)) ∧
  (∀ (r : Fin 8) (d : Desc) (s : State), s.mayRun r.val = true → d.flags < 4 → d.length = 0 → s.hly.exclusive = none → s.restartRefused = none → d.doneOk = true → Answers (.restart r d true) s (fun t => t.fc.a.latches = s.fc.a.latches.filter (fun l => l.cls == 3) ∧ t.fc.b.latches = s.fc.b.latches.filter (fun l => l.cls == 3) ∧ t.fc.a.windows = [] ∧ t.fc.b.windows = []))

/-- Derived from R152, R153, R154. What each step of a Refit does. -/
def Obligations.RefitCommands : Prop :=
  (∀ (r : Fin 8) (d : Desc) (im : Image) (s : State), ({ s with now := max s.now d.t } : State).refitStarts r.val d im = true → Answers (.refit r d im) s (fun t => t.get LGE_REFIT_PHASE = phSTOPPING ∧ t.refit = some im ∧ t.hly.exclusive = some ⟨opREFIT, some r.val, d.tag, d.irq, d.doneOk⟩)) ∧
  (∀ (im : Image) (s : State), s.refit = some im → s.get LGE_REFIT_PHASE = phSTOPPING → s.refitOpen = true → Answers (.refitStopped) s (fun t => t.get LGE_REFIT_PHASE = phAPPLY ∧ t.refit = some im)) ∧
  (∀ (im : Image) (s : State), s.refit = some im → s.get LGE_REFIT_PHASE = phAPPLY → Answers (.refitApplied true) s (fun t => t.get LGE_REFIT_PHASE = phCOMMIT)) ∧
  (∀ (im : Image) (s : State), s.refit = some im → s.get LGE_REFIT_PHASE = phAPPLY → Answers (.refitApplied false) s (fun t => t.refit = none ∧ t.refitHeld = [] ∧ t.prog = s.prog)) ∧
  (∀ (im : Image) (s : State), s.refit = some im → s.get LGE_REFIT_PHASE = phCOMMIT → im.isWhole = false → Answers (.refitCommitted true) s (fun t => t.refit = none ∧ t.refitHeld = [] ∧ t.prog = s.prog ∧ t.mem = s.mem))

/-- Derived from R400, R404, R407, R408. What Ratline runs do from their start to their end. -/
def Obligations.RatlineRuns : Prop :=
  (∀ (s : State), s.bstFree = true → s.bstState = true → Answers (.bstFullRun) s (fun t => t.sec.run = some (.controlled true) ∧ t.sec.runAt = s.now ∧ t.sec.abort = false ∧ t.get BST_STATUS_BUSY = 1)) ∧
  (∀ (l : BitVec 13) (m : BitVec 64) (s : State), s.bstFree = true → s.bstState = true → Answers (.bstSelectedRun l m) s (fun t => t.sec.run = some (.controlled false) ∧ t.sec.runAt = s.now ∧ t.sec.abort = false ∧ t.get BST_STATUS_BUSY = 1)) ∧
  (∀ (s : State), s.bstFree = false → Answers (.bstFullRun) s (fun t => t.sec = s.sec ∧ t.get BST_STATUS_COLL = 1)) ∧
  (∀ (k : Fin 32) (ok : Bool) (s : State), s.bstFree = true → s.bstState = true → s.beyondRepair k.val = false → s.fuses (32 + k.val) = 0 → Answers (.bstRepair k ok) s (fun t => t.get BST_STATUS_REPAIR_RESULT = (if ok then 1 else 5))) ∧
  (∀ (b : Bool) (s : State), s.sec.run = some (.controlled b) → Answers (.bstAbort) s (fun t => t.sec = { s.sec with abort := true })) ∧
  (∀ (o : RatlineObs) (k : RunKind) (s : State), s.sec.run = some k → o.fails = [] → s.sec.abort = false → s.sec.l3Dead = false → k = .cold ∨ k = .cert ∨ k = .shutdown ∨ k = .l3 → Answers (.ratlineComplete o) s (fun t => t.sec.run = none)) ∧
  (∀ (o : RatlineObs) (s : State), s.sec.run = some (.controlled true) → Answers (.ratlineComplete o) s (fun t => t.mem = s.mem.filter (fun e => decide (0x30000000 ≤ e.1 ∧ e.1 < 0x30000400)) ∧ t.mz = s.mz)) ∧
  (∀ (o : RatlineObs) (s : State), s.sec.run = some (.controlled false) → Answers (.ratlineComplete o) s (fun t => t.mem = s.mem ∧ t.mz = s.mz))

/-- Derived from R190, R303, R304, R306. What makes host loss. -/
def Obligations.HostLoss : Prop :=
  (∀ (w : Nat) (s : State), s.power = .on → s.hlyState = hlyRUN → s.quiet → s.get HLY_POLL_HOST_WD ≠ 0 → s.hly.hbAt + s.get HLY_POLL_HOST_WD * 1000000 ≤ max s.now w → Answers (.heartbeatTimeout w) s (fun t => t.get HLY_STATUS_STATE = hlyLOST ∧ t.hostLost = true ∧ t.hly.loss = .poll ∧ t.faulted .a ⟨54, 0, .shared, .none⟩ ∧ t.faulted .b ⟨54, 0, .shared, .none⟩)) ∧
  (∀ (s : State), s.power = .on → s.hlyState = hlyRUN → s.quiet → 3 ≤ s.hly.fails → Answers (.doorbellReadFailures) s (fun t => t.get HLY_STATUS_STATE = hlyLOST ∧ t.hostLost = true ∧ t.hly.loss = .poll ∧ t.faulted .a ⟨54, 0, .shared, .none⟩ ∧ t.faulted .b ⟨54, 0, .shared, .none⟩)) ∧
  (∀ (s : State), s.power = .on → s.hlyState = hlyRUN → s.quiet → Answers (.busMasterDisable) s (fun t => t.get HLY_STATUS_STATE = hlyLOST ∧ t.hostLost = true ∧ t.hly.loss = .poll ∧ t.faulted .a ⟨54, 0, .shared, .none⟩ ∧ t.faulted .b ⟨54, 0, .shared, .none⟩)) ∧
  (∀ (s : State), s.power = .on → s.hlyState = hlyRUN → s.quiet → Answers (.pcieLinkLoss) s (fun t => t.get HLY_WINDOW_STATUS_OPEN = 1 ∧ t.hostLost = true ∧ t.hly.loss = .setup ∧ t.hly.rings = [] ∧ t.faulted .a ⟨54, 0, .shared, .none⟩ ∧ t.faulted .b ⟨54, 0, .shared, .none⟩)) ∧
  (∀ (s : State), s.power = .on → s.hlyState = hlyRUN → s.quiet → Answers (.pcieFlr) s (fun t => t.get HLY_WINDOW_STATUS_OPEN = 1 ∧ t.hostLost = true ∧ t.hly.loss = .setup ∧ t.hly.rings = [] ∧ t.faulted .a ⟨54, 0, .shared, .none⟩ ∧ t.faulted .b ⟨54, 0, .shared, .none⟩)) ∧
  (∀ (s : State), s.power = .on → s.hlyState = hlyRUN → s.quiet → Answers (.pcieD3hot) s (fun t => t.get HLY_WINDOW_STATUS_OPEN = 1 ∧ t.hostLost = true ∧ t.hly.loss = .setup ∧ t.hly.rings = [] ∧ t.faulted .a ⟨54, 0, .shared, .none⟩ ∧ t.faulted .b ⟨54, 0, .shared, .none⟩)) ∧
  (∀ (s : State), s.power = .on → s.quiet → Answers (.halyardFault) s (fun t => t.faulted .a ⟨54, 0, .shared, .none⟩ ∧ t.faulted .b ⟨54, 0, .shared, .none⟩))

/-- Derived from R188, R280, R281. When the set-up window closes, and what it denies then. -/
def Obligations.HostSetupWindow : Prop :=
  (∀ (m tr : Bool) (w : Nat) (s : State), s.flag HLY_SETUP_DONE_DONE = false → s.flag HLY_WINDOW_STATUS_OPEN = true → ({ s with now := max s.now w } : State).setupCheck m tr = 0 → Answers (.hlySetupDone m tr w) s (fun t => t.get HLY_SETUP_DONE_DONE = 1 ∧ t.get HLY_STATUS_STATE = hlyRUN ∧ t.get HLY_STATUS_SETUP_ERR = 0 ∧ t.hly.hbAt = max s.now w)) ∧
  (∀ (m tr : Bool) (w : Nat) (s : State), s.flag HLY_SETUP_DONE_DONE = false → s.flag HLY_WINDOW_STATUS_OPEN = true → ({ s with now := max s.now w } : State).setupCheck m tr ≠ 0 → Answers (.hlySetupDone m tr w) s (fun t => t.get HLY_STATUS_SETUP_ERR = ({ s with now := max s.now w } : State).setupCheck m tr ∧ t.flag HLY_SETUP_DONE_DONE = false ∧ t.flag HLY_WINDOW_STATUS_OPEN = true)) ∧
  (∀ (off : BitVec 16) (s : State), s.flag HLY_SETUP_DONE_DONE = true → off.toNat ≠ 0x1008 → Answers (.bar0WriteDenied off) s (fun t => t.bus = .error ∧ t.mem = s.mem ∧ t.prog = s.prog)) ∧
  (∀ (i : Initiator) (c : Chan) (n : Fin 17) (s : State), s.fwAllows i .write (blockBase .fc c + 0x54) (blockBase .fc c + 0x54 + 3) = true → Answers (.fcRecAck i c n) s (fun t => t.bus = .done ∧ t.get FC_REC_PTR_UNREAD c = s.get FC_REC_PTR_UNREAD c - n.val))

/-- Derived from R282, R286, R300, R301, R302. What doorbells, rings and interrupts do. -/
def Obligations.HostExchange : Prop :=
  (∀ (n : Fin 8) (s : State), s.ringPresent n.val = true → s.hlyState ≠ hlySETUP → Answers (.doorbellKick n) s (fun t => t.hly = { s.hly with kick := true })) ∧
  (∀ (o : PollObs) (w : Nat) (s : State), s.power = .on → s.hlyState ≠ hlySETUP → o.ok = false → Answers (.doorbellPoll o w) s (fun t => t.hly.fails = s.hly.fails + 1 ∧ t.hly.kick = false ∧ t.hly.rings = s.hly.rings)) ∧
  (∀ (o : PollObs) (w : Nat) (s : State), s.power = .on → s.hlyState = hlyRUN → o.ok = true → o.seqA = o.seqB → Answers (.doorbellPoll o w) s (fun t => t.hly.alive = (s.hly.alive + 1) % 2 ^ 32 ∧ t.hly.fails = 0 ∧ t.hly.hb = o.heartbeat ∧ t.hly.imgSeq = o.seqA % 2 ^ 32 ∧ t.hly.kick = false)) ∧
  (∀ (w n : Nat) (e : HlyEv) (q : List HlyEv) (s : State), s.power = .on → s.hlyState = hlyRUN → s.ringOf tyEVENT = some n → s.ev.queue = e :: q → e.entries ≤ s.ringRoom n → Answers (.eventRingWrite true w) s (fun t => t.ev.queue = q ∧ t.hly.evLast = (List.range e.entries).flatMap (fun k => s.evWords n (s.devIdx n) e k))) ∧
  (∀ (w n : Nat) (s : State), s.power = .on → s.cycles = true → s.hlyState = hlyRUN → s.get HLY_IMG_CFG_IMG_DIV ≤ idxSub (s.get SYS_GCOUNT_COUNT) s.hly.imgWait → s.ringOf tyIMAGE = some n → s.ringRoom n ≠ 0 → Answers (.imageEntryWrite true w) s (fun t => t.hly.imgWait = s.get SYS_GCOUNT_COUNT ∧ t.devIdx n = (s.devIdx n + 1) % 2 ^ 32)) ∧
  (∀ (v : Fin 8) (w x : Nat) (s : State), (s.vec v.val).due = some x → x ≤ max s.now w → Answers (.irqDelayExpiry v w) s (fun t => (t.vec v.val).due = none))

/-- Derived from R21, R96, R127, R130, R140, R144, R216. What the events of the guard cycle do. -/
def Obligations.GuardCycle : Prop :=
  (∀ (w : Nat) (a b : DieObs) (c : Chan) (s : State), s.cycles = true → Answers (.guardCycleBoundary w a b) s (fun t => (twoAt t.graph c).delivered = false ∧ (twoAt t.graph c).agreed = false ∧ (twoAt t.graph c).noStage = false)) ∧
  (∀ (w : Nat) (app : BitVec 64) (c : Chan) (s : State), s.cycles = true → Answers (.coordinateSnapshot w app) s (fun t => (twoAt t.ae c).winSnap = (twoAt s.ae c).win)) ∧
  (∀ (c : Chan) (h : StayHead) (s : State), s.quiet → s.accepts c .cycle h → Answers (.staySnapshotFrame c h false) s (fun t => t.faulted .a ⟨63, 3, .shared, .none⟩ ∧ t.faulted .b ⟨63, 3, .shared, .none⟩)) ∧
  (∀ (c : Chan) (h : StayHead) (s : State), s.accepts c .cycle h → Answers (.staySnapshotFrame c h true) s (fun t => (twoAt t.graph c).ins = ((twoAt s.graph (otherChan c)).ins.filter (fun e => (decide (0x0E0 ≤ e.1) && decide (e.1 < 0x0F0) && e.1 % 2 == chanNum (otherChan c)) || (c == .b && decide (0x380 ≤ e.1) && decide (e.1 < 0x400)))).foldl (fun t e => tabSet t e.1 e.2) (twoAt s.graph c).ins)) ∧
  (∀ (a b : Nat) (c : Chan) (s : State), s.cycles = true → s.graphRuns = true → s.parts.filter s.evaluates = [c] → Answers (.graphEvaluation a b) s (fun t => (twoAt t.graph c).delivered = true)) ∧
  (∀ (a b : Nat) (c : Chan) (s : State), s.cycles = true → s.graphRuns = true → s.parts.filter s.evaluates = [.a, .b] → Answers (.graphEvaluation a b) s (fun t => (twoAt t.graph c).delivered = true)) ∧
  (∀ (n : Fin 512) (i : Inst) (c : Chan) (r : List Chan) (f : Nat) (s : State), s.quiet → s.prog.insts.find? (fun p => p.1 == n.val) = some (n.val, i) → s.parts = c :: r → i.code = 0x26 ∨ i.code = 0x41 → longerThan (edmRun i (tabGet {} (twoAt s.graph c).insts n.val)) (s.cyclesOfMs (if i.code = 0x26 then (parAt i.params 0).toNat else s.get DSF_SBC_TIME_FB_TIME c)) = true → f ∈ s.edmFns i → Answers (.edmTimeout n) s (fun t => t.faulted .a ⟨30, 1, .shared, .sf f⟩ ∧ t.faulted .b ⟨30, 1, .shared, .sf f⟩)) ∧
  (∀ (c : Chan) (s : State), s.quiet → Answers (.graphIntegrityCheck c false) s (fun t => t.faulted c ⟨41, 2, chanCharge c, .none⟩)) ∧
  (∀ (c : Chan) (s : State), Answers (.graphIntegrityCheck c true) s (fun t => t.conds = s.conds.filter (· != (41, .none)) ∧ t.fc = s.fc))

/-- Derived from R21, R22, R23, R133. How the two channels agree before anything is staged. -/
def Obligations.GuardCycleAgreement : Prop :=
  (∀ (c : Chan) (s : State), s.cycles = true → s.parts = [c] → Answers (.resultAgreement) s (fun t => twoAt t.graph c = { twoAt s.graph c with agreed := (twoAt s.graph c).delivered })) ∧
  (∀ (s : State), s.cycles = true → s.parts = [.a, .b] → (twoAt s.graph .a).delivered = true → s.evaluates .a = true → Answers (.resultAgreement) s (fun t => t.get STY_SEQ_CYC_TX .a = (s.get STY_SEQ_CYC_TX .a + 1) % 256 ∧ t.graph = s.graph)) ∧
  (∀ (c : Chan) (h : StayHead) (s : State), s.accepts c .cycle h → sameResult (twoAt s.graph c) (twoAt s.graph (otherChan c)) = true → Answers (.stayResultFrame c h true) s (fun t => (twoAt t.graph c).agreed = true ∧ t.fc = s.fc)) ∧
  (∀ (c : Chan) (h : StayHead) (same : Bool) (s : State), s.quiet → s.accepts c .cycle h → (same && sameResult (twoAt s.graph c) (twoAt s.graph (otherChan c))) = false → Answers (.stayResultFrame c h same) s (fun t => t.faulted .a ⟨7, 2, .shared, .none⟩ ∧ t.faulted .b ⟨7, 2, .shared, .none⟩ ∧ t.graph.a.noStage = true ∧ t.graph.b.noStage = true)) ∧
  (∀ (c : Chan) (s : State), s.quiet → s.cycles = true → s.evaluates c = true → (twoAt s.graph c).delivered = false → Answers (.guardCycleOverrun c) s (fun t => t.faulted c ⟨8, 2, chanCharge c, .none⟩)) ∧
  (∀ (c : Chan) (s : State), s.cycles = true → s.parts = [c] → s.stayMode c = 2 → s.evaluates c = true → Answers (.stage) s (fun t => (twoAt t.die c).staged = some (s.stagedFor c))) ∧
  (∀ (s : State), s.cycles = true → s.parts = [.a, .b] → s.evaluates .a = true → s.graph.a.agreed = true → s.graph.a.noStage = false → s.graphRuns = true → Answers (.stage) s (fun t => t.die.a.staged = some (s.stagedFor .a)))

/-- Derived from R363, R426, R428, R438. What starts the main die and what a start leaves. -/
def Obligations.MainStarts : Prop :=
  (∀ (o : StartObs) (s : State), s.power ≠ .off → Answers (.por o) s (fun t => t.power = .on ∧ t.refit = none ∧ t.epochAt = none ∧ t.graph = ⟨{}, {}⟩ ∧ t.stay = ⟨{}, {}⟩ ∧ t.service = none ∧ t.quiet ∧ t.mem = s.mem.filter (fun e => decide (0x30000000 ≤ e.1 ∧ e.1 < 0x30000400)))) ∧
  (∀ (o : StartObs) (s : State), s.power = .off → Answers (.por o) s (fun t => t.power = .on ∧ t.refit = none ∧ t.epochAt = none ∧ t.graph = ⟨{}, {}⟩ ∧ t.stay = ⟨{}, {}⟩ ∧ t.service = none ∧ t.quiet ∧ t.mem = [])) ∧
  (∀ (o : StartObs) (vbat : Bool) (s : State), s.running = true → Answers (.bor o vbat) s (fun t => t.power = .on ∧ t.refit = none ∧ t.graph = ⟨{}, {}⟩ ∧ t.quiet ∧ t.mem = s.mem.filter (fun e => decide (0x30000000 ≤ e.1 ∧ e.1 < 0x30000400)) ∧ t.faulted .a ⟨61, 0, .shared, .none⟩ ∧ t.faulted .b ⟨61, 0, .shared, .none⟩)) ∧
  (∀ (ns : Nat) (o : StartObs) (s : State), s.running = true → 1000 ≤ ns → Answers (.resetN ns o) s (fun t => t.power = .on ∧ t.refit = none ∧ t.epochAt = none ∧ t.graph = ⟨{}, {}⟩ ∧ t.stay = ⟨{}, {}⟩ ∧ t.service = none ∧ t.quiet ∧ t.mem = s.mem.filter (fun e => decide (0x30000000 ≤ e.1 ∧ e.1 < 0x30000400)))) ∧
  (∀ (ns : Nat) (o : StartObs) (s : State), ns < 200 → Answers (.resetN ns o) s (fun t => t = s)) ∧
  (∀ (o : StartObs) (n : Nat) (s : State), s.sec.fwRun = some n → (s.fwSlotAt n).mark = .trial → s.sec.startAt + 5000000000 ≤ max s.now o.t → Answers (.trialStartTimeout o) s (fun t => t.power = .on ∧ t.refit = none ∧ t.graph = ⟨{}, {}⟩ ∧ t.mem = s.mem.filter (fun e => decide (0x30000000 ≤ e.1 ∧ e.1 < 0x30000400)) ∧ t.faulted .a ⟨57, 0, .shared, .none⟩ ∧ t.faulted .b ⟨57, 0, .shared, .none⟩ ∧ t.get SEC_ROLLBACK_TRIAL = 2))

/-- Derived from R425, R431, R438. How the power state moves. -/
def Obligations.PowerStates : Prop :=
  (∀ (t0 : Nat) (s : State), s.power = .off → Answers (.vbatRise t0) s (fun t => t.power = .standby ∧ t.sec.aonLost = true ∧ t.aonStart = max s.now t0 ∧ t.get PWR_FLAGS_VBAT_DIP = 1)) ∧
  (∀ (vbat : Bool) (t0 : Nat) (s : State), s.running = true → Answers (.mainRailsRemoved vbat t0) s (fun t => t.power = (if vbat then .standby else .off) ∧ t.refit = none ∧ t.epochAt = none ∧ t.graph = ⟨{}, {}⟩ ∧ t.mem = (if vbat then s.mem.filter (fun e => decide (0x30000000 ≤ e.1 ∧ e.1 < 0x30000400)) else []))) ∧
  (∀ (t0 : Nat) (s : State), s.power = .standby → Answers (.vbatDip t0) s (fun t => t.power = .off ∧ t.sec.aonLost = true ∧ t.get PWR_FLAGS_VBAT_DIP = 1)) ∧
  (∀ (t0 : Nat) (s : State), s.power = .on → Answers (.vbatDip t0) s (fun t => t.power = .on ∧ t.sec.aonLost = true ∧ t.mem = s.mem.filter (fun e => !decide (0x30000000 ≤ e.1 ∧ e.1 < 0x30000400))))

/-- Derived from R184, R424, R426. When a supply or a junction is faulty. -/
def Obligations.SupplyFaults : Prop :=
  (∀ (s : State), s.running = true → s.quiet → Answers (.vbatLow) s (fun t => t.faulted .a ⟨61, 0, .shared, .none⟩ ∧ t.faulted .b ⟨61, 0, .shared, .none⟩ ∧ t.get PWR_STATUS_VBAT_LOW = 1)) ∧
  (∀ (c : Chan) (s : State), (twoAt s.die c).wasReady = false → Answers (.vsUndervoltage c) s (fun t => (twoAt t.die c).heldUv = 0xFFFF ∧ (twoAt t.die c).powered = false ∧ (twoAt t.die c).staged = none)) ∧
  (∀ (c : Chan) (s : State), s.running = true → (twoAt s.die c).wasReady = true → ¬ s.quietSupply = true → s.outs.slot.unit < 20 → s.quiet → Answers (.vsUndervoltage c) s (fun t => t.faulted .a ⟨61, 2, (chanCharge c), .none⟩ ∧ t.faulted .b ⟨61, 2, (chanCharge c), .none⟩)) ∧
  (∀ (c : Chan) (s : State), Answers (.vsRelease c) s (fun t => twoAt t.die c = { powered := true, wasReady := (twoAt s.die c).wasReady, ready := (twoAt s.die c).ready, lastCmd := s.now, fkWords := s.fkWordsOf c, furlWords := s.furlImage c })) ∧
  (∀ (r : Rail) (s : State), mainRail r = true → Answers (.supplyMonitorFault r true) s (fun t => t.faulted .a ⟨61, 3, .shared, .none⟩ ∧ t.faulted .b ⟨61, 3, .shared, .none⟩)) ∧
  (∀ (r : Rail) (s : State), s.quiet → Answers (.supplyMonitorFault r false) s (fun t => t.faulted .a ⟨61, 0, .shared, .none⟩ ∧ t.faulted .b ⟨61, 0, .shared, .none⟩ ∧ t.get (railFld r) = 0)) ∧
  (∀ (die : Fin 3) (temp : Int) (s : State), 1350 < temp → Answers (.junctionOvertemperature die temp) s (fun t => t.faulted .a ⟨62, 3, .shared, .none⟩ ∧ t.faulted .b ⟨62, 3, .shared, .none⟩)) ∧
  (∀ (die : Fin 3) (temp : Int) (s : State), 1250 < temp → temp ≤ 1350 → s.quiet → Answers (.junctionOvertemperature die temp) s (fun t => t.faulted .a ⟨62, 0, .shared, .none⟩ ∧ t.faulted .b ⟨62, 0, .shared, .none⟩)) ∧
  (∀ (s : State), Answers (.secInternalFault) s (fun t => t.faulted .a ⟨15, 3, .shared, .none⟩ ∧ t.faulted .b ⟨15, 3, .shared, .none⟩))

/-- Derived from R412, R431, R433, R434, R435. How a start ends, and when SLEEP begins and ends. -/
def Obligations.StartsAndSleep : Prop :=
  (∀ (t0 : Nat) (s : State), s.running = true → s.dev = stINIT → s.sec.run = none → s.locked = false → s.sec.startImg = .loaded → s.stayTrained = true → Answers (.startComplete t0) s (fun t => t.dev = stSAFE_READY ∧ t.die.a.ready = true ∧ t.die.b.ready = true)) ∧
  (∀ (t0 : Nat) (s : State), s.running = true → s.dev = stINIT → s.sec.run = none → s.locked = false → s.sec.startImg = .none → Answers (.startComplete t0) s (fun t => t.dev = stSAFE)) ∧
  (∀ (t0 : Nat) (s : State), s.running = true → s.dev = stINIT → s.sec.run = none → s.locked = false → s.sec.startImg = .rejected → Answers (.startComplete t0) s (fun t => t.dev = stSAFE)) ∧
  (∀ (t0 : Nat) (s : State), s.cyclesOfMs 1000 ≤ s.sleepRun → s.maySleep = true → Answers (.sleepEntry t0) s (fun t => t.dev = stSLEEP ∧ t.sleepAt = max s.now t0 ∧ t.sleepRun = 0 ∧ t.mz.mirrorAt = none)) ∧
  (∀ (w : WakeCause) (t0 : Nat) (s : State), s.dev = stSLEEP → State.wakes { s with now := max s.now t0 } w = true → Answers (.wake w t0) s (fun t => t.die.a.lastCmd = max s.now t0 ∧ t.die.b.lastCmd = max s.now t0))

/-- Derived from R190, R213, R351, R353, R428, R438. What lifecycle requests, debuggers and an APP reset do. -/
def Obligations.LifecycleAndDebug : Prop :=
  (∀ (s : State), s.lifecycle = lcBLANK → s.sec.bootsel = 2 → Answers (.jtagLifecycleRequest true) s (fun t => t.get SEC_LIFECYCLE_STATE = lcMANUFACTURE)) ∧
  (∀ (s : State), s.lifecycle = lcMANUFACTURE → s.groupLocked 1 = true → s.groupLocked 4 = true → s.groupLocked 6 = true → Answers (.jtagLifecycleRequest true) s (fun t => t.get SEC_LIFECYCLE_STATE = lcPROVISIONED)) ∧
  (∀ (ok : Bool) (s : State), s.lifecycle ≠ lcBLANK → s.lifecycle ≠ lcMANUFACTURE → Answers (.jtagLifecycleRequest ok) s (fun t => t = s)) ∧
  (∀ (c : Chan) (e : DbgElem) (s : State), s.lifecycle = lcSERVICE → s.scopeHeld 9 = true → s.quiet → Answers (.debugAttach c e) s (fun t => (twoAt t.stay c).decoupled = true ∧ t.faulted c ⟨5, 2, (chanCharge c), .none⟩)) ∧
  (∀ (c : Chan) (e : DbgElem) (s : State), s.lifecycle ≠ lcSERVICE ∨ s.scopeHeld 9 = false → Answers (.debugAttach c e) s (fun t => t = s)) ∧
  (∀ (c : Chan) (s : State), Answers (.debugDetach c) s (fun t => t.get LKS_STATUS_DBG_ATTACHED c = 0 ∧ t.stay = s.stay ∧ t.fc = s.fc)) ∧
  (∀ (c : Chan) (s : State), s.lifecycle = lcSERVICE → s.flag LKS_STATUS_DBG_ATTACHED c = true → Answers (.debugReset c .sc) s (fun t => twoAt t.graph c = {})) ∧
  (∀ (c : Chan) (s : State), s.lifecycle = lcSERVICE → s.flag LKS_STATUS_DBG_ATTACHED c = true → Answers (.debugReset c .ios) s (fun t => twoAt t.inp.filt c = 0 ∧ twoAt t.inp.latched c = 0)) ∧
  (∀ (c : Chan) (s : State), s.lifecycle = lcSERVICE → s.flag LKS_STATUS_DBG_ATTACHED c = true → Answers (.debugReset c .ae) s (fun t => twoAt t.ae c = {})) ∧
  (∀ (t0 : Nat) (s : State), Answers (.appReset t0) s (fun t => 9 ∈ t.fc.a.windows ∧ 9 ∈ t.fc.b.windows ∧ t.crcs = tabDel s.crcs 2 ∧ t.tims = tabSet s.tims 2 { last := max s.now t0 }))

/-- Derived from R75, R341, R342, R350, R395, R437. Which registers a read of a low half latches. -/
def Obligations.RegisterReads : Prop :=
  (∀ (i : Initiator) (c : Chan) (s : State), s.fwAllows i .read (blockBase .lc c + 0x24) (blockBase .lc c + 0x24 + 3) = true → Answers (.lcPosLoRead i c) s (fun t => t.bus = .data (s.word 0 (blockBase .lc c + 0x24)) ∧ ∀ o ∈ [0x28, 0x2C, 0x30, 0x34, 0x38], t.latched i 0 (blockBase .lc c + o) = s.word 0 (blockBase .lc c + o))) ∧
  (∀ (i : Initiator) (c : Chan) (s : State), s.fwAllows i .read (blockBase .lc c + 0x404) (blockBase .lc c + 0x404 + 3) = true → Answers (.camOriginLoRead i c) s (fun t => t.bus = .data (s.word 0 (blockBase .lc c + 0x404)) ∧ ∀ o ∈ [0x408], t.latched i 0 (blockBase .lc c + o) = s.word 0 (blockBase .lc c + o))) ∧
  (∀ (i : Initiator) (s : State), s.fwAllows i .read (blockBase .mzw .a + 4) (blockBase .mzw .a + 4 + 3) = true → Answers (.mzwGtLoRead i) s (fun t => t.bus = .data (s.word 0 (blockBase .mzw .a + 4)) ∧ ∀ o ∈ [0x8, 0xC, 0x10, 0x14, 0x18, 0x1C, 0x20], t.latched i 0 (blockBase .mzw .a + o) = s.word 0 (blockBase .mzw .a + o))) ∧
  (∀ (i : Initiator) (u : Unit3) (s : State), s.fwAllows i .read (crcBase u + 0x14) (crcBase u + 0x14 + 3) = true → Answers (.crcResultLoRead i u) s (fun t => t.bus = .data (s.word 0 (crcBase u + 0x14)) ∧ t.latched i 0 (crcBase u + 0x18) = (tabGet ({} : CrcSt) s.crcs (crcKey (crcBase u))).hi ∧ t.latched i 0 (crcBase u + 0x1C) = (tabGet ({} : CrcSt) s.crcs (crcKey (crcBase u))).last)) ∧
  (∀ (i : Initiator) (t0 : Nat) (s : State), s.fwAllows i .read (blockBase .pwr .a + 0x30) (blockBase .pwr .a + 0x33) = true → Answers (.pwrAonLoRead i t0) s (fun t => t.bus = .data (State.aonCount { s with now := max s.now t0 } % 2 ^ 32) ∧ t.latched i 0 (blockBase .pwr .a + 0x34) = State.aonCount { s with now := max s.now t0 } / 2 ^ 32)) ∧
  (∀ (i : Initiator) (u : Unit3) (k : Fin 8) (t0 : Nat) (s : State), s.fwAllows i .read (timBase u + 0x20 * k.val + 4) (timBase u + 0x20 * k.val + 7) = true → Answers (.timCountRead i u k t0) s (fun t => t.bus = .data (State.word (State.advance { s with now := max s.now t0 } u) 0 (timBase u + 0x20 * k.val + 4)) ∧ ∀ j ∈ State.clockedBy (State.advance { s with now := max s.now t0 } u) (timBase u) k.val, t.latched i 0 (timBase u + 0x20 * j + 8) = State.getAt (State.advance { s with now := max s.now t0 } u) TIM_TM_t_COUNT_COUNT (timBase u) j)) ∧
  (∀ (i : Initiator) (u : Unit3) (k : Fin 8) (s : State), s.fwAllows i .read (timBase u + 0x20 * k.val + 0xC) (timBase u + 0x20 * k.val + 0xF) = true → Answers (.timCapRead i u k) s (fun t => t.bus = .data (State.word (s.advance u) 0 (timBase u + 0x20 * k.val + 0xC)) ∧ t.getAt TIM_TM_t_STATUS_CAP_FULL (timBase u) k.val = 0))

/-- R183: Reading DSF_P0_LO latches DSF_P0_HI, and reading DSF_LIMIT_LO latches DSF_LIMIT_HI. -/
def Obligations.DsfLatches : Prop :=
  (∀ (i : Initiator) (c : Chan) (s : State), s.fwAllows i .read (blockBase .dsf c + DSF_P0_LO_POS_LO.off) (blockBase .dsf c + DSF_P0_LO_POS_LO.off + 3) = true → Answers (.dsfLatchRead i c 0) s (fun t => t.bus = .data (s.word 0 (blockBase .dsf c + DSF_P0_LO_POS_LO.off)) ∧ ∀ o ∈ [DSF_P0_HI_POS_HI.off], t.latched i 0 (blockBase .dsf c + o) = s.word 0 (blockBase .dsf c + o))) ∧
  (∀ (i : Initiator) (c : Chan) (s : State), s.fwAllows i .read (blockBase .dsf c + DSF_LIMIT_LO_POS_LO.off) (blockBase .dsf c + DSF_LIMIT_LO_POS_LO.off + 3) = true → Answers (.dsfLatchRead i c 1) s (fun t => t.bus = .data (s.word 0 (blockBase .dsf c + DSF_LIMIT_LO_POS_LO.off)) ∧ ∀ o ∈ [DSF_LIMIT_HI_POS_HI.off], t.latched i 0 (blockBase .dsf c + o) = s.word 0 (blockBase .dsf c + o))) ∧
  (∀ (i : Initiator) (c : Chan) (s : State), s.fwAllows i .read (blockBase .dsf c + DSF_PRED_LO_POS_LO.off) (blockBase .dsf c + DSF_PRED_LO_POS_LO.off + 3) = true → Answers (.dsfLatchRead i c 2) s (fun t => t.bus = .data (s.word 0 (blockBase .dsf c + DSF_PRED_LO_POS_LO.off)) ∧ ∀ o ∈ [DSF_PRED_HI_POS_HI.off, DSF_VENV_SPEED.off, DSF_ELAPSED_TIME.off], t.latched i 0 (blockBase .dsf c + o) = s.word 0 (blockBase .dsf c + o))) ∧
  (∀ (i : Initiator) (c : Chan) (o : Nat) (a : Word) (s : State), o ∈ [DSF_P0_HI_POS_HI.off, DSF_LIMIT_HI_POS_HI.off, DSF_PRED_HI_POS_HI.off, DSF_VENV_SPEED.off, DSF_ELAPSED_TIME.off] → a.toNat = blockBase .dsf c + o → s.fwAllows i .read a.toNat (a.toNat + 3) = true → Answers (.readClear i a) s (fun t => t.bus = .data (s.latched i 0 a.toNat) ∧ t.latches = s.latches)) ∧
  (∀ (i j : Initiator) (c : Chan) (k : Fin 3) (a : Nat) (s : State), s.fwAllows i .read (blockBase .dsf c + dsfLow k) (blockBase .dsf c + dsfLow k + 3) = true → iniCode j ≠ iniCode i → a < 2 ^ 32 → Answers (.dsfLatchRead i c k) s (fun t => t.latched j 0 a = s.latched j 0 a))

/-- R320: Reading ADC_CTX_n_SUM_LO latches ADC_CTX_n_SUM_HI, ADC_CTX_n_COUNT and ADC_CTX_n_MINMAX from the same cycle. -/
def Obligations.AdcLatches : Prop :=
  (∀ (i : Initiator) (k : Fin 4) (n : Fin 64) (s : State), s.fwAllows i .read (adcBase k.val + 0x1010 + 0x40 * n.val) (adcBase k.val + 0x1010 + 0x40 * n.val + 3) = true → Answers (.adcSumLoRead i k n) s (fun t => t.bus = .data ((s.ctx k.val n.val).total % 2 ^ 32) ∧ t.latched i 0 (adcBase k.val + 0x1014 + 0x40 * n.val) = (s.ctx k.val n.val).sumHi ∧ t.latched i 0 (adcBase k.val + 0x1018 + 0x40 * n.val) = (s.ctx k.val n.val).count ∧ t.latched i 0 (adcBase k.val + 0x101C + 0x40 * n.val) = (s.ctx k.val n.val).minMax)) ∧
  (∀ (i : Initiator) (k : Fin 4) (n : Fin 64) (m : Fin 3) (a : Word) (s : State), a.toNat = adcBase k.val + 0x1014 + 0x40 * n.val + 4 * m.val → s.fwAllows i .read a.toNat (a.toNat + 3) = true → Answers (.readClear i a) s (fun t => t.bus = .data (s.latched i (if m = 2 then 0xFFFF else 0) a.toNat) ∧ t.latches = s.latches)) ∧
  (∀ (i j : Initiator) (k : Fin 4) (n : Fin 64) (a : Nat) (s : State), s.fwAllows i .read (adcBase k.val + 0x1010 + 0x40 * n.val) (adcBase k.val + 0x1010 + 0x40 * n.val + 3) = true → iniCode j ≠ iniCode i → a < 2 ^ 32 → Answers (.adcSumLoRead i k n) s (fun t => t.latched j 0 a = s.latched j 0 a))

/-- Derived from R8, R31. What a plain register access returns. -/
def Obligations.BusReads : Prop :=
  (∀ (i : Initiator) (a : Word) (s : State), s.fwAllows i .read a.toNat (a.toNat + 3) = true → placeOf a.toNat = .ram → a.toNat % 4 = 0 → Answers (.readClear i a) s (fun t => t.bus = .data (memWord s.mem a.toNat) ∧ t.mem = s.mem ∧ t.regs = s.regs)) ∧
  (∀ (i : Initiator) (a : Word) (s : State), s.fwAllows i .read a.toNat (a.toNat + 3) = true → placeOf a.toNat = .unmapped ∨ a.toNat % 4 ≠ 0 → Answers (.readClear i a) s (fun t => t = { s with bus := .error })) ∧
  (∀ (i : Initiator) (a : Word) (base : Nat) (b : Block) (s : State), s.fwAllows i .read a.toNat (a.toNat + 3) = true → placeOf a.toNat = .regs b base → a.toNat % 4 = 0 → b.still = true → regAt b (offsetIn b a.toNat) = none → Answers (.readClear i a) s (fun t => t = { s with bus := .data 0 })) ∧
  (∀ (i : Initiator) (a : Word) (base : Nat) (b : Block) (d : RegDesc) (f : Fld) (s : State), s.fwAllows i .read a.toNat (a.toNat + 3) = true → placeOf a.toNat = .regs b base → a.toNat % 4 = 0 → b.still = true → (regAt b (offsetIn b a.toNat)).map (·.1) = some d → f ∈ d.fields → f.acc = .rc → Answers (.readClear i a) s (fun t => t.bus = .data (s.readReg i b (offsetIn b a.toNat) a.toNat d) ∧ getBits (regWord t.regs d.rst a.toNat) f.hi f.lo = 0)) ∧
  (∀ (i : Initiator) (a : Word) (c : Chan) (s : State), s.quiet → s.fwAllows i .read a.toNat (a.toNat + 3) = false → iniChan i = some c → Answers (.readClear i a) s (fun t => t.bus = .error ∧ t.mem = s.mem ∧ t.faulted c ⟨23, 2, (chanCharge c), .none⟩)) ∧
  (∀ (i : Initiator) (a : Word) (s : State), s.quiet → s.fwAllows i .read a.toNat (a.toNat + 3) = false → iniChan i = none → Answers (.readClear i a) s (fun t => t.bus = .error ∧ t.mem = s.mem ∧ t.faulted .a ⟨23, 0, .shared, .none⟩ ∧ t.faulted .b ⟨23, 0, .shared, .none⟩))

/-- Derived from R7, R8, R31. What a write stores, and what it is denied. -/
def Obligations.BusWrites : Prop :=
  (∀ (i : Initiator) (a v : Word) (t0 : Nat) (s : State), i ≠ .host → s.fwAllows i .write a.toNat a.toNat = true → placeOf a.toNat = .ram → Memory.wf s.mem → Answers (.registerWrite i .word a v t0) s (fun t => t.bus = .done ∧ t.regs = s.regs ∧ (∀ x, memByte t.mem x = if a.toNat / 4 * 4 ≤ x ∧ x < a.toNat / 4 * 4 + 4 then BitVec.ofNat 8 (v.toNat / 2 ^ (8 * (x - a.toNat / 4 * 4))) else memByte s.mem x))) ∧
  (∀ (i : Initiator) (a v : Word) (t0 : Nat) (s : State), i ≠ .host → s.fwAllows i .write a.toNat a.toNat = true → placeOf a.toNat = .ram → Memory.wf s.mem → Answers (.registerWrite i .half a v t0) s (fun t => t.bus = .done ∧ t.regs = s.regs ∧ (∀ x, memByte t.mem x = if x = a.toNat / 2 * 2 + 1 then BitVec.ofNat 8 (v.toNat / 2 ^ 8) else if x = a.toNat / 2 * 2 then BitVec.ofNat 8 v.toNat else memByte s.mem x))) ∧
  (∀ (i : Initiator) (a v : Word) (t0 : Nat) (s : State), i ≠ .host → s.fwAllows i .write a.toNat a.toNat = true → placeOf a.toNat = .ram → Memory.wf s.mem → Answers (.registerWrite i .byte a v t0) s (fun t => t.bus = .done ∧ t.regs = s.regs ∧ (∀ x, memByte t.mem x = if x = a.toNat then BitVec.ofNat 8 v.toNat else memByte s.mem x))) ∧
  (∀ (i : Initiator) (w : Width) (a v : Word) (t0 base : Nat) (b : Block) (s : State), i ≠ .host → s.fwAllows i .write a.toNat a.toNat = true → placeOf a.toNat = .regs b base → w ≠ .word ∨ a.toNat % 4 ≠ 0 → Answers (.registerWrite i w a v t0) s (fun t => t = { s with now := max s.now t0, bus := .error })) ∧
  (∀ (i : Initiator) (a v : Word) (t0 : Nat) (base : Nat) (b : Block) (d : RegDesc) (s : State), i ≠ .host → s.fwAllows i .write a.toNat a.toNat = true → placeOf a.toNat = .regs b base → a.toNat % 4 = 0 → b.still = true → (regAt b (offsetIn b a.toNat)).map (·.1) = some d → Answers (.registerWrite i .word a v t0) s (fun t => t.bus = .done ∧ regWord t.regs d.rst a.toNat = written (s.rwsOpen i || base == 0x60000000) (regWord s.regs d.rst a.toNat) v.toNat d.fields ∧ (∀ x, x ≠ a.toNat → ∀ r, regWord t.regs r x = regWord s.regs r x) ∧ t.mem = s.mem)) ∧
  (∀ (i : Initiator) (w : Width) (a v : Word) (t0 : Nat) (s : State), i ≠ .host → s.fwAllows i .write a.toNat a.toNat = true → placeOf a.toNat = .unmapped ∨ placeOf a.toNat = .rom → Answers (.registerWrite i w a v t0) s (fun t => t = { s with now := max s.now t0, bus := .error })) ∧
  (∀ (i : Initiator) (w : Width) (a v : Word) (t0 : Nat) (s : State), i ≠ .host → s.quiet → s.fwAllows i .write a.toNat a.toNat = false → Answers (.registerWrite i w a v t0) s (fun t => t.bus = .error ∧ t.mem = s.mem ∧ ((iniChan i = none → t.faulted .a ⟨23, 0, .shared, .none⟩ ∧ t.faulted .b ⟨23, 0, .shared, .none⟩) ∧ (∀ c, iniChan i = some c → t.faulted c ⟨23, 2, (chanCharge c), .none⟩)))) ∧
  (∀ (w : Width) (a v : Word) (t0 : Nat) (s : State), w ≠ .word → Answers (.registerWrite .host w a v t0) s (fun t => t = { s with now := max s.now t0, bus := .error }))
end

