-- ==== Sys2Proof/Laws/Regs.lean ====
section
/-! SUPPORT. Tables, bit fields and register fields: what a read shows after a write to the same field, to another field of the same register, and to another register. -/

namespace Sys2Proof.Machine

open Sys2Proof

/-! ## Tables -/

theorem tabGet_tabSet_same {α : Type} (d : α) (t : Tab α) (k : Nat) (v : α) : tabGet d (tabSet t k v) k = v := by
  induction t with
  | nil => simp [tabSet, tabGet]
  | cons e t ih =>
    obtain ⟨j, w⟩ := e
    unfold tabSet
    split
    · simp [tabGet]
    · split
      · simp [tabGet]
      · rename_i h1 h2
        have : ¬ j = k := fun h => h2 h.symm
        simp [tabGet, this, ih]

theorem tabGet_tabSet_other {α : Type} (d : α) (t : Tab α) (k j : Nat) (v : α) (h : j ≠ k) : tabGet d (tabSet t k v) j = tabGet d t j := by
  induction t with
  | nil => simp [tabSet, tabGet, Ne.symm h]
  | cons e t ih =>
    obtain ⟨m, w⟩ := e
    unfold tabSet
    split
    · simp [tabGet, Ne.symm h]
    · split
      · rename_i h2
        subst h2
        simp [tabGet, Ne.symm h]
      · simp [tabGet, ih]

theorem tabGet_tabSet {α : Type} (d : α) (t : Tab α) (k j : Nat) (v : α) : tabGet d (tabSet t k v) j = if j = k then v else tabGet d t j := by
  split
  · rename_i h
    subst h
    exact tabGet_tabSet_same d t _ v
  · rename_i h
    exact tabGet_tabSet_other d t k j v h

theorem tabGet_tabUpd_same {α : Type} (d : α) (t : Tab α) (k : Nat) (f : α → α) : tabGet d (tabUpd d t k f) k = f (tabGet d t k) :=
  tabGet_tabSet_same d t k _

theorem tabGet_tabUpd_other {α : Type} (d : α) (t : Tab α) (k j : Nat) (f : α → α) (h : j ≠ k) : tabGet d (tabUpd d t k f) j = tabGet d t j :=
  tabGet_tabSet_other d t k j _ h

/-- Setting an entry keeps the keys rising. -/
theorem tabSet_sorted {α : Type} (t : Tab α) (k : Nat) (v : α) (h : tabSorted t) : tabSorted (tabSet t k v) := by
  have key : ∀ (t : Tab α), tabSorted t → ∀ m, m < k → (∀ e ∈ t, m < e.1) → ∀ e ∈ tabSet t k v, m < e.1 := by
    intro t
    induction t with
    | nil => intro _ m hm _ e he; simp [tabSet] at he; simpa [he] using hm
    | cons x t ih =>
      obtain ⟨j, w⟩ := x
      intro hs m hm hall e he
      unfold tabSet at he
      split at he
      · rcases List.mem_cons.1 he with rfl | he
        · exact hm
        · exact hall e he
      · split at he
        · rcases List.mem_cons.1 he with rfl | he
          · exact hm
          · exact hall e (List.mem_cons_of_mem _ he)
        · rcases List.mem_cons.1 he with rfl | he
          · exact hall _ (List.mem_cons_self ..)
          · exact ih (List.pairwise_cons.1 hs).2 m hm (fun e he => hall e (List.mem_cons_of_mem _ he)) e he
  induction t with
  | nil => simp [tabSet, tabSorted]
  | cons x t ih =>
    obtain ⟨j, w⟩ := x
    have ht := List.pairwise_cons.1 h
    unfold tabSet
    split
    · rename_i hk
      refine List.pairwise_cons.2 ⟨?_, h⟩
      intro e he
      rcases List.mem_cons.1 he with rfl | he
      · exact hk
      · exact Nat.lt_trans hk (ht.1 e he)
    · split
      · rename_i hk
        subst hk
        exact List.pairwise_cons.2 ⟨ht.1, ht.2⟩
      · rename_i h1 h2
        refine List.pairwise_cons.2 ⟨?_, ih ht.2⟩
        exact key t ht.2 j (by omega) ht.1

/-! ## Channels -/

@[simp] theorem twoAt_twoSet_same {α : Type} (t : Two α) (c : Chan) (v : α) : twoAt (twoSet t c v) c = v := by cases c <;> rfl

theorem twoAt_twoSet_other {α : Type} (t : Two α) (c d : Chan) (v : α) (h : d ≠ c) : twoAt (twoSet t c v) d = twoAt t d := by
  cases c <;> cases d <;> first | rfl | exact absurd rfl h

@[simp] theorem twoAt_twoUpd_same {α : Type} (t : Two α) (c : Chan) (f : α → α) : twoAt (twoUpd t c f) c = f (twoAt t c) := by cases c <;> rfl

@[simp] theorem twoAt_a {α : Type} (t : Two α) : twoAt t .a = t.a := rfl

@[simp] theorem twoAt_b {α : Type} (t : Two α) : twoAt t .b = t.b := rfl

@[simp] theorem twoUpd_a {α : Type} (t : Two α) (f : α → α) : twoUpd t .a f = { t with a := f t.a } := rfl

@[simp] theorem twoUpd_b {α : Type} (t : Two α) (f : α → α) : twoUpd t .b f = { t with b := f t.b } := rfl

@[simp] theorem twoSet_a {α : Type} (t : Two α) (v : α) : twoSet t .a v = { t with a := v } := rfl

@[simp] theorem twoSet_b {α : Type} (t : Two α) (v : α) : twoSet t .b v = { t with b := v } := rfl

@[simp] theorem otherChan_a : otherChan .a = .b := rfl

@[simp] theorem otherChan_b : otherChan .b = .a := rfl

/-! ## Bit fields -/

theorem putBits_toNat (w : Word) (hi lo v : Nat) (h1 : lo ≤ hi) (h2 : hi < 32) :
    (putBits w hi lo v).toNat = w.toNat % 2 ^ lo + v % 2 ^ (hi + 1 - lo) * 2 ^ lo + w.toNat / 2 ^ (hi + 1) * 2 ^ (hi + 1) := by
  unfold putBits
  rw [BitVec.toNat_ofNat, Nat.shiftRight_eq_div_pow]
  apply Nat.mod_eq_of_lt
  have hw : w.toNat < 2 ^ 32 := w.isLt
  have e1 : 2 ^ (hi + 1 - lo) * 2 ^ lo = 2 ^ (hi + 1) := by rw [← Nat.pow_add]; congr 1; omega
  have e2 : 2 ^ (31 - hi) * 2 ^ (hi + 1) = 2 ^ 32 := by rw [← Nat.pow_add]; congr 1; omega
  have a1 : w.toNat % 2 ^ lo < 2 ^ lo := Nat.mod_lt _ (Nat.two_pow_pos _)
  have a2 : v % 2 ^ (hi + 1 - lo) < 2 ^ (hi + 1 - lo) := Nat.mod_lt _ (Nat.two_pow_pos _)
  have a3 : w.toNat / 2 ^ (hi + 1) < 2 ^ (31 - hi) := by
    apply Nat.div_lt_of_lt_mul
    rw [Nat.mul_comm, e2]
    exact hw
  have b1 : w.toNat % 2 ^ lo + v % 2 ^ (hi + 1 - lo) * 2 ^ lo < 2 ^ (hi + 1) := by
    rw [← e1]
    calc w.toNat % 2 ^ lo + v % 2 ^ (hi + 1 - lo) * 2 ^ lo < 2 ^ lo + v % 2 ^ (hi + 1 - lo) * 2 ^ lo := by omega
      _ = (v % 2 ^ (hi + 1 - lo) + 1) * 2 ^ lo := by rw [Nat.add_mul, Nat.one_mul, Nat.add_comm]
      _ ≤ 2 ^ (hi + 1 - lo) * 2 ^ lo := Nat.mul_le_mul_right _ a2
  calc w.toNat % 2 ^ lo + v % 2 ^ (hi + 1 - lo) * 2 ^ lo + w.toNat / 2 ^ (hi + 1) * 2 ^ (hi + 1)
      < 2 ^ (hi + 1) + w.toNat / 2 ^ (hi + 1) * 2 ^ (hi + 1) := by omega
    _ = (w.toNat / 2 ^ (hi + 1) + 1) * 2 ^ (hi + 1) := by rw [Nat.add_mul, Nat.one_mul, Nat.add_comm]
    _ ≤ 2 ^ (31 - hi) * 2 ^ (hi + 1) := Nat.mul_le_mul_right _ a3
    _ = 2 ^ 32 := e2

/-- A field reads back what was written, modulo its width. -/
theorem getBits_putBits_same (w : Word) (hi lo v : Nat) (h1 : lo ≤ hi) (h2 : hi < 32) :
    getBits (putBits w hi lo v) hi lo = v % 2 ^ (hi + 1 - lo) := by
  unfold getBits
  rw [putBits_toNat w hi lo v h1 h2, Nat.shiftRight_eq_div_pow]
  have e1 : 2 ^ (hi + 1) = 2 ^ (hi + 1 - lo) * 2 ^ lo := by rw [← Nat.pow_add]; congr 1; omega
  have a1 : w.toNat % 2 ^ lo < 2 ^ lo := Nat.mod_lt _ (Nat.two_pow_pos _)
  have : w.toNat % 2 ^ lo + v % 2 ^ (hi + 1 - lo) * 2 ^ lo + w.toNat / 2 ^ (hi + 1) * 2 ^ (hi + 1)
      = w.toNat % 2 ^ lo + (v % 2 ^ (hi + 1 - lo) + w.toNat / 2 ^ (hi + 1) * 2 ^ (hi + 1 - lo)) * 2 ^ lo := by
    rw [Nat.add_mul, e1, Nat.mul_assoc, Nat.add_assoc]
  rw [this, Nat.add_mul_div_right _ _ (Nat.two_pow_pos _), Nat.div_eq_of_lt a1, Nat.zero_add, Nat.add_mul_mod_self_right, Nat.mod_mod]

theorem testBit_putBits (w : Word) (hi lo v i : Nat) (h1 : lo ≤ hi) (h2 : hi < 32) (h : i < lo ∨ hi < i) :
    (putBits w hi lo v).toNat.testBit i = w.toNat.testBit i := by
  rw [putBits_toNat w hi lo v h1 h2]
  have e1 : 2 ^ (hi + 1) = 2 ^ (hi + 1 - lo) * 2 ^ lo := by rw [← Nat.pow_add]; congr 1; omega
  have hlt : w.toNat % 2 ^ lo + v % 2 ^ (hi + 1 - lo) * 2 ^ lo < 2 ^ (hi + 1) := by
    have a1 : w.toNat % 2 ^ lo < 2 ^ lo := Nat.mod_lt _ (Nat.two_pow_pos _)
    have a2 : v % 2 ^ (hi + 1 - lo) + 1 ≤ 2 ^ (hi + 1 - lo) := Nat.mod_lt _ (Nat.two_pow_pos _)
    have := Nat.mul_le_mul_right (2 ^ lo) a2
    rw [Nat.add_mul, Nat.one_mul, ← e1] at this
    omega
  rw [Nat.add_comm (w.toNat % 2 ^ lo + _), Nat.mul_comm (w.toNat / 2 ^ (hi + 1))]
  rcases h with h | h
  · rw [Nat.testBit_two_pow_mul_add _ hlt]
    simp only [show i < hi + 1 by omega, ite_true]
    rw [Nat.add_comm, Nat.mul_comm, Nat.testBit_two_pow_mul_add _ (Nat.mod_lt _ (Nat.two_pow_pos _))]
    simp [h]
  · rw [Nat.testBit_two_pow_mul_add _ hlt]
    simp only [show ¬ i < hi + 1 by omega, ite_false]
    rw [← Nat.shiftRight_eq_div_pow, Nat.testBit_shiftRight]
    congr 1
    omega

theorem testBit_getBits (w : Word) (hi lo i : Nat) : (getBits w hi lo).testBit i = (decide (i < hi + 1 - lo) && w.toNat.testBit (lo + i)) := by
  unfold getBits
  rw [Nat.testBit_mod_two_pow, Nat.testBit_shiftRight]

/-- A field is unchanged by a write to a field that shares no bit with it. -/
theorem getBits_putBits_other (w : Word) (hi lo v hi' lo' : Nat) (h1 : lo ≤ hi) (h2 : hi < 32) (h : hi' < lo ∨ hi < lo') :
    getBits (putBits w hi lo v) hi' lo' = getBits w hi' lo' := by
  apply Nat.eq_of_testBit_eq
  intro i
  rw [testBit_getBits, testBit_getBits]
  by_cases hi1 : i < hi' + 1 - lo'
  · rw [testBit_putBits w hi lo v (lo' + i) h1 h2 (by omega)]
  · simp [hi1]

/-! ## Registers -/

theorem regWord_fldPut_other (r : RegFile) (f : Fld) (base i v rst a : Nat) (h : a ≠ fldAddr f base i) : regWord (fldPut r f base i v) rst a = regWord r rst a := by
  unfold regWord fldPut
  exact tabGet_tabSet_other _ _ _ _ _ h

/-- A field is well placed: its bits lie in a word. -/
def Fld.ok (f : Fld) : Bool := f.lo ≤ f.hi && f.hi < 32

theorem fldGet_fldPut_same (r : RegFile) (f : Fld) (base i v : Nat) (h : f.ok = true) : fldGet (fldPut r f base i v) f base i = v % 2 ^ (f.hi + 1 - f.lo) := by
  unfold Fld.ok at h
  simp only [Bool.and_eq_true, decide_eq_true_eq] at h
  unfold fldGet fldPut regWord
  rw [tabGet_tabSet_same]
  exact getBits_putBits_same _ _ _ _ h.1 h.2

theorem fldGet_fldPut_addr (r : RegFile) (f g : Fld) (base base' i j v : Nat) (h : fldAddr g base' j ≠ fldAddr f base i) :
    fldGet (fldPut r f base i v) g base' j = fldGet r g base' j := by
  unfold fldGet
  rw [regWord_fldPut_other _ _ _ _ _ _ _ h]

/-- Two fields of one register that share no bit. -/
theorem fldGet_fldPut_bits (r : RegFile) (f g : Fld) (base base' i j v : Nat) (hf : f.ok = true) (ha : fldAddr g base' j = fldAddr f base i)
    (hr : g.rst = f.rst) (hb : g.hi < f.lo ∨ f.hi < g.lo) : fldGet (fldPut r f base i v) g base' j = fldGet r g base' j := by
  unfold Fld.ok at hf
  simp only [Bool.and_eq_true, decide_eq_true_eq] at hf
  unfold fldGet fldPut regWord
  rw [ha, hr, tabGet_tabSet_same]
  exact getBits_putBits_other _ _ _ _ _ _ hf.1 hf.2 hb

/-- Two fields at different offsets of one window have different addresses. -/
theorem fldAddr_ne_of_off (f g : Fld) (base i j : Nat) (hb : base % 0x10000 = 0) (h : (g.off + g.stride * j) % 0x10000 ≠ (f.off + f.stride * i) % 0x10000) : fldAddr g base j ≠ fldAddr f base i := by
  unfold fldAddr
  omega

/-- Reading the field just written. -/
theorem State.get_put_same (s : State) (f : Fld) (v : Nat) (c : Chan) (i : Nat) (h : f.ok = true) : (s.put f v c i).get f c i = v % 2 ^ (f.hi + 1 - f.lo) :=
  fldGet_fldPut_same _ _ _ _ _ h

/-- Reading a field of another register. -/
theorem State.get_put_addr (s : State) (f g : Fld) (v : Nat) (c d : Chan) (i j : Nat) (h : fldAddr g (blockBase g.blk d) j ≠ fldAddr f (blockBase f.blk c) i) :
    (s.put f v c i).get g d j = s.get g d j :=
  fldGet_fldPut_addr _ _ _ _ _ _ _ _ h

/-- Reading another field of the register just written. -/
theorem State.get_put_bits (s : State) (f g : Fld) (v : Nat) (c : Chan) (i : Nat) (hf : f.ok = true) (hb : g.blk = f.blk) (ho : g.off = f.off) (hs : g.stride = f.stride)
    (hr : g.rst = f.rst) (h : g.hi < f.lo ∨ f.hi < g.lo) : (s.put f v c i).get g c i = s.get g c i :=
  fldGet_fldPut_bits _ _ _ _ _ _ _ _ hf (by simp only [fldAddr, hb, ho, hs]) hr h

/-- A field that `get` reads is read from the register file alone. -/
theorem State.get_of_regs (s t : State) (h : t.regs = s.regs) (f : Fld) (c : Chan) (i : Nat) : t.get f c i = s.get f c i := by
  unfold State.get
  rw [h]

end Sys2Proof.Machine
end

