-- ==== Sys2Proof/Laws/Apart.lean ====
section
/-! SUPPORT. Fields that stand apart: a write of one leaves the other, also over a list of writes. -/

namespace Sys2Proof.Machine

open Sys2Proof

/-- A write of field `f` leaves field `g` of the same block unchanged: another word, or other bits of the word. -/
def Fld.apart (f g : Fld) : Bool :=
  fldAddr g (blockBase g.blk .a) 0 != fldAddr f (blockBase f.blk .a) 0 ||
    (f.ok && decide (g.blk = f.blk) && g.off == f.off && g.stride == f.stride && g.rst == f.rst && (decide (g.hi < f.lo) || decide (f.hi < g.lo)))

theorem State.get_put_apart (s : State) (f g : Fld) (v : Nat) (h : f.apart g = true) : (s.put f v).get g = s.get g := by
  unfold Fld.apart at h
  rcases Bool.or_eq_true _ _ ▸ h with h | h
  · exact State.get_put_addr s f g v .a .a 0 0 (by simpa using h)
  · simp only [Bool.and_eq_true, Bool.or_eq_true, decide_eq_true_eq, beq_iff_eq] at h
    obtain ⟨⟨⟨⟨⟨h1, h2⟩, h3⟩, h4⟩, h5⟩, h6⟩ := h
    exact State.get_put_bits s f g v .a 0 h1 h2 h3 h4 h5 h6

/-- A list of writes leaves a field none of them touches. -/
theorem State.putAll_apart (l : List (Fld × Nat)) (g : Fld) (h : (l.map (·.1)).all (fun f => f.apart g) = true) (s : State) : (l.foldl (fun (s : State) (e : Fld × Nat) => s.put e.1 e.2) s).get g = s.get g := by
  induction l generalizing s with
  | nil => rfl
  | cons a l ih =>
    rw [List.map_cons, List.all_cons, Bool.and_eq_true] at h
    rw [List.foldl_cons, ih h.2, State.get_put_apart _ _ _ _ h.1]

/-- Of a list of writes the one of field `f` holds where no later one touches it. -/
theorem State.putAll_get (l1 l2 : List (Fld × Nat)) (f : Fld) (v : Nat) (hf : f.ok = true) (h : (l2.map (·.1)).all (fun x => x.apart f) = true) (s : State) :
    ((l1 ++ (f, v) :: l2).foldl (fun (s : State) (e : Fld × Nat) => s.put e.1 e.2) s).get f = v % 2 ^ (f.hi + 1 - f.lo) := by
  rw [List.foldl_append, List.foldl_cons, State.putAll_apart l2 f h, State.get_put_same _ _ _ _ _ hf]

end Sys2Proof.Machine
end

