-- ==== Sys2Proof/Laws/Frame.lean ====
section
/-! SUPPORT. What the operations of the model leave unchanged: for every function from states to states, the fields of a state that it does not touch. -/

namespace Sys2Proof.Machine

open Sys2Proof

/-- The fields of a state that the frame lemmas speak of; what they leave out (registers, faults, dies, outputs, the angle engines, SEC) nearly every command may change. -/
@[ext] structure View where
  pending : List Instr
  mem : List Host.Cell
  mz : MzSt
  prog : Prog
  refit : Option Image
  refitHeld : List Nat
  fw : Tab FwRegion
  ses : Tab SesSt
  nets : Two NetSt
  link : LinkSt
  ptp : Two PtpSt
  tims : Tab TimSt
  crcs : Tab CrcSt
  adcs : Tab AdcSt
  inp : InSt
  pairs : Tab PairSt
  power : Power
  service : Option Nat
  epochAt : Option (Net × Nat × Nat)
  hostLost : Bool
  graph : Two GraphSt
  stay : Two StaySt

/-- Those fields of a state. -/
def State.view (s : State) : View := ⟨s.pending, s.mem, s.mz, s.prog, s.refit, s.refitHeld, s.fw, s.ses, s.nets, s.link, s.ptp, s.tims, s.crcs, s.adcs, s.inp, s.pairs, s.power, s.service, s.epochAt, s.hostLost, s.graph, s.stay⟩

@[simp] theorem State.view_mk (x0) (x1) (x2) (x3) (x4) (x5) (x6) (x7) (x8) (x9) (x10) (x11) (x12) (x13) (x14) (x15) (x16) (x17) (x18) (x19) (x20) (x21) (x22) (x23) (x24) (x25) (x26) (x27) (x28) (x29) (x30) (x31) (x32) (x33) (x34) (x35) (x36) (x37) (x38) (x39) (x40) (x41) (x42) (x43) (x44) (x45) (x46) : (State.mk x0 x1 x2 x3 x4 x5 x6 x7 x8 x9 x10 x11 x12 x13 x14 x15 x16 x17 x18 x19 x20 x21 x22 x23 x24 x25 x26 x27 x28 x29 x30 x31 x32 x33 x34 x35 x36 x37 x38 x39 x40 x41 x42 x43 x44 x45 x46).view = ⟨x46, x1, x45, x27, x44, x28, x38, x23, x24, x25, x19, x34, x35, x22, x7, x8, x4, x33, x26, x29, x12, x14⟩ := rfl

@[simp] theorem State.view_eta (s : State) : (⟨s.pending, s.mem, s.mz, s.prog, s.refit, s.refitHeld, s.fw, s.ses, s.nets, s.link, s.ptp, s.tims, s.crcs, s.adcs, s.inp, s.pairs, s.power, s.service, s.epochAt, s.hostLost, s.graph, s.stay⟩ : View) = s.view := rfl

@[simp] theorem State.view_pending (s : State) : s.view.pending = s.pending := rfl

@[simp] theorem State.view_mem (s : State) : s.view.mem = s.mem := rfl

@[simp] theorem State.view_mz (s : State) : s.view.mz = s.mz := rfl

@[simp] theorem State.view_prog (s : State) : s.view.prog = s.prog := rfl

@[simp] theorem State.view_refit (s : State) : s.view.refit = s.refit := rfl

@[simp] theorem State.view_refitHeld (s : State) : s.view.refitHeld = s.refitHeld := rfl

@[simp] theorem State.view_fw (s : State) : s.view.fw = s.fw := rfl

@[simp] theorem State.view_ses (s : State) : s.view.ses = s.ses := rfl

@[simp] theorem State.view_nets (s : State) : s.view.nets = s.nets := rfl

@[simp] theorem State.view_link (s : State) : s.view.link = s.link := rfl

@[simp] theorem State.view_ptp (s : State) : s.view.ptp = s.ptp := rfl

@[simp] theorem State.view_tims (s : State) : s.view.tims = s.tims := rfl

@[simp] theorem State.view_crcs (s : State) : s.view.crcs = s.crcs := rfl

@[simp] theorem State.view_adcs (s : State) : s.view.adcs = s.adcs := rfl

@[simp] theorem State.view_inp (s : State) : s.view.inp = s.inp := rfl

@[simp] theorem State.view_pairs (s : State) : s.view.pairs = s.pairs := rfl

@[simp] theorem State.view_power (s : State) : s.view.power = s.power := rfl

@[simp] theorem State.view_service (s : State) : s.view.service = s.service := rfl

@[simp] theorem State.view_epochAt (s : State) : s.view.epochAt = s.epochAt := rfl

@[simp] theorem State.view_hostLost (s : State) : s.view.hostLost = s.hostLost := rfl

@[simp] theorem State.view_graph (s : State) : s.view.graph = s.graph := rfl

@[simp] theorem State.view_stay (s : State) : s.view.stay = s.stay := rfl

/-- Two states agree on every field of the view. -/
abbrev State.Same (t s : State) : Prop := t.pending = s.pending ∧ t.mem = s.mem ∧ t.mz = s.mz ∧ t.prog = s.prog ∧ t.refit = s.refit ∧ t.refitHeld = s.refitHeld ∧ t.fw = s.fw ∧ t.ses = s.ses ∧ t.nets = s.nets ∧ t.link = s.link ∧ t.ptp = s.ptp ∧ t.tims = s.tims ∧ t.crcs = s.crcs ∧ t.adcs = s.adcs ∧ t.inp = s.inp ∧ t.pairs = s.pairs ∧ t.power = s.power ∧ t.service = s.service ∧ t.epochAt = s.epochAt ∧ t.hostLost = s.hostLost ∧ t.graph = s.graph ∧ t.stay = s.stay

theorem State.keeps_of_view {s t : State} (h : t.view = s.view) : State.Same t s :=
  ⟨congrArg View.pending h, congrArg View.mem h, congrArg View.mz h, congrArg View.prog h, congrArg View.refit h, congrArg View.refitHeld h, congrArg View.fw h, congrArg View.ses h, congrArg View.nets h, congrArg View.link h, congrArg View.ptp h, congrArg View.tims h, congrArg View.crcs h, congrArg View.adcs h, congrArg View.inp h, congrArg View.pairs h, congrArg View.power h, congrArg View.service h, congrArg View.epochAt h, congrArg View.hostLost h, congrArg View.graph h, congrArg View.stay h⟩

/-- What every turn of a fold keeps, the fold keeps. -/
theorem State.foldl_keep {α β : Type} (g : State → β) (f : State → α → State) (h : ∀ s x, g (f s x) = g s) (l : List α) (s : State) : g (l.foldl f s) = g s := by
  induction l generalizing s with
  | nil => rfl
  | cons x l ih => simp [ih, h]

/-- The same for a fold that carries a second value. -/
theorem State.foldl_keep1 {α β γ : Type} (g : State → γ) (f : State × β → α → State × β) (h : ∀ r x, g (f r x).1 = g r.1) (l : List α) (r : State × β) :
    g (l.foldl f r).1 = g r.1 := by
  induction l generalizing r with
  | nil => rfl
  | cons x l ih => simp [ih, h]

@[simp] theorem State.ite_view (c : Prop) [Decidable c] (a b : State) : (if c then a else b).view = if c then a.view else b.view := apply_ite _ _ _ _

@[simp] theorem State.foldl_view {α : Type} (f : State → α → State) (l : List α) (s : State) (h : ∀ s x, (f s x).view = s.view) : (l.foldl f s).view = s.view := State.foldl_keep (·.view) f h l s

@[simp] theorem State.ite_pending (c : Prop) [Decidable c] (a b : State) : (if c then a else b).pending = if c then a.pending else b.pending := apply_ite _ _ _ _

@[simp] theorem State.foldl_pending {α : Type} (f : State → α → State) (l : List α) (s : State) (h : ∀ s x, (f s x).pending = s.pending) : (l.foldl f s).pending = s.pending := State.foldl_keep (·.pending) f h l s

@[simp] theorem State.ite_mem (c : Prop) [Decidable c] (a b : State) : (if c then a else b).mem = if c then a.mem else b.mem := apply_ite _ _ _ _

@[simp] theorem State.foldl_mem {α : Type} (f : State → α → State) (l : List α) (s : State) (h : ∀ s x, (f s x).mem = s.mem) : (l.foldl f s).mem = s.mem := State.foldl_keep (·.mem) f h l s

@[simp] theorem State.ite_mz (c : Prop) [Decidable c] (a b : State) : (if c then a else b).mz = if c then a.mz else b.mz := apply_ite _ _ _ _

@[simp] theorem State.foldl_mz {α : Type} (f : State → α → State) (l : List α) (s : State) (h : ∀ s x, (f s x).mz = s.mz) : (l.foldl f s).mz = s.mz := State.foldl_keep (·.mz) f h l s

@[simp] theorem State.ite_prog (c : Prop) [Decidable c] (a b : State) : (if c then a else b).prog = if c then a.prog else b.prog := apply_ite _ _ _ _

@[simp] theorem State.foldl_prog {α : Type} (f : State → α → State) (l : List α) (s : State) (h : ∀ s x, (f s x).prog = s.prog) : (l.foldl f s).prog = s.prog := State.foldl_keep (·.prog) f h l s

@[simp] theorem State.ite_refit (c : Prop) [Decidable c] (a b : State) : (if c then a else b).refit = if c then a.refit else b.refit := apply_ite _ _ _ _

@[simp] theorem State.foldl_refit {α : Type} (f : State → α → State) (l : List α) (s : State) (h : ∀ s x, (f s x).refit = s.refit) : (l.foldl f s).refit = s.refit := State.foldl_keep (·.refit) f h l s

@[simp] theorem State.ite_refitHeld (c : Prop) [Decidable c] (a b : State) : (if c then a else b).refitHeld = if c then a.refitHeld else b.refitHeld := apply_ite _ _ _ _

@[simp] theorem State.foldl_refitHeld {α : Type} (f : State → α → State) (l : List α) (s : State) (h : ∀ s x, (f s x).refitHeld = s.refitHeld) : (l.foldl f s).refitHeld = s.refitHeld := State.foldl_keep (·.refitHeld) f h l s

@[simp] theorem State.ite_fw (c : Prop) [Decidable c] (a b : State) : (if c then a else b).fw = if c then a.fw else b.fw := apply_ite _ _ _ _

@[simp] theorem State.foldl_fw {α : Type} (f : State → α → State) (l : List α) (s : State) (h : ∀ s x, (f s x).fw = s.fw) : (l.foldl f s).fw = s.fw := State.foldl_keep (·.fw) f h l s

@[simp] theorem State.ite_ses (c : Prop) [Decidable c] (a b : State) : (if c then a else b).ses = if c then a.ses else b.ses := apply_ite _ _ _ _

@[simp] theorem State.foldl_ses {α : Type} (f : State → α → State) (l : List α) (s : State) (h : ∀ s x, (f s x).ses = s.ses) : (l.foldl f s).ses = s.ses := State.foldl_keep (·.ses) f h l s

@[simp] theorem State.ite_nets (c : Prop) [Decidable c] (a b : State) : (if c then a else b).nets = if c then a.nets else b.nets := apply_ite _ _ _ _

@[simp] theorem State.foldl_nets {α : Type} (f : State → α → State) (l : List α) (s : State) (h : ∀ s x, (f s x).nets = s.nets) : (l.foldl f s).nets = s.nets := State.foldl_keep (·.nets) f h l s

@[simp] theorem State.ite_link (c : Prop) [Decidable c] (a b : State) : (if c then a else b).link = if c then a.link else b.link := apply_ite _ _ _ _

@[simp] theorem State.foldl_link {α : Type} (f : State → α → State) (l : List α) (s : State) (h : ∀ s x, (f s x).link = s.link) : (l.foldl f s).link = s.link := State.foldl_keep (·.link) f h l s

@[simp] theorem State.ite_ptp (c : Prop) [Decidable c] (a b : State) : (if c then a else b).ptp = if c then a.ptp else b.ptp := apply_ite _ _ _ _

@[simp] theorem State.foldl_ptp {α : Type} (f : State → α → State) (l : List α) (s : State) (h : ∀ s x, (f s x).ptp = s.ptp) : (l.foldl f s).ptp = s.ptp := State.foldl_keep (·.ptp) f h l s

@[simp] theorem State.ite_tims (c : Prop) [Decidable c] (a b : State) : (if c then a else b).tims = if c then a.tims else b.tims := apply_ite _ _ _ _

@[simp] theorem State.foldl_tims {α : Type} (f : State → α → State) (l : List α) (s : State) (h : ∀ s x, (f s x).tims = s.tims) : (l.foldl f s).tims = s.tims := State.foldl_keep (·.tims) f h l s

@[simp] theorem State.ite_crcs (c : Prop) [Decidable c] (a b : State) : (if c then a else b).crcs = if c then a.crcs else b.crcs := apply_ite _ _ _ _

@[simp] theorem State.foldl_crcs {α : Type} (f : State → α → State) (l : List α) (s : State) (h : ∀ s x, (f s x).crcs = s.crcs) : (l.foldl f s).crcs = s.crcs := State.foldl_keep (·.crcs) f h l s

@[simp] theorem State.ite_adcs (c : Prop) [Decidable c] (a b : State) : (if c then a else b).adcs = if c then a.adcs else b.adcs := apply_ite _ _ _ _

@[simp] theorem State.foldl_adcs {α : Type} (f : State → α → State) (l : List α) (s : State) (h : ∀ s x, (f s x).adcs = s.adcs) : (l.foldl f s).adcs = s.adcs := State.foldl_keep (·.adcs) f h l s

@[simp] theorem State.ite_inp (c : Prop) [Decidable c] (a b : State) : (if c then a else b).inp = if c then a.inp else b.inp := apply_ite _ _ _ _

@[simp] theorem State.foldl_inp {α : Type} (f : State → α → State) (l : List α) (s : State) (h : ∀ s x, (f s x).inp = s.inp) : (l.foldl f s).inp = s.inp := State.foldl_keep (·.inp) f h l s

@[simp] theorem State.ite_pairs (c : Prop) [Decidable c] (a b : State) : (if c then a else b).pairs = if c then a.pairs else b.pairs := apply_ite _ _ _ _

@[simp] theorem State.foldl_pairs {α : Type} (f : State → α → State) (l : List α) (s : State) (h : ∀ s x, (f s x).pairs = s.pairs) : (l.foldl f s).pairs = s.pairs := State.foldl_keep (·.pairs) f h l s

@[simp] theorem State.ite_power (c : Prop) [Decidable c] (a b : State) : (if c then a else b).power = if c then a.power else b.power := apply_ite _ _ _ _

@[simp] theorem State.foldl_power {α : Type} (f : State → α → State) (l : List α) (s : State) (h : ∀ s x, (f s x).power = s.power) : (l.foldl f s).power = s.power := State.foldl_keep (·.power) f h l s

@[simp] theorem State.ite_service (c : Prop) [Decidable c] (a b : State) : (if c then a else b).service = if c then a.service else b.service := apply_ite _ _ _ _

@[simp] theorem State.foldl_service {α : Type} (f : State → α → State) (l : List α) (s : State) (h : ∀ s x, (f s x).service = s.service) : (l.foldl f s).service = s.service := State.foldl_keep (·.service) f h l s

@[simp] theorem State.ite_epochAt (c : Prop) [Decidable c] (a b : State) : (if c then a else b).epochAt = if c then a.epochAt else b.epochAt := apply_ite _ _ _ _

@[simp] theorem State.foldl_epochAt {α : Type} (f : State → α → State) (l : List α) (s : State) (h : ∀ s x, (f s x).epochAt = s.epochAt) : (l.foldl f s).epochAt = s.epochAt := State.foldl_keep (·.epochAt) f h l s

@[simp] theorem State.ite_hostLost (c : Prop) [Decidable c] (a b : State) : (if c then a else b).hostLost = if c then a.hostLost else b.hostLost := apply_ite _ _ _ _

@[simp] theorem State.foldl_hostLost {α : Type} (f : State → α → State) (l : List α) (s : State) (h : ∀ s x, (f s x).hostLost = s.hostLost) : (l.foldl f s).hostLost = s.hostLost := State.foldl_keep (·.hostLost) f h l s

@[simp] theorem State.ite_graph (c : Prop) [Decidable c] (a b : State) : (if c then a else b).graph = if c then a.graph else b.graph := apply_ite _ _ _ _

@[simp] theorem State.foldl_graph {α : Type} (f : State → α → State) (l : List α) (s : State) (h : ∀ s x, (f s x).graph = s.graph) : (l.foldl f s).graph = s.graph := State.foldl_keep (·.graph) f h l s

@[simp] theorem State.ite_stay (c : Prop) [Decidable c] (a b : State) : (if c then a else b).stay = if c then a.stay else b.stay := apply_ite _ _ _ _

@[simp] theorem State.foldl_stay {α : Type} (f : State → α → State) (l : List α) (s : State) (h : ∀ s x, (f s x).stay = s.stay) : (l.foldl f s).stay = s.stay := State.foldl_keep (·.stay) f h l s

@[simp] theorem State.foldl1_view {α β : Type} (f : State × β → α → State × β) (l : List α) (r : State × β) (h : ∀ r x, (f r x).1.view = r.1.view) : (l.foldl f r).1.view = r.1.view := State.foldl_keep1 (·.view) f h l r

@[simp] theorem State.foldl1_pending {α β : Type} (f : State × β → α → State × β) (l : List α) (r : State × β) (h : ∀ r x, (f r x).1.pending = r.1.pending) : (l.foldl f r).1.pending = r.1.pending := State.foldl_keep1 (·.pending) f h l r

@[simp] theorem State.foldl1_mem {α β : Type} (f : State × β → α → State × β) (l : List α) (r : State × β) (h : ∀ r x, (f r x).1.mem = r.1.mem) : (l.foldl f r).1.mem = r.1.mem := State.foldl_keep1 (·.mem) f h l r

@[simp] theorem State.foldl1_mz {α β : Type} (f : State × β → α → State × β) (l : List α) (r : State × β) (h : ∀ r x, (f r x).1.mz = r.1.mz) : (l.foldl f r).1.mz = r.1.mz := State.foldl_keep1 (·.mz) f h l r

@[simp] theorem State.foldl1_prog {α β : Type} (f : State × β → α → State × β) (l : List α) (r : State × β) (h : ∀ r x, (f r x).1.prog = r.1.prog) : (l.foldl f r).1.prog = r.1.prog := State.foldl_keep1 (·.prog) f h l r

@[simp] theorem State.foldl1_refit {α β : Type} (f : State × β → α → State × β) (l : List α) (r : State × β) (h : ∀ r x, (f r x).1.refit = r.1.refit) : (l.foldl f r).1.refit = r.1.refit := State.foldl_keep1 (·.refit) f h l r

@[simp] theorem State.foldl1_refitHeld {α β : Type} (f : State × β → α → State × β) (l : List α) (r : State × β) (h : ∀ r x, (f r x).1.refitHeld = r.1.refitHeld) : (l.foldl f r).1.refitHeld = r.1.refitHeld := State.foldl_keep1 (·.refitHeld) f h l r

@[simp] theorem State.foldl1_fw {α β : Type} (f : State × β → α → State × β) (l : List α) (r : State × β) (h : ∀ r x, (f r x).1.fw = r.1.fw) : (l.foldl f r).1.fw = r.1.fw := State.foldl_keep1 (·.fw) f h l r

@[simp] theorem State.foldl1_ses {α β : Type} (f : State × β → α → State × β) (l : List α) (r : State × β) (h : ∀ r x, (f r x).1.ses = r.1.ses) : (l.foldl f r).1.ses = r.1.ses := State.foldl_keep1 (·.ses) f h l r

@[simp] theorem State.foldl1_nets {α β : Type} (f : State × β → α → State × β) (l : List α) (r : State × β) (h : ∀ r x, (f r x).1.nets = r.1.nets) : (l.foldl f r).1.nets = r.1.nets := State.foldl_keep1 (·.nets) f h l r

@[simp] theorem State.foldl1_link {α β : Type} (f : State × β → α → State × β) (l : List α) (r : State × β) (h : ∀ r x, (f r x).1.link = r.1.link) : (l.foldl f r).1.link = r.1.link := State.foldl_keep1 (·.link) f h l r

@[simp] theorem State.foldl1_ptp {α β : Type} (f : State × β → α → State × β) (l : List α) (r : State × β) (h : ∀ r x, (f r x).1.ptp = r.1.ptp) : (l.foldl f r).1.ptp = r.1.ptp := State.foldl_keep1 (·.ptp) f h l r

@[simp] theorem State.foldl1_tims {α β : Type} (f : State × β → α → State × β) (l : List α) (r : State × β) (h : ∀ r x, (f r x).1.tims = r.1.tims) : (l.foldl f r).1.tims = r.1.tims := State.foldl_keep1 (·.tims) f h l r

@[simp] theorem State.foldl1_crcs {α β : Type} (f : State × β → α → State × β) (l : List α) (r : State × β) (h : ∀ r x, (f r x).1.crcs = r.1.crcs) : (l.foldl f r).1.crcs = r.1.crcs := State.foldl_keep1 (·.crcs) f h l r

@[simp] theorem State.foldl1_adcs {α β : Type} (f : State × β → α → State × β) (l : List α) (r : State × β) (h : ∀ r x, (f r x).1.adcs = r.1.adcs) : (l.foldl f r).1.adcs = r.1.adcs := State.foldl_keep1 (·.adcs) f h l r

@[simp] theorem State.foldl1_inp {α β : Type} (f : State × β → α → State × β) (l : List α) (r : State × β) (h : ∀ r x, (f r x).1.inp = r.1.inp) : (l.foldl f r).1.inp = r.1.inp := State.foldl_keep1 (·.inp) f h l r

@[simp] theorem State.foldl1_pairs {α β : Type} (f : State × β → α → State × β) (l : List α) (r : State × β) (h : ∀ r x, (f r x).1.pairs = r.1.pairs) : (l.foldl f r).1.pairs = r.1.pairs := State.foldl_keep1 (·.pairs) f h l r

@[simp] theorem State.foldl1_power {α β : Type} (f : State × β → α → State × β) (l : List α) (r : State × β) (h : ∀ r x, (f r x).1.power = r.1.power) : (l.foldl f r).1.power = r.1.power := State.foldl_keep1 (·.power) f h l r

@[simp] theorem State.foldl1_service {α β : Type} (f : State × β → α → State × β) (l : List α) (r : State × β) (h : ∀ r x, (f r x).1.service = r.1.service) : (l.foldl f r).1.service = r.1.service := State.foldl_keep1 (·.service) f h l r

@[simp] theorem State.foldl1_epochAt {α β : Type} (f : State × β → α → State × β) (l : List α) (r : State × β) (h : ∀ r x, (f r x).1.epochAt = r.1.epochAt) : (l.foldl f r).1.epochAt = r.1.epochAt := State.foldl_keep1 (·.epochAt) f h l r

@[simp] theorem State.foldl1_hostLost {α β : Type} (f : State × β → α → State × β) (l : List α) (r : State × β) (h : ∀ r x, (f r x).1.hostLost = r.1.hostLost) : (l.foldl f r).1.hostLost = r.1.hostLost := State.foldl_keep1 (·.hostLost) f h l r

@[simp] theorem State.foldl1_graph {α β : Type} (f : State × β → α → State × β) (l : List α) (r : State × β) (h : ∀ r x, (f r x).1.graph = r.1.graph) : (l.foldl f r).1.graph = r.1.graph := State.foldl_keep1 (·.graph) f h l r

@[simp] theorem State.foldl1_stay {α β : Type} (f : State × β → α → State × β) (l : List α) (r : State × β) (h : ∀ r x, (f r x).1.stay = r.1.stay) : (l.foldl f r).1.stay = r.1.stay := State.foldl_keep1 (·.stay) f h l r

@[simp] theorem State.put_view (s : State) (f : Fld) (v : Nat) (c : Chan) (i : Nat) : (State.put s f v c i).view = s.view := by
  unfold State.put
  simp

@[simp] theorem State.put_keeps (s : State) (f : Fld) (v : Nat) (c : Chan) (i : Nat) : State.Same (State.put s f v c i) s :=
  State.keeps_of_view (State.put_view s f v c i)

@[simp] theorem State.putAt_view (s : State) (f : Fld) (v base : Nat) (i : Nat) : (State.putAt s f v base i).view = s.view := by
  unfold State.putAt
  simp

@[simp] theorem State.putAt_keeps (s : State) (f : Fld) (v base : Nat) (i : Nat) : State.Same (State.putAt s f v base i) s :=
  State.keeps_of_view (State.putAt_view s f v base i)

@[simp] theorem State.putFlag_view (s : State) (f : Fld) (v : Bool) (c : Chan) (i : Nat) : (State.putFlag s f v c i).view = s.view := by
  unfold State.putFlag
  simp

@[simp] theorem State.putFlag_keeps (s : State) (f : Fld) (v : Bool) (c : Chan) (i : Nat) : State.Same (State.putFlag s f v c i) s :=
  State.keeps_of_view (State.putFlag_view s f v c i)

@[simp] theorem State.putBoth_view (s : State) (f : Fld) (v : Nat) (i : Nat) : (State.putBoth s f v i).view = s.view := by
  unfold State.putBoth
  simp

@[simp] theorem State.putBoth_keeps (s : State) (f : Fld) (v : Nat) (i : Nat) : State.Same (State.putBoth s f v i) s :=
  State.keeps_of_view (State.putBoth_view s f v i)

@[simp] theorem State.satInc_view (s : State) (f : Fld) (c : Chan) (i : Nat) : (State.satInc s f c i).view = s.view := by
  unfold State.satInc
  simp

@[simp] theorem State.satInc_keeps (s : State) (f : Fld) (c : Chan) (i : Nat) : State.Same (State.satInc s f c i) s :=
  State.keeps_of_view (State.satInc_view s f c i)

@[simp] theorem State.draw_view (s : State) : (State.draw s).2.view = s.view := rfl

@[simp] theorem State.draw_keeps (s : State) : State.Same (State.draw s).2 s :=
  State.keeps_of_view (State.draw_view s)

@[simp] theorem State.updSec_view (s : State) (f : SecSt → SecSt) : (State.updSec s f).view = s.view := by
  unfold State.updSec
  simp

@[simp] theorem State.updSec_keeps (s : State) (f : SecSt → SecSt) : State.Same (State.updSec s f) s :=
  State.keeps_of_view (State.updSec_view s f)

@[simp] theorem State.dropEvent_view (s : State) : (State.dropEvent s).view = s.view := by
  unfold State.dropEvent
  ((try dsimp only); repeat' (first | (simp; done) | split))

@[simp] theorem State.dropEvent_keeps (s : State) : State.Same (State.dropEvent s) s :=
  State.keeps_of_view (State.dropEvent_view s)

@[simp] theorem State.pushEvent_view (s : State) (typ : Nat) (words : List Nat) (fault : Option (Chan × Nat)) : (State.pushEvent s typ words fault).view = s.view := by
  unfold State.pushEvent
  simp

@[simp] theorem State.pushEvent_keeps (s : State) (typ : Nat) (words : List Nat) (fault : Option (Chan × Nat)) : State.Same (State.pushEvent s typ words fault) s :=
  State.keeps_of_view (State.pushEvent_view s typ words fault)

@[simp] theorem State.recReady_view (s : State) : (State.recReady s).view = s.view := by
  unfold State.recReady
  simp

@[simp] theorem State.recReady_keeps (s : State) : State.Same (State.recReady s) s :=
  State.keeps_of_view (State.recReady_view s)

@[simp] theorem State.pushRec_view (s : State) (typ : Nat) (payload : List Nat) : (State.pushRec s typ payload).view = s.view := by
  unfold State.pushRec
  simp

@[simp] theorem State.pushRec_keeps (s : State) (typ : Nat) (payload : List Nat) : State.Same (State.pushRec s typ payload) s :=
  State.keeps_of_view (State.pushRec_view s typ payload)

@[simp] theorem State.updDie_view (s : State) (c : Chan) (f : Die → Die) : (State.updDie s c f).view = s.view := by
  unfold State.updDie
  simp

@[simp] theorem State.updDie_keeps (s : State) (c : Chan) (f : Die → Die) : State.Same (State.updDie s c f) s :=
  State.keeps_of_view (State.updDie_view s c f)

@[simp] theorem State.showKill_view (s : State) : (State.showKill s).view = s.view := by
  unfold State.showKill
  simp

@[simp] theorem State.showKill_keeps (s : State) : State.Same (State.showKill s) s :=
  State.keeps_of_view (State.showKill_view s)

@[simp] theorem State.abortTest_view (s : State) : (State.abortTest s).view = s.view := by
  unfold State.abortTest
  simp

@[simp] theorem State.abortTest_keeps (s : State) : State.Same (State.abortTest s) s :=
  State.keeps_of_view (State.abortTest_view s)

@[simp] theorem State.oweTests_view (s : State) (m : BitVec 16) : (State.oweTests s m).view = s.view := by
  unfold State.oweTests
  simp

@[simp] theorem State.oweTests_keeps (s : State) (m : BitVec 16) : State.Same (State.oweTests s m) s :=
  State.keeps_of_view (State.oweTests_view s m)

@[simp] theorem State.kill_view (s : State) (c : Chan) (m : BitVec 16) (ls : BitVec 4) (f : Die → Die) : (State.kill s c m ls f).view = s.view := by
  unfold State.kill
  simp

@[simp] theorem State.kill_keeps (s : State) (c : Chan) (m : BitVec 16) (ls : BitVec 4) (f : Die → Die) : State.Same (State.kill s c m ls f) s :=
  State.keeps_of_view (State.kill_view s c m ls f)

@[simp] theorem State.fatalKill_view (s : State) : (State.fatalKill s).view = s.view := by
  unfold State.fatalKill
  simp

@[simp] theorem State.fatalKill_keeps (s : State) : State.Same (State.fatalKill s) s :=
  State.keeps_of_view (State.fatalKill_view s)

@[simp] theorem State.armFurl_view (s : State) (c : Chan) : (State.armFurl s c).view = s.view := by
  unfold State.armFurl
  simp

@[simp] theorem State.armFurl_keeps (s : State) (c : Chan) : State.Same (State.armFurl s c) s :=
  State.keeps_of_view (State.armFurl_view s c)

@[simp] theorem State.armBothFurl_view (s : State) : (State.armBothFurl s).view = s.view := by
  unfold State.armBothFurl
  simp

@[simp] theorem State.armBothFurl_keeps (s : State) : State.Same (State.armBothFurl s) s :=
  State.keeps_of_view (State.armBothFurl_view s)

@[simp] theorem State.disarmFurl_view (s : State) (c : Chan) : (State.disarmFurl s c).view = s.view := by
  unfold State.disarmFurl
  simp

@[simp] theorem State.disarmFurl_keeps (s : State) (c : Chan) : State.Same (State.disarmFurl s c) s :=
  State.keeps_of_view (State.disarmFurl_view s c)

@[simp] theorem State.showFurl_view (s : State) : (State.showFurl s).view = s.view := by
  unfold State.showFurl
  simp

@[simp] theorem State.showFurl_keeps (s : State) : State.Same (State.showFurl s) s :=
  State.keeps_of_view (State.showFurl_view s)

@[simp] theorem State.updFc_view (s : State) (c : Chan) (f : FcSt → FcSt) : (State.updFc s c f).view = s.view := by
  unfold State.updFc
  simp

@[simp] theorem State.updFc_keeps (s : State) (c : Chan) (f : FcSt → FcSt) : State.Same (State.updFc s c f) s :=
  State.keeps_of_view (State.updFc_view s c f)

@[simp] theorem State.showLines_view (s : State) (c : Chan) : (State.showLines s c).view = s.view := by
  unfold State.showLines
  simp

@[simp] theorem State.showLines_keeps (s : State) (c : Chan) : State.Same (State.showLines s c) s :=
  State.keeps_of_view (State.showLines_view s c)

@[simp] theorem State.putRecord_view (s : State) (c : Chan) (n : Nat) (e : FaultEv) : (State.putRecord s c n e).view = s.view := by
  unfold State.putRecord
  simp

@[simp] theorem State.putRecord_keeps (s : State) (c : Chan) (n : Nat) (e : FaultEv) : State.Same (State.putRecord s c n e) s :=
  State.keeps_of_view (State.putRecord_view s c n e)

@[simp] theorem State.record_view (s : State) (c : Chan) (e : FaultEv) : (State.record s c e).view = s.view := by
  unfold State.record
  ((try dsimp only); repeat' (first | (simp; done) | split))

@[simp] theorem State.record_keeps (s : State) (c : Chan) (e : FaultEv) : State.Same (State.record s c e) s :=
  State.keeps_of_view (State.record_view s c e)

@[simp] theorem State.first_view (s : State) (c : Chan) (e : FaultEv) (multi : Bool) : (State.first s c e multi).view = s.view := by
  unfold State.first
  simp

@[simp] theorem State.first_keeps (s : State) (c : Chan) (e : FaultEv) (multi : Bool) : State.Same (State.first s c e multi) s :=
  State.keeps_of_view (State.first_view s c e multi)

@[simp] theorem State.latchIn_view (s : State) (c : Chan) (e : FaultEv) (multi : Bool) : (State.latchIn s c e multi).view = s.view := by
  unfold State.latchIn
  simp

@[simp] theorem State.latchIn_keeps (s : State) (c : Chan) (e : FaultEv) (multi : Bool) : State.Same (State.latchIn s c e multi) s :=
  State.keeps_of_view (State.latchIn_view s c e multi)

@[simp] theorem State.latch_view (s : State) (e : FaultEv) (multi : Bool) : (State.latch s e multi).view = s.view := by
  unfold State.latch
  ((try dsimp only); repeat' (first | (simp; done) | split))

@[simp] theorem State.latch_keeps (s : State) (e : FaultEv) (multi : Bool) : State.Same (State.latch s e multi) s :=
  State.keeps_of_view (State.latch_view s e multi)

@[simp] theorem State.showPins_view (s : State) : (State.showPins s).view = s.view := by
  unfold State.showPins
  simp

@[simp] theorem State.showPins_keeps (s : State) : State.Same (State.showPins s) s :=
  State.keeps_of_view (State.showPins_view s)

@[simp] theorem State.setDev_view (s : State) (n : Nat) : (State.setDev s n).view = s.view := by
  unfold State.setDev
  simp

@[simp] theorem State.setDev_keeps (s : State) (n : Nat) : State.Same (State.setDev s n) s :=
  State.keeps_of_view (State.setDev_view s n)

@[simp] theorem State.settle_view (s : State) : (State.settle s).view = s.view := by
  unfold State.settle
  simp

@[simp] theorem State.settle_keeps (s : State) : State.Same (State.settle s) s :=
  State.keeps_of_view (State.settle_view s)

@[simp] theorem State.openDie_view (s : State) (c : Chan) (keep : BitVec 16) (keepLs : BitVec 4) : (State.openDie s c keep keepLs).view = s.view := by
  unfold State.openDie
  simp

@[simp] theorem State.openDie_keeps (s : State) (c : Chan) (keep : BitVec 16) (keepLs : BitVec 4) : State.Same (State.openDie s c keep keepLs) s :=
  State.keeps_of_view (State.openDie_view s c keep keepLs)

@[simp] theorem State.singleMode_view (s : State) (c : Chan) : (State.singleMode s c).view = s.view := by
  unfold State.singleMode
  simp

@[simp] theorem State.singleMode_keeps (s : State) (c : Chan) : State.Same (State.singleMode s c) s :=
  State.keeps_of_view (State.singleMode_view s c)

@[simp] theorem State.endStops_view (s : State) (cause : Nat) : (State.endStops s cause).view = s.view := by
  have h1 : ∀ (u : State) (d : Chan) (p : Prop) [Decidable p] (f : StopSt → StopSt) (g : Fld) (v w : Nat),
      (if p then (((({ u with stop := twoUpd u.stop d f }).put DSF_STATUS_END_CAUSE v d).put DSF_STATUS_PHASE w d).satInc g d) else u).view = u.view := fun u d p _ f g v w => by
    split
    · rw [State.satInc_view, State.put_view, State.put_view]
      rfl
    · rfl
  have h2 : ∀ (u : State) (d : Chan) (p : Prop) [Decidable p], (if p then u.disarmFurl d else u).view = u.view := fun u d p _ => by
    split
    · exact State.disarmFurl_view u d
    · rfl
  unfold State.endStops
  dsimp only
  rw [State.showFurl_view, h2, h2, h1, h1]

@[simp] theorem State.endStops_keeps (s : State) (cause : Nat) : State.Same (State.endStops s cause) s :=
  State.keeps_of_view (State.endStops_view s cause)

@[simp] theorem State.class2_view (s : State) (c : Chan) (suspect : Bool) (line : Bool) : (State.class2 s c suspect line).view = s.view := by
  unfold State.class2
  simp

@[simp] theorem State.class2_keeps (s : State) (c : Chan) (suspect : Bool) (line : Bool) : State.Same (State.class2 s c suspect line) s :=
  State.keeps_of_view (State.class2_view s c suspect line)

@[simp] theorem State.answerClass2_view (s : State) (o : Chan) (suspect : Bool) : (State.answerClass2 s o suspect).view = s.view := by
  unfold State.answerClass2
  simp

@[simp] theorem State.answerClass2_keeps (s : State) (o : Chan) (suspect : Bool) : State.Same (State.answerClass2 s o suspect) s :=
  State.keeps_of_view (State.answerClass2_view s o suspect)

@[simp] theorem State.class3_view (s : State) : (State.class3 s).view = s.view := by
  unfold State.class3
  simp

@[simp] theorem State.class3_keeps (s : State) : State.Same (State.class3 s) s :=
  State.keeps_of_view (State.class3_view s)

@[simp] theorem State.keepL3_view (s : State) (e : FaultEv) : (State.keepL3 s e).view = s.view := by
  unfold State.keepL3
  ((try dsimp only); repeat' (first | (simp; done) | split))

@[simp] theorem State.keepL3_keeps (s : State) (e : FaultEv) : State.Same (State.keepL3 s e) s :=
  State.keeps_of_view (State.keepL3_view s e)

@[simp] theorem State.react_view (s : State) (e : FaultEv) : (State.react s e).view = s.view := by
  unfold State.react
  ((try dsimp only); repeat' (first | (simp; done) | split))

@[simp] theorem State.react_keeps (s : State) (e : FaultEv) : State.Same (State.react s e) s :=
  State.keeps_of_view (State.react_view s e)

@[simp] theorem State.raise_view (s : State) (e : FaultEv) : (State.raise s e).view = s.view := by
  unfold State.raise
  simp

@[simp] theorem State.raise_keeps (s : State) (e : FaultEv) : State.Same (State.raise s e) s :=
  State.keeps_of_view (State.raise_view s e)

@[simp] theorem State.raiseOnce_view (s : State) (e : FaultEv) : (State.raiseOnce s e).view = s.view := by
  unfold State.raiseOnce
  simp

@[simp] theorem State.raiseOnce_keeps (s : State) (e : FaultEv) : State.Same (State.raiseOnce s e) s :=
  State.keeps_of_view (State.raiseOnce_view s e)

@[simp] theorem State.clearCond_view (s : State) (line : Nat) (e : Elem) : (State.clearCond s line e).view = s.view := by
  unfold State.clearCond
  simp

@[simp] theorem State.clearCond_keeps (s : State) (line : Nat) (e : Elem) : State.Same (State.clearCond s line e) s :=
  State.keeps_of_view (State.clearCond_view s line e)

@[simp] theorem State.dropLatches_view (s : State) (c : Chan) (p : Latch → Bool) : (State.dropLatches s c p).view = s.view := by
  unfold State.dropLatches
  simp

@[simp] theorem State.dropLatches_keeps (s : State) (c : Chan) (p : Latch → Bool) : State.Same (State.dropLatches s c p) s :=
  State.keeps_of_view (State.dropLatches_view s c p)

@[simp] theorem State.openWindow_view (s : State) (n : Nat) : (State.openWindow s n).view = s.view := by
  unfold State.openWindow
  simp

@[simp] theorem State.openWindow_keeps (s : State) (n : Nat) : State.Same (State.openWindow s n) s :=
  State.keeps_of_view (State.openWindow_view s n)

@[simp] theorem State.resetFields_view (s : State) (q : Nat → Bool) (p : Fld → Bool) : (State.resetFields s q p).view = s.view := by
  unfold State.resetFields
  simp

@[simp] theorem State.resetFields_keeps (s : State) (q : Nat → Bool) (p : Fld → Bool) : State.Same (State.resetFields s q p) s :=
  State.keeps_of_view (State.resetFields_view s q p)

@[simp] theorem State.blockReset_view (s : State) (base : Nat) (size : Nat) : (State.blockReset s base size).view = s.view := by
  unfold State.blockReset
  simp

@[simp] theorem State.blockReset_keeps (s : State) (base : Nat) (size : Nat) : State.Same (State.blockReset s base size) s :=
  State.keeps_of_view (State.blockReset_view s base size)

@[simp] theorem State.advise_view (s : State) (n : Nat) : (State.advise s n).view = s.view := by
  unfold State.advise
  simp

@[simp] theorem State.advise_keeps (s : State) (n : Nat) : State.Same (State.advise s n) s :=
  State.keeps_of_view (State.advise_view s n)

@[simp] theorem State.keepTemps_view (s : State) (k : Nat) : (State.keepTemps s k).view = s.view := by
  unfold State.keepTemps
  simp

@[simp] theorem State.keepTemps_keeps (s : State) (k : Nat) : State.Same (State.keepTemps s k) s :=
  State.keeps_of_view (State.keepTemps_view s k)

@[simp] theorem State.setAge_view (s : State) (h : Nat) : (State.setAge s h).view = s.view := by
  unfold State.setAge
  simp

@[simp] theorem State.setAge_keeps (s : State) (h : Nat) : State.Same (State.setAge s h) s :=
  State.keeps_of_view (State.setAge_view s h)

@[simp] theorem State.showAge_view (s : State) : (State.showAge s).view = s.view := by
  unfold State.showAge
  simp

@[simp] theorem State.showAge_keeps (s : State) : State.Same (State.showAge s) s :=
  State.keeps_of_view (State.showAge_view s)

@[simp] theorem State.resetAge_view (s : State) : (State.resetAge s).view = s.view := by
  unfold State.resetAge
  simp

@[simp] theorem State.resetAge_keeps (s : State) : State.Same (State.resetAge s) s :=
  State.keeps_of_view (State.resetAge_view s)

@[simp] theorem State.showCnm_view (s : State) : (State.showCnm s).view = s.view := by
  unfold State.showCnm
  simp

@[simp] theorem State.showCnm_keeps (s : State) : State.Same (State.showCnm s) s :=
  State.keeps_of_view (State.showCnm_view s)

@[simp] theorem State.replan_view (s : State) : (State.replan s).view = s.view := by
  unfold State.replan
  simp

@[simp] theorem State.replan_keeps (s : State) : State.Same (State.replan s) s :=
  State.keeps_of_view (State.replan_view s)

@[simp] theorem State.setVerify_view (s : State) (v : Nat) : (State.setVerify s v).view = s.view := by
  unfold State.setVerify
  simp

@[simp] theorem State.setVerify_keeps (s : State) (v : Nat) : State.Same (State.setVerify s v) s :=
  State.keeps_of_view (State.setVerify_view s v)

@[simp] theorem State.applyVerify_view (s : State) : (State.applyVerify s).view = s.view := by
  unfold State.applyVerify
  simp

@[simp] theorem State.applyVerify_keeps (s : State) : State.Same (State.applyVerify s) s :=
  State.keeps_of_view (State.applyVerify_view s)

@[simp] theorem State.noteRon_view (s : State) (n die r : Nat) (tj : Int) : (State.noteRon s n die r tj).view = s.view := by
  unfold State.noteRon
  simp

@[simp] theorem State.noteRon_keeps (s : State) (n die r : Nat) (tj : Int) : State.Same (State.noteRon s n die r tj) s :=
  State.keeps_of_view (State.noteRon_view s n die r tj)

@[simp] theorem State.noteAdcRef_view (s : State) (k : Nat) (g o : Int) : (State.noteAdcRef s k g o).view = s.view := by
  unfold State.noteAdcRef
  simp

@[simp] theorem State.noteAdcRef_keeps (s : State) (k : Nat) (g o : Int) : State.Same (State.noteAdcRef s k g o) s :=
  State.keeps_of_view (State.noteAdcRef_view s k g o)

@[simp] theorem State.clockStep_view (s : State) : (State.clockStep s).view = s.view := by
  unfold State.clockStep
  simp

@[simp] theorem State.clockStep_keeps (s : State) : State.Same (State.clockStep s) s :=
  State.keeps_of_view (State.clockStep_view s)

@[simp] theorem State.updAdc_keeps (s : State) (k : Nat) (f : AdcSt → AdcSt) : (State.updAdc s k f).pending = s.pending ∧ (State.updAdc s k f).mem = s.mem ∧ (State.updAdc s k f).mz = s.mz ∧ (State.updAdc s k f).prog = s.prog ∧ (State.updAdc s k f).refit = s.refit ∧ (State.updAdc s k f).refitHeld = s.refitHeld ∧ (State.updAdc s k f).fw = s.fw ∧ (State.updAdc s k f).ses = s.ses ∧ (State.updAdc s k f).nets = s.nets ∧ (State.updAdc s k f).link = s.link ∧ (State.updAdc s k f).ptp = s.ptp ∧ (State.updAdc s k f).tims = s.tims ∧ (State.updAdc s k f).crcs = s.crcs ∧ (State.updAdc s k f).inp = s.inp ∧ (State.updAdc s k f).pairs = s.pairs ∧ (State.updAdc s k f).power = s.power ∧ (State.updAdc s k f).service = s.service ∧ (State.updAdc s k f).epochAt = s.epochAt ∧ (State.updAdc s k f).hostLost = s.hostLost ∧ (State.updAdc s k f).graph = s.graph ∧ (State.updAdc s k f).stay = s.stay := by
  unfold State.updAdc
  simp

@[simp] theorem State.putA_view (s : State) (f : Fld) (v k : Nat) (i : Nat) : (State.putA s f v k i).view = s.view := by
  unfold State.putA
  simp

@[simp] theorem State.putA_keeps (s : State) (f : Fld) (v k : Nat) (i : Nat) : State.Same (State.putA s f v k i) s :=
  State.keeps_of_view (State.putA_view s f v k i)

@[simp] theorem State.addA_view (s : State) (f : Fld) (n k : Nat) (i : Nat) : (State.addA s f n k i).view = s.view := by
  unfold State.addA
  simp

@[simp] theorem State.addA_keeps (s : State) (f : Fld) (n k : Nat) (i : Nat) : State.Same (State.addA s f n k i) s :=
  State.keeps_of_view (State.addA_view s f n k i)

@[simp] theorem State.updCtx_keeps (s : State) (k n : Nat) (f : CtxSt → CtxSt) : (State.updCtx s k n f).pending = s.pending ∧ (State.updCtx s k n f).mem = s.mem ∧ (State.updCtx s k n f).mz = s.mz ∧ (State.updCtx s k n f).prog = s.prog ∧ (State.updCtx s k n f).refit = s.refit ∧ (State.updCtx s k n f).refitHeld = s.refitHeld ∧ (State.updCtx s k n f).fw = s.fw ∧ (State.updCtx s k n f).ses = s.ses ∧ (State.updCtx s k n f).nets = s.nets ∧ (State.updCtx s k n f).link = s.link ∧ (State.updCtx s k n f).ptp = s.ptp ∧ (State.updCtx s k n f).tims = s.tims ∧ (State.updCtx s k n f).crcs = s.crcs ∧ (State.updCtx s k n f).inp = s.inp ∧ (State.updCtx s k n f).pairs = s.pairs ∧ (State.updCtx s k n f).power = s.power ∧ (State.updCtx s k n f).service = s.service ∧ (State.updCtx s k n f).epochAt = s.epochAt ∧ (State.updCtx s k n f).hostLost = s.hostLost ∧ (State.updCtx s k n f).graph = s.graph ∧ (State.updCtx s k n f).stay = s.stay := by
  unfold State.updCtx
  simp

@[simp] theorem State.restartCtx_keeps (s : State) (k n : Nat) : (State.restartCtx s k n).pending = s.pending ∧ (State.restartCtx s k n).mem = s.mem ∧ (State.restartCtx s k n).mz = s.mz ∧ (State.restartCtx s k n).prog = s.prog ∧ (State.restartCtx s k n).refit = s.refit ∧ (State.restartCtx s k n).refitHeld = s.refitHeld ∧ (State.restartCtx s k n).fw = s.fw ∧ (State.restartCtx s k n).ses = s.ses ∧ (State.restartCtx s k n).nets = s.nets ∧ (State.restartCtx s k n).link = s.link ∧ (State.restartCtx s k n).ptp = s.ptp ∧ (State.restartCtx s k n).tims = s.tims ∧ (State.restartCtx s k n).crcs = s.crcs ∧ (State.restartCtx s k n).inp = s.inp ∧ (State.restartCtx s k n).pairs = s.pairs ∧ (State.restartCtx s k n).power = s.power ∧ (State.restartCtx s k n).service = s.service ∧ (State.restartCtx s k n).epochAt = s.epochAt ∧ (State.restartCtx s k n).hostLost = s.hostLost ∧ (State.restartCtx s k n).graph = s.graph ∧ (State.restartCtx s k n).stay = s.stay := by
  unfold State.restartCtx
  simp

@[simp] theorem State.restartAll_keeps (s : State) (k : Nat) : (State.restartAll s k).pending = s.pending ∧ (State.restartAll s k).mem = s.mem ∧ (State.restartAll s k).mz = s.mz ∧ (State.restartAll s k).prog = s.prog ∧ (State.restartAll s k).refit = s.refit ∧ (State.restartAll s k).refitHeld = s.refitHeld ∧ (State.restartAll s k).fw = s.fw ∧ (State.restartAll s k).ses = s.ses ∧ (State.restartAll s k).nets = s.nets ∧ (State.restartAll s k).link = s.link ∧ (State.restartAll s k).ptp = s.ptp ∧ (State.restartAll s k).tims = s.tims ∧ (State.restartAll s k).crcs = s.crcs ∧ (State.restartAll s k).inp = s.inp ∧ (State.restartAll s k).pairs = s.pairs ∧ (State.restartAll s k).power = s.power ∧ (State.restartAll s k).service = s.service ∧ (State.restartAll s k).epochAt = s.epochAt ∧ (State.restartAll s k).hostLost = s.hostLost ∧ (State.restartAll s k).graph = s.graph ∧ (State.restartAll s k).stay = s.stay := by
  unfold State.restartAll
  simp

@[simp] theorem State.statRecord_view (s : State) : (State.statRecord s).view = s.view := by
  unfold State.statRecord
  simp

@[simp] theorem State.statRecord_keeps (s : State) : State.Same (State.statRecord s) s :=
  State.keeps_of_view (State.statRecord_view s)

@[simp] theorem State.window_keeps (s : State) (k n r : Nat) (fresh : Bool) : (State.window s k n r fresh).pending = s.pending ∧ (State.window s k n r fresh).mem = s.mem ∧ (State.window s k n r fresh).mz = s.mz ∧ (State.window s k n r fresh).prog = s.prog ∧ (State.window s k n r fresh).refit = s.refit ∧ (State.window s k n r fresh).refitHeld = s.refitHeld ∧ (State.window s k n r fresh).fw = s.fw ∧ (State.window s k n r fresh).ses = s.ses ∧ (State.window s k n r fresh).nets = s.nets ∧ (State.window s k n r fresh).link = s.link ∧ (State.window s k n r fresh).ptp = s.ptp ∧ (State.window s k n r fresh).tims = s.tims ∧ (State.window s k n r fresh).crcs = s.crcs ∧ (State.window s k n r fresh).inp = s.inp ∧ (State.window s k n r fresh).pairs = s.pairs ∧ (State.window s k n r fresh).power = s.power ∧ (State.window s k n r fresh).service = s.service ∧ (State.window s k n r fresh).epochAt = s.epochAt ∧ (State.window s k n r fresh).hostLost = s.hostLost ∧ (State.window s k n r fresh).graph = s.graph ∧ (State.window s k n r fresh).stay = s.stay := by
  unfold State.window
  simp

@[simp] theorem State.result_keeps (s : State) (k n r : Nat) : (State.result s k n r).pending = s.pending ∧ (State.result s k n r).mem = s.mem ∧ (State.result s k n r).mz = s.mz ∧ (State.result s k n r).prog = s.prog ∧ (State.result s k n r).refit = s.refit ∧ (State.result s k n r).refitHeld = s.refitHeld ∧ (State.result s k n r).fw = s.fw ∧ (State.result s k n r).ses = s.ses ∧ (State.result s k n r).nets = s.nets ∧ (State.result s k n r).link = s.link ∧ (State.result s k n r).ptp = s.ptp ∧ (State.result s k n r).tims = s.tims ∧ (State.result s k n r).crcs = s.crcs ∧ (State.result s k n r).inp = s.inp ∧ (State.result s k n r).pairs = s.pairs ∧ (State.result s k n r).power = s.power ∧ (State.result s k n r).service = s.service ∧ (State.result s k n r).epochAt = s.epochAt ∧ (State.result s k n r).hostLost = s.hostLost ∧ (State.result s k n r).graph = s.graph ∧ (State.result s k n r).stay = s.stay := by
  unfold State.result
  simp

@[simp] theorem State.sampleInto_keeps (s : State) (k n raw : Nat) : (State.sampleInto s k n raw).pending = s.pending ∧ (State.sampleInto s k n raw).mem = s.mem ∧ (State.sampleInto s k n raw).mz = s.mz ∧ (State.sampleInto s k n raw).prog = s.prog ∧ (State.sampleInto s k n raw).refit = s.refit ∧ (State.sampleInto s k n raw).refitHeld = s.refitHeld ∧ (State.sampleInto s k n raw).fw = s.fw ∧ (State.sampleInto s k n raw).ses = s.ses ∧ (State.sampleInto s k n raw).nets = s.nets ∧ (State.sampleInto s k n raw).link = s.link ∧ (State.sampleInto s k n raw).ptp = s.ptp ∧ (State.sampleInto s k n raw).tims = s.tims ∧ (State.sampleInto s k n raw).crcs = s.crcs ∧ (State.sampleInto s k n raw).inp = s.inp ∧ (State.sampleInto s k n raw).pairs = s.pairs ∧ (State.sampleInto s k n raw).power = s.power ∧ (State.sampleInto s k n raw).service = s.service ∧ (State.sampleInto s k n raw).epochAt = s.epochAt ∧ (State.sampleInto s k n raw).hostLost = s.hostLost ∧ (State.sampleInto s k n raw).graph = s.graph ∧ (State.sampleInto s k n raw).stay = s.stay := by
  unfold State.sampleInto
  simp

@[simp] theorem State.adcFault_view (s : State) (k : Nat) (el : Elem) : (State.adcFault s k el).view = s.view := by
  unfold State.adcFault
  simp

@[simp] theorem State.adcFault_keeps (s : State) (k : Nat) (el : Elem) : State.Same (State.adcFault s k el) s :=
  State.keeps_of_view (State.adcFault_view s k el)

@[simp] theorem State.calResult_keeps (s : State) (k : Nat) : (State.calResult s k).pending = s.pending ∧ (State.calResult s k).mem = s.mem ∧ (State.calResult s k).mz = s.mz ∧ (State.calResult s k).prog = s.prog ∧ (State.calResult s k).refit = s.refit ∧ (State.calResult s k).refitHeld = s.refitHeld ∧ (State.calResult s k).fw = s.fw ∧ (State.calResult s k).ses = s.ses ∧ (State.calResult s k).nets = s.nets ∧ (State.calResult s k).link = s.link ∧ (State.calResult s k).ptp = s.ptp ∧ (State.calResult s k).tims = s.tims ∧ (State.calResult s k).crcs = s.crcs ∧ (State.calResult s k).inp = s.inp ∧ (State.calResult s k).pairs = s.pairs ∧ (State.calResult s k).power = s.power ∧ (State.calResult s k).service = s.service ∧ (State.calResult s k).epochAt = s.epochAt ∧ (State.calResult s k).hostLost = s.hostLost ∧ (State.calResult s k).graph = s.graph ∧ (State.calResult s k).stay = s.stay := by
  unfold State.calResult
  simp

@[simp] theorem State.adcNext.regular_keeps (k : Nat) (s : State) (a : AdcSt) : (State.adcNext.regular k s a).pending = s.pending ∧ (State.adcNext.regular k s a).mem = s.mem ∧ (State.adcNext.regular k s a).mz = s.mz ∧ (State.adcNext.regular k s a).prog = s.prog ∧ (State.adcNext.regular k s a).refit = s.refit ∧ (State.adcNext.regular k s a).refitHeld = s.refitHeld ∧ (State.adcNext.regular k s a).fw = s.fw ∧ (State.adcNext.regular k s a).ses = s.ses ∧ (State.adcNext.regular k s a).nets = s.nets ∧ (State.adcNext.regular k s a).link = s.link ∧ (State.adcNext.regular k s a).ptp = s.ptp ∧ (State.adcNext.regular k s a).tims = s.tims ∧ (State.adcNext.regular k s a).crcs = s.crcs ∧ (State.adcNext.regular k s a).inp = s.inp ∧ (State.adcNext.regular k s a).pairs = s.pairs ∧ (State.adcNext.regular k s a).power = s.power ∧ (State.adcNext.regular k s a).service = s.service ∧ (State.adcNext.regular k s a).epochAt = s.epochAt ∧ (State.adcNext.regular k s a).hostLost = s.hostLost ∧ (State.adcNext.regular k s a).graph = s.graph ∧ (State.adcNext.regular k s a).stay = s.stay := by
  unfold State.adcNext.regular
  dsimp only
  split
  · simp
  · split <;> simp

@[simp] theorem State.adcNext_keeps (s : State) (k : Nat) : (State.adcNext s k).pending = s.pending ∧ (State.adcNext s k).mem = s.mem ∧ (State.adcNext s k).mz = s.mz ∧ (State.adcNext s k).prog = s.prog ∧ (State.adcNext s k).refit = s.refit ∧ (State.adcNext s k).refitHeld = s.refitHeld ∧ (State.adcNext s k).fw = s.fw ∧ (State.adcNext s k).ses = s.ses ∧ (State.adcNext s k).nets = s.nets ∧ (State.adcNext s k).link = s.link ∧ (State.adcNext s k).ptp = s.ptp ∧ (State.adcNext s k).tims = s.tims ∧ (State.adcNext s k).crcs = s.crcs ∧ (State.adcNext s k).inp = s.inp ∧ (State.adcNext s k).pairs = s.pairs ∧ (State.adcNext s k).power = s.power ∧ (State.adcNext s k).service = s.service ∧ (State.adcNext s k).epochAt = s.epochAt ∧ (State.adcNext s k).hostLost = s.hostLost ∧ (State.adcNext s k).graph = s.graph ∧ (State.adcNext s k).stay = s.stay := by
  unfold State.adcNext
  dsimp only
  repeat' (first | (simp; done) | split)

@[simp] theorem State.burstConv_keeps (s : State) (k n rep disc raw : Nat) : (State.burstConv s k n rep disc raw).pending = s.pending ∧ (State.burstConv s k n rep disc raw).mem = s.mem ∧ (State.burstConv s k n rep disc raw).mz = s.mz ∧ (State.burstConv s k n rep disc raw).prog = s.prog ∧ (State.burstConv s k n rep disc raw).refit = s.refit ∧ (State.burstConv s k n rep disc raw).refitHeld = s.refitHeld ∧ (State.burstConv s k n rep disc raw).fw = s.fw ∧ (State.burstConv s k n rep disc raw).ses = s.ses ∧ (State.burstConv s k n rep disc raw).nets = s.nets ∧ (State.burstConv s k n rep disc raw).link = s.link ∧ (State.burstConv s k n rep disc raw).ptp = s.ptp ∧ (State.burstConv s k n rep disc raw).tims = s.tims ∧ (State.burstConv s k n rep disc raw).crcs = s.crcs ∧ (State.burstConv s k n rep disc raw).inp = s.inp ∧ (State.burstConv s k n rep disc raw).pairs = s.pairs ∧ (State.burstConv s k n rep disc raw).power = s.power ∧ (State.burstConv s k n rep disc raw).service = s.service ∧ (State.burstConv s k n rep disc raw).epochAt = s.epochAt ∧ (State.burstConv s k n rep disc raw).hostLost = s.hostLost ∧ (State.burstConv s k n rep disc raw).graph = s.graph ∧ (State.burstConv s k n rep disc raw).stay = s.stay := by
  unfold State.burstConv
  simp

@[simp] theorem State.showRail_view (s : State) (n raw : Nat) : (State.showRail s n raw).view = s.view := by
  unfold State.showRail
  ((try dsimp only); repeat' (first | (simp; done) | split))

@[simp] theorem State.showRail_keeps (s : State) (n raw : Nat) : State.Same (State.showRail s n raw) s :=
  State.keeps_of_view (State.showRail_view s n raw)

@[simp] theorem State.conversion_keeps (s : State) (k raw : Nat) : (State.conversion s k raw).pending = s.pending ∧ (State.conversion s k raw).mem = s.mem ∧ (State.conversion s k raw).mz = s.mz ∧ (State.conversion s k raw).prog = s.prog ∧ (State.conversion s k raw).refit = s.refit ∧ (State.conversion s k raw).refitHeld = s.refitHeld ∧ (State.conversion s k raw).fw = s.fw ∧ (State.conversion s k raw).ses = s.ses ∧ (State.conversion s k raw).nets = s.nets ∧ (State.conversion s k raw).link = s.link ∧ (State.conversion s k raw).ptp = s.ptp ∧ (State.conversion s k raw).tims = s.tims ∧ (State.conversion s k raw).crcs = s.crcs ∧ (State.conversion s k raw).inp = s.inp ∧ (State.conversion s k raw).pairs = s.pairs ∧ (State.conversion s k raw).power = s.power ∧ (State.conversion s k raw).service = s.service ∧ (State.conversion s k raw).epochAt = s.epochAt ∧ (State.conversion s k raw).hostLost = s.hostLost ∧ (State.conversion s k raw).graph = s.graph ∧ (State.conversion s k raw).stay = s.stay := by
  unfold State.conversion
  ((try dsimp only); repeat' (first | (simp; done) | split))

@[simp] theorem State.inject_keeps (s : State) (k n : Nat) : (State.inject s k n).pending = s.pending ∧ (State.inject s k n).mem = s.mem ∧ (State.inject s k n).mz = s.mz ∧ (State.inject s k n).prog = s.prog ∧ (State.inject s k n).refit = s.refit ∧ (State.inject s k n).refitHeld = s.refitHeld ∧ (State.inject s k n).fw = s.fw ∧ (State.inject s k n).ses = s.ses ∧ (State.inject s k n).nets = s.nets ∧ (State.inject s k n).link = s.link ∧ (State.inject s k n).ptp = s.ptp ∧ (State.inject s k n).tims = s.tims ∧ (State.inject s k n).crcs = s.crcs ∧ (State.inject s k n).inp = s.inp ∧ (State.inject s k n).pairs = s.pairs ∧ (State.inject s k n).power = s.power ∧ (State.inject s k n).service = s.service ∧ (State.inject s k n).epochAt = s.epochAt ∧ (State.inject s k n).hostLost = s.hostLost ∧ (State.inject s k n).graph = s.graph ∧ (State.inject s k n).stay = s.stay := by
  unfold State.inject
  simp

@[simp] theorem State.camInject_keeps (s : State) (c : Chan) (target : Nat) : (State.camInject s c target).pending = s.pending ∧ (State.camInject s c target).mem = s.mem ∧ (State.camInject s c target).mz = s.mz ∧ (State.camInject s c target).prog = s.prog ∧ (State.camInject s c target).refit = s.refit ∧ (State.camInject s c target).refitHeld = s.refitHeld ∧ (State.camInject s c target).fw = s.fw ∧ (State.camInject s c target).ses = s.ses ∧ (State.camInject s c target).nets = s.nets ∧ (State.camInject s c target).link = s.link ∧ (State.camInject s c target).ptp = s.ptp ∧ (State.camInject s c target).tims = s.tims ∧ (State.camInject s c target).crcs = s.crcs ∧ (State.camInject s c target).inp = s.inp ∧ (State.camInject s c target).pairs = s.pairs ∧ (State.camInject s c target).power = s.power ∧ (State.camInject s c target).service = s.service ∧ (State.camInject s c target).epochAt = s.epochAt ∧ (State.camInject s c target).hostLost = s.hostLost ∧ (State.camInject s c target).graph = s.graph ∧ (State.camInject s c target).stay = s.stay := by
  unfold State.camInject
  simp

@[simp] theorem State.calFallsDue_keeps (s : State) (k : Nat) : (State.calFallsDue s k).pending = s.pending ∧ (State.calFallsDue s k).mem = s.mem ∧ (State.calFallsDue s k).mz = s.mz ∧ (State.calFallsDue s k).prog = s.prog ∧ (State.calFallsDue s k).refit = s.refit ∧ (State.calFallsDue s k).refitHeld = s.refitHeld ∧ (State.calFallsDue s k).fw = s.fw ∧ (State.calFallsDue s k).ses = s.ses ∧ (State.calFallsDue s k).nets = s.nets ∧ (State.calFallsDue s k).link = s.link ∧ (State.calFallsDue s k).ptp = s.ptp ∧ (State.calFallsDue s k).tims = s.tims ∧ (State.calFallsDue s k).crcs = s.crcs ∧ (State.calFallsDue s k).inp = s.inp ∧ (State.calFallsDue s k).pairs = s.pairs ∧ (State.calFallsDue s k).power = s.power ∧ (State.calFallsDue s k).service = s.service ∧ (State.calFallsDue s k).epochAt = s.epochAt ∧ (State.calFallsDue s k).hostLost = s.hostLost ∧ (State.calFallsDue s k).graph = s.graph ∧ (State.calFallsDue s k).stay = s.stay := by
  unfold State.calFallsDue
  simp

@[simp] theorem State.adcReset_keeps (s : State) (k : Nat) : (State.adcReset s k).pending = s.pending ∧ (State.adcReset s k).mem = s.mem ∧ (State.adcReset s k).mz = s.mz ∧ (State.adcReset s k).prog = s.prog ∧ (State.adcReset s k).refit = s.refit ∧ (State.adcReset s k).refitHeld = s.refitHeld ∧ (State.adcReset s k).fw = s.fw ∧ (State.adcReset s k).ses = s.ses ∧ (State.adcReset s k).nets = s.nets ∧ (State.adcReset s k).link = s.link ∧ (State.adcReset s k).ptp = s.ptp ∧ (State.adcReset s k).tims = s.tims ∧ (State.adcReset s k).crcs = s.crcs ∧ (State.adcReset s k).inp = s.inp ∧ (State.adcReset s k).pairs = s.pairs ∧ (State.adcReset s k).power = s.power ∧ (State.adcReset s k).service = s.service ∧ (State.adcReset s k).epochAt = s.epochAt ∧ (State.adcReset s k).hostLost = s.hostLost ∧ (State.adcReset s k).graph = s.graph ∧ (State.adcReset s k).stay = s.stay := by
  unfold State.adcReset
  simp

@[simp] theorem State.aiCheck_view (s : State) (k n : Nat) : (State.aiCheck s k n).view = s.view := by
  unfold State.aiCheck
  simp

@[simp] theorem State.aiCheck_keeps (s : State) (k n : Nat) : State.Same (State.aiCheck s k n) s :=
  State.keeps_of_view (State.aiCheck_view s k n)

@[simp] theorem State.aiSnap_view (s : State) (c : Chan) (n : Nat) : ((State.aiSnap s c n).1).view = s.view := by
  unfold State.aiSnap
  ((try dsimp only); repeat' (first | (simp; done) | split))

@[simp] theorem State.aiSnap_keeps (s : State) (c : Chan) (n : Nat) : State.Same ((State.aiSnap s c n).1) s :=
  State.keeps_of_view (State.aiSnap_view s c n)

@[simp] theorem State.putT_view (s : State) (f : Fld) (v : Nat) (u : Unit3) (i : Nat) : (State.putT s f v u i).view = s.view := by
  unfold State.putT
  simp

@[simp] theorem State.putT_keeps (s : State) (f : Fld) (v : Nat) (u : Unit3) (i : Nat) : State.Same (State.putT s f v u i) s :=
  State.keeps_of_view (State.putT_view s f v u i)

@[simp] theorem State.updTim_keeps (s : State) (u : Unit3) (f : TimSt → TimSt) : (State.updTim s u f).pending = s.pending ∧ (State.updTim s u f).mem = s.mem ∧ (State.updTim s u f).mz = s.mz ∧ (State.updTim s u f).prog = s.prog ∧ (State.updTim s u f).refit = s.refit ∧ (State.updTim s u f).refitHeld = s.refitHeld ∧ (State.updTim s u f).fw = s.fw ∧ (State.updTim s u f).ses = s.ses ∧ (State.updTim s u f).nets = s.nets ∧ (State.updTim s u f).link = s.link ∧ (State.updTim s u f).ptp = s.ptp ∧ (State.updTim s u f).crcs = s.crcs ∧ (State.updTim s u f).adcs = s.adcs ∧ (State.updTim s u f).inp = s.inp ∧ (State.updTim s u f).pairs = s.pairs ∧ (State.updTim s u f).power = s.power ∧ (State.updTim s u f).service = s.service ∧ (State.updTim s u f).epochAt = s.epochAt ∧ (State.updTim s u f).hostLost = s.hostLost ∧ (State.updTim s u f).graph = s.graph ∧ (State.updTim s u f).stay = s.stay := by
  unfold State.updTim
  simp

@[simp] theorem State.fireCompare_keeps (s : State) (u : Unit3) (late : Bool) (n : Nat) : (State.fireCompare s u late n).pending = s.pending ∧ (State.fireCompare s u late n).mem = s.mem ∧ (State.fireCompare s u late n).mz = s.mz ∧ (State.fireCompare s u late n).prog = s.prog ∧ (State.fireCompare s u late n).refit = s.refit ∧ (State.fireCompare s u late n).refitHeld = s.refitHeld ∧ (State.fireCompare s u late n).fw = s.fw ∧ (State.fireCompare s u late n).ses = s.ses ∧ (State.fireCompare s u late n).nets = s.nets ∧ (State.fireCompare s u late n).link = s.link ∧ (State.fireCompare s u late n).ptp = s.ptp ∧ (State.fireCompare s u late n).crcs = s.crcs ∧ (State.fireCompare s u late n).adcs = s.adcs ∧ (State.fireCompare s u late n).inp = s.inp ∧ (State.fireCompare s u late n).pairs = s.pairs ∧ (State.fireCompare s u late n).power = s.power ∧ (State.fireCompare s u late n).service = s.service ∧ (State.fireCompare s u late n).epochAt = s.epochAt ∧ (State.fireCompare s u late n).hostLost = s.hostLost ∧ (State.fireCompare s u late n).graph = s.graph ∧ (State.fireCompare s u late n).stay = s.stay := by
  unfold State.fireCompare
  simp

@[simp] theorem State.tickTimer_keeps (s : State) (u : Unit3) (late : Bool) (t n : Nat) : ((State.tickTimer s u late t n).1).pending = s.pending ∧ ((State.tickTimer s u late t n).1).mem = s.mem ∧ ((State.tickTimer s u late t n).1).mz = s.mz ∧ ((State.tickTimer s u late t n).1).prog = s.prog ∧ ((State.tickTimer s u late t n).1).refit = s.refit ∧ ((State.tickTimer s u late t n).1).refitHeld = s.refitHeld ∧ ((State.tickTimer s u late t n).1).fw = s.fw ∧ ((State.tickTimer s u late t n).1).ses = s.ses ∧ ((State.tickTimer s u late t n).1).nets = s.nets ∧ ((State.tickTimer s u late t n).1).link = s.link ∧ ((State.tickTimer s u late t n).1).ptp = s.ptp ∧ ((State.tickTimer s u late t n).1).crcs = s.crcs ∧ ((State.tickTimer s u late t n).1).adcs = s.adcs ∧ ((State.tickTimer s u late t n).1).inp = s.inp ∧ ((State.tickTimer s u late t n).1).pairs = s.pairs ∧ ((State.tickTimer s u late t n).1).power = s.power ∧ ((State.tickTimer s u late t n).1).service = s.service ∧ ((State.tickTimer s u late t n).1).epochAt = s.epochAt ∧ ((State.tickTimer s u late t n).1).hostLost = s.hostLost ∧ ((State.tickTimer s u late t n).1).graph = s.graph ∧ ((State.tickTimer s u late t n).1).stay = s.stay := by
  unfold State.tickTimer
  ((try dsimp only); repeat' (first | (simp; done) | split))

@[simp] theorem State.capture_view (s : State) (u : Unit3) (t : Nat) (stamp : Option Nat) : (State.capture s u t stamp).view = s.view := by
  unfold State.capture
  ((try dsimp only); repeat' (first | (simp; done) | split))

@[simp] theorem State.capture_keeps (s : State) (u : Unit3) (t : Nat) (stamp : Option Nat) : State.Same (State.capture s u t stamp) s :=
  State.keeps_of_view (State.capture_view s u t stamp)

@[simp] theorem State.passTimer_keeps (s : State) (u : Unit3) (late : Bool) (t n : Nat) (es : Tab TimEvents) : ((State.passTimer s u late t n es).1).pending = s.pending ∧ ((State.passTimer s u late t n es).1).mem = s.mem ∧ ((State.passTimer s u late t n es).1).mz = s.mz ∧ ((State.passTimer s u late t n es).1).prog = s.prog ∧ ((State.passTimer s u late t n es).1).refit = s.refit ∧ ((State.passTimer s u late t n es).1).refitHeld = s.refitHeld ∧ ((State.passTimer s u late t n es).1).fw = s.fw ∧ ((State.passTimer s u late t n es).1).ses = s.ses ∧ ((State.passTimer s u late t n es).1).nets = s.nets ∧ ((State.passTimer s u late t n es).1).link = s.link ∧ ((State.passTimer s u late t n es).1).ptp = s.ptp ∧ ((State.passTimer s u late t n es).1).crcs = s.crcs ∧ ((State.passTimer s u late t n es).1).adcs = s.adcs ∧ ((State.passTimer s u late t n es).1).inp = s.inp ∧ ((State.passTimer s u late t n es).1).pairs = s.pairs ∧ ((State.passTimer s u late t n es).1).power = s.power ∧ ((State.passTimer s u late t n es).1).service = s.service ∧ ((State.passTimer s u late t n es).1).epochAt = s.epochAt ∧ ((State.passTimer s u late t n es).1).hostLost = s.hostLost ∧ ((State.passTimer s u late t n es).1).graph = s.graph ∧ ((State.passTimer s u late t n es).1).stay = s.stay := by
  unfold State.passTimer
  ((try dsimp only); repeat' (first | (simp; done) | split))

@[simp] theorem State.passBlock_keeps (s : State) (u : Unit3) (late : Bool) (ticks : Nat → Nat) : (State.passBlock s u late ticks).pending = s.pending ∧ (State.passBlock s u late ticks).mem = s.mem ∧ (State.passBlock s u late ticks).mz = s.mz ∧ (State.passBlock s u late ticks).prog = s.prog ∧ (State.passBlock s u late ticks).refit = s.refit ∧ (State.passBlock s u late ticks).refitHeld = s.refitHeld ∧ (State.passBlock s u late ticks).fw = s.fw ∧ (State.passBlock s u late ticks).ses = s.ses ∧ (State.passBlock s u late ticks).nets = s.nets ∧ (State.passBlock s u late ticks).link = s.link ∧ (State.passBlock s u late ticks).ptp = s.ptp ∧ (State.passBlock s u late ticks).crcs = s.crcs ∧ (State.passBlock s u late ticks).adcs = s.adcs ∧ (State.passBlock s u late ticks).inp = s.inp ∧ (State.passBlock s u late ticks).pairs = s.pairs ∧ (State.passBlock s u late ticks).power = s.power ∧ (State.passBlock s u late ticks).service = s.service ∧ (State.passBlock s u late ticks).epochAt = s.epochAt ∧ (State.passBlock s u late ticks).hostLost = s.hostLost ∧ (State.passBlock s u late ticks).graph = s.graph ∧ (State.passBlock s u late ticks).stay = s.stay := by
  unfold State.passBlock
  simp

@[simp] theorem State.advance_keeps (s : State) (u : Unit3) : (State.advance s u).pending = s.pending ∧ (State.advance s u).mem = s.mem ∧ (State.advance s u).mz = s.mz ∧ (State.advance s u).prog = s.prog ∧ (State.advance s u).refit = s.refit ∧ (State.advance s u).refitHeld = s.refitHeld ∧ (State.advance s u).fw = s.fw ∧ (State.advance s u).ses = s.ses ∧ (State.advance s u).nets = s.nets ∧ (State.advance s u).link = s.link ∧ (State.advance s u).ptp = s.ptp ∧ (State.advance s u).crcs = s.crcs ∧ (State.advance s u).adcs = s.adcs ∧ (State.advance s u).inp = s.inp ∧ (State.advance s u).pairs = s.pairs ∧ (State.advance s u).power = s.power ∧ (State.advance s u).service = s.service ∧ (State.advance s u).epochAt = s.epochAt ∧ (State.advance s u).hostLost = s.hostLost ∧ (State.advance s u).graph = s.graph ∧ (State.advance s u).stay = s.stay := by
  unfold State.advance
  simp

@[simp] theorem State.lineSteps_keeps (s : State) (u : Unit3) (old new : Int) : (State.lineSteps s u old new).pending = s.pending ∧ (State.lineSteps s u old new).mem = s.mem ∧ (State.lineSteps s u old new).mz = s.mz ∧ (State.lineSteps s u old new).prog = s.prog ∧ (State.lineSteps s u old new).refit = s.refit ∧ (State.lineSteps s u old new).refitHeld = s.refitHeld ∧ (State.lineSteps s u old new).fw = s.fw ∧ (State.lineSteps s u old new).ses = s.ses ∧ (State.lineSteps s u old new).nets = s.nets ∧ (State.lineSteps s u old new).link = s.link ∧ (State.lineSteps s u old new).ptp = s.ptp ∧ (State.lineSteps s u old new).crcs = s.crcs ∧ (State.lineSteps s u old new).adcs = s.adcs ∧ (State.lineSteps s u old new).inp = s.inp ∧ (State.lineSteps s u old new).pairs = s.pairs ∧ (State.lineSteps s u old new).power = s.power ∧ (State.lineSteps s u old new).service = s.service ∧ (State.lineSteps s u old new).epochAt = s.epochAt ∧ (State.lineSteps s u old new).hostLost = s.hostLost ∧ (State.lineSteps s u old new).graph = s.graph ∧ (State.lineSteps s u old new).stay = s.stay := by
  unfold State.lineSteps
  simp

@[simp] theorem State.shiftSteps_keeps (s : State) (u : Unit3) (d : Int) : (State.shiftSteps s u d).pending = s.pending ∧ (State.shiftSteps s u d).mem = s.mem ∧ (State.shiftSteps s u d).mz = s.mz ∧ (State.shiftSteps s u d).prog = s.prog ∧ (State.shiftSteps s u d).refit = s.refit ∧ (State.shiftSteps s u d).refitHeld = s.refitHeld ∧ (State.shiftSteps s u d).fw = s.fw ∧ (State.shiftSteps s u d).ses = s.ses ∧ (State.shiftSteps s u d).nets = s.nets ∧ (State.shiftSteps s u d).link = s.link ∧ (State.shiftSteps s u d).ptp = s.ptp ∧ (State.shiftSteps s u d).crcs = s.crcs ∧ (State.shiftSteps s u d).adcs = s.adcs ∧ (State.shiftSteps s u d).inp = s.inp ∧ (State.shiftSteps s u d).pairs = s.pairs ∧ (State.shiftSteps s u d).power = s.power ∧ (State.shiftSteps s u d).service = s.service ∧ (State.shiftSteps s u d).epochAt = s.epochAt ∧ (State.shiftSteps s u d).hostLost = s.hostLost ∧ (State.shiftSteps s u d).graph = s.graph ∧ (State.shiftSteps s u d).stay = s.stay := by
  unfold State.shiftSteps
  simp

@[simp] theorem State.camCapture_keeps (s : State) (c : Chan) (t : Nat) : (State.camCapture s c t).pending = s.pending ∧ (State.camCapture s c t).mem = s.mem ∧ (State.camCapture s c t).mz = s.mz ∧ (State.camCapture s c t).prog = s.prog ∧ (State.camCapture s c t).refit = s.refit ∧ (State.camCapture s c t).refitHeld = s.refitHeld ∧ (State.camCapture s c t).fw = s.fw ∧ (State.camCapture s c t).ses = s.ses ∧ (State.camCapture s c t).nets = s.nets ∧ (State.camCapture s c t).link = s.link ∧ (State.camCapture s c t).ptp = s.ptp ∧ (State.camCapture s c t).crcs = s.crcs ∧ (State.camCapture s c t).adcs = s.adcs ∧ (State.camCapture s c t).inp = s.inp ∧ (State.camCapture s c t).pairs = s.pairs ∧ (State.camCapture s c t).power = s.power ∧ (State.camCapture s c t).service = s.service ∧ (State.camCapture s c t).epochAt = s.epochAt ∧ (State.camCapture s c t).hostLost = s.hostLost ∧ (State.camCapture s c t).graph = s.graph ∧ (State.camCapture s c t).stay = s.stay := by
  unfold State.camCapture
  simp

@[simp] theorem State.makeUp_keeps (s : State) (u : Unit3) (p : Nat) : (State.makeUp s u p).pending = s.pending ∧ (State.makeUp s u p).mem = s.mem ∧ (State.makeUp s u p).mz = s.mz ∧ (State.makeUp s u p).prog = s.prog ∧ (State.makeUp s u p).refit = s.refit ∧ (State.makeUp s u p).refitHeld = s.refitHeld ∧ (State.makeUp s u p).fw = s.fw ∧ (State.makeUp s u p).ses = s.ses ∧ (State.makeUp s u p).nets = s.nets ∧ (State.makeUp s u p).link = s.link ∧ (State.makeUp s u p).ptp = s.ptp ∧ (State.makeUp s u p).crcs = s.crcs ∧ (State.makeUp s u p).adcs = s.adcs ∧ (State.makeUp s u p).inp = s.inp ∧ (State.makeUp s u p).pairs = s.pairs ∧ (State.makeUp s u p).power = s.power ∧ (State.makeUp s u p).service = s.service ∧ (State.makeUp s u p).epochAt = s.epochAt ∧ (State.makeUp s u p).hostLost = s.hostLost ∧ (State.makeUp s u p).graph = s.graph ∧ (State.makeUp s u p).stay = s.stay := by
  unfold State.makeUp
  simp

@[simp] theorem State.updHly_view (s : State) (f : HlySt → HlySt) : (State.updHly s f).view = s.view := by
  unfold State.updHly
  simp

@[simp] theorem State.updHly_keeps (s : State) (f : HlySt → HlySt) : State.Same (State.updHly s f) s :=
  State.keeps_of_view (State.updHly_view s f)

@[simp] theorem State.updRing_view (s : State) (n : Nat) (f : RingSt → RingSt) : (State.updRing s n f).view = s.view := by
  unfold State.updRing
  simp

@[simp] theorem State.updRing_keeps (s : State) (n : Nat) (f : RingSt → RingSt) : State.Same (State.updRing s n f) s :=
  State.keeps_of_view (State.updRing_view s n f)

@[simp] theorem State.hlyEvent_view (s : State) (kind x y : Nat) : (State.hlyEvent s kind x y).view = s.view := by
  unfold State.hlyEvent
  simp

@[simp] theorem State.hlyEvent_keeps (s : State) (kind x y : Nat) : State.Same (State.hlyEvent s kind x y) s :=
  State.keeps_of_view (State.hlyEvent_view s kind x y)

@[simp] theorem State.dmaErr_view (s : State) : (State.dmaErr s).view = s.view := by
  unfold State.dmaErr
  simp

@[simp] theorem State.dmaErr_keeps (s : State) : State.Same (State.dmaErr s) s :=
  State.keeps_of_view (State.dmaErr_view s)

@[simp] theorem State.ringError_view (s : State) (n cause : Nat) : (State.ringError s n cause).view = s.view := by
  unfold State.ringError
  simp

@[simp] theorem State.ringError_keeps (s : State) (n cause : Nat) : State.Same (State.ringError s n cause) s :=
  State.keeps_of_view (State.ringError_view s n cause)

@[simp] theorem State.updVec_view (s : State) (v : Nat) (f : VecSt → VecSt) : (State.updVec s v f).view = s.view := by
  unfold State.updVec
  simp

@[simp] theorem State.updVec_keeps (s : State) (v : Nat) (f : VecSt → VecSt) : State.Same (State.updVec s v f) s :=
  State.keeps_of_view (State.updVec_view s v f)

@[simp] theorem State.sendVector_view (s : State) (v : Nat) : (State.sendVector s v).view = s.view := by
  unfold State.sendVector
  simp

@[simp] theorem State.sendVector_keeps (s : State) (v : Nat) : State.Same (State.sendVector s v) s :=
  State.keeps_of_view (State.sendVector_view s v)

@[simp] theorem State.raiseRing_view (s : State) (n : Nat) : (State.raiseRing s n).view = s.view := by
  unfold State.raiseRing
  ((try dsimp only); repeat' (first | (simp; done) | split))

@[simp] theorem State.raiseRing_keeps (s : State) (n : Nat) : State.Same (State.raiseRing s n) s :=
  State.keeps_of_view (State.raiseRing_view s n)

@[simp] theorem State.showTimes_view (s : State) : (State.showTimes s).view = s.view := by
  unfold State.showTimes
  ((try dsimp only); repeat' (first | (simp; done) | split))

@[simp] theorem State.showTimes_keeps (s : State) : State.Same (State.showTimes s) s :=
  State.keeps_of_view (State.showTimes_view s)

@[simp] theorem State.cmdDone_view (s : State) (d : Done) (irq doneOk : Bool) : (State.cmdDone s d irq doneOk).view = s.view := by
  unfold State.cmdDone
  simp

@[simp] theorem State.cmdDone_keeps (s : State) (d : Done) (irq doneOk : Bool) : State.Same (State.cmdDone s d irq doneOk) s :=
  State.keeps_of_view (State.cmdDone_view s d irq doneOk)

@[simp] theorem State.runOn_view (s : State) (r : Running) : (State.runOn s r).view = s.view := by
  unfold State.runOn
  simp

@[simp] theorem State.runOn_keeps (s : State) (r : Running) : State.Same (State.runOn s r) s :=
  State.keeps_of_view (State.runOn_view s r)

@[simp] theorem State.endExclusive_view (s : State) (op status result : Nat) : (State.endExclusive s op status result).view = s.view := by
  unfold State.endExclusive
  ((try dsimp only); repeat' (first | (simp; done) | split))

@[simp] theorem State.endExclusive_keeps (s : State) (op status result : Nat) : State.Same (State.endExclusive s op status result) s :=
  State.keeps_of_view (State.endExclusive_view s op status result)

@[simp] theorem State.updMz_keeps (s : State) (f : MzSt → MzSt) : (State.updMz s f).pending = s.pending ∧ (State.updMz s f).mem = s.mem ∧ (State.updMz s f).prog = s.prog ∧ (State.updMz s f).refit = s.refit ∧ (State.updMz s f).refitHeld = s.refitHeld ∧ (State.updMz s f).fw = s.fw ∧ (State.updMz s f).ses = s.ses ∧ (State.updMz s f).nets = s.nets ∧ (State.updMz s f).link = s.link ∧ (State.updMz s f).ptp = s.ptp ∧ (State.updMz s f).tims = s.tims ∧ (State.updMz s f).crcs = s.crcs ∧ (State.updMz s f).adcs = s.adcs ∧ (State.updMz s f).inp = s.inp ∧ (State.updMz s f).pairs = s.pairs ∧ (State.updMz s f).power = s.power ∧ (State.updMz s f).service = s.service ∧ (State.updMz s f).epochAt = s.epochAt ∧ (State.updMz s f).hostLost = s.hostLost ∧ (State.updMz s f).graph = s.graph ∧ (State.updMz s f).stay = s.stay := by
  unfold State.updMz
  simp

@[simp] theorem State.mzResp_view (s : State) (cmd result : Nat) : (State.mzResp s cmd result).view = s.view := by
  unfold State.mzResp
  simp

@[simp] theorem State.mzResp_keeps (s : State) (cmd result : Nat) : State.Same (State.mzResp s cmd result) s :=
  State.keeps_of_view (State.mzResp_view s cmd result)

@[simp] theorem State.mzSend_keeps (s : State) (cmd arg : Nat) : (State.mzSend s cmd arg).pending = s.pending ∧ (State.mzSend s cmd arg).mem = s.mem ∧ (State.mzSend s cmd arg).prog = s.prog ∧ (State.mzSend s cmd arg).refit = s.refit ∧ (State.mzSend s cmd arg).refitHeld = s.refitHeld ∧ (State.mzSend s cmd arg).fw = s.fw ∧ (State.mzSend s cmd arg).ses = s.ses ∧ (State.mzSend s cmd arg).nets = s.nets ∧ (State.mzSend s cmd arg).link = s.link ∧ (State.mzSend s cmd arg).ptp = s.ptp ∧ (State.mzSend s cmd arg).tims = s.tims ∧ (State.mzSend s cmd arg).crcs = s.crcs ∧ (State.mzSend s cmd arg).adcs = s.adcs ∧ (State.mzSend s cmd arg).inp = s.inp ∧ (State.mzSend s cmd arg).pairs = s.pairs ∧ (State.mzSend s cmd arg).power = s.power ∧ (State.mzSend s cmd arg).service = s.service ∧ (State.mzSend s cmd arg).epochAt = s.epochAt ∧ (State.mzSend s cmd arg).hostLost = s.hostLost ∧ (State.mzSend s cmd arg).graph = s.graph ∧ (State.mzSend s cmd arg).stay = s.stay := by
  unfold State.mzSend
  simp

@[simp] theorem State.mzWriteCmd_keeps (s : State) (cmd : Nat) : (State.mzWriteCmd s cmd).pending = s.pending ∧ (State.mzWriteCmd s cmd).mem = s.mem ∧ (State.mzWriteCmd s cmd).prog = s.prog ∧ (State.mzWriteCmd s cmd).refit = s.refit ∧ (State.mzWriteCmd s cmd).refitHeld = s.refitHeld ∧ (State.mzWriteCmd s cmd).fw = s.fw ∧ (State.mzWriteCmd s cmd).ses = s.ses ∧ (State.mzWriteCmd s cmd).nets = s.nets ∧ (State.mzWriteCmd s cmd).link = s.link ∧ (State.mzWriteCmd s cmd).ptp = s.ptp ∧ (State.mzWriteCmd s cmd).tims = s.tims ∧ (State.mzWriteCmd s cmd).crcs = s.crcs ∧ (State.mzWriteCmd s cmd).adcs = s.adcs ∧ (State.mzWriteCmd s cmd).inp = s.inp ∧ (State.mzWriteCmd s cmd).pairs = s.pairs ∧ (State.mzWriteCmd s cmd).power = s.power ∧ (State.mzWriteCmd s cmd).service = s.service ∧ (State.mzWriteCmd s cmd).epochAt = s.epochAt ∧ (State.mzWriteCmd s cmd).hostLost = s.hostLost ∧ (State.mzWriteCmd s cmd).graph = s.graph ∧ (State.mzWriteCmd s cmd).stay = s.stay := by
  unfold State.mzWriteCmd
  simp

@[simp] theorem State.mzWriteArg_keeps (s : State) (v : Nat) : (State.mzWriteArg s v).pending = s.pending ∧ (State.mzWriteArg s v).mem = s.mem ∧ (State.mzWriteArg s v).prog = s.prog ∧ (State.mzWriteArg s v).refit = s.refit ∧ (State.mzWriteArg s v).refitHeld = s.refitHeld ∧ (State.mzWriteArg s v).fw = s.fw ∧ (State.mzWriteArg s v).ses = s.ses ∧ (State.mzWriteArg s v).nets = s.nets ∧ (State.mzWriteArg s v).link = s.link ∧ (State.mzWriteArg s v).ptp = s.ptp ∧ (State.mzWriteArg s v).tims = s.tims ∧ (State.mzWriteArg s v).crcs = s.crcs ∧ (State.mzWriteArg s v).adcs = s.adcs ∧ (State.mzWriteArg s v).inp = s.inp ∧ (State.mzWriteArg s v).pairs = s.pairs ∧ (State.mzWriteArg s v).power = s.power ∧ (State.mzWriteArg s v).service = s.service ∧ (State.mzWriteArg s v).epochAt = s.epochAt ∧ (State.mzWriteArg s v).hostLost = s.hostLost ∧ (State.mzWriteArg s v).graph = s.graph ∧ (State.mzWriteArg s v).stay = s.stay := by
  unfold State.mzWriteArg
  simp

@[simp] theorem State.mzEvent_keeps (s : State) (e : MzEvent) : (State.mzEvent s e).pending = s.pending ∧ (State.mzEvent s e).mem = s.mem ∧ (State.mzEvent s e).prog = s.prog ∧ (State.mzEvent s e).refit = s.refit ∧ (State.mzEvent s e).refitHeld = s.refitHeld ∧ (State.mzEvent s e).fw = s.fw ∧ (State.mzEvent s e).ses = s.ses ∧ (State.mzEvent s e).nets = s.nets ∧ (State.mzEvent s e).link = s.link ∧ (State.mzEvent s e).ptp = s.ptp ∧ (State.mzEvent s e).tims = s.tims ∧ (State.mzEvent s e).crcs = s.crcs ∧ (State.mzEvent s e).adcs = s.adcs ∧ (State.mzEvent s e).inp = s.inp ∧ (State.mzEvent s e).pairs = s.pairs ∧ (State.mzEvent s e).power = s.power ∧ (State.mzEvent s e).service = s.service ∧ (State.mzEvent s e).epochAt = s.epochAt ∧ (State.mzEvent s e).hostLost = s.hostLost ∧ (State.mzEvent s e).graph = s.graph ∧ (State.mzEvent s e).stay = s.stay := by
  unfold State.mzEvent
  simp

@[simp] theorem State.mzAudit_keeps (s : State) (c : MzChange) : (State.mzAudit s c).pending = s.pending ∧ (State.mzAudit s c).mem = s.mem ∧ (State.mzAudit s c).prog = s.prog ∧ (State.mzAudit s c).refit = s.refit ∧ (State.mzAudit s c).refitHeld = s.refitHeld ∧ (State.mzAudit s c).fw = s.fw ∧ (State.mzAudit s c).ses = s.ses ∧ (State.mzAudit s c).nets = s.nets ∧ (State.mzAudit s c).link = s.link ∧ (State.mzAudit s c).ptp = s.ptp ∧ (State.mzAudit s c).tims = s.tims ∧ (State.mzAudit s c).crcs = s.crcs ∧ (State.mzAudit s c).adcs = s.adcs ∧ (State.mzAudit s c).inp = s.inp ∧ (State.mzAudit s c).pairs = s.pairs ∧ (State.mzAudit s c).power = s.power ∧ (State.mzAudit s c).service = s.service ∧ (State.mzAudit s c).epochAt = s.epochAt ∧ (State.mzAudit s c).hostLost = s.hostLost ∧ (State.mzAudit s c).graph = s.graph ∧ (State.mzAudit s c).stay = s.stay := by
  unfold State.mzAudit
  simp

@[simp] theorem State.mzFlag_keeps (s : State) (f : LotFlags → LotFlags) : (State.mzFlag s f).pending = s.pending ∧ (State.mzFlag s f).mem = s.mem ∧ (State.mzFlag s f).prog = s.prog ∧ (State.mzFlag s f).refit = s.refit ∧ (State.mzFlag s f).refitHeld = s.refitHeld ∧ (State.mzFlag s f).fw = s.fw ∧ (State.mzFlag s f).ses = s.ses ∧ (State.mzFlag s f).nets = s.nets ∧ (State.mzFlag s f).link = s.link ∧ (State.mzFlag s f).ptp = s.ptp ∧ (State.mzFlag s f).tims = s.tims ∧ (State.mzFlag s f).crcs = s.crcs ∧ (State.mzFlag s f).adcs = s.adcs ∧ (State.mzFlag s f).inp = s.inp ∧ (State.mzFlag s f).pairs = s.pairs ∧ (State.mzFlag s f).power = s.power ∧ (State.mzFlag s f).service = s.service ∧ (State.mzFlag s f).epochAt = s.epochAt ∧ (State.mzFlag s f).hostLost = s.hostLost ∧ (State.mzFlag s f).graph = s.graph ∧ (State.mzFlag s f).stay = s.stay := by
  unfold State.mzFlag
  simp

@[simp] theorem State.mzCommit_keeps (s : State) : (State.mzCommit s).pending = s.pending ∧ (State.mzCommit s).mem = s.mem ∧ (State.mzCommit s).prog = s.prog ∧ (State.mzCommit s).refit = s.refit ∧ (State.mzCommit s).refitHeld = s.refitHeld ∧ (State.mzCommit s).fw = s.fw ∧ (State.mzCommit s).ses = s.ses ∧ (State.mzCommit s).nets = s.nets ∧ (State.mzCommit s).link = s.link ∧ (State.mzCommit s).ptp = s.ptp ∧ (State.mzCommit s).tims = s.tims ∧ (State.mzCommit s).crcs = s.crcs ∧ (State.mzCommit s).adcs = s.adcs ∧ (State.mzCommit s).inp = s.inp ∧ (State.mzCommit s).pairs = s.pairs ∧ (State.mzCommit s).power = s.power ∧ (State.mzCommit s).service = s.service ∧ (State.mzCommit s).epochAt = s.epochAt ∧ (State.mzCommit s).hostLost = s.hostLost ∧ (State.mzCommit s).graph = s.graph ∧ (State.mzCommit s).stay = s.stay := by
  unfold State.mzCommit
  simp

@[simp] theorem State.openLot_keeps (s : State) (ident : Nat) : (State.openLot s ident).pending = s.pending ∧ (State.openLot s ident).mem = s.mem ∧ (State.openLot s ident).prog = s.prog ∧ (State.openLot s ident).refit = s.refit ∧ (State.openLot s ident).refitHeld = s.refitHeld ∧ (State.openLot s ident).fw = s.fw ∧ (State.openLot s ident).ses = s.ses ∧ (State.openLot s ident).nets = s.nets ∧ (State.openLot s ident).link = s.link ∧ (State.openLot s ident).ptp = s.ptp ∧ (State.openLot s ident).tims = s.tims ∧ (State.openLot s ident).crcs = s.crcs ∧ (State.openLot s ident).adcs = s.adcs ∧ (State.openLot s ident).inp = s.inp ∧ (State.openLot s ident).pairs = s.pairs ∧ (State.openLot s ident).power = s.power ∧ (State.openLot s ident).service = s.service ∧ (State.openLot s ident).epochAt = s.epochAt ∧ (State.openLot s ident).hostLost = s.hostLost ∧ (State.openLot s ident).graph = s.graph ∧ (State.openLot s ident).stay = s.stay := by
  unfold State.openLot
  simp

@[simp] theorem State.closeLot_keeps (s : State) : (State.closeLot s).pending = s.pending ∧ (State.closeLot s).mem = s.mem ∧ (State.closeLot s).prog = s.prog ∧ (State.closeLot s).refit = s.refit ∧ (State.closeLot s).refitHeld = s.refitHeld ∧ (State.closeLot s).fw = s.fw ∧ (State.closeLot s).ses = s.ses ∧ (State.closeLot s).nets = s.nets ∧ (State.closeLot s).link = s.link ∧ (State.closeLot s).ptp = s.ptp ∧ (State.closeLot s).tims = s.tims ∧ (State.closeLot s).crcs = s.crcs ∧ (State.closeLot s).adcs = s.adcs ∧ (State.closeLot s).inp = s.inp ∧ (State.closeLot s).pairs = s.pairs ∧ (State.closeLot s).power = s.power ∧ (State.closeLot s).service = s.service ∧ (State.closeLot s).epochAt = s.epochAt ∧ (State.closeLot s).hostLost = s.hostLost ∧ (State.closeLot s).graph = s.graph ∧ (State.closeLot s).stay = s.stay := by
  unfold State.closeLot
  ((try dsimp only); repeat' (first | (simp; done) | split))

@[simp] theorem State.clearMirror_keeps (s : State) : (State.clearMirror s).pending = s.pending ∧ (State.clearMirror s).mem = s.mem ∧ (State.clearMirror s).prog = s.prog ∧ (State.clearMirror s).refit = s.refit ∧ (State.clearMirror s).refitHeld = s.refitHeld ∧ (State.clearMirror s).fw = s.fw ∧ (State.clearMirror s).ses = s.ses ∧ (State.clearMirror s).nets = s.nets ∧ (State.clearMirror s).link = s.link ∧ (State.clearMirror s).ptp = s.ptp ∧ (State.clearMirror s).tims = s.tims ∧ (State.clearMirror s).crcs = s.crcs ∧ (State.clearMirror s).adcs = s.adcs ∧ (State.clearMirror s).inp = s.inp ∧ (State.clearMirror s).pairs = s.pairs ∧ (State.clearMirror s).power = s.power ∧ (State.clearMirror s).service = s.service ∧ (State.clearMirror s).epochAt = s.epochAt ∧ (State.clearMirror s).hostLost = s.hostLost ∧ (State.clearMirror s).graph = s.graph ∧ (State.clearMirror s).stay = s.stay := by
  unfold State.clearMirror
  simp

@[simp] theorem State.deny_view (s : State) (i : Initiator) (a : Nat) : (State.deny s i a).view = s.view := by
  unfold State.deny
  ((try dsimp only); repeat' (first | (simp; done) | split))

@[simp] theorem State.deny_keeps (s : State) (i : Initiator) (a : Nat) : State.Same (State.deny s i a) s :=
  State.keeps_of_view (State.deny_view s i a)

@[simp] theorem State.take_view (s : State) (i : Initiator) (m : LatchMap) : (State.take s i m).view = s.view := by
  unfold State.take
  simp

@[simp] theorem State.take_keeps (s : State) (i : Initiator) (m : LatchMap) : State.Same (State.take s i m) s :=
  State.keeps_of_view (State.take_view s i m)

@[simp] theorem State.clearRc_view (s : State) (a : Nat) (d : RegDesc) : (State.clearRc s a d).view = s.view := by
  unfold State.clearRc
  simp

@[simp] theorem State.clearRc_keeps (s : State) (a : Nat) (d : RegDesc) : State.Same (State.clearRc s a d) s :=
  State.keeps_of_view (State.clearRc_view s a d)

@[simp] theorem State.readCap_view (s : State) (b : Block) (base off : Nat) : (State.readCap s b base off).view = s.view := by
  unfold State.readCap
  ((try dsimp only); repeat' (first | (simp; done) | split))

@[simp] theorem State.readCap_keeps (s : State) (b : Block) (base off : Nat) : State.Same (State.readCap s b base off) s :=
  State.keeps_of_view (State.readCap_view s b base off)

@[simp] theorem State.catchUp_keeps (s : State) (b : Block) (base : Nat) : (State.catchUp s b base).pending = s.pending ∧ (State.catchUp s b base).mem = s.mem ∧ (State.catchUp s b base).mz = s.mz ∧ (State.catchUp s b base).prog = s.prog ∧ (State.catchUp s b base).refit = s.refit ∧ (State.catchUp s b base).refitHeld = s.refitHeld ∧ (State.catchUp s b base).fw = s.fw ∧ (State.catchUp s b base).ses = s.ses ∧ (State.catchUp s b base).nets = s.nets ∧ (State.catchUp s b base).link = s.link ∧ (State.catchUp s b base).ptp = s.ptp ∧ (State.catchUp s b base).crcs = s.crcs ∧ (State.catchUp s b base).adcs = s.adcs ∧ (State.catchUp s b base).inp = s.inp ∧ (State.catchUp s b base).pairs = s.pairs ∧ (State.catchUp s b base).power = s.power ∧ (State.catchUp s b base).service = s.service ∧ (State.catchUp s b base).epochAt = s.epochAt ∧ (State.catchUp s b base).hostLost = s.hostLost ∧ (State.catchUp s b base).graph = s.graph ∧ (State.catchUp s b base).stay = s.stay := by
  unfold State.catchUp
  ((try dsimp only); repeat' (first | (simp; done) | split))

@[simp] theorem State.readAt_keeps (s : State) (i : Initiator) (clear : Bool) (b : Block) (base a : Nat) : ((State.readAt s i clear b base a).1).pending = s.pending ∧ ((State.readAt s i clear b base a).1).mem = s.mem ∧ ((State.readAt s i clear b base a).1).mz = s.mz ∧ ((State.readAt s i clear b base a).1).prog = s.prog ∧ ((State.readAt s i clear b base a).1).refit = s.refit ∧ ((State.readAt s i clear b base a).1).refitHeld = s.refitHeld ∧ ((State.readAt s i clear b base a).1).fw = s.fw ∧ ((State.readAt s i clear b base a).1).ses = s.ses ∧ ((State.readAt s i clear b base a).1).nets = s.nets ∧ ((State.readAt s i clear b base a).1).link = s.link ∧ ((State.readAt s i clear b base a).1).ptp = s.ptp ∧ ((State.readAt s i clear b base a).1).crcs = s.crcs ∧ ((State.readAt s i clear b base a).1).adcs = s.adcs ∧ ((State.readAt s i clear b base a).1).inp = s.inp ∧ ((State.readAt s i clear b base a).1).pairs = s.pairs ∧ ((State.readAt s i clear b base a).1).power = s.power ∧ ((State.readAt s i clear b base a).1).service = s.service ∧ ((State.readAt s i clear b base a).1).epochAt = s.epochAt ∧ ((State.readAt s i clear b base a).1).hostLost = s.hostLost ∧ ((State.readAt s i clear b base a).1).graph = s.graph ∧ ((State.readAt s i clear b base a).1).stay = s.stay := by
  unfold State.readAt
  ((try dsimp only); repeat' (first | (simp; done) | split))

@[simp] theorem State.readWord_keeps (s : State) (i : Initiator) (clear : Bool) (a : Nat) : ((State.readWord s i clear a).1).pending = s.pending ∧ ((State.readWord s i clear a).1).mem = s.mem ∧ ((State.readWord s i clear a).1).mz = s.mz ∧ ((State.readWord s i clear a).1).prog = s.prog ∧ ((State.readWord s i clear a).1).refit = s.refit ∧ ((State.readWord s i clear a).1).refitHeld = s.refitHeld ∧ ((State.readWord s i clear a).1).fw = s.fw ∧ ((State.readWord s i clear a).1).ses = s.ses ∧ ((State.readWord s i clear a).1).nets = s.nets ∧ ((State.readWord s i clear a).1).link = s.link ∧ ((State.readWord s i clear a).1).ptp = s.ptp ∧ ((State.readWord s i clear a).1).crcs = s.crcs ∧ ((State.readWord s i clear a).1).adcs = s.adcs ∧ ((State.readWord s i clear a).1).inp = s.inp ∧ ((State.readWord s i clear a).1).pairs = s.pairs ∧ ((State.readWord s i clear a).1).power = s.power ∧ ((State.readWord s i clear a).1).service = s.service ∧ ((State.readWord s i clear a).1).epochAt = s.epochAt ∧ ((State.readWord s i clear a).1).hostLost = s.hostLost ∧ ((State.readWord s i clear a).1).graph = s.graph ∧ ((State.readWord s i clear a).1).stay = s.stay := by
  unfold State.readWord
  ((try dsimp only); repeat' (first | (simp; done) | split))

@[simp] theorem State.busRead_keeps (s : State) (i : Initiator) (a : Nat) : (State.busRead s i a).pending = s.pending ∧ (State.busRead s i a).mem = s.mem ∧ (State.busRead s i a).mz = s.mz ∧ (State.busRead s i a).prog = s.prog ∧ (State.busRead s i a).refit = s.refit ∧ (State.busRead s i a).refitHeld = s.refitHeld ∧ (State.busRead s i a).fw = s.fw ∧ (State.busRead s i a).ses = s.ses ∧ (State.busRead s i a).nets = s.nets ∧ (State.busRead s i a).link = s.link ∧ (State.busRead s i a).ptp = s.ptp ∧ (State.busRead s i a).crcs = s.crcs ∧ (State.busRead s i a).adcs = s.adcs ∧ (State.busRead s i a).inp = s.inp ∧ (State.busRead s i a).pairs = s.pairs ∧ (State.busRead s i a).power = s.power ∧ (State.busRead s i a).service = s.service ∧ (State.busRead s i a).epochAt = s.epochAt ∧ (State.busRead s i a).hostLost = s.hostLost ∧ (State.busRead s i a).graph = s.graph ∧ (State.busRead s i a).stay = s.stay := by
  unfold State.busRead
  simp

@[simp] theorem State.writeAt_keeps (s : State) (i : Initiator) (b : Block) (base a v : Nat) : (State.writeAt s i b base a v).pending = s.pending ∧ (State.writeAt s i b base a v).mem = s.mem ∧ (State.writeAt s i b base a v).prog = s.prog ∧ (State.writeAt s i b base a v).refit = s.refit ∧ (State.writeAt s i b base a v).refitHeld = s.refitHeld ∧ (State.writeAt s i b base a v).fw = s.fw ∧ (State.writeAt s i b base a v).ses = s.ses ∧ (State.writeAt s i b base a v).nets = s.nets ∧ (State.writeAt s i b base a v).link = s.link ∧ (State.writeAt s i b base a v).ptp = s.ptp ∧ (State.writeAt s i b base a v).crcs = s.crcs ∧ (State.writeAt s i b base a v).adcs = s.adcs ∧ (State.writeAt s i b base a v).inp = s.inp ∧ (State.writeAt s i b base a v).pairs = s.pairs ∧ (State.writeAt s i b base a v).power = s.power ∧ (State.writeAt s i b base a v).service = s.service ∧ (State.writeAt s i b base a v).epochAt = s.epochAt ∧ (State.writeAt s i b base a v).hostLost = s.hostLost ∧ (State.writeAt s i b base a v).graph = s.graph ∧ (State.writeAt s i b base a v).stay = s.stay := by
  unfold State.writeAt
  ((try dsimp only); repeat' (first | (simp; done) | split))

@[simp] theorem State.busWrite_keeps (s : State) (i : Initiator) (width : Width) (a v : Nat) : (State.busWrite s i width a v).pending = s.pending ∧ (State.busWrite s i width a v).prog = s.prog ∧ (State.busWrite s i width a v).refit = s.refit ∧ (State.busWrite s i width a v).refitHeld = s.refitHeld ∧ (State.busWrite s i width a v).fw = s.fw ∧ (State.busWrite s i width a v).ses = s.ses ∧ (State.busWrite s i width a v).nets = s.nets ∧ (State.busWrite s i width a v).link = s.link ∧ (State.busWrite s i width a v).ptp = s.ptp ∧ (State.busWrite s i width a v).crcs = s.crcs ∧ (State.busWrite s i width a v).adcs = s.adcs ∧ (State.busWrite s i width a v).inp = s.inp ∧ (State.busWrite s i width a v).pairs = s.pairs ∧ (State.busWrite s i width a v).power = s.power ∧ (State.busWrite s i width a v).service = s.service ∧ (State.busWrite s i width a v).epochAt = s.epochAt ∧ (State.busWrite s i width a v).hostLost = s.hostLost ∧ (State.busWrite s i width a v).graph = s.graph ∧ (State.busWrite s i width a v).stay = s.stay := by
  unfold State.busWrite
  ((try dsimp only); repeat' (first | (simp; done) | split))

@[simp] theorem State.hostDenied_view (s : State) (off : Nat) : (State.hostDenied s off).view = s.view := by
  unfold State.hostDenied
  simp

@[simp] theorem State.hostDenied_keeps (s : State) (off : Nat) : State.Same (State.hostDenied s off) s :=
  State.keeps_of_view (State.hostDenied_view s off)

@[simp] theorem State.hostWrite_keeps (s : State) (off v : Nat) : (State.hostWrite s off v).pending = s.pending ∧ (State.hostWrite s off v).prog = s.prog ∧ (State.hostWrite s off v).refit = s.refit ∧ (State.hostWrite s off v).refitHeld = s.refitHeld ∧ (State.hostWrite s off v).fw = s.fw ∧ (State.hostWrite s off v).ses = s.ses ∧ (State.hostWrite s off v).nets = s.nets ∧ (State.hostWrite s off v).link = s.link ∧ (State.hostWrite s off v).ptp = s.ptp ∧ (State.hostWrite s off v).crcs = s.crcs ∧ (State.hostWrite s off v).adcs = s.adcs ∧ (State.hostWrite s off v).inp = s.inp ∧ (State.hostWrite s off v).pairs = s.pairs ∧ (State.hostWrite s off v).power = s.power ∧ (State.hostWrite s off v).service = s.service ∧ (State.hostWrite s off v).epochAt = s.epochAt ∧ (State.hostWrite s off v).hostLost = s.hostLost ∧ (State.hostWrite s off v).graph = s.graph ∧ (State.hostWrite s off v).stay = s.stay := by
  unfold State.hostWrite
  ((try dsimp only); repeat' (first | (simp; done) | split))

@[simp] theorem State.updStay_keeps (s : State) (c : Chan) (f : StaySt → StaySt) : (State.updStay s c f).pending = s.pending ∧ (State.updStay s c f).mem = s.mem ∧ (State.updStay s c f).mz = s.mz ∧ (State.updStay s c f).prog = s.prog ∧ (State.updStay s c f).refit = s.refit ∧ (State.updStay s c f).refitHeld = s.refitHeld ∧ (State.updStay s c f).fw = s.fw ∧ (State.updStay s c f).ses = s.ses ∧ (State.updStay s c f).nets = s.nets ∧ (State.updStay s c f).link = s.link ∧ (State.updStay s c f).ptp = s.ptp ∧ (State.updStay s c f).tims = s.tims ∧ (State.updStay s c f).crcs = s.crcs ∧ (State.updStay s c f).adcs = s.adcs ∧ (State.updStay s c f).inp = s.inp ∧ (State.updStay s c f).pairs = s.pairs ∧ (State.updStay s c f).power = s.power ∧ (State.updStay s c f).service = s.service ∧ (State.updStay s c f).epochAt = s.epochAt ∧ (State.updStay s c f).hostLost = s.hostLost ∧ (State.updStay s c f).graph = s.graph := by
  unfold State.updStay
  simp

@[simp] theorem State.latchUnattributed_keeps (s : State) (line detail : Nat) : (State.latchUnattributed s line detail).pending = s.pending ∧ (State.latchUnattributed s line detail).mem = s.mem ∧ (State.latchUnattributed s line detail).mz = s.mz ∧ (State.latchUnattributed s line detail).prog = s.prog ∧ (State.latchUnattributed s line detail).refit = s.refit ∧ (State.latchUnattributed s line detail).refitHeld = s.refitHeld ∧ (State.latchUnattributed s line detail).fw = s.fw ∧ (State.latchUnattributed s line detail).ses = s.ses ∧ (State.latchUnattributed s line detail).nets = s.nets ∧ (State.latchUnattributed s line detail).link = s.link ∧ (State.latchUnattributed s line detail).ptp = s.ptp ∧ (State.latchUnattributed s line detail).tims = s.tims ∧ (State.latchUnattributed s line detail).crcs = s.crcs ∧ (State.latchUnattributed s line detail).adcs = s.adcs ∧ (State.latchUnattributed s line detail).inp = s.inp ∧ (State.latchUnattributed s line detail).pairs = s.pairs ∧ (State.latchUnattributed s line detail).power = s.power ∧ (State.latchUnattributed s line detail).service = s.service ∧ (State.latchUnattributed s line detail).epochAt = s.epochAt ∧ (State.latchUnattributed s line detail).hostLost = s.hostLost := by
  unfold State.latchUnattributed
  simp

@[simp] theorem State.stayFault_keeps (s : State) (c : Chan) (typ kind : Nat) : (State.stayFault s c typ kind).pending = s.pending ∧ (State.stayFault s c typ kind).mem = s.mem ∧ (State.stayFault s c typ kind).mz = s.mz ∧ (State.stayFault s c typ kind).prog = s.prog ∧ (State.stayFault s c typ kind).refit = s.refit ∧ (State.stayFault s c typ kind).refitHeld = s.refitHeld ∧ (State.stayFault s c typ kind).fw = s.fw ∧ (State.stayFault s c typ kind).ses = s.ses ∧ (State.stayFault s c typ kind).nets = s.nets ∧ (State.stayFault s c typ kind).link = s.link ∧ (State.stayFault s c typ kind).ptp = s.ptp ∧ (State.stayFault s c typ kind).tims = s.tims ∧ (State.stayFault s c typ kind).crcs = s.crcs ∧ (State.stayFault s c typ kind).adcs = s.adcs ∧ (State.stayFault s c typ kind).inp = s.inp ∧ (State.stayFault s c typ kind).pairs = s.pairs ∧ (State.stayFault s c typ kind).power = s.power ∧ (State.stayFault s c typ kind).service = s.service ∧ (State.stayFault s c typ kind).epochAt = s.epochAt ∧ (State.stayFault s c typ kind).hostLost = s.hostLost := by
  unfold State.stayFault
  simp

@[simp] theorem State.receive_pending (s : State) (c : Chan) (l : Lane) (h0 : StayHead) (d : Bool) (f : State → State) (h : ∀ x, (f x).pending = x.pending) : (s.receive c l h0 d f).pending = s.pending := by
  unfold State.receive
  simp [h]

@[simp] theorem State.receive_mem (s : State) (c : Chan) (l : Lane) (h0 : StayHead) (d : Bool) (f : State → State) (h : ∀ x, (f x).mem = x.mem) : (s.receive c l h0 d f).mem = s.mem := by
  unfold State.receive
  simp [h]

@[simp] theorem State.receive_mz (s : State) (c : Chan) (l : Lane) (h0 : StayHead) (d : Bool) (f : State → State) (h : ∀ x, (f x).mz = x.mz) : (s.receive c l h0 d f).mz = s.mz := by
  unfold State.receive
  simp [h]

@[simp] theorem State.receive_prog (s : State) (c : Chan) (l : Lane) (h0 : StayHead) (d : Bool) (f : State → State) (h : ∀ x, (f x).prog = x.prog) : (s.receive c l h0 d f).prog = s.prog := by
  unfold State.receive
  simp [h]

@[simp] theorem State.receive_refit (s : State) (c : Chan) (l : Lane) (h0 : StayHead) (d : Bool) (f : State → State) (h : ∀ x, (f x).refit = x.refit) : (s.receive c l h0 d f).refit = s.refit := by
  unfold State.receive
  simp [h]

@[simp] theorem State.receive_refitHeld (s : State) (c : Chan) (l : Lane) (h0 : StayHead) (d : Bool) (f : State → State) (h : ∀ x, (f x).refitHeld = x.refitHeld) : (s.receive c l h0 d f).refitHeld = s.refitHeld := by
  unfold State.receive
  simp [h]

@[simp] theorem State.receive_fw (s : State) (c : Chan) (l : Lane) (h0 : StayHead) (d : Bool) (f : State → State) (h : ∀ x, (f x).fw = x.fw) : (s.receive c l h0 d f).fw = s.fw := by
  unfold State.receive
  simp [h]

@[simp] theorem State.receive_ses (s : State) (c : Chan) (l : Lane) (h0 : StayHead) (d : Bool) (f : State → State) (h : ∀ x, (f x).ses = x.ses) : (s.receive c l h0 d f).ses = s.ses := by
  unfold State.receive
  simp [h]

@[simp] theorem State.receive_nets (s : State) (c : Chan) (l : Lane) (h0 : StayHead) (d : Bool) (f : State → State) (h : ∀ x, (f x).nets = x.nets) : (s.receive c l h0 d f).nets = s.nets := by
  unfold State.receive
  simp [h]

@[simp] theorem State.receive_link (s : State) (c : Chan) (l : Lane) (h0 : StayHead) (d : Bool) (f : State → State) (h : ∀ x, (f x).link = x.link) : (s.receive c l h0 d f).link = s.link := by
  unfold State.receive
  simp [h]

@[simp] theorem State.receive_ptp (s : State) (c : Chan) (l : Lane) (h0 : StayHead) (d : Bool) (f : State → State) (h : ∀ x, (f x).ptp = x.ptp) : (s.receive c l h0 d f).ptp = s.ptp := by
  unfold State.receive
  simp [h]

@[simp] theorem State.receive_tims (s : State) (c : Chan) (l : Lane) (h0 : StayHead) (d : Bool) (f : State → State) (h : ∀ x, (f x).tims = x.tims) : (s.receive c l h0 d f).tims = s.tims := by
  unfold State.receive
  simp [h]

@[simp] theorem State.receive_crcs (s : State) (c : Chan) (l : Lane) (h0 : StayHead) (d : Bool) (f : State → State) (h : ∀ x, (f x).crcs = x.crcs) : (s.receive c l h0 d f).crcs = s.crcs := by
  unfold State.receive
  simp [h]

@[simp] theorem State.receive_adcs (s : State) (c : Chan) (l : Lane) (h0 : StayHead) (d : Bool) (f : State → State) (h : ∀ x, (f x).adcs = x.adcs) : (s.receive c l h0 d f).adcs = s.adcs := by
  unfold State.receive
  simp [h]

@[simp] theorem State.receive_inp (s : State) (c : Chan) (l : Lane) (h0 : StayHead) (d : Bool) (f : State → State) (h : ∀ x, (f x).inp = x.inp) : (s.receive c l h0 d f).inp = s.inp := by
  unfold State.receive
  simp [h]

@[simp] theorem State.receive_pairs (s : State) (c : Chan) (l : Lane) (h0 : StayHead) (d : Bool) (f : State → State) (h : ∀ x, (f x).pairs = x.pairs) : (s.receive c l h0 d f).pairs = s.pairs := by
  unfold State.receive
  simp [h]

@[simp] theorem State.receive_power (s : State) (c : Chan) (l : Lane) (h0 : StayHead) (d : Bool) (f : State → State) (h : ∀ x, (f x).power = x.power) : (s.receive c l h0 d f).power = s.power := by
  unfold State.receive
  simp [h]

@[simp] theorem State.receive_service (s : State) (c : Chan) (l : Lane) (h0 : StayHead) (d : Bool) (f : State → State) (h : ∀ x, (f x).service = x.service) : (s.receive c l h0 d f).service = s.service := by
  unfold State.receive
  simp [h]

@[simp] theorem State.receive_epochAt (s : State) (c : Chan) (l : Lane) (h0 : StayHead) (d : Bool) (f : State → State) (h : ∀ x, (f x).epochAt = x.epochAt) : (s.receive c l h0 d f).epochAt = s.epochAt := by
  unfold State.receive
  simp [h]

@[simp] theorem State.receive_hostLost (s : State) (c : Chan) (l : Lane) (h0 : StayHead) (d : Bool) (f : State → State) (h : ∀ x, (f x).hostLost = x.hostLost) : (s.receive c l h0 d f).hostLost = s.hostLost := by
  unfold State.receive
  simp [h]

@[simp] theorem State.sent_view (s : State) (c : Chan) (l : Lane) : (State.sent s c l).view = s.view := by
  unfold State.sent
  simp

@[simp] theorem State.sent_keeps (s : State) (c : Chan) (l : Lane) : State.Same (State.sent s c l) s :=
  State.keeps_of_view (State.sent_view s c l)

@[simp] theorem State.sourcesDue_view (s : State) : (State.sourcesDue s).view = s.view := by
  unfold State.sourcesDue
  simp

@[simp] theorem State.sourcesDue_keeps (s : State) : State.Same (State.sourcesDue s) s :=
  State.keeps_of_view (State.sourcesDue_view s)

@[simp] theorem State.tryDual_view (s : State) : (State.tryDual s).view = s.view := by
  unfold State.tryDual
  simp

@[simp] theorem State.tryDual_keeps (s : State) : State.Same (State.tryDual s) s :=
  State.keeps_of_view (State.tryDual_view s)

@[simp] theorem State.chargeStay_view (s : State) (g : Charge) : (State.chargeStay s g).view = s.view := by
  unfold State.chargeStay
  simp

@[simp] theorem State.chargeStay_keeps (s : State) (g : Charge) : State.Same (State.chargeStay s g) s :=
  State.keeps_of_view (State.chargeStay_view s g)

@[simp] theorem State.dropSlot_view (s : State) (t : StayToken) : (State.dropSlot s t).view = s.view := by
  unfold State.dropSlot
  ((try dsimp only); repeat' (first | (simp; done) | split))

@[simp] theorem State.dropSlot_keeps (s : State) (t : StayToken) : State.Same (State.dropSlot s t) s :=
  State.keeps_of_view (State.dropSlot_view s t)

@[simp] theorem State.updPair_keeps (s : State) (n : Nat) (f : PairSt → PairSt) : (State.updPair s n f).pending = s.pending ∧ (State.updPair s n f).mem = s.mem ∧ (State.updPair s n f).mz = s.mz ∧ (State.updPair s n f).prog = s.prog ∧ (State.updPair s n f).refit = s.refit ∧ (State.updPair s n f).refitHeld = s.refitHeld ∧ (State.updPair s n f).fw = s.fw ∧ (State.updPair s n f).ses = s.ses ∧ (State.updPair s n f).nets = s.nets ∧ (State.updPair s n f).link = s.link ∧ (State.updPair s n f).ptp = s.ptp ∧ (State.updPair s n f).tims = s.tims ∧ (State.updPair s n f).crcs = s.crcs ∧ (State.updPair s n f).adcs = s.adcs ∧ (State.updPair s n f).inp = s.inp ∧ (State.updPair s n f).power = s.power ∧ (State.updPair s n f).service = s.service ∧ (State.updPair s n f).epochAt = s.epochAt ∧ (State.updPair s n f).hostLost = s.hostLost ∧ (State.updPair s n f).graph = s.graph ∧ (State.updPair s n f).stay = s.stay := by
  unfold State.updPair
  simp

@[simp] theorem State.pairBit_view (s : State) (f : Fld) (n : Nat) (b : Bool) : (State.pairBit s f n b).view = s.view := by
  unfold State.pairBit
  simp

@[simp] theorem State.pairBit_keeps (s : State) (f : Fld) (n : Nat) (b : Bool) : State.Same (State.pairBit s f n b) s :=
  State.keeps_of_view (State.pairBit_view s f n b)

@[simp] theorem State.discStep_keeps (s : State) (n : Nat) : (State.discStep s n).pending = s.pending ∧ (State.discStep s n).mem = s.mem ∧ (State.discStep s n).mz = s.mz ∧ (State.discStep s n).prog = s.prog ∧ (State.discStep s n).refit = s.refit ∧ (State.discStep s n).refitHeld = s.refitHeld ∧ (State.discStep s n).fw = s.fw ∧ (State.discStep s n).ses = s.ses ∧ (State.discStep s n).nets = s.nets ∧ (State.discStep s n).link = s.link ∧ (State.discStep s n).ptp = s.ptp ∧ (State.discStep s n).tims = s.tims ∧ (State.discStep s n).crcs = s.crcs ∧ (State.discStep s n).adcs = s.adcs ∧ (State.discStep s n).inp = s.inp ∧ (State.discStep s n).power = s.power ∧ (State.discStep s n).service = s.service ∧ (State.discStep s n).epochAt = s.epochAt ∧ (State.discStep s n).hostLost = s.hostLost ∧ (State.discStep s n).graph = s.graph ∧ (State.discStep s n).stay = s.stay := by
  unfold State.discStep
  simp

@[simp] theorem State.cycleStep_keeps (s : State) (n : Nat) : (State.cycleStep s n).pending = s.pending ∧ (State.cycleStep s n).mem = s.mem ∧ (State.cycleStep s n).mz = s.mz ∧ (State.cycleStep s n).prog = s.prog ∧ (State.cycleStep s n).refit = s.refit ∧ (State.cycleStep s n).refitHeld = s.refitHeld ∧ (State.cycleStep s n).fw = s.fw ∧ (State.cycleStep s n).ses = s.ses ∧ (State.cycleStep s n).nets = s.nets ∧ (State.cycleStep s n).link = s.link ∧ (State.cycleStep s n).ptp = s.ptp ∧ (State.cycleStep s n).tims = s.tims ∧ (State.cycleStep s n).crcs = s.crcs ∧ (State.cycleStep s n).adcs = s.adcs ∧ (State.cycleStep s n).inp = s.inp ∧ (State.cycleStep s n).power = s.power ∧ (State.cycleStep s n).service = s.service ∧ (State.cycleStep s n).epochAt = s.epochAt ∧ (State.cycleStep s n).hostLost = s.hostLost ∧ (State.cycleStep s n).graph = s.graph ∧ (State.cycleStep s n).stay = s.stay := by
  unfold State.cycleStep
  simp

@[simp] theorem State.pairStep_keeps (s : State) (n : Nat) : (State.pairStep s n).pending = s.pending ∧ (State.pairStep s n).mem = s.mem ∧ (State.pairStep s n).mz = s.mz ∧ (State.pairStep s n).prog = s.prog ∧ (State.pairStep s n).refit = s.refit ∧ (State.pairStep s n).refitHeld = s.refitHeld ∧ (State.pairStep s n).fw = s.fw ∧ (State.pairStep s n).ses = s.ses ∧ (State.pairStep s n).nets = s.nets ∧ (State.pairStep s n).link = s.link ∧ (State.pairStep s n).ptp = s.ptp ∧ (State.pairStep s n).tims = s.tims ∧ (State.pairStep s n).crcs = s.crcs ∧ (State.pairStep s n).adcs = s.adcs ∧ (State.pairStep s n).inp = s.inp ∧ (State.pairStep s n).power = s.power ∧ (State.pairStep s n).service = s.service ∧ (State.pairStep s n).epochAt = s.epochAt ∧ (State.pairStep s n).hostLost = s.hostLost ∧ (State.pairStep s n).graph = s.graph ∧ (State.pairStep s n).stay = s.stay := by
  unfold State.pairStep
  simp

@[simp] theorem State.agreeInputs_keeps (s : State) : (State.agreeInputs s).pending = s.pending ∧ (State.agreeInputs s).mem = s.mem ∧ (State.agreeInputs s).mz = s.mz ∧ (State.agreeInputs s).prog = s.prog ∧ (State.agreeInputs s).refit = s.refit ∧ (State.agreeInputs s).refitHeld = s.refitHeld ∧ (State.agreeInputs s).fw = s.fw ∧ (State.agreeInputs s).ses = s.ses ∧ (State.agreeInputs s).nets = s.nets ∧ (State.agreeInputs s).link = s.link ∧ (State.agreeInputs s).ptp = s.ptp ∧ (State.agreeInputs s).tims = s.tims ∧ (State.agreeInputs s).crcs = s.crcs ∧ (State.agreeInputs s).adcs = s.adcs ∧ (State.agreeInputs s).power = s.power ∧ (State.agreeInputs s).service = s.service ∧ (State.agreeInputs s).epochAt = s.epochAt ∧ (State.agreeInputs s).hostLost = s.hostLost ∧ (State.agreeInputs s).graph = s.graph ∧ (State.agreeInputs s).stay = s.stay := by
  unfold State.agreeInputs
  simp

@[simp] theorem State.agreeReadback_view (s : State) : (State.agreeReadback s).view = s.view := by
  unfold State.agreeReadback
  simp

@[simp] theorem State.agreeReadback_keeps (s : State) : State.Same (State.agreeReadback s) s :=
  State.keeps_of_view (State.agreeReadback_view s)

@[simp] theorem State.exchangeFaults_view (s : State) : (State.exchangeFaults s).view = s.view := by
  unfold State.exchangeFaults
  simp

@[simp] theorem State.exchangeFaults_keeps (s : State) : State.Same (State.exchangeFaults s) s :=
  State.keeps_of_view (State.exchangeFaults_view s)

@[simp] theorem State.updSrc_view (s : State) (n : Nat) (f : SrcSt → SrcSt) : (State.updSrc s n f).view = s.view := by
  unfold State.updSrc
  simp

@[simp] theorem State.updSrc_keeps (s : State) (n : Nat) (f : SrcSt → SrcSt) : State.Same (State.updSrc s n f) s :=
  State.keeps_of_view (State.updSrc_view s n f)

@[simp] theorem State.dieInputFault_view (s : State) (c : Chan) : (State.dieInputFault s c).view = s.view := by
  unfold State.dieInputFault
  simp

@[simp] theorem State.dieInputFault_keeps (s : State) (c : Chan) : State.Same (State.dieInputFault s c) s :=
  State.keeps_of_view (State.dieInputFault_view s c)

@[simp] theorem State.stuckPin_view (s : State) (die : Chan) (pin : Nat) : (State.stuckPin s die pin).view = s.view := by
  unfold State.stuckPin
  simp

@[simp] theorem State.stuckPin_keeps (s : State) (die : Chan) (pin : Nat) : State.Same (State.stuckPin s die pin) s :=
  State.keeps_of_view (State.stuckPin_view s die pin)

@[simp] theorem State.sourceFault_view (s : State) (k : Nat) : (State.sourceFault s k).view = s.view := by
  unfold State.sourceFault
  simp

@[simp] theorem State.sourceFault_keeps (s : State) (k : Nat) : State.Same (State.sourceFault s k) s :=
  State.keeps_of_view (State.sourceFault_view s k)

@[simp] theorem State.judgeWidth_view (s : State) (a b : PulseObs) (pin : Nat) : (State.judgeWidth s a b pin).view = s.view := by
  unfold State.judgeWidth
  ((try dsimp only); repeat' (first | (simp; done) | split))

@[simp] theorem State.judgeWidth_keeps (s : State) (a b : PulseObs) (pin : Nat) : State.Same (State.judgeWidth s a b pin) s :=
  State.keeps_of_view (State.judgeWidth_view s a b pin)

@[simp] theorem State.judgeSettle_keeps (s : State) (high : BitVec 48) (pin : Nat) : (State.judgeSettle s high pin).pending = s.pending ∧ (State.judgeSettle s high pin).mem = s.mem ∧ (State.judgeSettle s high pin).mz = s.mz ∧ (State.judgeSettle s high pin).prog = s.prog ∧ (State.judgeSettle s high pin).refit = s.refit ∧ (State.judgeSettle s high pin).refitHeld = s.refitHeld ∧ (State.judgeSettle s high pin).fw = s.fw ∧ (State.judgeSettle s high pin).ses = s.ses ∧ (State.judgeSettle s high pin).nets = s.nets ∧ (State.judgeSettle s high pin).link = s.link ∧ (State.judgeSettle s high pin).ptp = s.ptp ∧ (State.judgeSettle s high pin).tims = s.tims ∧ (State.judgeSettle s high pin).crcs = s.crcs ∧ (State.judgeSettle s high pin).adcs = s.adcs ∧ (State.judgeSettle s high pin).inp = s.inp ∧ (State.judgeSettle s high pin).power = s.power ∧ (State.judgeSettle s high pin).service = s.service ∧ (State.judgeSettle s high pin).epochAt = s.epochAt ∧ (State.judgeSettle s high pin).hostLost = s.hostLost ∧ (State.judgeSettle s high pin).graph = s.graph ∧ (State.judgeSettle s high pin).stay = s.stay := by
  unfold State.judgeSettle
  simp

@[simp] theorem State.showFk_view (s : State) : (State.showFk s).view = s.view := by
  unfold State.showFk
  simp

@[simp] theorem State.showFk_keeps (s : State) : State.Same (State.showFk s) s :=
  State.keeps_of_view (State.showFk_view s)

@[simp] theorem State.fkFree_view (s : State) (c : Chan) : (State.fkFree s c).view = s.view := by
  unfold State.fkFree
  simp

@[simp] theorem State.fkFree_keeps (s : State) (c : Chan) : State.Same (State.fkFree s c) s :=
  State.keeps_of_view (State.fkFree_view s c)

@[simp] theorem State.updOut_view (s : State) (n : Nat) (f : OutSt → OutSt) : (State.updOut s n f).view = s.view := by
  unfold State.updOut
  simp

@[simp] theorem State.updOut_keeps (s : State) (n : Nat) (f : OutSt → OutSt) : State.Same (State.updOut s n f) s :=
  State.keeps_of_view (State.updOut_view s n f)

@[simp] theorem State.attributeTo_view (s : State) (die : Chan) (n : Nat) : (State.attributeTo s die n).view = s.view := by
  unfold State.attributeTo
  simp

@[simp] theorem State.attributeTo_keeps (s : State) (die : Chan) (n : Nat) : State.Same (State.attributeTo s die n) s :=
  State.keeps_of_view (State.attributeTo_view s die n)

@[simp] theorem State.outFault_view (s : State) (n line : Nat) (f : Fld) (die : Option Chan) : (State.outFault s n line f die).view = s.view := by
  unfold State.outFault
  ((try dsimp only); repeat' (first | (simp; done) | split))

@[simp] theorem State.outFault_keeps (s : State) (n line : Nat) (f : Fld) (die : Option Chan) : State.Same (State.outFault s n line f die) s :=
  State.keeps_of_view (State.outFault_view s n line f die)

@[simp] theorem State.lsFault_view (s : State) (k : Nat) (f : Fld) : (State.lsFault s k f).view = s.view := by
  unfold State.lsFault
  simp

@[simp] theorem State.lsFault_keeps (s : State) (k : Nat) (f : Fld) : State.Same (State.lsFault s k f) s :=
  State.keeps_of_view (State.lsFault_view s k f)

@[simp] theorem State.stuckClosed_view (s : State) (n : Nat) (c : Chan) : (State.stuckClosed s n c).view = s.view := by
  unfold State.stuckClosed
  simp

@[simp] theorem State.stuckClosed_keeps (s : State) (n : Nat) (c : Chan) : State.Same (State.stuckClosed s n c) s :=
  State.keeps_of_view (State.stuckClosed_view s n c)

@[simp] theorem State.failedOpen_view (s : State) (n : Nat) (c : Chan) : (State.failedOpen s n c).view = s.view := by
  unfold State.failedOpen
  simp

@[simp] theorem State.failedOpen_keeps (s : State) (n : Nat) (c : Chan) : State.Same (State.failedOpen s n c) s :=
  State.keeps_of_view (State.failedOpen_view s n c)

@[simp] theorem State.fedOutside_view (s : State) (n : Nat) : (State.fedOutside s n).view = s.view := by
  unfold State.fedOutside
  simp

@[simp] theorem State.fedOutside_keeps (s : State) (n : Nat) : State.Same (State.fedOutside s n) s :=
  State.keeps_of_view (State.fedOutside_view s n)

@[simp] theorem State.judgeReadback_view (s : State) (n : Nat) (o : TestObs) (limA limB : Bool) : (State.judgeReadback s n o limA limB).view = s.view := by
  unfold State.judgeReadback
  simp

@[simp] theorem State.judgeReadback_keeps (s : State) (n : Nat) (o : TestObs) (limA limB : Bool) : State.Same (State.judgeReadback s n o limA limB) s :=
  State.keeps_of_view (State.judgeReadback_view s n o limA limB)

@[simp] theorem State.judgeLs_view (s : State) (k : Nat) (o : TestObs) : (State.judgeLs s k o).view = s.view := by
  unfold State.judgeLs
  simp

@[simp] theorem State.judgeLs_keeps (s : State) (k : Nat) (o : TestObs) : State.Same (State.judgeLs s k o) s :=
  State.keeps_of_view (State.judgeLs_view s k o)

@[simp] theorem State.updTest_view (s : State) (key : Nat) (f : TestSt → TestSt) : (State.updTest s key f).view = s.view := by
  unfold State.updTest
  simp

@[simp] theorem State.updTest_keeps (s : State) (key : Nat) (f : TestSt → TestSt) : State.Same (State.updTest s key f) s :=
  State.keeps_of_view (State.updTest_view s key f)

@[simp] theorem State.showPhase_view (s : State) (k : TestKind) (unit v : Nat) : (State.showPhase s k unit v).view = s.view := by
  unfold State.showPhase
  simp

@[simp] theorem State.showPhase_keeps (s : State) (k : TestKind) (unit v : Nat) : State.Same (State.showPhase s k unit v) s :=
  State.keeps_of_view (State.showPhase_view s k unit v)

@[simp] theorem State.measureRon_view (s : State) (k : TestKind) (unit mvA mvB ma : Nat) (tjA tjB : Int) : (State.measureRon s k unit mvA mvB ma tjA tjB).view = s.view := by
  unfold State.measureRon
  simp

@[simp] theorem State.measureRon_keeps (s : State) (k : TestKind) (unit mvA mvB ma : Nat) (tjA tjB : Int) : State.Same (State.measureRon s k unit mvA mvB ma tjA tjB) s :=
  State.keeps_of_view (State.measureRon_view s k unit mvA mvB ma tjA tjB)

@[simp] theorem State.endSlot_view (s : State) : (State.endSlot s).view = s.view := by
  unfold State.endSlot
  simp

@[simp] theorem State.endSlot_keeps (s : State) : State.Same (State.endSlot s) s :=
  State.keeps_of_view (State.endSlot_view s)

theorem State.verdict_view (s s1 : State) (k : TestKind) (n : Nat) (o : TestObs) (h : s.verdict k n o = some s1) : s1.view = s.view := by
  unfold State.verdict at h
  repeat' split at h
  all_goals first
    | (have h := Option.some.inj h; rw [← h]; first | (simp; done) | (split <;> simp))
    | exact absurd h (by simp)

@[simp] theorem State.testDone_view (s : State) (k : TestKind) (n : Nat) : (State.testDone s k n).view = s.view := by
  unfold State.testDone
  simp

@[simp] theorem State.testDone_keeps (s : State) (k : TestKind) (n : Nat) : State.Same (State.testDone s k n) s :=
  State.keeps_of_view (State.testDone_view s k n)

@[simp] theorem State.applyWant_view (s : State) : (State.applyWant s).view = s.view := by
  unfold State.applyWant
  simp

@[simp] theorem State.applyWant_keeps (s : State) : State.Same (State.applyWant s) s :=
  State.keeps_of_view (State.applyWant_view s)

@[simp] theorem State.updNet_keeps (s : State) (n : Net) (f : NetSt → NetSt) : (State.updNet s n f).pending = s.pending ∧ (State.updNet s n f).mem = s.mem ∧ (State.updNet s n f).mz = s.mz ∧ (State.updNet s n f).prog = s.prog ∧ (State.updNet s n f).refit = s.refit ∧ (State.updNet s n f).refitHeld = s.refitHeld ∧ (State.updNet s n f).fw = s.fw ∧ (State.updNet s n f).ses = s.ses ∧ (State.updNet s n f).link = s.link ∧ (State.updNet s n f).ptp = s.ptp ∧ (State.updNet s n f).tims = s.tims ∧ (State.updNet s n f).crcs = s.crcs ∧ (State.updNet s n f).adcs = s.adcs ∧ (State.updNet s n f).inp = s.inp ∧ (State.updNet s n f).pairs = s.pairs ∧ (State.updNet s n f).power = s.power ∧ (State.updNet s n f).service = s.service ∧ (State.updNet s n f).epochAt = s.epochAt ∧ (State.updNet s n f).hostLost = s.hostLost ∧ (State.updNet s n f).graph = s.graph ∧ (State.updNet s n f).stay = s.stay := by
  unfold State.updNet
  simp

@[simp] theorem State.updPtp_keeps (s : State) (n : Net) (f : PtpSt → PtpSt) : (State.updPtp s n f).pending = s.pending ∧ (State.updPtp s n f).mem = s.mem ∧ (State.updPtp s n f).mz = s.mz ∧ (State.updPtp s n f).prog = s.prog ∧ (State.updPtp s n f).refit = s.refit ∧ (State.updPtp s n f).refitHeld = s.refitHeld ∧ (State.updPtp s n f).fw = s.fw ∧ (State.updPtp s n f).ses = s.ses ∧ (State.updPtp s n f).nets = s.nets ∧ (State.updPtp s n f).link = s.link ∧ (State.updPtp s n f).tims = s.tims ∧ (State.updPtp s n f).crcs = s.crcs ∧ (State.updPtp s n f).adcs = s.adcs ∧ (State.updPtp s n f).inp = s.inp ∧ (State.updPtp s n f).pairs = s.pairs ∧ (State.updPtp s n f).power = s.power ∧ (State.updPtp s n f).service = s.service ∧ (State.updPtp s n f).epochAt = s.epochAt ∧ (State.updPtp s n f).hostLost = s.hostLost ∧ (State.updPtp s n f).graph = s.graph ∧ (State.updPtp s n f).stay = s.stay := by
  unfold State.updPtp
  simp

@[simp] theorem State.putN_view (s : State) (f : Fld) (v : Nat) (n : Net) : (State.putN s f v n).view = s.view := by
  unfold State.putN
  simp

@[simp] theorem State.putN_keeps (s : State) (f : Fld) (v : Nat) (n : Net) : State.Same (State.putN s f v n) s :=
  State.keeps_of_view (State.putN_view s f v n)

@[simp] theorem State.showPtp_view (s : State) (n : Net) : (State.showPtp s n).view = s.view := by
  unfold State.showPtp
  simp

@[simp] theorem State.showPtp_keeps (s : State) (n : Net) : State.Same (State.showPtp s n) s :=
  State.keeps_of_view (State.showPtp_view s n)

@[simp] theorem State.police_pending (s : State) (n : Net) (f : State → State) (h : ∀ x, (f x).pending = x.pending) : (s.police n f).pending = s.pending := by
  unfold State.police
  simp [h]

@[simp] theorem State.police_mem (s : State) (n : Net) (f : State → State) (h : ∀ x, (f x).mem = x.mem) : (s.police n f).mem = s.mem := by
  unfold State.police
  simp [h]

@[simp] theorem State.police_mz (s : State) (n : Net) (f : State → State) (h : ∀ x, (f x).mz = x.mz) : (s.police n f).mz = s.mz := by
  unfold State.police
  simp [h]

@[simp] theorem State.police_prog (s : State) (n : Net) (f : State → State) (h : ∀ x, (f x).prog = x.prog) : (s.police n f).prog = s.prog := by
  unfold State.police
  simp [h]

@[simp] theorem State.police_refit (s : State) (n : Net) (f : State → State) (h : ∀ x, (f x).refit = x.refit) : (s.police n f).refit = s.refit := by
  unfold State.police
  simp [h]

@[simp] theorem State.police_refitHeld (s : State) (n : Net) (f : State → State) (h : ∀ x, (f x).refitHeld = x.refitHeld) : (s.police n f).refitHeld = s.refitHeld := by
  unfold State.police
  simp [h]

@[simp] theorem State.police_fw (s : State) (n : Net) (f : State → State) (h : ∀ x, (f x).fw = x.fw) : (s.police n f).fw = s.fw := by
  unfold State.police
  simp [h]

@[simp] theorem State.police_ses (s : State) (n : Net) (f : State → State) (h : ∀ x, (f x).ses = x.ses) : (s.police n f).ses = s.ses := by
  unfold State.police
  simp [h]

@[simp] theorem State.police_link (s : State) (n : Net) (f : State → State) (h : ∀ x, (f x).link = x.link) : (s.police n f).link = s.link := by
  unfold State.police
  simp [h]

@[simp] theorem State.police_ptp (s : State) (n : Net) (f : State → State) (h : ∀ x, (f x).ptp = x.ptp) : (s.police n f).ptp = s.ptp := by
  unfold State.police
  simp [h]

@[simp] theorem State.police_tims (s : State) (n : Net) (f : State → State) (h : ∀ x, (f x).tims = x.tims) : (s.police n f).tims = s.tims := by
  unfold State.police
  simp [h]

@[simp] theorem State.police_crcs (s : State) (n : Net) (f : State → State) (h : ∀ x, (f x).crcs = x.crcs) : (s.police n f).crcs = s.crcs := by
  unfold State.police
  simp [h]

@[simp] theorem State.police_adcs (s : State) (n : Net) (f : State → State) (h : ∀ x, (f x).adcs = x.adcs) : (s.police n f).adcs = s.adcs := by
  unfold State.police
  simp [h]

@[simp] theorem State.police_inp (s : State) (n : Net) (f : State → State) (h : ∀ x, (f x).inp = x.inp) : (s.police n f).inp = s.inp := by
  unfold State.police
  simp [h]

@[simp] theorem State.police_pairs (s : State) (n : Net) (f : State → State) (h : ∀ x, (f x).pairs = x.pairs) : (s.police n f).pairs = s.pairs := by
  unfold State.police
  simp [h]

@[simp] theorem State.police_power (s : State) (n : Net) (f : State → State) (h : ∀ x, (f x).power = x.power) : (s.police n f).power = s.power := by
  unfold State.police
  simp [h]

@[simp] theorem State.police_service (s : State) (n : Net) (f : State → State) (h : ∀ x, (f x).service = x.service) : (s.police n f).service = s.service := by
  unfold State.police
  simp [h]

@[simp] theorem State.police_epochAt (s : State) (n : Net) (f : State → State) (h : ∀ x, (f x).epochAt = x.epochAt) : (s.police n f).epochAt = s.epochAt := by
  unfold State.police
  simp [h]

@[simp] theorem State.police_hostLost (s : State) (n : Net) (f : State → State) (h : ∀ x, (f x).hostLost = x.hostLost) : (s.police n f).hostLost = s.hostLost := by
  unfold State.police
  simp [h]

@[simp] theorem State.police_graph (s : State) (n : Net) (f : State → State) (h : ∀ x, (f x).graph = x.graph) : (s.police n f).graph = s.graph := by
  unfold State.police
  simp [h]

@[simp] theorem State.police_stay (s : State) (n : Net) (f : State → State) (h : ∀ x, (f x).stay = x.stay) : (s.police n f).stay = s.stay := by
  unfold State.police
  simp [h]

@[simp] theorem State.updSes_keeps (s : State) (n : Nat) (f : SesSt → SesSt) : (State.updSes s n f).pending = s.pending ∧ (State.updSes s n f).mem = s.mem ∧ (State.updSes s n f).mz = s.mz ∧ (State.updSes s n f).prog = s.prog ∧ (State.updSes s n f).refit = s.refit ∧ (State.updSes s n f).refitHeld = s.refitHeld ∧ (State.updSes s n f).fw = s.fw ∧ (State.updSes s n f).nets = s.nets ∧ (State.updSes s n f).link = s.link ∧ (State.updSes s n f).ptp = s.ptp ∧ (State.updSes s n f).tims = s.tims ∧ (State.updSes s n f).crcs = s.crcs ∧ (State.updSes s n f).adcs = s.adcs ∧ (State.updSes s n f).inp = s.inp ∧ (State.updSes s n f).pairs = s.pairs ∧ (State.updSes s n f).power = s.power ∧ (State.updSes s n f).service = s.service ∧ (State.updSes s n f).epochAt = s.epochAt ∧ (State.updSes s n f).hostLost = s.hostLost ∧ (State.updSes s n f).graph = s.graph ∧ (State.updSes s n f).stay = s.stay := by
  unfold State.updSes
  simp

@[simp] theorem State.putSesBit_view (s : State) (f : Fld) (n : Nat) (b : Bool) : (State.putSesBit s f n b).view = s.view := by
  unfold State.putSesBit
  simp

@[simp] theorem State.putSesBit_keeps (s : State) (f : Fld) (n : Nat) (b : Bool) : State.Same (State.putSesBit s f n b) s :=
  State.keeps_of_view (State.putSesBit_view s f n b)

@[simp] theorem State.showSingle_view (s : State) (n : Nat) : (State.showSingle s n).view = s.view := by
  unfold State.showSingle
  simp

@[simp] theorem State.showSingle_keeps (s : State) (n : Nat) : State.Same (State.showSingle s n) s :=
  State.keeps_of_view (State.showSingle_view s n)

@[simp] theorem State.setSes_view (s : State) (n st : Nat) : (State.setSes s n st).view = s.view := by
  unfold State.setSes
  simp

@[simp] theorem State.setSes_keeps (s : State) (n st : Nat) : State.Same (State.setSes s n st) s :=
  State.keeps_of_view (State.setSes_view s n st)

@[simp] theorem State.failSes_keeps (s : State) (n line : Nat) : (State.failSes s n line).pending = s.pending ∧ (State.failSes s n line).mem = s.mem ∧ (State.failSes s n line).mz = s.mz ∧ (State.failSes s n line).prog = s.prog ∧ (State.failSes s n line).refit = s.refit ∧ (State.failSes s n line).refitHeld = s.refitHeld ∧ (State.failSes s n line).fw = s.fw ∧ (State.failSes s n line).nets = s.nets ∧ (State.failSes s n line).link = s.link ∧ (State.failSes s n line).ptp = s.ptp ∧ (State.failSes s n line).tims = s.tims ∧ (State.failSes s n line).crcs = s.crcs ∧ (State.failSes s n line).adcs = s.adcs ∧ (State.failSes s n line).inp = s.inp ∧ (State.failSes s n line).pairs = s.pairs ∧ (State.failSes s n line).power = s.power ∧ (State.failSes s n line).service = s.service ∧ (State.failSes s n line).epochAt = s.epochAt ∧ (State.failSes s n line).hostLost = s.hostLost ∧ (State.failSes s n line).graph = s.graph ∧ (State.failSes s n line).stay = s.stay := by
  unfold State.failSes
  simp

@[simp] theorem State.runSes_keeps (s : State) (n : Nat) : (State.runSes s n).pending = s.pending ∧ (State.runSes s n).mem = s.mem ∧ (State.runSes s n).mz = s.mz ∧ (State.runSes s n).prog = s.prog ∧ (State.runSes s n).refit = s.refit ∧ (State.runSes s n).refitHeld = s.refitHeld ∧ (State.runSes s n).fw = s.fw ∧ (State.runSes s n).nets = s.nets ∧ (State.runSes s n).link = s.link ∧ (State.runSes s n).ptp = s.ptp ∧ (State.runSes s n).tims = s.tims ∧ (State.runSes s n).crcs = s.crcs ∧ (State.runSes s n).adcs = s.adcs ∧ (State.runSes s n).inp = s.inp ∧ (State.runSes s n).pairs = s.pairs ∧ (State.runSes s n).power = s.power ∧ (State.runSes s n).service = s.service ∧ (State.runSes s n).epochAt = s.epochAt ∧ (State.runSes s n).hostLost = s.hostLost ∧ (State.runSes s n).graph = s.graph ∧ (State.runSes s n).stay = s.stay := by
  unfold State.runSes
  simp

@[simp] theorem State.setPath_view (s : State) (n : Nat) (p : Net) (up : Bool) : (State.setPath s n p up).view = s.view := by
  unfold State.setPath
  simp

@[simp] theorem State.setPath_keeps (s : State) (n : Nat) (p : Net) (up : Bool) : State.Same (State.setPath s n p up) s :=
  State.keeps_of_view (State.setPath_view s n p up)

@[simp] theorem State.twin_keeps (s : State) (n : Nat) (w : OpenWin) (f : GoaFrame) : (State.twin s n w f).pending = s.pending ∧ (State.twin s n w f).mem = s.mem ∧ (State.twin s n w f).mz = s.mz ∧ (State.twin s n w f).prog = s.prog ∧ (State.twin s n w f).refit = s.refit ∧ (State.twin s n w f).refitHeld = s.refitHeld ∧ (State.twin s n w f).fw = s.fw ∧ (State.twin s n w f).nets = s.nets ∧ (State.twin s n w f).link = s.link ∧ (State.twin s n w f).ptp = s.ptp ∧ (State.twin s n w f).tims = s.tims ∧ (State.twin s n w f).crcs = s.crcs ∧ (State.twin s n w f).adcs = s.adcs ∧ (State.twin s n w f).inp = s.inp ∧ (State.twin s n w f).pairs = s.pairs ∧ (State.twin s n w f).power = s.power ∧ (State.twin s n w f).service = s.service ∧ (State.twin s n w f).epochAt = s.epochAt ∧ (State.twin s n w f).hostLost = s.hostLost ∧ (State.twin s n w f).graph = s.graph ∧ (State.twin s n w f).stay = s.stay := by
  unfold State.twin
  simp

@[simp] theorem State.deliver_keeps (s : State) (n : Nat) (p : Net) (c : Slot) (restart : Bool) : (State.deliver s n p c restart).pending = s.pending ∧ (State.deliver s n p c restart).mem = s.mem ∧ (State.deliver s n p c restart).mz = s.mz ∧ (State.deliver s n p c restart).prog = s.prog ∧ (State.deliver s n p c restart).refit = s.refit ∧ (State.deliver s n p c restart).refitHeld = s.refitHeld ∧ (State.deliver s n p c restart).fw = s.fw ∧ (State.deliver s n p c restart).nets = s.nets ∧ (State.deliver s n p c restart).link = s.link ∧ (State.deliver s n p c restart).ptp = s.ptp ∧ (State.deliver s n p c restart).tims = s.tims ∧ (State.deliver s n p c restart).crcs = s.crcs ∧ (State.deliver s n p c restart).adcs = s.adcs ∧ (State.deliver s n p c restart).inp = s.inp ∧ (State.deliver s n p c restart).pairs = s.pairs ∧ (State.deliver s n p c restart).power = s.power ∧ (State.deliver s n p c restart).service = s.service ∧ (State.deliver s n p c restart).epochAt = s.epochAt ∧ (State.deliver s n p c restart).hostLost = s.hostLost ∧ (State.deliver s n p c restart).graph = s.graph ∧ (State.deliver s n p c restart).stay = s.stay := by
  unfold State.deliver
  simp

@[simp] theorem State.processCopy_keeps (s : State) (n : Nat) (p : Net) (c : Slot) : (State.processCopy s n p c).pending = s.pending ∧ (State.processCopy s n p c).mem = s.mem ∧ (State.processCopy s n p c).mz = s.mz ∧ (State.processCopy s n p c).prog = s.prog ∧ (State.processCopy s n p c).refit = s.refit ∧ (State.processCopy s n p c).refitHeld = s.refitHeld ∧ (State.processCopy s n p c).fw = s.fw ∧ (State.processCopy s n p c).nets = s.nets ∧ (State.processCopy s n p c).link = s.link ∧ (State.processCopy s n p c).ptp = s.ptp ∧ (State.processCopy s n p c).tims = s.tims ∧ (State.processCopy s n p c).crcs = s.crcs ∧ (State.processCopy s n p c).adcs = s.adcs ∧ (State.processCopy s n p c).inp = s.inp ∧ (State.processCopy s n p c).pairs = s.pairs ∧ (State.processCopy s n p c).power = s.power ∧ (State.processCopy s n p c).service = s.service ∧ (State.processCopy s n p c).epochAt = s.epochAt ∧ (State.processCopy s n p c).hostLost = s.hostLost ∧ (State.processCopy s n p c).graph = s.graph ∧ (State.processCopy s n p c).stay = s.stay := by
  unfold State.processCopy
  ((try dsimp only); repeat' (first | (simp; done) | split))

@[simp] theorem State.deliverAll_keeps (s : State) : (State.deliverAll s).pending = s.pending ∧ (State.deliverAll s).mem = s.mem ∧ (State.deliverAll s).mz = s.mz ∧ (State.deliverAll s).prog = s.prog ∧ (State.deliverAll s).refit = s.refit ∧ (State.deliverAll s).refitHeld = s.refitHeld ∧ (State.deliverAll s).fw = s.fw ∧ (State.deliverAll s).nets = s.nets ∧ (State.deliverAll s).link = s.link ∧ (State.deliverAll s).ptp = s.ptp ∧ (State.deliverAll s).tims = s.tims ∧ (State.deliverAll s).crcs = s.crcs ∧ (State.deliverAll s).adcs = s.adcs ∧ (State.deliverAll s).inp = s.inp ∧ (State.deliverAll s).pairs = s.pairs ∧ (State.deliverAll s).power = s.power ∧ (State.deliverAll s).service = s.service ∧ (State.deliverAll s).epochAt = s.epochAt ∧ (State.deliverAll s).hostLost = s.hostLost ∧ (State.deliverAll s).graph = s.graph ∧ (State.deliverAll s).stay = s.stay := by
  unfold State.deliverAll
  generalize (s.get SYS_GCOUNT_COUNT + 2 ^ 32 - 1) % 2 ^ 32 = k
  simp

@[simp] theorem State.checkCopy_keeps (s : State) (n : Nat) (p : Net) (f : GoaFrame) : ((State.checkCopy s n p f).1).pending = s.pending ∧ ((State.checkCopy s n p f).1).mem = s.mem ∧ ((State.checkCopy s n p f).1).mz = s.mz ∧ ((State.checkCopy s n p f).1).prog = s.prog ∧ ((State.checkCopy s n p f).1).refit = s.refit ∧ ((State.checkCopy s n p f).1).refitHeld = s.refitHeld ∧ ((State.checkCopy s n p f).1).fw = s.fw ∧ ((State.checkCopy s n p f).1).nets = s.nets ∧ ((State.checkCopy s n p f).1).link = s.link ∧ ((State.checkCopy s n p f).1).ptp = s.ptp ∧ ((State.checkCopy s n p f).1).tims = s.tims ∧ ((State.checkCopy s n p f).1).crcs = s.crcs ∧ ((State.checkCopy s n p f).1).adcs = s.adcs ∧ ((State.checkCopy s n p f).1).inp = s.inp ∧ ((State.checkCopy s n p f).1).pairs = s.pairs ∧ ((State.checkCopy s n p f).1).power = s.power ∧ ((State.checkCopy s n p f).1).service = s.service ∧ ((State.checkCopy s n p f).1).epochAt = s.epochAt ∧ ((State.checkCopy s n p f).1).hostLost = s.hostLost ∧ ((State.checkCopy s n p f).1).graph = s.graph ∧ ((State.checkCopy s n p f).1).stay = s.stay := by
  unfold State.checkCopy
  ((try dsimp only); repeat' (first | (simp; done) | split))

@[simp] theorem State.sendSes_keeps (s : State) (n : Nat) (w : TxWords) : (State.sendSes s n w).pending = s.pending ∧ (State.sendSes s n w).mem = s.mem ∧ (State.sendSes s n w).mz = s.mz ∧ (State.sendSes s n w).prog = s.prog ∧ (State.sendSes s n w).refit = s.refit ∧ (State.sendSes s n w).refitHeld = s.refitHeld ∧ (State.sendSes s n w).fw = s.fw ∧ (State.sendSes s n w).nets = s.nets ∧ (State.sendSes s n w).link = s.link ∧ (State.sendSes s n w).ptp = s.ptp ∧ (State.sendSes s n w).tims = s.tims ∧ (State.sendSes s n w).crcs = s.crcs ∧ (State.sendSes s n w).adcs = s.adcs ∧ (State.sendSes s n w).inp = s.inp ∧ (State.sendSes s n w).pairs = s.pairs ∧ (State.sendSes s n w).power = s.power ∧ (State.sendSes s n w).service = s.service ∧ (State.sendSes s n w).epochAt = s.epochAt ∧ (State.sendSes s n w).hostLost = s.hostLost ∧ (State.sendSes s n w).graph = s.graph ∧ (State.sendSes s n w).stay = s.stay := by
  unfold State.sendSes
  simp

@[simp] theorem State.useEpoch_view (s : State) (ep : Nat) : (State.useEpoch s ep).view = s.view := by
  unfold State.useEpoch
  simp

@[simp] theorem State.useEpoch_keeps (s : State) (ep : Nat) : State.Same (State.useEpoch s ep) s :=
  State.keeps_of_view (State.useEpoch_view s ep)

@[simp] theorem State.updPort_keeps (s : State) (p : Port) (f : PortSt → PortSt) : (State.updPort s p f).pending = s.pending ∧ (State.updPort s p f).mem = s.mem ∧ (State.updPort s p f).mz = s.mz ∧ (State.updPort s p f).prog = s.prog ∧ (State.updPort s p f).refit = s.refit ∧ (State.updPort s p f).refitHeld = s.refitHeld ∧ (State.updPort s p f).fw = s.fw ∧ (State.updPort s p f).ses = s.ses ∧ (State.updPort s p f).nets = s.nets ∧ (State.updPort s p f).ptp = s.ptp ∧ (State.updPort s p f).tims = s.tims ∧ (State.updPort s p f).crcs = s.crcs ∧ (State.updPort s p f).adcs = s.adcs ∧ (State.updPort s p f).inp = s.inp ∧ (State.updPort s p f).pairs = s.pairs ∧ (State.updPort s p f).power = s.power ∧ (State.updPort s p f).service = s.service ∧ (State.updPort s p f).epochAt = s.epochAt ∧ (State.updPort s p f).hostLost = s.hostLost ∧ (State.updPort s p f).graph = s.graph ∧ (State.updPort s p f).stay = s.stay := by
  unfold State.updPort
  simp

@[simp] theorem State.putP_view (s : State) (f : Fld) (v : Nat) (p : Port) : (State.putP s f v p).view = s.view := by
  unfold State.putP
  simp

@[simp] theorem State.putP_keeps (s : State) (f : Fld) (v : Nat) (p : Port) : State.Same (State.putP s f v p) s :=
  State.keeps_of_view (State.putP_view s f v p)

@[simp] theorem State.setPort_view (s : State) (p : Port) (v : Nat) : (State.setPort s p v).view = s.view := by
  unfold State.setPort
  simp

@[simp] theorem State.setPort_keeps (s : State) (p : Port) (v : Nat) : State.Same (State.setPort s p v) s :=
  State.keeps_of_view (State.setPort_view s p v)

@[simp] theorem State.linkFault_view (s : State) (detail : Nat) : (State.linkFault s detail).view = s.view := by
  unfold State.linkFault
  simp

@[simp] theorem State.linkFault_keeps (s : State) (detail : Nat) : State.Same (State.linkFault s detail) s :=
  State.keeps_of_view (State.linkFault_view s detail)

@[simp] theorem State.showEntries_view (s : State) : (State.showEntries s).view = s.view := by
  unfold State.showEntries
  simp

@[simp] theorem State.showEntries_keeps (s : State) : State.Same (State.showEntries s) s :=
  State.keeps_of_view (State.showEntries_view s)

@[simp] theorem State.xoffOut_view (s : State) (p : Port) (peak after : Nat) : (State.xoffOut s p peak after).view = s.view := by
  unfold State.xoffOut
  simp

@[simp] theorem State.xoffOut_keeps (s : State) (p : Port) (peak after : Nat) : State.Same (State.xoffOut s p peak after) s :=
  State.keeps_of_view (State.xoffOut_view s p peak after)

@[simp] theorem State.fifoOverflow_view (s : State) (p : Port) (words : Nat) : (State.fifoOverflow s p words).view = s.view := by
  unfold State.fifoOverflow
  simp

@[simp] theorem State.fifoOverflow_keeps (s : State) (p : Port) (words : Nat) : State.Same (State.fifoOverflow s p words) s :=
  State.keeps_of_view (State.fifoOverflow_view s p words)

@[simp] theorem State.formGroups_keeps (s : State) (sf : Option Nat) : (State.formGroups s sf).pending = s.pending ∧ (State.formGroups s sf).mem = s.mem ∧ (State.formGroups s sf).mz = s.mz ∧ (State.formGroups s sf).prog = s.prog ∧ (State.formGroups s sf).refit = s.refit ∧ (State.formGroups s sf).refitHeld = s.refitHeld ∧ (State.formGroups s sf).fw = s.fw ∧ (State.formGroups s sf).ses = s.ses ∧ (State.formGroups s sf).nets = s.nets ∧ (State.formGroups s sf).ptp = s.ptp ∧ (State.formGroups s sf).tims = s.tims ∧ (State.formGroups s sf).crcs = s.crcs ∧ (State.formGroups s sf).adcs = s.adcs ∧ (State.formGroups s sf).inp = s.inp ∧ (State.formGroups s sf).pairs = s.pairs ∧ (State.formGroups s sf).power = s.power ∧ (State.formGroups s sf).service = s.service ∧ (State.formGroups s sf).epochAt = s.epochAt ∧ (State.formGroups s sf).hostLost = s.hostLost ∧ (State.formGroups s sf).graph = s.graph ∧ (State.formGroups s sf).stay = s.stay := by
  unfold State.formGroups
  simp

@[simp] theorem State.storeRelayed_view (s : State) (r : List Nat) : (State.storeRelayed s r).view = s.view := by
  unfold State.storeRelayed
  simp

@[simp] theorem State.storeRelayed_keeps (s : State) (r : List Nat) : State.Same (State.storeRelayed s r) s :=
  State.keeps_of_view (State.storeRelayed_view s r)

@[simp] theorem State.popRec_view (s : State) : (State.popRec s).view = s.view := by
  unfold State.popRec
  simp

@[simp] theorem State.popRec_keeps (s : State) : State.Same (State.popRec s) s :=
  State.keeps_of_view (State.popRec_view s)

@[simp] theorem State.trainPorts_keeps (s : State) : (State.trainPorts s).pending = s.pending ∧ (State.trainPorts s).mem = s.mem ∧ (State.trainPorts s).mz = s.mz ∧ (State.trainPorts s).prog = s.prog ∧ (State.trainPorts s).refit = s.refit ∧ (State.trainPorts s).refitHeld = s.refitHeld ∧ (State.trainPorts s).fw = s.fw ∧ (State.trainPorts s).ses = s.ses ∧ (State.trainPorts s).nets = s.nets ∧ (State.trainPorts s).ptp = s.ptp ∧ (State.trainPorts s).tims = s.tims ∧ (State.trainPorts s).crcs = s.crcs ∧ (State.trainPorts s).adcs = s.adcs ∧ (State.trainPorts s).inp = s.inp ∧ (State.trainPorts s).pairs = s.pairs ∧ (State.trainPorts s).power = s.power ∧ (State.trainPorts s).service = s.service ∧ (State.trainPorts s).epochAt = s.epochAt ∧ (State.trainPorts s).hostLost = s.hostLost ∧ (State.trainPorts s).graph = s.graph ∧ (State.trainPorts s).stay = s.stay := by
  unfold State.trainPorts
  simp

@[simp] theorem State.updGraph_keeps (s : State) (c : Chan) (f : GraphSt → GraphSt) : (State.updGraph s c f).pending = s.pending ∧ (State.updGraph s c f).mem = s.mem ∧ (State.updGraph s c f).mz = s.mz ∧ (State.updGraph s c f).prog = s.prog ∧ (State.updGraph s c f).refit = s.refit ∧ (State.updGraph s c f).refitHeld = s.refitHeld ∧ (State.updGraph s c f).fw = s.fw ∧ (State.updGraph s c f).ses = s.ses ∧ (State.updGraph s c f).nets = s.nets ∧ (State.updGraph s c f).link = s.link ∧ (State.updGraph s c f).ptp = s.ptp ∧ (State.updGraph s c f).tims = s.tims ∧ (State.updGraph s c f).crcs = s.crcs ∧ (State.updGraph s c f).adcs = s.adcs ∧ (State.updGraph s c f).inp = s.inp ∧ (State.updGraph s c f).pairs = s.pairs ∧ (State.updGraph s c f).power = s.power ∧ (State.updGraph s c f).service = s.service ∧ (State.updGraph s c f).epochAt = s.epochAt ∧ (State.updGraph s c f).hostLost = s.hostLost ∧ (State.updGraph s c f).stay = s.stay := by
  unfold State.updGraph
  simp

@[simp] theorem State.updStop_view (s : State) (c : Chan) (f : StopSt → StopSt) : (State.updStop s c f).view = s.view := by
  unfold State.updStop
  simp

@[simp] theorem State.updStop_keeps (s : State) (c : Chan) (f : StopSt → StopSt) : State.Same (State.updStop s c f) s :=
  State.keeps_of_view (State.updStop_view s c f)

@[simp] theorem State.chargeReceived_keeps (s : State) (c : Chan) : (State.chargeReceived s c).pending = s.pending ∧ (State.chargeReceived s c).mem = s.mem ∧ (State.chargeReceived s c).mz = s.mz ∧ (State.chargeReceived s c).prog = s.prog ∧ (State.chargeReceived s c).refit = s.refit ∧ (State.chargeReceived s c).refitHeld = s.refitHeld ∧ (State.chargeReceived s c).fw = s.fw ∧ (State.chargeReceived s c).ses = s.ses ∧ (State.chargeReceived s c).nets = s.nets ∧ (State.chargeReceived s c).link = s.link ∧ (State.chargeReceived s c).ptp = s.ptp ∧ (State.chargeReceived s c).tims = s.tims ∧ (State.chargeReceived s c).crcs = s.crcs ∧ (State.chargeReceived s c).adcs = s.adcs ∧ (State.chargeReceived s c).inp = s.inp ∧ (State.chargeReceived s c).pairs = s.pairs ∧ (State.chargeReceived s c).power = s.power ∧ (State.chargeReceived s c).service = s.service ∧ (State.chargeReceived s c).epochAt = s.epochAt ∧ (State.chargeReceived s c).hostLost = s.hostLost ∧ (State.chargeReceived s c).stay = s.stay := by
  unfold State.chargeReceived
  simp

@[simp] theorem State.owePulses_keeps (s : State) (n : Nat) : (State.owePulses s n).pending = s.pending ∧ (State.owePulses s n).mem = s.mem ∧ (State.owePulses s n).mz = s.mz ∧ (State.owePulses s n).prog = s.prog ∧ (State.owePulses s n).refit = s.refit ∧ (State.owePulses s n).refitHeld = s.refitHeld ∧ (State.owePulses s n).fw = s.fw ∧ (State.owePulses s n).ses = s.ses ∧ (State.owePulses s n).nets = s.nets ∧ (State.owePulses s n).link = s.link ∧ (State.owePulses s n).ptp = s.ptp ∧ (State.owePulses s n).tims = s.tims ∧ (State.owePulses s n).crcs = s.crcs ∧ (State.owePulses s n).adcs = s.adcs ∧ (State.owePulses s n).inp = s.inp ∧ (State.owePulses s n).power = s.power ∧ (State.owePulses s n).service = s.service ∧ (State.owePulses s n).epochAt = s.epochAt ∧ (State.owePulses s n).hostLost = s.hostLost ∧ (State.owePulses s n).graph = s.graph ∧ (State.owePulses s n).stay = s.stay := by
  unfold State.owePulses
  simp

@[simp] theorem State.oweOutput_view (s : State) (n : Nat) : (State.oweOutput s n).view = s.view := by
  unfold State.oweOutput
  simp

@[simp] theorem State.oweOutput_keeps (s : State) (n : Nat) : State.Same (State.oweOutput s n) s :=
  State.keeps_of_view (State.oweOutput_view s n)

@[simp] theorem State.zeroBoth_view (s : State) (fs : List Fld) (i : Nat) : (State.zeroBoth s fs i).view = s.view := by
  unfold State.zeroBoth
  simp

@[simp] theorem State.zeroBoth_keeps (s : State) (fs : List Fld) (i : Nat) : State.Same (State.zeroBoth s fs i) s :=
  State.keeps_of_view (State.zeroBoth_view s fs i)

@[simp] theorem State.clearElem_keeps (s : State) (line : Nat) (e : Elem) : (State.clearElem s line e).pending = s.pending ∧ (State.clearElem s line e).mem = s.mem ∧ (State.clearElem s line e).mz = s.mz ∧ (State.clearElem s line e).prog = s.prog ∧ (State.clearElem s line e).refit = s.refit ∧ (State.clearElem s line e).refitHeld = s.refitHeld ∧ (State.clearElem s line e).fw = s.fw ∧ (State.clearElem s line e).ses = s.ses ∧ (State.clearElem s line e).nets = s.nets ∧ (State.clearElem s line e).link = s.link ∧ (State.clearElem s line e).ptp = s.ptp ∧ (State.clearElem s line e).tims = s.tims ∧ (State.clearElem s line e).crcs = s.crcs ∧ (State.clearElem s line e).adcs = s.adcs ∧ (State.clearElem s line e).inp = s.inp ∧ (State.clearElem s line e).power = s.power ∧ (State.clearElem s line e).service = s.service ∧ (State.clearElem s line e).epochAt = s.epochAt ∧ (State.clearElem s line e).hostLost = s.hostLost ∧ (State.clearElem s line e).graph = s.graph ∧ (State.clearElem s line e).stay = s.stay := by
  unfold State.clearElem
  ((try dsimp only); repeat' (first | (simp; done) | split))

@[simp] theorem State.dropCleared_keeps (s : State) (f : SfFault) : (State.dropCleared s f).pending = s.pending ∧ (State.dropCleared s f).mem = s.mem ∧ (State.dropCleared s f).mz = s.mz ∧ (State.dropCleared s f).prog = s.prog ∧ (State.dropCleared s f).refit = s.refit ∧ (State.dropCleared s f).refitHeld = s.refitHeld ∧ (State.dropCleared s f).fw = s.fw ∧ (State.dropCleared s f).ses = s.ses ∧ (State.dropCleared s f).nets = s.nets ∧ (State.dropCleared s f).link = s.link ∧ (State.dropCleared s f).ptp = s.ptp ∧ (State.dropCleared s f).tims = s.tims ∧ (State.dropCleared s f).crcs = s.crcs ∧ (State.dropCleared s f).adcs = s.adcs ∧ (State.dropCleared s f).inp = s.inp ∧ (State.dropCleared s f).power = s.power ∧ (State.dropCleared s f).service = s.service ∧ (State.dropCleared s f).epochAt = s.epochAt ∧ (State.dropCleared s f).hostLost = s.hostLost ∧ (State.dropCleared s f).graph = s.graph ∧ (State.dropCleared s f).stay = s.stay := by
  unfold State.dropCleared
  simp

@[simp] theorem State.pressOn_keeps (s : State) (c : Chan) (e : Ev) (g : Nat) : (State.pressOn s c e g).pending = s.pending ∧ (State.pressOn s c e g).mem = s.mem ∧ (State.pressOn s c e g).mz = s.mz ∧ (State.pressOn s c e g).prog = s.prog ∧ (State.pressOn s c e g).refit = s.refit ∧ (State.pressOn s c e g).refitHeld = s.refitHeld ∧ (State.pressOn s c e g).fw = s.fw ∧ (State.pressOn s c e g).ses = s.ses ∧ (State.pressOn s c e g).nets = s.nets ∧ (State.pressOn s c e g).link = s.link ∧ (State.pressOn s c e g).ptp = s.ptp ∧ (State.pressOn s c e g).tims = s.tims ∧ (State.pressOn s c e g).crcs = s.crcs ∧ (State.pressOn s c e g).adcs = s.adcs ∧ (State.pressOn s c e g).inp = s.inp ∧ (State.pressOn s c e g).pairs = s.pairs ∧ (State.pressOn s c e g).power = s.power ∧ (State.pressOn s c e g).service = s.service ∧ (State.pressOn s c e g).epochAt = s.epochAt ∧ (State.pressOn s c e g).hostLost = s.hostLost ∧ (State.pressOn s c e g).stay = s.stay := by
  unfold State.pressOn
  simp

@[simp] theorem State.putNew_view (s : State) (f : Fld) (v : Nat) (c : Chan) (i : Nat) : (State.putNew s f v c i).view = s.view := by
  unfold State.putNew
  simp

@[simp] theorem State.putNew_keeps (s : State) (f : Fld) (v : Nat) (c : Chan) (i : Nat) : State.Same (State.putNew s f v c i) s :=
  State.keeps_of_view (State.putNew_view s f v c i)

@[simp] theorem State.showSignals_view (s : State) (c : Chan) (old new : Tab Int) : (State.showSignals s c old new).view = s.view := by
  unfold State.showSignals
  simp

@[simp] theorem State.showSignals_keeps (s : State) (c : Chan) (old new : Tab Int) : State.Same (State.showSignals s c old new) s :=
  State.keeps_of_view (State.showSignals_view s c old new)

@[simp] theorem State.showInsts_view (s : State) (c : Chan) (insts : Tab InstSt) : (State.showInsts s c insts).view = s.view := by
  unfold State.showInsts
  simp

@[simp] theorem State.showInsts_keeps (s : State) (c : Chan) (insts : Tab InstSt) : State.Same (State.showInsts s c insts) s :=
  State.keeps_of_view (State.showInsts_view s c insts)

@[simp] theorem State.putMap_view (s : State) (f : Fld) (c : Chan) (p : Nat → Bool) : (State.putMap s f c p).view = s.view := by
  unfold State.putMap
  simp

@[simp] theorem State.putMap_keeps (s : State) (f : Fld) (c : Chan) (p : Nat → Bool) : State.Same (State.putMap s f c p) s :=
  State.keeps_of_view (State.putMap_view s f c p)

@[simp] theorem State.showSf_view (s : State) (c : Chan) : (State.showSf s c).view = s.view := by
  unfold State.showSf
  simp

@[simp] theorem State.showSf_keeps (s : State) (c : Chan) : State.Same (State.showSf s c) s :=
  State.keeps_of_view (State.showSf_view s c)

@[simp] theorem State.evalChannel_keeps (s : State) (c : Chan) : (State.evalChannel s c).pending = s.pending ∧ (State.evalChannel s c).mem = s.mem ∧ (State.evalChannel s c).mz = s.mz ∧ (State.evalChannel s c).prog = s.prog ∧ (State.evalChannel s c).refit = s.refit ∧ (State.evalChannel s c).refitHeld = s.refitHeld ∧ (State.evalChannel s c).fw = s.fw ∧ (State.evalChannel s c).ses = s.ses ∧ (State.evalChannel s c).nets = s.nets ∧ (State.evalChannel s c).link = s.link ∧ (State.evalChannel s c).ptp = s.ptp ∧ (State.evalChannel s c).tims = s.tims ∧ (State.evalChannel s c).crcs = s.crcs ∧ (State.evalChannel s c).adcs = s.adcs ∧ (State.evalChannel s c).inp = s.inp ∧ (State.evalChannel s c).pairs = s.pairs ∧ (State.evalChannel s c).power = s.power ∧ (State.evalChannel s c).service = s.service ∧ (State.evalChannel s c).epochAt = s.epochAt ∧ (State.evalChannel s c).hostLost = s.hostLost ∧ (State.evalChannel s c).stay = s.stay := by
  unfold State.evalChannel
  simp

@[simp] theorem State.raiseBlocks_view (s : State) (old new : List (Nat × Nat)) : (State.raiseBlocks s old new).view = s.view := by
  unfold State.raiseBlocks
  simp

@[simp] theorem State.raiseBlocks_keeps (s : State) (old new : List (Nat × Nat)) : State.Same (State.raiseBlocks s old new) s :=
  State.keeps_of_view (State.raiseBlocks_view s old new)

@[simp] theorem State.updStops_view (s : State) (f : StopSt → StopSt) : (State.updStops s f).view = s.view := by
  unfold State.updStops
  simp

@[simp] theorem State.updStops_keeps (s : State) (f : StopSt → StopSt) : State.Same (State.updStops s f) s :=
  State.keeps_of_view (State.updStops_view s f)

@[simp] theorem State.recStop_view (s : State) (cause : Nat) (st : StopSt) : (State.recStop s cause st).view = s.view := by
  unfold State.recStop
  simp

@[simp] theorem State.recStop_keeps (s : State) (cause : Nat) (st : StopSt) : State.Same (State.recStop s cause st) s :=
  State.keeps_of_view (State.recStop_view s cause st)

@[simp] theorem State.showPhaseOf_view (s : State) (c : Chan) : (State.showPhaseOf s c).view = s.view := by
  unfold State.showPhaseOf
  simp

@[simp] theorem State.showPhaseOf_keeps (s : State) (c : Chan) : State.Same (State.showPhaseOf s c) s :=
  State.keeps_of_view (State.showPhaseOf_view s c)

@[simp] theorem State.beginStop_view (s : State) (c : Chan) (cause : Nat) : (State.beginStop s c cause).view = s.view := by
  unfold State.beginStop
  simp

@[simp] theorem State.beginStop_keeps (s : State) (c : Chan) (cause : Nat) : State.Same (State.beginStop s c cause) s :=
  State.keeps_of_view (State.beginStop_view s c cause)

@[simp] theorem State.finishStop_view (s : State) (c : Chan) (cause : Nat) : (State.finishStop s c cause).view = s.view := by
  unfold State.finishStop
  simp

@[simp] theorem State.finishStop_keeps (s : State) (c : Chan) (cause : Nat) : State.Same (State.finishStop s c cause) s :=
  State.keeps_of_view (State.finishStop_view s c cause)

@[simp] theorem State.furlStop_view (s : State) (c : Chan) (cause endCause : Nat) : (State.furlStop s c cause endCause).view = s.view := by
  unfold State.furlStop
  simp

@[simp] theorem State.furlStop_keeps (s : State) (c : Chan) (cause endCause : Nat) : State.Same (State.furlStop s c cause endCause) s :=
  State.keeps_of_view (State.furlStop_view s c cause endCause)

@[simp] theorem State.armLines_view (s : State) : (State.armLines s).view = s.view := by
  unfold State.armLines
  simp

@[simp] theorem State.armLines_keeps (s : State) : State.Same (State.armLines s) s :=
  State.keeps_of_view (State.armLines_view s)

@[simp] theorem State.stopBoundary_view (s : State) (c : Chan) : (State.stopBoundary s c).view = s.view := by
  unfold State.stopBoundary
  ((try dsimp only); repeat' (first | (simp; done) | split))

@[simp] theorem State.stopBoundary_keeps (s : State) (c : Chan) : State.Same (State.stopBoundary s c) s :=
  State.keeps_of_view (State.stopBoundary_view s c)

@[simp] theorem State.latchT0_keeps (s : State) (c : Chan) : (State.latchT0 s c).pending = s.pending ∧ (State.latchT0 s c).mem = s.mem ∧ (State.latchT0 s c).mz = s.mz ∧ (State.latchT0 s c).prog = s.prog ∧ (State.latchT0 s c).refit = s.refit ∧ (State.latchT0 s c).refitHeld = s.refitHeld ∧ (State.latchT0 s c).fw = s.fw ∧ (State.latchT0 s c).ses = s.ses ∧ (State.latchT0 s c).link = s.link ∧ (State.latchT0 s c).ptp = s.ptp ∧ (State.latchT0 s c).tims = s.tims ∧ (State.latchT0 s c).crcs = s.crcs ∧ (State.latchT0 s c).adcs = s.adcs ∧ (State.latchT0 s c).inp = s.inp ∧ (State.latchT0 s c).pairs = s.pairs ∧ (State.latchT0 s c).power = s.power ∧ (State.latchT0 s c).service = s.service ∧ (State.latchT0 s c).epochAt = s.epochAt ∧ (State.latchT0 s c).hostLost = s.hostLost ∧ (State.latchT0 s c).graph = s.graph ∧ (State.latchT0 s c).stay = s.stay := by
  unfold State.latchT0
  simp

@[simp] theorem State.furlExpire_view (s : State) (c : Chan) : (State.furlExpire s c).view = s.view := by
  unfold State.furlExpire
  simp

@[simp] theorem State.furlExpire_keeps (s : State) (c : Chan) : State.Same (State.furlExpire s c) s :=
  State.keeps_of_view (State.furlExpire_view s c)

@[simp] theorem State.furlBy_view (s : State) (cause : Nat) : (State.furlBy s cause).view = s.view := by
  unfold State.furlBy
  simp

@[simp] theorem State.furlBy_keeps (s : State) (cause : Nat) : State.Same (State.furlBy s cause) s :=
  State.keeps_of_view (State.furlBy_view s cause)

@[simp] theorem State.monitor_view (s : State) (c : Chan) : (State.monitor s c).view = s.view := by
  unfold State.monitor
  simp

@[simp] theorem State.monitor_keeps (s : State) (c : Chan) : State.Same (State.monitor s c) s :=
  State.keeps_of_view (State.monitor_view s c)

@[simp] theorem State.updAe_view (s : State) (c : Chan) (f : AeSt → AeSt) : (State.updAe s c f).view = s.view := by
  unfold State.updAe
  simp

@[simp] theorem State.updAe_keeps (s : State) (c : Chan) (f : AeSt → AeSt) : State.Same (State.updAe s c f) s :=
  State.keeps_of_view (State.updAe_view s c f)

@[simp] theorem State.updEnc_view (s : State) (c : Chan) (n : Nat) (f : EncSt → EncSt) : (State.updEnc s c n f).view = s.view := by
  unfold State.updEnc
  simp

@[simp] theorem State.updEnc_keeps (s : State) (c : Chan) (n : Nat) (f : EncSt → EncSt) : State.Same (State.updEnc s c n f) s :=
  State.keeps_of_view (State.updEnc_view s c n f)

@[simp] theorem State.setSrc_view (s : State) (c : Chan) (n : Nat) (p : Int) : (State.setSrc s c n p).view = s.view := by
  unfold State.setSrc
  simp

@[simp] theorem State.setSrc_keeps (s : State) (c : Chan) (n : Nat) (p : Int) : State.Same (State.setSrc s c n p) s :=
  State.keeps_of_view (State.setSrc_view s c n p)

@[simp] theorem State.stampChange_view (s : State) (c : Chan) (n t : Nat) : (State.stampChange s c n t).view = s.view := by
  unfold State.stampChange
  simp

@[simp] theorem State.stampChange_keeps (s : State) (c : Chan) (n t : Nat) : State.Same (State.stampChange s c n t) s :=
  State.keeps_of_view (State.stampChange_view s c n t)

@[simp] theorem State.decode_view (s : State) (c : Chan) (n : Nat) (o : EncObs) : (State.decode s c n o).view = s.view := by
  unfold State.decode
  simp

@[simp] theorem State.decode_keeps (s : State) (c : Chan) (n : Nat) (o : EncObs) : State.Same (State.decode s c n o) s :=
  State.keeps_of_view (State.decode_view s c n o)

@[simp] theorem State.lose_view (s : State) (c : Chan) : (State.lose s c).view = s.view := by
  unfold State.lose
  simp

@[simp] theorem State.lose_keeps (s : State) (c : Chan) : State.Same (State.lose s c) s :=
  State.keeps_of_view (State.lose_view s c)

@[simp] theorem State.coordFault_view (s : State) (c : Chan) (line detail : Nat) : (State.coordFault s c line detail).view = s.view := by
  unfold State.coordFault
  simp

@[simp] theorem State.coordFault_keeps (s : State) (c : Chan) (line detail : Nat) : State.Same (State.coordFault s c line detail) s :=
  State.keeps_of_view (State.coordFault_view s c line detail)

@[simp] theorem State.sourceClass1_view (s : State) (c : Chan) (n : Nat) : (State.sourceClass1 s c n).view = s.view := by
  unfold State.sourceClass1
  simp

@[simp] theorem State.sourceClass1_keeps (s : State) (c : Chan) (n : Nat) : State.Same (State.sourceClass1 s c n) s :=
  State.keeps_of_view (State.sourceClass1_view s c n)

@[simp] theorem State.bothSourcesFault_view (s : State) (n : Nat) : (State.bothSourcesFault s n).view = s.view := by
  unfold State.bothSourcesFault
  simp

@[simp] theorem State.bothSourcesFault_keeps (s : State) (n : Nat) : State.Same (State.bothSourcesFault s n) s :=
  State.keeps_of_view (State.bothSourcesFault_view s n)

@[simp] theorem State.motion_view (s : State) (c : Chan) : (State.motion s c).view = s.view := by
  unfold State.motion
  simp

@[simp] theorem State.motion_keeps (s : State) (c : Chan) : State.Same (State.motion s c) s :=
  State.keeps_of_view (State.motion_view s c)

@[simp] theorem State.showPos_view (s : State) (c : Chan) : (State.showPos s c).view = s.view := by
  unfold State.showPos
  simp

@[simp] theorem State.showPos_keeps (s : State) (c : Chan) : State.Same (State.showPos s c) s :=
  State.keeps_of_view (State.showPos_view s c)

@[simp] theorem State.takePos_view (s : State) (c : Chan) : (State.takePos s c).view = s.view := by
  unfold State.takePos
  simp

@[simp] theorem State.takePos_keeps (s : State) (c : Chan) : State.Same (State.takePos s c) s :=
  State.keeps_of_view (State.takePos_view s c)

@[simp] theorem State.rebase_keeps (s : State) (c : Chan) (p : Int) : (State.rebase s c p).pending = s.pending ∧ (State.rebase s c p).mem = s.mem ∧ (State.rebase s c p).mz = s.mz ∧ (State.rebase s c p).prog = s.prog ∧ (State.rebase s c p).refit = s.refit ∧ (State.rebase s c p).refitHeld = s.refitHeld ∧ (State.rebase s c p).fw = s.fw ∧ (State.rebase s c p).ses = s.ses ∧ (State.rebase s c p).nets = s.nets ∧ (State.rebase s c p).link = s.link ∧ (State.rebase s c p).ptp = s.ptp ∧ (State.rebase s c p).crcs = s.crcs ∧ (State.rebase s c p).adcs = s.adcs ∧ (State.rebase s c p).inp = s.inp ∧ (State.rebase s c p).pairs = s.pairs ∧ (State.rebase s c p).power = s.power ∧ (State.rebase s c p).service = s.service ∧ (State.rebase s c p).epochAt = s.epochAt ∧ (State.rebase s c p).hostLost = s.hostLost ∧ (State.rebase s c p).graph = s.graph ∧ (State.rebase s c p).stay = s.stay := by
  unfold State.rebase
  ((try dsimp only); repeat' (first | (simp; done) | split))

@[simp] theorem State.alignSec_view (s : State) (c : Chan) : (State.alignSec s c).view = s.view := by
  unfold State.alignSec
  simp

@[simp] theorem State.alignSec_keeps (s : State) (c : Chan) : State.Same (State.alignSec s c) s :=
  State.keeps_of_view (State.alignSec_view s c)

@[simp] theorem State.reference_keeps (s : State) (c : Chan) (k : Int) : (State.reference s c k).pending = s.pending ∧ (State.reference s c k).mem = s.mem ∧ (State.reference s c k).mz = s.mz ∧ (State.reference s c k).prog = s.prog ∧ (State.reference s c k).refit = s.refit ∧ (State.reference s c k).refitHeld = s.refitHeld ∧ (State.reference s c k).fw = s.fw ∧ (State.reference s c k).ses = s.ses ∧ (State.reference s c k).nets = s.nets ∧ (State.reference s c k).link = s.link ∧ (State.reference s c k).ptp = s.ptp ∧ (State.reference s c k).crcs = s.crcs ∧ (State.reference s c k).adcs = s.adcs ∧ (State.reference s c k).inp = s.inp ∧ (State.reference s c k).pairs = s.pairs ∧ (State.reference s c k).power = s.power ∧ (State.reference s c k).service = s.service ∧ (State.reference s c k).epochAt = s.epochAt ∧ (State.reference s c k).hostLost = s.hostLost ∧ (State.reference s c k).graph = s.graph ∧ (State.reference s c k).stay = s.stay := by
  unfold State.reference
  simp

@[simp] theorem State.checkRef_view (s : State) (c : Chan) (n : Nat) (k : Int) : (State.checkRef s c n k).view = s.view := by
  unfold State.checkRef
  ((try dsimp only); repeat' (first | (simp; done) | split))

@[simp] theorem State.checkRef_keeps (s : State) (c : Chan) (n : Nat) (k : Int) : State.Same (State.checkRef s c n k) s :=
  State.keeps_of_view (State.checkRef_view s c n k)

@[simp] theorem State.references_keeps (s : State) (c : Chan) : (State.references s c).pending = s.pending ∧ (State.references s c).mem = s.mem ∧ (State.references s c).mz = s.mz ∧ (State.references s c).prog = s.prog ∧ (State.references s c).refit = s.refit ∧ (State.references s c).refitHeld = s.refitHeld ∧ (State.references s c).fw = s.fw ∧ (State.references s c).ses = s.ses ∧ (State.references s c).nets = s.nets ∧ (State.references s c).link = s.link ∧ (State.references s c).ptp = s.ptp ∧ (State.references s c).crcs = s.crcs ∧ (State.references s c).adcs = s.adcs ∧ (State.references s c).inp = s.inp ∧ (State.references s c).pairs = s.pairs ∧ (State.references s c).power = s.power ∧ (State.references s c).service = s.service ∧ (State.references s c).epochAt = s.epochAt ∧ (State.references s c).hostLost = s.hostLost ∧ (State.references s c).graph = s.graph ∧ (State.references s c).stay = s.stay := by
  unfold State.references
  ((try dsimp only); repeat' (first | (simp; done) | split))

@[simp] theorem State.compareSources_view (s : State) (c : Chan) : (State.compareSources s c).view = s.view := by
  unfold State.compareSources
  simp

@[simp] theorem State.compareSources_keeps (s : State) (c : Chan) : State.Same (State.compareSources s c) s :=
  State.keeps_of_view (State.compareSources_view s c)

@[simp] theorem State.enterLinear_keeps (s : State) (c : Chan) : (State.enterLinear s c).pending = s.pending ∧ (State.enterLinear s c).mem = s.mem ∧ (State.enterLinear s c).mz = s.mz ∧ (State.enterLinear s c).prog = s.prog ∧ (State.enterLinear s c).refit = s.refit ∧ (State.enterLinear s c).refitHeld = s.refitHeld ∧ (State.enterLinear s c).fw = s.fw ∧ (State.enterLinear s c).ses = s.ses ∧ (State.enterLinear s c).nets = s.nets ∧ (State.enterLinear s c).link = s.link ∧ (State.enterLinear s c).ptp = s.ptp ∧ (State.enterLinear s c).crcs = s.crcs ∧ (State.enterLinear s c).adcs = s.adcs ∧ (State.enterLinear s c).inp = s.inp ∧ (State.enterLinear s c).pairs = s.pairs ∧ (State.enterLinear s c).power = s.power ∧ (State.enterLinear s c).service = s.service ∧ (State.enterLinear s c).epochAt = s.epochAt ∧ (State.enterLinear s c).hostLost = s.hostLost ∧ (State.enterLinear s c).graph = s.graph ∧ (State.enterLinear s c).stay = s.stay := by
  unfold State.enterLinear
  simp

@[simp] theorem State.advanceState_keeps (s : State) (c : Chan) : (State.advanceState s c).pending = s.pending ∧ (State.advanceState s c).mem = s.mem ∧ (State.advanceState s c).mz = s.mz ∧ (State.advanceState s c).prog = s.prog ∧ (State.advanceState s c).refit = s.refit ∧ (State.advanceState s c).refitHeld = s.refitHeld ∧ (State.advanceState s c).fw = s.fw ∧ (State.advanceState s c).ses = s.ses ∧ (State.advanceState s c).nets = s.nets ∧ (State.advanceState s c).link = s.link ∧ (State.advanceState s c).ptp = s.ptp ∧ (State.advanceState s c).crcs = s.crcs ∧ (State.advanceState s c).adcs = s.adcs ∧ (State.advanceState s c).inp = s.inp ∧ (State.advanceState s c).pairs = s.pairs ∧ (State.advanceState s c).power = s.power ∧ (State.advanceState s c).service = s.service ∧ (State.advanceState s c).epochAt = s.epochAt ∧ (State.advanceState s c).hostLost = s.hostLost ∧ (State.advanceState s c).graph = s.graph ∧ (State.advanceState s c).stay = s.stay := by
  unfold State.advanceState
  simp

@[simp] theorem State.showSources_view (s : State) (c : Chan) (bad : BitVec 4) : (State.showSources s c bad).view = s.view := by
  unfold State.showSources
  simp

@[simp] theorem State.showSources_keeps (s : State) (c : Chan) (bad : BitVec 4) : State.Same (State.showSources s c bad) s :=
  State.keeps_of_view (State.showSources_view s c bad)

@[simp] theorem State.recCam_view (s : State) (c : Chan) (n act dir : Nat) : (State.recCam s c n act dir).view = s.view := by
  unfold State.recCam
  simp

@[simp] theorem State.recCam_keeps (s : State) (c : Chan) (n act dir : Nat) : State.Same (State.recCam s c n act dir) s :=
  State.keeps_of_view (State.recCam_view s c n act dir)

@[simp] theorem State.windows_view (s : State) (c : Chan) : (State.windows s c).view = s.view := by
  unfold State.windows
  simp

@[simp] theorem State.windows_keeps (s : State) (c : Chan) : State.Same (State.windows s c) s :=
  State.keeps_of_view (State.windows_view s c)

@[simp] theorem State.updPt_view (s : State) (c : Chan) (n : Nat) (f : PtSt → PtSt) : (State.updPt s c n f).view = s.view := by
  unfold State.updPt
  simp

@[simp] theorem State.updPt_keeps (s : State) (c : Chan) (n : Nat) (f : PtSt → PtSt) : State.Same (State.updPt s c n f) s :=
  State.keeps_of_view (State.updPt_view s c n f)

@[simp] theorem State.fireCam_keeps (s : State) (c : Chan) (n dir : Nat) : (State.fireCam s c n dir).pending = s.pending ∧ (State.fireCam s c n dir).mem = s.mem ∧ (State.fireCam s c n dir).mz = s.mz ∧ (State.fireCam s c n dir).prog = s.prog ∧ (State.fireCam s c n dir).refit = s.refit ∧ (State.fireCam s c n dir).refitHeld = s.refitHeld ∧ (State.fireCam s c n dir).fw = s.fw ∧ (State.fireCam s c n dir).ses = s.ses ∧ (State.fireCam s c n dir).nets = s.nets ∧ (State.fireCam s c n dir).link = s.link ∧ (State.fireCam s c n dir).ptp = s.ptp ∧ (State.fireCam s c n dir).crcs = s.crcs ∧ (State.fireCam s c n dir).inp = s.inp ∧ (State.fireCam s c n dir).pairs = s.pairs ∧ (State.fireCam s c n dir).power = s.power ∧ (State.fireCam s c n dir).service = s.service ∧ (State.fireCam s c n dir).epochAt = s.epochAt ∧ (State.fireCam s c n dir).hostLost = s.hostLost ∧ (State.fireCam s c n dir).graph = s.graph ∧ (State.fireCam s c n dir).stay = s.stay := by
  unfold State.fireCam
  simp

@[simp] theorem State.judgePoint_keeps (s : State) (c : Chan) (n : Nat) (x : PtSt) (cr : Option (Nat × Int)) : (State.judgePoint s c n x cr).pending = s.pending ∧ (State.judgePoint s c n x cr).mem = s.mem ∧ (State.judgePoint s c n x cr).mz = s.mz ∧ (State.judgePoint s c n x cr).prog = s.prog ∧ (State.judgePoint s c n x cr).refit = s.refit ∧ (State.judgePoint s c n x cr).refitHeld = s.refitHeld ∧ (State.judgePoint s c n x cr).fw = s.fw ∧ (State.judgePoint s c n x cr).ses = s.ses ∧ (State.judgePoint s c n x cr).nets = s.nets ∧ (State.judgePoint s c n x cr).link = s.link ∧ (State.judgePoint s c n x cr).ptp = s.ptp ∧ (State.judgePoint s c n x cr).crcs = s.crcs ∧ (State.judgePoint s c n x cr).inp = s.inp ∧ (State.judgePoint s c n x cr).pairs = s.pairs ∧ (State.judgePoint s c n x cr).power = s.power ∧ (State.judgePoint s c n x cr).service = s.service ∧ (State.judgePoint s c n x cr).epochAt = s.epochAt ∧ (State.judgePoint s c n x cr).hostLost = s.hostLost ∧ (State.judgePoint s c n x cr).graph = s.graph ∧ (State.judgePoint s c n x cr).stay = s.stay := by
  unfold State.judgePoint
  ((try dsimp only); repeat' (first | (simp; done) | split))

@[simp] theorem State.predict_view (s : State) (c : Chan) (n : Nat) : (State.predict s c n).view = s.view := by
  unfold State.predict
  simp

@[simp] theorem State.predict_keeps (s : State) (c : Chan) (n : Nat) : State.Same (State.predict s c n) s :=
  State.keeps_of_view (State.predict_view s c n)

@[simp] theorem State.firePredicted_keeps (s : State) (c : Chan) (n : Nat) : (State.firePredicted s c n).pending = s.pending ∧ (State.firePredicted s c n).mem = s.mem ∧ (State.firePredicted s c n).mz = s.mz ∧ (State.firePredicted s c n).prog = s.prog ∧ (State.firePredicted s c n).refit = s.refit ∧ (State.firePredicted s c n).refitHeld = s.refitHeld ∧ (State.firePredicted s c n).fw = s.fw ∧ (State.firePredicted s c n).ses = s.ses ∧ (State.firePredicted s c n).nets = s.nets ∧ (State.firePredicted s c n).link = s.link ∧ (State.firePredicted s c n).ptp = s.ptp ∧ (State.firePredicted s c n).crcs = s.crcs ∧ (State.firePredicted s c n).inp = s.inp ∧ (State.firePredicted s c n).pairs = s.pairs ∧ (State.firePredicted s c n).power = s.power ∧ (State.firePredicted s c n).service = s.service ∧ (State.firePredicted s c n).epochAt = s.epochAt ∧ (State.firePredicted s c n).hostLost = s.hostLost ∧ (State.firePredicted s c n).graph = s.graph ∧ (State.firePredicted s c n).stay = s.stay := by
  unfold State.firePredicted
  ((try dsimp only); repeat' (first | (simp; done) | split))

@[simp] theorem State.eventPoint_keeps (s : State) (c : Chan) (p : Int) (n : Nat) : (State.eventPoint s c p n).pending = s.pending ∧ (State.eventPoint s c p n).mem = s.mem ∧ (State.eventPoint s c p n).mz = s.mz ∧ (State.eventPoint s c p n).prog = s.prog ∧ (State.eventPoint s c p n).refit = s.refit ∧ (State.eventPoint s c p n).refitHeld = s.refitHeld ∧ (State.eventPoint s c p n).fw = s.fw ∧ (State.eventPoint s c p n).ses = s.ses ∧ (State.eventPoint s c p n).nets = s.nets ∧ (State.eventPoint s c p n).link = s.link ∧ (State.eventPoint s c p n).ptp = s.ptp ∧ (State.eventPoint s c p n).crcs = s.crcs ∧ (State.eventPoint s c p n).inp = s.inp ∧ (State.eventPoint s c p n).pairs = s.pairs ∧ (State.eventPoint s c p n).power = s.power ∧ (State.eventPoint s c p n).service = s.service ∧ (State.eventPoint s c p n).epochAt = s.epochAt ∧ (State.eventPoint s c p n).hostLost = s.hostLost ∧ (State.eventPoint s c p n).graph = s.graph ∧ (State.eventPoint s c p n).stay = s.stay := by
  unfold State.eventPoint
  simp

@[simp] theorem State.events_keeps (s : State) (c : Chan) (p : Int) (jumped wasFar : Bool) : (State.events s c p jumped wasFar).pending = s.pending ∧ (State.events s c p jumped wasFar).mem = s.mem ∧ (State.events s c p jumped wasFar).mz = s.mz ∧ (State.events s c p jumped wasFar).prog = s.prog ∧ (State.events s c p jumped wasFar).refit = s.refit ∧ (State.events s c p jumped wasFar).refitHeld = s.refitHeld ∧ (State.events s c p jumped wasFar).fw = s.fw ∧ (State.events s c p jumped wasFar).ses = s.ses ∧ (State.events s c p jumped wasFar).nets = s.nets ∧ (State.events s c p jumped wasFar).link = s.link ∧ (State.events s c p jumped wasFar).ptp = s.ptp ∧ (State.events s c p jumped wasFar).crcs = s.crcs ∧ (State.events s c p jumped wasFar).inp = s.inp ∧ (State.events s c p jumped wasFar).pairs = s.pairs ∧ (State.events s c p jumped wasFar).power = s.power ∧ (State.events s c p jumped wasFar).service = s.service ∧ (State.events s c p jumped wasFar).epochAt = s.epochAt ∧ (State.events s c p jumped wasFar).hostLost = s.hostLost ∧ (State.events s c p jumped wasFar).graph = s.graph ∧ (State.events s c p jumped wasFar).stay = s.stay := by
  unfold State.events
  simp

@[simp] theorem State.takeOrigin_view (s : State) (c : Chan) : ((State.takeOrigin s c).1).view = s.view := by
  unfold State.takeOrigin
  ((try dsimp only); repeat' (first | (simp; done) | split))

@[simp] theorem State.takeOrigin_keeps (s : State) (c : Chan) : State.Same ((State.takeOrigin s c).1) s :=
  State.keeps_of_view (State.takeOrigin_view s c)

@[simp] theorem State.takeFar_view (s : State) (c : Chan) : (State.takeFar s c).view = s.view := by
  unfold State.takeFar
  simp

@[simp] theorem State.takeFar_keeps (s : State) (c : Chan) : State.Same (State.takeFar s c) s :=
  State.keeps_of_view (State.takeFar_view s c)

@[simp] theorem State.displacements_view (s : State) (c : Chan) : (State.displacements s c).view = s.view := by
  unfold State.displacements
  simp

@[simp] theorem State.displacements_keeps (s : State) (c : Chan) : State.Same (State.displacements s c) s :=
  State.keeps_of_view (State.displacements_view s c)

@[simp] theorem State.master_view (s : State) (c : Chan) : (State.master s c).view = s.view := by
  unfold State.master
  ((try dsimp only); repeat' (first | (simp; done) | split))

@[simp] theorem State.master_keeps (s : State) (c : Chan) : State.Same (State.master s c) s :=
  State.keeps_of_view (State.master_view s c)

@[simp] theorem State.startUpdate_view (s : State) (c : Chan) (t : Nat) : (State.startUpdate s c t).view = s.view := by
  unfold State.startUpdate
  simp

@[simp] theorem State.startUpdate_keeps (s : State) (c : Chan) (t : Nat) : State.Same (State.startUpdate s c t) s :=
  State.keeps_of_view (State.startUpdate_view s c t)

@[simp] theorem State.stepTimers_keeps (s : State) (c : Chan) (p : Int) : (State.stepTimers s c p).pending = s.pending ∧ (State.stepTimers s c p).mem = s.mem ∧ (State.stepTimers s c p).mz = s.mz ∧ (State.stepTimers s c p).prog = s.prog ∧ (State.stepTimers s c p).refit = s.refit ∧ (State.stepTimers s c p).refitHeld = s.refitHeld ∧ (State.stepTimers s c p).fw = s.fw ∧ (State.stepTimers s c p).ses = s.ses ∧ (State.stepTimers s c p).nets = s.nets ∧ (State.stepTimers s c p).link = s.link ∧ (State.stepTimers s c p).ptp = s.ptp ∧ (State.stepTimers s c p).crcs = s.crcs ∧ (State.stepTimers s c p).adcs = s.adcs ∧ (State.stepTimers s c p).inp = s.inp ∧ (State.stepTimers s c p).pairs = s.pairs ∧ (State.stepTimers s c p).power = s.power ∧ (State.stepTimers s c p).service = s.service ∧ (State.stepTimers s c p).epochAt = s.epochAt ∧ (State.stepTimers s c p).hostLost = s.hostLost ∧ (State.stepTimers s c p).graph = s.graph ∧ (State.stepTimers s c p).stay = s.stay := by
  unfold State.stepTimers
  ((try dsimp only); repeat' (first | (simp; done) | split))

@[simp] theorem State.coordinate_keeps (s : State) (c : Chan) (bad : BitVec 4) : ((State.coordinate s c bad).1).pending = s.pending ∧ ((State.coordinate s c bad).1).mem = s.mem ∧ ((State.coordinate s c bad).1).mz = s.mz ∧ ((State.coordinate s c bad).1).prog = s.prog ∧ ((State.coordinate s c bad).1).refit = s.refit ∧ ((State.coordinate s c bad).1).refitHeld = s.refitHeld ∧ ((State.coordinate s c bad).1).fw = s.fw ∧ ((State.coordinate s c bad).1).ses = s.ses ∧ ((State.coordinate s c bad).1).nets = s.nets ∧ ((State.coordinate s c bad).1).link = s.link ∧ ((State.coordinate s c bad).1).ptp = s.ptp ∧ ((State.coordinate s c bad).1).crcs = s.crcs ∧ ((State.coordinate s c bad).1).adcs = s.adcs ∧ ((State.coordinate s c bad).1).inp = s.inp ∧ ((State.coordinate s c bad).1).pairs = s.pairs ∧ ((State.coordinate s c bad).1).power = s.power ∧ ((State.coordinate s c bad).1).service = s.service ∧ ((State.coordinate s c bad).1).epochAt = s.epochAt ∧ ((State.coordinate s c bad).1).hostLost = s.hostLost ∧ ((State.coordinate s c bad).1).graph = s.graph ∧ ((State.coordinate s c bad).1).stay = s.stay := by
  unfold State.coordinate
  simp

@[simp] theorem State.cams_keeps (s : State) (c : Chan) (p : Int) : (State.cams s c p).pending = s.pending ∧ (State.cams s c p).mem = s.mem ∧ (State.cams s c p).mz = s.mz ∧ (State.cams s c p).prog = s.prog ∧ (State.cams s c p).refit = s.refit ∧ (State.cams s c p).refitHeld = s.refitHeld ∧ (State.cams s c p).fw = s.fw ∧ (State.cams s c p).ses = s.ses ∧ (State.cams s c p).nets = s.nets ∧ (State.cams s c p).link = s.link ∧ (State.cams s c p).ptp = s.ptp ∧ (State.cams s c p).crcs = s.crcs ∧ (State.cams s c p).inp = s.inp ∧ (State.cams s c p).pairs = s.pairs ∧ (State.cams s c p).power = s.power ∧ (State.cams s c p).service = s.service ∧ (State.cams s c p).epochAt = s.epochAt ∧ (State.cams s c p).hostLost = s.hostLost ∧ (State.cams s c p).graph = s.graph ∧ (State.cams s c p).stay = s.stay := by
  unfold State.cams
  simp

@[simp] theorem State.showOtp_view (s : State) : (State.showOtp s).view = s.view := by
  unfold State.showOtp
  simp

@[simp] theorem State.showOtp_keeps (s : State) : State.Same (State.showOtp s) s :=
  State.keeps_of_view (State.showOtp_view s)

@[simp] theorem State.showIdentity_view (s : State) : (State.showIdentity s).view = s.view := by
  unfold State.showIdentity
  simp

@[simp] theorem State.showIdentity_keeps (s : State) : State.Same (State.showIdentity s) s :=
  State.keeps_of_view (State.showIdentity_view s)

@[simp] theorem State.blow_view (s : State) (n : Nat) (f : BitVec 72) : (State.blow s n f).view = s.view := by
  unfold State.blow
  simp

@[simp] theorem State.blow_keeps (s : State) (n : Nat) (f : BitVec 72) : State.Same (State.blow s n f) s :=
  State.keeps_of_view (State.blow_view s n f)

@[simp] theorem State.blowPart_view (s : State) (n : Nat) (f : BitVec 72) : (State.blowPart s n f).view = s.view := by
  unfold State.blowPart
  simp

@[simp] theorem State.blowPart_keeps (s : State) (n : Nat) (f : BitVec 72) : State.Same (State.blowPart s n f) s :=
  State.keeps_of_view (State.blowPart_view s n f)

@[simp] theorem State.tally_view (s : State) (n bits : Nat) : (State.tally s n bits).view = s.view := by
  unfold State.tally
  simp

@[simp] theorem State.tally_keeps (s : State) (n bits : Nat) : State.Same (State.tally s n bits) s :=
  State.keeps_of_view (State.tally_view s n bits)

@[simp] theorem State.advanceCounter_view (s : State) (n v : Nat) : (State.advanceCounter s n v).view = s.view := by
  unfold State.advanceCounter
  simp

@[simp] theorem State.advanceCounter_keeps (s : State) (n v : Nat) : State.Same (State.advanceCounter s n v) s :=
  State.keeps_of_view (State.advanceCounter_view s n v)

@[simp] theorem State.otpStart_view (s : State) (cmd addr : Nat) : (State.otpStart s cmd addr).view = s.view := by
  unfold State.otpStart
  simp

@[simp] theorem State.otpStart_keeps (s : State) (cmd addr : Nat) : State.Same (State.otpStart s cmd addr) s :=
  State.keeps_of_view (State.otpStart_view s cmd addr)

@[simp] theorem State.otpCommand_view (s : State) (i : Initiator) (who : Bool) (cmd addr : Nat) : (State.otpCommand s i who cmd addr).view = s.view := by
  unfold State.otpCommand
  simp

@[simp] theorem State.otpCommand_keeps (s : State) (i : Initiator) (who : Bool) (cmd addr : Nat) : State.Same (State.otpCommand s i who cmd addr) s :=
  State.keeps_of_view (State.otpCommand_view s i who cmd addr)

@[simp] theorem State.otpAlarm_view (s : State) (n : Nat) : (State.otpAlarm s n).view = s.view := by
  unfold State.otpAlarm
  simp

@[simp] theorem State.otpAlarm_keeps (s : State) (n : Nat) : State.Same (State.otpAlarm s n) s :=
  State.keeps_of_view (State.otpAlarm_view s n)

@[simp] theorem State.otpShow_view (s : State) (n : Nat) (three : Bool) (o : Sense) : (State.otpShow s n three o).view = s.view := by
  unfold State.otpShow
  ((try dsimp only); repeat' (first | (simp; done) | split))

@[simp] theorem State.otpShow_keeps (s : State) (n : Nat) (three : Bool) (o : Sense) : State.Same (State.otpShow s n three o) s :=
  State.keeps_of_view (State.otpShow_view s n three o)

@[simp] theorem State.otpBlow_view (s : State) (c : OtpCmd) (ok : Bool) : ((State.otpBlow s c ok).1).view = s.view := by
  unfold State.otpBlow
  ((try dsimp only); repeat' (first | (simp; done) | split))

@[simp] theorem State.otpBlow_keeps (s : State) (c : OtpCmd) (ok : Bool) : State.Same ((State.otpBlow s c ok).1) s :=
  State.keeps_of_view (State.otpBlow_view s c ok)

@[simp] theorem State.otpInterrupt_view (s : State) : (State.otpInterrupt s).view = s.view := by
  unfold State.otpInterrupt
  ((try dsimp only); repeat' (first | (simp; done) | split))

@[simp] theorem State.otpInterrupt_keeps (s : State) : State.Same (State.otpInterrupt s) s :=
  State.keeps_of_view (State.otpInterrupt_view s)

@[simp] theorem State.clearConfig_view (s : State) : (State.clearConfig s).view = s.view := by
  unfold State.clearConfig
  simp

@[simp] theorem State.clearConfig_keeps (s : State) : State.Same (State.clearConfig s) s :=
  State.keeps_of_view (State.clearConfig_view s)

@[simp] theorem State.loadFields_view (s : State) (im : Image) (nets : Bool) : (State.loadFields s im nets).view = s.view := by
  unfold State.loadFields
  simp

@[simp] theorem State.loadFields_keeps (s : State) (im : Image) (nets : Bool) : State.Same (State.loadFields s im nets) s :=
  State.keeps_of_view (State.loadFields_view s im nets)

@[simp] theorem State.showImgErr_view (s : State) (e : ImgErr) : (State.showImgErr s e).view = s.view := by
  unfold State.showImgErr
  simp

@[simp] theorem State.showImgErr_keeps (s : State) (e : ImgErr) : State.Same (State.showImgErr s e) s :=
  State.keeps_of_view (State.showImgErr_view s e)

@[simp] theorem State.showImage_view (s : State) (im : Image) (slot : Nat) : (State.showImage s im slot).view = s.view := by
  unfold State.showImage
  simp

@[simp] theorem State.showImage_keeps (s : State) (im : Image) (slot : Nat) : State.Same (State.showImage s im slot) s :=
  State.keeps_of_view (State.showImage_view s im slot)

@[simp] theorem State.loadDies_view (s : State) : (State.loadDies s).view = s.view := by
  unfold State.loadDies
  simp

@[simp] theorem State.loadDies_keeps (s : State) : State.Same (State.loadDies s) s :=
  State.keeps_of_view (State.loadDies_view s)

@[simp] theorem State.oweAll_view (s : State) : (State.oweAll s).view = s.view := by
  unfold State.oweAll
  simp

@[simp] theorem State.oweAll_keeps (s : State) : State.Same (State.oweAll s) s :=
  State.keeps_of_view (State.oweAll_view s)

@[simp] theorem State.openSessions_view (s : State) : (State.openSessions s).view = s.view := by
  unfold State.openSessions
  simp

@[simp] theorem State.openSessions_keeps (s : State) : State.Same (State.openSessions s) s :=
  State.keeps_of_view (State.openSessions_view s)

@[simp] theorem State.calibrateAll_keeps (s : State) : (State.calibrateAll s).pending = s.pending ∧ (State.calibrateAll s).mem = s.mem ∧ (State.calibrateAll s).mz = s.mz ∧ (State.calibrateAll s).prog = s.prog ∧ (State.calibrateAll s).refit = s.refit ∧ (State.calibrateAll s).refitHeld = s.refitHeld ∧ (State.calibrateAll s).fw = s.fw ∧ (State.calibrateAll s).ses = s.ses ∧ (State.calibrateAll s).nets = s.nets ∧ (State.calibrateAll s).link = s.link ∧ (State.calibrateAll s).ptp = s.ptp ∧ (State.calibrateAll s).tims = s.tims ∧ (State.calibrateAll s).crcs = s.crcs ∧ (State.calibrateAll s).inp = s.inp ∧ (State.calibrateAll s).pairs = s.pairs ∧ (State.calibrateAll s).power = s.power ∧ (State.calibrateAll s).service = s.service ∧ (State.calibrateAll s).epochAt = s.epochAt ∧ (State.calibrateAll s).hostLost = s.hostLost ∧ (State.calibrateAll s).graph = s.graph ∧ (State.calibrateAll s).stay = s.stay := by
  unfold State.calibrateAll
  simp

@[simp] theorem State.loadImage_keeps (s : State) (im : Image) (slot : Nat) (nets : Bool) : (State.loadImage s im slot nets).pending = s.pending ∧ (State.loadImage s im slot nets).mem = s.mem ∧ (State.loadImage s im slot nets).mz = s.mz ∧ (State.loadImage s im slot nets).refit = s.refit ∧ (State.loadImage s im slot nets).refitHeld = s.refitHeld ∧ (State.loadImage s im slot nets).fw = s.fw ∧ (State.loadImage s im slot nets).ses = s.ses ∧ (State.loadImage s im slot nets).nets = s.nets ∧ (State.loadImage s im slot nets).ptp = s.ptp ∧ (State.loadImage s im slot nets).tims = s.tims ∧ (State.loadImage s im slot nets).crcs = s.crcs ∧ (State.loadImage s im slot nets).inp = s.inp ∧ (State.loadImage s im slot nets).pairs = s.pairs ∧ (State.loadImage s im slot nets).power = s.power ∧ (State.loadImage s im slot nets).service = s.service ∧ (State.loadImage s im slot nets).epochAt = s.epochAt ∧ (State.loadImage s im slot nets).hostLost = s.hostLost ∧ (State.loadImage s im slot nets).graph = s.graph ∧ (State.loadImage s im slot nets).stay = s.stay := by
  unfold State.loadImage
  simp

@[simp] theorem State.fwEvent_view (s : State) (i n : Nat) (old new : FwRegion) : (State.fwEvent s i n old new).view = s.view := by
  unfold State.fwEvent
  simp

@[simp] theorem State.fwEvent_keeps (s : State) (i n : Nat) (old new : FwRegion) : State.Same (State.fwEvent s i n old new) s :=
  State.keeps_of_view (State.fwEvent_view s i n old new)

@[simp] theorem State.setRegion_keeps (s : State) (i n : Nat) (g : FwRegion) : (State.setRegion s i n g).pending = s.pending ∧ (State.setRegion s i n g).mem = s.mem ∧ (State.setRegion s i n g).mz = s.mz ∧ (State.setRegion s i n g).prog = s.prog ∧ (State.setRegion s i n g).refit = s.refit ∧ (State.setRegion s i n g).refitHeld = s.refitHeld ∧ (State.setRegion s i n g).ses = s.ses ∧ (State.setRegion s i n g).nets = s.nets ∧ (State.setRegion s i n g).link = s.link ∧ (State.setRegion s i n g).ptp = s.ptp ∧ (State.setRegion s i n g).tims = s.tims ∧ (State.setRegion s i n g).crcs = s.crcs ∧ (State.setRegion s i n g).adcs = s.adcs ∧ (State.setRegion s i n g).inp = s.inp ∧ (State.setRegion s i n g).pairs = s.pairs ∧ (State.setRegion s i n g).power = s.power ∧ (State.setRegion s i n g).service = s.service ∧ (State.setRegion s i n g).epochAt = s.epochAt ∧ (State.setRegion s i n g).hostLost = s.hostLost ∧ (State.setRegion s i n g).graph = s.graph ∧ (State.setRegion s i n g).stay = s.stay := by
  unfold State.setRegion
  simp

@[simp] theorem State.fwControl_pending (s : State) (i : Initiator) (f : State → State) (h : ∀ x, (f x).pending = x.pending) : (s.fwControl i f).pending = s.pending := by
  unfold State.fwControl
  simp [h]

@[simp] theorem State.fwControl_mem (s : State) (i : Initiator) (f : State → State) (h : ∀ x, (f x).mem = x.mem) : (s.fwControl i f).mem = s.mem := by
  unfold State.fwControl
  simp [h]

@[simp] theorem State.fwControl_mz (s : State) (i : Initiator) (f : State → State) (h : ∀ x, (f x).mz = x.mz) : (s.fwControl i f).mz = s.mz := by
  unfold State.fwControl
  simp [h]

@[simp] theorem State.fwControl_prog (s : State) (i : Initiator) (f : State → State) (h : ∀ x, (f x).prog = x.prog) : (s.fwControl i f).prog = s.prog := by
  unfold State.fwControl
  simp [h]

@[simp] theorem State.fwControl_refit (s : State) (i : Initiator) (f : State → State) (h : ∀ x, (f x).refit = x.refit) : (s.fwControl i f).refit = s.refit := by
  unfold State.fwControl
  simp [h]

@[simp] theorem State.fwControl_refitHeld (s : State) (i : Initiator) (f : State → State) (h : ∀ x, (f x).refitHeld = x.refitHeld) : (s.fwControl i f).refitHeld = s.refitHeld := by
  unfold State.fwControl
  simp [h]

@[simp] theorem State.fwControl_fw (s : State) (i : Initiator) (f : State → State) (h : ∀ x, (f x).fw = x.fw) : (s.fwControl i f).fw = s.fw := by
  unfold State.fwControl
  simp [h]

@[simp] theorem State.fwControl_ses (s : State) (i : Initiator) (f : State → State) (h : ∀ x, (f x).ses = x.ses) : (s.fwControl i f).ses = s.ses := by
  unfold State.fwControl
  simp [h]

@[simp] theorem State.fwControl_nets (s : State) (i : Initiator) (f : State → State) (h : ∀ x, (f x).nets = x.nets) : (s.fwControl i f).nets = s.nets := by
  unfold State.fwControl
  simp [h]

@[simp] theorem State.fwControl_link (s : State) (i : Initiator) (f : State → State) (h : ∀ x, (f x).link = x.link) : (s.fwControl i f).link = s.link := by
  unfold State.fwControl
  simp [h]

@[simp] theorem State.fwControl_ptp (s : State) (i : Initiator) (f : State → State) (h : ∀ x, (f x).ptp = x.ptp) : (s.fwControl i f).ptp = s.ptp := by
  unfold State.fwControl
  simp [h]

@[simp] theorem State.fwControl_tims (s : State) (i : Initiator) (f : State → State) (h : ∀ x, (f x).tims = x.tims) : (s.fwControl i f).tims = s.tims := by
  unfold State.fwControl
  simp [h]

@[simp] theorem State.fwControl_crcs (s : State) (i : Initiator) (f : State → State) (h : ∀ x, (f x).crcs = x.crcs) : (s.fwControl i f).crcs = s.crcs := by
  unfold State.fwControl
  simp [h]

@[simp] theorem State.fwControl_adcs (s : State) (i : Initiator) (f : State → State) (h : ∀ x, (f x).adcs = x.adcs) : (s.fwControl i f).adcs = s.adcs := by
  unfold State.fwControl
  simp [h]

@[simp] theorem State.fwControl_inp (s : State) (i : Initiator) (f : State → State) (h : ∀ x, (f x).inp = x.inp) : (s.fwControl i f).inp = s.inp := by
  unfold State.fwControl
  simp [h]

@[simp] theorem State.fwControl_pairs (s : State) (i : Initiator) (f : State → State) (h : ∀ x, (f x).pairs = x.pairs) : (s.fwControl i f).pairs = s.pairs := by
  unfold State.fwControl
  simp [h]

@[simp] theorem State.fwControl_power (s : State) (i : Initiator) (f : State → State) (h : ∀ x, (f x).power = x.power) : (s.fwControl i f).power = s.power := by
  unfold State.fwControl
  simp [h]

@[simp] theorem State.fwControl_service (s : State) (i : Initiator) (f : State → State) (h : ∀ x, (f x).service = x.service) : (s.fwControl i f).service = s.service := by
  unfold State.fwControl
  simp [h]

@[simp] theorem State.fwControl_epochAt (s : State) (i : Initiator) (f : State → State) (h : ∀ x, (f x).epochAt = x.epochAt) : (s.fwControl i f).epochAt = s.epochAt := by
  unfold State.fwControl
  simp [h]

@[simp] theorem State.fwControl_hostLost (s : State) (i : Initiator) (f : State → State) (h : ∀ x, (f x).hostLost = x.hostLost) : (s.fwControl i f).hostLost = s.hostLost := by
  unfold State.fwControl
  simp [h]

@[simp] theorem State.fwControl_graph (s : State) (i : Initiator) (f : State → State) (h : ∀ x, (f x).graph = x.graph) : (s.fwControl i f).graph = s.graph := by
  unfold State.fwControl
  simp [h]

@[simp] theorem State.fwControl_stay (s : State) (i : Initiator) (f : State → State) (h : ∀ x, (f x).stay = x.stay) : (s.fwControl i f).stay = s.stay := by
  unfold State.fwControl
  simp [h]

@[simp] theorem State.resetDies_view (s : State) (fatal : Bool) : (State.resetDies s fatal).view = s.view := by
  unfold State.resetDies
  simp

@[simp] theorem State.resetDies_keeps (s : State) (fatal : Bool) : State.Same (State.resetDies s fatal) s :=
  State.keeps_of_view (State.resetDies_view s fatal)

@[simp] theorem State.resetSafety_keeps (s : State) : (State.resetSafety s).pending = s.pending ∧ (State.resetSafety s).mem = s.mem ∧ (State.resetSafety s).mz = s.mz ∧ (State.resetSafety s).prog = s.prog ∧ (State.resetSafety s).refit = s.refit ∧ (State.resetSafety s).refitHeld = s.refitHeld ∧ (State.resetSafety s).fw = s.fw ∧ (State.resetSafety s).ses = s.ses ∧ (State.resetSafety s).nets = s.nets ∧ (State.resetSafety s).link = s.link ∧ (State.resetSafety s).ptp = s.ptp ∧ (State.resetSafety s).tims = s.tims ∧ (State.resetSafety s).crcs = s.crcs ∧ (State.resetSafety s).adcs = s.adcs ∧ (State.resetSafety s).power = s.power ∧ (State.resetSafety s).service = s.service ∧ (State.resetSafety s).epochAt = s.epochAt ∧ (State.resetSafety s).hostLost = s.hostLost := by
  unfold State.resetSafety
  simp

@[simp] theorem State.resetNets_keeps (s : State) : (State.resetNets s).pending = s.pending ∧ (State.resetNets s).mem = s.mem ∧ (State.resetNets s).mz = s.mz ∧ (State.resetNets s).fw = s.fw ∧ (State.resetNets s).tims = s.tims ∧ (State.resetNets s).crcs = s.crcs ∧ (State.resetNets s).inp = s.inp ∧ (State.resetNets s).pairs = s.pairs ∧ (State.resetNets s).power = s.power ∧ (State.resetNets s).service = s.service ∧ (State.resetNets s).epochAt = s.epochAt ∧ (State.resetNets s).hostLost = s.hostLost ∧ (State.resetNets s).graph = s.graph ∧ (State.resetNets s).stay = s.stay := by
  unfold State.resetNets
  simp

@[simp] theorem State.resetRest_keeps (s : State) : (State.resetRest s).pending = s.pending ∧ (State.resetRest s).mem = s.mem ∧ (State.resetRest s).mz = s.mz ∧ (State.resetRest s).prog = s.prog ∧ (State.resetRest s).refit = s.refit ∧ (State.resetRest s).refitHeld = s.refitHeld ∧ (State.resetRest s).fw = s.fw ∧ (State.resetRest s).ses = s.ses ∧ (State.resetRest s).nets = s.nets ∧ (State.resetRest s).link = s.link ∧ (State.resetRest s).ptp = s.ptp ∧ (State.resetRest s).adcs = s.adcs ∧ (State.resetRest s).inp = s.inp ∧ (State.resetRest s).pairs = s.pairs ∧ (State.resetRest s).power = s.power ∧ (State.resetRest s).epochAt = s.epochAt ∧ (State.resetRest s).hostLost = s.hostLost ∧ (State.resetRest s).graph = s.graph ∧ (State.resetRest s).stay = s.stay := by
  unfold State.resetRest
  simp

@[simp] theorem State.resetFaults_view (s : State) (clear : Bool) : (State.resetFaults s clear).view = s.view := by
  unfold State.resetFaults
  simp

@[simp] theorem State.resetFaults_keeps (s : State) (clear : Bool) : State.Same (State.resetFaults s clear) s :=
  State.keeps_of_view (State.resetFaults_view s clear)

@[simp] theorem State.noteReset_view (s : State) (code : Nat) : (State.noteReset s code).view = s.view := by
  unfold State.noteReset
  simp

@[simp] theorem State.noteReset_keeps (s : State) (code : Nat) : State.Same (State.noteReset s code) s :=
  State.keeps_of_view (State.noteReset_view s code)

@[simp] theorem State.endService_keeps (s : State) : (State.endService s).pending = s.pending ∧ (State.endService s).mem = s.mem ∧ (State.endService s).mz = s.mz ∧ (State.endService s).prog = s.prog ∧ (State.endService s).refit = s.refit ∧ (State.endService s).refitHeld = s.refitHeld ∧ (State.endService s).fw = s.fw ∧ (State.endService s).ses = s.ses ∧ (State.endService s).nets = s.nets ∧ (State.endService s).link = s.link ∧ (State.endService s).ptp = s.ptp ∧ (State.endService s).tims = s.tims ∧ (State.endService s).crcs = s.crcs ∧ (State.endService s).adcs = s.adcs ∧ (State.endService s).inp = s.inp ∧ (State.endService s).pairs = s.pairs ∧ (State.endService s).power = s.power ∧ (State.endService s).epochAt = s.epochAt ∧ (State.endService s).hostLost = s.hostLost ∧ (State.endService s).graph = s.graph ∧ (State.endService s).stay = s.stay := by
  unfold State.endService
  simp

@[simp] theorem State.showAuth_view (s : State) : (State.showAuth s).view = s.view := by
  unfold State.showAuth
  simp

@[simp] theorem State.showAuth_keeps (s : State) : State.Same (State.showAuth s) s :=
  State.keeps_of_view (State.showAuth_view s)

@[simp] theorem State.showDiag_keeps (s : State) : (State.showDiag s).pending = s.pending ∧ (State.showDiag s).mem = s.mem ∧ (State.showDiag s).mz = s.mz ∧ (State.showDiag s).prog = s.prog ∧ (State.showDiag s).refit = s.refit ∧ (State.showDiag s).refitHeld = s.refitHeld ∧ (State.showDiag s).ses = s.ses ∧ (State.showDiag s).nets = s.nets ∧ (State.showDiag s).link = s.link ∧ (State.showDiag s).ptp = s.ptp ∧ (State.showDiag s).tims = s.tims ∧ (State.showDiag s).crcs = s.crcs ∧ (State.showDiag s).adcs = s.adcs ∧ (State.showDiag s).inp = s.inp ∧ (State.showDiag s).pairs = s.pairs ∧ (State.showDiag s).power = s.power ∧ (State.showDiag s).service = s.service ∧ (State.showDiag s).epochAt = s.epochAt ∧ (State.showDiag s).hostLost = s.hostLost ∧ (State.showDiag s).graph = s.graph ∧ (State.showDiag s).stay = s.stay := by
  unfold State.showDiag
  simp

@[simp] theorem State.authChanged_keeps (s : State) : (State.authChanged s).pending = s.pending ∧ (State.authChanged s).mem = s.mem ∧ (State.authChanged s).mz = s.mz ∧ (State.authChanged s).prog = s.prog ∧ (State.authChanged s).refit = s.refit ∧ (State.authChanged s).refitHeld = s.refitHeld ∧ (State.authChanged s).ses = s.ses ∧ (State.authChanged s).nets = s.nets ∧ (State.authChanged s).link = s.link ∧ (State.authChanged s).ptp = s.ptp ∧ (State.authChanged s).tims = s.tims ∧ (State.authChanged s).crcs = s.crcs ∧ (State.authChanged s).adcs = s.adcs ∧ (State.authChanged s).inp = s.inp ∧ (State.authChanged s).pairs = s.pairs ∧ (State.authChanged s).power = s.power ∧ (State.authChanged s).service = s.service ∧ (State.authChanged s).epochAt = s.epochAt ∧ (State.authChanged s).hostLost = s.hostLost ∧ (State.authChanged s).graph = s.graph ∧ (State.authChanged s).stay = s.stay := by
  unfold State.authChanged
  simp

@[simp] theorem State.endAuthority_keeps (s : State) : (State.endAuthority s).pending = s.pending ∧ (State.endAuthority s).mem = s.mem ∧ (State.endAuthority s).mz = s.mz ∧ (State.endAuthority s).prog = s.prog ∧ (State.endAuthority s).refit = s.refit ∧ (State.endAuthority s).refitHeld = s.refitHeld ∧ (State.endAuthority s).ses = s.ses ∧ (State.endAuthority s).nets = s.nets ∧ (State.endAuthority s).link = s.link ∧ (State.endAuthority s).ptp = s.ptp ∧ (State.endAuthority s).tims = s.tims ∧ (State.endAuthority s).crcs = s.crcs ∧ (State.endAuthority s).adcs = s.adcs ∧ (State.endAuthority s).inp = s.inp ∧ (State.endAuthority s).pairs = s.pairs ∧ (State.endAuthority s).power = s.power ∧ (State.endAuthority s).epochAt = s.epochAt ∧ (State.endAuthority s).hostLost = s.hostLost ∧ (State.endAuthority s).graph = s.graph ∧ (State.endAuthority s).stay = s.stay := by
  unfold State.endAuthority
  simp

@[simp] theorem State.abortRefit_view (s : State) : (State.abortRefit s).view = s.view := by
  unfold State.abortRefit
  simp

@[simp] theorem State.abortRefit_keeps (s : State) : State.Same (State.abortRefit s) s :=
  State.keeps_of_view (State.abortRefit_view s)

@[simp] theorem State.startWith_view (s : State) (k : StartImg) : (State.startWith s k).view = s.view := by
  unfold State.startWith
  simp

@[simp] theorem State.startWith_keeps (s : State) (k : StartImg) : State.Same (State.startWith s k) s :=
  State.keeps_of_view (State.startWith_view s k)

@[simp] theorem State.advanceClz_view (s : State) (v : Nat) : (State.advanceClz s v).view = s.view := by
  unfold State.advanceClz
  simp

@[simp] theorem State.advanceClz_keeps (s : State) (v : Nat) : State.Same (State.advanceClz s v) s :=
  State.keeps_of_view (State.advanceClz_view s v)

@[simp] theorem State.bootImage_keeps (s : State) (ok nets : Bool) : (State.bootImage s ok nets).pending = s.pending ∧ (State.bootImage s ok nets).mem = s.mem ∧ (State.bootImage s ok nets).mz = s.mz ∧ (State.bootImage s ok nets).refit = s.refit ∧ (State.bootImage s ok nets).refitHeld = s.refitHeld ∧ (State.bootImage s ok nets).fw = s.fw ∧ (State.bootImage s ok nets).ses = s.ses ∧ (State.bootImage s ok nets).nets = s.nets ∧ (State.bootImage s ok nets).ptp = s.ptp ∧ (State.bootImage s ok nets).tims = s.tims ∧ (State.bootImage s ok nets).crcs = s.crcs ∧ (State.bootImage s ok nets).inp = s.inp ∧ (State.bootImage s ok nets).pairs = s.pairs ∧ (State.bootImage s ok nets).power = s.power ∧ (State.bootImage s ok nets).service = s.service ∧ (State.bootImage s ok nets).epochAt = s.epochAt ∧ (State.bootImage s ok nets).hostLost = s.hostLost ∧ (State.bootImage s ok nets).graph = s.graph ∧ (State.bootImage s ok nets).stay = s.stay := by
  unfold State.bootImage
  ((try dsimp only); repeat' (first | (simp; done) | split))

@[simp] theorem State.loseChannels_keeps (s : State) (clear : Bool) : (State.loseChannels s clear).pending = s.pending ∧ (State.loseChannels s clear).mem = s.mem ∧ (State.loseChannels s clear).mz = s.mz ∧ (State.loseChannels s clear).power = s.power ∧ (State.loseChannels s clear).epochAt = s.epochAt ∧ (State.loseChannels s clear).hostLost = s.hostLost := by
  unfold State.loseChannels
  simp

@[simp] theorem State.beginClocks_keeps (s : State) : (State.beginClocks s).pending = s.pending ∧ (State.beginClocks s).mem = s.mem ∧ (State.beginClocks s).mz = s.mz ∧ (State.beginClocks s).prog = s.prog ∧ (State.beginClocks s).refit = s.refit ∧ (State.beginClocks s).refitHeld = s.refitHeld ∧ (State.beginClocks s).fw = s.fw ∧ (State.beginClocks s).ses = s.ses ∧ (State.beginClocks s).nets = s.nets ∧ (State.beginClocks s).link = s.link ∧ (State.beginClocks s).ptp = s.ptp ∧ (State.beginClocks s).crcs = s.crcs ∧ (State.beginClocks s).adcs = s.adcs ∧ (State.beginClocks s).inp = s.inp ∧ (State.beginClocks s).pairs = s.pairs ∧ (State.beginClocks s).power = s.power ∧ (State.beginClocks s).service = s.service ∧ (State.beginClocks s).epochAt = s.epochAt ∧ (State.beginClocks s).hostLost = s.hostLost ∧ (State.beginClocks s).graph = s.graph ∧ (State.beginClocks s).stay = s.stay := by
  unfold State.beginClocks
  simp

@[simp] theorem State.channelReset_keeps (s : State) (code : Nat) (imgOk clear : Bool) : (State.channelReset s code imgOk clear).pending = s.pending ∧ (State.channelReset s code imgOk clear).mem = s.mem ∧ (State.channelReset s code imgOk clear).mz = s.mz ∧ (State.channelReset s code imgOk clear).power = s.power ∧ (State.channelReset s code imgOk clear).epochAt = s.epochAt ∧ (State.channelReset s code imgOk clear).hostLost = s.hostLost := by
  unfold State.channelReset
  simp

@[simp] theorem State.loseMain_keeps (s : State) : (State.loseMain s).pending = s.pending ∧ (State.loseMain s).power = s.power := by
  unfold State.loseMain
  simp

@[simp] theorem State.senseWord_view (s : State) (n : Nat) (o : Sense) : (State.senseWord s n o).view = s.view := by
  unfold State.senseWord
  simp

@[simp] theorem State.senseWord_keeps (s : State) (n : Nat) (o : Sense) : State.Same (State.senseWord s n o) s :=
  State.keeps_of_view (State.senseWord_view s n o)

@[simp] theorem State.sense_view (s : State) (priv : List Sense) : (State.sense s priv).view = s.view := by
  unfold State.sense
  simp

@[simp] theorem State.sense_keeps (s : State) (priv : List Sense) : State.Same (State.sense s priv) s :=
  State.keeps_of_view (State.sense_view s priv)

@[simp] theorem State.ticketEnds_view (s : State) (bad : Bool) : (State.ticketEnds s bad).view = s.view := by
  unfold State.ticketEnds
  simp

@[simp] theorem State.ticketEnds_keeps (s : State) (bad : Bool) : State.Same (State.ticketEnds s bad) s :=
  State.keeps_of_view (State.ticketEnds_view s bad)

@[simp] theorem State.claimFuses_view (s : State) (k : Ticket) : (State.claimFuses s k).view = s.view := by
  unfold State.claimFuses
  simp

@[simp] theorem State.claimFuses_keeps (s : State) (k : Ticket) : State.Same (State.claimFuses s k) s :=
  State.keeps_of_view (State.claimFuses_view s k)

@[simp] theorem State.actTicket_view (s : State) (k : Ticket) (fusesOk : Bool) : (State.actTicket s k fusesOk).view = s.view := by
  unfold State.actTicket
  ((try dsimp only); repeat' (first | (simp; done) | split))

@[simp] theorem State.actTicket_keeps (s : State) (k : Ticket) (fusesOk : Bool) : State.Same (State.actTicket s k fusesOk) s :=
  State.keeps_of_view (State.actTicket_view s k fusesOk)

@[simp] theorem State.tickets_view (s : State) (o : StartObs) : (State.tickets s o).view = s.view := by
  unfold State.tickets
  ((try dsimp only); repeat' (first | (simp; done) | split))

@[simp] theorem State.tickets_keeps (s : State) (o : StartObs) : State.Same (State.tickets s o) s :=
  State.keeps_of_view (State.tickets_view s o)

@[simp] theorem State.runFw_view (s : State) (n : Nat) : (State.runFw s n).view = s.view := by
  unfold State.runFw
  simp

@[simp] theorem State.runFw_keeps (s : State) (n : Nat) : State.Same (State.runFw s n) s :=
  State.keeps_of_view (State.runFw_view s n)

@[simp] theorem State.failFw_view (s : State) (n : Nat) : (State.failFw s n).view = s.view := by
  unfold State.failFw
  simp

@[simp] theorem State.failFw_keeps (s : State) (n : Nat) : State.Same (State.failFw s n) s :=
  State.keeps_of_view (State.failFw_view s n)

@[simp] theorem State.startFw_view (s : State) (o : StartObs) : ((State.startFw s o).1).view = s.view := by
  unfold State.startFw
  ((try dsimp only); repeat' (first | (simp; done) | split))

@[simp] theorem State.startFw_keeps (s : State) (o : StartObs) : State.Same ((State.startFw s o).1) s :=
  State.keeps_of_view (State.startFw_view s o)

@[simp] theorem State.spendCert_view (s : State) (reason : Nat) : (State.spendCert s reason).view = s.view := by
  unfold State.spendCert
  simp

@[simp] theorem State.spendCert_keeps (s : State) (reason : Nat) : State.Same (State.spendCert s reason) s :=
  State.keeps_of_view (State.spendCert_view s reason)

@[simp] theorem State.startRun_view (s : State) (k : RunKind) : (State.startRun s k).view = s.view := by
  unfold State.startRun
  simp

@[simp] theorem State.startRun_keeps (s : State) (k : RunKind) : State.Same (State.startRun s k) s :=
  State.keeps_of_view (State.startRun_view s k)

@[simp] theorem State.restoreSummary_view (s : State) (aonOk flashOk : Bool) : (State.restoreSummary s aonOk flashOk).view = s.view := by
  unfold State.restoreSummary
  ((try dsimp only); repeat' (first | (simp; done) | split))

@[simp] theorem State.restoreSummary_keeps (s : State) (aonOk flashOk : Bool) : State.Same (State.restoreSummary s aonOk flashOk) s :=
  State.keeps_of_view (State.restoreSummary_view s aonOk flashOk)

@[simp] theorem State.restoreL3_view (s : State) : (State.restoreL3 s).view = s.view := by
  unfold State.restoreL3
  simp

@[simp] theorem State.restoreL3_keeps (s : State) : State.Same (State.restoreL3 s) s :=
  State.keeps_of_view (State.restoreL3_view s)

@[simp] theorem State.restoreAon_view (s : State) (o : StartObs) : (State.restoreAon s o).view = s.view := by
  unfold State.restoreAon
  simp

@[simp] theorem State.restoreAon_keeps (s : State) (o : StartObs) : State.Same (State.restoreAon s o) s :=
  State.keeps_of_view (State.restoreAon_view s o)

@[simp] theorem State.startRatline_view (s : State) (reason : Nat) : (State.startRatline s reason).view = s.view := by
  unfold State.startRatline
  simp

@[simp] theorem State.startRatline_keeps (s : State) (reason : Nat) : State.Same (State.startRatline s reason) s :=
  State.keeps_of_view (State.startRatline_view s reason)

@[simp] theorem State.loadKeys_view (s : State) : (State.loadKeys s).view = s.view := by
  unfold State.loadKeys
  simp

@[simp] theorem State.loadKeys_keeps (s : State) : State.Same (State.loadKeys s) s :=
  State.keeps_of_view (State.loadKeys_view s)

@[simp] theorem State.hostWindow_keeps (s : State) (opened : Bool) : (State.hostWindow s opened).pending = s.pending ∧ (State.hostWindow s opened).mem = s.mem ∧ (State.hostWindow s opened).mz = s.mz ∧ (State.hostWindow s opened).prog = s.prog ∧ (State.hostWindow s opened).refit = s.refit ∧ (State.hostWindow s opened).refitHeld = s.refitHeld ∧ (State.hostWindow s opened).ses = s.ses ∧ (State.hostWindow s opened).nets = s.nets ∧ (State.hostWindow s opened).link = s.link ∧ (State.hostWindow s opened).ptp = s.ptp ∧ (State.hostWindow s opened).tims = s.tims ∧ (State.hostWindow s opened).crcs = s.crcs ∧ (State.hostWindow s opened).adcs = s.adcs ∧ (State.hostWindow s opened).inp = s.inp ∧ (State.hostWindow s opened).pairs = s.pairs ∧ (State.hostWindow s opened).power = s.power ∧ (State.hostWindow s opened).service = s.service ∧ (State.hostWindow s opened).epochAt = s.epochAt ∧ (State.hostWindow s opened).hostLost = s.hostLost ∧ (State.hostWindow s opened).graph = s.graph ∧ (State.hostWindow s opened).stay = s.stay := by
  unfold State.hostWindow
  simp

@[simp] theorem State.showRails_view (s : State) (o : StartObs) : (State.showRails s o).view = s.view := by
  unfold State.showRails
  simp

@[simp] theorem State.showRails_keeps (s : State) (o : StartObs) : State.Same (State.showRails s o) s :=
  State.keeps_of_view (State.showRails_view s o)

@[simp] theorem State.startElements_keeps (s : State) (o : StartObs) : (State.startElements s o).pending = s.pending ∧ (State.startElements s o).mem = s.mem ∧ (State.startElements s o).mz = s.mz ∧ (State.startElements s o).refit = s.refit ∧ (State.startElements s o).refitHeld = s.refitHeld ∧ (State.startElements s o).ses = s.ses ∧ (State.startElements s o).nets = s.nets ∧ (State.startElements s o).ptp = s.ptp ∧ (State.startElements s o).crcs = s.crcs ∧ (State.startElements s o).inp = s.inp ∧ (State.startElements s o).pairs = s.pairs ∧ (State.startElements s o).power = s.power ∧ (State.startElements s o).service = s.service ∧ (State.startElements s o).epochAt = s.epochAt ∧ (State.startElements s o).hostLost = s.hostLost ∧ (State.startElements s o).graph = s.graph ∧ (State.startElements s o).stay = s.stay := by
  unfold State.startElements
  simp

@[simp] theorem State.drkChecks_view (s : State) (o : StartObs) : (State.drkChecks s o).view = s.view := by
  unfold State.drkChecks
  simp

@[simp] theorem State.drkChecks_keeps (s : State) (o : StartObs) : State.Same (State.drkChecks s o) s :=
  State.keeps_of_view (State.drkChecks_view s o)

@[simp] theorem State.course_keeps (s : State) (o : StartObs) : (State.course s o).pending = s.pending ∧ (State.course s o).mem = s.mem ∧ (State.course s o).mz = s.mz ∧ (State.course s o).refit = s.refit ∧ (State.course s o).refitHeld = s.refitHeld ∧ (State.course s o).ses = s.ses ∧ (State.course s o).nets = s.nets ∧ (State.course s o).ptp = s.ptp ∧ (State.course s o).crcs = s.crcs ∧ (State.course s o).inp = s.inp ∧ (State.course s o).pairs = s.pairs ∧ (State.course s o).power = s.power ∧ (State.course s o).service = s.service ∧ (State.course s o).epochAt = s.epochAt ∧ (State.course s o).hostLost = s.hostLost ∧ (State.course s o).graph = s.graph ∧ (State.course s o).stay = s.stay := by
  unfold State.course
  simp

@[simp] theorem State.mainStart_keeps (s : State) (code : Nat) (o : StartObs) : (State.mainStart s code o).pending = s.pending := by
  unfold State.mainStart
  simp

@[simp] theorem State.copySummary_view (s : State) : (State.copySummary s).view = s.view := by
  unfold State.copySummary
  simp

@[simp] theorem State.copySummary_keeps (s : State) : State.Same (State.copySummary s) s :=
  State.keeps_of_view (State.copySummary_view s)

@[simp] theorem State.shutdownRequest_view (s : State) : (State.shutdownRequest s).view = s.view := by
  unfold State.shutdownRequest
  simp

@[simp] theorem State.shutdownRequest_keeps (s : State) : State.Same (State.shutdownRequest s) s :=
  State.keeps_of_view (State.shutdownRequest_view s)

@[simp] theorem State.lotCut_keeps (s : State) (id : Int) : (State.lotCut s id).pending = s.pending ∧ (State.lotCut s id).mem = s.mem ∧ (State.lotCut s id).prog = s.prog ∧ (State.lotCut s id).refit = s.refit ∧ (State.lotCut s id).refitHeld = s.refitHeld ∧ (State.lotCut s id).fw = s.fw ∧ (State.lotCut s id).ses = s.ses ∧ (State.lotCut s id).nets = s.nets ∧ (State.lotCut s id).link = s.link ∧ (State.lotCut s id).ptp = s.ptp ∧ (State.lotCut s id).tims = s.tims ∧ (State.lotCut s id).crcs = s.crcs ∧ (State.lotCut s id).adcs = s.adcs ∧ (State.lotCut s id).inp = s.inp ∧ (State.lotCut s id).pairs = s.pairs ∧ (State.lotCut s id).power = s.power ∧ (State.lotCut s id).service = s.service ∧ (State.lotCut s id).epochAt = s.epochAt ∧ (State.lotCut s id).hostLost = s.hostLost ∧ (State.lotCut s id).graph = s.graph ∧ (State.lotCut s id).stay = s.stay := by
  unfold State.lotCut
  simp

@[simp] theorem State.accrue_view (s : State) (d : Nat) (tj : Int) : (State.accrue s d tj).view = s.view := by
  unfold State.accrue
  simp

@[simp] theorem State.accrue_keeps (s : State) (d : Nat) (tj : Int) : State.Same (State.accrue s d tj) s :=
  State.keeps_of_view (State.accrue_view s d tj)

@[simp] theorem State.logLife_view (s : State) : (State.logLife s).view = s.view := by
  unfold State.logLife
  simp

@[simp] theorem State.logLife_keeps (s : State) : State.Same (State.logLife s) s :=
  State.keeps_of_view (State.logLife_view s)

@[simp] theorem State.project_view (s : State) : (State.project s).view = s.view := by
  unfold State.project
  ((try dsimp only); repeat' (first | (simp; done) | split))

@[simp] theorem State.project_keeps (s : State) : State.Same (State.project s) s :=
  State.keeps_of_view (State.project_view s)

@[simp] theorem State.applySwitches_view (s : State) (c : Chan) (w : BitVec 16) (l : BitVec 4) : (State.applySwitches s c w l).view = s.view := by
  unfold State.applySwitches
  simp

@[simp] theorem State.applySwitches_keeps (s : State) (c : Chan) (w : BitVec 16) (l : BitVec 4) : State.Same (State.applySwitches s c w l) s :=
  State.keeps_of_view (State.applySwitches_view s c w l)

@[simp] theorem State.applyDie_view (s : State) (c : Chan) (o : DieObs) : (State.applyDie s c o).view = s.view := by
  unfold State.applyDie
  ((try dsimp only); repeat' (first | (simp; done) | split))

@[simp] theorem State.applyDie_keeps (s : State) (c : Chan) (o : DieObs) : State.Same (State.applyDie s c o) s :=
  State.keeps_of_view (State.applyDie_view s c o)

@[simp] theorem State.judgeDie_view (s : State) (c : Chan) (o : DieObs) : (State.judgeDie s c o).view = s.view := by
  unfold State.judgeDie
  simp

@[simp] theorem State.judgeDie_keeps (s : State) (c : Chan) (o : DieObs) : State.Same (State.judgeDie s c o) s :=
  State.keeps_of_view (State.judgeDie_view s c o)

@[simp] theorem State.latchSamples_keeps (s : State) (c : Chan) (o : DieObs) : (State.latchSamples s c o).pending = s.pending ∧ (State.latchSamples s c o).mem = s.mem ∧ (State.latchSamples s c o).mz = s.mz ∧ (State.latchSamples s c o).prog = s.prog ∧ (State.latchSamples s c o).refit = s.refit ∧ (State.latchSamples s c o).refitHeld = s.refitHeld ∧ (State.latchSamples s c o).fw = s.fw ∧ (State.latchSamples s c o).ses = s.ses ∧ (State.latchSamples s c o).nets = s.nets ∧ (State.latchSamples s c o).link = s.link ∧ (State.latchSamples s c o).ptp = s.ptp ∧ (State.latchSamples s c o).tims = s.tims ∧ (State.latchSamples s c o).crcs = s.crcs ∧ (State.latchSamples s c o).adcs = s.adcs ∧ (State.latchSamples s c o).pairs = s.pairs ∧ (State.latchSamples s c o).power = s.power ∧ (State.latchSamples s c o).service = s.service ∧ (State.latchSamples s c o).epochAt = s.epochAt ∧ (State.latchSamples s c o).hostLost = s.hostLost ∧ (State.latchSamples s c o).graph = s.graph ∧ (State.latchSamples s c o).stay = s.stay := by
  unfold State.latchSamples
  simp

@[simp] theorem State.clearClass0_view (s : State) : (State.clearClass0 s).view = s.view := by
  unfold State.clearClass0
  simp

@[simp] theorem State.clearClass0_keeps (s : State) : State.Same (State.clearClass0 s) s :=
  State.keeps_of_view (State.clearClass0_view s)

@[simp] theorem State.linkBoundary_keeps (s : State) : (State.linkBoundary s).pending = s.pending ∧ (State.linkBoundary s).mem = s.mem ∧ (State.linkBoundary s).mz = s.mz ∧ (State.linkBoundary s).prog = s.prog ∧ (State.linkBoundary s).refit = s.refit ∧ (State.linkBoundary s).refitHeld = s.refitHeld ∧ (State.linkBoundary s).fw = s.fw ∧ (State.linkBoundary s).ses = s.ses ∧ (State.linkBoundary s).nets = s.nets ∧ (State.linkBoundary s).ptp = s.ptp ∧ (State.linkBoundary s).tims = s.tims ∧ (State.linkBoundary s).crcs = s.crcs ∧ (State.linkBoundary s).adcs = s.adcs ∧ (State.linkBoundary s).inp = s.inp ∧ (State.linkBoundary s).pairs = s.pairs ∧ (State.linkBoundary s).power = s.power ∧ (State.linkBoundary s).service = s.service ∧ (State.linkBoundary s).epochAt = s.epochAt ∧ (State.linkBoundary s).hostLost = s.hostLost ∧ (State.linkBoundary s).graph = s.graph ∧ (State.linkBoundary s).stay = s.stay := by
  unfold State.linkBoundary
  simp

@[simp] theorem State.plainRun_view (s : State) : (State.plainRun s).view = s.view := by
  unfold State.plainRun
  simp

@[simp] theorem State.plainRun_keeps (s : State) : State.Same (State.plainRun s) s :=
  State.keeps_of_view (State.plainRun_view s)

@[simp] theorem State.boundaryApply_view (s : State) (t : Nat) (a b : DieObs) : (State.boundaryApply s t a b).view = s.view := by
  unfold State.boundaryApply
  simp

@[simp] theorem State.boundaryApply_keeps (s : State) (t : Nat) (a b : DieObs) : State.Same (State.boundaryApply s t a b) s :=
  State.keeps_of_view (State.boundaryApply_view s t a b)

@[simp] theorem State.stopsBoundary_view (s : State) : (State.stopsBoundary s).view = s.view := by
  unfold State.stopsBoundary
  simp

@[simp] theorem State.stopsBoundary_keeps (s : State) : State.Same (State.stopsBoundary s) s :=
  State.keeps_of_view (State.stopsBoundary_view s)

@[simp] theorem State.boundarySend_keeps (s : State) (a b : DieObs) : (State.boundarySend s a b).pending = s.pending ∧ (State.boundarySend s a b).mem = s.mem ∧ (State.boundarySend s a b).mz = s.mz ∧ (State.boundarySend s a b).prog = s.prog ∧ (State.boundarySend s a b).refit = s.refit ∧ (State.boundarySend s a b).refitHeld = s.refitHeld ∧ (State.boundarySend s a b).fw = s.fw ∧ (State.boundarySend s a b).ses = s.ses ∧ (State.boundarySend s a b).nets = s.nets ∧ (State.boundarySend s a b).ptp = s.ptp ∧ (State.boundarySend s a b).tims = s.tims ∧ (State.boundarySend s a b).crcs = s.crcs ∧ (State.boundarySend s a b).adcs = s.adcs ∧ (State.boundarySend s a b).power = s.power ∧ (State.boundarySend s a b).service = s.service ∧ (State.boundarySend s a b).epochAt = s.epochAt ∧ (State.boundarySend s a b).hostLost = s.hostLost ∧ (State.boundarySend s a b).stay = s.stay := by
  unfold State.boundarySend
  simp

@[simp] theorem State.countSleep_view (s : State) : (State.countSleep s).view = s.view := by
  unfold State.countSleep
  simp

@[simp] theorem State.countSleep_keeps (s : State) : State.Same (State.countSleep s) s :=
  State.keeps_of_view (State.countSleep_view s)

@[simp] theorem State.showHostImage_view (s : State) : (State.showHostImage s).view = s.view := by
  unfold State.showHostImage
  simp

@[simp] theorem State.showHostImage_keeps (s : State) : State.Same (State.showHostImage s) s :=
  State.keeps_of_view (State.showHostImage_view s)

@[simp] theorem State.aiInputs_view (s : State) (c : Chan) : ((State.aiInputs s c).1).view = s.view := by
  unfold State.aiInputs
  simp

@[simp] theorem State.aiInputs_keeps (s : State) (c : Chan) : State.Same ((State.aiInputs s c).1) s :=
  State.keeps_of_view (State.aiInputs_view s c)

@[simp] theorem State.freeze_keeps (s : State) (t : Nat) : (State.freeze s t).pending = s.pending ∧ (State.freeze s t).mem = s.mem ∧ (State.freeze s t).mz = s.mz ∧ (State.freeze s t).prog = s.prog ∧ (State.freeze s t).refit = s.refit ∧ (State.freeze s t).refitHeld = s.refitHeld ∧ (State.freeze s t).fw = s.fw ∧ (State.freeze s t).nets = s.nets ∧ (State.freeze s t).ptp = s.ptp ∧ (State.freeze s t).tims = s.tims ∧ (State.freeze s t).crcs = s.crcs ∧ (State.freeze s t).adcs = s.adcs ∧ (State.freeze s t).inp = s.inp ∧ (State.freeze s t).pairs = s.pairs ∧ (State.freeze s t).power = s.power ∧ (State.freeze s t).service = s.service ∧ (State.freeze s t).epochAt = s.epochAt ∧ (State.freeze s t).hostLost = s.hostLost ∧ (State.freeze s t).stay = s.stay := by
  unfold State.freeze
  simp

@[simp] theorem State.setInputs_keeps (s : State) (app : BitVec 64) (aiA aiB : List (Nat × Int)) : (State.setInputs s app aiA aiB).pending = s.pending ∧ (State.setInputs s app aiA aiB).mem = s.mem ∧ (State.setInputs s app aiA aiB).mz = s.mz ∧ (State.setInputs s app aiA aiB).prog = s.prog ∧ (State.setInputs s app aiA aiB).refit = s.refit ∧ (State.setInputs s app aiA aiB).refitHeld = s.refitHeld ∧ (State.setInputs s app aiA aiB).fw = s.fw ∧ (State.setInputs s app aiA aiB).ses = s.ses ∧ (State.setInputs s app aiA aiB).nets = s.nets ∧ (State.setInputs s app aiA aiB).link = s.link ∧ (State.setInputs s app aiA aiB).ptp = s.ptp ∧ (State.setInputs s app aiA aiB).tims = s.tims ∧ (State.setInputs s app aiA aiB).crcs = s.crcs ∧ (State.setInputs s app aiA aiB).adcs = s.adcs ∧ (State.setInputs s app aiA aiB).inp = s.inp ∧ (State.setInputs s app aiA aiB).pairs = s.pairs ∧ (State.setInputs s app aiA aiB).power = s.power ∧ (State.setInputs s app aiA aiB).service = s.service ∧ (State.setInputs s app aiA aiB).epochAt = s.epochAt ∧ (State.setInputs s app aiA aiB).hostLost = s.hostLost ∧ (State.setInputs s app aiA aiB).stay = s.stay := by
  unfold State.setInputs
  simp

@[simp] theorem State.clearEdm_view (s : State) (c : Chan) : (State.clearEdm s c).view = s.view := by
  unfold State.clearEdm
  simp

@[simp] theorem State.clearEdm_keeps (s : State) (c : Chan) : State.Same (State.clearEdm s c) s :=
  State.keeps_of_view (State.clearEdm_view s c)

@[simp] theorem State.edges_keeps (s : State) (c : Chan) : (State.edges s c).pending = s.pending ∧ (State.edges s c).mem = s.mem ∧ (State.edges s c).prog = s.prog ∧ (State.edges s c).refit = s.refit ∧ (State.edges s c).refitHeld = s.refitHeld ∧ (State.edges s c).fw = s.fw ∧ (State.edges s c).ses = s.ses ∧ (State.edges s c).nets = s.nets ∧ (State.edges s c).link = s.link ∧ (State.edges s c).ptp = s.ptp ∧ (State.edges s c).tims = s.tims ∧ (State.edges s c).crcs = s.crcs ∧ (State.edges s c).adcs = s.adcs ∧ (State.edges s c).inp = s.inp ∧ (State.edges s c).pairs = s.pairs ∧ (State.edges s c).power = s.power ∧ (State.edges s c).service = s.service ∧ (State.edges s c).epochAt = s.epochAt ∧ (State.edges s c).hostLost = s.hostLost ∧ (State.edges s c).graph = s.graph ∧ (State.edges s c).stay = s.stay := by
  unfold State.edges
  simp

@[simp] theorem State.evalMax_view (s : State) (c : Chan) (us : Nat) : (State.evalMax s c us).view = s.view := by
  unfold State.evalMax
  simp

@[simp] theorem State.evalMax_keeps (s : State) (c : Chan) (us : Nat) : State.Same (State.evalMax s c us) s :=
  State.keeps_of_view (State.evalMax_view s c us)

@[simp] theorem State.evalAll_keeps (s : State) (run : List Chan) (us : Chan → Nat) : (State.evalAll s run us).pending = s.pending ∧ (State.evalAll s run us).mem = s.mem ∧ (State.evalAll s run us).mz = s.mz ∧ (State.evalAll s run us).prog = s.prog ∧ (State.evalAll s run us).refit = s.refit ∧ (State.evalAll s run us).refitHeld = s.refitHeld ∧ (State.evalAll s run us).fw = s.fw ∧ (State.evalAll s run us).ses = s.ses ∧ (State.evalAll s run us).nets = s.nets ∧ (State.evalAll s run us).link = s.link ∧ (State.evalAll s run us).ptp = s.ptp ∧ (State.evalAll s run us).tims = s.tims ∧ (State.evalAll s run us).crcs = s.crcs ∧ (State.evalAll s run us).adcs = s.adcs ∧ (State.evalAll s run us).inp = s.inp ∧ (State.evalAll s run us).power = s.power ∧ (State.evalAll s run us).service = s.service ∧ (State.evalAll s run us).epochAt = s.epochAt ∧ (State.evalAll s run us).hostLost = s.hostLost ∧ (State.evalAll s run us).stay = s.stay := by
  unfold State.evalAll
  simp

@[simp] theorem State.eccSingle_view (s : State) : (State.eccSingle s).view = s.view := by
  unfold State.eccSingle
  simp

@[simp] theorem State.eccSingle_keeps (s : State) : State.Same (State.eccSingle s) s :=
  State.keeps_of_view (State.eccSingle_view s)

@[simp] theorem State.eccFound_view (s : State) (m : MemLoc) (e : Ecc) : (State.eccFound s m e).view = s.view := by
  unfold State.eccFound
  ((try dsimp only); repeat' (first | (simp; done) | split))

@[simp] theorem State.eccFound_keeps (s : State) (m : MemLoc) (e : Ecc) : State.Same (State.eccFound s m e) s :=
  State.keeps_of_view (State.eccFound_view s m e)

@[simp] theorem State.recAck_view (s : State) (c : Chan) (n : Nat) : (State.recAck s c n).view = s.view := by
  unfold State.recAck
  simp

@[simp] theorem State.recAck_keeps (s : State) (c : Chan) (n : Nat) : State.Same (State.recAck s c n) s :=
  State.keeps_of_view (State.recAck_view s c n)

@[simp] theorem State.startRings_view (s : State) : (State.startRings s).view = s.view := by
  unfold State.startRings
  simp

@[simp] theorem State.startRings_keeps (s : State) : State.Same (State.startRings s) s :=
  State.keeps_of_view (State.startRings_view s)

@[simp] theorem State.requeue_view (s : State) : (State.requeue s).view = s.view := by
  unfold State.requeue
  simp

@[simp] theorem State.requeue_keeps (s : State) : State.Same (State.requeue s) s :=
  State.keeps_of_view (State.requeue_view s)

@[simp] theorem State.endLoss_view (s : State) : (State.endLoss s).view = s.view := by
  unfold State.endLoss
  simp

@[simp] theorem State.endLoss_keeps (s : State) : State.Same (State.endLoss s) s :=
  State.keeps_of_view (State.endLoss_view s)

@[simp] theorem State.closeWindow_keeps (s : State) : (State.closeWindow s).pending = s.pending ∧ (State.closeWindow s).mem = s.mem ∧ (State.closeWindow s).mz = s.mz ∧ (State.closeWindow s).prog = s.prog ∧ (State.closeWindow s).refit = s.refit ∧ (State.closeWindow s).refitHeld = s.refitHeld ∧ (State.closeWindow s).ses = s.ses ∧ (State.closeWindow s).nets = s.nets ∧ (State.closeWindow s).link = s.link ∧ (State.closeWindow s).ptp = s.ptp ∧ (State.closeWindow s).tims = s.tims ∧ (State.closeWindow s).crcs = s.crcs ∧ (State.closeWindow s).adcs = s.adcs ∧ (State.closeWindow s).inp = s.inp ∧ (State.closeWindow s).pairs = s.pairs ∧ (State.closeWindow s).power = s.power ∧ (State.closeWindow s).service = s.service ∧ (State.closeWindow s).epochAt = s.epochAt ∧ (State.closeWindow s).hostLost = s.hostLost ∧ (State.closeWindow s).graph = s.graph ∧ (State.closeWindow s).stay = s.stay := by
  unfold State.closeWindow
  simp

@[simp] theorem State.beginLoss_keeps (s : State) (cause : Nat) (k : HostLoss) : (State.beginLoss s cause k).pending = s.pending ∧ (State.beginLoss s cause k).mem = s.mem ∧ (State.beginLoss s cause k).mz = s.mz ∧ (State.beginLoss s cause k).prog = s.prog ∧ (State.beginLoss s cause k).refit = s.refit ∧ (State.beginLoss s cause k).refitHeld = s.refitHeld ∧ (State.beginLoss s cause k).ses = s.ses ∧ (State.beginLoss s cause k).nets = s.nets ∧ (State.beginLoss s cause k).link = s.link ∧ (State.beginLoss s cause k).ptp = s.ptp ∧ (State.beginLoss s cause k).tims = s.tims ∧ (State.beginLoss s cause k).crcs = s.crcs ∧ (State.beginLoss s cause k).adcs = s.adcs ∧ (State.beginLoss s cause k).inp = s.inp ∧ (State.beginLoss s cause k).pairs = s.pairs ∧ (State.beginLoss s cause k).power = s.power ∧ (State.beginLoss s cause k).epochAt = s.epochAt ∧ (State.beginLoss s cause k).graph = s.graph ∧ (State.beginLoss s cause k).stay = s.stay := by
  unfold State.beginLoss
  simp

@[simp] theorem State.reopen_keeps (s : State) : (State.reopen s).pending = s.pending ∧ (State.reopen s).mem = s.mem ∧ (State.reopen s).mz = s.mz ∧ (State.reopen s).prog = s.prog ∧ (State.reopen s).refit = s.refit ∧ (State.reopen s).refitHeld = s.refitHeld ∧ (State.reopen s).ses = s.ses ∧ (State.reopen s).nets = s.nets ∧ (State.reopen s).link = s.link ∧ (State.reopen s).ptp = s.ptp ∧ (State.reopen s).tims = s.tims ∧ (State.reopen s).crcs = s.crcs ∧ (State.reopen s).adcs = s.adcs ∧ (State.reopen s).inp = s.inp ∧ (State.reopen s).pairs = s.pairs ∧ (State.reopen s).power = s.power ∧ (State.reopen s).service = s.service ∧ (State.reopen s).epochAt = s.epochAt ∧ (State.reopen s).hostLost = s.hostLost ∧ (State.reopen s).graph = s.graph ∧ (State.reopen s).stay = s.stay := by
  unfold State.reopen
  simp

@[simp] theorem State.losePoll_keeps (s : State) (cause : Nat) : (State.losePoll s cause).pending = s.pending ∧ (State.losePoll s cause).mem = s.mem ∧ (State.losePoll s cause).mz = s.mz ∧ (State.losePoll s cause).prog = s.prog ∧ (State.losePoll s cause).refit = s.refit ∧ (State.losePoll s cause).refitHeld = s.refitHeld ∧ (State.losePoll s cause).ses = s.ses ∧ (State.losePoll s cause).nets = s.nets ∧ (State.losePoll s cause).link = s.link ∧ (State.losePoll s cause).ptp = s.ptp ∧ (State.losePoll s cause).tims = s.tims ∧ (State.losePoll s cause).crcs = s.crcs ∧ (State.losePoll s cause).adcs = s.adcs ∧ (State.losePoll s cause).inp = s.inp ∧ (State.losePoll s cause).pairs = s.pairs ∧ (State.losePoll s cause).power = s.power ∧ (State.losePoll s cause).epochAt = s.epochAt ∧ (State.losePoll s cause).graph = s.graph ∧ (State.losePoll s cause).stay = s.stay := by
  unfold State.losePoll
  simp

@[simp] theorem State.loseSetup_keeps (s : State) (cause : Nat) : (State.loseSetup s cause).pending = s.pending ∧ (State.loseSetup s cause).mem = s.mem ∧ (State.loseSetup s cause).mz = s.mz ∧ (State.loseSetup s cause).prog = s.prog ∧ (State.loseSetup s cause).refit = s.refit ∧ (State.loseSetup s cause).refitHeld = s.refitHeld ∧ (State.loseSetup s cause).ses = s.ses ∧ (State.loseSetup s cause).nets = s.nets ∧ (State.loseSetup s cause).link = s.link ∧ (State.loseSetup s cause).ptp = s.ptp ∧ (State.loseSetup s cause).tims = s.tims ∧ (State.loseSetup s cause).crcs = s.crcs ∧ (State.loseSetup s cause).adcs = s.adcs ∧ (State.loseSetup s cause).inp = s.inp ∧ (State.loseSetup s cause).pairs = s.pairs ∧ (State.loseSetup s cause).power = s.power ∧ (State.loseSetup s cause).epochAt = s.epochAt ∧ (State.loseSetup s cause).graph = s.graph ∧ (State.loseSetup s cause).stay = s.stay := by
  unfold State.loseSetup
  simp

@[simp] theorem State.ackLogged_view (s : State) (n : Nat) : (State.ackLogged s n).view = s.view := by
  unfold State.ackLogged
  simp

@[simp] theorem State.ackLogged_keeps (s : State) (n : Nat) : State.Same (State.ackLogged s n) s :=
  State.keeps_of_view (State.ackLogged_view s n)

@[simp] theorem State.pollRing_view (s : State) (o : PollObs) (n : Nat) : (State.pollRing s o n).view = s.view := by
  unfold State.pollRing
  simp

@[simp] theorem State.pollRing_keeps (s : State) (o : PollObs) (n : Nat) : State.Same (State.pollRing s o n) s :=
  State.keeps_of_view (State.pollRing_view s o n)

@[simp] theorem State.pollImage_keeps (s : State) (o : PollObs) : (State.pollImage s o).pending = s.pending ∧ (State.pollImage s o).mem = s.mem ∧ (State.pollImage s o).mz = s.mz ∧ (State.pollImage s o).prog = s.prog ∧ (State.pollImage s o).refit = s.refit ∧ (State.pollImage s o).refitHeld = s.refitHeld ∧ (State.pollImage s o).fw = s.fw ∧ (State.pollImage s o).ses = s.ses ∧ (State.pollImage s o).nets = s.nets ∧ (State.pollImage s o).link = s.link ∧ (State.pollImage s o).ptp = s.ptp ∧ (State.pollImage s o).tims = s.tims ∧ (State.pollImage s o).crcs = s.crcs ∧ (State.pollImage s o).adcs = s.adcs ∧ (State.pollImage s o).inp = s.inp ∧ (State.pollImage s o).pairs = s.pairs ∧ (State.pollImage s o).power = s.power ∧ (State.pollImage s o).service = s.service ∧ (State.pollImage s o).epochAt = s.epochAt ∧ (State.pollImage s o).graph = s.graph ∧ (State.pollImage s o).stay = s.stay := by
  unfold State.pollImage
  simp

@[simp] theorem State.pollBeat_view (s : State) (o : PollObs) : (State.pollBeat s o).view = s.view := by
  unfold State.pollBeat
  simp

@[simp] theorem State.pollBeat_keeps (s : State) (o : PollObs) : State.Same (State.pollBeat s o) s :=
  State.keeps_of_view (State.pollBeat_view s o)

@[simp] theorem State.writeEvent_view (s : State) (n : Nat) (e : HlyEv) : (State.writeEvent s n e).view = s.view := by
  unfold State.writeEvent
  ((try dsimp only); repeat' (first | (simp; done) | split))

@[simp] theorem State.writeEvent_keeps (s : State) (n : Nat) (e : HlyEv) : State.Same (State.writeEvent s n e) s :=
  State.keeps_of_view (State.writeEvent_view s n e)

@[simp] theorem State.finish_view (s : State) (r : Nat) (d : Desc) (e : Ends) : (State.finish s r d e).view = s.view := by
  unfold State.finish
  simp

@[simp] theorem State.finish_keeps (s : State) (r : Nat) (d : Desc) (e : Ends) : State.Same (State.finish s r d e) s :=
  State.keeps_of_view (State.finish_view s r d e)

/-- A part of the view that the body keeps, the whole keeps. -/
theorem State.command_keep {β : Type} (p : View → β) (s : State) (r : Nat) (d : Desc) (b : Buf) (f : State → State × Ends) (h : ∀ x, p (f x).1.view = p x.view) : p (s.command r d b f).view = p s.view := by
  unfold State.command
  dsimp only
  repeat' (first | (simp [h]; done) | split)

@[simp] theorem State.readFails_view (s : State) : ((State.readFails s).1).view = s.view := by
  unfold State.readFails
  simp

@[simp] theorem State.readFails_keeps (s : State) : State.Same ((State.readFails s).1) s :=
  State.keeps_of_view (State.readFails_view s)

/-- A part of the view that the body keeps, the whole keeps. -/
theorem State.withScope_keep {β : Type} (p : View → β) (s : State) (r k : Nat) (f : State → State × Ends) (h : ∀ x, p (f x).1.view = p x.view) : p ((s.withScope r k f).1).view = p s.view := by
  unfold State.withScope
  split <;> simp [h]

/-- A part of the view that the body keeps, the whole keeps. -/
theorem State.alone_keep {β : Type} (p : View → β) (s : State) (f : State → State × Ends) (h : ∀ x, p (f x).1.view = p x.view) : p ((s.alone f).1).view = p s.view := by
  unfold State.alone
  split <;> simp [h]

@[simp] theorem State.endAuth_keeps (s : State) (r : Nat) : (State.endAuth s r).pending = s.pending ∧ (State.endAuth s r).mem = s.mem ∧ (State.endAuth s r).mz = s.mz ∧ (State.endAuth s r).prog = s.prog ∧ (State.endAuth s r).refit = s.refit ∧ (State.endAuth s r).refitHeld = s.refitHeld ∧ (State.endAuth s r).ses = s.ses ∧ (State.endAuth s r).nets = s.nets ∧ (State.endAuth s r).link = s.link ∧ (State.endAuth s r).ptp = s.ptp ∧ (State.endAuth s r).tims = s.tims ∧ (State.endAuth s r).crcs = s.crcs ∧ (State.endAuth s r).adcs = s.adcs ∧ (State.endAuth s r).inp = s.inp ∧ (State.endAuth s r).pairs = s.pairs ∧ (State.endAuth s r).power = s.power ∧ (State.endAuth s r).epochAt = s.epochAt ∧ (State.endAuth s r).hostLost = s.hostLost ∧ (State.endAuth s r).graph = s.graph ∧ (State.endAuth s r).stay = s.stay := by
  unfold State.endAuth
  simp

@[simp] theorem State.authFails_view (s : State) (r : Nat) : (State.authFails s r).view = s.view := by
  unfold State.authFails
  simp

@[simp] theorem State.authFails_keeps (s : State) (r : Nat) : State.Same (State.authFails s r) s :=
  State.keeps_of_view (State.authFails_view s r)

@[simp] theorem State.openService_keeps (s : State) (r dur : Nat) : (State.openService s r dur).pending = s.pending ∧ (State.openService s r dur).mem = s.mem ∧ (State.openService s r dur).mz = s.mz ∧ (State.openService s r dur).prog = s.prog ∧ (State.openService s r dur).refit = s.refit ∧ (State.openService s r dur).refitHeld = s.refitHeld ∧ (State.openService s r dur).fw = s.fw ∧ (State.openService s r dur).ses = s.ses ∧ (State.openService s r dur).nets = s.nets ∧ (State.openService s r dur).link = s.link ∧ (State.openService s r dur).ptp = s.ptp ∧ (State.openService s r dur).tims = s.tims ∧ (State.openService s r dur).crcs = s.crcs ∧ (State.openService s r dur).adcs = s.adcs ∧ (State.openService s r dur).inp = s.inp ∧ (State.openService s r dur).pairs = s.pairs ∧ (State.openService s r dur).power = s.power ∧ (State.openService s r dur).epochAt = s.epochAt ∧ (State.openService s r dur).hostLost = s.hostLost ∧ (State.openService s r dur).graph = s.graph ∧ (State.openService s r dur).stay = s.stay := by
  unfold State.openService
  simp

@[simp] theorem State.grant_keeps (s : State) (r : Nat) (a : AuthResp) : (State.grant s r a).pending = s.pending ∧ (State.grant s r a).mem = s.mem ∧ (State.grant s r a).mz = s.mz ∧ (State.grant s r a).prog = s.prog ∧ (State.grant s r a).refit = s.refit ∧ (State.grant s r a).refitHeld = s.refitHeld ∧ (State.grant s r a).ses = s.ses ∧ (State.grant s r a).nets = s.nets ∧ (State.grant s r a).link = s.link ∧ (State.grant s r a).ptp = s.ptp ∧ (State.grant s r a).tims = s.tims ∧ (State.grant s r a).crcs = s.crcs ∧ (State.grant s r a).adcs = s.adcs ∧ (State.grant s r a).inp = s.inp ∧ (State.grant s r a).pairs = s.pairs ∧ (State.grant s r a).power = s.power ∧ (State.grant s r a).epochAt = s.epochAt ∧ (State.grant s r a).hostLost = s.hostLost ∧ (State.grant s r a).graph = s.graph ∧ (State.grant s r a).stay = s.stay := by
  unfold State.grant
  simp

@[simp] theorem State.readRange_pending (s : State) (c : Bool) (a n : Nat) : (s.readRange c a n).1.pending = s.pending := by
  induction n generalizing s a with
  | zero => rfl
  | succ n ih => simp [State.readRange, ih]

@[simp] theorem State.readRange_mem (s : State) (c : Bool) (a n : Nat) : (s.readRange c a n).1.mem = s.mem := by
  induction n generalizing s a with
  | zero => rfl
  | succ n ih => simp [State.readRange, ih]

@[simp] theorem State.readRange_mz (s : State) (c : Bool) (a n : Nat) : (s.readRange c a n).1.mz = s.mz := by
  induction n generalizing s a with
  | zero => rfl
  | succ n ih => simp [State.readRange, ih]

@[simp] theorem State.readRange_prog (s : State) (c : Bool) (a n : Nat) : (s.readRange c a n).1.prog = s.prog := by
  induction n generalizing s a with
  | zero => rfl
  | succ n ih => simp [State.readRange, ih]

@[simp] theorem State.readRange_refit (s : State) (c : Bool) (a n : Nat) : (s.readRange c a n).1.refit = s.refit := by
  induction n generalizing s a with
  | zero => rfl
  | succ n ih => simp [State.readRange, ih]

@[simp] theorem State.readRange_refitHeld (s : State) (c : Bool) (a n : Nat) : (s.readRange c a n).1.refitHeld = s.refitHeld := by
  induction n generalizing s a with
  | zero => rfl
  | succ n ih => simp [State.readRange, ih]

@[simp] theorem State.readRange_fw (s : State) (c : Bool) (a n : Nat) : (s.readRange c a n).1.fw = s.fw := by
  induction n generalizing s a with
  | zero => rfl
  | succ n ih => simp [State.readRange, ih]

@[simp] theorem State.readRange_ses (s : State) (c : Bool) (a n : Nat) : (s.readRange c a n).1.ses = s.ses := by
  induction n generalizing s a with
  | zero => rfl
  | succ n ih => simp [State.readRange, ih]

@[simp] theorem State.readRange_nets (s : State) (c : Bool) (a n : Nat) : (s.readRange c a n).1.nets = s.nets := by
  induction n generalizing s a with
  | zero => rfl
  | succ n ih => simp [State.readRange, ih]

@[simp] theorem State.readRange_link (s : State) (c : Bool) (a n : Nat) : (s.readRange c a n).1.link = s.link := by
  induction n generalizing s a with
  | zero => rfl
  | succ n ih => simp [State.readRange, ih]

@[simp] theorem State.readRange_ptp (s : State) (c : Bool) (a n : Nat) : (s.readRange c a n).1.ptp = s.ptp := by
  induction n generalizing s a with
  | zero => rfl
  | succ n ih => simp [State.readRange, ih]

@[simp] theorem State.readRange_crcs (s : State) (c : Bool) (a n : Nat) : (s.readRange c a n).1.crcs = s.crcs := by
  induction n generalizing s a with
  | zero => rfl
  | succ n ih => simp [State.readRange, ih]

@[simp] theorem State.readRange_adcs (s : State) (c : Bool) (a n : Nat) : (s.readRange c a n).1.adcs = s.adcs := by
  induction n generalizing s a with
  | zero => rfl
  | succ n ih => simp [State.readRange, ih]

@[simp] theorem State.readRange_inp (s : State) (c : Bool) (a n : Nat) : (s.readRange c a n).1.inp = s.inp := by
  induction n generalizing s a with
  | zero => rfl
  | succ n ih => simp [State.readRange, ih]

@[simp] theorem State.readRange_pairs (s : State) (c : Bool) (a n : Nat) : (s.readRange c a n).1.pairs = s.pairs := by
  induction n generalizing s a with
  | zero => rfl
  | succ n ih => simp [State.readRange, ih]

@[simp] theorem State.readRange_power (s : State) (c : Bool) (a n : Nat) : (s.readRange c a n).1.power = s.power := by
  induction n generalizing s a with
  | zero => rfl
  | succ n ih => simp [State.readRange, ih]

@[simp] theorem State.readRange_service (s : State) (c : Bool) (a n : Nat) : (s.readRange c a n).1.service = s.service := by
  induction n generalizing s a with
  | zero => rfl
  | succ n ih => simp [State.readRange, ih]

@[simp] theorem State.readRange_epochAt (s : State) (c : Bool) (a n : Nat) : (s.readRange c a n).1.epochAt = s.epochAt := by
  induction n generalizing s a with
  | zero => rfl
  | succ n ih => simp [State.readRange, ih]

@[simp] theorem State.readRange_hostLost (s : State) (c : Bool) (a n : Nat) : (s.readRange c a n).1.hostLost = s.hostLost := by
  induction n generalizing s a with
  | zero => rfl
  | succ n ih => simp [State.readRange, ih]

@[simp] theorem State.readRange_graph (s : State) (c : Bool) (a n : Nat) : (s.readRange c a n).1.graph = s.graph := by
  induction n generalizing s a with
  | zero => rfl
  | succ n ih => simp [State.readRange, ih]

@[simp] theorem State.readRange_stay (s : State) (c : Bool) (a n : Nat) : (s.readRange c a n).1.stay = s.stay := by
  induction n generalizing s a with
  | zero => rfl
  | succ n ih => simp [State.readRange, ih]

@[simp] theorem State.resetRing_view (s : State) (n : Nat) : (State.resetRing s n).view = s.view := by
  unfold State.resetRing
  simp

@[simp] theorem State.resetRing_keeps (s : State) (n : Nat) : State.Same (State.resetRing s n) s :=
  State.keeps_of_view (State.resetRing_view s n)

@[simp] theorem State.stageStore_view (s : State) (f : StageFile) : (State.stageStore s f).view = s.view := by
  unfold State.stageStore
  ((try dsimp only); repeat' (first | (simp; done) | split))

@[simp] theorem State.stageStore_keeps (s : State) (f : StageFile) : State.Same (State.stageStore s f) s :=
  State.keeps_of_view (State.stageStore_view s f)

@[simp] theorem State.installKey_view (s : State) (e : Nat) : (State.installKey s e).view = s.view := by
  unfold State.installKey
  simp

@[simp] theorem State.installKey_keeps (s : State) (e : Nat) : State.Same (State.installKey s e) s :=
  State.keeps_of_view (State.installKey_view s e)

@[simp] theorem State.mmInfo_view (s : State) (c : Chan) (t0 t1 : BitVec 8) : (State.mmInfo s c t0 t1).view = s.view := by
  unfold State.mmInfo
  simp

@[simp] theorem State.mmInfo_keeps (s : State) (c : Chan) (t0 t1 : BitVec 8) : State.Same (State.mmInfo s c t0 t1) s :=
  State.keeps_of_view (State.mmInfo_view s c t0 t1)

@[simp] theorem State.mismatch_view (s : State) (c : Chan) : (State.mismatch s c).view = s.view := by
  unfold State.mismatch
  simp

@[simp] theorem State.mismatch_keeps (s : State) (c : Chan) : State.Same (State.mismatch s c) s :=
  State.keeps_of_view (State.mismatch_view s c)

@[simp] theorem State.ttDisagree_view (s : State) (c : Chan) (side : Nat) : (State.ttDisagree s c side).view = s.view := by
  unfold State.ttDisagree
  simp

@[simp] theorem State.ttDisagree_keeps (s : State) (c : Chan) (side : Nat) : State.Same (State.ttDisagree s c side) s :=
  State.keeps_of_view (State.ttDisagree_view s c side)

@[simp] theorem State.at_view (s : State) (t : Nat) : (State.at s t).view = s.view := by
  unfold State.at
  simp

@[simp] theorem State.at_keeps (s : State) (t : Nat) : State.Same (State.at s t) s :=
  State.keeps_of_view (State.at_view s t)

@[simp] theorem State.measFault_keeps (s : State) (k : MzFault) : (State.measFault s k).pending = s.pending ∧ (State.measFault s k).mem = s.mem ∧ (State.measFault s k).prog = s.prog ∧ (State.measFault s k).refit = s.refit ∧ (State.measFault s k).refitHeld = s.refitHeld ∧ (State.measFault s k).fw = s.fw ∧ (State.measFault s k).ses = s.ses ∧ (State.measFault s k).nets = s.nets ∧ (State.measFault s k).link = s.link ∧ (State.measFault s k).ptp = s.ptp ∧ (State.measFault s k).tims = s.tims ∧ (State.measFault s k).crcs = s.crcs ∧ (State.measFault s k).adcs = s.adcs ∧ (State.measFault s k).inp = s.inp ∧ (State.measFault s k).pairs = s.pairs ∧ (State.measFault s k).power = s.power ∧ (State.measFault s k).service = s.service ∧ (State.measFault s k).epochAt = s.epochAt ∧ (State.measFault s k).hostLost = s.hostLost ∧ (State.measFault s k).graph = s.graph ∧ (State.measFault s k).stay = s.stay := by
  unfold State.measFault
  simp

@[simp] theorem State.mzTake_pending (s : State) (k : Nat) (f : State → Nat → State × Nat) (h : ∀ x a, (f x a).1.pending = x.pending) : (s.mzTake k f).pending = s.pending := by
  unfold State.mzTake
  ((try dsimp only); repeat' (first | (simp [h]; done) | split))

@[simp] theorem State.mzTake_mem (s : State) (k : Nat) (f : State → Nat → State × Nat) (h : ∀ x a, (f x a).1.mem = x.mem) : (s.mzTake k f).mem = s.mem := by
  unfold State.mzTake
  ((try dsimp only); repeat' (first | (simp [h]; done) | split))

@[simp] theorem State.mzTake_prog (s : State) (k : Nat) (f : State → Nat → State × Nat) (h : ∀ x a, (f x a).1.prog = x.prog) : (s.mzTake k f).prog = s.prog := by
  unfold State.mzTake
  ((try dsimp only); repeat' (first | (simp [h]; done) | split))

@[simp] theorem State.mzTake_refit (s : State) (k : Nat) (f : State → Nat → State × Nat) (h : ∀ x a, (f x a).1.refit = x.refit) : (s.mzTake k f).refit = s.refit := by
  unfold State.mzTake
  ((try dsimp only); repeat' (first | (simp [h]; done) | split))

@[simp] theorem State.mzTake_refitHeld (s : State) (k : Nat) (f : State → Nat → State × Nat) (h : ∀ x a, (f x a).1.refitHeld = x.refitHeld) : (s.mzTake k f).refitHeld = s.refitHeld := by
  unfold State.mzTake
  ((try dsimp only); repeat' (first | (simp [h]; done) | split))

@[simp] theorem State.mzTake_fw (s : State) (k : Nat) (f : State → Nat → State × Nat) (h : ∀ x a, (f x a).1.fw = x.fw) : (s.mzTake k f).fw = s.fw := by
  unfold State.mzTake
  ((try dsimp only); repeat' (first | (simp [h]; done) | split))

@[simp] theorem State.mzTake_ses (s : State) (k : Nat) (f : State → Nat → State × Nat) (h : ∀ x a, (f x a).1.ses = x.ses) : (s.mzTake k f).ses = s.ses := by
  unfold State.mzTake
  ((try dsimp only); repeat' (first | (simp [h]; done) | split))

@[simp] theorem State.mzTake_nets (s : State) (k : Nat) (f : State → Nat → State × Nat) (h : ∀ x a, (f x a).1.nets = x.nets) : (s.mzTake k f).nets = s.nets := by
  unfold State.mzTake
  ((try dsimp only); repeat' (first | (simp [h]; done) | split))

@[simp] theorem State.mzTake_link (s : State) (k : Nat) (f : State → Nat → State × Nat) (h : ∀ x a, (f x a).1.link = x.link) : (s.mzTake k f).link = s.link := by
  unfold State.mzTake
  ((try dsimp only); repeat' (first | (simp [h]; done) | split))

@[simp] theorem State.mzTake_ptp (s : State) (k : Nat) (f : State → Nat → State × Nat) (h : ∀ x a, (f x a).1.ptp = x.ptp) : (s.mzTake k f).ptp = s.ptp := by
  unfold State.mzTake
  ((try dsimp only); repeat' (first | (simp [h]; done) | split))

@[simp] theorem State.mzTake_tims (s : State) (k : Nat) (f : State → Nat → State × Nat) (h : ∀ x a, (f x a).1.tims = x.tims) : (s.mzTake k f).tims = s.tims := by
  unfold State.mzTake
  ((try dsimp only); repeat' (first | (simp [h]; done) | split))

@[simp] theorem State.mzTake_crcs (s : State) (k : Nat) (f : State → Nat → State × Nat) (h : ∀ x a, (f x a).1.crcs = x.crcs) : (s.mzTake k f).crcs = s.crcs := by
  unfold State.mzTake
  ((try dsimp only); repeat' (first | (simp [h]; done) | split))

@[simp] theorem State.mzTake_adcs (s : State) (k : Nat) (f : State → Nat → State × Nat) (h : ∀ x a, (f x a).1.adcs = x.adcs) : (s.mzTake k f).adcs = s.adcs := by
  unfold State.mzTake
  ((try dsimp only); repeat' (first | (simp [h]; done) | split))

@[simp] theorem State.mzTake_inp (s : State) (k : Nat) (f : State → Nat → State × Nat) (h : ∀ x a, (f x a).1.inp = x.inp) : (s.mzTake k f).inp = s.inp := by
  unfold State.mzTake
  ((try dsimp only); repeat' (first | (simp [h]; done) | split))

@[simp] theorem State.mzTake_pairs (s : State) (k : Nat) (f : State → Nat → State × Nat) (h : ∀ x a, (f x a).1.pairs = x.pairs) : (s.mzTake k f).pairs = s.pairs := by
  unfold State.mzTake
  ((try dsimp only); repeat' (first | (simp [h]; done) | split))

@[simp] theorem State.mzTake_power (s : State) (k : Nat) (f : State → Nat → State × Nat) (h : ∀ x a, (f x a).1.power = x.power) : (s.mzTake k f).power = s.power := by
  unfold State.mzTake
  ((try dsimp only); repeat' (first | (simp [h]; done) | split))

@[simp] theorem State.mzTake_service (s : State) (k : Nat) (f : State → Nat → State × Nat) (h : ∀ x a, (f x a).1.service = x.service) : (s.mzTake k f).service = s.service := by
  unfold State.mzTake
  ((try dsimp only); repeat' (first | (simp [h]; done) | split))

@[simp] theorem State.mzTake_epochAt (s : State) (k : Nat) (f : State → Nat → State × Nat) (h : ∀ x a, (f x a).1.epochAt = x.epochAt) : (s.mzTake k f).epochAt = s.epochAt := by
  unfold State.mzTake
  ((try dsimp only); repeat' (first | (simp [h]; done) | split))

@[simp] theorem State.mzTake_hostLost (s : State) (k : Nat) (f : State → Nat → State × Nat) (h : ∀ x a, (f x a).1.hostLost = x.hostLost) : (s.mzTake k f).hostLost = s.hostLost := by
  unfold State.mzTake
  ((try dsimp only); repeat' (first | (simp [h]; done) | split))

@[simp] theorem State.mzTake_graph (s : State) (k : Nat) (f : State → Nat → State × Nat) (h : ∀ x a, (f x a).1.graph = x.graph) : (s.mzTake k f).graph = s.graph := by
  unfold State.mzTake
  ((try dsimp only); repeat' (first | (simp [h]; done) | split))

@[simp] theorem State.mzTake_stay (s : State) (k : Nat) (f : State → Nat → State × Nat) (h : ∀ x a, (f x a).1.stay = x.stay) : (s.mzTake k f).stay = s.stay := by
  unfold State.mzTake
  ((try dsimp only); repeat' (first | (simp [h]; done) | split))

@[simp] theorem State.mzData_view (s : State) (f : Nat → Nat) : (State.mzData s f).view = s.view := by
  unfold State.mzData
  simp

@[simp] theorem State.mzData_keeps (s : State) (f : Nat → Nat) : State.Same (State.mzData s f) s :=
  State.keeps_of_view (State.mzData_view s f)

@[simp] theorem State.mzRefuse_keeps (s : State) (cmd : Nat) : (State.mzRefuse s cmd).pending = s.pending ∧ (State.mzRefuse s cmd).mem = s.mem ∧ (State.mzRefuse s cmd).prog = s.prog ∧ (State.mzRefuse s cmd).refit = s.refit ∧ (State.mzRefuse s cmd).refitHeld = s.refitHeld ∧ (State.mzRefuse s cmd).fw = s.fw ∧ (State.mzRefuse s cmd).ses = s.ses ∧ (State.mzRefuse s cmd).nets = s.nets ∧ (State.mzRefuse s cmd).link = s.link ∧ (State.mzRefuse s cmd).ptp = s.ptp ∧ (State.mzRefuse s cmd).tims = s.tims ∧ (State.mzRefuse s cmd).crcs = s.crcs ∧ (State.mzRefuse s cmd).adcs = s.adcs ∧ (State.mzRefuse s cmd).inp = s.inp ∧ (State.mzRefuse s cmd).pairs = s.pairs ∧ (State.mzRefuse s cmd).power = s.power ∧ (State.mzRefuse s cmd).service = s.service ∧ (State.mzRefuse s cmd).epochAt = s.epochAt ∧ (State.mzRefuse s cmd).hostLost = s.hostLost ∧ (State.mzRefuse s cmd).graph = s.graph ∧ (State.mzRefuse s cmd).stay = s.stay := by
  unfold State.mzRefuse
  simp

@[simp] theorem State.mzAnswer_pending (s : State) (f : State → State × MzAnswer) (h : ∀ x, (f x).1.pending = x.pending) : (s.mzAnswer f).pending = s.pending := by
  unfold State.mzAnswer
  simp [h]

@[simp] theorem State.mzAnswer_mem (s : State) (f : State → State × MzAnswer) (h : ∀ x, (f x).1.mem = x.mem) : (s.mzAnswer f).mem = s.mem := by
  unfold State.mzAnswer
  simp [h]

@[simp] theorem State.mzAnswer_prog (s : State) (f : State → State × MzAnswer) (h : ∀ x, (f x).1.prog = x.prog) : (s.mzAnswer f).prog = s.prog := by
  unfold State.mzAnswer
  simp [h]

@[simp] theorem State.mzAnswer_refit (s : State) (f : State → State × MzAnswer) (h : ∀ x, (f x).1.refit = x.refit) : (s.mzAnswer f).refit = s.refit := by
  unfold State.mzAnswer
  simp [h]

@[simp] theorem State.mzAnswer_refitHeld (s : State) (f : State → State × MzAnswer) (h : ∀ x, (f x).1.refitHeld = x.refitHeld) : (s.mzAnswer f).refitHeld = s.refitHeld := by
  unfold State.mzAnswer
  simp [h]

@[simp] theorem State.mzAnswer_fw (s : State) (f : State → State × MzAnswer) (h : ∀ x, (f x).1.fw = x.fw) : (s.mzAnswer f).fw = s.fw := by
  unfold State.mzAnswer
  simp [h]

@[simp] theorem State.mzAnswer_ses (s : State) (f : State → State × MzAnswer) (h : ∀ x, (f x).1.ses = x.ses) : (s.mzAnswer f).ses = s.ses := by
  unfold State.mzAnswer
  simp [h]

@[simp] theorem State.mzAnswer_nets (s : State) (f : State → State × MzAnswer) (h : ∀ x, (f x).1.nets = x.nets) : (s.mzAnswer f).nets = s.nets := by
  unfold State.mzAnswer
  simp [h]

@[simp] theorem State.mzAnswer_link (s : State) (f : State → State × MzAnswer) (h : ∀ x, (f x).1.link = x.link) : (s.mzAnswer f).link = s.link := by
  unfold State.mzAnswer
  simp [h]

@[simp] theorem State.mzAnswer_ptp (s : State) (f : State → State × MzAnswer) (h : ∀ x, (f x).1.ptp = x.ptp) : (s.mzAnswer f).ptp = s.ptp := by
  unfold State.mzAnswer
  simp [h]

@[simp] theorem State.mzAnswer_tims (s : State) (f : State → State × MzAnswer) (h : ∀ x, (f x).1.tims = x.tims) : (s.mzAnswer f).tims = s.tims := by
  unfold State.mzAnswer
  simp [h]

@[simp] theorem State.mzAnswer_crcs (s : State) (f : State → State × MzAnswer) (h : ∀ x, (f x).1.crcs = x.crcs) : (s.mzAnswer f).crcs = s.crcs := by
  unfold State.mzAnswer
  simp [h]

@[simp] theorem State.mzAnswer_adcs (s : State) (f : State → State × MzAnswer) (h : ∀ x, (f x).1.adcs = x.adcs) : (s.mzAnswer f).adcs = s.adcs := by
  unfold State.mzAnswer
  simp [h]

@[simp] theorem State.mzAnswer_inp (s : State) (f : State → State × MzAnswer) (h : ∀ x, (f x).1.inp = x.inp) : (s.mzAnswer f).inp = s.inp := by
  unfold State.mzAnswer
  simp [h]

@[simp] theorem State.mzAnswer_pairs (s : State) (f : State → State × MzAnswer) (h : ∀ x, (f x).1.pairs = x.pairs) : (s.mzAnswer f).pairs = s.pairs := by
  unfold State.mzAnswer
  simp [h]

@[simp] theorem State.mzAnswer_power (s : State) (f : State → State × MzAnswer) (h : ∀ x, (f x).1.power = x.power) : (s.mzAnswer f).power = s.power := by
  unfold State.mzAnswer
  simp [h]

@[simp] theorem State.mzAnswer_service (s : State) (f : State → State × MzAnswer) (h : ∀ x, (f x).1.service = x.service) : (s.mzAnswer f).service = s.service := by
  unfold State.mzAnswer
  simp [h]

@[simp] theorem State.mzAnswer_epochAt (s : State) (f : State → State × MzAnswer) (h : ∀ x, (f x).1.epochAt = x.epochAt) : (s.mzAnswer f).epochAt = s.epochAt := by
  unfold State.mzAnswer
  simp [h]

@[simp] theorem State.mzAnswer_hostLost (s : State) (f : State → State × MzAnswer) (h : ∀ x, (f x).1.hostLost = x.hostLost) : (s.mzAnswer f).hostLost = s.hostLost := by
  unfold State.mzAnswer
  simp [h]

@[simp] theorem State.mzAnswer_graph (s : State) (f : State → State × MzAnswer) (h : ∀ x, (f x).1.graph = x.graph) : (s.mzAnswer f).graph = s.graph := by
  unfold State.mzAnswer
  simp [h]

@[simp] theorem State.mzAnswer_stay (s : State) (f : State → State × MzAnswer) (h : ∀ x, (f x).1.stay = x.stay) : (s.mzAnswer f).stay = s.stay := by
  unfold State.mzAnswer
  simp [h]

@[simp] theorem State.loseAon_keeps (s : State) : (State.loseAon s).pending = s.pending ∧ (State.loseAon s).mz = s.mz ∧ (State.loseAon s).prog = s.prog ∧ (State.loseAon s).refit = s.refit ∧ (State.loseAon s).refitHeld = s.refitHeld ∧ (State.loseAon s).fw = s.fw ∧ (State.loseAon s).ses = s.ses ∧ (State.loseAon s).nets = s.nets ∧ (State.loseAon s).link = s.link ∧ (State.loseAon s).ptp = s.ptp ∧ (State.loseAon s).tims = s.tims ∧ (State.loseAon s).crcs = s.crcs ∧ (State.loseAon s).adcs = s.adcs ∧ (State.loseAon s).inp = s.inp ∧ (State.loseAon s).pairs = s.pairs ∧ (State.loseAon s).power = s.power ∧ (State.loseAon s).service = s.service ∧ (State.loseAon s).epochAt = s.epochAt ∧ (State.loseAon s).hostLost = s.hostLost ∧ (State.loseAon s).graph = s.graph ∧ (State.loseAon s).stay = s.stay := by
  unfold State.loseAon
  simp

@[simp] theorem State.acceptFw_view (s : State) : (State.acceptFw s).view = s.view := by
  unfold State.acceptFw
  ((try dsimp only); repeat' (first | (simp; done) | split))

@[simp] theorem State.acceptFw_keeps (s : State) : State.Same (State.acceptFw s) s :=
  State.keeps_of_view (State.acceptFw_view s)

@[simp] theorem State.markReady_view (s : State) : (State.markReady s).view = s.view := by
  unfold State.markReady
  simp

@[simp] theorem State.markReady_keeps (s : State) : State.Same (State.markReady s) s :=
  State.keeps_of_view (State.markReady_view s)

@[simp] theorem State.stopStay_keeps (s : State) : (State.stopStay s).pending = s.pending ∧ (State.stopStay s).mem = s.mem ∧ (State.stopStay s).mz = s.mz ∧ (State.stopStay s).prog = s.prog ∧ (State.stopStay s).refit = s.refit ∧ (State.stopStay s).refitHeld = s.refitHeld ∧ (State.stopStay s).fw = s.fw ∧ (State.stopStay s).ses = s.ses ∧ (State.stopStay s).nets = s.nets ∧ (State.stopStay s).link = s.link ∧ (State.stopStay s).ptp = s.ptp ∧ (State.stopStay s).tims = s.tims ∧ (State.stopStay s).crcs = s.crcs ∧ (State.stopStay s).adcs = s.adcs ∧ (State.stopStay s).inp = s.inp ∧ (State.stopStay s).pairs = s.pairs ∧ (State.stopStay s).power = s.power ∧ (State.stopStay s).service = s.service ∧ (State.stopStay s).epochAt = s.epochAt ∧ (State.stopStay s).hostLost = s.hostLost ∧ (State.stopStay s).graph = s.graph := by
  unfold State.stopStay
  simp

@[simp] theorem State.invalidate_view (s : State) : (State.invalidate s).view = s.view := by
  unfold State.invalidate
  simp

@[simp] theorem State.invalidate_keeps (s : State) : State.Same (State.invalidate s) s :=
  State.keeps_of_view (State.invalidate_view s)

@[simp] theorem State.resume_keeps (s : State) : (State.resume s).pending = s.pending ∧ (State.resume s).mem = s.mem ∧ (State.resume s).mz = s.mz ∧ (State.resume s).prog = s.prog ∧ (State.resume s).refit = s.refit ∧ (State.resume s).refitHeld = s.refitHeld ∧ (State.resume s).fw = s.fw ∧ (State.resume s).ses = s.ses ∧ (State.resume s).nets = s.nets ∧ (State.resume s).link = s.link ∧ (State.resume s).ptp = s.ptp ∧ (State.resume s).crcs = s.crcs ∧ (State.resume s).inp = s.inp ∧ (State.resume s).pairs = s.pairs ∧ (State.resume s).power = s.power ∧ (State.resume s).service = s.service ∧ (State.resume s).epochAt = s.epochAt ∧ (State.resume s).hostLost = s.hostLost ∧ (State.resume s).graph = s.graph := by
  unfold State.resume
  simp

@[simp] theorem State.drawDrk_view (s : State) : (State.drawDrk s).view = s.view := by
  unfold State.drawDrk
  simp

@[simp] theorem State.drawDrk_keeps (s : State) : State.Same (State.drawDrk s) s :=
  State.keeps_of_view (State.drawDrk_view s)

@[simp] theorem State.resetElem_keeps (s : State) (c : Chan) (e : DbgElem) : (State.resetElem s c e).pending = s.pending ∧ (State.resetElem s c e).mem = s.mem ∧ (State.resetElem s c e).mz = s.mz ∧ (State.resetElem s c e).prog = s.prog ∧ (State.resetElem s c e).refit = s.refit ∧ (State.resetElem s c e).refitHeld = s.refitHeld ∧ (State.resetElem s c e).fw = s.fw ∧ (State.resetElem s c e).ses = s.ses ∧ (State.resetElem s c e).nets = s.nets ∧ (State.resetElem s c e).link = s.link ∧ (State.resetElem s c e).ptp = s.ptp ∧ (State.resetElem s c e).tims = s.tims ∧ (State.resetElem s c e).crcs = s.crcs ∧ (State.resetElem s c e).adcs = s.adcs ∧ (State.resetElem s c e).pairs = s.pairs ∧ (State.resetElem s c e).power = s.power ∧ (State.resetElem s c e).service = s.service ∧ (State.resetElem s c e).epochAt = s.epochAt ∧ (State.resetElem s c e).hostLost = s.hostLost ∧ (State.resetElem s c e).stay = s.stay := by
  unfold State.resetElem
  ((try dsimp only); repeat' (first | (simp; done) | split))

@[simp] theorem State.goRun_view (s : State) (full : Bool) (cmd logic lo hi : Nat) : (State.goRun s full cmd logic lo hi).view = s.view := by
  unfold State.goRun
  simp

@[simp] theorem State.goRun_keeps (s : State) (full : Bool) (cmd logic lo hi : Nat) : State.Same (State.goRun s full cmd logic lo hi) s :=
  State.keeps_of_view (State.goRun_view s full cmd logic lo hi)

@[simp] theorem State.logFails_view (s : State) (fs : List BstFail) : (State.logFails s fs).view = s.view := by
  unfold State.logFails
  simp

@[simp] theorem State.logFails_keeps (s : State) (fs : List BstFail) : State.Same (State.logFails s fs) s :=
  State.keeps_of_view (State.logFails_view s fs)

@[simp] theorem State.clearArrays_keeps (s : State) : (State.clearArrays s).pending = s.pending ∧ (State.clearArrays s).mz = s.mz ∧ (State.clearArrays s).prog = s.prog ∧ (State.clearArrays s).refit = s.refit ∧ (State.clearArrays s).refitHeld = s.refitHeld ∧ (State.clearArrays s).fw = s.fw ∧ (State.clearArrays s).ses = s.ses ∧ (State.clearArrays s).nets = s.nets ∧ (State.clearArrays s).link = s.link ∧ (State.clearArrays s).ptp = s.ptp ∧ (State.clearArrays s).tims = s.tims ∧ (State.clearArrays s).crcs = s.crcs ∧ (State.clearArrays s).adcs = s.adcs ∧ (State.clearArrays s).inp = s.inp ∧ (State.clearArrays s).pairs = s.pairs ∧ (State.clearArrays s).power = s.power ∧ (State.clearArrays s).service = s.service ∧ (State.clearArrays s).epochAt = s.epochAt ∧ (State.clearArrays s).hostLost = s.hostLost ∧ (State.clearArrays s).graph = s.graph ∧ (State.clearArrays s).stay = s.stay := by
  unfold State.clearArrays
  simp

@[simp] theorem State.noteSram_view (s : State) (o : RatlineObs) : (State.noteSram s o).view = s.view := by
  unfold State.noteSram
  simp

@[simp] theorem State.noteSram_keeps (s : State) (o : RatlineObs) : State.Same (State.noteSram s o) s :=
  State.keeps_of_view (State.noteSram_view s o)

@[simp] theorem State.showForce_view (s : State) (f : BstFail) : (State.showForce s f).view = s.view := by
  unfold State.showForce
  split <;> simp

@[simp] theorem State.raiseFails_view (s : State) (k : RunKind) (fs : List BstFail) : (State.raiseFails s k fs).view = s.view := by
  unfold State.raiseFails
  split
  · rfl
  all_goals exact State.foldl_keep State.view _ (fun _ _ => by simp) fs s

@[simp] theorem State.raiseFails_keeps (s : State) (k : RunKind) (fs : List BstFail) : State.Same (State.raiseFails s k fs) s :=
  State.keeps_of_view (State.raiseFails_view s k fs)

@[simp] theorem State.writeCert_view (s : State) (ms : Nat) : (State.writeCert s ms).view = s.view := by
  unfold State.writeCert
  simp

@[simp] theorem State.writeCert_keeps (s : State) (ms : Nat) : State.Same (State.writeCert s ms) s :=
  State.keeps_of_view (State.writeCert_view s ms)

@[simp] theorem State.endL3_view (s : State) (passed : Bool) : (State.endL3 s passed).view = s.view := by
  unfold State.endL3
  simp

@[simp] theorem State.endL3_keeps (s : State) (passed : Bool) : State.Same (State.endL3 s passed) s :=
  State.keeps_of_view (State.endL3_view s passed)

@[simp] theorem State.passRun_view (s : State) (k : RunKind) (ms : Nat) : (State.passRun s k ms).view = s.view := by
  unfold State.passRun
  ((try dsimp only); repeat' (first | (simp; done) | split))

@[simp] theorem State.passRun_keeps (s : State) (k : RunKind) (ms : Nat) : State.Same (State.passRun s k ms) s :=
  State.keeps_of_view (State.passRun_view s k ms)

@[simp] theorem State.showRun_view (s : State) (o : RatlineObs) (result : Nat) : (State.showRun s o result).view = s.view := by
  unfold State.showRun
  simp

@[simp] theorem State.showRun_keeps (s : State) (o : RatlineObs) (result : Nat) : State.Same (State.showRun s o result) s :=
  State.keeps_of_view (State.showRun_view s o result)

@[simp] theorem State.leaveRun_keeps (s : State) (k : RunKind) (imgOk : Bool) : (State.leaveRun s k imgOk).pending = s.pending ∧ (State.leaveRun s k imgOk).mem = s.mem ∧ (State.leaveRun s k imgOk).mz = s.mz ∧ (State.leaveRun s k imgOk).power = s.power ∧ (State.leaveRun s k imgOk).epochAt = s.epochAt ∧ (State.leaveRun s k imgOk).hostLost = s.hostLost := by
  unfold State.leaveRun
  ((try dsimp only); repeat' (first | (simp; done) | split))

@[simp] theorem State.refitPhase_view (s : State) (p : Nat) : (State.refitPhase s p).view = s.view := by
  unfold State.refitPhase
  simp

@[simp] theorem State.refitPhase_keeps (s : State) (p : Nat) : State.Same (State.refitPhase s p) s :=
  State.keeps_of_view (State.refitPhase_view s p)

@[simp] theorem State.refuseRefit_view (s : State) (code : Nat) : (State.refuseRefit s code).view = s.view := by
  unfold State.refuseRefit
  simp

@[simp] theorem State.refuseRefit_keeps (s : State) (code : Nat) : State.Same (State.refuseRefit s code) s :=
  State.keeps_of_view (State.refuseRefit_view s code)

theorem State.refitRefused_view (s : State) (r : Nat) (y : State × Ends) (h : s.refitRefused r = some y) : y.1.view = s.view := by
  unfold State.refitRefused at h
  repeat' split at h
  all_goals first
    | (have h := Option.some.inj h; subst h; first | (simp; done) | (split <;> simp))
    | exact absurd h (by simp)

@[simp] theorem State.startRefit_keeps (s : State) (r : Nat) (d : Desc) (im : Image) : (State.startRefit s r d im).pending = s.pending ∧ (State.startRefit s r d im).mem = s.mem ∧ (State.startRefit s r d im).mz = s.mz ∧ (State.startRefit s r d im).prog = s.prog ∧ (State.startRefit s r d im).fw = s.fw ∧ (State.startRefit s r d im).ses = s.ses ∧ (State.startRefit s r d im).nets = s.nets ∧ (State.startRefit s r d im).link = s.link ∧ (State.startRefit s r d im).ptp = s.ptp ∧ (State.startRefit s r d im).tims = s.tims ∧ (State.startRefit s r d im).crcs = s.crcs ∧ (State.startRefit s r d im).adcs = s.adcs ∧ (State.startRefit s r d im).inp = s.inp ∧ (State.startRefit s r d im).pairs = s.pairs ∧ (State.startRefit s r d im).power = s.power ∧ (State.startRefit s r d im).service = s.service ∧ (State.startRefit s r d im).epochAt = s.epochAt ∧ (State.startRefit s r d im).hostLost = s.hostLost ∧ (State.startRefit s r d im).graph = s.graph ∧ (State.startRefit s r d im).stay = s.stay := by
  unfold State.startRefit
  simp

@[simp] theorem State.freshElem_keeps (s : State) (o : Owner) : (State.freshElem s o).pending = s.pending ∧ (State.freshElem s o).mem = s.mem ∧ (State.freshElem s o).mz = s.mz ∧ (State.freshElem s o).prog = s.prog ∧ (State.freshElem s o).refit = s.refit ∧ (State.freshElem s o).refitHeld = s.refitHeld ∧ (State.freshElem s o).fw = s.fw ∧ (State.freshElem s o).ses = s.ses ∧ (State.freshElem s o).nets = s.nets ∧ (State.freshElem s o).link = s.link ∧ (State.freshElem s o).ptp = s.ptp ∧ (State.freshElem s o).tims = s.tims ∧ (State.freshElem s o).crcs = s.crcs ∧ (State.freshElem s o).adcs = s.adcs ∧ (State.freshElem s o).inp = s.inp ∧ (State.freshElem s o).power = s.power ∧ (State.freshElem s o).service = s.service ∧ (State.freshElem s o).epochAt = s.epochAt ∧ (State.freshElem s o).hostLost = s.hostLost ∧ (State.freshElem s o).graph = s.graph ∧ (State.freshElem s o).stay = s.stay := by
  unfold State.freshElem
  ((try dsimp only); repeat' (first | (simp; done) | split))

@[simp] theorem State.applyRefit_keeps (s : State) (im : Image) : (State.applyRefit s im).pending = s.pending ∧ (State.applyRefit s im).mem = s.mem ∧ (State.applyRefit s im).mz = s.mz ∧ (State.applyRefit s im).refit = s.refit ∧ (State.applyRefit s im).refitHeld = s.refitHeld ∧ (State.applyRefit s im).fw = s.fw ∧ (State.applyRefit s im).ses = s.ses ∧ (State.applyRefit s im).nets = s.nets ∧ (State.applyRefit s im).link = s.link ∧ (State.applyRefit s im).ptp = s.ptp ∧ (State.applyRefit s im).tims = s.tims ∧ (State.applyRefit s im).crcs = s.crcs ∧ (State.applyRefit s im).adcs = s.adcs ∧ (State.applyRefit s im).inp = s.inp ∧ (State.applyRefit s im).power = s.power ∧ (State.applyRefit s im).service = s.service ∧ (State.applyRefit s im).epochAt = s.epochAt ∧ (State.applyRefit s im).hostLost = s.hostLost ∧ (State.applyRefit s im).graph = s.graph ∧ (State.applyRefit s im).stay = s.stay := by
  unfold State.applyRefit
  simp

@[simp] theorem State.dropRefit_keeps (s : State) (code : Nat) : (State.dropRefit s code).pending = s.pending ∧ (State.dropRefit s code).mem = s.mem ∧ (State.dropRefit s code).mz = s.mz ∧ (State.dropRefit s code).prog = s.prog ∧ (State.dropRefit s code).fw = s.fw ∧ (State.dropRefit s code).ses = s.ses ∧ (State.dropRefit s code).nets = s.nets ∧ (State.dropRefit s code).link = s.link ∧ (State.dropRefit s code).ptp = s.ptp ∧ (State.dropRefit s code).tims = s.tims ∧ (State.dropRefit s code).crcs = s.crcs ∧ (State.dropRefit s code).adcs = s.adcs ∧ (State.dropRefit s code).inp = s.inp ∧ (State.dropRefit s code).pairs = s.pairs ∧ (State.dropRefit s code).power = s.power ∧ (State.dropRefit s code).service = s.service ∧ (State.dropRefit s code).epochAt = s.epochAt ∧ (State.dropRefit s code).hostLost = s.hostLost ∧ (State.dropRefit s code).graph = s.graph ∧ (State.dropRefit s code).stay = s.stay := by
  unfold State.dropRefit
  simp

@[simp] theorem State.restartFns_keeps (s : State) (fs : List Nat) : (State.restartFns s fs).pending = s.pending ∧ (State.restartFns s fs).mem = s.mem ∧ (State.restartFns s fs).mz = s.mz ∧ (State.restartFns s fs).prog = s.prog ∧ (State.restartFns s fs).refit = s.refit ∧ (State.restartFns s fs).refitHeld = s.refitHeld ∧ (State.restartFns s fs).fw = s.fw ∧ (State.restartFns s fs).ses = s.ses ∧ (State.restartFns s fs).nets = s.nets ∧ (State.restartFns s fs).link = s.link ∧ (State.restartFns s fs).ptp = s.ptp ∧ (State.restartFns s fs).tims = s.tims ∧ (State.restartFns s fs).crcs = s.crcs ∧ (State.restartFns s fs).adcs = s.adcs ∧ (State.restartFns s fs).inp = s.inp ∧ (State.restartFns s fs).pairs = s.pairs ∧ (State.restartFns s fs).power = s.power ∧ (State.restartFns s fs).service = s.service ∧ (State.restartFns s fs).epochAt = s.epochAt ∧ (State.restartFns s fs).hostLost = s.hostLost ∧ (State.restartFns s fs).stay = s.stay := by
  unfold State.restartFns
  simp

@[simp] theorem State.guarded_pending (s : State) (i : Initiator) (a : Nat) (f : State → State) (h : ∀ x, (f x).pending = x.pending) : (s.guarded i a f).pending = s.pending := by
  unfold State.guarded
  simp [h]

@[simp] theorem State.guarded_mem (s : State) (i : Initiator) (a : Nat) (f : State → State) (h : ∀ x, (f x).mem = x.mem) : (s.guarded i a f).mem = s.mem := by
  unfold State.guarded
  simp [h]

@[simp] theorem State.guarded_mz (s : State) (i : Initiator) (a : Nat) (f : State → State) (h : ∀ x, (f x).mz = x.mz) : (s.guarded i a f).mz = s.mz := by
  unfold State.guarded
  simp [h]

@[simp] theorem State.guarded_prog (s : State) (i : Initiator) (a : Nat) (f : State → State) (h : ∀ x, (f x).prog = x.prog) : (s.guarded i a f).prog = s.prog := by
  unfold State.guarded
  simp [h]

@[simp] theorem State.guarded_refit (s : State) (i : Initiator) (a : Nat) (f : State → State) (h : ∀ x, (f x).refit = x.refit) : (s.guarded i a f).refit = s.refit := by
  unfold State.guarded
  simp [h]

@[simp] theorem State.guarded_refitHeld (s : State) (i : Initiator) (a : Nat) (f : State → State) (h : ∀ x, (f x).refitHeld = x.refitHeld) : (s.guarded i a f).refitHeld = s.refitHeld := by
  unfold State.guarded
  simp [h]

@[simp] theorem State.guarded_fw (s : State) (i : Initiator) (a : Nat) (f : State → State) (h : ∀ x, (f x).fw = x.fw) : (s.guarded i a f).fw = s.fw := by
  unfold State.guarded
  simp [h]

@[simp] theorem State.guarded_ses (s : State) (i : Initiator) (a : Nat) (f : State → State) (h : ∀ x, (f x).ses = x.ses) : (s.guarded i a f).ses = s.ses := by
  unfold State.guarded
  simp [h]

@[simp] theorem State.guarded_nets (s : State) (i : Initiator) (a : Nat) (f : State → State) (h : ∀ x, (f x).nets = x.nets) : (s.guarded i a f).nets = s.nets := by
  unfold State.guarded
  simp [h]

@[simp] theorem State.guarded_link (s : State) (i : Initiator) (a : Nat) (f : State → State) (h : ∀ x, (f x).link = x.link) : (s.guarded i a f).link = s.link := by
  unfold State.guarded
  simp [h]

@[simp] theorem State.guarded_ptp (s : State) (i : Initiator) (a : Nat) (f : State → State) (h : ∀ x, (f x).ptp = x.ptp) : (s.guarded i a f).ptp = s.ptp := by
  unfold State.guarded
  simp [h]

@[simp] theorem State.guarded_tims (s : State) (i : Initiator) (a : Nat) (f : State → State) (h : ∀ x, (f x).tims = x.tims) : (s.guarded i a f).tims = s.tims := by
  unfold State.guarded
  simp [h]

@[simp] theorem State.guarded_crcs (s : State) (i : Initiator) (a : Nat) (f : State → State) (h : ∀ x, (f x).crcs = x.crcs) : (s.guarded i a f).crcs = s.crcs := by
  unfold State.guarded
  simp [h]

@[simp] theorem State.guarded_adcs (s : State) (i : Initiator) (a : Nat) (f : State → State) (h : ∀ x, (f x).adcs = x.adcs) : (s.guarded i a f).adcs = s.adcs := by
  unfold State.guarded
  simp [h]

@[simp] theorem State.guarded_inp (s : State) (i : Initiator) (a : Nat) (f : State → State) (h : ∀ x, (f x).inp = x.inp) : (s.guarded i a f).inp = s.inp := by
  unfold State.guarded
  simp [h]

@[simp] theorem State.guarded_pairs (s : State) (i : Initiator) (a : Nat) (f : State → State) (h : ∀ x, (f x).pairs = x.pairs) : (s.guarded i a f).pairs = s.pairs := by
  unfold State.guarded
  simp [h]

@[simp] theorem State.guarded_power (s : State) (i : Initiator) (a : Nat) (f : State → State) (h : ∀ x, (f x).power = x.power) : (s.guarded i a f).power = s.power := by
  unfold State.guarded
  simp [h]

@[simp] theorem State.guarded_service (s : State) (i : Initiator) (a : Nat) (f : State → State) (h : ∀ x, (f x).service = x.service) : (s.guarded i a f).service = s.service := by
  unfold State.guarded
  simp [h]

@[simp] theorem State.guarded_epochAt (s : State) (i : Initiator) (a : Nat) (f : State → State) (h : ∀ x, (f x).epochAt = x.epochAt) : (s.guarded i a f).epochAt = s.epochAt := by
  unfold State.guarded
  simp [h]

@[simp] theorem State.guarded_hostLost (s : State) (i : Initiator) (a : Nat) (f : State → State) (h : ∀ x, (f x).hostLost = x.hostLost) : (s.guarded i a f).hostLost = s.hostLost := by
  unfold State.guarded
  simp [h]

@[simp] theorem State.guarded_graph (s : State) (i : Initiator) (a : Nat) (f : State → State) (h : ∀ x, (f x).graph = x.graph) : (s.guarded i a f).graph = s.graph := by
  unfold State.guarded
  simp [h]

@[simp] theorem State.guarded_stay (s : State) (i : Initiator) (a : Nat) (f : State → State) (h : ∀ x, (f x).stay = x.stay) : (s.guarded i a f).stay = s.stay := by
  unfold State.guarded
  simp [h]

@[simp] theorem State.putC_keeps (s : State) (f : Fld) (v : Nat) (u : Unit3) : (State.putC s f v u).pending = s.pending ∧ (State.putC s f v u).mem = s.mem ∧ (State.putC s f v u).mz = s.mz ∧ (State.putC s f v u).prog = s.prog ∧ (State.putC s f v u).refit = s.refit ∧ (State.putC s f v u).refitHeld = s.refitHeld ∧ (State.putC s f v u).fw = s.fw ∧ (State.putC s f v u).ses = s.ses ∧ (State.putC s f v u).nets = s.nets ∧ (State.putC s f v u).link = s.link ∧ (State.putC s f v u).ptp = s.ptp ∧ (State.putC s f v u).tims = s.tims ∧ (State.putC s f v u).adcs = s.adcs ∧ (State.putC s f v u).inp = s.inp ∧ (State.putC s f v u).pairs = s.pairs ∧ (State.putC s f v u).power = s.power ∧ (State.putC s f v u).service = s.service ∧ (State.putC s f v u).epochAt = s.epochAt ∧ (State.putC s f v u).hostLost = s.hostLost ∧ (State.putC s f v u).graph = s.graph ∧ (State.putC s f v u).stay = s.stay := by
  unfold State.putC
  simp

@[simp] theorem State.updCrc_keeps (s : State) (u : Unit3) (f : CrcSt → CrcSt) : (State.updCrc s u f).pending = s.pending ∧ (State.updCrc s u f).mem = s.mem ∧ (State.updCrc s u f).mz = s.mz ∧ (State.updCrc s u f).prog = s.prog ∧ (State.updCrc s u f).refit = s.refit ∧ (State.updCrc s u f).refitHeld = s.refitHeld ∧ (State.updCrc s u f).fw = s.fw ∧ (State.updCrc s u f).ses = s.ses ∧ (State.updCrc s u f).nets = s.nets ∧ (State.updCrc s u f).link = s.link ∧ (State.updCrc s u f).ptp = s.ptp ∧ (State.updCrc s u f).tims = s.tims ∧ (State.updCrc s u f).adcs = s.adcs ∧ (State.updCrc s u f).inp = s.inp ∧ (State.updCrc s u f).pairs = s.pairs ∧ (State.updCrc s u f).power = s.power ∧ (State.updCrc s u f).service = s.service ∧ (State.updCrc s u f).epochAt = s.epochAt ∧ (State.updCrc s u f).hostLost = s.hostLost ∧ (State.updCrc s u f).graph = s.graph ∧ (State.updCrc s u f).stay = s.stay := by
  unfold State.updCrc
  simp

@[simp] theorem State.scanEnds_keeps (s : State) (u : Unit3) (err : Nat) : (State.scanEnds s u err).pending = s.pending ∧ (State.scanEnds s u err).mem = s.mem ∧ (State.scanEnds s u err).mz = s.mz ∧ (State.scanEnds s u err).prog = s.prog ∧ (State.scanEnds s u err).refit = s.refit ∧ (State.scanEnds s u err).refitHeld = s.refitHeld ∧ (State.scanEnds s u err).fw = s.fw ∧ (State.scanEnds s u err).ses = s.ses ∧ (State.scanEnds s u err).nets = s.nets ∧ (State.scanEnds s u err).link = s.link ∧ (State.scanEnds s u err).ptp = s.ptp ∧ (State.scanEnds s u err).tims = s.tims ∧ (State.scanEnds s u err).adcs = s.adcs ∧ (State.scanEnds s u err).inp = s.inp ∧ (State.scanEnds s u err).pairs = s.pairs ∧ (State.scanEnds s u err).power = s.power ∧ (State.scanEnds s u err).service = s.service ∧ (State.scanEnds s u err).epochAt = s.epochAt ∧ (State.scanEnds s u err).hostLost = s.hostLost ∧ (State.scanEnds s u err).graph = s.graph ∧ (State.scanEnds s u err).stay = s.stay := by
  unfold State.scanEnds
  simp

/-- What every turn of a fold that may stop keeps, the fold keeps. -/
theorem State.foldl_keepO {α β γ : Type} (g : State → γ) (f : Option (State × β) → α → Option (State × β)) (h : ∀ r x y, f r x = some y → ∃ z, r = some z ∧ g y.1 = g z.1) (l : List α) (r : Option (State × β)) (y : State × β) (hy : l.foldl f r = some y) : ∃ z, r = some z ∧ g y.1 = g z.1 := by
  induction l generalizing r with
  | nil => exact ⟨y, hy, rfl⟩
  | cons x l ih =>
    obtain ⟨z, hz, hg⟩ := ih _ hy
    obtain ⟨z', hz', hg'⟩ := h _ _ _ hz
    exact ⟨z', hz', hg.trans hg'⟩

/-- A scan changes at most what a read changes. -/
theorem State.scanWords_keep (s : State) (u : Unit3) (a n : Nat) (y : State × List Nat) (hy : s.scanWords u a n = some y) : y.1.pending = s.pending ∧ y.1.mem = s.mem ∧ y.1.mz = s.mz ∧ y.1.prog = s.prog ∧ y.1.refit = s.refit ∧ y.1.refitHeld = s.refitHeld ∧ y.1.fw = s.fw ∧ y.1.ses = s.ses ∧ y.1.nets = s.nets ∧ y.1.link = s.link ∧ y.1.ptp = s.ptp ∧ y.1.crcs = s.crcs ∧ y.1.adcs = s.adcs ∧ y.1.inp = s.inp ∧ y.1.pairs = s.pairs ∧ y.1.power = s.power ∧ y.1.service = s.service ∧ y.1.epochAt = s.epochAt ∧ y.1.hostLost = s.hostLost ∧ y.1.graph = s.graph ∧ y.1.stay = s.stay := by
  have k : ({ y.1.view with tims := [] } : View) = { s.view with tims := [] } := by
    obtain ⟨z, hz, hg⟩ := State.foldl_keepO (fun t => ({ t.view with tims := [] } : View)) _ (fun r x y h => by
      cases r with
      | none => simp at h
      | some r =>
        refine ⟨r, rfl, ?_⟩
        dsimp only at h
        split at h
        · injection h with h
          subst h
          simp [View.ext_iff]
        · cases h) _ _ y hy
    cases hz
    exact hg
  simpa [View.ext_iff] using k

@[simp] theorem State.withFetchWord_keeps (s : State) (nbits w : Nat) : (State.withFetchWord s nbits w).mem = s.mem ∧ (State.withFetchWord s nbits w).mz = s.mz ∧ (State.withFetchWord s nbits w).prog = s.prog ∧ (State.withFetchWord s nbits w).refit = s.refit ∧ (State.withFetchWord s nbits w).refitHeld = s.refitHeld ∧ (State.withFetchWord s nbits w).fw = s.fw ∧ (State.withFetchWord s nbits w).ses = s.ses ∧ (State.withFetchWord s nbits w).nets = s.nets ∧ (State.withFetchWord s nbits w).link = s.link ∧ (State.withFetchWord s nbits w).ptp = s.ptp ∧ (State.withFetchWord s nbits w).tims = s.tims ∧ (State.withFetchWord s nbits w).crcs = s.crcs ∧ (State.withFetchWord s nbits w).adcs = s.adcs ∧ (State.withFetchWord s nbits w).inp = s.inp ∧ (State.withFetchWord s nbits w).pairs = s.pairs ∧ (State.withFetchWord s nbits w).power = s.power ∧ (State.withFetchWord s nbits w).service = s.service ∧ (State.withFetchWord s nbits w).epochAt = s.epochAt ∧ (State.withFetchWord s nbits w).hostLost = s.hostLost ∧ (State.withFetchWord s nbits w).graph = s.graph ∧ (State.withFetchWord s nbits w).stay = s.stay := by
  unfold State.withFetchWord
  ((try dsimp only); repeat' (first | (simp; done) | split))

end Sys2Proof.Machine
end

