-- ==== Sys2Proof/Laws/Raise.lean ====
section
/-! SUPPORT. Latching a fault: an event that reaches a collector with no consequential window open is held there afterwards, and nothing a raised line does drops a latch. -/

namespace Sys2Proof.Machine

open Sys2Proof

/-- The latches and open windows of both collectors. -/
def State.fcv (s : State) : (List Latch × List Nat) × (List Latch × List Nat) := ((s.fc.a.latches, s.fc.a.windows), (s.fc.b.latches, s.fc.b.windows))

theorem State.fcv_of_fc {s t : State} (h : t.fc = s.fc) : t.fcv = s.fcv := by
  unfold State.fcv
  rw [h]

@[simp] theorem State.fcv_mk (x0) (x1) (x2) (x3) (x4) (x5) (x6) (x7) (x8) (x9) (x10) (x11) (x12) (x13) (x14) (x15) (x16) (x17) (x18) (x19) (x20) (x21) (x22) (x23) (x24) (x25) (x26) (x27) (x28) (x29) (x30) (x31) (x32) (x33) (x34) (x35) (x36) (x37) (x38) (x39) (x40) (x41) (x42) (x43) (x44) (x45) (x46) : (State.mk x0 x1 x2 x3 x4 x5 x6 x7 x8 x9 x10 x11 x12 x13 x14 x15 x16 x17 x18 x19 x20 x21 x22 x23 x24 x25 x26 x27 x28 x29 x30 x31 x32 x33 x34 x35 x36 x37 x38 x39 x40 x41 x42 x43 x44 x45 x46).fcv = ((x5.a.latches, x5.a.windows), (x5.b.latches, x5.b.windows)) := rfl

@[simp] theorem State.fcv_eta (s : State) : ((s.fc.a.latches, s.fc.a.windows), (s.fc.b.latches, s.fc.b.windows)) = s.fcv := rfl

@[simp] theorem State.ite_fcv (c : Prop) [Decidable c] (a b : State) : (if c then a else b).fcv = if c then a.fcv else b.fcv := apply_ite _ _ _ _

@[simp] theorem State.foldl_fcv {α : Type} (f : State → α → State) (l : List α) (s : State) (h : ∀ s x, (f s x).fcv = s.fcv) : (l.foldl f s).fcv = s.fcv :=
  State.foldl_keep State.fcv f h l s

@[simp] theorem State.updFc_fcv (s : State) (c : Chan) (f : FcSt → FcSt) (h : ∀ x, (f x).latches = x.latches ∧ (f x).windows = x.windows) : (s.updFc c f).fcv = s.fcv := by
  have h1 := fun x => (h x).1
  have h2 := fun x => (h x).2
  cases c <;> simp only [State.updFc, State.fcv, twoUpd, twoSet, twoAt, h1, h2]

@[simp] theorem State.put_fcv (s : State) (f : Fld) (v : Nat) (c : Chan) (i : Nat) : (State.put s f v c i).fcv = s.fcv := by
  unfold State.put
  simp

@[simp] theorem State.putFlag_fcv (s : State) (f : Fld) (v : Bool) (c : Chan) (i : Nat) : (State.putFlag s f v c i).fcv = s.fcv := by
  unfold State.putFlag
  simp

@[simp] theorem State.first_fcv (s : State) (c : Chan) (e : FaultEv) (multi : Bool) : (State.first s c e multi).fcv = s.fcv := by
  unfold State.first
  simp

@[simp] theorem State.recReady_fcv (s : State) : (State.recReady s).fcv = s.fcv := by
  unfold State.recReady
  simp

@[simp] theorem State.satInc_fcv (s : State) (f : Fld) (c : Chan) (i : Nat) : (State.satInc s f c i).fcv = s.fcv := by
  unfold State.satInc
  simp

@[simp] theorem State.pushRec_fcv (s : State) (typ : Nat) (payload : List Nat) : (State.pushRec s typ payload).fcv = s.fcv := by
  unfold State.pushRec
  simp

@[simp] theorem State.recCam_fcv (s : State) (c : Chan) (n act dir : Nat) : (State.recCam s c n act dir).fcv = s.fcv := by
  unfold State.recCam
  simp

@[simp] theorem State.updAe_fcv (s : State) (c : Chan) (f : AeSt → AeSt) : (State.updAe s c f).fcv = s.fcv := by
  unfold State.updAe
  simp

@[simp] theorem State.windows_fcv (s : State) (c : Chan) : (State.windows s c).fcv = s.fcv := by
  unfold State.windows
  simp

@[simp] theorem State.dropEvent_fcv (s : State) : (State.dropEvent s).fcv = s.fcv := by
  unfold State.dropEvent
  ((try dsimp only); repeat' (first | (simp; done) | split))

@[simp] theorem State.pushEvent_fcv (s : State) (typ : Nat) (words : List Nat) (fault : Option (Chan × Nat)) : (State.pushEvent s typ words fault).fcv = s.fcv := by
  unfold State.pushEvent
  simp

@[simp] theorem State.putRecord_fcv (s : State) (c : Chan) (n : Nat) (e : FaultEv) : (State.putRecord s c n e).fcv = s.fcv := by
  unfold State.putRecord
  simp

@[simp] theorem State.record_fcv (s : State) (c : Chan) (e : FaultEv) : (State.record s c e).fcv = s.fcv := by
  unfold State.record
  ((try dsimp only); repeat' (first | (simp; done) | split))

@[simp] theorem State.showLines_fcv (s : State) (c : Chan) : (State.showLines s c).fcv = s.fcv := by
  unfold State.showLines
  simp

@[simp] theorem State.updDie_fcv (s : State) (c : Chan) (f : Die → Die) : (State.updDie s c f).fcv = s.fcv := by
  unfold State.updDie
  simp

@[simp] theorem State.armFurl_fcv (s : State) (c : Chan) : (State.armFurl s c).fcv = s.fcv := by
  unfold State.armFurl
  simp

@[simp] theorem State.armBothFurl_fcv (s : State) : (State.armBothFurl s).fcv = s.fcv := by
  unfold State.armBothFurl
  simp

@[simp] theorem State.disarmFurl_fcv (s : State) (c : Chan) : (State.disarmFurl s c).fcv = s.fcv := by
  unfold State.disarmFurl
  simp

@[simp] theorem State.putBoth_fcv (s : State) (f : Fld) (v : Nat) (i : Nat) : (State.putBoth s f v i).fcv = s.fcv := by
  unfold State.putBoth
  simp

@[simp] theorem State.showFurl_fcv (s : State) : (State.showFurl s).fcv = s.fcv := by
  unfold State.showFurl
  simp

@[simp] theorem State.endStops_fcv (s : State) (cause : Nat) : (State.endStops s cause).fcv = s.fcv := by
  unfold State.endStops
  ((try dsimp only); repeat' (first | (simp; done) | split))

@[simp] theorem State.abortTest_fcv (s : State) : (State.abortTest s).fcv = s.fcv := by
  unfold State.abortTest
  simp

@[simp] theorem State.openDie_fcv (s : State) (c : Chan) (keep : BitVec 16) (keepLs : BitVec 4) : (State.openDie s c keep keepLs).fcv = s.fcv := by
  unfold State.openDie
  simp

@[simp] theorem State.singleMode_fcv (s : State) (c : Chan) : (State.singleMode s c).fcv = s.fcv := by
  unfold State.singleMode
  simp

@[simp] theorem State.class2_fcv (s : State) (c : Chan) (suspect : Bool) (line : Bool) : (State.class2 s c suspect line).fcv = s.fcv := by
  unfold State.class2
  simp

@[simp] theorem State.oweTests_fcv (s : State) (m : BitVec 16) : (State.oweTests s m).fcv = s.fcv := by
  unfold State.oweTests
  simp

@[simp] theorem State.showKill_fcv (s : State) : (State.showKill s).fcv = s.fcv := by
  unfold State.showKill
  simp

@[simp] theorem State.kill_fcv (s : State) (c : Chan) (m : BitVec 16) (ls : BitVec 4) (f : Die → Die) : (State.kill s c m ls f).fcv = s.fcv := by
  unfold State.kill
  simp

@[simp] theorem State.fatalKill_fcv (s : State) : (State.fatalKill s).fcv = s.fcv := by
  unfold State.fatalKill
  simp

@[simp] theorem State.class3_fcv (s : State) : (State.class3 s).fcv = s.fcv := by
  unfold State.class3
  simp

@[simp] theorem State.keepL3_fcv (s : State) (e : FaultEv) : (State.keepL3 s e).fcv = s.fcv := by
  unfold State.keepL3
  ((try dsimp only); repeat' (first | (simp; done) | split))

@[simp] theorem State.setDev_fcv (s : State) (n : Nat) : (State.setDev s n).fcv = s.fcv := by
  unfold State.setDev
  simp

@[simp] theorem State.showPins_fcv (s : State) : (State.showPins s).fcv = s.fcv := by
  unfold State.showPins
  simp

@[simp] theorem State.settle_fcv (s : State) : (State.settle s).fcv = s.fcv := by
  unfold State.settle
  simp

@[simp] theorem State.clearCond_fcv (s : State) (line : Nat) (e : Elem) : (State.clearCond s line e).fcv = s.fcv := by
  unfold State.clearCond
  simp

/-! ## Latching -/

theorem State.faulted_of_fcv {s t : State} (h : t.fcv = s.fcv) (c : Chan) (l : Latch) : t.faulted c l ↔ s.faulted c l := by
  have ha : t.fc.a.latches = s.fc.a.latches := congrArg (fun x => x.1.1) h
  have hb : t.fc.b.latches = s.fc.b.latches := congrArg (fun x => x.2.1) h
  cases c <;> simp [State.faulted, ha, hb]

theorem State.quiet_of_fcv {s t : State} (h : t.fcv = s.fcv) : t.quiet ↔ s.quiet := by
  have ha : t.fc.a.windows = s.fc.a.windows := congrArg (fun x => x.1.2) h
  have hb : t.fc.b.windows = s.fc.b.windows := congrArg (fun x => x.2.2) h
  simp [State.quiet, ha, hb]

theorem State.masks_of_quiet (s : State) (h : s.quiet) (c : Chan) (n : Nat) : s.masks c n = false := by
  cases c <;> simp [State.masks, h.1, h.2]

/-- What the latching of one line leaves in both collectors. -/
theorem State.latchIn_fc (s : State) (c : Chan) (e : FaultEv) (m : Bool) (hm : s.masks c e.line = false ∨ e.cls = 3) :
    (s.latchIn c e m).faulted c e.latch := by
  unfold State.latchIn
  rw [if_neg (by rcases hm with h | h <;> simp [h])]
  dsimp only
  split
  · next h => simpa [State.faulted, FaultEv.latch] using h
  · rw [State.faulted_of_fcv (State.showLines_fcv _ _)]
    cases c <;> simp [State.faulted, State.updFc, FaultEv.latch]

theorem State.latchIn_mono (s : State) (c d : Chan) (e : FaultEv) (m : Bool) (l : Latch) (h : s.faulted d l) : (s.latchIn c e m).faulted d l := by
  unfold State.latchIn
  split
  · rw [State.faulted_of_fcv (State.updFc_fcv _ _ _ (by simp)), State.faulted_of_fcv (by simp : _ = s.fcv)]
    exact h
  · dsimp only
    split
    · exact h
    · rw [State.faulted_of_fcv (State.showLines_fcv _ _)]
      have h' : ((s.first c e m).record c e).faulted d l := (State.faulted_of_fcv (by simp) d l).mpr h
      cases c <;> cases d <;> simp_all [State.faulted, State.updFc]

theorem State.latchIn_quiet (s : State) (c : Chan) (e : FaultEv) (m : Bool) : (s.latchIn c e m).quiet ↔ s.quiet := by
  unfold State.latchIn
  split
  · rw [State.quiet_of_fcv (State.updFc_fcv _ _ _ (by simp)), State.quiet_of_fcv (by simp : _ = s.fcv)]
  · dsimp only
    split
    · exact Iff.rfl
    · rw [State.quiet_of_fcv (State.showLines_fcv _ _)]
      rw [← State.quiet_of_fcv (by simp : ((s.first c e m).record c e).fcv = s.fcv)]
      cases c <;> simp [State.quiet, State.updFc]

theorem State.latch_latched (s : State) (c : Chan) (e : FaultEv) (m : Bool) (hq : s.quiet ∨ e.cls = 3) (hc : e.to c) : (s.latch e m).faulted c e.latch := by
  have key : ∀ (t : State) (d : Chan), (t.quiet ∨ e.cls = 3) → (t.latchIn d e m).faulted d e.latch := fun t d h =>
    t.latchIn_fc d e m (h.imp (fun q => t.masks_of_quiet q d e.line) id)
  unfold State.latch
  rcases hc with h | h <;> rw [h]
  · cases c with
    | a => exact State.latchIn_mono _ _ _ _ _ _ (key s .a hq)
    | b => exact key _ .b (hq.imp (s.latchIn_quiet .a e m).mpr id)
  · exact key s c hq

theorem State.latch_mono (s : State) (c : Chan) (e : FaultEv) (m : Bool) (l : Latch) (h : s.faulted c l) : (s.latch e m).faulted c l := by
  unfold State.latch
  split
  · exact State.latchIn_mono _ _ _ _ _ _ h
  · exact State.latchIn_mono _ _ _ _ _ _ (State.latchIn_mono _ _ _ _ _ _ h)

theorem State.latch_quiet (s : State) (e : FaultEv) (m : Bool) : (s.latch e m).quiet ↔ s.quiet := by
  unfold State.latch
  split
  · exact State.latchIn_quiet _ _ _ _
  · rw [State.latchIn_quiet, State.latchIn_quiet]

@[simp] theorem State.react_fcv (s : State) (e : FaultEv) : (s.react e).fcv = s.fcv := by
  unfold State.react
  repeat' (first | (simp; done) | split)

theorem State.raise_fcv (s : State) (e : FaultEv) : (s.raise e).fcv = (State.latch { s with conds := if s.conds.contains (e.line, e.elem) then s.conds else s.conds ++ [(e.line, e.elem)] } e).fcv := by
  unfold State.raise
  simp only [State.settle_fcv, State.ite_fcv, State.react_fcv, ite_self]

/-- A raised event is held by every collector it goes to, unless a consequential window stands open (R190); a Class 3 line is held always. -/
theorem State.raise_latched (s : State) (c : Chan) (e : FaultEv) (hq : s.quiet ∨ e.cls = 3) (hc : e.to c) : (s.raise e).faulted c e.latch :=
  (State.faulted_of_fcv (s.raise_fcv e) c _).mpr (State.latch_latched _ c e false hq hc)

/-- A latch held before an event is held after it. -/
theorem State.raise_mono (s : State) (c : Chan) (e : FaultEv) (l : Latch) (h : s.faulted c l) : (s.raise e).faulted c l :=
  (State.faulted_of_fcv (s.raise_fcv e) c _).mpr (State.latch_mono _ c e false l h)

/-- Raising opens and closes no consequential window. -/
theorem State.raise_quiet (s : State) (e : FaultEv) : (s.raise e).quiet ↔ s.quiet :=
  (State.quiet_of_fcv (s.raise_fcv e)).trans (State.latch_quiet _ e false)

@[simp] theorem State.raiseOnce_fcv (s : State) (e : FaultEv) : (s.raiseOnce e).fcv = (s.raise e).fcv := rfl

theorem State.raiseOnce_latched (s : State) (c : Chan) (e : FaultEv) (hq : s.quiet ∨ e.cls = 3) (hc : e.to c) : (s.raiseOnce e).faulted c e.latch :=
  s.raise_latched c e hq hc

theorem State.raiseOnce_mono (s : State) (c : Chan) (e : FaultEv) (l : Latch) (h : s.faulted c l) : (s.raiseOnce e).faulted c l :=
  s.raise_mono c e l h

theorem State.raiseOnce_quiet (s : State) (e : FaultEv) : (s.raiseOnce e).quiet ↔ s.quiet := s.raise_quiet e

end Sys2Proof.Machine
end

