-- ==== Sys2Proof/Laws/Collectors.lean ====
section
/-! SUPPORT. The operations that touch neither collector leave every latch and every consequential window as they were. -/

namespace Sys2Proof.Machine

open Sys2Proof

@[simp] theorem State.foldl1_fcv {α β : Type} (f : State × β → α → State × β) (l : List α) (r : State × β) (h : ∀ r x, (f r x).1.fcv = r.1.fcv) : (l.foldl f r).1.fcv = r.1.fcv :=
  State.foldl_keep1 State.fcv f h l r

@[simp] theorem State.draw_fcv (s : State) : s.draw.2.fcv = s.fcv := rfl

@[simp] theorem State.putAt_fcv (s : State) (f : Fld) (v base : Nat) (i : Nat) : (State.putAt s f v base i).fcv = s.fcv := by
  unfold State.putAt
  simp

@[simp] theorem State.updSec_fcv (s : State) (f : SecSt → SecSt) : (State.updSec s f).fcv = s.fcv := by
  unfold State.updSec
  simp

@[simp] theorem State.answerClass2_fcv (s : State) (o : Chan) (suspect : Bool) : (State.answerClass2 s o suspect).fcv = s.fcv := by
  unfold State.answerClass2
  simp

@[simp] theorem State.resetFields_fcv (s : State) (q : Nat → Bool) (p : Fld → Bool) : (State.resetFields s q p).fcv = s.fcv := by
  unfold State.resetFields
  simp

@[simp] theorem State.blockReset_fcv (s : State) (base : Nat) (size : Nat) : (State.blockReset s base size).fcv = s.fcv := by
  unfold State.blockReset
  simp

@[simp] theorem State.keepTemps_fcv (s : State) (k : Nat) : (State.keepTemps s k).fcv = s.fcv := by
  unfold State.keepTemps
  simp

@[simp] theorem State.setAge_fcv (s : State) (h : Nat) : (State.setAge s h).fcv = s.fcv := by
  unfold State.setAge
  simp

@[simp] theorem State.showAge_fcv (s : State) : (State.showAge s).fcv = s.fcv := by
  unfold State.showAge
  simp

@[simp] theorem State.resetAge_fcv (s : State) : (State.resetAge s).fcv = s.fcv := by
  unfold State.resetAge
  simp

@[simp] theorem State.showCnm_fcv (s : State) : (State.showCnm s).fcv = s.fcv := by
  unfold State.showCnm
  simp

@[simp] theorem State.replan_fcv (s : State) : (State.replan s).fcv = s.fcv := by
  unfold State.replan
  simp

@[simp] theorem State.setVerify_fcv (s : State) (v : Nat) : (State.setVerify s v).fcv = s.fcv := by
  unfold State.setVerify
  simp

@[simp] theorem State.applyVerify_fcv (s : State) : (State.applyVerify s).fcv = s.fcv := by
  unfold State.applyVerify
  simp

@[simp] theorem State.updAdc_fcv (s : State) (k : Nat) (f : AdcSt → AdcSt) : (State.updAdc s k f).fcv = s.fcv := by
  unfold State.updAdc
  simp

@[simp] theorem State.putA_fcv (s : State) (f : Fld) (v k : Nat) (i : Nat) : (State.putA s f v k i).fcv = s.fcv := by
  unfold State.putA
  simp

@[simp] theorem State.addA_fcv (s : State) (f : Fld) (n k : Nat) (i : Nat) : (State.addA s f n k i).fcv = s.fcv := by
  unfold State.addA
  simp

@[simp] theorem State.updCtx_fcv (s : State) (k n : Nat) (f : CtxSt → CtxSt) : (State.updCtx s k n f).fcv = s.fcv := by
  unfold State.updCtx
  simp

@[simp] theorem State.restartCtx_fcv (s : State) (k n : Nat) : (State.restartCtx s k n).fcv = s.fcv := by
  unfold State.restartCtx
  simp

@[simp] theorem State.restartAll_fcv (s : State) (k : Nat) : (State.restartAll s k).fcv = s.fcv := by
  unfold State.restartAll
  simp

@[simp] theorem State.statRecord_fcv (s : State) : (State.statRecord s).fcv = s.fcv := by
  unfold State.statRecord
  simp

@[simp] theorem State.window_fcv (s : State) (k n r : Nat) (fresh : Bool) : (State.window s k n r fresh).fcv = s.fcv := by
  unfold State.window
  simp

@[simp] theorem State.result_fcv (s : State) (k n r : Nat) : (State.result s k n r).fcv = s.fcv := by
  unfold State.result
  simp

@[simp] theorem State.sampleInto_fcv (s : State) (k n raw : Nat) : (State.sampleInto s k n raw).fcv = s.fcv := by
  unfold State.sampleInto
  simp

@[simp] theorem State.adcNext.regular_fcv (k : Nat) (s : State) (a : AdcSt) : (State.adcNext.regular k s a).fcv = s.fcv := by
  unfold State.adcNext.regular
  (try dsimp only)
  repeat' (first | (simp; done) | split)

@[simp] theorem State.adcNext_fcv (s : State) (k : Nat) : (State.adcNext s k).fcv = s.fcv := by
  unfold State.adcNext
  ((try dsimp only); repeat' (first | (simp; done) | split))

@[simp] theorem State.burstConv_fcv (s : State) (k n rep disc raw : Nat) : (State.burstConv s k n rep disc raw).fcv = s.fcv := by
  unfold State.burstConv
  simp

@[simp] theorem State.showRail_fcv (s : State) (n raw : Nat) : (State.showRail s n raw).fcv = s.fcv := by
  unfold State.showRail
  ((try dsimp only); repeat' (first | (simp; done) | split))

@[simp] theorem State.inject_fcv (s : State) (k n : Nat) : (State.inject s k n).fcv = s.fcv := by
  unfold State.inject
  simp

@[simp] theorem State.camInject_fcv (s : State) (c : Chan) (target : Nat) : (State.camInject s c target).fcv = s.fcv := by
  unfold State.camInject
  simp

@[simp] theorem State.calFallsDue_fcv (s : State) (k : Nat) : (State.calFallsDue s k).fcv = s.fcv := by
  unfold State.calFallsDue
  simp

@[simp] theorem State.adcReset_fcv (s : State) (k : Nat) : (State.adcReset s k).fcv = s.fcv := by
  unfold State.adcReset
  simp

@[simp] theorem State.putT_fcv (s : State) (f : Fld) (v : Nat) (u : Unit3) (i : Nat) : (State.putT s f v u i).fcv = s.fcv := by
  unfold State.putT
  simp

@[simp] theorem State.updTim_fcv (s : State) (u : Unit3) (f : TimSt → TimSt) : (State.updTim s u f).fcv = s.fcv := by
  unfold State.updTim
  simp

@[simp] theorem State.fireCompare_fcv (s : State) (u : Unit3) (late : Bool) (n : Nat) : (State.fireCompare s u late n).fcv = s.fcv := by
  unfold State.fireCompare
  simp

@[simp] theorem State.tickTimer_fcv (s : State) (u : Unit3) (late : Bool) (t n : Nat) : (State.tickTimer s u late t n).1.fcv = s.fcv := by
  unfold State.tickTimer
  ((try dsimp only); repeat' (first | (simp; done) | split))

@[simp] theorem State.capture_fcv (s : State) (u : Unit3) (t : Nat) (stamp : Option Nat) : (State.capture s u t stamp).fcv = s.fcv := by
  unfold State.capture
  ((try dsimp only); repeat' (first | (simp; done) | split))

@[simp] theorem State.passTimer_fcv (s : State) (u : Unit3) (late : Bool) (t n : Nat) (es : Tab TimEvents) : (State.passTimer s u late t n es).1.fcv = s.fcv := by
  unfold State.passTimer
  ((try dsimp only); repeat' (first | (simp; done) | split))

@[simp] theorem State.passBlock_fcv (s : State) (u : Unit3) (late : Bool) (ticks : Nat → Nat) : (State.passBlock s u late ticks).fcv = s.fcv := by
  unfold State.passBlock
  simp

@[simp] theorem State.advance_fcv (s : State) (u : Unit3) : (State.advance s u).fcv = s.fcv := by
  unfold State.advance
  simp

@[simp] theorem State.lineSteps_fcv (s : State) (u : Unit3) (old new : Int) : (State.lineSteps s u old new).fcv = s.fcv := by
  unfold State.lineSteps
  simp

@[simp] theorem State.shiftSteps_fcv (s : State) (u : Unit3) (d : Int) : (State.shiftSteps s u d).fcv = s.fcv := by
  unfold State.shiftSteps
  simp

@[simp] theorem State.camCapture_fcv (s : State) (c : Chan) (t : Nat) : (State.camCapture s c t).fcv = s.fcv := by
  unfold State.camCapture
  simp

@[simp] theorem State.makeUp_fcv (s : State) (u : Unit3) (p : Nat) : (State.makeUp s u p).fcv = s.fcv := by
  unfold State.makeUp
  simp

@[simp] theorem State.updHly_fcv (s : State) (f : HlySt → HlySt) : (State.updHly s f).fcv = s.fcv := by
  unfold State.updHly
  simp

@[simp] theorem State.updRing_fcv (s : State) (n : Nat) (f : RingSt → RingSt) : (State.updRing s n f).fcv = s.fcv := by
  unfold State.updRing
  simp

@[simp] theorem State.hlyEvent_fcv (s : State) (kind x y : Nat) : (State.hlyEvent s kind x y).fcv = s.fcv := by
  unfold State.hlyEvent
  simp

@[simp] theorem State.dmaErr_fcv (s : State) : (State.dmaErr s).fcv = s.fcv := by
  unfold State.dmaErr
  simp

@[simp] theorem State.ringError_fcv (s : State) (n cause : Nat) : (State.ringError s n cause).fcv = s.fcv := by
  unfold State.ringError
  simp

@[simp] theorem State.updVec_fcv (s : State) (v : Nat) (f : VecSt → VecSt) : (State.updVec s v f).fcv = s.fcv := by
  unfold State.updVec
  simp

@[simp] theorem State.sendVector_fcv (s : State) (v : Nat) : (State.sendVector s v).fcv = s.fcv := by
  unfold State.sendVector
  simp

@[simp] theorem State.raiseRing_fcv (s : State) (n : Nat) : (State.raiseRing s n).fcv = s.fcv := by
  unfold State.raiseRing
  ((try dsimp only); repeat' (first | (simp; done) | split))

@[simp] theorem State.showTimes_fcv (s : State) : (State.showTimes s).fcv = s.fcv := by
  unfold State.showTimes
  ((try dsimp only); repeat' (first | (simp; done) | split))

@[simp] theorem State.cmdDone_fcv (s : State) (d : Done) (irq doneOk : Bool) : (State.cmdDone s d irq doneOk).fcv = s.fcv := by
  unfold State.cmdDone
  simp

@[simp] theorem State.runOn_fcv (s : State) (r : Running) : (State.runOn s r).fcv = s.fcv := by
  unfold State.runOn
  simp

@[simp] theorem State.endExclusive_fcv (s : State) (op status result : Nat) : (State.endExclusive s op status result).fcv = s.fcv := by
  unfold State.endExclusive
  ((try dsimp only); repeat' (first | (simp; done) | split))

@[simp] theorem State.updMz_fcv (s : State) (f : MzSt → MzSt) : (State.updMz s f).fcv = s.fcv := by
  unfold State.updMz
  simp

@[simp] theorem State.mzResp_fcv (s : State) (cmd result : Nat) : (State.mzResp s cmd result).fcv = s.fcv := by
  unfold State.mzResp
  simp

@[simp] theorem State.mzSend_fcv (s : State) (cmd arg : Nat) : (State.mzSend s cmd arg).fcv = s.fcv := by
  unfold State.mzSend
  simp

@[simp] theorem State.mzWriteCmd_fcv (s : State) (cmd : Nat) : (State.mzWriteCmd s cmd).fcv = s.fcv := by
  unfold State.mzWriteCmd
  simp

@[simp] theorem State.mzWriteArg_fcv (s : State) (v : Nat) : (State.mzWriteArg s v).fcv = s.fcv := by
  unfold State.mzWriteArg
  simp

@[simp] theorem State.mzEvent_fcv (s : State) (e : MzEvent) : (State.mzEvent s e).fcv = s.fcv := by
  unfold State.mzEvent
  simp

@[simp] theorem State.mzAudit_fcv (s : State) (c : MzChange) : (State.mzAudit s c).fcv = s.fcv := by
  unfold State.mzAudit
  simp

@[simp] theorem State.mzFlag_fcv (s : State) (f : LotFlags → LotFlags) : (State.mzFlag s f).fcv = s.fcv := by
  unfold State.mzFlag
  simp

@[simp] theorem State.mzCommit_fcv (s : State) : (State.mzCommit s).fcv = s.fcv := by
  unfold State.mzCommit
  simp

@[simp] theorem State.openLot_fcv (s : State) (ident : Nat) : (State.openLot s ident).fcv = s.fcv := by
  unfold State.openLot
  simp

@[simp] theorem State.closeLot_fcv (s : State) : (State.closeLot s).fcv = s.fcv := by
  unfold State.closeLot
  ((try dsimp only); repeat' (first | (simp; done) | split))

@[simp] theorem State.clearMirror_fcv (s : State) : (State.clearMirror s).fcv = s.fcv := by
  unfold State.clearMirror
  simp

@[simp] theorem State.take_fcv (s : State) (i : Initiator) (m : LatchMap) : (State.take s i m).fcv = s.fcv := by
  unfold State.take
  simp

@[simp] theorem State.clearRc_fcv (s : State) (a : Nat) (d : RegDesc) : (State.clearRc s a d).fcv = s.fcv := by
  unfold State.clearRc
  simp

@[simp] theorem State.readCap_fcv (s : State) (b : Block) (base off : Nat) : (State.readCap s b base off).fcv = s.fcv := by
  unfold State.readCap
  ((try dsimp only); repeat' (first | (simp; done) | split))

@[simp] theorem State.catchUp_fcv (s : State) (b : Block) (base : Nat) : (State.catchUp s b base).fcv = s.fcv := by
  unfold State.catchUp
  ((try dsimp only); repeat' (first | (simp; done) | split))

@[simp] theorem State.readAt_fcv (s : State) (i : Initiator) (clear : Bool) (b : Block) (base a : Nat) : (State.readAt s i clear b base a).1.fcv = s.fcv := by
  unfold State.readAt
  ((try dsimp only); repeat' (first | (simp; done) | split))

@[simp] theorem State.readWord_fcv (s : State) (i : Initiator) (clear : Bool) (a : Nat) : (State.readWord s i clear a).1.fcv = s.fcv := by
  unfold State.readWord
  ((try dsimp only); repeat' (first | (simp; done) | split))

@[simp] theorem State.writeAt_fcv (s : State) (i : Initiator) (b : Block) (base a v : Nat) : (State.writeAt s i b base a v).fcv = s.fcv := by
  unfold State.writeAt
  ((try dsimp only); repeat' (first | (simp; done) | split))

@[simp] theorem State.updStay_fcv (s : State) (c : Chan) (f : StaySt → StaySt) : (State.updStay s c f).fcv = s.fcv := by
  unfold State.updStay
  simp

@[simp] theorem State.sent_fcv (s : State) (c : Chan) (l : Lane) : (State.sent s c l).fcv = s.fcv := by
  unfold State.sent
  simp

@[simp] theorem State.sourcesDue_fcv (s : State) : (State.sourcesDue s).fcv = s.fcv := by
  unfold State.sourcesDue
  simp

@[simp] theorem State.tryDual_fcv (s : State) : (State.tryDual s).fcv = s.fcv := by
  unfold State.tryDual
  simp

@[simp] theorem State.dropSlot_fcv (s : State) (t : StayToken) : (State.dropSlot s t).fcv = s.fcv := by
  unfold State.dropSlot
  ((try dsimp only); repeat' (first | (simp; done) | split))

@[simp] theorem State.updPair_fcv (s : State) (n : Nat) (f : PairSt → PairSt) : (State.updPair s n f).fcv = s.fcv := by
  unfold State.updPair
  simp

@[simp] theorem State.pairBit_fcv (s : State) (f : Fld) (n : Nat) (b : Bool) : (State.pairBit s f n b).fcv = s.fcv := by
  unfold State.pairBit
  simp

@[simp] theorem State.discStep_fcv (s : State) (n : Nat) : (State.discStep s n).fcv = s.fcv := by
  unfold State.discStep
  simp

@[simp] theorem State.cycleStep_fcv (s : State) (n : Nat) : (State.cycleStep s n).fcv = s.fcv := by
  unfold State.cycleStep
  simp

@[simp] theorem State.pairStep_fcv (s : State) (n : Nat) : (State.pairStep s n).fcv = s.fcv := by
  unfold State.pairStep
  simp

@[simp] theorem State.agreeInputs_fcv (s : State) : (State.agreeInputs s).fcv = s.fcv := by
  unfold State.agreeInputs
  simp

@[simp] theorem State.agreeReadback_fcv (s : State) : (State.agreeReadback s).fcv = s.fcv := by
  unfold State.agreeReadback
  simp

@[simp] theorem State.updSrc_fcv (s : State) (n : Nat) (f : SrcSt → SrcSt) : (State.updSrc s n f).fcv = s.fcv := by
  unfold State.updSrc
  simp

@[simp] theorem State.showFk_fcv (s : State) : (State.showFk s).fcv = s.fcv := by
  unfold State.showFk
  simp

@[simp] theorem State.fkFree_fcv (s : State) (c : Chan) : (State.fkFree s c).fcv = s.fcv := by
  unfold State.fkFree
  simp

@[simp] theorem State.updOut_fcv (s : State) (n : Nat) (f : OutSt → OutSt) : (State.updOut s n f).fcv = s.fcv := by
  unfold State.updOut
  simp

@[simp] theorem State.updTest_fcv (s : State) (key : Nat) (f : TestSt → TestSt) : (State.updTest s key f).fcv = s.fcv := by
  unfold State.updTest
  simp

@[simp] theorem State.showPhase_fcv (s : State) (k : TestKind) (unit v : Nat) : (State.showPhase s k unit v).fcv = s.fcv := by
  unfold State.showPhase
  simp

@[simp] theorem State.endSlot_fcv (s : State) : (State.endSlot s).fcv = s.fcv := by
  unfold State.endSlot
  simp

@[simp] theorem State.testDone_fcv (s : State) (k : TestKind) (n : Nat) : (State.testDone s k n).fcv = s.fcv := by
  unfold State.testDone
  simp

@[simp] theorem State.applyWant_fcv (s : State) : (State.applyWant s).fcv = s.fcv := by
  unfold State.applyWant
  simp

@[simp] theorem State.updNet_fcv (s : State) (n : Net) (f : NetSt → NetSt) : (State.updNet s n f).fcv = s.fcv := by
  unfold State.updNet
  simp

@[simp] theorem State.updPtp_fcv (s : State) (n : Net) (f : PtpSt → PtpSt) : (State.updPtp s n f).fcv = s.fcv := by
  unfold State.updPtp
  simp

@[simp] theorem State.putN_fcv (s : State) (f : Fld) (v : Nat) (n : Net) : (State.putN s f v n).fcv = s.fcv := by
  unfold State.putN
  simp

@[simp] theorem State.showPtp_fcv (s : State) (n : Net) : (State.showPtp s n).fcv = s.fcv := by
  unfold State.showPtp
  simp

@[simp] theorem State.updSes_fcv (s : State) (n : Nat) (f : SesSt → SesSt) : (State.updSes s n f).fcv = s.fcv := by
  unfold State.updSes
  simp

@[simp] theorem State.putSesBit_fcv (s : State) (f : Fld) (n : Nat) (b : Bool) : (State.putSesBit s f n b).fcv = s.fcv := by
  unfold State.putSesBit
  simp

@[simp] theorem State.showSingle_fcv (s : State) (n : Nat) : (State.showSingle s n).fcv = s.fcv := by
  unfold State.showSingle
  simp

@[simp] theorem State.setSes_fcv (s : State) (n st : Nat) : (State.setSes s n st).fcv = s.fcv := by
  unfold State.setSes
  simp

@[simp] theorem State.runSes_fcv (s : State) (n : Nat) : (State.runSes s n).fcv = s.fcv := by
  unfold State.runSes
  simp

@[simp] theorem State.setPath_fcv (s : State) (n : Nat) (p : Net) (up : Bool) : (State.setPath s n p up).fcv = s.fcv := by
  unfold State.setPath
  simp

@[simp] theorem State.deliver_fcv (s : State) (n : Nat) (p : Net) (c : Slot) (restart : Bool) : (State.deliver s n p c restart).fcv = s.fcv := by
  unfold State.deliver
  simp

@[simp] theorem State.checkCopy_fcv (s : State) (n : Nat) (p : Net) (f : GoaFrame) : (State.checkCopy s n p f).1.fcv = s.fcv := by
  unfold State.checkCopy
  ((try dsimp only); repeat' (first | (simp; done) | split))

@[simp] theorem State.sendSes_fcv (s : State) (n : Nat) (w : TxWords) : (State.sendSes s n w).fcv = s.fcv := by
  unfold State.sendSes
  simp

@[simp] theorem State.useEpoch_fcv (s : State) (ep : Nat) : (State.useEpoch s ep).fcv = s.fcv := by
  unfold State.useEpoch
  simp

@[simp] theorem State.updPort_fcv (s : State) (p : Port) (f : PortSt → PortSt) : (State.updPort s p f).fcv = s.fcv := by
  unfold State.updPort
  simp

@[simp] theorem State.putP_fcv (s : State) (f : Fld) (v : Nat) (p : Port) : (State.putP s f v p).fcv = s.fcv := by
  unfold State.putP
  simp

@[simp] theorem State.setPort_fcv (s : State) (p : Port) (v : Nat) : (State.setPort s p v).fcv = s.fcv := by
  unfold State.setPort
  simp

@[simp] theorem State.showEntries_fcv (s : State) : (State.showEntries s).fcv = s.fcv := by
  unfold State.showEntries
  simp

@[simp] theorem State.xoffOut_fcv (s : State) (p : Port) (peak after : Nat) : (State.xoffOut s p peak after).fcv = s.fcv := by
  unfold State.xoffOut
  simp

@[simp] theorem State.storeRelayed_fcv (s : State) (r : List Nat) : (State.storeRelayed s r).fcv = s.fcv := by
  unfold State.storeRelayed
  simp

@[simp] theorem State.popRec_fcv (s : State) : (State.popRec s).fcv = s.fcv := by
  unfold State.popRec
  simp

@[simp] theorem State.trainPorts_fcv (s : State) : (State.trainPorts s).fcv = s.fcv := by
  unfold State.trainPorts
  simp

@[simp] theorem State.updGraph_fcv (s : State) (c : Chan) (f : GraphSt → GraphSt) : (State.updGraph s c f).fcv = s.fcv := by
  unfold State.updGraph
  simp

@[simp] theorem State.updStop_fcv (s : State) (c : Chan) (f : StopSt → StopSt) : (State.updStop s c f).fcv = s.fcv := by
  unfold State.updStop
  simp

@[simp] theorem State.owePulses_fcv (s : State) (n : Nat) : (State.owePulses s n).fcv = s.fcv := by
  unfold State.owePulses
  simp

@[simp] theorem State.oweOutput_fcv (s : State) (n : Nat) : (State.oweOutput s n).fcv = s.fcv := by
  unfold State.oweOutput
  simp

@[simp] theorem State.zeroBoth_fcv (s : State) (fs : List Fld) (i : Nat) : (State.zeroBoth s fs i).fcv = s.fcv := by
  unfold State.zeroBoth
  simp

@[simp] theorem State.clearElem_fcv (s : State) (line : Nat) (e : Elem) : (State.clearElem s line e).fcv = s.fcv := by
  unfold State.clearElem
  ((try dsimp only); repeat' (first | (simp; done) | split))

@[simp] theorem State.pressOn_fcv (s : State) (c : Chan) (e : Ev) (g : Nat) : (State.pressOn s c e g).fcv = s.fcv := by
  unfold State.pressOn
  simp

@[simp] theorem State.putNew_fcv (s : State) (f : Fld) (v : Nat) (c : Chan) (i : Nat) : (State.putNew s f v c i).fcv = s.fcv := by
  unfold State.putNew
  simp

@[simp] theorem State.showSignals_fcv (s : State) (c : Chan) (old new : Tab Int) : (State.showSignals s c old new).fcv = s.fcv := by
  unfold State.showSignals
  simp

@[simp] theorem State.showInsts_fcv (s : State) (c : Chan) (insts : Tab InstSt) : (State.showInsts s c insts).fcv = s.fcv := by
  unfold State.showInsts
  simp

@[simp] theorem State.putMap_fcv (s : State) (f : Fld) (c : Chan) (p : Nat → Bool) : (State.putMap s f c p).fcv = s.fcv := by
  unfold State.putMap
  simp

@[simp] theorem State.showSf_fcv (s : State) (c : Chan) : (State.showSf s c).fcv = s.fcv := by
  unfold State.showSf
  simp

@[simp] theorem State.updStops_fcv (s : State) (f : StopSt → StopSt) : (State.updStops s f).fcv = s.fcv := by
  unfold State.updStops
  simp

@[simp] theorem State.recStop_fcv (s : State) (cause : Nat) (st : StopSt) : (State.recStop s cause st).fcv = s.fcv := by
  unfold State.recStop
  simp

@[simp] theorem State.showPhaseOf_fcv (s : State) (c : Chan) : (State.showPhaseOf s c).fcv = s.fcv := by
  unfold State.showPhaseOf
  simp

@[simp] theorem State.beginStop_fcv (s : State) (c : Chan) (cause : Nat) : (State.beginStop s c cause).fcv = s.fcv := by
  unfold State.beginStop
  simp

@[simp] theorem State.finishStop_fcv (s : State) (c : Chan) (cause : Nat) : (State.finishStop s c cause).fcv = s.fcv := by
  unfold State.finishStop
  simp

@[simp] theorem State.furlStop_fcv (s : State) (c : Chan) (cause endCause : Nat) : (State.furlStop s c cause endCause).fcv = s.fcv := by
  unfold State.furlStop
  simp

@[simp] theorem State.armLines_fcv (s : State) : (State.armLines s).fcv = s.fcv := by
  unfold State.armLines
  simp

@[simp] theorem State.stopBoundary_fcv (s : State) (c : Chan) : (State.stopBoundary s c).fcv = s.fcv := by
  unfold State.stopBoundary
  ((try dsimp only); repeat' (first | (simp; done) | split))

@[simp] theorem State.latchT0_fcv (s : State) (c : Chan) : (State.latchT0 s c).fcv = s.fcv := by
  unfold State.latchT0
  simp

@[simp] theorem State.furlExpire_fcv (s : State) (c : Chan) : (State.furlExpire s c).fcv = s.fcv := by
  unfold State.furlExpire
  simp

@[simp] theorem State.furlBy_fcv (s : State) (cause : Nat) : (State.furlBy s cause).fcv = s.fcv := by
  unfold State.furlBy
  simp

@[simp] theorem State.updEnc_fcv (s : State) (c : Chan) (n : Nat) (f : EncSt → EncSt) : (State.updEnc s c n f).fcv = s.fcv := by
  unfold State.updEnc
  simp

@[simp] theorem State.setSrc_fcv (s : State) (c : Chan) (n : Nat) (p : Int) : (State.setSrc s c n p).fcv = s.fcv := by
  unfold State.setSrc
  simp

@[simp] theorem State.stampChange_fcv (s : State) (c : Chan) (n t : Nat) : (State.stampChange s c n t).fcv = s.fcv := by
  unfold State.stampChange
  simp

@[simp] theorem State.decode_fcv (s : State) (c : Chan) (n : Nat) (o : EncObs) : (State.decode s c n o).fcv = s.fcv := by
  unfold State.decode
  simp

@[simp] theorem State.lose_fcv (s : State) (c : Chan) : (State.lose s c).fcv = s.fcv := by
  unfold State.lose
  simp

@[simp] theorem State.motion_fcv (s : State) (c : Chan) : (State.motion s c).fcv = s.fcv := by
  unfold State.motion
  simp

@[simp] theorem State.showPos_fcv (s : State) (c : Chan) : (State.showPos s c).fcv = s.fcv := by
  unfold State.showPos
  simp

@[simp] theorem State.takePos_fcv (s : State) (c : Chan) : (State.takePos s c).fcv = s.fcv := by
  unfold State.takePos
  simp

@[simp] theorem State.rebase_fcv (s : State) (c : Chan) (p : Int) : (State.rebase s c p).fcv = s.fcv := by
  unfold State.rebase
  ((try dsimp only); repeat' (first | (simp; done) | split))

@[simp] theorem State.alignSec_fcv (s : State) (c : Chan) : (State.alignSec s c).fcv = s.fcv := by
  unfold State.alignSec
  simp

@[simp] theorem State.reference_fcv (s : State) (c : Chan) (k : Int) : (State.reference s c k).fcv = s.fcv := by
  unfold State.reference
  simp

@[simp] theorem State.checkRef_fcv (s : State) (c : Chan) (n : Nat) (k : Int) : (State.checkRef s c n k).fcv = s.fcv := by
  unfold State.checkRef
  ((try dsimp only); repeat' (first | (simp; done) | split))

@[simp] theorem State.references_fcv (s : State) (c : Chan) : (State.references s c).fcv = s.fcv := by
  unfold State.references
  ((try dsimp only); repeat' (first | (simp; done) | split))

@[simp] theorem State.compareSources_fcv (s : State) (c : Chan) : (State.compareSources s c).fcv = s.fcv := by
  unfold State.compareSources
  simp

@[simp] theorem State.enterLinear_fcv (s : State) (c : Chan) : (State.enterLinear s c).fcv = s.fcv := by
  unfold State.enterLinear
  simp

@[simp] theorem State.advanceState_fcv (s : State) (c : Chan) : (State.advanceState s c).fcv = s.fcv := by
  unfold State.advanceState
  simp

@[simp] theorem State.showSources_fcv (s : State) (c : Chan) (bad : BitVec 4) : (State.showSources s c bad).fcv = s.fcv := by
  unfold State.showSources
  simp

@[simp] theorem State.updPt_fcv (s : State) (c : Chan) (n : Nat) (f : PtSt → PtSt) : (State.updPt s c n f).fcv = s.fcv := by
  unfold State.updPt
  simp

@[simp] theorem State.fireCam_fcv (s : State) (c : Chan) (n dir : Nat) : (State.fireCam s c n dir).fcv = s.fcv := by
  unfold State.fireCam
  simp

@[simp] theorem State.judgePoint_fcv (s : State) (c : Chan) (n : Nat) (x : PtSt) (cr : Option (Nat × Int)) : (State.judgePoint s c n x cr).fcv = s.fcv := by
  unfold State.judgePoint
  ((try dsimp only); repeat' (first | (simp; done) | split))

@[simp] theorem State.predict_fcv (s : State) (c : Chan) (n : Nat) : (State.predict s c n).fcv = s.fcv := by
  unfold State.predict
  simp

@[simp] theorem State.firePredicted_fcv (s : State) (c : Chan) (n : Nat) : (State.firePredicted s c n).fcv = s.fcv := by
  unfold State.firePredicted
  ((try dsimp only); repeat' (first | (simp; done) | split))

@[simp] theorem State.eventPoint_fcv (s : State) (c : Chan) (p : Int) (n : Nat) : (State.eventPoint s c p n).fcv = s.fcv := by
  unfold State.eventPoint
  simp

@[simp] theorem State.events_fcv (s : State) (c : Chan) (p : Int) (jumped wasFar : Bool) : (State.events s c p jumped wasFar).fcv = s.fcv := by
  unfold State.events
  simp

@[simp] theorem State.takeOrigin_fcv (s : State) (c : Chan) : (State.takeOrigin s c).1.fcv = s.fcv := by
  unfold State.takeOrigin
  ((try dsimp only); repeat' (first | (simp; done) | split))

@[simp] theorem State.takeFar_fcv (s : State) (c : Chan) : (State.takeFar s c).fcv = s.fcv := by
  unfold State.takeFar
  simp

@[simp] theorem State.displacements_fcv (s : State) (c : Chan) : (State.displacements s c).fcv = s.fcv := by
  unfold State.displacements
  simp

@[simp] theorem State.master_fcv (s : State) (c : Chan) : (State.master s c).fcv = s.fcv := by
  unfold State.master
  ((try dsimp only); repeat' (first | (simp; done) | split))

@[simp] theorem State.startUpdate_fcv (s : State) (c : Chan) (t : Nat) : (State.startUpdate s c t).fcv = s.fcv := by
  unfold State.startUpdate
  simp

@[simp] theorem State.stepTimers_fcv (s : State) (c : Chan) (p : Int) : (State.stepTimers s c p).fcv = s.fcv := by
  unfold State.stepTimers
  ((try dsimp only); repeat' (first | (simp; done) | split))

@[simp] theorem State.coordinate_fcv (s : State) (c : Chan) (bad : BitVec 4) : (State.coordinate s c bad).1.fcv = s.fcv := by
  unfold State.coordinate
  simp

@[simp] theorem State.cams_fcv (s : State) (c : Chan) (p : Int) : (State.cams s c p).fcv = s.fcv := by
  unfold State.cams
  simp

@[simp] theorem State.showOtp_fcv (s : State) : (State.showOtp s).fcv = s.fcv := by
  unfold State.showOtp
  simp

@[simp] theorem State.showIdentity_fcv (s : State) : (State.showIdentity s).fcv = s.fcv := by
  unfold State.showIdentity
  simp

@[simp] theorem State.blow_fcv (s : State) (n : Nat) (f : BitVec 72) : (State.blow s n f).fcv = s.fcv := by
  unfold State.blow
  simp

@[simp] theorem State.blowPart_fcv (s : State) (n : Nat) (f : BitVec 72) : (State.blowPart s n f).fcv = s.fcv := by
  unfold State.blowPart
  simp

@[simp] theorem State.tally_fcv (s : State) (n bits : Nat) : (State.tally s n bits).fcv = s.fcv := by
  unfold State.tally
  simp

@[simp] theorem State.advanceCounter_fcv (s : State) (n v : Nat) : (State.advanceCounter s n v).fcv = s.fcv := by
  unfold State.advanceCounter
  simp

@[simp] theorem State.otpStart_fcv (s : State) (cmd addr : Nat) : (State.otpStart s cmd addr).fcv = s.fcv := by
  unfold State.otpStart
  simp

@[simp] theorem State.otpBlow_fcv (s : State) (c : OtpCmd) (ok : Bool) : (State.otpBlow s c ok).1.fcv = s.fcv := by
  unfold State.otpBlow
  ((try dsimp only); repeat' (first | (simp; done) | split))

@[simp] theorem State.otpInterrupt_fcv (s : State) : (State.otpInterrupt s).fcv = s.fcv := by
  unfold State.otpInterrupt
  ((try dsimp only); repeat' (first | (simp; done) | split))

@[simp] theorem State.clearConfig_fcv (s : State) : (State.clearConfig s).fcv = s.fcv := by
  unfold State.clearConfig
  simp

@[simp] theorem State.loadFields_fcv (s : State) (im : Image) (nets : Bool) : (State.loadFields s im nets).fcv = s.fcv := by
  unfold State.loadFields
  simp

@[simp] theorem State.showImgErr_fcv (s : State) (e : ImgErr) : (State.showImgErr s e).fcv = s.fcv := by
  unfold State.showImgErr
  simp

@[simp] theorem State.showImage_fcv (s : State) (im : Image) (slot : Nat) : (State.showImage s im slot).fcv = s.fcv := by
  unfold State.showImage
  simp

@[simp] theorem State.loadDies_fcv (s : State) : (State.loadDies s).fcv = s.fcv := by
  unfold State.loadDies
  simp

@[simp] theorem State.oweAll_fcv (s : State) : (State.oweAll s).fcv = s.fcv := by
  unfold State.oweAll
  simp

@[simp] theorem State.openSessions_fcv (s : State) : (State.openSessions s).fcv = s.fcv := by
  unfold State.openSessions
  simp

@[simp] theorem State.calibrateAll_fcv (s : State) : (State.calibrateAll s).fcv = s.fcv := by
  unfold State.calibrateAll
  simp

@[simp] theorem State.loadImage_fcv (s : State) (im : Image) (slot : Nat) (nets : Bool) : (State.loadImage s im slot nets).fcv = s.fcv := by
  unfold State.loadImage
  simp

@[simp] theorem State.fwEvent_fcv (s : State) (i n : Nat) (old new : FwRegion) : (State.fwEvent s i n old new).fcv = s.fcv := by
  unfold State.fwEvent
  simp

@[simp] theorem State.setRegion_fcv (s : State) (i n : Nat) (g : FwRegion) : (State.setRegion s i n g).fcv = s.fcv := by
  unfold State.setRegion
  simp

@[simp] theorem State.resetDies_fcv (s : State) (fatal : Bool) : (State.resetDies s fatal).fcv = s.fcv := by
  unfold State.resetDies
  simp

@[simp] theorem State.resetSafety_fcv (s : State) : (State.resetSafety s).fcv = s.fcv := by
  unfold State.resetSafety
  simp

@[simp] theorem State.resetNets_fcv (s : State) : (State.resetNets s).fcv = s.fcv := by
  unfold State.resetNets
  simp

@[simp] theorem State.resetRest_fcv (s : State) : (State.resetRest s).fcv = s.fcv := by
  unfold State.resetRest
  simp

@[simp] theorem State.noteReset_fcv (s : State) (code : Nat) : (State.noteReset s code).fcv = s.fcv := by
  unfold State.noteReset
  simp

@[simp] theorem State.endService_fcv (s : State) : (State.endService s).fcv = s.fcv := by
  unfold State.endService
  simp

@[simp] theorem State.showAuth_fcv (s : State) : (State.showAuth s).fcv = s.fcv := by
  unfold State.showAuth
  simp

@[simp] theorem State.showDiag_fcv (s : State) : (State.showDiag s).fcv = s.fcv := by
  unfold State.showDiag
  simp

@[simp] theorem State.authChanged_fcv (s : State) : (State.authChanged s).fcv = s.fcv := by
  unfold State.authChanged
  simp

@[simp] theorem State.endAuthority_fcv (s : State) : (State.endAuthority s).fcv = s.fcv := by
  unfold State.endAuthority
  simp

@[simp] theorem State.abortRefit_fcv (s : State) : (State.abortRefit s).fcv = s.fcv := by
  unfold State.abortRefit
  simp

@[simp] theorem State.startWith_fcv (s : State) (k : StartImg) : (State.startWith s k).fcv = s.fcv := by
  unfold State.startWith
  simp

@[simp] theorem State.advanceClz_fcv (s : State) (v : Nat) : (State.advanceClz s v).fcv = s.fcv := by
  unfold State.advanceClz
  simp

@[simp] theorem State.beginClocks_fcv (s : State) : (State.beginClocks s).fcv = s.fcv := by
  unfold State.beginClocks
  simp

@[simp] theorem State.claimFuses_fcv (s : State) (k : Ticket) : (State.claimFuses s k).fcv = s.fcv := by
  unfold State.claimFuses
  simp

@[simp] theorem State.runFw_fcv (s : State) (n : Nat) : (State.runFw s n).fcv = s.fcv := by
  unfold State.runFw
  simp

@[simp] theorem State.spendCert_fcv (s : State) (reason : Nat) : (State.spendCert s reason).fcv = s.fcv := by
  unfold State.spendCert
  simp

@[simp] theorem State.startRun_fcv (s : State) (k : RunKind) : (State.startRun s k).fcv = s.fcv := by
  unfold State.startRun
  simp

@[simp] theorem State.restoreL3_fcv (s : State) : (State.restoreL3 s).fcv = s.fcv := by
  unfold State.restoreL3
  simp

@[simp] theorem State.startRatline_fcv (s : State) (reason : Nat) : (State.startRatline s reason).fcv = s.fcv := by
  unfold State.startRatline
  simp

@[simp] theorem State.loadKeys_fcv (s : State) : (State.loadKeys s).fcv = s.fcv := by
  unfold State.loadKeys
  simp

@[simp] theorem State.hostWindow_fcv (s : State) (opened : Bool) : (State.hostWindow s opened).fcv = s.fcv := by
  unfold State.hostWindow
  simp

@[simp] theorem State.copySummary_fcv (s : State) : (State.copySummary s).fcv = s.fcv := by
  unfold State.copySummary
  simp

@[simp] theorem State.shutdownRequest_fcv (s : State) : (State.shutdownRequest s).fcv = s.fcv := by
  unfold State.shutdownRequest
  simp

@[simp] theorem State.lotCut_fcv (s : State) (id : Int) : (State.lotCut s id).fcv = s.fcv := by
  unfold State.lotCut
  simp

@[simp] theorem State.logLife_fcv (s : State) : (State.logLife s).fcv = s.fcv := by
  unfold State.logLife
  simp

@[simp] theorem State.applySwitches_fcv (s : State) (c : Chan) (w : BitVec 16) (l : BitVec 4) : (State.applySwitches s c w l).fcv = s.fcv := by
  unfold State.applySwitches
  simp

@[simp] theorem State.applyDie_fcv (s : State) (c : Chan) (o : DieObs) : (State.applyDie s c o).fcv = s.fcv := by
  unfold State.applyDie
  ((try dsimp only); repeat' (first | (simp; done) | split))

@[simp] theorem State.latchSamples_fcv (s : State) (c : Chan) (o : DieObs) : (State.latchSamples s c o).fcv = s.fcv := by
  unfold State.latchSamples
  simp

@[simp] theorem State.linkBoundary_fcv (s : State) : (State.linkBoundary s).fcv = s.fcv := by
  unfold State.linkBoundary
  simp

@[simp] theorem State.plainRun_fcv (s : State) : (State.plainRun s).fcv = s.fcv := by
  unfold State.plainRun
  simp

@[simp] theorem State.stopsBoundary_fcv (s : State) : (State.stopsBoundary s).fcv = s.fcv := by
  unfold State.stopsBoundary
  simp

@[simp] theorem State.countSleep_fcv (s : State) : (State.countSleep s).fcv = s.fcv := by
  unfold State.countSleep
  simp

@[simp] theorem State.showHostImage_fcv (s : State) : (State.showHostImage s).fcv = s.fcv := by
  unfold State.showHostImage
  simp

@[simp] theorem State.setInputs_fcv (s : State) (app : BitVec 64) (aiA aiB : List (Nat × Int)) : (State.setInputs s app aiA aiB).fcv = s.fcv := by
  unfold State.setInputs
  simp

@[simp] theorem State.clearEdm_fcv (s : State) (c : Chan) : (State.clearEdm s c).fcv = s.fcv := by
  unfold State.clearEdm
  simp

@[simp] theorem State.edges_fcv (s : State) (c : Chan) : (State.edges s c).fcv = s.fcv := by
  unfold State.edges
  simp

@[simp] theorem State.evalMax_fcv (s : State) (c : Chan) (us : Nat) : (State.evalMax s c us).fcv = s.fcv := by
  unfold State.evalMax
  simp

@[simp] theorem State.eccSingle_fcv (s : State) : (State.eccSingle s).fcv = s.fcv := by
  unfold State.eccSingle
  simp

@[simp] theorem State.recAck_fcv (s : State) (c : Chan) (n : Nat) : (State.recAck s c n).fcv = s.fcv := by
  unfold State.recAck
  simp

@[simp] theorem State.startRings_fcv (s : State) : (State.startRings s).fcv = s.fcv := by
  unfold State.startRings
  simp

@[simp] theorem State.requeue_fcv (s : State) : (State.requeue s).fcv = s.fcv := by
  unfold State.requeue
  simp

@[simp] theorem State.endLoss_fcv (s : State) : (State.endLoss s).fcv = s.fcv := by
  unfold State.endLoss
  simp

@[simp] theorem State.closeWindow_fcv (s : State) : (State.closeWindow s).fcv = s.fcv := by
  unfold State.closeWindow
  simp

@[simp] theorem State.reopen_fcv (s : State) : (State.reopen s).fcv = s.fcv := by
  unfold State.reopen
  simp

@[simp] theorem State.ackLogged_fcv (s : State) (n : Nat) : (State.ackLogged s n).fcv = s.fcv := by
  unfold State.ackLogged
  simp

@[simp] theorem State.pollRing_fcv (s : State) (o : PollObs) (n : Nat) : (State.pollRing s o n).fcv = s.fcv := by
  unfold State.pollRing
  simp

@[simp] theorem State.pollImage_fcv (s : State) (o : PollObs) : (State.pollImage s o).fcv = s.fcv := by
  unfold State.pollImage
  simp

@[simp] theorem State.pollBeat_fcv (s : State) (o : PollObs) : (State.pollBeat s o).fcv = s.fcv := by
  unfold State.pollBeat
  simp

@[simp] theorem State.writeEvent_fcv (s : State) (n : Nat) (e : HlyEv) : (State.writeEvent s n e).fcv = s.fcv := by
  unfold State.writeEvent
  ((try dsimp only); repeat' (first | (simp; done) | split))

@[simp] theorem State.finish_fcv (s : State) (r : Nat) (d : Desc) (e : Ends) : (State.finish s r d e).fcv = s.fcv := by
  unfold State.finish
  simp

@[simp] theorem State.readFails_fcv (s : State) : (State.readFails s).1.fcv = s.fcv := by
  unfold State.readFails
  simp

@[simp] theorem State.endAuth_fcv (s : State) (r : Nat) : (State.endAuth s r).fcv = s.fcv := by
  unfold State.endAuth
  simp

@[simp] theorem State.openService_fcv (s : State) (r dur : Nat) : (State.openService s r dur).fcv = s.fcv := by
  unfold State.openService
  simp

@[simp] theorem State.grant_fcv (s : State) (r : Nat) (a : AuthResp) : (State.grant s r a).fcv = s.fcv := by
  unfold State.grant
  simp

@[simp] theorem State.resetRing_fcv (s : State) (n : Nat) : (State.resetRing s n).fcv = s.fcv := by
  unfold State.resetRing
  simp

@[simp] theorem State.stageStore_fcv (s : State) (f : StageFile) : (State.stageStore s f).fcv = s.fcv := by
  unfold State.stageStore
  ((try dsimp only); repeat' (first | (simp; done) | split))

@[simp] theorem State.installKey_fcv (s : State) (e : Nat) : (State.installKey s e).fcv = s.fcv := by
  unfold State.installKey
  simp

@[simp] theorem State.mmInfo_fcv (s : State) (c : Chan) (t0 t1 : BitVec 8) : (State.mmInfo s c t0 t1).fcv = s.fcv := by
  unfold State.mmInfo
  simp

@[simp] theorem State.at_fcv (s : State) (t : Nat) : (State.at s t).fcv = s.fcv := by
  unfold State.at
  simp

@[simp] theorem State.measFault_fcv (s : State) (k : MzFault) : (State.measFault s k).fcv = s.fcv := by
  unfold State.measFault
  simp

@[simp] theorem State.mzData_fcv (s : State) (f : Nat → Nat) : (State.mzData s f).fcv = s.fcv := by
  unfold State.mzData
  simp

@[simp] theorem State.loseAon_fcv (s : State) : (State.loseAon s).fcv = s.fcv := by
  unfold State.loseAon
  simp

@[simp] theorem State.acceptFw_fcv (s : State) : (State.acceptFw s).fcv = s.fcv := by
  unfold State.acceptFw
  ((try dsimp only); repeat' (first | (simp; done) | split))

@[simp] theorem State.markReady_fcv (s : State) : (State.markReady s).fcv = s.fcv := by
  unfold State.markReady
  simp

@[simp] theorem State.stopStay_fcv (s : State) : (State.stopStay s).fcv = s.fcv := by
  unfold State.stopStay
  simp

@[simp] theorem State.invalidate_fcv (s : State) : (State.invalidate s).fcv = s.fcv := by
  unfold State.invalidate
  simp

@[simp] theorem State.resume_fcv (s : State) : (State.resume s).fcv = s.fcv := by
  unfold State.resume
  simp

@[simp] theorem State.drawDrk_fcv (s : State) : (State.drawDrk s).fcv = s.fcv := by
  unfold State.drawDrk
  simp

@[simp] theorem State.resetElem_fcv (s : State) (c : Chan) (e : DbgElem) : (State.resetElem s c e).fcv = s.fcv := by
  unfold State.resetElem
  ((try dsimp only); repeat' (first | (simp; done) | split))

@[simp] theorem State.goRun_fcv (s : State) (full : Bool) (cmd logic lo hi : Nat) : (State.goRun s full cmd logic lo hi).fcv = s.fcv := by
  unfold State.goRun
  simp

@[simp] theorem State.logFails_fcv (s : State) (fs : List BstFail) : (State.logFails s fs).fcv = s.fcv := by
  unfold State.logFails
  simp

@[simp] theorem State.clearArrays_fcv (s : State) : (State.clearArrays s).fcv = s.fcv := by
  unfold State.clearArrays
  simp

@[simp] theorem State.writeCert_fcv (s : State) (ms : Nat) : (State.writeCert s ms).fcv = s.fcv := by
  unfold State.writeCert
  simp

@[simp] theorem State.showRun_fcv (s : State) (o : RatlineObs) (result : Nat) : (State.showRun s o result).fcv = s.fcv := by
  unfold State.showRun
  simp

@[simp] theorem State.refitPhase_fcv (s : State) (p : Nat) : (State.refitPhase s p).fcv = s.fcv := by
  unfold State.refitPhase
  simp

@[simp] theorem State.refuseRefit_fcv (s : State) (code : Nat) : (State.refuseRefit s code).fcv = s.fcv := by
  unfold State.refuseRefit
  simp

@[simp] theorem State.startRefit_fcv (s : State) (r : Nat) (d : Desc) (im : Image) : (State.startRefit s r d im).fcv = s.fcv := by
  unfold State.startRefit
  simp

@[simp] theorem State.freshElem_fcv (s : State) (o : Owner) : (State.freshElem s o).fcv = s.fcv := by
  unfold State.freshElem
  ((try dsimp only); repeat' (first | (simp; done) | split))

@[simp] theorem State.applyRefit_fcv (s : State) (im : Image) : (State.applyRefit s im).fcv = s.fcv := by
  unfold State.applyRefit
  simp

@[simp] theorem State.dropRefit_fcv (s : State) (code : Nat) : (State.dropRefit s code).fcv = s.fcv := by
  unfold State.dropRefit
  simp

@[simp] theorem State.restartFns_fcv (s : State) (fs : List Nat) : (State.restartFns s fs).fcv = s.fcv := by
  unfold State.restartFns
  simp

@[simp] theorem State.putC_fcv (s : State) (f : Fld) (v : Nat) (u : Unit3) : (State.putC s f v u).fcv = s.fcv := by
  unfold State.putC
  simp

@[simp] theorem State.updCrc_fcv (s : State) (u : Unit3) (f : CrcSt → CrcSt) : (State.updCrc s u f).fcv = s.fcv := by
  unfold State.updCrc
  simp

@[simp] theorem State.scanEnds_fcv (s : State) (u : Unit3) (err : Nat) : (State.scanEnds s u err).fcv = s.fcv := by
  unfold State.scanEnds
  simp

@[simp] theorem State.withFetchWord_fcv (s : State) (nbits w : Nat) : (State.withFetchWord s nbits w).fcv = s.fcv := by
  unfold State.withFetchWord
  ((try dsimp only); repeat' (first | (simp; done) | split))

end Sys2Proof.Machine
end

