-- ==== Sys2Proof/Laws/Blocks.lean ====
section
/-! SUPPORT. Registers by block: a write to one block leaves every other block's registers as they were; what settling, an event, a record and a line of Class 0 or Class 1 leave alone. -/

namespace Sys2Proof.Machine

open Sys2Proof

theorem State.windows_of_fcv {s t : State} (h : t.fcv = s.fcv) : t.fc.a.windows = s.fc.a.windows ∧ t.fc.b.windows = s.fc.b.windows :=
  ⟨congrArg (fun x => x.1.2) h, congrArg (fun x => x.2.2) h⟩

/-! ## Registers of other blocks -/

theorem blockNum_inj (b b' : Block) (h : blockNum b = blockNum b') : b = b' := by
  cases b <;> cases b' <;> first | rfl | (exact absurd h (by decide))

theorem blockNum_lt (b : Block) : blockNum b < 19 := by cases b <;> decide

/-- Registers of two blocks never share an address. -/
theorem fldAddr_ne_of_blk (f g : Fld) (c d : Chan) (i j : Nat) (hb : g.blk ≠ f.blk) (hf : f.off + f.stride * i < 0x10000) (hg : g.off + g.stride * j < 0x10000) :
    fldAddr g (blockBase g.blk d) j ≠ fldAddr f (blockBase f.blk c) i := by
  have hn : blockNum g.blk ≠ blockNum f.blk := fun h => hb (blockNum_inj _ _ h)
  have h1 := blockNum_lt g.blk
  have h2 := blockNum_lt f.blk
  unfold fldAddr blockBase
  split <;> split <;> omega

theorem State.get_put_blk (s : State) (f g : Fld) (v : Nat) (c d : Chan) (i j : Nat) (hb : g.blk ≠ f.blk) (hf : f.off + f.stride * i < 0x10000) (hg : g.off + g.stride * j < 0x10000) :
    (s.put f v c i).get g d j = s.get g d j :=
  State.get_put_addr s f g v c d i j (fldAddr_ne_of_blk f g c d i j hb hf hg)

/-- The registers outside the blocks `B` read as before. -/
def State.keepsRegs (B : List Block) (s t : State) : Prop :=
  ∀ (g : Fld) (d : Chan) (j : Nat), g.blk ∉ B → g.off + g.stride * j < 0x10000 → t.get g d j = s.get g d j

theorem State.keepsRegs.refl (B : List Block) (s : State) : State.keepsRegs B s s := fun _ _ _ _ _ => rfl

theorem State.keepsRegs.of_regs {B : List Block} {s t : State} (h : t.regs = s.regs) : State.keepsRegs B s t := fun g d j _ _ => State.get_of_regs s t h g d j

theorem State.keepsRegs.trans {B : List Block} {s t u : State} (h1 : State.keepsRegs B s t) (h2 : State.keepsRegs B t u) : State.keepsRegs B s u :=
  fun g d j hg hb => (h2 g d j hg hb).trans (h1 g d j hg hb)

theorem State.keepsRegs.mono {B C : List Block} {s t : State} (h : State.keepsRegs B s t) (hs : B ⊆ C) : State.keepsRegs C s t :=
  fun g d j hg hb => h g d j (fun hm => hg (hs hm)) hb

theorem State.keepsRegs.put {B : List Block} (s : State) (f : Fld) (v : Nat) (c : Chan) (i : Nat) (hB : f.blk ∈ B) (hf : f.off + f.stride * i < 0x10000) :
    State.keepsRegs B s (s.put f v c i) :=
  fun g d j hg hb => State.get_put_blk s f g v c d i j (fun h => hg (h ▸ hB)) hf hb

theorem State.keepsRegs.satInc {B : List Block} (s : State) (f : Fld) (c : Chan) (i : Nat) (hB : f.blk ∈ B) (hf : f.off + f.stride * i < 0x10000) :
    State.keepsRegs B s (s.satInc f c i) := by
  unfold State.satInc
  dsimp only
  split
  · exact State.keepsRegs.put s f _ c i hB hf
  · exact State.keepsRegs.refl B s

theorem State.keepsRegs.put_of {B : List Block} {s t : State} (h : State.keepsRegs B s t) (f : Fld) (v : Nat) (c : Chan) (i : Nat) (hB : f.blk ∈ B) (hf : f.off + f.stride * i < 0x10000) :
    State.keepsRegs B s (t.put f v c i) := h.trans (State.keepsRegs.put t f v c i hB hf)

theorem State.dropEvent_keepsRegs (s : State) : State.keepsRegs [.hly] s s.dropEvent := by
  unfold State.dropEvent
  dsimp only
  split
  · next n hn =>
    have hlt : n < 8 := List.mem_range.mp (List.mem_of_find?_eq_some hn)
    refine State.keepsRegs.trans (t := { s with ev := { s.ev with dropped := s.ev.dropped + 1 } }) (State.keepsRegs.of_regs rfl) ?_
    exact State.keepsRegs.satInc _ _ _ _ (by decide) (by simp only [HLY_RING_n_STATUS_DROPPED]; omega)
  · exact State.keepsRegs.of_regs rfl

theorem State.pushEvent_keepsRegs (s : State) (ty : Nat) (w : List Nat) (e : Option (Chan × Nat)) : State.keepsRegs [.hly] s (s.pushEvent ty w e) := by
  unfold State.pushEvent
  rcases e with _ | ⟨c, k⟩ <;> dsimp only <;> split
  all_goals first | exact s.dropEvent_keepsRegs | exact State.keepsRegs.of_regs rfl

theorem State.recReady_keepsRegs (s : State) : State.keepsRegs [.llk] s s.recReady := by
  unfold State.recReady
  dsimp only
  split
  · exact (State.keepsRegs.put s _ _ _ _ (by decide) (by decide)).put_of _ _ _ _ (by decide) (by decide)
  · split
    · exact (State.keepsRegs.put s _ _ _ _ (by decide) (by decide)).put_of _ _ _ _ (by decide) (by decide)
    · exact State.keepsRegs.put s _ _ _ _ (by decide) (by decide)

theorem State.pushRec_keepsRegs (s : State) (ty : Nat) (p : List Nat) : State.keepsRegs [.llk] s (s.pushRec ty p) := by
  unfold State.pushRec
  dsimp only
  split
  · split
    · exact State.keepsRegs.trans (t := { s with recd := { s.recd with lost := s.recd.lost + 1 } }) (State.keepsRegs.of_regs rfl) (State.keepsRegs.satInc _ _ _ _ (by decide) (by decide))
    · split
      · exact State.keepsRegs.trans (State.keepsRegs.of_regs rfl) (State.recReady_keepsRegs _)
      · split <;> exact State.keepsRegs.trans (State.keepsRegs.of_regs rfl) (State.recReady_keepsRegs _)
  · exact State.keepsRegs.refl _ s

/-- Settling writes DEV_STATE, the fault pins and what the event ring counts, and no other register; it changes no state beside the registers and the event queue. -/
theorem State.settle_keepsRegs (s : State) : State.keepsRegs [.sys, .fc, .hly] s s.settle := by
  have hdev : ∀ (u : State) (n : Nat), State.keepsRegs [.sys, .fc, .hly] u (u.setDev n) := fun u n => by
    unfold State.setDev
    dsimp only
    split
    · exact State.keepsRegs.refl _ u
    · exact (State.keepsRegs.put u _ _ _ _ (by decide) (by decide)).trans ((State.pushEvent_keepsRegs _ _ _ _).mono (by decide))
  have hpins : ∀ u : State, State.keepsRegs [.sys, .fc, .hly] u u.showPins := fun u => by
    unfold State.showPins
    split
    · exact State.keepsRegs.refl _ u
    · exact (State.keepsRegs.put u _ _ _ _ (by decide) (by decide)).put_of _ _ _ _ (by decide) (by decide)
  unfold State.settle
  dsimp only
  refine State.keepsRegs.trans (t := _) ?_ (hpins _)
  repeat' split
  all_goals first | exact hdev _ _ | exact State.keepsRegs.refl _ s

theorem State.dropEvent_rest (s : State) : s.dropEvent = { s with regs := s.dropEvent.regs, ev := s.dropEvent.ev } := by
  unfold State.dropEvent State.satInc
  dsimp only
  split
  · split <;> rfl
  · rfl

theorem State.pushEvent_rest (s : State) (ty : Nat) (w : List Nat) (e : Option (Chan × Nat)) : s.pushEvent ty w e = { s with regs := (s.pushEvent ty w e).regs, ev := (s.pushEvent ty w e).ev } := by
  unfold State.pushEvent
  rcases e with _ | ⟨c, k⟩ <;> dsimp only <;> split
  all_goals first | exact s.dropEvent_rest | rfl

theorem State.setDev_rest (s : State) (n : Nat) : s.setDev n = { s with regs := (s.setDev n).regs, ev := (s.setDev n).ev } := by
  unfold State.setDev
  dsimp only
  split
  · rfl
  · unfold State.pushEvent State.dropEvent State.satInc
    dsimp only
    repeat' split
    all_goals rfl

theorem State.settle_rest (s : State) : s.settle = { s with regs := s.settle.regs, ev := s.settle.ev } := by
  have hp : ∀ u : State, u.showPins = { u with regs := u.showPins.regs } := fun u => by
    unfold State.showPins
    split <;> rfl
  have h : ∀ u : State, (∃ n, u = s.setDev n) ∨ u = s → u.showPins = { s with regs := u.showPins.regs, ev := u.showPins.ev } := fun u hu => by
    rw [hp u]
    rcases hu with ⟨n, rfl⟩ | rfl
    · rw [s.setDev_rest n]
    · rfl
  unfold State.settle
  dsimp only
  apply h
  repeat' split
  all_goals first | exact .inl ⟨_, rfl⟩ | exact .inr rfl

/-! ## What a line of Class 0 or Class 1 leaves alone -/

theorem State.recReady_rest (s : State) : s.recReady = { s with regs := s.recReady.regs } := by
  unfold State.recReady
  dsimp only
  repeat' split
  all_goals rfl

theorem State.pushRec_rest (s : State) (ty : Nat) (p : List Nat) : s.pushRec ty p = { s with regs := (s.pushRec ty p).regs, recd := (s.pushRec ty p).recd } := by
  unfold State.pushRec
  dsimp only
  split
  · split
    · unfold State.satInc
      dsimp only
      split <;> rfl
    · split
      · rw [State.recReady_rest]
      · split <;> rw [State.recReady_rest]
  · rfl

theorem State.putRecord_rest (s : State) (c : Chan) (n : Nat) (e : FaultEv) : s.putRecord c n e = { s with regs := (s.putRecord c n e).regs } := rfl

theorem State.record_rest (s : State) (c : Chan) (e : FaultEv) : s.record c e = { s with regs := (s.record c e).regs, ev := (s.record c e).ev, recd := (s.record c e).recd } := by
  unfold State.record
  dsimp only
  generalize hu : (if s.get FC_REC_PTR_UNREAD c < 16 then ((s.putRecord c (s.get FC_REC_PTR_NEXT c) e).put FC_REC_PTR_NEXT ((s.get FC_REC_PTR_NEXT c + 1) % 16) c).put FC_REC_PTR_UNREAD (s.get FC_REC_PTR_UNREAD c + 1) c
    else match s.oldestClass0 c with
      | some k => s.putRecord c k e
      | none => s.putFlag FC_REC_PTR_OVERRUN true c) = u
  have h : u = { s with regs := u.regs } := by
    rw [← hu]
    split
    · rfl
    · split <;> rfl
  rw [State.pushRec_rest, State.pushEvent_rest, h]

theorem State.first_rest (s : State) (c : Chan) (e : FaultEv) (m : Bool) : s.first c e m = { s with regs := (s.first c e m).regs } := by
  unfold State.first
  split <;> rfl

theorem State.satInc_rest (s : State) (f : Fld) (c : Chan) (i : Nat) : s.satInc f c i = { s with regs := (s.satInc f c i).regs } := by
  unfold State.satInc
  dsimp only
  split <;> rfl

theorem State.showLines_rest (s : State) (c : Chan) : s.showLines c = { s with regs := (s.showLines c).regs } := rfl

theorem State.latchIn_rest (s : State) (c : Chan) (e : FaultEv) (m : Bool) :
    s.latchIn c e m = { s with regs := (s.latchIn c e m).regs, ev := (s.latchIn c e m).ev, recd := (s.latchIn c e m).recd, fc := (s.latchIn c e m).fc } := by
  unfold State.latchIn
  split
  · dsimp only
    rw [State.satInc_rest]
    rfl
  · dsimp only
    split
    · rfl
    · rw [State.record_rest, State.first_rest]
      rfl

theorem State.latch_rest (s : State) (e : FaultEv) (m : Bool) :
    s.latch e m = { s with regs := (s.latch e m).regs, ev := (s.latch e m).ev, recd := (s.latch e m).recd, fc := (s.latch e m).fc } := by
  unfold State.latch
  split
  · exact State.latchIn_rest _ _ _ _
  · rw [State.latchIn_rest (s.latchIn .a e m), State.latchIn_rest s]

/-- A line of Class 0 or Class 1 changes the registers, the events, the records, the collectors and the conditions, and no other state. -/
theorem State.raise_rest (s : State) (e : FaultEv) (h : e.cls < 2) :
    s.raise e = { s with regs := (s.raise e).regs, ev := (s.raise e).ev, recd := (s.raise e).recd, fc := (s.raise e).fc, conds := (s.raise e).conds } := by
  have hr : ∀ u : State, u.react e = u := fun u => by
    unfold State.react
    split
    · omega
    · omega
    · rfl
  unfold State.raise
  dsimp only
  simp only [hr, ite_self]
  rw [State.settle_rest, State.latch_rest]

theorem State.raiseOnce_rest (s : State) (e : FaultEv) (h : e.cls < 2) :
    s.raiseOnce e = { s with regs := (s.raise e).regs, ev := (s.raise e).ev, recd := (s.raise e).recd, fc := (s.raise e).fc } := by
  unfold State.raiseOnce
  dsimp only
  rw [State.raise_rest s e h]

theorem State.putRecord_keepsRegs (s : State) (c : Chan) (n : Nat) (e : FaultEv) (hn : n < 16) : State.keepsRegs [.fc] s (s.putRecord c n e) := by
  unfold State.putRecord
  dsimp only
  refine State.keepsRegs.put_of (State.keepsRegs.put_of (State.keepsRegs.put_of (State.keepsRegs.put_of (State.keepsRegs.put_of (State.keepsRegs.put_of (State.keepsRegs.put_of (State.keepsRegs.put s _ _ _ _ ?_ ?_) _ _ _ _ ?_ ?_) _ _ _ _ ?_ ?_) _ _ _ _ ?_ ?_) _ _ _ _ ?_ ?_) _ _ _ _ ?_ ?_) _ _ _ _ ?_ ?_) _ _ _ _ ?_ ?_
  all_goals first | decide | (simp only [FC_REC_n_W0_VALID, FC_REC_n_W0_CLASS, FC_REC_n_W0_CHANNEL, FC_REC_n_W0_SF, FC_REC_n_W0_LINE, FC_REC_n_W1_DETAIL, FC_REC_n_W2_GCOUNT, FC_REC_n_W3_UPDATE]; omega)

theorem State.record_keepsRegs (s : State) (c : Chan) (e : FaultEv) : State.keepsRegs [.fc, .hly, .llk] s (s.record c e) := by
  unfold State.record
  dsimp only
  refine State.keepsRegs.trans (State.keepsRegs.trans ?_ ((State.pushEvent_keepsRegs _ _ _ _).mono (by decide))) ((State.pushRec_keepsRegs _ _ _).mono (by decide))
  split
  · have hn : s.get FC_REC_PTR_NEXT c < 16 := by
      unfold State.get fldGet getBits
      exact Nat.mod_lt _ (by decide)
    exact (((s.putRecord_keepsRegs c _ e hn).mono (by decide)).put_of _ _ _ _ (by decide) (by decide)).put_of _ _ _ _ (by decide) (by decide)
  · split
    · next k hk =>
      have hm := List.mem_of_find?_eq_some hk
      simp only [List.mem_map, List.mem_range] at hm
      obtain ⟨x, _, rfl⟩ := hm
      exact (s.putRecord_keepsRegs c _ e (Nat.mod_lt _ (by decide))).mono (by decide)
    · exact State.keepsRegs.put s _ _ _ _ (by decide) (by decide)

theorem State.first_keepsRegs (s : State) (c : Chan) (e : FaultEv) (m : Bool) : State.keepsRegs [.fc, .hly, .llk] s (s.first c e m) := by
  unfold State.first
  split
  · exact State.keepsRegs.refl _ s
  · dsimp only
    unfold State.putFlag
    repeat' (first | exact State.keepsRegs.refl _ _ | refine State.keepsRegs.put_of ?_ _ _ _ _ (by decide) (by decide))

theorem State.showLines_keepsRegs (s : State) (c : Chan) : State.keepsRegs [.fc, .hly, .llk] s (s.showLines c) := by
  unfold State.showLines
  dsimp only
  refine State.keepsRegs.put_of (State.keepsRegs.put_of (State.keepsRegs.put s _ _ _ _ ?_ ?_) _ _ _ _ ?_ ?_) _ _ _ _ ?_ ?_ <;> decide

theorem State.latchIn_keepsRegs (s : State) (c : Chan) (e : FaultEv) (m : Bool) : State.keepsRegs [.fc, .hly, .llk] s (s.latchIn c e m) := by
  unfold State.latchIn
  split
  · dsimp only
    refine State.keepsRegs.trans (t := State.satInc _ _ _ _) (State.keepsRegs.trans (t := State.put _ _ _ _ _) ?_ (State.keepsRegs.satInc _ _ _ _ (by decide) (by decide))) (State.keepsRegs.of_regs rfl)
    split <;> exact State.keepsRegs.put s _ _ _ _ (by decide) (by decide)
  · dsimp only
    split
    · exact State.keepsRegs.refl _ s
    · exact ((s.first_keepsRegs c e m).trans (State.record_keepsRegs _ c e)).trans
        (State.keepsRegs.trans (t := State.updFc _ _ _) (State.keepsRegs.of_regs rfl) (State.showLines_keepsRegs _ c))

theorem State.latch_keepsRegs (s : State) (e : FaultEv) (m : Bool) : State.keepsRegs [.fc, .hly, .llk] s (s.latch e m) := by
  unfold State.latch
  split
  · exact State.latchIn_keepsRegs _ _ _ _
  · exact (State.latchIn_keepsRegs _ _ _ _).trans (State.latchIn_keepsRegs _ _ _ _)

/-- A line of Class 0 or Class 1 writes registers of SYS, FC, HLY and the Recorder only. -/
theorem State.raise_keepsRegs (s : State) (e : FaultEv) (h : e.cls < 2) : State.keepsRegs [.sys, .fc, .hly, .llk] s (s.raise e) := by
  have hr : ∀ u : State, u.react e = u := fun u => by
    unfold State.react
    split
    · omega
    · omega
    · rfl
  unfold State.raise
  dsimp only
  simp only [hr, ite_self]
  have h1 : ∀ u : State, State.keepsRegs [.sys, .fc, .hly, .llk] u (u.latch e) := fun u => (u.latch_keepsRegs e false).mono (by decide)
  have h2 : ∀ u : State, State.keepsRegs [.sys, .fc, .hly, .llk] u u.settle := fun u => u.settle_keepsRegs.mono (by decide)
  intro g d j hg hb
  rw [h2 _ g d j hg hb, h1 _ g d j hg hb]
  rfl

theorem State.latchIn_windows (s : State) (c d : Chan) (e : FaultEv) (m : Bool) : (twoAt (s.latchIn c e m).fc d).windows = (twoAt s.fc d).windows := by
  have key : ∀ u : State, u.fcv = s.fcv → (twoAt u.fc d).windows = (twoAt s.fc d).windows := fun u hu => by
    cases d
    · exact (State.windows_of_fcv hu).1
    · exact (State.windows_of_fcv hu).2
  unfold State.latchIn
  split
  · exact key _ ((State.updFc_fcv _ _ _ (by simp)).trans (by simp))
  · dsimp only
    split
    · rfl
    · have h1 : ∀ u : State, (twoAt (u.showLines c).fc d).windows = (twoAt u.fc d).windows := fun u => rfl
      rw [h1]
      have h2 := key ((s.first c e m).record c e) (by simp)
      cases c <;> cases d <;> simpa [State.updFc] using h2

theorem State.raise_windows (s : State) (d : Chan) (e : FaultEv) : (twoAt (s.raise e).fc d).windows = (twoAt s.fc d).windows := by
  have key : ∀ u v : State, u.fcv = v.fcv → (twoAt u.fc d).windows = (twoAt v.fc d).windows := fun u v hu => by
    cases d
    · exact (State.windows_of_fcv hu).1
    · exact (State.windows_of_fcv hu).2
  rw [key _ _ (s.raise_fcv e)]
  unfold State.latch
  split
  · exact State.latchIn_windows _ _ _ _ _
  · exact (State.latchIn_windows _ _ _ _ _).trans (State.latchIn_windows _ _ _ _ _)

end Sys2Proof.Machine
end

