-- ==== Sys2Proof/Laws/Memory.lean ====
section
/-! SUPPORT. Memory: a byte reads as the last write to it, and every operation keeps the canonical form and stays in RAM. -/

namespace Sys2Proof.Machine

open Sys2Proof

theorem memByte_nil (x : Nat) : memByte [] x = 0 := rfl

theorem memByte_cons (k : Nat) (v : BitVec 8) (m : List Host.Cell) (x : Nat) : memByte ((k, v) :: m) x = if k = x then v else memByte m x := by
  unfold memByte
  rw [List.find?_cons]
  by_cases h : k = x
  · simp [h]
  · have hb : (k == x) = false := by simp [h]
    rw [if_neg h]
    dsimp only
    rw [hb]

/-- A byte below every listed address reads 0. -/
theorem memByte_below (m : List Host.Cell) (x : Nat) (h : ∀ e ∈ m, x < e.1) : memByte m x = 0 := by
  induction m with
  | nil => rfl
  | cons a m ih =>
    obtain ⟨k, v⟩ := a
    have hk : x < k := h (k, v) (List.mem_cons_self ..)
    rw [memByte_cons, if_neg (by omega)]
    exact ih fun e he => h e (List.mem_cons_of_mem _ he)

/-- What stands in a list after an insertion. -/
theorem memInsert_mem (a : Nat) (b : BitVec 8) (m : List Host.Cell) (e : Host.Cell) (h : e ∈ memInsert a b m) : e = (a, b) ∧ b ≠ 0 ∨ e ∈ m := by
  induction m with
  | nil =>
    unfold memInsert at h
    split at h
    · exact .inr h
    · rename_i hb
      exact .inl ⟨List.mem_singleton.mp h, hb⟩
  | cons c m ih =>
    obtain ⟨k, v⟩ := c
    unfold memInsert at h
    split at h
    · split at h
      · exact .inr h
      · rename_i hb
        rcases List.mem_cons.mp h with h | h
        · exact .inl ⟨h, hb⟩
        · exact .inr h
    · split at h
      · split at h
        · exact .inr (List.mem_cons_of_mem _ h)
        · rename_i hb
          rcases List.mem_cons.mp h with h | h
          · exact .inl ⟨h, hb⟩
          · exact .inr (List.mem_cons_of_mem _ h)
      · rcases List.mem_cons.mp h with h | h
        · exact .inr (h ▸ List.mem_cons_self ..)
        · exact (ih h).imp id (List.mem_cons_of_mem _)

theorem Memory.wf_tail {k : Nat} {v : BitVec 8} {m : List Host.Cell} (h : Memory.wf ((k, v) :: m)) : Memory.wf m :=
  ⟨(List.pairwise_cons.mp h.1).2, fun e he => h.2 e (List.mem_cons_of_mem _ he)⟩

/-- An insertion keeps the canonical form. -/
theorem memInsert_wf (a : Nat) (b : BitVec 8) (m : List Host.Cell) (h : Memory.wf m) : Memory.wf (memInsert a b m) := by
  induction m with
  | nil =>
    unfold memInsert
    split
    · exact h
    · rename_i hb
      exact ⟨List.pairwise_singleton _ _, fun e he => by rw [List.mem_singleton.mp he]; exact hb⟩
  | cons c m ih =>
    obtain ⟨k, v⟩ := c
    have ht := Memory.wf_tail h
    have hp := (List.pairwise_cons.mp h.1).1
    have cons : ∀ (x : Nat) (w : BitVec 8) (l : List Host.Cell), Memory.wf l → (∀ e ∈ l, x < e.1) → w ≠ 0 → Memory.wf ((x, w) :: l) := fun x w l hl hx hw =>
      ⟨List.pairwise_cons.mpr ⟨hx, hl.1⟩, fun e he => by
        rcases List.mem_cons.mp he with he | he
        · rw [he]; exact hw
        · exact hl.2 e he⟩
    unfold memInsert
    split
    · rename_i hak
      split
      · exact h
      · rename_i hb
        refine cons a b _ h (fun e he => ?_) hb
        rcases List.mem_cons.mp he with he | he
        · rw [he]; exact hak
        · exact Nat.lt_trans hak (hp e he)
    · rename_i hak
      split
      · rename_i hk
        split
        · exact ht
        · rename_i hb
          exact cons a b _ ht (fun e he => hk ▸ hp e he) hb
      · rename_i hk
        refine cons k v _ (ih ht) (fun e he => ?_) (h.2 (k, v) (List.mem_cons_self ..))
        rcases memInsert_mem a b m e he with he | he
        · rw [he.1]; omega
        · exact hp e he

/-- A byte reads as the last write to it; every other byte is unchanged. -/
theorem memByte_memInsert (a : Nat) (b : BitVec 8) (m : List Host.Cell) (h : Memory.wf m) (x : Nat) : memByte (memInsert a b m) x = if x = a then b else memByte m x := by
  induction m with
  | nil =>
    unfold memInsert
    split
    · rename_i hb
      rw [hb, memByte_nil, ite_self]
    · rw [memByte_cons, memByte_nil]
      simp only [eq_comm]
  | cons c m ih =>
    obtain ⟨k, v⟩ := c
    have ht := Memory.wf_tail h
    have hp := (List.pairwise_cons.mp h.1).1
    unfold memInsert
    split
    · rename_i hak
      split
      · rename_i hb
        by_cases hx : x = a
        · rw [if_pos hx, hb, memByte_below _ x]
          intro e he
          rcases List.mem_cons.mp he with he | he
          · rw [he, hx]; exact hak
          · rw [hx]; exact Nat.lt_trans hak (hp e he)
        · rw [if_neg hx]
      · rw [memByte_cons]
        simp only [eq_comm]
    · rename_i hak
      split
      · rename_i hk
        split
        · rename_i hb
          by_cases hx : x = a
          · rw [if_pos hx, hb, memByte_below m x]
            intro e he
            rw [hx, hk]
            exact hp e he
          · rw [if_neg hx, memByte_cons, if_neg (by omega)]
        · rw [memByte_cons, memByte_cons]
          by_cases hx : x = a
          · rw [if_pos hx.symm, if_pos hx]
          · rw [if_neg (by omega), if_neg hx, if_neg (by omega)]
      · rename_i hk
        rw [memByte_cons, memByte_cons, ih ht]
        by_cases hx : x = a
        · rw [if_pos hx, if_pos hx, if_neg (by omega)]
        · rw [if_neg hx, if_neg hx]

theorem memSetWord_wf (m : List Host.Cell) (a w : Nat) (h : Memory.wf m) : Memory.wf (memSetWord m a w) :=
  memInsert_wf _ _ _ (memInsert_wf _ _ _ (memInsert_wf _ _ _ (memInsert_wf _ _ _ h)))

/-- The four bytes of a word store. -/
theorem memByte_memSetWord (m : List Host.Cell) (a w : Nat) (h : Memory.wf m) (x : Nat) :
    memByte (memSetWord m a w) x = if a ≤ x ∧ x < a + 4 then BitVec.ofNat 8 (w / 2 ^ (8 * (x - a))) else memByte m x := by
  unfold memSetWord
  have h1 := memInsert_wf a (BitVec.ofNat 8 w) m h
  have h2 := memInsert_wf (a + 1) (BitVec.ofNat 8 (w / 2 ^ 8)) _ h1
  have h3 := memInsert_wf (a + 2) (BitVec.ofNat 8 (w / 2 ^ 16)) _ h2
  rw [memByte_memInsert _ _ _ h3, memByte_memInsert _ _ _ h2, memByte_memInsert _ _ _ h1, memByte_memInsert _ _ _ h]
  by_cases h0 : x = a
  · subst h0; simp
  · by_cases h1 : x = a + 1
    · subst h1; simp
    · by_cases h2 : x = a + 2
      · subst h2; simp
      · by_cases h3 : x = a + 3
        · subst h3; simp
        · rw [if_neg h3, if_neg h2, if_neg h1, if_neg h0, if_neg (by omega)]

/-- Dropping listed bytes keeps the canonical form. -/
theorem Memory.wf_filter (m : List Host.Cell) (p : Host.Cell → Bool) (h : Memory.wf m) : Memory.wf (m.filter p) :=
  ⟨h.1.filter p, fun e he => h.2 e (List.mem_filter.mp he).1⟩

/-- Every place of the map is whole words (R31). -/
theorem placeOf_word (x y : Nat) (h : x / 4 = y / 4) : placeOf x = placeOf y := by
  have q0 : x / 0x10000 = y / 0x10000 := by omega
  have q1 : (x - 0x10000 * 0x4000) / 0x10000 = (y - 0x10000 * 0x4000) / 0x10000 := by rw [Nat.sub_mul_div, Nat.sub_mul_div, q0]
  have q2 : (x - 0x10000 * 0x5000) / 0x10000 = (y - 0x10000 * 0x5000) / 0x10000 := by rw [Nat.sub_mul_div, Nat.sub_mul_div, q0]
  norm_num at q1 q2
  have q3 : x - x % 0x10000 = y - y % 0x10000 := by omega
  unfold placeOf
  rw [q1, q2, q3]
  iterate 11 refine if_congr (by omega) rfl ?_
  rfl

theorem placeOf_ram_word (a k : Nat) (h : placeOf a = .ram) (hk : k < 4) : placeOf (a / 4 * 4 + k) = .ram := by
  rw [← h]
  exact placeOf_word _ _ (by omega)

/-- A store into RAM leaves RAM bytes only. -/
theorem memInsert_ram (a : Nat) (b : BitVec 8) (m : List Host.Cell) (ha : placeOf a = .ram) (h : ∀ e ∈ m, placeOf e.1 = .ram) : ∀ e ∈ memInsert a b m, placeOf e.1 = .ram := fun e he => by
  rcases memInsert_mem a b m e he with he | he
  · rw [he.1]; exact ha
  · exact h e he

theorem memSetWord_ram (m : List Host.Cell) (a w : Nat) (ha : placeOf a = .ram) (h : ∀ e ∈ m, placeOf e.1 = .ram) : ∀ e ∈ memSetWord m (a / 4 * 4) w, placeOf e.1 = .ram :=
  memInsert_ram _ _ _ (placeOf_ram_word a 3 ha (by decide)) (memInsert_ram _ _ _ (placeOf_ram_word a 2 ha (by decide))
    (memInsert_ram _ _ _ (placeOf_ram_word a 1 ha (by decide)) (memInsert_ram _ _ _ (by simpa using placeOf_ram_word a 0 ha (by decide)) h)))

end Sys2Proof.Machine
end

