-- ==== Sys2Proof/Laws/Mizzen.lean ====
section
/-! SUPPORT. What the shared operations of the Mizzen link do: a command taken from the queue, its response, and the data words (R393). -/

namespace Sys2Proof.Machine

open Sys2Proof

/-- The command at the head of the queue is taken, and answered by what it does. -/
theorem State.mzTake_head (s : State) (cmd n : Nat) (q : List (Nat × Nat)) (f : State → Nat → State × Nat) (h1 : s.mz.on = true) (h2 : s.mz.held = false) (h3 : s.mz.queue = (cmd, n) :: q) :
    s.mzTake cmd f = (f (s.updMz (fun m => { m with queue := q })) n).1.mzResp cmd (f (s.updMz (fun m => { m with queue := q })) n).2 := by
  unfold State.mzTake
  rw [h3]
  dsimp only
  rw [if_neg (by simp [h1, h2])]

@[simp] theorem State.mzResp_mz (s : State) (cmd r : Nat) : (s.mzResp cmd r).mz = s.mz := by
  unfold State.mzResp
  split <;> rfl

theorem State.mzResp_cmd (s : State) (cmd r : Nat) (hp : s.power = .on) (hc : cmd < 256) : (s.mzResp cmd r).get MZW_RESP_CMD = cmd := by
  unfold State.mzResp
  rw [if_pos (by simp [State.running, hp]), State.get_put_same _ _ _ _ _ (by decide)]
  exact Nat.mod_eq_of_lt hc

theorem State.mzResp_result (s : State) (cmd r : Nat) (hp : s.power = .on) (hr : r < 256) : (s.mzResp cmd r).get MZW_RESP_RESULT = r := by
  unfold State.mzResp
  rw [if_pos (by simp [State.running, hp]), State.get_put_bits _ MZW_RESP_CMD MZW_RESP_RESULT _ .a 0 (by decide) rfl rfl rfl rfl (.inr (by decide)), State.get_put_same _ _ _ _ _ (by decide)]
  exact Nat.mod_eq_of_lt hr

theorem State.mzData_mz (s : State) (g : Nat → Nat) : (s.mzData g).mz = s.mz := by
  unfold State.mzData
  apply State.foldl_keep (·.mz)
  intro v k
  rfl

theorem State.mzData_power (s : State) (g : Nat → Nat) : (s.mzData g).power = s.power := by
  unfold State.mzData
  apply State.foldl_keep (·.power)
  intro v k
  rfl

theorem mzData_addr (j k : Nat) (h : j ≠ k) (hj : j < 16) (hk : k < 16) : fldAddr MZW_DATA_n_DATA (blockBase .mzw .a) k ≠ fldAddr MZW_DATA_n_DATA (blockBase .mzw .a) j := by
  refine fldAddr_ne_of_off _ _ _ _ _ rfl ?_
  simp only [MZW_DATA_n_DATA]
  omega

/-- Data word `k` is the word the operation gives it. -/
theorem State.mzData_get (s : State) (g : Nat → Nat) (k : Fin 16) : (s.mzData g).get MZW_DATA_n_DATA .a k = g k % 2 ^ 32 := by
  have key : ∀ (l : List Nat) (y : State), (∀ n ∈ l, n < 16) → k.val ∈ l ∨ y.get MZW_DATA_n_DATA .a k = g k % 2 ^ 32 → (l.foldl (fun (s : State) n => s.put MZW_DATA_n_DATA (g n % 2 ^ 32) .a n) y).get MZW_DATA_n_DATA .a k = g k % 2 ^ 32 := by
    intro l
    induction l with
    | nil => intro y _ hy; exact hy.resolve_left (by simp)
    | cons a l ih =>
      intro y hl hy
      refine ih _ (fun n hn => hl n (List.mem_cons_of_mem _ hn)) ?_
      by_cases hak : a = k.val
      · subst hak
        refine .inr ?_
        rw [State.get_put_same _ _ _ _ _ (by decide)]
        exact Nat.mod_mod _ _
      · rcases hy with hy | hy
        · rcases List.mem_cons.mp hy with hy | hy
          · exact absurd hy.symm hak
          · exact .inl hy
        · refine .inr ?_
          rw [State.get_put_addr _ MZW_DATA_n_DATA MZW_DATA_n_DATA _ .a .a a k (mzData_addr a k hak (hl a (List.mem_cons_self ..)) k.isLt)]
          exact hy
  exact key _ _ (fun n hn => List.mem_range.mp hn) (.inl (List.mem_range.mpr k.isLt))

theorem State.mzResp_data (s : State) (cmd r : Nat) (k : Fin 16) : (s.mzResp cmd r).get MZW_DATA_n_DATA .a k = s.get MZW_DATA_n_DATA .a k := by
  have h1 : fldAddr MZW_DATA_n_DATA (blockBase .mzw .a) k.val ≠ fldAddr MZW_RESP_CMD (blockBase .mzw .a) 0 := by
    refine fldAddr_ne_of_off _ _ _ _ _ rfl ?_
    have := k.isLt
    simp only [MZW_DATA_n_DATA, MZW_RESP_CMD]
    omega
  unfold State.mzResp
  split
  · rw [State.get_put_addr _ MZW_RESP_CMD MZW_DATA_n_DATA _ .a .a 0 k h1, State.get_put_addr _ MZW_RESP_RESULT MZW_DATA_n_DATA _ .a .a 0 k h1]
  · rfl

/-- The open lot `l` closes: its record is the newest, and the total is committed. -/
theorem State.closeLot_some (s : State) (l : Lot) (h : s.mz.lot = some l) :
    s.closeLot = (s.draw.2.updMz (fun m => { m with lot := none, records := (if m.records.length < 1024 then m.records else m.records.drop 1) ++ [⟨l.number, l.ident, l.gOpen, s.mz.gt, s.mz.units s.mz.gt - s.mz.units l.gOpen, l.rev * s.mz.params.num / s.mz.params.den, l.secs, s.mzSecs, s.mz.hint, l.flags, s.draw.1⟩] })).mzCommit := by
  unfold State.closeLot
  rw [h]

/-- After the close no lot is open, and the total stands. -/
theorem State.closeLot_lot (s : State) : s.closeLot.mz.lot = none ∧ s.closeLot.mz.gt = s.mz.gt ∧ s.closeLot.mz.on = s.mz.on ∧ s.closeLot.mz.pos = s.mz.pos := by
  cases h : s.mz.lot with
  | none =>
    unfold State.closeLot
    rw [h]
    exact ⟨h, rfl, rfl, rfl⟩
  | some l =>
    rw [State.closeLot_some s l h]
    exact ⟨rfl, rfl, rfl, rfl⟩

theorem State.mzEvent_mz (s : State) (e : MzEvent) : (s.mzEvent e).mz.gt = s.mz.gt ∧ (s.mzEvent e).mz.lot = s.mz.lot ∧ (s.mzEvent e).mz.on = s.mz.on ∧ (s.mzEvent e).mz.pos = s.mz.pos ∧ (s.mzEvent e).mz.queue = s.mz.queue ∧ (s.mzEvent e).mz.broken = s.mz.broken ∧ (e, s.mzSecs) ∈ (s.mzEvent e).mz.events := by
  dsimp only [State.mzEvent, State.updMz]
  split
  · exact ⟨rfl, rfl, rfl, rfl, rfl, rfl, List.mem_append_right _ (List.mem_singleton.mpr rfl)⟩
  · exact ⟨rfl, rfl, rfl, rfl, rfl, rfl, List.mem_append_right _ (List.mem_singleton.mpr rfl)⟩

/-- Mizzen answers a request while it works. -/
theorem State.mzAnswer_on (s : State) (f : State → State × MzAnswer) (h1 : s.mz.on = true) (h2 : s.mz.held = false) : s.mzAnswer f = (f s).1.updMz (fun m => { m with answer := (f s).2 }) := by
  unfold State.mzAnswer
  rw [if_pos ⟨h1, h2⟩]

/-- The audit trail grows by one entry while it has room. -/
theorem State.mzAudit_room (s : State) (c : MzChange) (h : s.mz.audit.length < 4096) : s.mzAudit c = s.updMz (fun m => { m with audit := m.audit ++ [⟨c, m.seals, s.mzSecs, m.gt⟩] }) := by
  unfold State.mzAudit
  rw [if_neg (by unfold State.auditFull; simp; omega)]

/-- Field `k` of the mirror holds the `k`-th number of a frame. -/
theorem State.mirror_get (s : State) (m : MzSt) (k : Fin 16) :
    ((mirrorFields.zip m.mirror).foldl (fun (s : State) (e : Fld × Nat) => s.put e.1 e.2) s).get (mirrorFields[k]'(k.isLt)) =
      (m.mirror[k]'(k.isLt)) % 2 ^ ((mirrorFields[k]'(k.isLt)).hi + 1 - (mirrorFields[k]'(k.isLt)).lo) := by
  have h : mirrorFields.zip m.mirror = (mirrorFields.zip m.mirror).take k ++ (mirrorFields[k]'(k.isLt), m.mirror[k]'(k.isLt)) :: (mirrorFields.zip m.mirror).drop (k + 1) := by
    have hl : k.val < (mirrorFields.zip m.mirror).length := k.isLt
    conv_lhs => rw [← List.take_append_drop k.val (mirrorFields.zip m.mirror), List.drop_eq_getElem_cons hl, List.getElem_zip]
    rfl
  have h1 : (mirrorFields[k]'(k.isLt)).ok = true := by clear h; revert k; decide
  have h2 : ((mirrorFields.drop (k + 1)).all fun x => x.apart (mirrorFields[k]'(k.isLt))) = true := by clear h h1; revert k; decide
  rw [h]
  refine State.putAll_get _ _ _ _ h1 ?_ _
  rw [List.map_drop, List.map_fst_zip (by exact Nat.le_refl 16)]
  exact h2

theorem State.updMz_mz (s : State) (f : MzSt → MzSt) : (s.updMz f).mz = f s.mz := rfl

theorem State.updMz_get (s : State) (f : MzSt → MzSt) (g : Fld) (c : Chan) (i : Nat) : (s.updMz f).get g c i = s.get g c i := rfl

/-- Without a mirror its fields read 0. -/
theorem State.clearMirror_get (s : State) (k : Fin 16) : s.clearMirror.get (mirrorFields[k]'(k.isLt)) = 0 := by
  have h : ∀ l : List Fld, l.foldl (fun (s : State) f => s.put f 0) s = (l.zip (List.replicate l.length 0)).foldl (fun (s : State) (e : Fld × Nat) => s.put e.1 e.2) s := by
    intro l
    induction l generalizing s with
    | nil => rfl
    | cons a l ih => exact ih _
  have hz : mirrorFields.zip (List.replicate 16 0) = (mirrorFields.zip (List.replicate 16 0)).take k ++ (mirrorFields[k]'(k.isLt), 0) :: (mirrorFields.zip (List.replicate 16 0)).drop (k + 1) := by
    have hl : k.val < (mirrorFields.zip (List.replicate 16 0)).length := k.isLt
    conv_lhs => rw [← List.take_append_drop k.val (mirrorFields.zip (List.replicate 16 0)), List.drop_eq_getElem_cons hl, List.getElem_zip, List.getElem_replicate]
    rfl
  have h1 : (mirrorFields[k]'(k.isLt)).ok = true := by clear hz; revert k; decide
  have h2 : ((mirrorFields.drop (k + 1)).all fun x => x.apart (mirrorFields[k]'(k.isLt))) = true := by clear hz h1; revert k; decide
  unfold State.clearMirror
  rw [State.updMz_get, h, show mirrorFields.length = 16 from rfl, hz]
  rw [State.putAll_get _ _ _ _ h1 (by rw [List.map_drop, List.map_fst_zip (by exact Nat.le_refl 16)]; exact h2)]
  exact Nat.zero_mod _

theorem State.putAll_mz (l : List (Fld × Nat)) (s : State) : (l.foldl (fun (s : State) (e : Fld × Nat) => s.put e.1 e.2) s).mz = s.mz := by
  apply State.foldl_keep (·.mz)
  intro v k
  rfl

theorem State.clearMirror_mz (s : State) : s.clearMirror.mz = { s.mz with mirrorAt := none } := by
  have h : (mirrorFields.foldl (fun (s : State) f => s.put f 0) s).mz = s.mz := by
    apply State.foldl_keep (·.mz)
    intro v k
    rfl
  unfold State.clearMirror State.updMz
  dsimp only
  rw [h]

end Sys2Proof.Machine
end

