-- ==== Sys2Proof/Laws/State.lean ====
section
/-! SUPPORT. The state and its named updates: each update leaves every other field as it was. -/

namespace Sys2Proof.Machine

open Sys2Proof

@[simp] theorem State.put_mem_eq (s : State) (f : Fld) (v : Nat) (c : Chan) (i : Nat) : (State.put s f v c i).mem = s.mem := rfl
@[simp] theorem State.put_now_eq (s : State) (f : Fld) (v : Nat) (c : Chan) (i : Nat) : (State.put s f v c i).now = s.now := rfl
@[simp] theorem State.put_freeCount_eq (s : State) (f : Fld) (v : Nat) (c : Chan) (i : Nat) : (State.put s f v c i).freeCount = s.freeCount := rfl
@[simp] theorem State.put_power_eq (s : State) (f : Fld) (v : Nat) (c : Chan) (i : Nat) : (State.put s f v c i).power = s.power := rfl
@[simp] theorem State.put_fc_eq (s : State) (f : Fld) (v : Nat) (c : Chan) (i : Nat) : (State.put s f v c i).fc = s.fc := rfl
@[simp] theorem State.put_die_eq (s : State) (f : Fld) (v : Nat) (c : Chan) (i : Nat) : (State.put s f v c i).die = s.die := rfl
@[simp] theorem State.put_inp_eq (s : State) (f : Fld) (v : Nat) (c : Chan) (i : Nat) : (State.put s f v c i).inp = s.inp := rfl
@[simp] theorem State.put_pairs_eq (s : State) (f : Fld) (v : Nat) (c : Chan) (i : Nat) : (State.put s f v c i).pairs = s.pairs := rfl
@[simp] theorem State.put_srcs_eq (s : State) (f : Fld) (v : Nat) (c : Chan) (i : Nat) : (State.put s f v c i).srcs = s.srcs := rfl
@[simp] theorem State.put_pulse_eq (s : State) (f : Fld) (v : Nat) (c : Chan) (i : Nat) : (State.put s f v c i).pulse = s.pulse := rfl
@[simp] theorem State.put_outs_eq (s : State) (f : Fld) (v : Nat) (c : Chan) (i : Nat) : (State.put s f v c i).outs = s.outs := rfl
@[simp] theorem State.put_graph_eq (s : State) (f : Fld) (v : Nat) (c : Chan) (i : Nat) : (State.put s f v c i).graph = s.graph := rfl
@[simp] theorem State.put_stop_eq (s : State) (f : Fld) (v : Nat) (c : Chan) (i : Nat) : (State.put s f v c i).stop = s.stop := rfl
@[simp] theorem State.put_stay_eq (s : State) (f : Fld) (v : Nat) (c : Chan) (i : Nat) : (State.put s f v c i).stay = s.stay := rfl
@[simp] theorem State.put_ae_eq (s : State) (f : Fld) (v : Nat) (c : Chan) (i : Nat) : (State.put s f v c i).ae = s.ae := rfl
@[simp] theorem State.put_conds_eq (s : State) (f : Fld) (v : Nat) (c : Chan) (i : Nat) : (State.put s f v c i).conds = s.conds := rfl
@[simp] theorem State.put_ev_eq (s : State) (f : Fld) (v : Nat) (c : Chan) (i : Nat) : (State.put s f v c i).ev = s.ev := rfl
@[simp] theorem State.put_recd_eq (s : State) (f : Fld) (v : Nat) (c : Chan) (i : Nat) : (State.put s f v c i).recd = s.recd := rfl
@[simp] theorem State.put_ptp_eq (s : State) (f : Fld) (v : Nat) (c : Chan) (i : Nat) : (State.put s f v c i).ptp = s.ptp := rfl
@[simp] theorem State.put_fmon_eq (s : State) (f : Fld) (v : Nat) (c : Chan) (i : Nat) : (State.put s f v c i).fmon = s.fmon := rfl
@[simp] theorem State.put_scrub_eq (s : State) (f : Fld) (v : Nat) (c : Chan) (i : Nat) : (State.put s f v c i).scrub = s.scrub := rfl
@[simp] theorem State.put_adcs_eq (s : State) (f : Fld) (v : Nat) (c : Chan) (i : Nat) : (State.put s f v c i).adcs = s.adcs := rfl
@[simp] theorem State.put_ses_eq (s : State) (f : Fld) (v : Nat) (c : Chan) (i : Nat) : (State.put s f v c i).ses = s.ses := rfl
@[simp] theorem State.put_nets_eq (s : State) (f : Fld) (v : Nat) (c : Chan) (i : Nat) : (State.put s f v c i).nets = s.nets := rfl
@[simp] theorem State.put_link_eq (s : State) (f : Fld) (v : Nat) (c : Chan) (i : Nat) : (State.put s f v c i).link = s.link := rfl
@[simp] theorem State.put_epochAt_eq (s : State) (f : Fld) (v : Nat) (c : Chan) (i : Nat) : (State.put s f v c i).epochAt = s.epochAt := rfl
@[simp] theorem State.put_prog_eq (s : State) (f : Fld) (v : Nat) (c : Chan) (i : Nat) : (State.put s f v c i).prog = s.prog := rfl
@[simp] theorem State.put_refitHeld_eq (s : State) (f : Fld) (v : Nat) (c : Chan) (i : Nat) : (State.put s f v c i).refitHeld = s.refitHeld := rfl
@[simp] theorem State.put_hostLost_eq (s : State) (f : Fld) (v : Nat) (c : Chan) (i : Nat) : (State.put s f v c i).hostLost = s.hostLost := rfl
@[simp] theorem State.put_sleepRun_eq (s : State) (f : Fld) (v : Nat) (c : Chan) (i : Nat) : (State.put s f v c i).sleepRun = s.sleepRun := rfl
@[simp] theorem State.put_shdnPrev_eq (s : State) (f : Fld) (v : Nat) (c : Chan) (i : Nat) : (State.put s f v c i).shdnPrev = s.shdnPrev := rfl
@[simp] theorem State.put_cutPrev_eq (s : State) (f : Fld) (v : Nat) (c : Chan) (i : Nat) : (State.put s f v c i).cutPrev = s.cutPrev := rfl
@[simp] theorem State.put_service_eq (s : State) (f : Fld) (v : Nat) (c : Chan) (i : Nat) : (State.put s f v c i).service = s.service := rfl
@[simp] theorem State.put_tims_eq (s : State) (f : Fld) (v : Nat) (c : Chan) (i : Nat) : (State.put s f v c i).tims = s.tims := rfl
@[simp] theorem State.put_crcs_eq (s : State) (f : Fld) (v : Nat) (c : Chan) (i : Nat) : (State.put s f v c i).crcs = s.crcs := rfl
@[simp] theorem State.put_latches_eq (s : State) (f : Fld) (v : Nat) (c : Chan) (i : Nat) : (State.put s f v c i).latches = s.latches := rfl
@[simp] theorem State.put_bus_eq (s : State) (f : Fld) (v : Nat) (c : Chan) (i : Nat) : (State.put s f v c i).bus = s.bus := rfl
@[simp] theorem State.put_fw_eq (s : State) (f : Fld) (v : Nat) (c : Chan) (i : Nat) : (State.put s f v c i).fw = s.fw := rfl
@[simp] theorem State.put_aonStart_eq (s : State) (f : Fld) (v : Nat) (c : Chan) (i : Nat) : (State.put s f v c i).aonStart = s.aonStart := rfl
@[simp] theorem State.put_hly_eq (s : State) (f : Fld) (v : Nat) (c : Chan) (i : Nat) : (State.put s f v c i).hly = s.hly := rfl
@[simp] theorem State.put_sec_eq (s : State) (f : Fld) (v : Nat) (c : Chan) (i : Nat) : (State.put s f v c i).sec = s.sec := rfl
@[simp] theorem State.put_sleepAt_eq (s : State) (f : Fld) (v : Nat) (c : Chan) (i : Nat) : (State.put s f v c i).sleepAt = s.sleepAt := rfl
@[simp] theorem State.put_sleptFrom_eq (s : State) (f : Fld) (v : Nat) (c : Chan) (i : Nat) : (State.put s f v c i).sleptFrom = s.sleptFrom := rfl
@[simp] theorem State.put_refit_eq (s : State) (f : Fld) (v : Nat) (c : Chan) (i : Nat) : (State.put s f v c i).refit = s.refit := rfl
@[simp] theorem State.put_mz_eq (s : State) (f : Fld) (v : Nat) (c : Chan) (i : Nat) : (State.put s f v c i).mz = s.mz := rfl
@[simp] theorem State.put_pending_eq (s : State) (f : Fld) (v : Nat) (c : Chan) (i : Nat) : (State.put s f v c i).pending = s.pending := rfl

@[simp] theorem State.putAt_mem_eq (s : State) (f : Fld) (v base : Nat) (i : Nat) : (State.putAt s f v base i).mem = s.mem := rfl
@[simp] theorem State.putAt_now_eq (s : State) (f : Fld) (v base : Nat) (i : Nat) : (State.putAt s f v base i).now = s.now := rfl
@[simp] theorem State.putAt_freeCount_eq (s : State) (f : Fld) (v base : Nat) (i : Nat) : (State.putAt s f v base i).freeCount = s.freeCount := rfl
@[simp] theorem State.putAt_power_eq (s : State) (f : Fld) (v base : Nat) (i : Nat) : (State.putAt s f v base i).power = s.power := rfl
@[simp] theorem State.putAt_fc_eq (s : State) (f : Fld) (v base : Nat) (i : Nat) : (State.putAt s f v base i).fc = s.fc := rfl
@[simp] theorem State.putAt_die_eq (s : State) (f : Fld) (v base : Nat) (i : Nat) : (State.putAt s f v base i).die = s.die := rfl
@[simp] theorem State.putAt_inp_eq (s : State) (f : Fld) (v base : Nat) (i : Nat) : (State.putAt s f v base i).inp = s.inp := rfl
@[simp] theorem State.putAt_pairs_eq (s : State) (f : Fld) (v base : Nat) (i : Nat) : (State.putAt s f v base i).pairs = s.pairs := rfl
@[simp] theorem State.putAt_srcs_eq (s : State) (f : Fld) (v base : Nat) (i : Nat) : (State.putAt s f v base i).srcs = s.srcs := rfl
@[simp] theorem State.putAt_pulse_eq (s : State) (f : Fld) (v base : Nat) (i : Nat) : (State.putAt s f v base i).pulse = s.pulse := rfl
@[simp] theorem State.putAt_outs_eq (s : State) (f : Fld) (v base : Nat) (i : Nat) : (State.putAt s f v base i).outs = s.outs := rfl
@[simp] theorem State.putAt_graph_eq (s : State) (f : Fld) (v base : Nat) (i : Nat) : (State.putAt s f v base i).graph = s.graph := rfl
@[simp] theorem State.putAt_stop_eq (s : State) (f : Fld) (v base : Nat) (i : Nat) : (State.putAt s f v base i).stop = s.stop := rfl
@[simp] theorem State.putAt_stay_eq (s : State) (f : Fld) (v base : Nat) (i : Nat) : (State.putAt s f v base i).stay = s.stay := rfl
@[simp] theorem State.putAt_ae_eq (s : State) (f : Fld) (v base : Nat) (i : Nat) : (State.putAt s f v base i).ae = s.ae := rfl
@[simp] theorem State.putAt_conds_eq (s : State) (f : Fld) (v base : Nat) (i : Nat) : (State.putAt s f v base i).conds = s.conds := rfl
@[simp] theorem State.putAt_ev_eq (s : State) (f : Fld) (v base : Nat) (i : Nat) : (State.putAt s f v base i).ev = s.ev := rfl
@[simp] theorem State.putAt_recd_eq (s : State) (f : Fld) (v base : Nat) (i : Nat) : (State.putAt s f v base i).recd = s.recd := rfl
@[simp] theorem State.putAt_ptp_eq (s : State) (f : Fld) (v base : Nat) (i : Nat) : (State.putAt s f v base i).ptp = s.ptp := rfl
@[simp] theorem State.putAt_fmon_eq (s : State) (f : Fld) (v base : Nat) (i : Nat) : (State.putAt s f v base i).fmon = s.fmon := rfl
@[simp] theorem State.putAt_scrub_eq (s : State) (f : Fld) (v base : Nat) (i : Nat) : (State.putAt s f v base i).scrub = s.scrub := rfl
@[simp] theorem State.putAt_adcs_eq (s : State) (f : Fld) (v base : Nat) (i : Nat) : (State.putAt s f v base i).adcs = s.adcs := rfl
@[simp] theorem State.putAt_ses_eq (s : State) (f : Fld) (v base : Nat) (i : Nat) : (State.putAt s f v base i).ses = s.ses := rfl
@[simp] theorem State.putAt_nets_eq (s : State) (f : Fld) (v base : Nat) (i : Nat) : (State.putAt s f v base i).nets = s.nets := rfl
@[simp] theorem State.putAt_link_eq (s : State) (f : Fld) (v base : Nat) (i : Nat) : (State.putAt s f v base i).link = s.link := rfl
@[simp] theorem State.putAt_epochAt_eq (s : State) (f : Fld) (v base : Nat) (i : Nat) : (State.putAt s f v base i).epochAt = s.epochAt := rfl
@[simp] theorem State.putAt_prog_eq (s : State) (f : Fld) (v base : Nat) (i : Nat) : (State.putAt s f v base i).prog = s.prog := rfl
@[simp] theorem State.putAt_refitHeld_eq (s : State) (f : Fld) (v base : Nat) (i : Nat) : (State.putAt s f v base i).refitHeld = s.refitHeld := rfl
@[simp] theorem State.putAt_hostLost_eq (s : State) (f : Fld) (v base : Nat) (i : Nat) : (State.putAt s f v base i).hostLost = s.hostLost := rfl
@[simp] theorem State.putAt_sleepRun_eq (s : State) (f : Fld) (v base : Nat) (i : Nat) : (State.putAt s f v base i).sleepRun = s.sleepRun := rfl
@[simp] theorem State.putAt_shdnPrev_eq (s : State) (f : Fld) (v base : Nat) (i : Nat) : (State.putAt s f v base i).shdnPrev = s.shdnPrev := rfl
@[simp] theorem State.putAt_cutPrev_eq (s : State) (f : Fld) (v base : Nat) (i : Nat) : (State.putAt s f v base i).cutPrev = s.cutPrev := rfl
@[simp] theorem State.putAt_service_eq (s : State) (f : Fld) (v base : Nat) (i : Nat) : (State.putAt s f v base i).service = s.service := rfl
@[simp] theorem State.putAt_tims_eq (s : State) (f : Fld) (v base : Nat) (i : Nat) : (State.putAt s f v base i).tims = s.tims := rfl
@[simp] theorem State.putAt_crcs_eq (s : State) (f : Fld) (v base : Nat) (i : Nat) : (State.putAt s f v base i).crcs = s.crcs := rfl
@[simp] theorem State.putAt_latches_eq (s : State) (f : Fld) (v base : Nat) (i : Nat) : (State.putAt s f v base i).latches = s.latches := rfl
@[simp] theorem State.putAt_bus_eq (s : State) (f : Fld) (v base : Nat) (i : Nat) : (State.putAt s f v base i).bus = s.bus := rfl
@[simp] theorem State.putAt_fw_eq (s : State) (f : Fld) (v base : Nat) (i : Nat) : (State.putAt s f v base i).fw = s.fw := rfl
@[simp] theorem State.putAt_aonStart_eq (s : State) (f : Fld) (v base : Nat) (i : Nat) : (State.putAt s f v base i).aonStart = s.aonStart := rfl
@[simp] theorem State.putAt_hly_eq (s : State) (f : Fld) (v base : Nat) (i : Nat) : (State.putAt s f v base i).hly = s.hly := rfl
@[simp] theorem State.putAt_sec_eq (s : State) (f : Fld) (v base : Nat) (i : Nat) : (State.putAt s f v base i).sec = s.sec := rfl
@[simp] theorem State.putAt_sleepAt_eq (s : State) (f : Fld) (v base : Nat) (i : Nat) : (State.putAt s f v base i).sleepAt = s.sleepAt := rfl
@[simp] theorem State.putAt_sleptFrom_eq (s : State) (f : Fld) (v base : Nat) (i : Nat) : (State.putAt s f v base i).sleptFrom = s.sleptFrom := rfl
@[simp] theorem State.putAt_refit_eq (s : State) (f : Fld) (v base : Nat) (i : Nat) : (State.putAt s f v base i).refit = s.refit := rfl
@[simp] theorem State.putAt_mz_eq (s : State) (f : Fld) (v base : Nat) (i : Nat) : (State.putAt s f v base i).mz = s.mz := rfl
@[simp] theorem State.putAt_pending_eq (s : State) (f : Fld) (v base : Nat) (i : Nat) : (State.putAt s f v base i).pending = s.pending := rfl

@[simp] theorem State.updSec_regs_eq (s : State) (f : SecSt → SecSt) : (State.updSec s f).regs = s.regs := rfl
@[simp] theorem State.updSec_mem_eq (s : State) (f : SecSt → SecSt) : (State.updSec s f).mem = s.mem := rfl
@[simp] theorem State.updSec_now_eq (s : State) (f : SecSt → SecSt) : (State.updSec s f).now = s.now := rfl
@[simp] theorem State.updSec_freeCount_eq (s : State) (f : SecSt → SecSt) : (State.updSec s f).freeCount = s.freeCount := rfl
@[simp] theorem State.updSec_power_eq (s : State) (f : SecSt → SecSt) : (State.updSec s f).power = s.power := rfl
@[simp] theorem State.updSec_fc_eq (s : State) (f : SecSt → SecSt) : (State.updSec s f).fc = s.fc := rfl
@[simp] theorem State.updSec_die_eq (s : State) (f : SecSt → SecSt) : (State.updSec s f).die = s.die := rfl
@[simp] theorem State.updSec_inp_eq (s : State) (f : SecSt → SecSt) : (State.updSec s f).inp = s.inp := rfl
@[simp] theorem State.updSec_pairs_eq (s : State) (f : SecSt → SecSt) : (State.updSec s f).pairs = s.pairs := rfl
@[simp] theorem State.updSec_srcs_eq (s : State) (f : SecSt → SecSt) : (State.updSec s f).srcs = s.srcs := rfl
@[simp] theorem State.updSec_pulse_eq (s : State) (f : SecSt → SecSt) : (State.updSec s f).pulse = s.pulse := rfl
@[simp] theorem State.updSec_outs_eq (s : State) (f : SecSt → SecSt) : (State.updSec s f).outs = s.outs := rfl
@[simp] theorem State.updSec_graph_eq (s : State) (f : SecSt → SecSt) : (State.updSec s f).graph = s.graph := rfl
@[simp] theorem State.updSec_stop_eq (s : State) (f : SecSt → SecSt) : (State.updSec s f).stop = s.stop := rfl
@[simp] theorem State.updSec_stay_eq (s : State) (f : SecSt → SecSt) : (State.updSec s f).stay = s.stay := rfl
@[simp] theorem State.updSec_ae_eq (s : State) (f : SecSt → SecSt) : (State.updSec s f).ae = s.ae := rfl
@[simp] theorem State.updSec_conds_eq (s : State) (f : SecSt → SecSt) : (State.updSec s f).conds = s.conds := rfl
@[simp] theorem State.updSec_ev_eq (s : State) (f : SecSt → SecSt) : (State.updSec s f).ev = s.ev := rfl
@[simp] theorem State.updSec_recd_eq (s : State) (f : SecSt → SecSt) : (State.updSec s f).recd = s.recd := rfl
@[simp] theorem State.updSec_ptp_eq (s : State) (f : SecSt → SecSt) : (State.updSec s f).ptp = s.ptp := rfl
@[simp] theorem State.updSec_fmon_eq (s : State) (f : SecSt → SecSt) : (State.updSec s f).fmon = s.fmon := rfl
@[simp] theorem State.updSec_scrub_eq (s : State) (f : SecSt → SecSt) : (State.updSec s f).scrub = s.scrub := rfl
@[simp] theorem State.updSec_adcs_eq (s : State) (f : SecSt → SecSt) : (State.updSec s f).adcs = s.adcs := rfl
@[simp] theorem State.updSec_ses_eq (s : State) (f : SecSt → SecSt) : (State.updSec s f).ses = s.ses := rfl
@[simp] theorem State.updSec_nets_eq (s : State) (f : SecSt → SecSt) : (State.updSec s f).nets = s.nets := rfl
@[simp] theorem State.updSec_link_eq (s : State) (f : SecSt → SecSt) : (State.updSec s f).link = s.link := rfl
@[simp] theorem State.updSec_epochAt_eq (s : State) (f : SecSt → SecSt) : (State.updSec s f).epochAt = s.epochAt := rfl
@[simp] theorem State.updSec_prog_eq (s : State) (f : SecSt → SecSt) : (State.updSec s f).prog = s.prog := rfl
@[simp] theorem State.updSec_refitHeld_eq (s : State) (f : SecSt → SecSt) : (State.updSec s f).refitHeld = s.refitHeld := rfl
@[simp] theorem State.updSec_hostLost_eq (s : State) (f : SecSt → SecSt) : (State.updSec s f).hostLost = s.hostLost := rfl
@[simp] theorem State.updSec_sleepRun_eq (s : State) (f : SecSt → SecSt) : (State.updSec s f).sleepRun = s.sleepRun := rfl
@[simp] theorem State.updSec_shdnPrev_eq (s : State) (f : SecSt → SecSt) : (State.updSec s f).shdnPrev = s.shdnPrev := rfl
@[simp] theorem State.updSec_cutPrev_eq (s : State) (f : SecSt → SecSt) : (State.updSec s f).cutPrev = s.cutPrev := rfl
@[simp] theorem State.updSec_service_eq (s : State) (f : SecSt → SecSt) : (State.updSec s f).service = s.service := rfl
@[simp] theorem State.updSec_tims_eq (s : State) (f : SecSt → SecSt) : (State.updSec s f).tims = s.tims := rfl
@[simp] theorem State.updSec_crcs_eq (s : State) (f : SecSt → SecSt) : (State.updSec s f).crcs = s.crcs := rfl
@[simp] theorem State.updSec_latches_eq (s : State) (f : SecSt → SecSt) : (State.updSec s f).latches = s.latches := rfl
@[simp] theorem State.updSec_bus_eq (s : State) (f : SecSt → SecSt) : (State.updSec s f).bus = s.bus := rfl
@[simp] theorem State.updSec_fw_eq (s : State) (f : SecSt → SecSt) : (State.updSec s f).fw = s.fw := rfl
@[simp] theorem State.updSec_aonStart_eq (s : State) (f : SecSt → SecSt) : (State.updSec s f).aonStart = s.aonStart := rfl
@[simp] theorem State.updSec_hly_eq (s : State) (f : SecSt → SecSt) : (State.updSec s f).hly = s.hly := rfl
@[simp] theorem State.updSec_sleepAt_eq (s : State) (f : SecSt → SecSt) : (State.updSec s f).sleepAt = s.sleepAt := rfl
@[simp] theorem State.updSec_sleptFrom_eq (s : State) (f : SecSt → SecSt) : (State.updSec s f).sleptFrom = s.sleptFrom := rfl
@[simp] theorem State.updSec_refit_eq (s : State) (f : SecSt → SecSt) : (State.updSec s f).refit = s.refit := rfl
@[simp] theorem State.updSec_mz_eq (s : State) (f : SecSt → SecSt) : (State.updSec s f).mz = s.mz := rfl
@[simp] theorem State.updSec_pending_eq (s : State) (f : SecSt → SecSt) : (State.updSec s f).pending = s.pending := rfl

@[simp] theorem State.updDie_regs_eq (s : State) (c : Chan) (f : Die → Die) : (State.updDie s c f).regs = s.regs := rfl
@[simp] theorem State.updDie_mem_eq (s : State) (c : Chan) (f : Die → Die) : (State.updDie s c f).mem = s.mem := rfl
@[simp] theorem State.updDie_now_eq (s : State) (c : Chan) (f : Die → Die) : (State.updDie s c f).now = s.now := rfl
@[simp] theorem State.updDie_freeCount_eq (s : State) (c : Chan) (f : Die → Die) : (State.updDie s c f).freeCount = s.freeCount := rfl
@[simp] theorem State.updDie_power_eq (s : State) (c : Chan) (f : Die → Die) : (State.updDie s c f).power = s.power := rfl
@[simp] theorem State.updDie_fc_eq (s : State) (c : Chan) (f : Die → Die) : (State.updDie s c f).fc = s.fc := rfl
@[simp] theorem State.updDie_inp_eq (s : State) (c : Chan) (f : Die → Die) : (State.updDie s c f).inp = s.inp := rfl
@[simp] theorem State.updDie_pairs_eq (s : State) (c : Chan) (f : Die → Die) : (State.updDie s c f).pairs = s.pairs := rfl
@[simp] theorem State.updDie_srcs_eq (s : State) (c : Chan) (f : Die → Die) : (State.updDie s c f).srcs = s.srcs := rfl
@[simp] theorem State.updDie_pulse_eq (s : State) (c : Chan) (f : Die → Die) : (State.updDie s c f).pulse = s.pulse := rfl
@[simp] theorem State.updDie_outs_eq (s : State) (c : Chan) (f : Die → Die) : (State.updDie s c f).outs = s.outs := rfl
@[simp] theorem State.updDie_graph_eq (s : State) (c : Chan) (f : Die → Die) : (State.updDie s c f).graph = s.graph := rfl
@[simp] theorem State.updDie_stop_eq (s : State) (c : Chan) (f : Die → Die) : (State.updDie s c f).stop = s.stop := rfl
@[simp] theorem State.updDie_stay_eq (s : State) (c : Chan) (f : Die → Die) : (State.updDie s c f).stay = s.stay := rfl
@[simp] theorem State.updDie_ae_eq (s : State) (c : Chan) (f : Die → Die) : (State.updDie s c f).ae = s.ae := rfl
@[simp] theorem State.updDie_conds_eq (s : State) (c : Chan) (f : Die → Die) : (State.updDie s c f).conds = s.conds := rfl
@[simp] theorem State.updDie_ev_eq (s : State) (c : Chan) (f : Die → Die) : (State.updDie s c f).ev = s.ev := rfl
@[simp] theorem State.updDie_recd_eq (s : State) (c : Chan) (f : Die → Die) : (State.updDie s c f).recd = s.recd := rfl
@[simp] theorem State.updDie_ptp_eq (s : State) (c : Chan) (f : Die → Die) : (State.updDie s c f).ptp = s.ptp := rfl
@[simp] theorem State.updDie_fmon_eq (s : State) (c : Chan) (f : Die → Die) : (State.updDie s c f).fmon = s.fmon := rfl
@[simp] theorem State.updDie_scrub_eq (s : State) (c : Chan) (f : Die → Die) : (State.updDie s c f).scrub = s.scrub := rfl
@[simp] theorem State.updDie_adcs_eq (s : State) (c : Chan) (f : Die → Die) : (State.updDie s c f).adcs = s.adcs := rfl
@[simp] theorem State.updDie_ses_eq (s : State) (c : Chan) (f : Die → Die) : (State.updDie s c f).ses = s.ses := rfl
@[simp] theorem State.updDie_nets_eq (s : State) (c : Chan) (f : Die → Die) : (State.updDie s c f).nets = s.nets := rfl
@[simp] theorem State.updDie_link_eq (s : State) (c : Chan) (f : Die → Die) : (State.updDie s c f).link = s.link := rfl
@[simp] theorem State.updDie_epochAt_eq (s : State) (c : Chan) (f : Die → Die) : (State.updDie s c f).epochAt = s.epochAt := rfl
@[simp] theorem State.updDie_prog_eq (s : State) (c : Chan) (f : Die → Die) : (State.updDie s c f).prog = s.prog := rfl
@[simp] theorem State.updDie_refitHeld_eq (s : State) (c : Chan) (f : Die → Die) : (State.updDie s c f).refitHeld = s.refitHeld := rfl
@[simp] theorem State.updDie_hostLost_eq (s : State) (c : Chan) (f : Die → Die) : (State.updDie s c f).hostLost = s.hostLost := rfl
@[simp] theorem State.updDie_sleepRun_eq (s : State) (c : Chan) (f : Die → Die) : (State.updDie s c f).sleepRun = s.sleepRun := rfl
@[simp] theorem State.updDie_shdnPrev_eq (s : State) (c : Chan) (f : Die → Die) : (State.updDie s c f).shdnPrev = s.shdnPrev := rfl
@[simp] theorem State.updDie_cutPrev_eq (s : State) (c : Chan) (f : Die → Die) : (State.updDie s c f).cutPrev = s.cutPrev := rfl
@[simp] theorem State.updDie_service_eq (s : State) (c : Chan) (f : Die → Die) : (State.updDie s c f).service = s.service := rfl
@[simp] theorem State.updDie_tims_eq (s : State) (c : Chan) (f : Die → Die) : (State.updDie s c f).tims = s.tims := rfl
@[simp] theorem State.updDie_crcs_eq (s : State) (c : Chan) (f : Die → Die) : (State.updDie s c f).crcs = s.crcs := rfl
@[simp] theorem State.updDie_latches_eq (s : State) (c : Chan) (f : Die → Die) : (State.updDie s c f).latches = s.latches := rfl
@[simp] theorem State.updDie_bus_eq (s : State) (c : Chan) (f : Die → Die) : (State.updDie s c f).bus = s.bus := rfl
@[simp] theorem State.updDie_fw_eq (s : State) (c : Chan) (f : Die → Die) : (State.updDie s c f).fw = s.fw := rfl
@[simp] theorem State.updDie_aonStart_eq (s : State) (c : Chan) (f : Die → Die) : (State.updDie s c f).aonStart = s.aonStart := rfl
@[simp] theorem State.updDie_hly_eq (s : State) (c : Chan) (f : Die → Die) : (State.updDie s c f).hly = s.hly := rfl
@[simp] theorem State.updDie_sec_eq (s : State) (c : Chan) (f : Die → Die) : (State.updDie s c f).sec = s.sec := rfl
@[simp] theorem State.updDie_sleepAt_eq (s : State) (c : Chan) (f : Die → Die) : (State.updDie s c f).sleepAt = s.sleepAt := rfl
@[simp] theorem State.updDie_sleptFrom_eq (s : State) (c : Chan) (f : Die → Die) : (State.updDie s c f).sleptFrom = s.sleptFrom := rfl
@[simp] theorem State.updDie_refit_eq (s : State) (c : Chan) (f : Die → Die) : (State.updDie s c f).refit = s.refit := rfl
@[simp] theorem State.updDie_mz_eq (s : State) (c : Chan) (f : Die → Die) : (State.updDie s c f).mz = s.mz := rfl
@[simp] theorem State.updDie_pending_eq (s : State) (c : Chan) (f : Die → Die) : (State.updDie s c f).pending = s.pending := rfl

@[simp] theorem State.updFc_regs_eq (s : State) (c : Chan) (f : FcSt → FcSt) : (State.updFc s c f).regs = s.regs := rfl
@[simp] theorem State.updFc_mem_eq (s : State) (c : Chan) (f : FcSt → FcSt) : (State.updFc s c f).mem = s.mem := rfl
@[simp] theorem State.updFc_now_eq (s : State) (c : Chan) (f : FcSt → FcSt) : (State.updFc s c f).now = s.now := rfl
@[simp] theorem State.updFc_freeCount_eq (s : State) (c : Chan) (f : FcSt → FcSt) : (State.updFc s c f).freeCount = s.freeCount := rfl
@[simp] theorem State.updFc_power_eq (s : State) (c : Chan) (f : FcSt → FcSt) : (State.updFc s c f).power = s.power := rfl
@[simp] theorem State.updFc_die_eq (s : State) (c : Chan) (f : FcSt → FcSt) : (State.updFc s c f).die = s.die := rfl
@[simp] theorem State.updFc_inp_eq (s : State) (c : Chan) (f : FcSt → FcSt) : (State.updFc s c f).inp = s.inp := rfl
@[simp] theorem State.updFc_pairs_eq (s : State) (c : Chan) (f : FcSt → FcSt) : (State.updFc s c f).pairs = s.pairs := rfl
@[simp] theorem State.updFc_srcs_eq (s : State) (c : Chan) (f : FcSt → FcSt) : (State.updFc s c f).srcs = s.srcs := rfl
@[simp] theorem State.updFc_pulse_eq (s : State) (c : Chan) (f : FcSt → FcSt) : (State.updFc s c f).pulse = s.pulse := rfl
@[simp] theorem State.updFc_outs_eq (s : State) (c : Chan) (f : FcSt → FcSt) : (State.updFc s c f).outs = s.outs := rfl
@[simp] theorem State.updFc_graph_eq (s : State) (c : Chan) (f : FcSt → FcSt) : (State.updFc s c f).graph = s.graph := rfl
@[simp] theorem State.updFc_stop_eq (s : State) (c : Chan) (f : FcSt → FcSt) : (State.updFc s c f).stop = s.stop := rfl
@[simp] theorem State.updFc_stay_eq (s : State) (c : Chan) (f : FcSt → FcSt) : (State.updFc s c f).stay = s.stay := rfl
@[simp] theorem State.updFc_ae_eq (s : State) (c : Chan) (f : FcSt → FcSt) : (State.updFc s c f).ae = s.ae := rfl
@[simp] theorem State.updFc_conds_eq (s : State) (c : Chan) (f : FcSt → FcSt) : (State.updFc s c f).conds = s.conds := rfl
@[simp] theorem State.updFc_ev_eq (s : State) (c : Chan) (f : FcSt → FcSt) : (State.updFc s c f).ev = s.ev := rfl
@[simp] theorem State.updFc_recd_eq (s : State) (c : Chan) (f : FcSt → FcSt) : (State.updFc s c f).recd = s.recd := rfl
@[simp] theorem State.updFc_ptp_eq (s : State) (c : Chan) (f : FcSt → FcSt) : (State.updFc s c f).ptp = s.ptp := rfl
@[simp] theorem State.updFc_fmon_eq (s : State) (c : Chan) (f : FcSt → FcSt) : (State.updFc s c f).fmon = s.fmon := rfl
@[simp] theorem State.updFc_scrub_eq (s : State) (c : Chan) (f : FcSt → FcSt) : (State.updFc s c f).scrub = s.scrub := rfl
@[simp] theorem State.updFc_adcs_eq (s : State) (c : Chan) (f : FcSt → FcSt) : (State.updFc s c f).adcs = s.adcs := rfl
@[simp] theorem State.updFc_ses_eq (s : State) (c : Chan) (f : FcSt → FcSt) : (State.updFc s c f).ses = s.ses := rfl
@[simp] theorem State.updFc_nets_eq (s : State) (c : Chan) (f : FcSt → FcSt) : (State.updFc s c f).nets = s.nets := rfl
@[simp] theorem State.updFc_link_eq (s : State) (c : Chan) (f : FcSt → FcSt) : (State.updFc s c f).link = s.link := rfl
@[simp] theorem State.updFc_epochAt_eq (s : State) (c : Chan) (f : FcSt → FcSt) : (State.updFc s c f).epochAt = s.epochAt := rfl
@[simp] theorem State.updFc_prog_eq (s : State) (c : Chan) (f : FcSt → FcSt) : (State.updFc s c f).prog = s.prog := rfl
@[simp] theorem State.updFc_refitHeld_eq (s : State) (c : Chan) (f : FcSt → FcSt) : (State.updFc s c f).refitHeld = s.refitHeld := rfl
@[simp] theorem State.updFc_hostLost_eq (s : State) (c : Chan) (f : FcSt → FcSt) : (State.updFc s c f).hostLost = s.hostLost := rfl
@[simp] theorem State.updFc_sleepRun_eq (s : State) (c : Chan) (f : FcSt → FcSt) : (State.updFc s c f).sleepRun = s.sleepRun := rfl
@[simp] theorem State.updFc_shdnPrev_eq (s : State) (c : Chan) (f : FcSt → FcSt) : (State.updFc s c f).shdnPrev = s.shdnPrev := rfl
@[simp] theorem State.updFc_cutPrev_eq (s : State) (c : Chan) (f : FcSt → FcSt) : (State.updFc s c f).cutPrev = s.cutPrev := rfl
@[simp] theorem State.updFc_service_eq (s : State) (c : Chan) (f : FcSt → FcSt) : (State.updFc s c f).service = s.service := rfl
@[simp] theorem State.updFc_tims_eq (s : State) (c : Chan) (f : FcSt → FcSt) : (State.updFc s c f).tims = s.tims := rfl
@[simp] theorem State.updFc_crcs_eq (s : State) (c : Chan) (f : FcSt → FcSt) : (State.updFc s c f).crcs = s.crcs := rfl
@[simp] theorem State.updFc_latches_eq (s : State) (c : Chan) (f : FcSt → FcSt) : (State.updFc s c f).latches = s.latches := rfl
@[simp] theorem State.updFc_bus_eq (s : State) (c : Chan) (f : FcSt → FcSt) : (State.updFc s c f).bus = s.bus := rfl
@[simp] theorem State.updFc_fw_eq (s : State) (c : Chan) (f : FcSt → FcSt) : (State.updFc s c f).fw = s.fw := rfl
@[simp] theorem State.updFc_aonStart_eq (s : State) (c : Chan) (f : FcSt → FcSt) : (State.updFc s c f).aonStart = s.aonStart := rfl
@[simp] theorem State.updFc_hly_eq (s : State) (c : Chan) (f : FcSt → FcSt) : (State.updFc s c f).hly = s.hly := rfl
@[simp] theorem State.updFc_sec_eq (s : State) (c : Chan) (f : FcSt → FcSt) : (State.updFc s c f).sec = s.sec := rfl
@[simp] theorem State.updFc_sleepAt_eq (s : State) (c : Chan) (f : FcSt → FcSt) : (State.updFc s c f).sleepAt = s.sleepAt := rfl
@[simp] theorem State.updFc_sleptFrom_eq (s : State) (c : Chan) (f : FcSt → FcSt) : (State.updFc s c f).sleptFrom = s.sleptFrom := rfl
@[simp] theorem State.updFc_refit_eq (s : State) (c : Chan) (f : FcSt → FcSt) : (State.updFc s c f).refit = s.refit := rfl
@[simp] theorem State.updFc_mz_eq (s : State) (c : Chan) (f : FcSt → FcSt) : (State.updFc s c f).mz = s.mz := rfl
@[simp] theorem State.updFc_pending_eq (s : State) (c : Chan) (f : FcSt → FcSt) : (State.updFc s c f).pending = s.pending := rfl

@[simp] theorem State.updAdc_regs_eq (s : State) (k : Nat) (f : AdcSt → AdcSt) : (State.updAdc s k f).regs = s.regs := rfl
@[simp] theorem State.updAdc_mem_eq (s : State) (k : Nat) (f : AdcSt → AdcSt) : (State.updAdc s k f).mem = s.mem := rfl
@[simp] theorem State.updAdc_now_eq (s : State) (k : Nat) (f : AdcSt → AdcSt) : (State.updAdc s k f).now = s.now := rfl
@[simp] theorem State.updAdc_freeCount_eq (s : State) (k : Nat) (f : AdcSt → AdcSt) : (State.updAdc s k f).freeCount = s.freeCount := rfl
@[simp] theorem State.updAdc_power_eq (s : State) (k : Nat) (f : AdcSt → AdcSt) : (State.updAdc s k f).power = s.power := rfl
@[simp] theorem State.updAdc_fc_eq (s : State) (k : Nat) (f : AdcSt → AdcSt) : (State.updAdc s k f).fc = s.fc := rfl
@[simp] theorem State.updAdc_die_eq (s : State) (k : Nat) (f : AdcSt → AdcSt) : (State.updAdc s k f).die = s.die := rfl
@[simp] theorem State.updAdc_inp_eq (s : State) (k : Nat) (f : AdcSt → AdcSt) : (State.updAdc s k f).inp = s.inp := rfl
@[simp] theorem State.updAdc_pairs_eq (s : State) (k : Nat) (f : AdcSt → AdcSt) : (State.updAdc s k f).pairs = s.pairs := rfl
@[simp] theorem State.updAdc_srcs_eq (s : State) (k : Nat) (f : AdcSt → AdcSt) : (State.updAdc s k f).srcs = s.srcs := rfl
@[simp] theorem State.updAdc_pulse_eq (s : State) (k : Nat) (f : AdcSt → AdcSt) : (State.updAdc s k f).pulse = s.pulse := rfl
@[simp] theorem State.updAdc_outs_eq (s : State) (k : Nat) (f : AdcSt → AdcSt) : (State.updAdc s k f).outs = s.outs := rfl
@[simp] theorem State.updAdc_graph_eq (s : State) (k : Nat) (f : AdcSt → AdcSt) : (State.updAdc s k f).graph = s.graph := rfl
@[simp] theorem State.updAdc_stop_eq (s : State) (k : Nat) (f : AdcSt → AdcSt) : (State.updAdc s k f).stop = s.stop := rfl
@[simp] theorem State.updAdc_stay_eq (s : State) (k : Nat) (f : AdcSt → AdcSt) : (State.updAdc s k f).stay = s.stay := rfl
@[simp] theorem State.updAdc_ae_eq (s : State) (k : Nat) (f : AdcSt → AdcSt) : (State.updAdc s k f).ae = s.ae := rfl
@[simp] theorem State.updAdc_conds_eq (s : State) (k : Nat) (f : AdcSt → AdcSt) : (State.updAdc s k f).conds = s.conds := rfl
@[simp] theorem State.updAdc_ev_eq (s : State) (k : Nat) (f : AdcSt → AdcSt) : (State.updAdc s k f).ev = s.ev := rfl
@[simp] theorem State.updAdc_recd_eq (s : State) (k : Nat) (f : AdcSt → AdcSt) : (State.updAdc s k f).recd = s.recd := rfl
@[simp] theorem State.updAdc_ptp_eq (s : State) (k : Nat) (f : AdcSt → AdcSt) : (State.updAdc s k f).ptp = s.ptp := rfl
@[simp] theorem State.updAdc_fmon_eq (s : State) (k : Nat) (f : AdcSt → AdcSt) : (State.updAdc s k f).fmon = s.fmon := rfl
@[simp] theorem State.updAdc_scrub_eq (s : State) (k : Nat) (f : AdcSt → AdcSt) : (State.updAdc s k f).scrub = s.scrub := rfl
@[simp] theorem State.updAdc_ses_eq (s : State) (k : Nat) (f : AdcSt → AdcSt) : (State.updAdc s k f).ses = s.ses := rfl
@[simp] theorem State.updAdc_nets_eq (s : State) (k : Nat) (f : AdcSt → AdcSt) : (State.updAdc s k f).nets = s.nets := rfl
@[simp] theorem State.updAdc_link_eq (s : State) (k : Nat) (f : AdcSt → AdcSt) : (State.updAdc s k f).link = s.link := rfl
@[simp] theorem State.updAdc_epochAt_eq (s : State) (k : Nat) (f : AdcSt → AdcSt) : (State.updAdc s k f).epochAt = s.epochAt := rfl
@[simp] theorem State.updAdc_prog_eq (s : State) (k : Nat) (f : AdcSt → AdcSt) : (State.updAdc s k f).prog = s.prog := rfl
@[simp] theorem State.updAdc_refitHeld_eq (s : State) (k : Nat) (f : AdcSt → AdcSt) : (State.updAdc s k f).refitHeld = s.refitHeld := rfl
@[simp] theorem State.updAdc_hostLost_eq (s : State) (k : Nat) (f : AdcSt → AdcSt) : (State.updAdc s k f).hostLost = s.hostLost := rfl
@[simp] theorem State.updAdc_sleepRun_eq (s : State) (k : Nat) (f : AdcSt → AdcSt) : (State.updAdc s k f).sleepRun = s.sleepRun := rfl
@[simp] theorem State.updAdc_shdnPrev_eq (s : State) (k : Nat) (f : AdcSt → AdcSt) : (State.updAdc s k f).shdnPrev = s.shdnPrev := rfl
@[simp] theorem State.updAdc_cutPrev_eq (s : State) (k : Nat) (f : AdcSt → AdcSt) : (State.updAdc s k f).cutPrev = s.cutPrev := rfl
@[simp] theorem State.updAdc_service_eq (s : State) (k : Nat) (f : AdcSt → AdcSt) : (State.updAdc s k f).service = s.service := rfl
@[simp] theorem State.updAdc_tims_eq (s : State) (k : Nat) (f : AdcSt → AdcSt) : (State.updAdc s k f).tims = s.tims := rfl
@[simp] theorem State.updAdc_crcs_eq (s : State) (k : Nat) (f : AdcSt → AdcSt) : (State.updAdc s k f).crcs = s.crcs := rfl
@[simp] theorem State.updAdc_latches_eq (s : State) (k : Nat) (f : AdcSt → AdcSt) : (State.updAdc s k f).latches = s.latches := rfl
@[simp] theorem State.updAdc_bus_eq (s : State) (k : Nat) (f : AdcSt → AdcSt) : (State.updAdc s k f).bus = s.bus := rfl
@[simp] theorem State.updAdc_fw_eq (s : State) (k : Nat) (f : AdcSt → AdcSt) : (State.updAdc s k f).fw = s.fw := rfl
@[simp] theorem State.updAdc_aonStart_eq (s : State) (k : Nat) (f : AdcSt → AdcSt) : (State.updAdc s k f).aonStart = s.aonStart := rfl
@[simp] theorem State.updAdc_hly_eq (s : State) (k : Nat) (f : AdcSt → AdcSt) : (State.updAdc s k f).hly = s.hly := rfl
@[simp] theorem State.updAdc_sec_eq (s : State) (k : Nat) (f : AdcSt → AdcSt) : (State.updAdc s k f).sec = s.sec := rfl
@[simp] theorem State.updAdc_sleepAt_eq (s : State) (k : Nat) (f : AdcSt → AdcSt) : (State.updAdc s k f).sleepAt = s.sleepAt := rfl
@[simp] theorem State.updAdc_sleptFrom_eq (s : State) (k : Nat) (f : AdcSt → AdcSt) : (State.updAdc s k f).sleptFrom = s.sleptFrom := rfl
@[simp] theorem State.updAdc_refit_eq (s : State) (k : Nat) (f : AdcSt → AdcSt) : (State.updAdc s k f).refit = s.refit := rfl
@[simp] theorem State.updAdc_mz_eq (s : State) (k : Nat) (f : AdcSt → AdcSt) : (State.updAdc s k f).mz = s.mz := rfl
@[simp] theorem State.updAdc_pending_eq (s : State) (k : Nat) (f : AdcSt → AdcSt) : (State.updAdc s k f).pending = s.pending := rfl

@[simp] theorem State.updTim_regs_eq (s : State) (u : Unit3) (f : TimSt → TimSt) : (State.updTim s u f).regs = s.regs := rfl
@[simp] theorem State.updTim_mem_eq (s : State) (u : Unit3) (f : TimSt → TimSt) : (State.updTim s u f).mem = s.mem := rfl
@[simp] theorem State.updTim_now_eq (s : State) (u : Unit3) (f : TimSt → TimSt) : (State.updTim s u f).now = s.now := rfl
@[simp] theorem State.updTim_freeCount_eq (s : State) (u : Unit3) (f : TimSt → TimSt) : (State.updTim s u f).freeCount = s.freeCount := rfl
@[simp] theorem State.updTim_power_eq (s : State) (u : Unit3) (f : TimSt → TimSt) : (State.updTim s u f).power = s.power := rfl
@[simp] theorem State.updTim_fc_eq (s : State) (u : Unit3) (f : TimSt → TimSt) : (State.updTim s u f).fc = s.fc := rfl
@[simp] theorem State.updTim_die_eq (s : State) (u : Unit3) (f : TimSt → TimSt) : (State.updTim s u f).die = s.die := rfl
@[simp] theorem State.updTim_inp_eq (s : State) (u : Unit3) (f : TimSt → TimSt) : (State.updTim s u f).inp = s.inp := rfl
@[simp] theorem State.updTim_pairs_eq (s : State) (u : Unit3) (f : TimSt → TimSt) : (State.updTim s u f).pairs = s.pairs := rfl
@[simp] theorem State.updTim_srcs_eq (s : State) (u : Unit3) (f : TimSt → TimSt) : (State.updTim s u f).srcs = s.srcs := rfl
@[simp] theorem State.updTim_pulse_eq (s : State) (u : Unit3) (f : TimSt → TimSt) : (State.updTim s u f).pulse = s.pulse := rfl
@[simp] theorem State.updTim_outs_eq (s : State) (u : Unit3) (f : TimSt → TimSt) : (State.updTim s u f).outs = s.outs := rfl
@[simp] theorem State.updTim_graph_eq (s : State) (u : Unit3) (f : TimSt → TimSt) : (State.updTim s u f).graph = s.graph := rfl
@[simp] theorem State.updTim_stop_eq (s : State) (u : Unit3) (f : TimSt → TimSt) : (State.updTim s u f).stop = s.stop := rfl
@[simp] theorem State.updTim_stay_eq (s : State) (u : Unit3) (f : TimSt → TimSt) : (State.updTim s u f).stay = s.stay := rfl
@[simp] theorem State.updTim_ae_eq (s : State) (u : Unit3) (f : TimSt → TimSt) : (State.updTim s u f).ae = s.ae := rfl
@[simp] theorem State.updTim_conds_eq (s : State) (u : Unit3) (f : TimSt → TimSt) : (State.updTim s u f).conds = s.conds := rfl
@[simp] theorem State.updTim_ev_eq (s : State) (u : Unit3) (f : TimSt → TimSt) : (State.updTim s u f).ev = s.ev := rfl
@[simp] theorem State.updTim_recd_eq (s : State) (u : Unit3) (f : TimSt → TimSt) : (State.updTim s u f).recd = s.recd := rfl
@[simp] theorem State.updTim_ptp_eq (s : State) (u : Unit3) (f : TimSt → TimSt) : (State.updTim s u f).ptp = s.ptp := rfl
@[simp] theorem State.updTim_fmon_eq (s : State) (u : Unit3) (f : TimSt → TimSt) : (State.updTim s u f).fmon = s.fmon := rfl
@[simp] theorem State.updTim_scrub_eq (s : State) (u : Unit3) (f : TimSt → TimSt) : (State.updTim s u f).scrub = s.scrub := rfl
@[simp] theorem State.updTim_adcs_eq (s : State) (u : Unit3) (f : TimSt → TimSt) : (State.updTim s u f).adcs = s.adcs := rfl
@[simp] theorem State.updTim_ses_eq (s : State) (u : Unit3) (f : TimSt → TimSt) : (State.updTim s u f).ses = s.ses := rfl
@[simp] theorem State.updTim_nets_eq (s : State) (u : Unit3) (f : TimSt → TimSt) : (State.updTim s u f).nets = s.nets := rfl
@[simp] theorem State.updTim_link_eq (s : State) (u : Unit3) (f : TimSt → TimSt) : (State.updTim s u f).link = s.link := rfl
@[simp] theorem State.updTim_epochAt_eq (s : State) (u : Unit3) (f : TimSt → TimSt) : (State.updTim s u f).epochAt = s.epochAt := rfl
@[simp] theorem State.updTim_prog_eq (s : State) (u : Unit3) (f : TimSt → TimSt) : (State.updTim s u f).prog = s.prog := rfl
@[simp] theorem State.updTim_refitHeld_eq (s : State) (u : Unit3) (f : TimSt → TimSt) : (State.updTim s u f).refitHeld = s.refitHeld := rfl
@[simp] theorem State.updTim_hostLost_eq (s : State) (u : Unit3) (f : TimSt → TimSt) : (State.updTim s u f).hostLost = s.hostLost := rfl
@[simp] theorem State.updTim_sleepRun_eq (s : State) (u : Unit3) (f : TimSt → TimSt) : (State.updTim s u f).sleepRun = s.sleepRun := rfl
@[simp] theorem State.updTim_shdnPrev_eq (s : State) (u : Unit3) (f : TimSt → TimSt) : (State.updTim s u f).shdnPrev = s.shdnPrev := rfl
@[simp] theorem State.updTim_cutPrev_eq (s : State) (u : Unit3) (f : TimSt → TimSt) : (State.updTim s u f).cutPrev = s.cutPrev := rfl
@[simp] theorem State.updTim_service_eq (s : State) (u : Unit3) (f : TimSt → TimSt) : (State.updTim s u f).service = s.service := rfl
@[simp] theorem State.updTim_crcs_eq (s : State) (u : Unit3) (f : TimSt → TimSt) : (State.updTim s u f).crcs = s.crcs := rfl
@[simp] theorem State.updTim_latches_eq (s : State) (u : Unit3) (f : TimSt → TimSt) : (State.updTim s u f).latches = s.latches := rfl
@[simp] theorem State.updTim_bus_eq (s : State) (u : Unit3) (f : TimSt → TimSt) : (State.updTim s u f).bus = s.bus := rfl
@[simp] theorem State.updTim_fw_eq (s : State) (u : Unit3) (f : TimSt → TimSt) : (State.updTim s u f).fw = s.fw := rfl
@[simp] theorem State.updTim_aonStart_eq (s : State) (u : Unit3) (f : TimSt → TimSt) : (State.updTim s u f).aonStart = s.aonStart := rfl
@[simp] theorem State.updTim_hly_eq (s : State) (u : Unit3) (f : TimSt → TimSt) : (State.updTim s u f).hly = s.hly := rfl
@[simp] theorem State.updTim_sec_eq (s : State) (u : Unit3) (f : TimSt → TimSt) : (State.updTim s u f).sec = s.sec := rfl
@[simp] theorem State.updTim_sleepAt_eq (s : State) (u : Unit3) (f : TimSt → TimSt) : (State.updTim s u f).sleepAt = s.sleepAt := rfl
@[simp] theorem State.updTim_sleptFrom_eq (s : State) (u : Unit3) (f : TimSt → TimSt) : (State.updTim s u f).sleptFrom = s.sleptFrom := rfl
@[simp] theorem State.updTim_refit_eq (s : State) (u : Unit3) (f : TimSt → TimSt) : (State.updTim s u f).refit = s.refit := rfl
@[simp] theorem State.updTim_mz_eq (s : State) (u : Unit3) (f : TimSt → TimSt) : (State.updTim s u f).mz = s.mz := rfl
@[simp] theorem State.updTim_pending_eq (s : State) (u : Unit3) (f : TimSt → TimSt) : (State.updTim s u f).pending = s.pending := rfl

@[simp] theorem State.updHly_regs_eq (s : State) (f : HlySt → HlySt) : (State.updHly s f).regs = s.regs := rfl
@[simp] theorem State.updHly_mem_eq (s : State) (f : HlySt → HlySt) : (State.updHly s f).mem = s.mem := rfl
@[simp] theorem State.updHly_now_eq (s : State) (f : HlySt → HlySt) : (State.updHly s f).now = s.now := rfl
@[simp] theorem State.updHly_freeCount_eq (s : State) (f : HlySt → HlySt) : (State.updHly s f).freeCount = s.freeCount := rfl
@[simp] theorem State.updHly_power_eq (s : State) (f : HlySt → HlySt) : (State.updHly s f).power = s.power := rfl
@[simp] theorem State.updHly_fc_eq (s : State) (f : HlySt → HlySt) : (State.updHly s f).fc = s.fc := rfl
@[simp] theorem State.updHly_die_eq (s : State) (f : HlySt → HlySt) : (State.updHly s f).die = s.die := rfl
@[simp] theorem State.updHly_inp_eq (s : State) (f : HlySt → HlySt) : (State.updHly s f).inp = s.inp := rfl
@[simp] theorem State.updHly_pairs_eq (s : State) (f : HlySt → HlySt) : (State.updHly s f).pairs = s.pairs := rfl
@[simp] theorem State.updHly_srcs_eq (s : State) (f : HlySt → HlySt) : (State.updHly s f).srcs = s.srcs := rfl
@[simp] theorem State.updHly_pulse_eq (s : State) (f : HlySt → HlySt) : (State.updHly s f).pulse = s.pulse := rfl
@[simp] theorem State.updHly_outs_eq (s : State) (f : HlySt → HlySt) : (State.updHly s f).outs = s.outs := rfl
@[simp] theorem State.updHly_graph_eq (s : State) (f : HlySt → HlySt) : (State.updHly s f).graph = s.graph := rfl
@[simp] theorem State.updHly_stop_eq (s : State) (f : HlySt → HlySt) : (State.updHly s f).stop = s.stop := rfl
@[simp] theorem State.updHly_stay_eq (s : State) (f : HlySt → HlySt) : (State.updHly s f).stay = s.stay := rfl
@[simp] theorem State.updHly_ae_eq (s : State) (f : HlySt → HlySt) : (State.updHly s f).ae = s.ae := rfl
@[simp] theorem State.updHly_conds_eq (s : State) (f : HlySt → HlySt) : (State.updHly s f).conds = s.conds := rfl
@[simp] theorem State.updHly_ev_eq (s : State) (f : HlySt → HlySt) : (State.updHly s f).ev = s.ev := rfl
@[simp] theorem State.updHly_recd_eq (s : State) (f : HlySt → HlySt) : (State.updHly s f).recd = s.recd := rfl
@[simp] theorem State.updHly_ptp_eq (s : State) (f : HlySt → HlySt) : (State.updHly s f).ptp = s.ptp := rfl
@[simp] theorem State.updHly_fmon_eq (s : State) (f : HlySt → HlySt) : (State.updHly s f).fmon = s.fmon := rfl
@[simp] theorem State.updHly_scrub_eq (s : State) (f : HlySt → HlySt) : (State.updHly s f).scrub = s.scrub := rfl
@[simp] theorem State.updHly_adcs_eq (s : State) (f : HlySt → HlySt) : (State.updHly s f).adcs = s.adcs := rfl
@[simp] theorem State.updHly_ses_eq (s : State) (f : HlySt → HlySt) : (State.updHly s f).ses = s.ses := rfl
@[simp] theorem State.updHly_nets_eq (s : State) (f : HlySt → HlySt) : (State.updHly s f).nets = s.nets := rfl
@[simp] theorem State.updHly_link_eq (s : State) (f : HlySt → HlySt) : (State.updHly s f).link = s.link := rfl
@[simp] theorem State.updHly_epochAt_eq (s : State) (f : HlySt → HlySt) : (State.updHly s f).epochAt = s.epochAt := rfl
@[simp] theorem State.updHly_prog_eq (s : State) (f : HlySt → HlySt) : (State.updHly s f).prog = s.prog := rfl
@[simp] theorem State.updHly_refitHeld_eq (s : State) (f : HlySt → HlySt) : (State.updHly s f).refitHeld = s.refitHeld := rfl
@[simp] theorem State.updHly_hostLost_eq (s : State) (f : HlySt → HlySt) : (State.updHly s f).hostLost = s.hostLost := rfl
@[simp] theorem State.updHly_sleepRun_eq (s : State) (f : HlySt → HlySt) : (State.updHly s f).sleepRun = s.sleepRun := rfl
@[simp] theorem State.updHly_shdnPrev_eq (s : State) (f : HlySt → HlySt) : (State.updHly s f).shdnPrev = s.shdnPrev := rfl
@[simp] theorem State.updHly_cutPrev_eq (s : State) (f : HlySt → HlySt) : (State.updHly s f).cutPrev = s.cutPrev := rfl
@[simp] theorem State.updHly_service_eq (s : State) (f : HlySt → HlySt) : (State.updHly s f).service = s.service := rfl
@[simp] theorem State.updHly_tims_eq (s : State) (f : HlySt → HlySt) : (State.updHly s f).tims = s.tims := rfl
@[simp] theorem State.updHly_crcs_eq (s : State) (f : HlySt → HlySt) : (State.updHly s f).crcs = s.crcs := rfl
@[simp] theorem State.updHly_latches_eq (s : State) (f : HlySt → HlySt) : (State.updHly s f).latches = s.latches := rfl
@[simp] theorem State.updHly_bus_eq (s : State) (f : HlySt → HlySt) : (State.updHly s f).bus = s.bus := rfl
@[simp] theorem State.updHly_fw_eq (s : State) (f : HlySt → HlySt) : (State.updHly s f).fw = s.fw := rfl
@[simp] theorem State.updHly_aonStart_eq (s : State) (f : HlySt → HlySt) : (State.updHly s f).aonStart = s.aonStart := rfl
@[simp] theorem State.updHly_sec_eq (s : State) (f : HlySt → HlySt) : (State.updHly s f).sec = s.sec := rfl
@[simp] theorem State.updHly_sleepAt_eq (s : State) (f : HlySt → HlySt) : (State.updHly s f).sleepAt = s.sleepAt := rfl
@[simp] theorem State.updHly_sleptFrom_eq (s : State) (f : HlySt → HlySt) : (State.updHly s f).sleptFrom = s.sleptFrom := rfl
@[simp] theorem State.updHly_refit_eq (s : State) (f : HlySt → HlySt) : (State.updHly s f).refit = s.refit := rfl
@[simp] theorem State.updHly_mz_eq (s : State) (f : HlySt → HlySt) : (State.updHly s f).mz = s.mz := rfl
@[simp] theorem State.updHly_pending_eq (s : State) (f : HlySt → HlySt) : (State.updHly s f).pending = s.pending := rfl

@[simp] theorem State.updMz_regs_eq (s : State) (f : MzSt → MzSt) : (State.updMz s f).regs = s.regs := rfl
@[simp] theorem State.updMz_mem_eq (s : State) (f : MzSt → MzSt) : (State.updMz s f).mem = s.mem := rfl
@[simp] theorem State.updMz_now_eq (s : State) (f : MzSt → MzSt) : (State.updMz s f).now = s.now := rfl
@[simp] theorem State.updMz_freeCount_eq (s : State) (f : MzSt → MzSt) : (State.updMz s f).freeCount = s.freeCount := rfl
@[simp] theorem State.updMz_power_eq (s : State) (f : MzSt → MzSt) : (State.updMz s f).power = s.power := rfl
@[simp] theorem State.updMz_fc_eq (s : State) (f : MzSt → MzSt) : (State.updMz s f).fc = s.fc := rfl
@[simp] theorem State.updMz_die_eq (s : State) (f : MzSt → MzSt) : (State.updMz s f).die = s.die := rfl
@[simp] theorem State.updMz_inp_eq (s : State) (f : MzSt → MzSt) : (State.updMz s f).inp = s.inp := rfl
@[simp] theorem State.updMz_pairs_eq (s : State) (f : MzSt → MzSt) : (State.updMz s f).pairs = s.pairs := rfl
@[simp] theorem State.updMz_srcs_eq (s : State) (f : MzSt → MzSt) : (State.updMz s f).srcs = s.srcs := rfl
@[simp] theorem State.updMz_pulse_eq (s : State) (f : MzSt → MzSt) : (State.updMz s f).pulse = s.pulse := rfl
@[simp] theorem State.updMz_outs_eq (s : State) (f : MzSt → MzSt) : (State.updMz s f).outs = s.outs := rfl
@[simp] theorem State.updMz_graph_eq (s : State) (f : MzSt → MzSt) : (State.updMz s f).graph = s.graph := rfl
@[simp] theorem State.updMz_stop_eq (s : State) (f : MzSt → MzSt) : (State.updMz s f).stop = s.stop := rfl
@[simp] theorem State.updMz_stay_eq (s : State) (f : MzSt → MzSt) : (State.updMz s f).stay = s.stay := rfl
@[simp] theorem State.updMz_ae_eq (s : State) (f : MzSt → MzSt) : (State.updMz s f).ae = s.ae := rfl
@[simp] theorem State.updMz_conds_eq (s : State) (f : MzSt → MzSt) : (State.updMz s f).conds = s.conds := rfl
@[simp] theorem State.updMz_ev_eq (s : State) (f : MzSt → MzSt) : (State.updMz s f).ev = s.ev := rfl
@[simp] theorem State.updMz_recd_eq (s : State) (f : MzSt → MzSt) : (State.updMz s f).recd = s.recd := rfl
@[simp] theorem State.updMz_ptp_eq (s : State) (f : MzSt → MzSt) : (State.updMz s f).ptp = s.ptp := rfl
@[simp] theorem State.updMz_fmon_eq (s : State) (f : MzSt → MzSt) : (State.updMz s f).fmon = s.fmon := rfl
@[simp] theorem State.updMz_scrub_eq (s : State) (f : MzSt → MzSt) : (State.updMz s f).scrub = s.scrub := rfl
@[simp] theorem State.updMz_adcs_eq (s : State) (f : MzSt → MzSt) : (State.updMz s f).adcs = s.adcs := rfl
@[simp] theorem State.updMz_ses_eq (s : State) (f : MzSt → MzSt) : (State.updMz s f).ses = s.ses := rfl
@[simp] theorem State.updMz_nets_eq (s : State) (f : MzSt → MzSt) : (State.updMz s f).nets = s.nets := rfl
@[simp] theorem State.updMz_link_eq (s : State) (f : MzSt → MzSt) : (State.updMz s f).link = s.link := rfl
@[simp] theorem State.updMz_epochAt_eq (s : State) (f : MzSt → MzSt) : (State.updMz s f).epochAt = s.epochAt := rfl
@[simp] theorem State.updMz_prog_eq (s : State) (f : MzSt → MzSt) : (State.updMz s f).prog = s.prog := rfl
@[simp] theorem State.updMz_refitHeld_eq (s : State) (f : MzSt → MzSt) : (State.updMz s f).refitHeld = s.refitHeld := rfl
@[simp] theorem State.updMz_hostLost_eq (s : State) (f : MzSt → MzSt) : (State.updMz s f).hostLost = s.hostLost := rfl
@[simp] theorem State.updMz_sleepRun_eq (s : State) (f : MzSt → MzSt) : (State.updMz s f).sleepRun = s.sleepRun := rfl
@[simp] theorem State.updMz_shdnPrev_eq (s : State) (f : MzSt → MzSt) : (State.updMz s f).shdnPrev = s.shdnPrev := rfl
@[simp] theorem State.updMz_cutPrev_eq (s : State) (f : MzSt → MzSt) : (State.updMz s f).cutPrev = s.cutPrev := rfl
@[simp] theorem State.updMz_service_eq (s : State) (f : MzSt → MzSt) : (State.updMz s f).service = s.service := rfl
@[simp] theorem State.updMz_tims_eq (s : State) (f : MzSt → MzSt) : (State.updMz s f).tims = s.tims := rfl
@[simp] theorem State.updMz_crcs_eq (s : State) (f : MzSt → MzSt) : (State.updMz s f).crcs = s.crcs := rfl
@[simp] theorem State.updMz_latches_eq (s : State) (f : MzSt → MzSt) : (State.updMz s f).latches = s.latches := rfl
@[simp] theorem State.updMz_bus_eq (s : State) (f : MzSt → MzSt) : (State.updMz s f).bus = s.bus := rfl
@[simp] theorem State.updMz_fw_eq (s : State) (f : MzSt → MzSt) : (State.updMz s f).fw = s.fw := rfl
@[simp] theorem State.updMz_aonStart_eq (s : State) (f : MzSt → MzSt) : (State.updMz s f).aonStart = s.aonStart := rfl
@[simp] theorem State.updMz_hly_eq (s : State) (f : MzSt → MzSt) : (State.updMz s f).hly = s.hly := rfl
@[simp] theorem State.updMz_sec_eq (s : State) (f : MzSt → MzSt) : (State.updMz s f).sec = s.sec := rfl
@[simp] theorem State.updMz_sleepAt_eq (s : State) (f : MzSt → MzSt) : (State.updMz s f).sleepAt = s.sleepAt := rfl
@[simp] theorem State.updMz_sleptFrom_eq (s : State) (f : MzSt → MzSt) : (State.updMz s f).sleptFrom = s.sleptFrom := rfl
@[simp] theorem State.updMz_refit_eq (s : State) (f : MzSt → MzSt) : (State.updMz s f).refit = s.refit := rfl
@[simp] theorem State.updMz_pending_eq (s : State) (f : MzSt → MzSt) : (State.updMz s f).pending = s.pending := rfl

@[simp] theorem State.updStay_regs_eq (s : State) (c : Chan) (f : StaySt → StaySt) : (State.updStay s c f).regs = s.regs := rfl
@[simp] theorem State.updStay_mem_eq (s : State) (c : Chan) (f : StaySt → StaySt) : (State.updStay s c f).mem = s.mem := rfl
@[simp] theorem State.updStay_now_eq (s : State) (c : Chan) (f : StaySt → StaySt) : (State.updStay s c f).now = s.now := rfl
@[simp] theorem State.updStay_freeCount_eq (s : State) (c : Chan) (f : StaySt → StaySt) : (State.updStay s c f).freeCount = s.freeCount := rfl
@[simp] theorem State.updStay_power_eq (s : State) (c : Chan) (f : StaySt → StaySt) : (State.updStay s c f).power = s.power := rfl
@[simp] theorem State.updStay_fc_eq (s : State) (c : Chan) (f : StaySt → StaySt) : (State.updStay s c f).fc = s.fc := rfl
@[simp] theorem State.updStay_die_eq (s : State) (c : Chan) (f : StaySt → StaySt) : (State.updStay s c f).die = s.die := rfl
@[simp] theorem State.updStay_inp_eq (s : State) (c : Chan) (f : StaySt → StaySt) : (State.updStay s c f).inp = s.inp := rfl
@[simp] theorem State.updStay_pairs_eq (s : State) (c : Chan) (f : StaySt → StaySt) : (State.updStay s c f).pairs = s.pairs := rfl
@[simp] theorem State.updStay_srcs_eq (s : State) (c : Chan) (f : StaySt → StaySt) : (State.updStay s c f).srcs = s.srcs := rfl
@[simp] theorem State.updStay_pulse_eq (s : State) (c : Chan) (f : StaySt → StaySt) : (State.updStay s c f).pulse = s.pulse := rfl
@[simp] theorem State.updStay_outs_eq (s : State) (c : Chan) (f : StaySt → StaySt) : (State.updStay s c f).outs = s.outs := rfl
@[simp] theorem State.updStay_graph_eq (s : State) (c : Chan) (f : StaySt → StaySt) : (State.updStay s c f).graph = s.graph := rfl
@[simp] theorem State.updStay_stop_eq (s : State) (c : Chan) (f : StaySt → StaySt) : (State.updStay s c f).stop = s.stop := rfl
@[simp] theorem State.updStay_ae_eq (s : State) (c : Chan) (f : StaySt → StaySt) : (State.updStay s c f).ae = s.ae := rfl
@[simp] theorem State.updStay_conds_eq (s : State) (c : Chan) (f : StaySt → StaySt) : (State.updStay s c f).conds = s.conds := rfl
@[simp] theorem State.updStay_ev_eq (s : State) (c : Chan) (f : StaySt → StaySt) : (State.updStay s c f).ev = s.ev := rfl
@[simp] theorem State.updStay_recd_eq (s : State) (c : Chan) (f : StaySt → StaySt) : (State.updStay s c f).recd = s.recd := rfl
@[simp] theorem State.updStay_ptp_eq (s : State) (c : Chan) (f : StaySt → StaySt) : (State.updStay s c f).ptp = s.ptp := rfl
@[simp] theorem State.updStay_fmon_eq (s : State) (c : Chan) (f : StaySt → StaySt) : (State.updStay s c f).fmon = s.fmon := rfl
@[simp] theorem State.updStay_scrub_eq (s : State) (c : Chan) (f : StaySt → StaySt) : (State.updStay s c f).scrub = s.scrub := rfl
@[simp] theorem State.updStay_adcs_eq (s : State) (c : Chan) (f : StaySt → StaySt) : (State.updStay s c f).adcs = s.adcs := rfl
@[simp] theorem State.updStay_ses_eq (s : State) (c : Chan) (f : StaySt → StaySt) : (State.updStay s c f).ses = s.ses := rfl
@[simp] theorem State.updStay_nets_eq (s : State) (c : Chan) (f : StaySt → StaySt) : (State.updStay s c f).nets = s.nets := rfl
@[simp] theorem State.updStay_link_eq (s : State) (c : Chan) (f : StaySt → StaySt) : (State.updStay s c f).link = s.link := rfl
@[simp] theorem State.updStay_epochAt_eq (s : State) (c : Chan) (f : StaySt → StaySt) : (State.updStay s c f).epochAt = s.epochAt := rfl
@[simp] theorem State.updStay_prog_eq (s : State) (c : Chan) (f : StaySt → StaySt) : (State.updStay s c f).prog = s.prog := rfl
@[simp] theorem State.updStay_refitHeld_eq (s : State) (c : Chan) (f : StaySt → StaySt) : (State.updStay s c f).refitHeld = s.refitHeld := rfl
@[simp] theorem State.updStay_hostLost_eq (s : State) (c : Chan) (f : StaySt → StaySt) : (State.updStay s c f).hostLost = s.hostLost := rfl
@[simp] theorem State.updStay_sleepRun_eq (s : State) (c : Chan) (f : StaySt → StaySt) : (State.updStay s c f).sleepRun = s.sleepRun := rfl
@[simp] theorem State.updStay_shdnPrev_eq (s : State) (c : Chan) (f : StaySt → StaySt) : (State.updStay s c f).shdnPrev = s.shdnPrev := rfl
@[simp] theorem State.updStay_cutPrev_eq (s : State) (c : Chan) (f : StaySt → StaySt) : (State.updStay s c f).cutPrev = s.cutPrev := rfl
@[simp] theorem State.updStay_service_eq (s : State) (c : Chan) (f : StaySt → StaySt) : (State.updStay s c f).service = s.service := rfl
@[simp] theorem State.updStay_tims_eq (s : State) (c : Chan) (f : StaySt → StaySt) : (State.updStay s c f).tims = s.tims := rfl
@[simp] theorem State.updStay_crcs_eq (s : State) (c : Chan) (f : StaySt → StaySt) : (State.updStay s c f).crcs = s.crcs := rfl
@[simp] theorem State.updStay_latches_eq (s : State) (c : Chan) (f : StaySt → StaySt) : (State.updStay s c f).latches = s.latches := rfl
@[simp] theorem State.updStay_bus_eq (s : State) (c : Chan) (f : StaySt → StaySt) : (State.updStay s c f).bus = s.bus := rfl
@[simp] theorem State.updStay_fw_eq (s : State) (c : Chan) (f : StaySt → StaySt) : (State.updStay s c f).fw = s.fw := rfl
@[simp] theorem State.updStay_aonStart_eq (s : State) (c : Chan) (f : StaySt → StaySt) : (State.updStay s c f).aonStart = s.aonStart := rfl
@[simp] theorem State.updStay_hly_eq (s : State) (c : Chan) (f : StaySt → StaySt) : (State.updStay s c f).hly = s.hly := rfl
@[simp] theorem State.updStay_sec_eq (s : State) (c : Chan) (f : StaySt → StaySt) : (State.updStay s c f).sec = s.sec := rfl
@[simp] theorem State.updStay_sleepAt_eq (s : State) (c : Chan) (f : StaySt → StaySt) : (State.updStay s c f).sleepAt = s.sleepAt := rfl
@[simp] theorem State.updStay_sleptFrom_eq (s : State) (c : Chan) (f : StaySt → StaySt) : (State.updStay s c f).sleptFrom = s.sleptFrom := rfl
@[simp] theorem State.updStay_refit_eq (s : State) (c : Chan) (f : StaySt → StaySt) : (State.updStay s c f).refit = s.refit := rfl
@[simp] theorem State.updStay_mz_eq (s : State) (c : Chan) (f : StaySt → StaySt) : (State.updStay s c f).mz = s.mz := rfl
@[simp] theorem State.updStay_pending_eq (s : State) (c : Chan) (f : StaySt → StaySt) : (State.updStay s c f).pending = s.pending := rfl

@[simp] theorem State.updPair_regs_eq (s : State) (n : Nat) (f : PairSt → PairSt) : (State.updPair s n f).regs = s.regs := rfl
@[simp] theorem State.updPair_mem_eq (s : State) (n : Nat) (f : PairSt → PairSt) : (State.updPair s n f).mem = s.mem := rfl
@[simp] theorem State.updPair_now_eq (s : State) (n : Nat) (f : PairSt → PairSt) : (State.updPair s n f).now = s.now := rfl
@[simp] theorem State.updPair_freeCount_eq (s : State) (n : Nat) (f : PairSt → PairSt) : (State.updPair s n f).freeCount = s.freeCount := rfl
@[simp] theorem State.updPair_power_eq (s : State) (n : Nat) (f : PairSt → PairSt) : (State.updPair s n f).power = s.power := rfl
@[simp] theorem State.updPair_fc_eq (s : State) (n : Nat) (f : PairSt → PairSt) : (State.updPair s n f).fc = s.fc := rfl
@[simp] theorem State.updPair_die_eq (s : State) (n : Nat) (f : PairSt → PairSt) : (State.updPair s n f).die = s.die := rfl
@[simp] theorem State.updPair_inp_eq (s : State) (n : Nat) (f : PairSt → PairSt) : (State.updPair s n f).inp = s.inp := rfl
@[simp] theorem State.updPair_srcs_eq (s : State) (n : Nat) (f : PairSt → PairSt) : (State.updPair s n f).srcs = s.srcs := rfl
@[simp] theorem State.updPair_pulse_eq (s : State) (n : Nat) (f : PairSt → PairSt) : (State.updPair s n f).pulse = s.pulse := rfl
@[simp] theorem State.updPair_outs_eq (s : State) (n : Nat) (f : PairSt → PairSt) : (State.updPair s n f).outs = s.outs := rfl
@[simp] theorem State.updPair_graph_eq (s : State) (n : Nat) (f : PairSt → PairSt) : (State.updPair s n f).graph = s.graph := rfl
@[simp] theorem State.updPair_stop_eq (s : State) (n : Nat) (f : PairSt → PairSt) : (State.updPair s n f).stop = s.stop := rfl
@[simp] theorem State.updPair_stay_eq (s : State) (n : Nat) (f : PairSt → PairSt) : (State.updPair s n f).stay = s.stay := rfl
@[simp] theorem State.updPair_ae_eq (s : State) (n : Nat) (f : PairSt → PairSt) : (State.updPair s n f).ae = s.ae := rfl
@[simp] theorem State.updPair_conds_eq (s : State) (n : Nat) (f : PairSt → PairSt) : (State.updPair s n f).conds = s.conds := rfl
@[simp] theorem State.updPair_ev_eq (s : State) (n : Nat) (f : PairSt → PairSt) : (State.updPair s n f).ev = s.ev := rfl
@[simp] theorem State.updPair_recd_eq (s : State) (n : Nat) (f : PairSt → PairSt) : (State.updPair s n f).recd = s.recd := rfl
@[simp] theorem State.updPair_ptp_eq (s : State) (n : Nat) (f : PairSt → PairSt) : (State.updPair s n f).ptp = s.ptp := rfl
@[simp] theorem State.updPair_fmon_eq (s : State) (n : Nat) (f : PairSt → PairSt) : (State.updPair s n f).fmon = s.fmon := rfl
@[simp] theorem State.updPair_scrub_eq (s : State) (n : Nat) (f : PairSt → PairSt) : (State.updPair s n f).scrub = s.scrub := rfl
@[simp] theorem State.updPair_adcs_eq (s : State) (n : Nat) (f : PairSt → PairSt) : (State.updPair s n f).adcs = s.adcs := rfl
@[simp] theorem State.updPair_ses_eq (s : State) (n : Nat) (f : PairSt → PairSt) : (State.updPair s n f).ses = s.ses := rfl
@[simp] theorem State.updPair_nets_eq (s : State) (n : Nat) (f : PairSt → PairSt) : (State.updPair s n f).nets = s.nets := rfl
@[simp] theorem State.updPair_link_eq (s : State) (n : Nat) (f : PairSt → PairSt) : (State.updPair s n f).link = s.link := rfl
@[simp] theorem State.updPair_epochAt_eq (s : State) (n : Nat) (f : PairSt → PairSt) : (State.updPair s n f).epochAt = s.epochAt := rfl
@[simp] theorem State.updPair_prog_eq (s : State) (n : Nat) (f : PairSt → PairSt) : (State.updPair s n f).prog = s.prog := rfl
@[simp] theorem State.updPair_refitHeld_eq (s : State) (n : Nat) (f : PairSt → PairSt) : (State.updPair s n f).refitHeld = s.refitHeld := rfl
@[simp] theorem State.updPair_hostLost_eq (s : State) (n : Nat) (f : PairSt → PairSt) : (State.updPair s n f).hostLost = s.hostLost := rfl
@[simp] theorem State.updPair_sleepRun_eq (s : State) (n : Nat) (f : PairSt → PairSt) : (State.updPair s n f).sleepRun = s.sleepRun := rfl
@[simp] theorem State.updPair_shdnPrev_eq (s : State) (n : Nat) (f : PairSt → PairSt) : (State.updPair s n f).shdnPrev = s.shdnPrev := rfl
@[simp] theorem State.updPair_cutPrev_eq (s : State) (n : Nat) (f : PairSt → PairSt) : (State.updPair s n f).cutPrev = s.cutPrev := rfl
@[simp] theorem State.updPair_service_eq (s : State) (n : Nat) (f : PairSt → PairSt) : (State.updPair s n f).service = s.service := rfl
@[simp] theorem State.updPair_tims_eq (s : State) (n : Nat) (f : PairSt → PairSt) : (State.updPair s n f).tims = s.tims := rfl
@[simp] theorem State.updPair_crcs_eq (s : State) (n : Nat) (f : PairSt → PairSt) : (State.updPair s n f).crcs = s.crcs := rfl
@[simp] theorem State.updPair_latches_eq (s : State) (n : Nat) (f : PairSt → PairSt) : (State.updPair s n f).latches = s.latches := rfl
@[simp] theorem State.updPair_bus_eq (s : State) (n : Nat) (f : PairSt → PairSt) : (State.updPair s n f).bus = s.bus := rfl
@[simp] theorem State.updPair_fw_eq (s : State) (n : Nat) (f : PairSt → PairSt) : (State.updPair s n f).fw = s.fw := rfl
@[simp] theorem State.updPair_aonStart_eq (s : State) (n : Nat) (f : PairSt → PairSt) : (State.updPair s n f).aonStart = s.aonStart := rfl
@[simp] theorem State.updPair_hly_eq (s : State) (n : Nat) (f : PairSt → PairSt) : (State.updPair s n f).hly = s.hly := rfl
@[simp] theorem State.updPair_sec_eq (s : State) (n : Nat) (f : PairSt → PairSt) : (State.updPair s n f).sec = s.sec := rfl
@[simp] theorem State.updPair_sleepAt_eq (s : State) (n : Nat) (f : PairSt → PairSt) : (State.updPair s n f).sleepAt = s.sleepAt := rfl
@[simp] theorem State.updPair_sleptFrom_eq (s : State) (n : Nat) (f : PairSt → PairSt) : (State.updPair s n f).sleptFrom = s.sleptFrom := rfl
@[simp] theorem State.updPair_refit_eq (s : State) (n : Nat) (f : PairSt → PairSt) : (State.updPair s n f).refit = s.refit := rfl
@[simp] theorem State.updPair_mz_eq (s : State) (n : Nat) (f : PairSt → PairSt) : (State.updPair s n f).mz = s.mz := rfl
@[simp] theorem State.updPair_pending_eq (s : State) (n : Nat) (f : PairSt → PairSt) : (State.updPair s n f).pending = s.pending := rfl

@[simp] theorem State.updSrc_regs_eq (s : State) (n : Nat) (f : SrcSt → SrcSt) : (State.updSrc s n f).regs = s.regs := rfl
@[simp] theorem State.updSrc_mem_eq (s : State) (n : Nat) (f : SrcSt → SrcSt) : (State.updSrc s n f).mem = s.mem := rfl
@[simp] theorem State.updSrc_now_eq (s : State) (n : Nat) (f : SrcSt → SrcSt) : (State.updSrc s n f).now = s.now := rfl
@[simp] theorem State.updSrc_freeCount_eq (s : State) (n : Nat) (f : SrcSt → SrcSt) : (State.updSrc s n f).freeCount = s.freeCount := rfl
@[simp] theorem State.updSrc_power_eq (s : State) (n : Nat) (f : SrcSt → SrcSt) : (State.updSrc s n f).power = s.power := rfl
@[simp] theorem State.updSrc_fc_eq (s : State) (n : Nat) (f : SrcSt → SrcSt) : (State.updSrc s n f).fc = s.fc := rfl
@[simp] theorem State.updSrc_die_eq (s : State) (n : Nat) (f : SrcSt → SrcSt) : (State.updSrc s n f).die = s.die := rfl
@[simp] theorem State.updSrc_inp_eq (s : State) (n : Nat) (f : SrcSt → SrcSt) : (State.updSrc s n f).inp = s.inp := rfl
@[simp] theorem State.updSrc_pairs_eq (s : State) (n : Nat) (f : SrcSt → SrcSt) : (State.updSrc s n f).pairs = s.pairs := rfl
@[simp] theorem State.updSrc_pulse_eq (s : State) (n : Nat) (f : SrcSt → SrcSt) : (State.updSrc s n f).pulse = s.pulse := rfl
@[simp] theorem State.updSrc_outs_eq (s : State) (n : Nat) (f : SrcSt → SrcSt) : (State.updSrc s n f).outs = s.outs := rfl
@[simp] theorem State.updSrc_graph_eq (s : State) (n : Nat) (f : SrcSt → SrcSt) : (State.updSrc s n f).graph = s.graph := rfl
@[simp] theorem State.updSrc_stop_eq (s : State) (n : Nat) (f : SrcSt → SrcSt) : (State.updSrc s n f).stop = s.stop := rfl
@[simp] theorem State.updSrc_stay_eq (s : State) (n : Nat) (f : SrcSt → SrcSt) : (State.updSrc s n f).stay = s.stay := rfl
@[simp] theorem State.updSrc_ae_eq (s : State) (n : Nat) (f : SrcSt → SrcSt) : (State.updSrc s n f).ae = s.ae := rfl
@[simp] theorem State.updSrc_conds_eq (s : State) (n : Nat) (f : SrcSt → SrcSt) : (State.updSrc s n f).conds = s.conds := rfl
@[simp] theorem State.updSrc_ev_eq (s : State) (n : Nat) (f : SrcSt → SrcSt) : (State.updSrc s n f).ev = s.ev := rfl
@[simp] theorem State.updSrc_recd_eq (s : State) (n : Nat) (f : SrcSt → SrcSt) : (State.updSrc s n f).recd = s.recd := rfl
@[simp] theorem State.updSrc_ptp_eq (s : State) (n : Nat) (f : SrcSt → SrcSt) : (State.updSrc s n f).ptp = s.ptp := rfl
@[simp] theorem State.updSrc_fmon_eq (s : State) (n : Nat) (f : SrcSt → SrcSt) : (State.updSrc s n f).fmon = s.fmon := rfl
@[simp] theorem State.updSrc_scrub_eq (s : State) (n : Nat) (f : SrcSt → SrcSt) : (State.updSrc s n f).scrub = s.scrub := rfl
@[simp] theorem State.updSrc_adcs_eq (s : State) (n : Nat) (f : SrcSt → SrcSt) : (State.updSrc s n f).adcs = s.adcs := rfl
@[simp] theorem State.updSrc_ses_eq (s : State) (n : Nat) (f : SrcSt → SrcSt) : (State.updSrc s n f).ses = s.ses := rfl
@[simp] theorem State.updSrc_nets_eq (s : State) (n : Nat) (f : SrcSt → SrcSt) : (State.updSrc s n f).nets = s.nets := rfl
@[simp] theorem State.updSrc_link_eq (s : State) (n : Nat) (f : SrcSt → SrcSt) : (State.updSrc s n f).link = s.link := rfl
@[simp] theorem State.updSrc_epochAt_eq (s : State) (n : Nat) (f : SrcSt → SrcSt) : (State.updSrc s n f).epochAt = s.epochAt := rfl
@[simp] theorem State.updSrc_prog_eq (s : State) (n : Nat) (f : SrcSt → SrcSt) : (State.updSrc s n f).prog = s.prog := rfl
@[simp] theorem State.updSrc_refitHeld_eq (s : State) (n : Nat) (f : SrcSt → SrcSt) : (State.updSrc s n f).refitHeld = s.refitHeld := rfl
@[simp] theorem State.updSrc_hostLost_eq (s : State) (n : Nat) (f : SrcSt → SrcSt) : (State.updSrc s n f).hostLost = s.hostLost := rfl
@[simp] theorem State.updSrc_sleepRun_eq (s : State) (n : Nat) (f : SrcSt → SrcSt) : (State.updSrc s n f).sleepRun = s.sleepRun := rfl
@[simp] theorem State.updSrc_shdnPrev_eq (s : State) (n : Nat) (f : SrcSt → SrcSt) : (State.updSrc s n f).shdnPrev = s.shdnPrev := rfl
@[simp] theorem State.updSrc_cutPrev_eq (s : State) (n : Nat) (f : SrcSt → SrcSt) : (State.updSrc s n f).cutPrev = s.cutPrev := rfl
@[simp] theorem State.updSrc_service_eq (s : State) (n : Nat) (f : SrcSt → SrcSt) : (State.updSrc s n f).service = s.service := rfl
@[simp] theorem State.updSrc_tims_eq (s : State) (n : Nat) (f : SrcSt → SrcSt) : (State.updSrc s n f).tims = s.tims := rfl
@[simp] theorem State.updSrc_crcs_eq (s : State) (n : Nat) (f : SrcSt → SrcSt) : (State.updSrc s n f).crcs = s.crcs := rfl
@[simp] theorem State.updSrc_latches_eq (s : State) (n : Nat) (f : SrcSt → SrcSt) : (State.updSrc s n f).latches = s.latches := rfl
@[simp] theorem State.updSrc_bus_eq (s : State) (n : Nat) (f : SrcSt → SrcSt) : (State.updSrc s n f).bus = s.bus := rfl
@[simp] theorem State.updSrc_fw_eq (s : State) (n : Nat) (f : SrcSt → SrcSt) : (State.updSrc s n f).fw = s.fw := rfl
@[simp] theorem State.updSrc_aonStart_eq (s : State) (n : Nat) (f : SrcSt → SrcSt) : (State.updSrc s n f).aonStart = s.aonStart := rfl
@[simp] theorem State.updSrc_hly_eq (s : State) (n : Nat) (f : SrcSt → SrcSt) : (State.updSrc s n f).hly = s.hly := rfl
@[simp] theorem State.updSrc_sec_eq (s : State) (n : Nat) (f : SrcSt → SrcSt) : (State.updSrc s n f).sec = s.sec := rfl
@[simp] theorem State.updSrc_sleepAt_eq (s : State) (n : Nat) (f : SrcSt → SrcSt) : (State.updSrc s n f).sleepAt = s.sleepAt := rfl
@[simp] theorem State.updSrc_sleptFrom_eq (s : State) (n : Nat) (f : SrcSt → SrcSt) : (State.updSrc s n f).sleptFrom = s.sleptFrom := rfl
@[simp] theorem State.updSrc_refit_eq (s : State) (n : Nat) (f : SrcSt → SrcSt) : (State.updSrc s n f).refit = s.refit := rfl
@[simp] theorem State.updSrc_mz_eq (s : State) (n : Nat) (f : SrcSt → SrcSt) : (State.updSrc s n f).mz = s.mz := rfl
@[simp] theorem State.updSrc_pending_eq (s : State) (n : Nat) (f : SrcSt → SrcSt) : (State.updSrc s n f).pending = s.pending := rfl

@[simp] theorem State.updOut_regs_eq (s : State) (n : Nat) (f : OutSt → OutSt) : (State.updOut s n f).regs = s.regs := rfl
@[simp] theorem State.updOut_mem_eq (s : State) (n : Nat) (f : OutSt → OutSt) : (State.updOut s n f).mem = s.mem := rfl
@[simp] theorem State.updOut_now_eq (s : State) (n : Nat) (f : OutSt → OutSt) : (State.updOut s n f).now = s.now := rfl
@[simp] theorem State.updOut_freeCount_eq (s : State) (n : Nat) (f : OutSt → OutSt) : (State.updOut s n f).freeCount = s.freeCount := rfl
@[simp] theorem State.updOut_power_eq (s : State) (n : Nat) (f : OutSt → OutSt) : (State.updOut s n f).power = s.power := rfl
@[simp] theorem State.updOut_fc_eq (s : State) (n : Nat) (f : OutSt → OutSt) : (State.updOut s n f).fc = s.fc := rfl
@[simp] theorem State.updOut_die_eq (s : State) (n : Nat) (f : OutSt → OutSt) : (State.updOut s n f).die = s.die := rfl
@[simp] theorem State.updOut_inp_eq (s : State) (n : Nat) (f : OutSt → OutSt) : (State.updOut s n f).inp = s.inp := rfl
@[simp] theorem State.updOut_pairs_eq (s : State) (n : Nat) (f : OutSt → OutSt) : (State.updOut s n f).pairs = s.pairs := rfl
@[simp] theorem State.updOut_srcs_eq (s : State) (n : Nat) (f : OutSt → OutSt) : (State.updOut s n f).srcs = s.srcs := rfl
@[simp] theorem State.updOut_pulse_eq (s : State) (n : Nat) (f : OutSt → OutSt) : (State.updOut s n f).pulse = s.pulse := rfl
@[simp] theorem State.updOut_graph_eq (s : State) (n : Nat) (f : OutSt → OutSt) : (State.updOut s n f).graph = s.graph := rfl
@[simp] theorem State.updOut_stop_eq (s : State) (n : Nat) (f : OutSt → OutSt) : (State.updOut s n f).stop = s.stop := rfl
@[simp] theorem State.updOut_stay_eq (s : State) (n : Nat) (f : OutSt → OutSt) : (State.updOut s n f).stay = s.stay := rfl
@[simp] theorem State.updOut_ae_eq (s : State) (n : Nat) (f : OutSt → OutSt) : (State.updOut s n f).ae = s.ae := rfl
@[simp] theorem State.updOut_conds_eq (s : State) (n : Nat) (f : OutSt → OutSt) : (State.updOut s n f).conds = s.conds := rfl
@[simp] theorem State.updOut_ev_eq (s : State) (n : Nat) (f : OutSt → OutSt) : (State.updOut s n f).ev = s.ev := rfl
@[simp] theorem State.updOut_recd_eq (s : State) (n : Nat) (f : OutSt → OutSt) : (State.updOut s n f).recd = s.recd := rfl
@[simp] theorem State.updOut_ptp_eq (s : State) (n : Nat) (f : OutSt → OutSt) : (State.updOut s n f).ptp = s.ptp := rfl
@[simp] theorem State.updOut_fmon_eq (s : State) (n : Nat) (f : OutSt → OutSt) : (State.updOut s n f).fmon = s.fmon := rfl
@[simp] theorem State.updOut_scrub_eq (s : State) (n : Nat) (f : OutSt → OutSt) : (State.updOut s n f).scrub = s.scrub := rfl
@[simp] theorem State.updOut_adcs_eq (s : State) (n : Nat) (f : OutSt → OutSt) : (State.updOut s n f).adcs = s.adcs := rfl
@[simp] theorem State.updOut_ses_eq (s : State) (n : Nat) (f : OutSt → OutSt) : (State.updOut s n f).ses = s.ses := rfl
@[simp] theorem State.updOut_nets_eq (s : State) (n : Nat) (f : OutSt → OutSt) : (State.updOut s n f).nets = s.nets := rfl
@[simp] theorem State.updOut_link_eq (s : State) (n : Nat) (f : OutSt → OutSt) : (State.updOut s n f).link = s.link := rfl
@[simp] theorem State.updOut_epochAt_eq (s : State) (n : Nat) (f : OutSt → OutSt) : (State.updOut s n f).epochAt = s.epochAt := rfl
@[simp] theorem State.updOut_prog_eq (s : State) (n : Nat) (f : OutSt → OutSt) : (State.updOut s n f).prog = s.prog := rfl
@[simp] theorem State.updOut_refitHeld_eq (s : State) (n : Nat) (f : OutSt → OutSt) : (State.updOut s n f).refitHeld = s.refitHeld := rfl
@[simp] theorem State.updOut_hostLost_eq (s : State) (n : Nat) (f : OutSt → OutSt) : (State.updOut s n f).hostLost = s.hostLost := rfl
@[simp] theorem State.updOut_sleepRun_eq (s : State) (n : Nat) (f : OutSt → OutSt) : (State.updOut s n f).sleepRun = s.sleepRun := rfl
@[simp] theorem State.updOut_shdnPrev_eq (s : State) (n : Nat) (f : OutSt → OutSt) : (State.updOut s n f).shdnPrev = s.shdnPrev := rfl
@[simp] theorem State.updOut_cutPrev_eq (s : State) (n : Nat) (f : OutSt → OutSt) : (State.updOut s n f).cutPrev = s.cutPrev := rfl
@[simp] theorem State.updOut_service_eq (s : State) (n : Nat) (f : OutSt → OutSt) : (State.updOut s n f).service = s.service := rfl
@[simp] theorem State.updOut_tims_eq (s : State) (n : Nat) (f : OutSt → OutSt) : (State.updOut s n f).tims = s.tims := rfl
@[simp] theorem State.updOut_crcs_eq (s : State) (n : Nat) (f : OutSt → OutSt) : (State.updOut s n f).crcs = s.crcs := rfl
@[simp] theorem State.updOut_latches_eq (s : State) (n : Nat) (f : OutSt → OutSt) : (State.updOut s n f).latches = s.latches := rfl
@[simp] theorem State.updOut_bus_eq (s : State) (n : Nat) (f : OutSt → OutSt) : (State.updOut s n f).bus = s.bus := rfl
@[simp] theorem State.updOut_fw_eq (s : State) (n : Nat) (f : OutSt → OutSt) : (State.updOut s n f).fw = s.fw := rfl
@[simp] theorem State.updOut_aonStart_eq (s : State) (n : Nat) (f : OutSt → OutSt) : (State.updOut s n f).aonStart = s.aonStart := rfl
@[simp] theorem State.updOut_hly_eq (s : State) (n : Nat) (f : OutSt → OutSt) : (State.updOut s n f).hly = s.hly := rfl
@[simp] theorem State.updOut_sec_eq (s : State) (n : Nat) (f : OutSt → OutSt) : (State.updOut s n f).sec = s.sec := rfl
@[simp] theorem State.updOut_sleepAt_eq (s : State) (n : Nat) (f : OutSt → OutSt) : (State.updOut s n f).sleepAt = s.sleepAt := rfl
@[simp] theorem State.updOut_sleptFrom_eq (s : State) (n : Nat) (f : OutSt → OutSt) : (State.updOut s n f).sleptFrom = s.sleptFrom := rfl
@[simp] theorem State.updOut_refit_eq (s : State) (n : Nat) (f : OutSt → OutSt) : (State.updOut s n f).refit = s.refit := rfl
@[simp] theorem State.updOut_mz_eq (s : State) (n : Nat) (f : OutSt → OutSt) : (State.updOut s n f).mz = s.mz := rfl
@[simp] theorem State.updOut_pending_eq (s : State) (n : Nat) (f : OutSt → OutSt) : (State.updOut s n f).pending = s.pending := rfl

@[simp] theorem State.updTest_regs_eq (s : State) (key : Nat) (f : TestSt → TestSt) : (State.updTest s key f).regs = s.regs := rfl
@[simp] theorem State.updTest_mem_eq (s : State) (key : Nat) (f : TestSt → TestSt) : (State.updTest s key f).mem = s.mem := rfl
@[simp] theorem State.updTest_now_eq (s : State) (key : Nat) (f : TestSt → TestSt) : (State.updTest s key f).now = s.now := rfl
@[simp] theorem State.updTest_freeCount_eq (s : State) (key : Nat) (f : TestSt → TestSt) : (State.updTest s key f).freeCount = s.freeCount := rfl
@[simp] theorem State.updTest_power_eq (s : State) (key : Nat) (f : TestSt → TestSt) : (State.updTest s key f).power = s.power := rfl
@[simp] theorem State.updTest_fc_eq (s : State) (key : Nat) (f : TestSt → TestSt) : (State.updTest s key f).fc = s.fc := rfl
@[simp] theorem State.updTest_die_eq (s : State) (key : Nat) (f : TestSt → TestSt) : (State.updTest s key f).die = s.die := rfl
@[simp] theorem State.updTest_inp_eq (s : State) (key : Nat) (f : TestSt → TestSt) : (State.updTest s key f).inp = s.inp := rfl
@[simp] theorem State.updTest_pairs_eq (s : State) (key : Nat) (f : TestSt → TestSt) : (State.updTest s key f).pairs = s.pairs := rfl
@[simp] theorem State.updTest_srcs_eq (s : State) (key : Nat) (f : TestSt → TestSt) : (State.updTest s key f).srcs = s.srcs := rfl
@[simp] theorem State.updTest_pulse_eq (s : State) (key : Nat) (f : TestSt → TestSt) : (State.updTest s key f).pulse = s.pulse := rfl
@[simp] theorem State.updTest_graph_eq (s : State) (key : Nat) (f : TestSt → TestSt) : (State.updTest s key f).graph = s.graph := rfl
@[simp] theorem State.updTest_stop_eq (s : State) (key : Nat) (f : TestSt → TestSt) : (State.updTest s key f).stop = s.stop := rfl
@[simp] theorem State.updTest_stay_eq (s : State) (key : Nat) (f : TestSt → TestSt) : (State.updTest s key f).stay = s.stay := rfl
@[simp] theorem State.updTest_ae_eq (s : State) (key : Nat) (f : TestSt → TestSt) : (State.updTest s key f).ae = s.ae := rfl
@[simp] theorem State.updTest_conds_eq (s : State) (key : Nat) (f : TestSt → TestSt) : (State.updTest s key f).conds = s.conds := rfl
@[simp] theorem State.updTest_ev_eq (s : State) (key : Nat) (f : TestSt → TestSt) : (State.updTest s key f).ev = s.ev := rfl
@[simp] theorem State.updTest_recd_eq (s : State) (key : Nat) (f : TestSt → TestSt) : (State.updTest s key f).recd = s.recd := rfl
@[simp] theorem State.updTest_ptp_eq (s : State) (key : Nat) (f : TestSt → TestSt) : (State.updTest s key f).ptp = s.ptp := rfl
@[simp] theorem State.updTest_fmon_eq (s : State) (key : Nat) (f : TestSt → TestSt) : (State.updTest s key f).fmon = s.fmon := rfl
@[simp] theorem State.updTest_scrub_eq (s : State) (key : Nat) (f : TestSt → TestSt) : (State.updTest s key f).scrub = s.scrub := rfl
@[simp] theorem State.updTest_adcs_eq (s : State) (key : Nat) (f : TestSt → TestSt) : (State.updTest s key f).adcs = s.adcs := rfl
@[simp] theorem State.updTest_ses_eq (s : State) (key : Nat) (f : TestSt → TestSt) : (State.updTest s key f).ses = s.ses := rfl
@[simp] theorem State.updTest_nets_eq (s : State) (key : Nat) (f : TestSt → TestSt) : (State.updTest s key f).nets = s.nets := rfl
@[simp] theorem State.updTest_link_eq (s : State) (key : Nat) (f : TestSt → TestSt) : (State.updTest s key f).link = s.link := rfl
@[simp] theorem State.updTest_epochAt_eq (s : State) (key : Nat) (f : TestSt → TestSt) : (State.updTest s key f).epochAt = s.epochAt := rfl
@[simp] theorem State.updTest_prog_eq (s : State) (key : Nat) (f : TestSt → TestSt) : (State.updTest s key f).prog = s.prog := rfl
@[simp] theorem State.updTest_refitHeld_eq (s : State) (key : Nat) (f : TestSt → TestSt) : (State.updTest s key f).refitHeld = s.refitHeld := rfl
@[simp] theorem State.updTest_hostLost_eq (s : State) (key : Nat) (f : TestSt → TestSt) : (State.updTest s key f).hostLost = s.hostLost := rfl
@[simp] theorem State.updTest_sleepRun_eq (s : State) (key : Nat) (f : TestSt → TestSt) : (State.updTest s key f).sleepRun = s.sleepRun := rfl
@[simp] theorem State.updTest_shdnPrev_eq (s : State) (key : Nat) (f : TestSt → TestSt) : (State.updTest s key f).shdnPrev = s.shdnPrev := rfl
@[simp] theorem State.updTest_cutPrev_eq (s : State) (key : Nat) (f : TestSt → TestSt) : (State.updTest s key f).cutPrev = s.cutPrev := rfl
@[simp] theorem State.updTest_service_eq (s : State) (key : Nat) (f : TestSt → TestSt) : (State.updTest s key f).service = s.service := rfl
@[simp] theorem State.updTest_tims_eq (s : State) (key : Nat) (f : TestSt → TestSt) : (State.updTest s key f).tims = s.tims := rfl
@[simp] theorem State.updTest_crcs_eq (s : State) (key : Nat) (f : TestSt → TestSt) : (State.updTest s key f).crcs = s.crcs := rfl
@[simp] theorem State.updTest_latches_eq (s : State) (key : Nat) (f : TestSt → TestSt) : (State.updTest s key f).latches = s.latches := rfl
@[simp] theorem State.updTest_bus_eq (s : State) (key : Nat) (f : TestSt → TestSt) : (State.updTest s key f).bus = s.bus := rfl
@[simp] theorem State.updTest_fw_eq (s : State) (key : Nat) (f : TestSt → TestSt) : (State.updTest s key f).fw = s.fw := rfl
@[simp] theorem State.updTest_aonStart_eq (s : State) (key : Nat) (f : TestSt → TestSt) : (State.updTest s key f).aonStart = s.aonStart := rfl
@[simp] theorem State.updTest_hly_eq (s : State) (key : Nat) (f : TestSt → TestSt) : (State.updTest s key f).hly = s.hly := rfl
@[simp] theorem State.updTest_sec_eq (s : State) (key : Nat) (f : TestSt → TestSt) : (State.updTest s key f).sec = s.sec := rfl
@[simp] theorem State.updTest_sleepAt_eq (s : State) (key : Nat) (f : TestSt → TestSt) : (State.updTest s key f).sleepAt = s.sleepAt := rfl
@[simp] theorem State.updTest_sleptFrom_eq (s : State) (key : Nat) (f : TestSt → TestSt) : (State.updTest s key f).sleptFrom = s.sleptFrom := rfl
@[simp] theorem State.updTest_refit_eq (s : State) (key : Nat) (f : TestSt → TestSt) : (State.updTest s key f).refit = s.refit := rfl
@[simp] theorem State.updTest_mz_eq (s : State) (key : Nat) (f : TestSt → TestSt) : (State.updTest s key f).mz = s.mz := rfl
@[simp] theorem State.updTest_pending_eq (s : State) (key : Nat) (f : TestSt → TestSt) : (State.updTest s key f).pending = s.pending := rfl

@[simp] theorem State.updNet_regs_eq (s : State) (n : Net) (f : NetSt → NetSt) : (State.updNet s n f).regs = s.regs := rfl
@[simp] theorem State.updNet_mem_eq (s : State) (n : Net) (f : NetSt → NetSt) : (State.updNet s n f).mem = s.mem := rfl
@[simp] theorem State.updNet_now_eq (s : State) (n : Net) (f : NetSt → NetSt) : (State.updNet s n f).now = s.now := rfl
@[simp] theorem State.updNet_freeCount_eq (s : State) (n : Net) (f : NetSt → NetSt) : (State.updNet s n f).freeCount = s.freeCount := rfl
@[simp] theorem State.updNet_power_eq (s : State) (n : Net) (f : NetSt → NetSt) : (State.updNet s n f).power = s.power := rfl
@[simp] theorem State.updNet_fc_eq (s : State) (n : Net) (f : NetSt → NetSt) : (State.updNet s n f).fc = s.fc := rfl
@[simp] theorem State.updNet_die_eq (s : State) (n : Net) (f : NetSt → NetSt) : (State.updNet s n f).die = s.die := rfl
@[simp] theorem State.updNet_inp_eq (s : State) (n : Net) (f : NetSt → NetSt) : (State.updNet s n f).inp = s.inp := rfl
@[simp] theorem State.updNet_pairs_eq (s : State) (n : Net) (f : NetSt → NetSt) : (State.updNet s n f).pairs = s.pairs := rfl
@[simp] theorem State.updNet_srcs_eq (s : State) (n : Net) (f : NetSt → NetSt) : (State.updNet s n f).srcs = s.srcs := rfl
@[simp] theorem State.updNet_pulse_eq (s : State) (n : Net) (f : NetSt → NetSt) : (State.updNet s n f).pulse = s.pulse := rfl
@[simp] theorem State.updNet_outs_eq (s : State) (n : Net) (f : NetSt → NetSt) : (State.updNet s n f).outs = s.outs := rfl
@[simp] theorem State.updNet_graph_eq (s : State) (n : Net) (f : NetSt → NetSt) : (State.updNet s n f).graph = s.graph := rfl
@[simp] theorem State.updNet_stop_eq (s : State) (n : Net) (f : NetSt → NetSt) : (State.updNet s n f).stop = s.stop := rfl
@[simp] theorem State.updNet_stay_eq (s : State) (n : Net) (f : NetSt → NetSt) : (State.updNet s n f).stay = s.stay := rfl
@[simp] theorem State.updNet_ae_eq (s : State) (n : Net) (f : NetSt → NetSt) : (State.updNet s n f).ae = s.ae := rfl
@[simp] theorem State.updNet_conds_eq (s : State) (n : Net) (f : NetSt → NetSt) : (State.updNet s n f).conds = s.conds := rfl
@[simp] theorem State.updNet_ev_eq (s : State) (n : Net) (f : NetSt → NetSt) : (State.updNet s n f).ev = s.ev := rfl
@[simp] theorem State.updNet_recd_eq (s : State) (n : Net) (f : NetSt → NetSt) : (State.updNet s n f).recd = s.recd := rfl
@[simp] theorem State.updNet_ptp_eq (s : State) (n : Net) (f : NetSt → NetSt) : (State.updNet s n f).ptp = s.ptp := rfl
@[simp] theorem State.updNet_fmon_eq (s : State) (n : Net) (f : NetSt → NetSt) : (State.updNet s n f).fmon = s.fmon := rfl
@[simp] theorem State.updNet_scrub_eq (s : State) (n : Net) (f : NetSt → NetSt) : (State.updNet s n f).scrub = s.scrub := rfl
@[simp] theorem State.updNet_adcs_eq (s : State) (n : Net) (f : NetSt → NetSt) : (State.updNet s n f).adcs = s.adcs := rfl
@[simp] theorem State.updNet_ses_eq (s : State) (n : Net) (f : NetSt → NetSt) : (State.updNet s n f).ses = s.ses := rfl
@[simp] theorem State.updNet_link_eq (s : State) (n : Net) (f : NetSt → NetSt) : (State.updNet s n f).link = s.link := rfl
@[simp] theorem State.updNet_epochAt_eq (s : State) (n : Net) (f : NetSt → NetSt) : (State.updNet s n f).epochAt = s.epochAt := rfl
@[simp] theorem State.updNet_prog_eq (s : State) (n : Net) (f : NetSt → NetSt) : (State.updNet s n f).prog = s.prog := rfl
@[simp] theorem State.updNet_refitHeld_eq (s : State) (n : Net) (f : NetSt → NetSt) : (State.updNet s n f).refitHeld = s.refitHeld := rfl
@[simp] theorem State.updNet_hostLost_eq (s : State) (n : Net) (f : NetSt → NetSt) : (State.updNet s n f).hostLost = s.hostLost := rfl
@[simp] theorem State.updNet_sleepRun_eq (s : State) (n : Net) (f : NetSt → NetSt) : (State.updNet s n f).sleepRun = s.sleepRun := rfl
@[simp] theorem State.updNet_shdnPrev_eq (s : State) (n : Net) (f : NetSt → NetSt) : (State.updNet s n f).shdnPrev = s.shdnPrev := rfl
@[simp] theorem State.updNet_cutPrev_eq (s : State) (n : Net) (f : NetSt → NetSt) : (State.updNet s n f).cutPrev = s.cutPrev := rfl
@[simp] theorem State.updNet_service_eq (s : State) (n : Net) (f : NetSt → NetSt) : (State.updNet s n f).service = s.service := rfl
@[simp] theorem State.updNet_tims_eq (s : State) (n : Net) (f : NetSt → NetSt) : (State.updNet s n f).tims = s.tims := rfl
@[simp] theorem State.updNet_crcs_eq (s : State) (n : Net) (f : NetSt → NetSt) : (State.updNet s n f).crcs = s.crcs := rfl
@[simp] theorem State.updNet_latches_eq (s : State) (n : Net) (f : NetSt → NetSt) : (State.updNet s n f).latches = s.latches := rfl
@[simp] theorem State.updNet_bus_eq (s : State) (n : Net) (f : NetSt → NetSt) : (State.updNet s n f).bus = s.bus := rfl
@[simp] theorem State.updNet_fw_eq (s : State) (n : Net) (f : NetSt → NetSt) : (State.updNet s n f).fw = s.fw := rfl
@[simp] theorem State.updNet_aonStart_eq (s : State) (n : Net) (f : NetSt → NetSt) : (State.updNet s n f).aonStart = s.aonStart := rfl
@[simp] theorem State.updNet_hly_eq (s : State) (n : Net) (f : NetSt → NetSt) : (State.updNet s n f).hly = s.hly := rfl
@[simp] theorem State.updNet_sec_eq (s : State) (n : Net) (f : NetSt → NetSt) : (State.updNet s n f).sec = s.sec := rfl
@[simp] theorem State.updNet_sleepAt_eq (s : State) (n : Net) (f : NetSt → NetSt) : (State.updNet s n f).sleepAt = s.sleepAt := rfl
@[simp] theorem State.updNet_sleptFrom_eq (s : State) (n : Net) (f : NetSt → NetSt) : (State.updNet s n f).sleptFrom = s.sleptFrom := rfl
@[simp] theorem State.updNet_refit_eq (s : State) (n : Net) (f : NetSt → NetSt) : (State.updNet s n f).refit = s.refit := rfl
@[simp] theorem State.updNet_mz_eq (s : State) (n : Net) (f : NetSt → NetSt) : (State.updNet s n f).mz = s.mz := rfl
@[simp] theorem State.updNet_pending_eq (s : State) (n : Net) (f : NetSt → NetSt) : (State.updNet s n f).pending = s.pending := rfl

@[simp] theorem State.updPtp_regs_eq (s : State) (n : Net) (f : PtpSt → PtpSt) : (State.updPtp s n f).regs = s.regs := rfl
@[simp] theorem State.updPtp_mem_eq (s : State) (n : Net) (f : PtpSt → PtpSt) : (State.updPtp s n f).mem = s.mem := rfl
@[simp] theorem State.updPtp_now_eq (s : State) (n : Net) (f : PtpSt → PtpSt) : (State.updPtp s n f).now = s.now := rfl
@[simp] theorem State.updPtp_freeCount_eq (s : State) (n : Net) (f : PtpSt → PtpSt) : (State.updPtp s n f).freeCount = s.freeCount := rfl
@[simp] theorem State.updPtp_power_eq (s : State) (n : Net) (f : PtpSt → PtpSt) : (State.updPtp s n f).power = s.power := rfl
@[simp] theorem State.updPtp_fc_eq (s : State) (n : Net) (f : PtpSt → PtpSt) : (State.updPtp s n f).fc = s.fc := rfl
@[simp] theorem State.updPtp_die_eq (s : State) (n : Net) (f : PtpSt → PtpSt) : (State.updPtp s n f).die = s.die := rfl
@[simp] theorem State.updPtp_inp_eq (s : State) (n : Net) (f : PtpSt → PtpSt) : (State.updPtp s n f).inp = s.inp := rfl
@[simp] theorem State.updPtp_pairs_eq (s : State) (n : Net) (f : PtpSt → PtpSt) : (State.updPtp s n f).pairs = s.pairs := rfl
@[simp] theorem State.updPtp_srcs_eq (s : State) (n : Net) (f : PtpSt → PtpSt) : (State.updPtp s n f).srcs = s.srcs := rfl
@[simp] theorem State.updPtp_pulse_eq (s : State) (n : Net) (f : PtpSt → PtpSt) : (State.updPtp s n f).pulse = s.pulse := rfl
@[simp] theorem State.updPtp_outs_eq (s : State) (n : Net) (f : PtpSt → PtpSt) : (State.updPtp s n f).outs = s.outs := rfl
@[simp] theorem State.updPtp_graph_eq (s : State) (n : Net) (f : PtpSt → PtpSt) : (State.updPtp s n f).graph = s.graph := rfl
@[simp] theorem State.updPtp_stop_eq (s : State) (n : Net) (f : PtpSt → PtpSt) : (State.updPtp s n f).stop = s.stop := rfl
@[simp] theorem State.updPtp_stay_eq (s : State) (n : Net) (f : PtpSt → PtpSt) : (State.updPtp s n f).stay = s.stay := rfl
@[simp] theorem State.updPtp_ae_eq (s : State) (n : Net) (f : PtpSt → PtpSt) : (State.updPtp s n f).ae = s.ae := rfl
@[simp] theorem State.updPtp_conds_eq (s : State) (n : Net) (f : PtpSt → PtpSt) : (State.updPtp s n f).conds = s.conds := rfl
@[simp] theorem State.updPtp_ev_eq (s : State) (n : Net) (f : PtpSt → PtpSt) : (State.updPtp s n f).ev = s.ev := rfl
@[simp] theorem State.updPtp_recd_eq (s : State) (n : Net) (f : PtpSt → PtpSt) : (State.updPtp s n f).recd = s.recd := rfl
@[simp] theorem State.updPtp_fmon_eq (s : State) (n : Net) (f : PtpSt → PtpSt) : (State.updPtp s n f).fmon = s.fmon := rfl
@[simp] theorem State.updPtp_scrub_eq (s : State) (n : Net) (f : PtpSt → PtpSt) : (State.updPtp s n f).scrub = s.scrub := rfl
@[simp] theorem State.updPtp_adcs_eq (s : State) (n : Net) (f : PtpSt → PtpSt) : (State.updPtp s n f).adcs = s.adcs := rfl
@[simp] theorem State.updPtp_ses_eq (s : State) (n : Net) (f : PtpSt → PtpSt) : (State.updPtp s n f).ses = s.ses := rfl
@[simp] theorem State.updPtp_nets_eq (s : State) (n : Net) (f : PtpSt → PtpSt) : (State.updPtp s n f).nets = s.nets := rfl
@[simp] theorem State.updPtp_link_eq (s : State) (n : Net) (f : PtpSt → PtpSt) : (State.updPtp s n f).link = s.link := rfl
@[simp] theorem State.updPtp_epochAt_eq (s : State) (n : Net) (f : PtpSt → PtpSt) : (State.updPtp s n f).epochAt = s.epochAt := rfl
@[simp] theorem State.updPtp_prog_eq (s : State) (n : Net) (f : PtpSt → PtpSt) : (State.updPtp s n f).prog = s.prog := rfl
@[simp] theorem State.updPtp_refitHeld_eq (s : State) (n : Net) (f : PtpSt → PtpSt) : (State.updPtp s n f).refitHeld = s.refitHeld := rfl
@[simp] theorem State.updPtp_hostLost_eq (s : State) (n : Net) (f : PtpSt → PtpSt) : (State.updPtp s n f).hostLost = s.hostLost := rfl
@[simp] theorem State.updPtp_sleepRun_eq (s : State) (n : Net) (f : PtpSt → PtpSt) : (State.updPtp s n f).sleepRun = s.sleepRun := rfl
@[simp] theorem State.updPtp_shdnPrev_eq (s : State) (n : Net) (f : PtpSt → PtpSt) : (State.updPtp s n f).shdnPrev = s.shdnPrev := rfl
@[simp] theorem State.updPtp_cutPrev_eq (s : State) (n : Net) (f : PtpSt → PtpSt) : (State.updPtp s n f).cutPrev = s.cutPrev := rfl
@[simp] theorem State.updPtp_service_eq (s : State) (n : Net) (f : PtpSt → PtpSt) : (State.updPtp s n f).service = s.service := rfl
@[simp] theorem State.updPtp_tims_eq (s : State) (n : Net) (f : PtpSt → PtpSt) : (State.updPtp s n f).tims = s.tims := rfl
@[simp] theorem State.updPtp_crcs_eq (s : State) (n : Net) (f : PtpSt → PtpSt) : (State.updPtp s n f).crcs = s.crcs := rfl
@[simp] theorem State.updPtp_latches_eq (s : State) (n : Net) (f : PtpSt → PtpSt) : (State.updPtp s n f).latches = s.latches := rfl
@[simp] theorem State.updPtp_bus_eq (s : State) (n : Net) (f : PtpSt → PtpSt) : (State.updPtp s n f).bus = s.bus := rfl
@[simp] theorem State.updPtp_fw_eq (s : State) (n : Net) (f : PtpSt → PtpSt) : (State.updPtp s n f).fw = s.fw := rfl
@[simp] theorem State.updPtp_aonStart_eq (s : State) (n : Net) (f : PtpSt → PtpSt) : (State.updPtp s n f).aonStart = s.aonStart := rfl
@[simp] theorem State.updPtp_hly_eq (s : State) (n : Net) (f : PtpSt → PtpSt) : (State.updPtp s n f).hly = s.hly := rfl
@[simp] theorem State.updPtp_sec_eq (s : State) (n : Net) (f : PtpSt → PtpSt) : (State.updPtp s n f).sec = s.sec := rfl
@[simp] theorem State.updPtp_sleepAt_eq (s : State) (n : Net) (f : PtpSt → PtpSt) : (State.updPtp s n f).sleepAt = s.sleepAt := rfl
@[simp] theorem State.updPtp_sleptFrom_eq (s : State) (n : Net) (f : PtpSt → PtpSt) : (State.updPtp s n f).sleptFrom = s.sleptFrom := rfl
@[simp] theorem State.updPtp_refit_eq (s : State) (n : Net) (f : PtpSt → PtpSt) : (State.updPtp s n f).refit = s.refit := rfl
@[simp] theorem State.updPtp_mz_eq (s : State) (n : Net) (f : PtpSt → PtpSt) : (State.updPtp s n f).mz = s.mz := rfl
@[simp] theorem State.updPtp_pending_eq (s : State) (n : Net) (f : PtpSt → PtpSt) : (State.updPtp s n f).pending = s.pending := rfl

@[simp] theorem State.updSes_regs_eq (s : State) (n : Nat) (f : SesSt → SesSt) : (State.updSes s n f).regs = s.regs := rfl
@[simp] theorem State.updSes_mem_eq (s : State) (n : Nat) (f : SesSt → SesSt) : (State.updSes s n f).mem = s.mem := rfl
@[simp] theorem State.updSes_now_eq (s : State) (n : Nat) (f : SesSt → SesSt) : (State.updSes s n f).now = s.now := rfl
@[simp] theorem State.updSes_freeCount_eq (s : State) (n : Nat) (f : SesSt → SesSt) : (State.updSes s n f).freeCount = s.freeCount := rfl
@[simp] theorem State.updSes_power_eq (s : State) (n : Nat) (f : SesSt → SesSt) : (State.updSes s n f).power = s.power := rfl
@[simp] theorem State.updSes_fc_eq (s : State) (n : Nat) (f : SesSt → SesSt) : (State.updSes s n f).fc = s.fc := rfl
@[simp] theorem State.updSes_die_eq (s : State) (n : Nat) (f : SesSt → SesSt) : (State.updSes s n f).die = s.die := rfl
@[simp] theorem State.updSes_inp_eq (s : State) (n : Nat) (f : SesSt → SesSt) : (State.updSes s n f).inp = s.inp := rfl
@[simp] theorem State.updSes_pairs_eq (s : State) (n : Nat) (f : SesSt → SesSt) : (State.updSes s n f).pairs = s.pairs := rfl
@[simp] theorem State.updSes_srcs_eq (s : State) (n : Nat) (f : SesSt → SesSt) : (State.updSes s n f).srcs = s.srcs := rfl
@[simp] theorem State.updSes_pulse_eq (s : State) (n : Nat) (f : SesSt → SesSt) : (State.updSes s n f).pulse = s.pulse := rfl
@[simp] theorem State.updSes_outs_eq (s : State) (n : Nat) (f : SesSt → SesSt) : (State.updSes s n f).outs = s.outs := rfl
@[simp] theorem State.updSes_graph_eq (s : State) (n : Nat) (f : SesSt → SesSt) : (State.updSes s n f).graph = s.graph := rfl
@[simp] theorem State.updSes_stop_eq (s : State) (n : Nat) (f : SesSt → SesSt) : (State.updSes s n f).stop = s.stop := rfl
@[simp] theorem State.updSes_stay_eq (s : State) (n : Nat) (f : SesSt → SesSt) : (State.updSes s n f).stay = s.stay := rfl
@[simp] theorem State.updSes_ae_eq (s : State) (n : Nat) (f : SesSt → SesSt) : (State.updSes s n f).ae = s.ae := rfl
@[simp] theorem State.updSes_conds_eq (s : State) (n : Nat) (f : SesSt → SesSt) : (State.updSes s n f).conds = s.conds := rfl
@[simp] theorem State.updSes_ev_eq (s : State) (n : Nat) (f : SesSt → SesSt) : (State.updSes s n f).ev = s.ev := rfl
@[simp] theorem State.updSes_recd_eq (s : State) (n : Nat) (f : SesSt → SesSt) : (State.updSes s n f).recd = s.recd := rfl
@[simp] theorem State.updSes_ptp_eq (s : State) (n : Nat) (f : SesSt → SesSt) : (State.updSes s n f).ptp = s.ptp := rfl
@[simp] theorem State.updSes_fmon_eq (s : State) (n : Nat) (f : SesSt → SesSt) : (State.updSes s n f).fmon = s.fmon := rfl
@[simp] theorem State.updSes_scrub_eq (s : State) (n : Nat) (f : SesSt → SesSt) : (State.updSes s n f).scrub = s.scrub := rfl
@[simp] theorem State.updSes_adcs_eq (s : State) (n : Nat) (f : SesSt → SesSt) : (State.updSes s n f).adcs = s.adcs := rfl
@[simp] theorem State.updSes_nets_eq (s : State) (n : Nat) (f : SesSt → SesSt) : (State.updSes s n f).nets = s.nets := rfl
@[simp] theorem State.updSes_link_eq (s : State) (n : Nat) (f : SesSt → SesSt) : (State.updSes s n f).link = s.link := rfl
@[simp] theorem State.updSes_epochAt_eq (s : State) (n : Nat) (f : SesSt → SesSt) : (State.updSes s n f).epochAt = s.epochAt := rfl
@[simp] theorem State.updSes_prog_eq (s : State) (n : Nat) (f : SesSt → SesSt) : (State.updSes s n f).prog = s.prog := rfl
@[simp] theorem State.updSes_refitHeld_eq (s : State) (n : Nat) (f : SesSt → SesSt) : (State.updSes s n f).refitHeld = s.refitHeld := rfl
@[simp] theorem State.updSes_hostLost_eq (s : State) (n : Nat) (f : SesSt → SesSt) : (State.updSes s n f).hostLost = s.hostLost := rfl
@[simp] theorem State.updSes_sleepRun_eq (s : State) (n : Nat) (f : SesSt → SesSt) : (State.updSes s n f).sleepRun = s.sleepRun := rfl
@[simp] theorem State.updSes_shdnPrev_eq (s : State) (n : Nat) (f : SesSt → SesSt) : (State.updSes s n f).shdnPrev = s.shdnPrev := rfl
@[simp] theorem State.updSes_cutPrev_eq (s : State) (n : Nat) (f : SesSt → SesSt) : (State.updSes s n f).cutPrev = s.cutPrev := rfl
@[simp] theorem State.updSes_service_eq (s : State) (n : Nat) (f : SesSt → SesSt) : (State.updSes s n f).service = s.service := rfl
@[simp] theorem State.updSes_tims_eq (s : State) (n : Nat) (f : SesSt → SesSt) : (State.updSes s n f).tims = s.tims := rfl
@[simp] theorem State.updSes_crcs_eq (s : State) (n : Nat) (f : SesSt → SesSt) : (State.updSes s n f).crcs = s.crcs := rfl
@[simp] theorem State.updSes_latches_eq (s : State) (n : Nat) (f : SesSt → SesSt) : (State.updSes s n f).latches = s.latches := rfl
@[simp] theorem State.updSes_bus_eq (s : State) (n : Nat) (f : SesSt → SesSt) : (State.updSes s n f).bus = s.bus := rfl
@[simp] theorem State.updSes_fw_eq (s : State) (n : Nat) (f : SesSt → SesSt) : (State.updSes s n f).fw = s.fw := rfl
@[simp] theorem State.updSes_aonStart_eq (s : State) (n : Nat) (f : SesSt → SesSt) : (State.updSes s n f).aonStart = s.aonStart := rfl
@[simp] theorem State.updSes_hly_eq (s : State) (n : Nat) (f : SesSt → SesSt) : (State.updSes s n f).hly = s.hly := rfl
@[simp] theorem State.updSes_sec_eq (s : State) (n : Nat) (f : SesSt → SesSt) : (State.updSes s n f).sec = s.sec := rfl
@[simp] theorem State.updSes_sleepAt_eq (s : State) (n : Nat) (f : SesSt → SesSt) : (State.updSes s n f).sleepAt = s.sleepAt := rfl
@[simp] theorem State.updSes_sleptFrom_eq (s : State) (n : Nat) (f : SesSt → SesSt) : (State.updSes s n f).sleptFrom = s.sleptFrom := rfl
@[simp] theorem State.updSes_refit_eq (s : State) (n : Nat) (f : SesSt → SesSt) : (State.updSes s n f).refit = s.refit := rfl
@[simp] theorem State.updSes_mz_eq (s : State) (n : Nat) (f : SesSt → SesSt) : (State.updSes s n f).mz = s.mz := rfl
@[simp] theorem State.updSes_pending_eq (s : State) (n : Nat) (f : SesSt → SesSt) : (State.updSes s n f).pending = s.pending := rfl

@[simp] theorem State.updPort_regs_eq (s : State) (p : Port) (f : PortSt → PortSt) : (State.updPort s p f).regs = s.regs := rfl
@[simp] theorem State.updPort_mem_eq (s : State) (p : Port) (f : PortSt → PortSt) : (State.updPort s p f).mem = s.mem := rfl
@[simp] theorem State.updPort_now_eq (s : State) (p : Port) (f : PortSt → PortSt) : (State.updPort s p f).now = s.now := rfl
@[simp] theorem State.updPort_freeCount_eq (s : State) (p : Port) (f : PortSt → PortSt) : (State.updPort s p f).freeCount = s.freeCount := rfl
@[simp] theorem State.updPort_power_eq (s : State) (p : Port) (f : PortSt → PortSt) : (State.updPort s p f).power = s.power := rfl
@[simp] theorem State.updPort_fc_eq (s : State) (p : Port) (f : PortSt → PortSt) : (State.updPort s p f).fc = s.fc := rfl
@[simp] theorem State.updPort_die_eq (s : State) (p : Port) (f : PortSt → PortSt) : (State.updPort s p f).die = s.die := rfl
@[simp] theorem State.updPort_inp_eq (s : State) (p : Port) (f : PortSt → PortSt) : (State.updPort s p f).inp = s.inp := rfl
@[simp] theorem State.updPort_pairs_eq (s : State) (p : Port) (f : PortSt → PortSt) : (State.updPort s p f).pairs = s.pairs := rfl
@[simp] theorem State.updPort_srcs_eq (s : State) (p : Port) (f : PortSt → PortSt) : (State.updPort s p f).srcs = s.srcs := rfl
@[simp] theorem State.updPort_pulse_eq (s : State) (p : Port) (f : PortSt → PortSt) : (State.updPort s p f).pulse = s.pulse := rfl
@[simp] theorem State.updPort_outs_eq (s : State) (p : Port) (f : PortSt → PortSt) : (State.updPort s p f).outs = s.outs := rfl
@[simp] theorem State.updPort_graph_eq (s : State) (p : Port) (f : PortSt → PortSt) : (State.updPort s p f).graph = s.graph := rfl
@[simp] theorem State.updPort_stop_eq (s : State) (p : Port) (f : PortSt → PortSt) : (State.updPort s p f).stop = s.stop := rfl
@[simp] theorem State.updPort_stay_eq (s : State) (p : Port) (f : PortSt → PortSt) : (State.updPort s p f).stay = s.stay := rfl
@[simp] theorem State.updPort_ae_eq (s : State) (p : Port) (f : PortSt → PortSt) : (State.updPort s p f).ae = s.ae := rfl
@[simp] theorem State.updPort_conds_eq (s : State) (p : Port) (f : PortSt → PortSt) : (State.updPort s p f).conds = s.conds := rfl
@[simp] theorem State.updPort_ev_eq (s : State) (p : Port) (f : PortSt → PortSt) : (State.updPort s p f).ev = s.ev := rfl
@[simp] theorem State.updPort_recd_eq (s : State) (p : Port) (f : PortSt → PortSt) : (State.updPort s p f).recd = s.recd := rfl
@[simp] theorem State.updPort_ptp_eq (s : State) (p : Port) (f : PortSt → PortSt) : (State.updPort s p f).ptp = s.ptp := rfl
@[simp] theorem State.updPort_fmon_eq (s : State) (p : Port) (f : PortSt → PortSt) : (State.updPort s p f).fmon = s.fmon := rfl
@[simp] theorem State.updPort_scrub_eq (s : State) (p : Port) (f : PortSt → PortSt) : (State.updPort s p f).scrub = s.scrub := rfl
@[simp] theorem State.updPort_adcs_eq (s : State) (p : Port) (f : PortSt → PortSt) : (State.updPort s p f).adcs = s.adcs := rfl
@[simp] theorem State.updPort_ses_eq (s : State) (p : Port) (f : PortSt → PortSt) : (State.updPort s p f).ses = s.ses := rfl
@[simp] theorem State.updPort_nets_eq (s : State) (p : Port) (f : PortSt → PortSt) : (State.updPort s p f).nets = s.nets := rfl
@[simp] theorem State.updPort_epochAt_eq (s : State) (p : Port) (f : PortSt → PortSt) : (State.updPort s p f).epochAt = s.epochAt := rfl
@[simp] theorem State.updPort_prog_eq (s : State) (p : Port) (f : PortSt → PortSt) : (State.updPort s p f).prog = s.prog := rfl
@[simp] theorem State.updPort_refitHeld_eq (s : State) (p : Port) (f : PortSt → PortSt) : (State.updPort s p f).refitHeld = s.refitHeld := rfl
@[simp] theorem State.updPort_hostLost_eq (s : State) (p : Port) (f : PortSt → PortSt) : (State.updPort s p f).hostLost = s.hostLost := rfl
@[simp] theorem State.updPort_sleepRun_eq (s : State) (p : Port) (f : PortSt → PortSt) : (State.updPort s p f).sleepRun = s.sleepRun := rfl
@[simp] theorem State.updPort_shdnPrev_eq (s : State) (p : Port) (f : PortSt → PortSt) : (State.updPort s p f).shdnPrev = s.shdnPrev := rfl
@[simp] theorem State.updPort_cutPrev_eq (s : State) (p : Port) (f : PortSt → PortSt) : (State.updPort s p f).cutPrev = s.cutPrev := rfl
@[simp] theorem State.updPort_service_eq (s : State) (p : Port) (f : PortSt → PortSt) : (State.updPort s p f).service = s.service := rfl
@[simp] theorem State.updPort_tims_eq (s : State) (p : Port) (f : PortSt → PortSt) : (State.updPort s p f).tims = s.tims := rfl
@[simp] theorem State.updPort_crcs_eq (s : State) (p : Port) (f : PortSt → PortSt) : (State.updPort s p f).crcs = s.crcs := rfl
@[simp] theorem State.updPort_latches_eq (s : State) (p : Port) (f : PortSt → PortSt) : (State.updPort s p f).latches = s.latches := rfl
@[simp] theorem State.updPort_bus_eq (s : State) (p : Port) (f : PortSt → PortSt) : (State.updPort s p f).bus = s.bus := rfl
@[simp] theorem State.updPort_fw_eq (s : State) (p : Port) (f : PortSt → PortSt) : (State.updPort s p f).fw = s.fw := rfl
@[simp] theorem State.updPort_aonStart_eq (s : State) (p : Port) (f : PortSt → PortSt) : (State.updPort s p f).aonStart = s.aonStart := rfl
@[simp] theorem State.updPort_hly_eq (s : State) (p : Port) (f : PortSt → PortSt) : (State.updPort s p f).hly = s.hly := rfl
@[simp] theorem State.updPort_sec_eq (s : State) (p : Port) (f : PortSt → PortSt) : (State.updPort s p f).sec = s.sec := rfl
@[simp] theorem State.updPort_sleepAt_eq (s : State) (p : Port) (f : PortSt → PortSt) : (State.updPort s p f).sleepAt = s.sleepAt := rfl
@[simp] theorem State.updPort_sleptFrom_eq (s : State) (p : Port) (f : PortSt → PortSt) : (State.updPort s p f).sleptFrom = s.sleptFrom := rfl
@[simp] theorem State.updPort_refit_eq (s : State) (p : Port) (f : PortSt → PortSt) : (State.updPort s p f).refit = s.refit := rfl
@[simp] theorem State.updPort_mz_eq (s : State) (p : Port) (f : PortSt → PortSt) : (State.updPort s p f).mz = s.mz := rfl
@[simp] theorem State.updPort_pending_eq (s : State) (p : Port) (f : PortSt → PortSt) : (State.updPort s p f).pending = s.pending := rfl

@[simp] theorem State.updGraph_regs_eq (s : State) (c : Chan) (f : GraphSt → GraphSt) : (State.updGraph s c f).regs = s.regs := rfl
@[simp] theorem State.updGraph_mem_eq (s : State) (c : Chan) (f : GraphSt → GraphSt) : (State.updGraph s c f).mem = s.mem := rfl
@[simp] theorem State.updGraph_now_eq (s : State) (c : Chan) (f : GraphSt → GraphSt) : (State.updGraph s c f).now = s.now := rfl
@[simp] theorem State.updGraph_freeCount_eq (s : State) (c : Chan) (f : GraphSt → GraphSt) : (State.updGraph s c f).freeCount = s.freeCount := rfl
@[simp] theorem State.updGraph_power_eq (s : State) (c : Chan) (f : GraphSt → GraphSt) : (State.updGraph s c f).power = s.power := rfl
@[simp] theorem State.updGraph_fc_eq (s : State) (c : Chan) (f : GraphSt → GraphSt) : (State.updGraph s c f).fc = s.fc := rfl
@[simp] theorem State.updGraph_die_eq (s : State) (c : Chan) (f : GraphSt → GraphSt) : (State.updGraph s c f).die = s.die := rfl
@[simp] theorem State.updGraph_inp_eq (s : State) (c : Chan) (f : GraphSt → GraphSt) : (State.updGraph s c f).inp = s.inp := rfl
@[simp] theorem State.updGraph_pairs_eq (s : State) (c : Chan) (f : GraphSt → GraphSt) : (State.updGraph s c f).pairs = s.pairs := rfl
@[simp] theorem State.updGraph_srcs_eq (s : State) (c : Chan) (f : GraphSt → GraphSt) : (State.updGraph s c f).srcs = s.srcs := rfl
@[simp] theorem State.updGraph_pulse_eq (s : State) (c : Chan) (f : GraphSt → GraphSt) : (State.updGraph s c f).pulse = s.pulse := rfl
@[simp] theorem State.updGraph_outs_eq (s : State) (c : Chan) (f : GraphSt → GraphSt) : (State.updGraph s c f).outs = s.outs := rfl
@[simp] theorem State.updGraph_stop_eq (s : State) (c : Chan) (f : GraphSt → GraphSt) : (State.updGraph s c f).stop = s.stop := rfl
@[simp] theorem State.updGraph_stay_eq (s : State) (c : Chan) (f : GraphSt → GraphSt) : (State.updGraph s c f).stay = s.stay := rfl
@[simp] theorem State.updGraph_ae_eq (s : State) (c : Chan) (f : GraphSt → GraphSt) : (State.updGraph s c f).ae = s.ae := rfl
@[simp] theorem State.updGraph_conds_eq (s : State) (c : Chan) (f : GraphSt → GraphSt) : (State.updGraph s c f).conds = s.conds := rfl
@[simp] theorem State.updGraph_ev_eq (s : State) (c : Chan) (f : GraphSt → GraphSt) : (State.updGraph s c f).ev = s.ev := rfl
@[simp] theorem State.updGraph_recd_eq (s : State) (c : Chan) (f : GraphSt → GraphSt) : (State.updGraph s c f).recd = s.recd := rfl
@[simp] theorem State.updGraph_ptp_eq (s : State) (c : Chan) (f : GraphSt → GraphSt) : (State.updGraph s c f).ptp = s.ptp := rfl
@[simp] theorem State.updGraph_fmon_eq (s : State) (c : Chan) (f : GraphSt → GraphSt) : (State.updGraph s c f).fmon = s.fmon := rfl
@[simp] theorem State.updGraph_scrub_eq (s : State) (c : Chan) (f : GraphSt → GraphSt) : (State.updGraph s c f).scrub = s.scrub := rfl
@[simp] theorem State.updGraph_adcs_eq (s : State) (c : Chan) (f : GraphSt → GraphSt) : (State.updGraph s c f).adcs = s.adcs := rfl
@[simp] theorem State.updGraph_ses_eq (s : State) (c : Chan) (f : GraphSt → GraphSt) : (State.updGraph s c f).ses = s.ses := rfl
@[simp] theorem State.updGraph_nets_eq (s : State) (c : Chan) (f : GraphSt → GraphSt) : (State.updGraph s c f).nets = s.nets := rfl
@[simp] theorem State.updGraph_link_eq (s : State) (c : Chan) (f : GraphSt → GraphSt) : (State.updGraph s c f).link = s.link := rfl
@[simp] theorem State.updGraph_epochAt_eq (s : State) (c : Chan) (f : GraphSt → GraphSt) : (State.updGraph s c f).epochAt = s.epochAt := rfl
@[simp] theorem State.updGraph_prog_eq (s : State) (c : Chan) (f : GraphSt → GraphSt) : (State.updGraph s c f).prog = s.prog := rfl
@[simp] theorem State.updGraph_refitHeld_eq (s : State) (c : Chan) (f : GraphSt → GraphSt) : (State.updGraph s c f).refitHeld = s.refitHeld := rfl
@[simp] theorem State.updGraph_hostLost_eq (s : State) (c : Chan) (f : GraphSt → GraphSt) : (State.updGraph s c f).hostLost = s.hostLost := rfl
@[simp] theorem State.updGraph_sleepRun_eq (s : State) (c : Chan) (f : GraphSt → GraphSt) : (State.updGraph s c f).sleepRun = s.sleepRun := rfl
@[simp] theorem State.updGraph_shdnPrev_eq (s : State) (c : Chan) (f : GraphSt → GraphSt) : (State.updGraph s c f).shdnPrev = s.shdnPrev := rfl
@[simp] theorem State.updGraph_cutPrev_eq (s : State) (c : Chan) (f : GraphSt → GraphSt) : (State.updGraph s c f).cutPrev = s.cutPrev := rfl
@[simp] theorem State.updGraph_service_eq (s : State) (c : Chan) (f : GraphSt → GraphSt) : (State.updGraph s c f).service = s.service := rfl
@[simp] theorem State.updGraph_tims_eq (s : State) (c : Chan) (f : GraphSt → GraphSt) : (State.updGraph s c f).tims = s.tims := rfl
@[simp] theorem State.updGraph_crcs_eq (s : State) (c : Chan) (f : GraphSt → GraphSt) : (State.updGraph s c f).crcs = s.crcs := rfl
@[simp] theorem State.updGraph_latches_eq (s : State) (c : Chan) (f : GraphSt → GraphSt) : (State.updGraph s c f).latches = s.latches := rfl
@[simp] theorem State.updGraph_bus_eq (s : State) (c : Chan) (f : GraphSt → GraphSt) : (State.updGraph s c f).bus = s.bus := rfl
@[simp] theorem State.updGraph_fw_eq (s : State) (c : Chan) (f : GraphSt → GraphSt) : (State.updGraph s c f).fw = s.fw := rfl
@[simp] theorem State.updGraph_aonStart_eq (s : State) (c : Chan) (f : GraphSt → GraphSt) : (State.updGraph s c f).aonStart = s.aonStart := rfl
@[simp] theorem State.updGraph_hly_eq (s : State) (c : Chan) (f : GraphSt → GraphSt) : (State.updGraph s c f).hly = s.hly := rfl
@[simp] theorem State.updGraph_sec_eq (s : State) (c : Chan) (f : GraphSt → GraphSt) : (State.updGraph s c f).sec = s.sec := rfl
@[simp] theorem State.updGraph_sleepAt_eq (s : State) (c : Chan) (f : GraphSt → GraphSt) : (State.updGraph s c f).sleepAt = s.sleepAt := rfl
@[simp] theorem State.updGraph_sleptFrom_eq (s : State) (c : Chan) (f : GraphSt → GraphSt) : (State.updGraph s c f).sleptFrom = s.sleptFrom := rfl
@[simp] theorem State.updGraph_refit_eq (s : State) (c : Chan) (f : GraphSt → GraphSt) : (State.updGraph s c f).refit = s.refit := rfl
@[simp] theorem State.updGraph_mz_eq (s : State) (c : Chan) (f : GraphSt → GraphSt) : (State.updGraph s c f).mz = s.mz := rfl
@[simp] theorem State.updGraph_pending_eq (s : State) (c : Chan) (f : GraphSt → GraphSt) : (State.updGraph s c f).pending = s.pending := rfl

@[simp] theorem State.updStop_regs_eq (s : State) (c : Chan) (f : StopSt → StopSt) : (State.updStop s c f).regs = s.regs := rfl
@[simp] theorem State.updStop_mem_eq (s : State) (c : Chan) (f : StopSt → StopSt) : (State.updStop s c f).mem = s.mem := rfl
@[simp] theorem State.updStop_now_eq (s : State) (c : Chan) (f : StopSt → StopSt) : (State.updStop s c f).now = s.now := rfl
@[simp] theorem State.updStop_freeCount_eq (s : State) (c : Chan) (f : StopSt → StopSt) : (State.updStop s c f).freeCount = s.freeCount := rfl
@[simp] theorem State.updStop_power_eq (s : State) (c : Chan) (f : StopSt → StopSt) : (State.updStop s c f).power = s.power := rfl
@[simp] theorem State.updStop_fc_eq (s : State) (c : Chan) (f : StopSt → StopSt) : (State.updStop s c f).fc = s.fc := rfl
@[simp] theorem State.updStop_die_eq (s : State) (c : Chan) (f : StopSt → StopSt) : (State.updStop s c f).die = s.die := rfl
@[simp] theorem State.updStop_inp_eq (s : State) (c : Chan) (f : StopSt → StopSt) : (State.updStop s c f).inp = s.inp := rfl
@[simp] theorem State.updStop_pairs_eq (s : State) (c : Chan) (f : StopSt → StopSt) : (State.updStop s c f).pairs = s.pairs := rfl
@[simp] theorem State.updStop_srcs_eq (s : State) (c : Chan) (f : StopSt → StopSt) : (State.updStop s c f).srcs = s.srcs := rfl
@[simp] theorem State.updStop_pulse_eq (s : State) (c : Chan) (f : StopSt → StopSt) : (State.updStop s c f).pulse = s.pulse := rfl
@[simp] theorem State.updStop_outs_eq (s : State) (c : Chan) (f : StopSt → StopSt) : (State.updStop s c f).outs = s.outs := rfl
@[simp] theorem State.updStop_graph_eq (s : State) (c : Chan) (f : StopSt → StopSt) : (State.updStop s c f).graph = s.graph := rfl
@[simp] theorem State.updStop_stay_eq (s : State) (c : Chan) (f : StopSt → StopSt) : (State.updStop s c f).stay = s.stay := rfl
@[simp] theorem State.updStop_ae_eq (s : State) (c : Chan) (f : StopSt → StopSt) : (State.updStop s c f).ae = s.ae := rfl
@[simp] theorem State.updStop_conds_eq (s : State) (c : Chan) (f : StopSt → StopSt) : (State.updStop s c f).conds = s.conds := rfl
@[simp] theorem State.updStop_ev_eq (s : State) (c : Chan) (f : StopSt → StopSt) : (State.updStop s c f).ev = s.ev := rfl
@[simp] theorem State.updStop_recd_eq (s : State) (c : Chan) (f : StopSt → StopSt) : (State.updStop s c f).recd = s.recd := rfl
@[simp] theorem State.updStop_ptp_eq (s : State) (c : Chan) (f : StopSt → StopSt) : (State.updStop s c f).ptp = s.ptp := rfl
@[simp] theorem State.updStop_fmon_eq (s : State) (c : Chan) (f : StopSt → StopSt) : (State.updStop s c f).fmon = s.fmon := rfl
@[simp] theorem State.updStop_scrub_eq (s : State) (c : Chan) (f : StopSt → StopSt) : (State.updStop s c f).scrub = s.scrub := rfl
@[simp] theorem State.updStop_adcs_eq (s : State) (c : Chan) (f : StopSt → StopSt) : (State.updStop s c f).adcs = s.adcs := rfl
@[simp] theorem State.updStop_ses_eq (s : State) (c : Chan) (f : StopSt → StopSt) : (State.updStop s c f).ses = s.ses := rfl
@[simp] theorem State.updStop_nets_eq (s : State) (c : Chan) (f : StopSt → StopSt) : (State.updStop s c f).nets = s.nets := rfl
@[simp] theorem State.updStop_link_eq (s : State) (c : Chan) (f : StopSt → StopSt) : (State.updStop s c f).link = s.link := rfl
@[simp] theorem State.updStop_epochAt_eq (s : State) (c : Chan) (f : StopSt → StopSt) : (State.updStop s c f).epochAt = s.epochAt := rfl
@[simp] theorem State.updStop_prog_eq (s : State) (c : Chan) (f : StopSt → StopSt) : (State.updStop s c f).prog = s.prog := rfl
@[simp] theorem State.updStop_refitHeld_eq (s : State) (c : Chan) (f : StopSt → StopSt) : (State.updStop s c f).refitHeld = s.refitHeld := rfl
@[simp] theorem State.updStop_hostLost_eq (s : State) (c : Chan) (f : StopSt → StopSt) : (State.updStop s c f).hostLost = s.hostLost := rfl
@[simp] theorem State.updStop_sleepRun_eq (s : State) (c : Chan) (f : StopSt → StopSt) : (State.updStop s c f).sleepRun = s.sleepRun := rfl
@[simp] theorem State.updStop_shdnPrev_eq (s : State) (c : Chan) (f : StopSt → StopSt) : (State.updStop s c f).shdnPrev = s.shdnPrev := rfl
@[simp] theorem State.updStop_cutPrev_eq (s : State) (c : Chan) (f : StopSt → StopSt) : (State.updStop s c f).cutPrev = s.cutPrev := rfl
@[simp] theorem State.updStop_service_eq (s : State) (c : Chan) (f : StopSt → StopSt) : (State.updStop s c f).service = s.service := rfl
@[simp] theorem State.updStop_tims_eq (s : State) (c : Chan) (f : StopSt → StopSt) : (State.updStop s c f).tims = s.tims := rfl
@[simp] theorem State.updStop_crcs_eq (s : State) (c : Chan) (f : StopSt → StopSt) : (State.updStop s c f).crcs = s.crcs := rfl
@[simp] theorem State.updStop_latches_eq (s : State) (c : Chan) (f : StopSt → StopSt) : (State.updStop s c f).latches = s.latches := rfl
@[simp] theorem State.updStop_bus_eq (s : State) (c : Chan) (f : StopSt → StopSt) : (State.updStop s c f).bus = s.bus := rfl
@[simp] theorem State.updStop_fw_eq (s : State) (c : Chan) (f : StopSt → StopSt) : (State.updStop s c f).fw = s.fw := rfl
@[simp] theorem State.updStop_aonStart_eq (s : State) (c : Chan) (f : StopSt → StopSt) : (State.updStop s c f).aonStart = s.aonStart := rfl
@[simp] theorem State.updStop_hly_eq (s : State) (c : Chan) (f : StopSt → StopSt) : (State.updStop s c f).hly = s.hly := rfl
@[simp] theorem State.updStop_sec_eq (s : State) (c : Chan) (f : StopSt → StopSt) : (State.updStop s c f).sec = s.sec := rfl
@[simp] theorem State.updStop_sleepAt_eq (s : State) (c : Chan) (f : StopSt → StopSt) : (State.updStop s c f).sleepAt = s.sleepAt := rfl
@[simp] theorem State.updStop_sleptFrom_eq (s : State) (c : Chan) (f : StopSt → StopSt) : (State.updStop s c f).sleptFrom = s.sleptFrom := rfl
@[simp] theorem State.updStop_refit_eq (s : State) (c : Chan) (f : StopSt → StopSt) : (State.updStop s c f).refit = s.refit := rfl
@[simp] theorem State.updStop_mz_eq (s : State) (c : Chan) (f : StopSt → StopSt) : (State.updStop s c f).mz = s.mz := rfl
@[simp] theorem State.updStop_pending_eq (s : State) (c : Chan) (f : StopSt → StopSt) : (State.updStop s c f).pending = s.pending := rfl

@[simp] theorem State.updAe_regs_eq (s : State) (c : Chan) (f : AeSt → AeSt) : (State.updAe s c f).regs = s.regs := rfl
@[simp] theorem State.updAe_mem_eq (s : State) (c : Chan) (f : AeSt → AeSt) : (State.updAe s c f).mem = s.mem := rfl
@[simp] theorem State.updAe_now_eq (s : State) (c : Chan) (f : AeSt → AeSt) : (State.updAe s c f).now = s.now := rfl
@[simp] theorem State.updAe_freeCount_eq (s : State) (c : Chan) (f : AeSt → AeSt) : (State.updAe s c f).freeCount = s.freeCount := rfl
@[simp] theorem State.updAe_power_eq (s : State) (c : Chan) (f : AeSt → AeSt) : (State.updAe s c f).power = s.power := rfl
@[simp] theorem State.updAe_fc_eq (s : State) (c : Chan) (f : AeSt → AeSt) : (State.updAe s c f).fc = s.fc := rfl
@[simp] theorem State.updAe_die_eq (s : State) (c : Chan) (f : AeSt → AeSt) : (State.updAe s c f).die = s.die := rfl
@[simp] theorem State.updAe_inp_eq (s : State) (c : Chan) (f : AeSt → AeSt) : (State.updAe s c f).inp = s.inp := rfl
@[simp] theorem State.updAe_pairs_eq (s : State) (c : Chan) (f : AeSt → AeSt) : (State.updAe s c f).pairs = s.pairs := rfl
@[simp] theorem State.updAe_srcs_eq (s : State) (c : Chan) (f : AeSt → AeSt) : (State.updAe s c f).srcs = s.srcs := rfl
@[simp] theorem State.updAe_pulse_eq (s : State) (c : Chan) (f : AeSt → AeSt) : (State.updAe s c f).pulse = s.pulse := rfl
@[simp] theorem State.updAe_outs_eq (s : State) (c : Chan) (f : AeSt → AeSt) : (State.updAe s c f).outs = s.outs := rfl
@[simp] theorem State.updAe_graph_eq (s : State) (c : Chan) (f : AeSt → AeSt) : (State.updAe s c f).graph = s.graph := rfl
@[simp] theorem State.updAe_stop_eq (s : State) (c : Chan) (f : AeSt → AeSt) : (State.updAe s c f).stop = s.stop := rfl
@[simp] theorem State.updAe_stay_eq (s : State) (c : Chan) (f : AeSt → AeSt) : (State.updAe s c f).stay = s.stay := rfl
@[simp] theorem State.updAe_conds_eq (s : State) (c : Chan) (f : AeSt → AeSt) : (State.updAe s c f).conds = s.conds := rfl
@[simp] theorem State.updAe_ev_eq (s : State) (c : Chan) (f : AeSt → AeSt) : (State.updAe s c f).ev = s.ev := rfl
@[simp] theorem State.updAe_recd_eq (s : State) (c : Chan) (f : AeSt → AeSt) : (State.updAe s c f).recd = s.recd := rfl
@[simp] theorem State.updAe_ptp_eq (s : State) (c : Chan) (f : AeSt → AeSt) : (State.updAe s c f).ptp = s.ptp := rfl
@[simp] theorem State.updAe_fmon_eq (s : State) (c : Chan) (f : AeSt → AeSt) : (State.updAe s c f).fmon = s.fmon := rfl
@[simp] theorem State.updAe_scrub_eq (s : State) (c : Chan) (f : AeSt → AeSt) : (State.updAe s c f).scrub = s.scrub := rfl
@[simp] theorem State.updAe_adcs_eq (s : State) (c : Chan) (f : AeSt → AeSt) : (State.updAe s c f).adcs = s.adcs := rfl
@[simp] theorem State.updAe_ses_eq (s : State) (c : Chan) (f : AeSt → AeSt) : (State.updAe s c f).ses = s.ses := rfl
@[simp] theorem State.updAe_nets_eq (s : State) (c : Chan) (f : AeSt → AeSt) : (State.updAe s c f).nets = s.nets := rfl
@[simp] theorem State.updAe_link_eq (s : State) (c : Chan) (f : AeSt → AeSt) : (State.updAe s c f).link = s.link := rfl
@[simp] theorem State.updAe_epochAt_eq (s : State) (c : Chan) (f : AeSt → AeSt) : (State.updAe s c f).epochAt = s.epochAt := rfl
@[simp] theorem State.updAe_prog_eq (s : State) (c : Chan) (f : AeSt → AeSt) : (State.updAe s c f).prog = s.prog := rfl
@[simp] theorem State.updAe_refitHeld_eq (s : State) (c : Chan) (f : AeSt → AeSt) : (State.updAe s c f).refitHeld = s.refitHeld := rfl
@[simp] theorem State.updAe_hostLost_eq (s : State) (c : Chan) (f : AeSt → AeSt) : (State.updAe s c f).hostLost = s.hostLost := rfl
@[simp] theorem State.updAe_sleepRun_eq (s : State) (c : Chan) (f : AeSt → AeSt) : (State.updAe s c f).sleepRun = s.sleepRun := rfl
@[simp] theorem State.updAe_shdnPrev_eq (s : State) (c : Chan) (f : AeSt → AeSt) : (State.updAe s c f).shdnPrev = s.shdnPrev := rfl
@[simp] theorem State.updAe_cutPrev_eq (s : State) (c : Chan) (f : AeSt → AeSt) : (State.updAe s c f).cutPrev = s.cutPrev := rfl
@[simp] theorem State.updAe_service_eq (s : State) (c : Chan) (f : AeSt → AeSt) : (State.updAe s c f).service = s.service := rfl
@[simp] theorem State.updAe_tims_eq (s : State) (c : Chan) (f : AeSt → AeSt) : (State.updAe s c f).tims = s.tims := rfl
@[simp] theorem State.updAe_crcs_eq (s : State) (c : Chan) (f : AeSt → AeSt) : (State.updAe s c f).crcs = s.crcs := rfl
@[simp] theorem State.updAe_latches_eq (s : State) (c : Chan) (f : AeSt → AeSt) : (State.updAe s c f).latches = s.latches := rfl
@[simp] theorem State.updAe_bus_eq (s : State) (c : Chan) (f : AeSt → AeSt) : (State.updAe s c f).bus = s.bus := rfl
@[simp] theorem State.updAe_fw_eq (s : State) (c : Chan) (f : AeSt → AeSt) : (State.updAe s c f).fw = s.fw := rfl
@[simp] theorem State.updAe_aonStart_eq (s : State) (c : Chan) (f : AeSt → AeSt) : (State.updAe s c f).aonStart = s.aonStart := rfl
@[simp] theorem State.updAe_hly_eq (s : State) (c : Chan) (f : AeSt → AeSt) : (State.updAe s c f).hly = s.hly := rfl
@[simp] theorem State.updAe_sec_eq (s : State) (c : Chan) (f : AeSt → AeSt) : (State.updAe s c f).sec = s.sec := rfl
@[simp] theorem State.updAe_sleepAt_eq (s : State) (c : Chan) (f : AeSt → AeSt) : (State.updAe s c f).sleepAt = s.sleepAt := rfl
@[simp] theorem State.updAe_sleptFrom_eq (s : State) (c : Chan) (f : AeSt → AeSt) : (State.updAe s c f).sleptFrom = s.sleptFrom := rfl
@[simp] theorem State.updAe_refit_eq (s : State) (c : Chan) (f : AeSt → AeSt) : (State.updAe s c f).refit = s.refit := rfl
@[simp] theorem State.updAe_mz_eq (s : State) (c : Chan) (f : AeSt → AeSt) : (State.updAe s c f).mz = s.mz := rfl
@[simp] theorem State.updAe_pending_eq (s : State) (c : Chan) (f : AeSt → AeSt) : (State.updAe s c f).pending = s.pending := rfl

@[simp] theorem State.updCrc_regs_eq (s : State) (u : Unit3) (f : CrcSt → CrcSt) : (State.updCrc s u f).regs = s.regs := rfl
@[simp] theorem State.updCrc_mem_eq (s : State) (u : Unit3) (f : CrcSt → CrcSt) : (State.updCrc s u f).mem = s.mem := rfl
@[simp] theorem State.updCrc_now_eq (s : State) (u : Unit3) (f : CrcSt → CrcSt) : (State.updCrc s u f).now = s.now := rfl
@[simp] theorem State.updCrc_freeCount_eq (s : State) (u : Unit3) (f : CrcSt → CrcSt) : (State.updCrc s u f).freeCount = s.freeCount := rfl
@[simp] theorem State.updCrc_power_eq (s : State) (u : Unit3) (f : CrcSt → CrcSt) : (State.updCrc s u f).power = s.power := rfl
@[simp] theorem State.updCrc_fc_eq (s : State) (u : Unit3) (f : CrcSt → CrcSt) : (State.updCrc s u f).fc = s.fc := rfl
@[simp] theorem State.updCrc_die_eq (s : State) (u : Unit3) (f : CrcSt → CrcSt) : (State.updCrc s u f).die = s.die := rfl
@[simp] theorem State.updCrc_inp_eq (s : State) (u : Unit3) (f : CrcSt → CrcSt) : (State.updCrc s u f).inp = s.inp := rfl
@[simp] theorem State.updCrc_pairs_eq (s : State) (u : Unit3) (f : CrcSt → CrcSt) : (State.updCrc s u f).pairs = s.pairs := rfl
@[simp] theorem State.updCrc_srcs_eq (s : State) (u : Unit3) (f : CrcSt → CrcSt) : (State.updCrc s u f).srcs = s.srcs := rfl
@[simp] theorem State.updCrc_pulse_eq (s : State) (u : Unit3) (f : CrcSt → CrcSt) : (State.updCrc s u f).pulse = s.pulse := rfl
@[simp] theorem State.updCrc_outs_eq (s : State) (u : Unit3) (f : CrcSt → CrcSt) : (State.updCrc s u f).outs = s.outs := rfl
@[simp] theorem State.updCrc_graph_eq (s : State) (u : Unit3) (f : CrcSt → CrcSt) : (State.updCrc s u f).graph = s.graph := rfl
@[simp] theorem State.updCrc_stop_eq (s : State) (u : Unit3) (f : CrcSt → CrcSt) : (State.updCrc s u f).stop = s.stop := rfl
@[simp] theorem State.updCrc_stay_eq (s : State) (u : Unit3) (f : CrcSt → CrcSt) : (State.updCrc s u f).stay = s.stay := rfl
@[simp] theorem State.updCrc_ae_eq (s : State) (u : Unit3) (f : CrcSt → CrcSt) : (State.updCrc s u f).ae = s.ae := rfl
@[simp] theorem State.updCrc_conds_eq (s : State) (u : Unit3) (f : CrcSt → CrcSt) : (State.updCrc s u f).conds = s.conds := rfl
@[simp] theorem State.updCrc_ev_eq (s : State) (u : Unit3) (f : CrcSt → CrcSt) : (State.updCrc s u f).ev = s.ev := rfl
@[simp] theorem State.updCrc_recd_eq (s : State) (u : Unit3) (f : CrcSt → CrcSt) : (State.updCrc s u f).recd = s.recd := rfl
@[simp] theorem State.updCrc_ptp_eq (s : State) (u : Unit3) (f : CrcSt → CrcSt) : (State.updCrc s u f).ptp = s.ptp := rfl
@[simp] theorem State.updCrc_fmon_eq (s : State) (u : Unit3) (f : CrcSt → CrcSt) : (State.updCrc s u f).fmon = s.fmon := rfl
@[simp] theorem State.updCrc_scrub_eq (s : State) (u : Unit3) (f : CrcSt → CrcSt) : (State.updCrc s u f).scrub = s.scrub := rfl
@[simp] theorem State.updCrc_adcs_eq (s : State) (u : Unit3) (f : CrcSt → CrcSt) : (State.updCrc s u f).adcs = s.adcs := rfl
@[simp] theorem State.updCrc_ses_eq (s : State) (u : Unit3) (f : CrcSt → CrcSt) : (State.updCrc s u f).ses = s.ses := rfl
@[simp] theorem State.updCrc_nets_eq (s : State) (u : Unit3) (f : CrcSt → CrcSt) : (State.updCrc s u f).nets = s.nets := rfl
@[simp] theorem State.updCrc_link_eq (s : State) (u : Unit3) (f : CrcSt → CrcSt) : (State.updCrc s u f).link = s.link := rfl
@[simp] theorem State.updCrc_epochAt_eq (s : State) (u : Unit3) (f : CrcSt → CrcSt) : (State.updCrc s u f).epochAt = s.epochAt := rfl
@[simp] theorem State.updCrc_prog_eq (s : State) (u : Unit3) (f : CrcSt → CrcSt) : (State.updCrc s u f).prog = s.prog := rfl
@[simp] theorem State.updCrc_refitHeld_eq (s : State) (u : Unit3) (f : CrcSt → CrcSt) : (State.updCrc s u f).refitHeld = s.refitHeld := rfl
@[simp] theorem State.updCrc_hostLost_eq (s : State) (u : Unit3) (f : CrcSt → CrcSt) : (State.updCrc s u f).hostLost = s.hostLost := rfl
@[simp] theorem State.updCrc_sleepRun_eq (s : State) (u : Unit3) (f : CrcSt → CrcSt) : (State.updCrc s u f).sleepRun = s.sleepRun := rfl
@[simp] theorem State.updCrc_shdnPrev_eq (s : State) (u : Unit3) (f : CrcSt → CrcSt) : (State.updCrc s u f).shdnPrev = s.shdnPrev := rfl
@[simp] theorem State.updCrc_cutPrev_eq (s : State) (u : Unit3) (f : CrcSt → CrcSt) : (State.updCrc s u f).cutPrev = s.cutPrev := rfl
@[simp] theorem State.updCrc_service_eq (s : State) (u : Unit3) (f : CrcSt → CrcSt) : (State.updCrc s u f).service = s.service := rfl
@[simp] theorem State.updCrc_tims_eq (s : State) (u : Unit3) (f : CrcSt → CrcSt) : (State.updCrc s u f).tims = s.tims := rfl
@[simp] theorem State.updCrc_latches_eq (s : State) (u : Unit3) (f : CrcSt → CrcSt) : (State.updCrc s u f).latches = s.latches := rfl
@[simp] theorem State.updCrc_bus_eq (s : State) (u : Unit3) (f : CrcSt → CrcSt) : (State.updCrc s u f).bus = s.bus := rfl
@[simp] theorem State.updCrc_fw_eq (s : State) (u : Unit3) (f : CrcSt → CrcSt) : (State.updCrc s u f).fw = s.fw := rfl
@[simp] theorem State.updCrc_aonStart_eq (s : State) (u : Unit3) (f : CrcSt → CrcSt) : (State.updCrc s u f).aonStart = s.aonStart := rfl
@[simp] theorem State.updCrc_hly_eq (s : State) (u : Unit3) (f : CrcSt → CrcSt) : (State.updCrc s u f).hly = s.hly := rfl
@[simp] theorem State.updCrc_sec_eq (s : State) (u : Unit3) (f : CrcSt → CrcSt) : (State.updCrc s u f).sec = s.sec := rfl
@[simp] theorem State.updCrc_sleepAt_eq (s : State) (u : Unit3) (f : CrcSt → CrcSt) : (State.updCrc s u f).sleepAt = s.sleepAt := rfl
@[simp] theorem State.updCrc_sleptFrom_eq (s : State) (u : Unit3) (f : CrcSt → CrcSt) : (State.updCrc s u f).sleptFrom = s.sleptFrom := rfl
@[simp] theorem State.updCrc_refit_eq (s : State) (u : Unit3) (f : CrcSt → CrcSt) : (State.updCrc s u f).refit = s.refit := rfl
@[simp] theorem State.updCrc_mz_eq (s : State) (u : Unit3) (f : CrcSt → CrcSt) : (State.updCrc s u f).mz = s.mz := rfl
@[simp] theorem State.updCrc_pending_eq (s : State) (u : Unit3) (f : CrcSt → CrcSt) : (State.updCrc s u f).pending = s.pending := rfl

@[simp] theorem State.putFlag_mem_eq (s : State) (f : Fld) (v : Bool) (c : Chan) (i : Nat) : (State.putFlag s f v c i).mem = s.mem := rfl
@[simp] theorem State.putFlag_now_eq (s : State) (f : Fld) (v : Bool) (c : Chan) (i : Nat) : (State.putFlag s f v c i).now = s.now := rfl
@[simp] theorem State.putFlag_freeCount_eq (s : State) (f : Fld) (v : Bool) (c : Chan) (i : Nat) : (State.putFlag s f v c i).freeCount = s.freeCount := rfl
@[simp] theorem State.putFlag_power_eq (s : State) (f : Fld) (v : Bool) (c : Chan) (i : Nat) : (State.putFlag s f v c i).power = s.power := rfl
@[simp] theorem State.putFlag_fc_eq (s : State) (f : Fld) (v : Bool) (c : Chan) (i : Nat) : (State.putFlag s f v c i).fc = s.fc := rfl
@[simp] theorem State.putFlag_die_eq (s : State) (f : Fld) (v : Bool) (c : Chan) (i : Nat) : (State.putFlag s f v c i).die = s.die := rfl
@[simp] theorem State.putFlag_inp_eq (s : State) (f : Fld) (v : Bool) (c : Chan) (i : Nat) : (State.putFlag s f v c i).inp = s.inp := rfl
@[simp] theorem State.putFlag_pairs_eq (s : State) (f : Fld) (v : Bool) (c : Chan) (i : Nat) : (State.putFlag s f v c i).pairs = s.pairs := rfl
@[simp] theorem State.putFlag_srcs_eq (s : State) (f : Fld) (v : Bool) (c : Chan) (i : Nat) : (State.putFlag s f v c i).srcs = s.srcs := rfl
@[simp] theorem State.putFlag_pulse_eq (s : State) (f : Fld) (v : Bool) (c : Chan) (i : Nat) : (State.putFlag s f v c i).pulse = s.pulse := rfl
@[simp] theorem State.putFlag_outs_eq (s : State) (f : Fld) (v : Bool) (c : Chan) (i : Nat) : (State.putFlag s f v c i).outs = s.outs := rfl
@[simp] theorem State.putFlag_graph_eq (s : State) (f : Fld) (v : Bool) (c : Chan) (i : Nat) : (State.putFlag s f v c i).graph = s.graph := rfl
@[simp] theorem State.putFlag_stop_eq (s : State) (f : Fld) (v : Bool) (c : Chan) (i : Nat) : (State.putFlag s f v c i).stop = s.stop := rfl
@[simp] theorem State.putFlag_stay_eq (s : State) (f : Fld) (v : Bool) (c : Chan) (i : Nat) : (State.putFlag s f v c i).stay = s.stay := rfl
@[simp] theorem State.putFlag_ae_eq (s : State) (f : Fld) (v : Bool) (c : Chan) (i : Nat) : (State.putFlag s f v c i).ae = s.ae := rfl
@[simp] theorem State.putFlag_conds_eq (s : State) (f : Fld) (v : Bool) (c : Chan) (i : Nat) : (State.putFlag s f v c i).conds = s.conds := rfl
@[simp] theorem State.putFlag_ev_eq (s : State) (f : Fld) (v : Bool) (c : Chan) (i : Nat) : (State.putFlag s f v c i).ev = s.ev := rfl
@[simp] theorem State.putFlag_recd_eq (s : State) (f : Fld) (v : Bool) (c : Chan) (i : Nat) : (State.putFlag s f v c i).recd = s.recd := rfl
@[simp] theorem State.putFlag_ptp_eq (s : State) (f : Fld) (v : Bool) (c : Chan) (i : Nat) : (State.putFlag s f v c i).ptp = s.ptp := rfl
@[simp] theorem State.putFlag_fmon_eq (s : State) (f : Fld) (v : Bool) (c : Chan) (i : Nat) : (State.putFlag s f v c i).fmon = s.fmon := rfl
@[simp] theorem State.putFlag_scrub_eq (s : State) (f : Fld) (v : Bool) (c : Chan) (i : Nat) : (State.putFlag s f v c i).scrub = s.scrub := rfl
@[simp] theorem State.putFlag_adcs_eq (s : State) (f : Fld) (v : Bool) (c : Chan) (i : Nat) : (State.putFlag s f v c i).adcs = s.adcs := rfl
@[simp] theorem State.putFlag_ses_eq (s : State) (f : Fld) (v : Bool) (c : Chan) (i : Nat) : (State.putFlag s f v c i).ses = s.ses := rfl
@[simp] theorem State.putFlag_nets_eq (s : State) (f : Fld) (v : Bool) (c : Chan) (i : Nat) : (State.putFlag s f v c i).nets = s.nets := rfl
@[simp] theorem State.putFlag_link_eq (s : State) (f : Fld) (v : Bool) (c : Chan) (i : Nat) : (State.putFlag s f v c i).link = s.link := rfl
@[simp] theorem State.putFlag_epochAt_eq (s : State) (f : Fld) (v : Bool) (c : Chan) (i : Nat) : (State.putFlag s f v c i).epochAt = s.epochAt := rfl
@[simp] theorem State.putFlag_prog_eq (s : State) (f : Fld) (v : Bool) (c : Chan) (i : Nat) : (State.putFlag s f v c i).prog = s.prog := rfl
@[simp] theorem State.putFlag_refitHeld_eq (s : State) (f : Fld) (v : Bool) (c : Chan) (i : Nat) : (State.putFlag s f v c i).refitHeld = s.refitHeld := rfl
@[simp] theorem State.putFlag_hostLost_eq (s : State) (f : Fld) (v : Bool) (c : Chan) (i : Nat) : (State.putFlag s f v c i).hostLost = s.hostLost := rfl
@[simp] theorem State.putFlag_sleepRun_eq (s : State) (f : Fld) (v : Bool) (c : Chan) (i : Nat) : (State.putFlag s f v c i).sleepRun = s.sleepRun := rfl
@[simp] theorem State.putFlag_shdnPrev_eq (s : State) (f : Fld) (v : Bool) (c : Chan) (i : Nat) : (State.putFlag s f v c i).shdnPrev = s.shdnPrev := rfl
@[simp] theorem State.putFlag_cutPrev_eq (s : State) (f : Fld) (v : Bool) (c : Chan) (i : Nat) : (State.putFlag s f v c i).cutPrev = s.cutPrev := rfl
@[simp] theorem State.putFlag_service_eq (s : State) (f : Fld) (v : Bool) (c : Chan) (i : Nat) : (State.putFlag s f v c i).service = s.service := rfl
@[simp] theorem State.putFlag_tims_eq (s : State) (f : Fld) (v : Bool) (c : Chan) (i : Nat) : (State.putFlag s f v c i).tims = s.tims := rfl
@[simp] theorem State.putFlag_crcs_eq (s : State) (f : Fld) (v : Bool) (c : Chan) (i : Nat) : (State.putFlag s f v c i).crcs = s.crcs := rfl
@[simp] theorem State.putFlag_latches_eq (s : State) (f : Fld) (v : Bool) (c : Chan) (i : Nat) : (State.putFlag s f v c i).latches = s.latches := rfl
@[simp] theorem State.putFlag_bus_eq (s : State) (f : Fld) (v : Bool) (c : Chan) (i : Nat) : (State.putFlag s f v c i).bus = s.bus := rfl
@[simp] theorem State.putFlag_fw_eq (s : State) (f : Fld) (v : Bool) (c : Chan) (i : Nat) : (State.putFlag s f v c i).fw = s.fw := rfl
@[simp] theorem State.putFlag_aonStart_eq (s : State) (f : Fld) (v : Bool) (c : Chan) (i : Nat) : (State.putFlag s f v c i).aonStart = s.aonStart := rfl
@[simp] theorem State.putFlag_hly_eq (s : State) (f : Fld) (v : Bool) (c : Chan) (i : Nat) : (State.putFlag s f v c i).hly = s.hly := rfl
@[simp] theorem State.putFlag_sec_eq (s : State) (f : Fld) (v : Bool) (c : Chan) (i : Nat) : (State.putFlag s f v c i).sec = s.sec := rfl
@[simp] theorem State.putFlag_sleepAt_eq (s : State) (f : Fld) (v : Bool) (c : Chan) (i : Nat) : (State.putFlag s f v c i).sleepAt = s.sleepAt := rfl
@[simp] theorem State.putFlag_sleptFrom_eq (s : State) (f : Fld) (v : Bool) (c : Chan) (i : Nat) : (State.putFlag s f v c i).sleptFrom = s.sleptFrom := rfl
@[simp] theorem State.putFlag_refit_eq (s : State) (f : Fld) (v : Bool) (c : Chan) (i : Nat) : (State.putFlag s f v c i).refit = s.refit := rfl
@[simp] theorem State.putFlag_mz_eq (s : State) (f : Fld) (v : Bool) (c : Chan) (i : Nat) : (State.putFlag s f v c i).mz = s.mz := rfl
@[simp] theorem State.putFlag_pending_eq (s : State) (f : Fld) (v : Bool) (c : Chan) (i : Nat) : (State.putFlag s f v c i).pending = s.pending := rfl

@[simp] theorem State.putBoth_mem_eq (s : State) (f : Fld) (v : Nat) (i : Nat) : (State.putBoth s f v i).mem = s.mem := rfl
@[simp] theorem State.putBoth_now_eq (s : State) (f : Fld) (v : Nat) (i : Nat) : (State.putBoth s f v i).now = s.now := rfl
@[simp] theorem State.putBoth_freeCount_eq (s : State) (f : Fld) (v : Nat) (i : Nat) : (State.putBoth s f v i).freeCount = s.freeCount := rfl
@[simp] theorem State.putBoth_power_eq (s : State) (f : Fld) (v : Nat) (i : Nat) : (State.putBoth s f v i).power = s.power := rfl
@[simp] theorem State.putBoth_fc_eq (s : State) (f : Fld) (v : Nat) (i : Nat) : (State.putBoth s f v i).fc = s.fc := rfl
@[simp] theorem State.putBoth_die_eq (s : State) (f : Fld) (v : Nat) (i : Nat) : (State.putBoth s f v i).die = s.die := rfl
@[simp] theorem State.putBoth_inp_eq (s : State) (f : Fld) (v : Nat) (i : Nat) : (State.putBoth s f v i).inp = s.inp := rfl
@[simp] theorem State.putBoth_pairs_eq (s : State) (f : Fld) (v : Nat) (i : Nat) : (State.putBoth s f v i).pairs = s.pairs := rfl
@[simp] theorem State.putBoth_srcs_eq (s : State) (f : Fld) (v : Nat) (i : Nat) : (State.putBoth s f v i).srcs = s.srcs := rfl
@[simp] theorem State.putBoth_pulse_eq (s : State) (f : Fld) (v : Nat) (i : Nat) : (State.putBoth s f v i).pulse = s.pulse := rfl
@[simp] theorem State.putBoth_outs_eq (s : State) (f : Fld) (v : Nat) (i : Nat) : (State.putBoth s f v i).outs = s.outs := rfl
@[simp] theorem State.putBoth_graph_eq (s : State) (f : Fld) (v : Nat) (i : Nat) : (State.putBoth s f v i).graph = s.graph := rfl
@[simp] theorem State.putBoth_stop_eq (s : State) (f : Fld) (v : Nat) (i : Nat) : (State.putBoth s f v i).stop = s.stop := rfl
@[simp] theorem State.putBoth_stay_eq (s : State) (f : Fld) (v : Nat) (i : Nat) : (State.putBoth s f v i).stay = s.stay := rfl
@[simp] theorem State.putBoth_ae_eq (s : State) (f : Fld) (v : Nat) (i : Nat) : (State.putBoth s f v i).ae = s.ae := rfl
@[simp] theorem State.putBoth_conds_eq (s : State) (f : Fld) (v : Nat) (i : Nat) : (State.putBoth s f v i).conds = s.conds := rfl
@[simp] theorem State.putBoth_ev_eq (s : State) (f : Fld) (v : Nat) (i : Nat) : (State.putBoth s f v i).ev = s.ev := rfl
@[simp] theorem State.putBoth_recd_eq (s : State) (f : Fld) (v : Nat) (i : Nat) : (State.putBoth s f v i).recd = s.recd := rfl
@[simp] theorem State.putBoth_ptp_eq (s : State) (f : Fld) (v : Nat) (i : Nat) : (State.putBoth s f v i).ptp = s.ptp := rfl
@[simp] theorem State.putBoth_fmon_eq (s : State) (f : Fld) (v : Nat) (i : Nat) : (State.putBoth s f v i).fmon = s.fmon := rfl
@[simp] theorem State.putBoth_scrub_eq (s : State) (f : Fld) (v : Nat) (i : Nat) : (State.putBoth s f v i).scrub = s.scrub := rfl
@[simp] theorem State.putBoth_adcs_eq (s : State) (f : Fld) (v : Nat) (i : Nat) : (State.putBoth s f v i).adcs = s.adcs := rfl
@[simp] theorem State.putBoth_ses_eq (s : State) (f : Fld) (v : Nat) (i : Nat) : (State.putBoth s f v i).ses = s.ses := rfl
@[simp] theorem State.putBoth_nets_eq (s : State) (f : Fld) (v : Nat) (i : Nat) : (State.putBoth s f v i).nets = s.nets := rfl
@[simp] theorem State.putBoth_link_eq (s : State) (f : Fld) (v : Nat) (i : Nat) : (State.putBoth s f v i).link = s.link := rfl
@[simp] theorem State.putBoth_epochAt_eq (s : State) (f : Fld) (v : Nat) (i : Nat) : (State.putBoth s f v i).epochAt = s.epochAt := rfl
@[simp] theorem State.putBoth_prog_eq (s : State) (f : Fld) (v : Nat) (i : Nat) : (State.putBoth s f v i).prog = s.prog := rfl
@[simp] theorem State.putBoth_refitHeld_eq (s : State) (f : Fld) (v : Nat) (i : Nat) : (State.putBoth s f v i).refitHeld = s.refitHeld := rfl
@[simp] theorem State.putBoth_hostLost_eq (s : State) (f : Fld) (v : Nat) (i : Nat) : (State.putBoth s f v i).hostLost = s.hostLost := rfl
@[simp] theorem State.putBoth_sleepRun_eq (s : State) (f : Fld) (v : Nat) (i : Nat) : (State.putBoth s f v i).sleepRun = s.sleepRun := rfl
@[simp] theorem State.putBoth_shdnPrev_eq (s : State) (f : Fld) (v : Nat) (i : Nat) : (State.putBoth s f v i).shdnPrev = s.shdnPrev := rfl
@[simp] theorem State.putBoth_cutPrev_eq (s : State) (f : Fld) (v : Nat) (i : Nat) : (State.putBoth s f v i).cutPrev = s.cutPrev := rfl
@[simp] theorem State.putBoth_service_eq (s : State) (f : Fld) (v : Nat) (i : Nat) : (State.putBoth s f v i).service = s.service := rfl
@[simp] theorem State.putBoth_tims_eq (s : State) (f : Fld) (v : Nat) (i : Nat) : (State.putBoth s f v i).tims = s.tims := rfl
@[simp] theorem State.putBoth_crcs_eq (s : State) (f : Fld) (v : Nat) (i : Nat) : (State.putBoth s f v i).crcs = s.crcs := rfl
@[simp] theorem State.putBoth_latches_eq (s : State) (f : Fld) (v : Nat) (i : Nat) : (State.putBoth s f v i).latches = s.latches := rfl
@[simp] theorem State.putBoth_bus_eq (s : State) (f : Fld) (v : Nat) (i : Nat) : (State.putBoth s f v i).bus = s.bus := rfl
@[simp] theorem State.putBoth_fw_eq (s : State) (f : Fld) (v : Nat) (i : Nat) : (State.putBoth s f v i).fw = s.fw := rfl
@[simp] theorem State.putBoth_aonStart_eq (s : State) (f : Fld) (v : Nat) (i : Nat) : (State.putBoth s f v i).aonStart = s.aonStart := rfl
@[simp] theorem State.putBoth_hly_eq (s : State) (f : Fld) (v : Nat) (i : Nat) : (State.putBoth s f v i).hly = s.hly := rfl
@[simp] theorem State.putBoth_sec_eq (s : State) (f : Fld) (v : Nat) (i : Nat) : (State.putBoth s f v i).sec = s.sec := rfl
@[simp] theorem State.putBoth_sleepAt_eq (s : State) (f : Fld) (v : Nat) (i : Nat) : (State.putBoth s f v i).sleepAt = s.sleepAt := rfl
@[simp] theorem State.putBoth_sleptFrom_eq (s : State) (f : Fld) (v : Nat) (i : Nat) : (State.putBoth s f v i).sleptFrom = s.sleptFrom := rfl
@[simp] theorem State.putBoth_refit_eq (s : State) (f : Fld) (v : Nat) (i : Nat) : (State.putBoth s f v i).refit = s.refit := rfl
@[simp] theorem State.putBoth_mz_eq (s : State) (f : Fld) (v : Nat) (i : Nat) : (State.putBoth s f v i).mz = s.mz := rfl
@[simp] theorem State.putBoth_pending_eq (s : State) (f : Fld) (v : Nat) (i : Nat) : (State.putBoth s f v i).pending = s.pending := rfl

end Sys2Proof.Machine
end

