-- ==== Sys2Proof/Laws/Fields.lean ====
section
/-! SUPPORT. Reading back what a named update has written: one lemma per accessor, and the facts of a raised line under the names the statements use. -/

namespace Sys2Proof.Machine

open Sys2Proof

theorem Answers.intro {i : Instr} {s t : State} {P : State → Prop} (h : exec i s = .next t) (hp : P t) : Answers i s P := ⟨t, h, hp⟩

theorem State.quiet_keep {s t : State} (h : t.fcv = s.fcv) (hq : s.quiet) : t.quiet := (State.quiet_of_fcv h).mpr hq

theorem State.faulted_keep {s t : State} (h : t.fcv = s.fcv) {c : Chan} {l : Latch} (hl : s.faulted c l) : t.faulted c l := (State.faulted_of_fcv h c l).mpr hl

theorem State.openWindow_faulted {s : State} {c : Chan} {l : Latch} (n : Nat) (h : s.faulted c l) : (s.openWindow n).faulted c l := by
  cases c <;> simpa [State.openWindow, State.updFc, State.faulted] using h

theorem State.openWindow_mem (s : State) (n : Nat) : n ∈ (s.openWindow n).fc.a.windows ∧ n ∈ (s.openWindow n).fc.b.windows := by
  simp only [State.openWindow, State.updFc, twoUpd, twoSet, twoAt]
  constructor
  · by_cases h : n ∈ s.fc.a.windows <;> simp [h]
  · by_cases h : n ∈ s.fc.b.windows <;> simp [h]

@[simp] theorem State.ctxInput_now (s : State) (t k n : Nat) : ({ s with now := t }).ctxInput k n = s.ctxInput k n := rfl

/-- An accepted frame is acted on. -/
theorem State.receive_accepts (s : State) (c : Chan) (l : Lane) (h : StayHead) (d : Bool) (f : State → State) (ha : s.accepts c l h) :
    s.receive c l h d f = f (((s.updStay c (fun x => withRepeat x l false)).put (rxSeqFld l) h.seq c).putFlag (rxOkFld l) true c) := by
  obtain ⟨h1, h2, h3, h4, h5⟩ := ha
  unfold State.receive
  dsimp only
  rw [if_neg (by omega), if_neg (by omega), if_neg (by omega), if_neg (by simp only [h2]; decide), if_neg (by simp [h3]), if_neg (by simp [h4]), if_neg (by simp [h5])]

end Sys2Proof.Machine
end

