-- ==== Sys2Proof/Laws/Engine.lean ====
section
/-! SUPPORT. Nothing a raised line or a cam event does changes the angle engines, and their update numbers count up by updates alone. -/

namespace Sys2Proof.Machine

open Sys2Proof

@[simp] theorem State.ite_ae (c : Prop) [Decidable c] (a b : State) : (if c then a else b).ae = if c then a.ae else b.ae := apply_ite _ _ _ _

@[simp] theorem State.foldl_ae {α : Type} (f : State → α → State) (l : List α) (s : State) (h : ∀ s x, (f s x).ae = s.ae) : (l.foldl f s).ae = s.ae :=
  State.foldl_keep (·.ae) f h l s

@[simp] theorem State.foldl1_ae {α β : Type} (f : State × β → α → State × β) (l : List α) (r : State × β) (h : ∀ r x, (f r x).1.ae = r.1.ae) : (l.foldl f r).1.ae = r.1.ae :=
  State.foldl_keep1 (·.ae) f h l r

@[simp] theorem State.put_ae (s : State) (f : Fld) (v : Nat) (c : Chan) (i : Nat) : (State.put s f v c i).ae = s.ae := by
  unfold State.put
  simp

@[simp] theorem State.putFlag_ae (s : State) (f : Fld) (v : Bool) (c : Chan) (i : Nat) : (State.putFlag s f v c i).ae = s.ae := by
  unfold State.putFlag
  simp

@[simp] theorem State.first_ae (s : State) (c : Chan) (e : FaultEv) (multi : Bool) : (State.first s c e multi).ae = s.ae := by
  unfold State.first
  simp

@[simp] theorem State.recReady_ae (s : State) : (State.recReady s).ae = s.ae := by
  unfold State.recReady
  simp

@[simp] theorem State.satInc_ae (s : State) (f : Fld) (c : Chan) (i : Nat) : (State.satInc s f c i).ae = s.ae := by
  unfold State.satInc
  simp

@[simp] theorem State.pushRec_ae (s : State) (typ : Nat) (payload : List Nat) : (State.pushRec s typ payload).ae = s.ae := by
  unfold State.pushRec
  simp

@[simp] theorem State.recCam_ae (s : State) (c : Chan) (n act dir : Nat) : (State.recCam s c n act dir).ae = s.ae := by
  unfold State.recCam
  simp

@[simp] theorem State.dropEvent_ae (s : State) : (State.dropEvent s).ae = s.ae := by
  unfold State.dropEvent
  ((try dsimp only); repeat' (first | (simp; done) | split))

@[simp] theorem State.pushEvent_ae (s : State) (typ : Nat) (words : List Nat) (fault : Option (Chan × Nat)) : (State.pushEvent s typ words fault).ae = s.ae := by
  unfold State.pushEvent
  simp

@[simp] theorem State.putRecord_ae (s : State) (c : Chan) (n : Nat) (e : FaultEv) : (State.putRecord s c n e).ae = s.ae := by
  unfold State.putRecord
  simp

@[simp] theorem State.record_ae (s : State) (c : Chan) (e : FaultEv) : (State.record s c e).ae = s.ae := by
  unfold State.record
  ((try dsimp only); repeat' (first | (simp; done) | split))

@[simp] theorem State.showLines_ae (s : State) (c : Chan) : (State.showLines s c).ae = s.ae := by
  unfold State.showLines
  simp

@[simp] theorem State.latchIn_ae (s : State) (c : Chan) (e : FaultEv) (multi : Bool) : (State.latchIn s c e multi).ae = s.ae := by
  unfold State.latchIn
  simp

@[simp] theorem State.latch_ae (s : State) (e : FaultEv) (multi : Bool) : (State.latch s e multi).ae = s.ae := by
  unfold State.latch
  ((try dsimp only); repeat' (first | (simp; done) | split))

@[simp] theorem State.updDie_ae (s : State) (c : Chan) (f : Die → Die) : (State.updDie s c f).ae = s.ae := by
  unfold State.updDie
  simp

@[simp] theorem State.armFurl_ae (s : State) (c : Chan) : (State.armFurl s c).ae = s.ae := by
  unfold State.armFurl
  simp

@[simp] theorem State.armBothFurl_ae (s : State) : (State.armBothFurl s).ae = s.ae := by
  unfold State.armBothFurl
  simp

@[simp] theorem State.disarmFurl_ae (s : State) (c : Chan) : (State.disarmFurl s c).ae = s.ae := by
  unfold State.disarmFurl
  simp

@[simp] theorem State.putBoth_ae (s : State) (f : Fld) (v : Nat) (i : Nat) : (State.putBoth s f v i).ae = s.ae := by
  unfold State.putBoth
  simp

@[simp] theorem State.showFurl_ae (s : State) : (State.showFurl s).ae = s.ae := by
  unfold State.showFurl
  simp

@[simp] theorem State.endStops_ae (s : State) (cause : Nat) : (State.endStops s cause).ae = s.ae := by
  unfold State.endStops
  ((try dsimp only); repeat' (first | (simp; done) | split))

@[simp] theorem State.abortTest_ae (s : State) : (State.abortTest s).ae = s.ae := by
  unfold State.abortTest
  simp

@[simp] theorem State.openDie_ae (s : State) (c : Chan) (keep : BitVec 16) (keepLs : BitVec 4) : (State.openDie s c keep keepLs).ae = s.ae := by
  unfold State.openDie
  simp

@[simp] theorem State.singleMode_ae (s : State) (c : Chan) : (State.singleMode s c).ae = s.ae := by
  unfold State.singleMode
  ((try dsimp only); repeat' (first | (simp; done) | split))

@[simp] theorem State.class2_ae (s : State) (c : Chan) (suspect : Bool) (line : Bool) : (State.class2 s c suspect line).ae = s.ae := by
  unfold State.class2
  simp

@[simp] theorem State.oweTests_ae (s : State) (m : BitVec 16) : (State.oweTests s m).ae = s.ae := by
  unfold State.oweTests
  simp

@[simp] theorem State.showKill_ae (s : State) : s.showKill.ae = s.ae := by
  unfold State.showKill
  exact State.foldl_ae _ _ _ (fun _ _ => rfl)

@[simp] theorem State.kill_ae (s : State) (c : Chan) (m : BitVec 16) (ls : BitVec 4) (f : Die → Die) : (State.kill s c m ls f).ae = s.ae := by
  unfold State.kill
  simp

@[simp] theorem State.fatalKill_ae (s : State) : (State.fatalKill s).ae = s.ae := by
  unfold State.fatalKill
  simp

@[simp] theorem State.class3_ae (s : State) : (State.class3 s).ae = s.ae := by
  unfold State.class3
  simp

@[simp] theorem State.keepL3_ae (s : State) (e : FaultEv) : (State.keepL3 s e).ae = s.ae := by
  unfold State.keepL3
  ((try dsimp only); repeat' (first | (simp; done) | split))

@[simp] theorem State.react_ae (s : State) (e : FaultEv) : (State.react s e).ae = s.ae := by
  unfold State.react
  ((try dsimp only); repeat' (first | (simp; done) | split))

@[simp] theorem State.setDev_ae (s : State) (n : Nat) : (State.setDev s n).ae = s.ae := by
  unfold State.setDev
  simp

@[simp] theorem State.showPins_ae (s : State) : (State.showPins s).ae = s.ae := by
  unfold State.showPins
  simp

@[simp] theorem State.settle_ae (s : State) : (State.settle s).ae = s.ae := by
  unfold State.settle
  simp

@[simp] theorem State.raise_ae (s : State) (e : FaultEv) : (State.raise s e).ae = s.ae := by
  unfold State.raise
  simp

@[simp] theorem State.raiseOnce_ae (s : State) (e : FaultEv) : (State.raiseOnce s e).ae = s.ae := by
  unfold State.raiseOnce
  simp

@[simp] theorem State.putAt_ae (s : State) (f : Fld) (v base : Nat) (i : Nat) : (State.putAt s f v base i).ae = s.ae := by
  unfold State.putAt
  simp

@[simp] theorem State.putT_ae (s : State) (f : Fld) (v : Nat) (u : Unit3) (i : Nat) : (State.putT s f v u i).ae = s.ae := by
  unfold State.putT
  simp

@[simp] theorem State.capture_ae (s : State) (u : Unit3) (t : Nat) (stamp : Option Nat) : (State.capture s u t stamp).ae = s.ae := by
  unfold State.capture
  ((try dsimp only); repeat' (first | (simp; done) | split))

@[simp] theorem State.updTim_ae (s : State) (u : Unit3) (f : TimSt → TimSt) : (State.updTim s u f).ae = s.ae := by
  unfold State.updTim
  simp

@[simp] theorem State.fireCompare_ae (s : State) (u : Unit3) (late : Bool) (n : Nat) : (State.fireCompare s u late n).ae = s.ae := by
  unfold State.fireCompare
  simp

@[simp] theorem State.tickTimer_ae (s : State) (u : Unit3) (late : Bool) (t n : Nat) : (State.tickTimer s u late t n).1.ae = s.ae := by
  unfold State.tickTimer
  ((try dsimp only); repeat' (first | (simp; done) | split))

@[simp] theorem State.passTimer_ae (s : State) (u : Unit3) (late : Bool) (t n : Nat) (es : Tab TimEvents) : (State.passTimer s u late t n es).1.ae = s.ae := by
  unfold State.passTimer
  ((try dsimp only); repeat' (first | (simp; done) | split))

@[simp] theorem State.passBlock_ae (s : State) (u : Unit3) (late : Bool) (ticks : Nat → Nat) : (State.passBlock s u late ticks).ae = s.ae := by
  unfold State.passBlock
  simp

@[simp] theorem State.advance_ae (s : State) (u : Unit3) : (State.advance s u).ae = s.ae := by
  unfold State.advance
  simp

@[simp] theorem State.camCapture_ae (s : State) (c : Chan) (t : Nat) : (State.camCapture s c t).ae = s.ae := by
  unfold State.camCapture
  simp

@[simp] theorem State.putA_ae (s : State) (f : Fld) (v k : Nat) (i : Nat) : (State.putA s f v k i).ae = s.ae := by
  unfold State.putA
  simp

@[simp] theorem State.addA_ae (s : State) (f : Fld) (n k : Nat) (i : Nat) : (State.addA s f n k i).ae = s.ae := by
  unfold State.addA
  simp

@[simp] theorem State.updAdc_ae (s : State) (k : Nat) (f : AdcSt → AdcSt) : (State.updAdc s k f).ae = s.ae := by
  unfold State.updAdc
  simp

@[simp] theorem State.adcNext.regular_ae (k : Nat) (s : State) (a : AdcSt) : (State.adcNext.regular k s a).ae = s.ae := by
  unfold State.adcNext.regular
  (try dsimp only)
  repeat' (first | (simp; done) | split)

@[simp] theorem State.adcNext_ae (s : State) (k : Nat) : (State.adcNext s k).ae = s.ae := by
  unfold State.adcNext
  ((try dsimp only); repeat' (first | (simp; done) | split))

@[simp] theorem State.inject_ae (s : State) (k n : Nat) : (State.inject s k n).ae = s.ae := by
  unfold State.inject
  simp

@[simp] theorem State.camInject_ae (s : State) (c : Chan) (target : Nat) : (State.camInject s c target).ae = s.ae := by
  unfold State.camInject
  simp

@[simp] theorem State.fireCam_ae (s : State) (c : Chan) (n dir : Nat) : (State.fireCam s c n dir).ae = s.ae := by
  unfold State.fireCam
  simp

@[simp] theorem State.clearCond_ae (s : State) (line : Nat) (e : Elem) : (State.clearCond s line e).ae = s.ae := by
  unfold State.clearCond
  simp

/-! ## The update number: an angle engine's update alone counts it up -/

/-- The update numbers of both angle engines. -/
def State.stamps (s : State) : Nat × Nat := (s.ae.a.stamp, s.ae.b.stamp)

theorem State.stamps_of_ae {s t : State} (h : t.ae = s.ae) : t.stamps = s.stamps := by
  unfold State.stamps
  rw [h]

@[simp] theorem State.stamps_mk (x0) (x1) (x2) (x3) (x4) (x5) (x6) (x7) (x8) (x9) (x10) (x11) (x12) (x13) (x14) (x15) (x16) (x17) (x18) (x19) (x20) (x21) (x22) (x23) (x24) (x25) (x26) (x27) (x28) (x29) (x30) (x31) (x32) (x33) (x34) (x35) (x36) (x37) (x38) (x39) (x40) (x41) (x42) (x43) (x44) (x45) (x46) : (State.mk x0 x1 x2 x3 x4 x5 x6 x7 x8 x9 x10 x11 x12 x13 x14 x15 x16 x17 x18 x19 x20 x21 x22 x23 x24 x25 x26 x27 x28 x29 x30 x31 x32 x33 x34 x35 x36 x37 x38 x39 x40 x41 x42 x43 x44 x45 x46).stamps = (x15.a.stamp, x15.b.stamp) := rfl

@[simp] theorem State.stamps_eta (s : State) : (s.ae.a.stamp, s.ae.b.stamp) = s.stamps := rfl

@[simp] theorem State.ite_stamps (c : Prop) [Decidable c] (a b : State) : (if c then a else b).stamps = if c then a.stamps else b.stamps := apply_ite _ _ _ _

@[simp] theorem State.foldl_stamps {α : Type} (f : State → α → State) (l : List α) (s : State) (h : ∀ s x, (f s x).stamps = s.stamps) : (l.foldl f s).stamps = s.stamps :=
  State.foldl_keep State.stamps f h l s

@[simp] theorem State.foldl1_stamps {α β : Type} (f : State × β → α → State × β) (l : List α) (r : State × β) (h : ∀ r x, (f r x).1.stamps = r.1.stamps) : (l.foldl f r).1.stamps = r.1.stamps :=
  State.foldl_keep1 State.stamps f h l r

@[simp] theorem State.updAe_stamps (s : State) (c : Chan) (f : AeSt → AeSt) (h : ∀ x, (f x).stamp = x.stamp) : (s.updAe c f).stamps = s.stamps := by
  cases c <;> simp only [State.updAe, State.stamps, twoUpd, twoSet, twoAt, h]

@[simp] theorem State.put_stamps (s : State) (f : Fld) (v : Nat) (c : Chan) (i : Nat) : (State.put s f v c i).stamps = s.stamps := State.stamps_of_ae (State.put_ae s f v c i)

@[simp] theorem State.putAt_stamps (s : State) (f : Fld) (v base : Nat) (i : Nat) : (State.putAt s f v base i).stamps = s.stamps := State.stamps_of_ae (State.putAt_ae s f v base i)

@[simp] theorem State.putFlag_stamps (s : State) (f : Fld) (v : Bool) (c : Chan) (i : Nat) : (State.putFlag s f v c i).stamps = s.stamps := State.stamps_of_ae (State.putFlag_ae s f v c i)

@[simp] theorem State.putBoth_stamps (s : State) (f : Fld) (v : Nat) (i : Nat) : (State.putBoth s f v i).stamps = s.stamps := State.stamps_of_ae (State.putBoth_ae s f v i)

@[simp] theorem State.satInc_stamps (s : State) (f : Fld) (c : Chan) (i : Nat) : (State.satInc s f c i).stamps = s.stamps := State.stamps_of_ae (State.satInc_ae s f c i)

@[simp] theorem State.dropEvent_stamps (s : State) : (State.dropEvent s).stamps = s.stamps := State.stamps_of_ae (State.dropEvent_ae s)

@[simp] theorem State.pushEvent_stamps (s : State) (typ : Nat) (words : List Nat) (fault : Option (Chan × Nat)) : (State.pushEvent s typ words fault).stamps = s.stamps := State.stamps_of_ae (State.pushEvent_ae s typ words fault)

@[simp] theorem State.recReady_stamps (s : State) : (State.recReady s).stamps = s.stamps := State.stamps_of_ae (State.recReady_ae s)

@[simp] theorem State.pushRec_stamps (s : State) (typ : Nat) (payload : List Nat) : (State.pushRec s typ payload).stamps = s.stamps := State.stamps_of_ae (State.pushRec_ae s typ payload)

@[simp] theorem State.updDie_stamps (s : State) (c : Chan) (f : Die → Die) : (State.updDie s c f).stamps = s.stamps := State.stamps_of_ae (State.updDie_ae s c f)

@[simp] theorem State.showKill_stamps (s : State) : (State.showKill s).stamps = s.stamps := State.stamps_of_ae (State.showKill_ae s)

@[simp] theorem State.abortTest_stamps (s : State) : (State.abortTest s).stamps = s.stamps := State.stamps_of_ae (State.abortTest_ae s)

@[simp] theorem State.oweTests_stamps (s : State) (m : BitVec 16) : (State.oweTests s m).stamps = s.stamps := State.stamps_of_ae (State.oweTests_ae s m)

@[simp] theorem State.kill_stamps (s : State) (c : Chan) (m : BitVec 16) (ls : BitVec 4) (f : Die → Die) : (State.kill s c m ls f).stamps = s.stamps := State.stamps_of_ae (State.kill_ae s c m ls f)

@[simp] theorem State.fatalKill_stamps (s : State) : (State.fatalKill s).stamps = s.stamps := State.stamps_of_ae (State.fatalKill_ae s)

@[simp] theorem State.armFurl_stamps (s : State) (c : Chan) : (State.armFurl s c).stamps = s.stamps := State.stamps_of_ae (State.armFurl_ae s c)

@[simp] theorem State.armBothFurl_stamps (s : State) : (State.armBothFurl s).stamps = s.stamps := State.stamps_of_ae (State.armBothFurl_ae s)

@[simp] theorem State.disarmFurl_stamps (s : State) (c : Chan) : (State.disarmFurl s c).stamps = s.stamps := State.stamps_of_ae (State.disarmFurl_ae s c)

@[simp] theorem State.showFurl_stamps (s : State) : (State.showFurl s).stamps = s.stamps := State.stamps_of_ae (State.showFurl_ae s)

@[simp] theorem State.updFc_stamps (s : State) (c : Chan) (f : FcSt → FcSt) : (State.updFc s c f).stamps = s.stamps := by
  unfold State.updFc
  simp

@[simp] theorem State.showLines_stamps (s : State) (c : Chan) : (State.showLines s c).stamps = s.stamps := State.stamps_of_ae (State.showLines_ae s c)

@[simp] theorem State.putRecord_stamps (s : State) (c : Chan) (n : Nat) (e : FaultEv) : (State.putRecord s c n e).stamps = s.stamps := State.stamps_of_ae (State.putRecord_ae s c n e)

@[simp] theorem State.record_stamps (s : State) (c : Chan) (e : FaultEv) : (State.record s c e).stamps = s.stamps := State.stamps_of_ae (State.record_ae s c e)

@[simp] theorem State.first_stamps (s : State) (c : Chan) (e : FaultEv) (multi : Bool) : (State.first s c e multi).stamps = s.stamps := State.stamps_of_ae (State.first_ae s c e multi)

@[simp] theorem State.latchIn_stamps (s : State) (c : Chan) (e : FaultEv) (multi : Bool) : (State.latchIn s c e multi).stamps = s.stamps := State.stamps_of_ae (State.latchIn_ae s c e multi)

@[simp] theorem State.latch_stamps (s : State) (e : FaultEv) (multi : Bool) : (State.latch s e multi).stamps = s.stamps := State.stamps_of_ae (State.latch_ae s e multi)

@[simp] theorem State.showPins_stamps (s : State) : (State.showPins s).stamps = s.stamps := State.stamps_of_ae (State.showPins_ae s)

@[simp] theorem State.setDev_stamps (s : State) (n : Nat) : (State.setDev s n).stamps = s.stamps := State.stamps_of_ae (State.setDev_ae s n)

@[simp] theorem State.settle_stamps (s : State) : (State.settle s).stamps = s.stamps := State.stamps_of_ae (State.settle_ae s)

@[simp] theorem State.openDie_stamps (s : State) (c : Chan) (keep : BitVec 16) (keepLs : BitVec 4) : (State.openDie s c keep keepLs).stamps = s.stamps := State.stamps_of_ae (State.openDie_ae s c keep keepLs)

@[simp] theorem State.singleMode_stamps (s : State) (c : Chan) : (State.singleMode s c).stamps = s.stamps := State.stamps_of_ae (State.singleMode_ae s c)

@[simp] theorem State.endStops_stamps (s : State) (cause : Nat) : (State.endStops s cause).stamps = s.stamps := State.stamps_of_ae (State.endStops_ae s cause)

@[simp] theorem State.class2_stamps (s : State) (c : Chan) (suspect : Bool) (line : Bool) : (State.class2 s c suspect line).stamps = s.stamps := State.stamps_of_ae (State.class2_ae s c suspect line)

@[simp] theorem State.class3_stamps (s : State) : (State.class3 s).stamps = s.stamps := State.stamps_of_ae (State.class3_ae s)

@[simp] theorem State.keepL3_stamps (s : State) (e : FaultEv) : (State.keepL3 s e).stamps = s.stamps := State.stamps_of_ae (State.keepL3_ae s e)

@[simp] theorem State.react_stamps (s : State) (e : FaultEv) : (State.react s e).stamps = s.stamps := State.stamps_of_ae (State.react_ae s e)

@[simp] theorem State.raise_stamps (s : State) (e : FaultEv) : (State.raise s e).stamps = s.stamps := State.stamps_of_ae (State.raise_ae s e)

@[simp] theorem State.raiseOnce_stamps (s : State) (e : FaultEv) : (State.raiseOnce s e).stamps = s.stamps := State.stamps_of_ae (State.raiseOnce_ae s e)

@[simp] theorem State.clearCond_stamps (s : State) (line : Nat) (e : Elem) : (State.clearCond s line e).stamps = s.stamps := State.stamps_of_ae (State.clearCond_ae s line e)

@[simp] theorem State.updAdc_stamps (s : State) (k : Nat) (f : AdcSt → AdcSt) : (State.updAdc s k f).stamps = s.stamps := State.stamps_of_ae (State.updAdc_ae s k f)

@[simp] theorem State.putA_stamps (s : State) (f : Fld) (v k : Nat) (i : Nat) : (State.putA s f v k i).stamps = s.stamps := State.stamps_of_ae (State.putA_ae s f v k i)

@[simp] theorem State.addA_stamps (s : State) (f : Fld) (n k : Nat) (i : Nat) : (State.addA s f n k i).stamps = s.stamps := State.stamps_of_ae (State.addA_ae s f n k i)

@[simp] theorem State.adcNext_stamps (s : State) (k : Nat) : (State.adcNext s k).stamps = s.stamps := State.stamps_of_ae (State.adcNext_ae s k)

@[simp] theorem State.inject_stamps (s : State) (k n : Nat) : (State.inject s k n).stamps = s.stamps := State.stamps_of_ae (State.inject_ae s k n)

@[simp] theorem State.camInject_stamps (s : State) (c : Chan) (target : Nat) : (State.camInject s c target).stamps = s.stamps := State.stamps_of_ae (State.camInject_ae s c target)

@[simp] theorem State.putT_stamps (s : State) (f : Fld) (v : Nat) (u : Unit3) (i : Nat) : (State.putT s f v u i).stamps = s.stamps := State.stamps_of_ae (State.putT_ae s f v u i)

@[simp] theorem State.updTim_stamps (s : State) (u : Unit3) (f : TimSt → TimSt) : (State.updTim s u f).stamps = s.stamps := State.stamps_of_ae (State.updTim_ae s u f)

@[simp] theorem State.fireCompare_stamps (s : State) (u : Unit3) (late : Bool) (n : Nat) : (State.fireCompare s u late n).stamps = s.stamps := State.stamps_of_ae (State.fireCompare_ae s u late n)

@[simp] theorem State.tickTimer_stamps (s : State) (u : Unit3) (late : Bool) (t n : Nat) : (State.tickTimer s u late t n).1.stamps = s.stamps := State.stamps_of_ae (State.tickTimer_ae s u late t n)

@[simp] theorem State.capture_stamps (s : State) (u : Unit3) (t : Nat) (stamp : Option Nat) : (State.capture s u t stamp).stamps = s.stamps := State.stamps_of_ae (State.capture_ae s u t stamp)

@[simp] theorem State.passTimer_stamps (s : State) (u : Unit3) (late : Bool) (t n : Nat) (es : Tab TimEvents) : (State.passTimer s u late t n es).1.stamps = s.stamps := State.stamps_of_ae (State.passTimer_ae s u late t n es)

@[simp] theorem State.passBlock_stamps (s : State) (u : Unit3) (late : Bool) (ticks : Nat → Nat) : (State.passBlock s u late ticks).stamps = s.stamps := State.stamps_of_ae (State.passBlock_ae s u late ticks)

@[simp] theorem State.advance_stamps (s : State) (u : Unit3) : (State.advance s u).stamps = s.stamps := State.stamps_of_ae (State.advance_ae s u)

@[simp] theorem State.lineSteps_stamps (s : State) (u : Unit3) (old new : Int) : (State.lineSteps s u old new).stamps = s.stamps := by
  unfold State.lineSteps
  simp

@[simp] theorem State.shiftSteps_stamps (s : State) (u : Unit3) (d : Int) : (State.shiftSteps s u d).stamps = s.stamps := by
  unfold State.shiftSteps
  simp

@[simp] theorem State.camCapture_stamps (s : State) (c : Chan) (t : Nat) : (State.camCapture s c t).stamps = s.stamps := State.stamps_of_ae (State.camCapture_ae s c t)

@[simp] theorem State.take_stamps (s : State) (i : Initiator) (m : LatchMap) : (State.take s i m).stamps = s.stamps := by
  unfold State.take
  simp

@[simp] theorem State.sent_stamps (s : State) (c : Chan) (l : Lane) : (State.sent s c l).stamps = s.stamps := by
  unfold State.sent
  simp

@[simp] theorem State.updNet_stamps (s : State) (n : Net) (f : NetSt → NetSt) : (State.updNet s n f).stamps = s.stamps := by
  unfold State.updNet
  simp

@[simp] theorem State.updStop_stamps (s : State) (c : Chan) (f : StopSt → StopSt) : (State.updStop s c f).stamps = s.stamps := by
  unfold State.updStop
  simp

@[simp] theorem State.putNew_stamps (s : State) (f : Fld) (v : Nat) (c : Chan) (i : Nat) : (State.putNew s f v c i).stamps = s.stamps := by
  unfold State.putNew
  simp

@[simp] theorem State.updStops_stamps (s : State) (f : StopSt → StopSt) : (State.updStops s f).stamps = s.stamps := by
  unfold State.updStops
  simp

@[simp] theorem State.recStop_stamps (s : State) (cause : Nat) (st : StopSt) : (State.recStop s cause st).stamps = s.stamps := by
  unfold State.recStop
  simp

@[simp] theorem State.latchT0_stamps (s : State) (c : Chan) : (State.latchT0 s c).stamps = s.stamps := by
  unfold State.latchT0
  simp

@[simp] theorem State.furlExpire_stamps (s : State) (c : Chan) : (State.furlExpire s c).stamps = s.stamps := by
  unfold State.furlExpire
  simp

@[simp] theorem State.furlBy_stamps (s : State) (cause : Nat) : (State.furlBy s cause).stamps = s.stamps := by
  unfold State.furlBy
  simp

@[simp] theorem State.monitor_stamps (s : State) (c : Chan) : (State.monitor s c).stamps = s.stamps := by
  unfold State.monitor
  simp

@[simp] theorem State.updEnc_stamps (s : State) (c : Chan) (n : Nat) (f : EncSt → EncSt) : (State.updEnc s c n f).stamps = s.stamps := by
  unfold State.updEnc
  simp

@[simp] theorem State.setSrc_stamps (s : State) (c : Chan) (n : Nat) (p : Int) : (State.setSrc s c n p).stamps = s.stamps := by
  unfold State.setSrc
  simp

@[simp] theorem State.motion_stamps (s : State) (c : Chan) : (State.motion s c).stamps = s.stamps := by
  unfold State.motion
  simp

@[simp] theorem State.showPos_stamps (s : State) (c : Chan) : (State.showPos s c).stamps = s.stamps := by
  unfold State.showPos
  simp

@[simp] theorem State.takePos_stamps (s : State) (c : Chan) : (State.takePos s c).stamps = s.stamps := by
  unfold State.takePos
  simp

@[simp] theorem State.rebase_stamps (s : State) (c : Chan) (p : Int) : (State.rebase s c p).stamps = s.stamps := by
  unfold State.rebase
  ((try dsimp only); repeat' (first | (simp; done) | split))

@[simp] theorem State.alignSec_stamps (s : State) (c : Chan) : (State.alignSec s c).stamps = s.stamps := by
  unfold State.alignSec
  simp

@[simp] theorem State.reference_stamps (s : State) (c : Chan) (k : Int) : (State.reference s c k).stamps = s.stamps := by
  unfold State.reference
  simp

@[simp] theorem State.checkRef_stamps (s : State) (c : Chan) (n : Nat) (k : Int) : (State.checkRef s c n k).stamps = s.stamps := by
  unfold State.checkRef
  ((try dsimp only); repeat' (first | (simp; done) | split))

@[simp] theorem State.references_stamps (s : State) (c : Chan) : (State.references s c).stamps = s.stamps := by
  unfold State.references
  ((try dsimp only); repeat' (first | (simp; done) | split))

@[simp] theorem State.compareSources_stamps (s : State) (c : Chan) : (State.compareSources s c).stamps = s.stamps := by
  unfold State.compareSources
  simp

@[simp] theorem State.enterLinear_stamps (s : State) (c : Chan) : (State.enterLinear s c).stamps = s.stamps := by
  unfold State.enterLinear
  simp

@[simp] theorem State.advanceState_stamps (s : State) (c : Chan) : (State.advanceState s c).stamps = s.stamps := by
  unfold State.advanceState
  simp

@[simp] theorem State.showSources_stamps (s : State) (c : Chan) (bad : BitVec 4) : (State.showSources s c bad).stamps = s.stamps := by
  unfold State.showSources
  simp

@[simp] theorem State.recCam_stamps (s : State) (c : Chan) (n act dir : Nat) : (State.recCam s c n act dir).stamps = s.stamps := State.stamps_of_ae (State.recCam_ae s c n act dir)

@[simp] theorem State.windows_stamps (s : State) (c : Chan) : (State.windows s c).stamps = s.stamps := by
  unfold State.windows
  simp

@[simp] theorem State.updPt_stamps (s : State) (c : Chan) (n : Nat) (f : PtSt → PtSt) : (State.updPt s c n f).stamps = s.stamps := by
  unfold State.updPt
  simp

@[simp] theorem State.fireCam_stamps (s : State) (c : Chan) (n dir : Nat) : (State.fireCam s c n dir).stamps = s.stamps := State.stamps_of_ae (State.fireCam_ae s c n dir)

@[simp] theorem State.judgePoint_stamps (s : State) (c : Chan) (n : Nat) (x : PtSt) (cr : Option (Nat × Int)) : (State.judgePoint s c n x cr).stamps = s.stamps := by
  unfold State.judgePoint
  ((try dsimp only); repeat' (first | (simp; done) | split))

@[simp] theorem State.predict_stamps (s : State) (c : Chan) (n : Nat) : (State.predict s c n).stamps = s.stamps := by
  unfold State.predict
  simp

@[simp] theorem State.firePredicted_stamps (s : State) (c : Chan) (n : Nat) : (State.firePredicted s c n).stamps = s.stamps := by
  unfold State.firePredicted
  ((try dsimp only); repeat' (first | (simp; done) | split))

@[simp] theorem State.eventPoint_stamps (s : State) (c : Chan) (p : Int) (n : Nat) : (State.eventPoint s c p n).stamps = s.stamps := by
  unfold State.eventPoint
  simp

@[simp] theorem State.events_stamps (s : State) (c : Chan) (p : Int) (jumped wasFar : Bool) : (State.events s c p jumped wasFar).stamps = s.stamps := by
  unfold State.events
  simp

@[simp] theorem State.takeOrigin_stamps (s : State) (c : Chan) : (State.takeOrigin s c).1.stamps = s.stamps := by
  unfold State.takeOrigin
  ((try dsimp only); repeat' (first | (simp; done) | split))

@[simp] theorem State.takeFar_stamps (s : State) (c : Chan) : (State.takeFar s c).stamps = s.stamps := by
  unfold State.takeFar
  simp

@[simp] theorem State.displacements_stamps (s : State) (c : Chan) : (State.displacements s c).stamps = s.stamps := by
  unfold State.displacements
  simp

@[simp] theorem State.master_stamps (s : State) (c : Chan) : (State.master s c).stamps = s.stamps := by
  unfold State.master
  ((try dsimp only); repeat' (first | (simp; done) | split))

@[simp] theorem State.stepTimers_stamps (s : State) (c : Chan) (p : Int) : (State.stepTimers s c p).stamps = s.stamps := by
  unfold State.stepTimers
  ((try dsimp only); repeat' (first | (simp; done) | split))

@[simp] theorem State.coordinate_stamps (s : State) (c : Chan) (bad : BitVec 4) : (State.coordinate s c bad).1.stamps = s.stamps := by
  unfold State.coordinate
  simp

@[simp] theorem State.cams_stamps (s : State) (c : Chan) (p : Int) : (State.cams s c p).stamps = s.stamps := by
  unfold State.cams
  simp

end Sys2Proof.Machine
end

