-- ==== Sys2Proof/Laws/Effects.lean ====
section
/-! SUPPORT. What the operations of the Stay exchange, the inputs and the stops do, said once for the statements. -/

namespace Sys2Proof.Machine

open Sys2Proof

theorem State.latchUnattributed_latched (s : State) (line detail : Nat) (c : Chan) (hq : s.quiet) :
    (s.latchUnattributed line detail).faulted c ⟨line, 2, .shared, .none⟩ := by
  unfold State.latchUnattributed
  exact State.faulted_keep (by simp [State.updStay]) (State.latch_latched s c ⟨line, 2, .shared, .both, .none, detail⟩ false (.inl hq) (.inl rfl))

/-- In dual mode a Stay fault latches E06 in both collectors (R219). -/
theorem State.stayFault_latched (s : State) (c : Chan) (typ kind : Nat) (h : s.stayMode c = 1) (hq : s.quiet) :
    (s.stayFault c typ kind).faulted .a ⟨6, 2, .shared, .none⟩ ∧ (s.stayFault c typ kind).faulted .b ⟨6, 2, .shared, .none⟩ := by
  unfold State.stayFault
  rw [if_pos h]
  have hq' : ∀ p : Prop, ∀ [Decidable p], (if p then (s.put STY_ERR_TYPE typ c).put STY_ERR_KIND kind c else s).quiet := fun p _ => by
    split
    · exact State.quiet_keep (by simp) hq
    · exact hq
  exact ⟨State.latchUnattributed_latched _ _ _ _ (hq' _), State.latchUnattributed_latched _ _ _ _ (hq' _)⟩

theorem State.keepsRegs.satInc_of {B : List Block} {s t : State} (h : State.keepsRegs B s t) (f : Fld) (c : Chan) (i : Nat) (hB : f.blk ∈ B) (hf : f.off + f.stride * i < 0x10000) :
    State.keepsRegs B s (t.satInc f c i) := h.trans (State.keepsRegs.satInc t f c i hB hf)

theorem State.abortTest_keepsRegs (s : State) (h : s.outs.slot.unit < 20) : State.keepsRegs [.sout, .llk] s s.abortTest := by
  have b1 : SOUT_LS_n_STAT_ABORTED.off + SOUT_LS_n_STAT_ABORTED.stride * s.outs.slot.unit < 0x10000 := by simp only [SOUT_LS_n_STAT_ABORTED]; omega
  have b2 : SOUT_n_STAT_ABORTED.off + SOUT_n_STAT_ABORTED.stride * s.outs.slot.unit < 0x10000 := by simp only [SOUT_n_STAT_ABORTED]; omega
  have b3 : SOUT_n_FAULT_PHASE.off + SOUT_n_FAULT_PHASE.stride * s.outs.slot.unit < 0x10000 := by simp only [SOUT_n_FAULT_PHASE]; omega
  unfold State.abortTest
  dsimp only
  split
  · exact State.keepsRegs.refl _ s
  · have h0 : ∀ o : OutsSt, State.keepsRegs [.sout, .llk] s { s with outs := o } := fun o => State.keepsRegs.of_regs rfl
    split
    · exact ((h0 _).satInc_of SOUT_LS_n_STAT_ABORTED .a _ (by decide) b1).satInc_of SOUT_LS_n_STAT_ABORTED .b _ (by decide) b1
    · exact ((((h0 _).satInc_of SOUT_n_STAT_ABORTED .a _ (by decide) b2).satInc_of SOUT_n_STAT_ABORTED .b _ (by decide) b2).put_of SOUT_n_FAULT_PHASE _ .a _ (by decide) b3 |>.put_of SOUT_n_FAULT_PHASE _ .b _ (by decide) b3).trans ((State.pushRec_keepsRegs _ _ _).mono (by decide))

/-- A dropped slot leaves the mode of Stay as it was. -/
theorem State.dropSlot_stayMode (s : State) (t : StayToken) (c : Chan) (h1 : s.pulse.src < 8) (h2 : s.outs.slot.unit < 20) :
    (s.dropSlot t).stayMode c = s.stayMode c := by
  have b1 : TPS_n_STAT_ACTIVE.off + TPS_n_STAT_ACTIVE.stride * s.pulse.src < 0x10000 := by simp only [TPS_n_STAT_ACTIVE]; omega
  cases t <;> unfold State.dropSlot <;> dsimp only <;> split
  · exact (State.get_put_blk _ TPS_n_STAT_ACTIVE STY_STATUS_MODE _ .b c _ 0 (by decide) b1 (by decide)).trans (State.get_put_blk _ TPS_n_STAT_ACTIVE STY_STATUS_MODE _ .a c _ 0 (by decide) b1 (by decide))
  · rfl
  · exact s.abortTest_keepsRegs h2 STY_STATUS_MODE c 0 (by decide) (by decide)
  · rfl

/-- E29 on a source latches in both collectors (R92). -/
theorem State.sourceFault_latched (s : State) (k : Nat) (c : Chan) (hq : s.quiet) : (s.sourceFault k).faulted c ⟨29, 1, .shared, .source k⟩ := by
  unfold State.sourceFault
  refine State.raise_latched _ c _ (.inl (State.quiet_keep ?_ hq)) (.inl rfl)
  exact State.foldl_fcv _ _ _ (fun u n => by split <;> simp)

/-- A judged pin that read low on both dies latches nothing and leaves the phase (R89). -/
theorem State.judgeWidth_low (s : State) (a b : PulseObs) (p : Nat) (h : s.pulse.judged.getLsbD p = true → a.lowEnd.getLsbD p = true ∧ b.lowEnd.getLsbD p = true) :
    (s.judgeWidth a b p).pulse.phase = s.pulse.phase ∧ (s.judgeWidth a b p).pulse.judged = s.pulse.judged ∧ (s.judgeWidth a b p).fc = s.fc := by
  unfold State.judgeWidth
  split
  · exact ⟨rfl, rfl, rfl⟩
  · next hj =>
    obtain ⟨h1, h2⟩ := h (by simpa using hj)
    dsimp only
    rw [h1, h2]
    repeat' split
    all_goals simp_all

@[simp] theorem State.ite_die (c : Prop) [Decidable c] (a b : State) : (if c then a else b).die = if c then a.die else b.die := apply_ite _ _ _ _

@[simp] theorem State.foldl_die {α : Type} (f : State → α → State) (l : List α) (s : State) (h : ∀ s x, (f s x).die = s.die) : (l.foldl f s).die = s.die :=
  State.foldl_keep (·.die) f h l s

@[simp] theorem State.put_die (s : State) (f : Fld) (v : Nat) (c : Chan) (i : Nat) : (State.put s f v c i).die = s.die := by
  unfold State.put
  simp

@[simp] theorem State.putFlag_die (s : State) (f : Fld) (v : Bool) (c : Chan) (i : Nat) : (State.putFlag s f v c i).die = s.die := by
  unfold State.putFlag
  simp

@[simp] theorem State.satInc_die (s : State) (f : Fld) (c : Chan) (i : Nat) : (State.satInc s f c i).die = s.die := by
  unfold State.satInc
  simp

@[simp] theorem State.recReady_die (s : State) : (State.recReady s).die = s.die := by
  unfold State.recReady
  simp

@[simp] theorem State.pushRec_die (s : State) (typ : Nat) (payload : List Nat) : (State.pushRec s typ payload).die = s.die := by
  unfold State.pushRec
  simp

@[simp] theorem State.putBoth_die (s : State) (f : Fld) (v : Nat) (i : Nat) : (State.putBoth s f v i).die = s.die := by
  unfold State.putBoth
  simp

@[simp] theorem State.showKill_die (s : State) : (State.showKill s).die = s.die := by
  unfold State.showKill
  exact State.foldl_die _ _ _ (fun _ _ => rfl)

@[simp] theorem State.showFk_die (s : State) : (State.showFk s).die = s.die := by
  unfold State.showFk
  simp

@[simp] theorem State.oweTests_die (s : State) (m : BitVec 16) : (State.oweTests s m).die = s.die := by
  unfold State.oweTests
  simp

@[simp] theorem State.abortTest_die (s : State) : (State.abortTest s).die = s.die := by
  unfold State.abortTest
  simp

/-- A kill path changes its own die by its own function and nothing else of the dies (R109). -/
theorem State.kill_die (s : State) (c : Chan) (m : BitVec 16) (ls : BitVec 4) (f : Die → Die) : (s.kill c m ls f).die = twoUpd s.die c f := by
  unfold State.kill
  dsimp only
  rw [State.showKill_die]
  have e : ∀ u : State, (if ls = 0 then (u.updDie c f).oweTests m else { (u.updDie c f).oweTests m with outs := { ((u.updDie c f).oweTests m).outs with lsOwes := ((u.updDie c f).oweTests m).outs.lsOwes ||| ls } }).die = twoUpd u.die c f := fun u => by
    split <;> simp [State.updDie]
  rw [e]
  split
  · rw [State.abortTest_die]
  · rfl

@[simp] theorem State.ite_outs (c : Prop) [Decidable c] (a b : State) : (if c then a else b).outs = if c then a.outs else b.outs := apply_ite _ _ _ _

@[simp] theorem State.foldl_outs {α : Type} (f : State → α → State) (l : List α) (s : State) (h : ∀ s x, (f s x).outs = s.outs) : (l.foldl f s).outs = s.outs :=
  State.foldl_keep (·.outs) f h l s

@[simp] theorem State.put_outs (s : State) (f : Fld) (v : Nat) (c : Chan) (i : Nat) : (State.put s f v c i).outs = s.outs := by
  unfold State.put
  simp

@[simp] theorem State.putFlag_outs (s : State) (f : Fld) (v : Bool) (c : Chan) (i : Nat) : (State.putFlag s f v c i).outs = s.outs := by
  unfold State.putFlag
  simp

@[simp] theorem State.putBoth_outs (s : State) (f : Fld) (v : Nat) (i : Nat) : (State.putBoth s f v i).outs = s.outs := by
  unfold State.putBoth
  simp

@[simp] theorem State.satInc_outs (s : State) (f : Fld) (c : Chan) (i : Nat) : (State.satInc s f c i).outs = s.outs := by
  unfold State.satInc
  simp

@[simp] theorem State.recReady_outs (s : State) : (State.recReady s).outs = s.outs := by
  unfold State.recReady
  simp

@[simp] theorem State.pushRec_outs (s : State) (typ : Nat) (payload : List Nat) : (State.pushRec s typ payload).outs = s.outs := by
  unfold State.pushRec
  simp

@[simp] theorem State.dropEvent_outs (s : State) : (State.dropEvent s).outs = s.outs := by
  unfold State.dropEvent
  ((try dsimp only); repeat' (first | (simp; done) | split))

@[simp] theorem State.pushEvent_outs (s : State) (typ : Nat) (words : List Nat) (fault : Option (Chan × Nat)) : (State.pushEvent s typ words fault).outs = s.outs := by
  unfold State.pushEvent
  simp

@[simp] theorem State.advise_outs (s : State) (n : Nat) : (State.advise s n).outs = s.outs := by
  unfold State.advise
  dsimp only
  split
  · rfl
  · rw [State.raiseOnce_rest _ _ (show 0 < 2 by decide)]
    rfl

@[simp] theorem State.setVerify_outs (s : State) (v : Nat) : (State.setVerify s v).outs = s.outs := by
  unfold State.setVerify
  simp

@[simp] theorem State.replan_outs (s : State) : (State.replan s).outs = s.outs := by
  unfold State.replan
  simp

@[simp] theorem State.keepTemps_outs (s : State) (k : Nat) : (State.keepTemps s k).outs = s.outs := by
  unfold State.keepTemps
  simp

@[simp] theorem State.noteRon_outs (s : State) (n die r : Nat) (tj : Int) : (State.noteRon s n die r tj).outs = s.outs := by
  unfold State.noteRon
  simp

@[simp] theorem State.measureRon_outs (s : State) (k : TestKind) (unit mvA mvB ma : Nat) (tjA tjB : Int) : (State.measureRon s k unit mvA mvB ma tjA tjB).outs = s.outs := by
  unfold State.measureRon
  simp

@[simp] theorem State.showPhase_outs (s : State) (k : TestKind) (unit v : Nat) : (State.showPhase s k unit v).outs = s.outs := by
  unfold State.showPhase
  simp

@[simp] theorem State.sent_outs (s : State) (c : Chan) (l : Lane) : (State.sent s c l).outs = s.outs := by
  unfold State.sent
  simp

@[simp] theorem State.applyVerify_outs (s : State) : (State.applyVerify s).outs = s.outs := by
  unfold State.applyVerify
  simp

@[simp] theorem State.applyWant_outs (s : State) : (State.applyWant s).outs = s.outs := by
  unfold State.applyWant
  simp

theorem State.attributeTo_mono (s : State) (d : Chan) (n : Nat) (c : Chan) (l : Latch) (h : s.faulted c l) : (s.attributeTo d n).faulted c l := by
  have h1 : ∀ f : Fld, ((s.satInc f .a).satInc f .b).faulted c l := fun f => State.faulted_keep (by simp) h
  have h2 : ∀ (u : State) (e : FaultEv), u.faulted c l → (u.raiseOnce e).faulted c l := fun u e hu => State.raiseOnce_mono _ _ _ _ hu
  unfold State.attributeTo
  cases d
  all_goals
    dsimp only
    generalize hu : State.satInc _ _ _ = u
    have h3 : u.faulted c l := by rw [← hu]; exact h1 _
    split
    · exact h2 _ _ h3
    · exact h3

/-- A fault of an output latches in both collectors (R120). -/
theorem State.outFault_latched (s : State) (n line : Nat) (f : Fld) (die : Option Chan) (c : Chan) (hq : s.quiet) :
    (s.outFault n line f die).faulted c ⟨line, 1, .shared, .output n⟩ := by
  unfold State.outFault
  have h : ((s.putBoth f 1 n).raise (class1Both line (.output n) ((s.putBoth f 1 n).outDetail n))).faulted c ⟨line, 1, .shared, .output n⟩ :=
    State.raise_latched _ c _ (.inl (State.quiet_keep (by simp) hq)) (.inl rfl)
  cases die with
  | none => exact h
  | some d => exact State.attributeTo_mono _ d n c _ h

/-- E38 on an LSk latches in both collectors (R120). -/
theorem State.lsFault_latched (s : State) (k : Nat) (f : Fld) (c : Chan) (hq : s.quiet) : (s.lsFault k f).faulted c ⟨38, 1, .shared, .ls k⟩ := by
  unfold State.lsFault
  refine State.raise_latched _ c _ (.inl (State.quiet_keep ?_ hq)) (.inl rfl)
  rw [State.foldl_fcv _ _ _ (fun u n => by split <;> simp)]
  simp

/-- A slot that ends frees the output token. -/
theorem State.endSlot_slot (s : State) : s.endSlot.outs.slot = {} := by
  have e : ∀ u : State, u.applyVerify.outs.slot = u.outs.slot := fun u => by rw [State.applyVerify_outs]
  unfold State.endSlot
  dsimp only
  split
  · exact e _
  · exact e _

/-- A record changes only the Recorder Port's own registers: its counter of dropped records and its status. -/
theorem State.pushRec_get (s : State) (ty : Nat) (w : List Nat) (g : Fld) (d : Chan) (j : Nat)
    (h1 : fldAddr g (blockBase g.blk d) j ≠ fldAddr REC_COUNT_DROPPED (blockBase .llk .a) 0) (h2 : fldAddr g (blockBase g.blk d) j ≠ fldAddr REC_STATUS_LEVEL (blockBase .llk .a) 0) :
    (s.pushRec ty w).get g d j = s.get g d j := by
  have a : ∀ (u : State) (v : Nat), (u.put REC_STATUS_LEVEL v).get g d j = u.get g d j := fun u v => State.get_put_addr _ _ _ _ _ _ _ _ h2
  have b : ∀ (u : State) (v : Bool), (u.putFlag REC_STATUS_RDY v).get g d j = u.get g d j := fun u v => State.get_put_addr u REC_STATUS_RDY g _ .a d 0 j h2
  have hr : ∀ u : State, u.recReady.get g d j = u.get g d j := fun u => by
    unfold State.recReady
    dsimp only
    split
    · rw [b, a]
    · split
      · rw [b, a]
      · rw [a]
  have hd : ∀ u : State, (u.satInc REC_COUNT_DROPPED).get g d j = u.get g d j := fun u => by
    unfold State.satInc
    dsimp only
    split
    · exact State.get_put_addr _ _ _ _ _ _ _ _ h1
    · rfl
  unfold State.pushRec
  dsimp only
  split
  · split
    · exact hd _
    · split
      · exact hr _
      · split
        · exact hr _
        · exact hr _
  · rfl

/-- A field is as wide as its bits. -/
theorem State.get_lt (s : State) (f : Fld) (c : Chan) (i : Nat) : s.get f c i < 2 ^ (f.hi + 1 - f.lo) := by
  unfold State.get fldGet getBits
  exact Nat.mod_lt _ (Nat.two_pow_pos _)

/-- A saturating counter after one event. -/
theorem State.get_satInc (s : State) (f : Fld) (c : Chan) (i : Nat) (hf : f.ok = true) :
    (s.satInc f c i).get f c i = min (s.get f c i + 1) (2 ^ (f.hi + 1 - f.lo) - 1) := by
  have hlt : s.get f c i < 2 ^ (f.hi + 1 - f.lo) := State.get_lt s f c i
  unfold State.satInc
  dsimp only
  split
  · next h =>
    rw [State.get_put_same _ _ _ _ _ hf, Nat.mod_eq_of_lt h]
    omega
  · omega

/-- The stop of a participant after a change to every participant's (R222). -/
theorem State.updStops_at (s : State) (f : StopSt → StopSt) (c : Chan) (h : c ∈ s.parts) : twoAt (s.updStops f).stop c = f (twoAt s.stop c) := by
  have h1 : s.parts = [.a] ∨ s.parts = [.b] ∨ s.parts = [.a, .b] ∨ s.parts = [] := by
    unfold State.parts
    repeat' split
    all_goals simp
  unfold State.updStops
  rcases h1 with h1 | h1 | h1 | h1 <;> rw [h1] at h ⊢ <;> cases c <;> first | rfl | exact absurd h (by decide)

theorem State.updStops_die (f : StopSt → StopSt) (s : State) : (s.updStops f).die = s.die := by
  unfold State.updStops
  apply State.foldl_keep (·.die)
  intro u c
  rfl

/-- Disarming a Furl timer leaves the watchdog's hold. -/
theorem State.disarmFurl_heldWd (s : State) (d c : Chan) : (twoAt (s.disarmFurl d).die c).heldWd = (twoAt s.die c).heldWd := by
  cases c <;> cases d <;> rfl

/-- The end of every stop leaves the watchdog's hold. -/
theorem State.endStops_heldWd (s : State) (k : Nat) (c : Chan) : (twoAt (s.endStops k).die c).heldWd = (twoAt s.die c).heldWd := by
  have h1 : ∀ (u : State) (d : Chan) (p : Prop) [Decidable p] (f : StopSt → StopSt) (g : Fld) (v w : Nat),
      (if p then (((({ u with stop := twoUpd u.stop d f }).put DSF_STATUS_END_CAUSE v d).put DSF_STATUS_PHASE w d).satInc g d) else u).die = u.die := fun u d p _ f g v w => by
    split <;> simp
  have h2 : ∀ (u : State) (d : Chan) (p : Prop) [Decidable p], (twoAt (if p then u.disarmFurl d else u).die c).heldWd = (twoAt u.die c).heldWd := fun u d p _ => by
    split
    · exact u.disarmFurl_heldWd d c
    · rfl
  unfold State.endStops
  dsimp only
  show (twoAt (State.showFurl _).die c).heldWd = _
  have e : ∀ u : State, u.showFurl.die = u.die := fun u => rfl
  rw [e, h2, h2, h1, h1]

end Sys2Proof.Machine
end

