-- ==== Sys2Proof/Laws/Security.lean ====
section
/-! SUPPORT. What the commands of the fuses, the condition monitor, the timers and the check-value units leave of the security state and of the blocks. -/

namespace Sys2Proof.Machine

open Sys2Proof

@[simp] theorem State.ite_sec (c : Prop) [Decidable c] (a b : State) : (if c then a else b).sec = if c then a.sec else b.sec := apply_ite _ _ _ _

@[simp] theorem State.foldl_sec {α : Type} (f : State → α → State) (l : List α) (s : State) (h : ∀ s x, (f s x).sec = s.sec) : (l.foldl f s).sec = s.sec :=
  State.foldl_keep (·.sec) f h l s

@[simp] theorem State.put_sec (s : State) (f : Fld) (v : Nat) (c : Chan) (i : Nat) : (State.put s f v c i).sec = s.sec := by
  unfold State.put
  simp

@[simp] theorem State.putFlag_sec (s : State) (f : Fld) (v : Bool) (c : Chan) (i : Nat) : (State.putFlag s f v c i).sec = s.sec := by
  unfold State.putFlag
  simp

@[simp] theorem State.putBoth_sec (s : State) (f : Fld) (v : Nat) (i : Nat) : (State.putBoth s f v i).sec = s.sec := by
  unfold State.putBoth
  simp

@[simp] theorem State.satInc_sec (s : State) (f : Fld) (c : Chan) (i : Nat) : (State.satInc s f c i).sec = s.sec := by
  unfold State.satInc
  simp

@[simp] theorem State.recReady_sec (s : State) : (State.recReady s).sec = s.sec := by
  unfold State.recReady
  simp

@[simp] theorem State.pushRec_sec (s : State) (typ : Nat) (payload : List Nat) : (State.pushRec s typ payload).sec = s.sec := by
  unfold State.pushRec
  simp

@[simp] theorem State.dropEvent_sec (s : State) : (State.dropEvent s).sec = s.sec := by
  unfold State.dropEvent
  ((try dsimp only); repeat' (first | (simp; done) | split))

@[simp] theorem State.pushEvent_sec (s : State) (typ : Nat) (words : List Nat) (fault : Option (Chan × Nat)) : (State.pushEvent s typ words fault).sec = s.sec := by
  unfold State.pushEvent
  simp

@[simp] theorem State.setVerify_sec (s : State) (v : Nat) : (State.setVerify s v).sec = s.sec := by
  unfold State.setVerify
  simp

@[simp] theorem State.replan_sec (s : State) : (State.replan s).sec = s.sec := by
  unfold State.replan
  simp

@[simp] theorem State.raiseOnce_sec (s : State) (e : FaultEv) (h : e.cls < 2) : (s.raiseOnce e).sec = s.sec := by
  rw [State.raiseOnce_rest _ _ h]

@[simp] theorem State.advise_sec (s : State) (n : Nat) : (s.advise n).sec = s.sec := by
  unfold State.advise
  dsimp only
  split
  · rfl
  · rw [State.raiseOnce_sec _ _ (show 0 < 2 by decide)]
    rfl

/-- The running OTP command is no other command's business. -/
theorem State.blow_otpRun (s : State) (n : Nat) (f : BitVec 72) : (s.blow n f).sec.otpRun = s.sec.otpRun := by
  have h : ∀ u : State, u.showOtp.sec = u.sec := fun u => by
    unfold State.showOtp
    dsimp only
    simp only [State.put_sec]
    refine Eq.trans (b := (u.put OTP_LOCK_LOCKED (tallyValue (u.fuses 1) % 128)).sec) ?_ rfl
    apply State.foldl_keep (·.sec)
    intro v e
    rfl
  unfold State.blow
  rw [h]
  rfl

theorem State.blowPart_otpRun (s : State) (n : Nat) (f : BitVec 72) : (s.blowPart n f).sec.otpRun = s.sec.otpRun := by
  unfold State.blowPart
  exact State.blow_otpRun _ _ _

theorem State.otpBlow_otpRun (s : State) (c : OtpCmd) (ok : Bool) : (s.otpBlow c ok).1.sec.otpRun = s.sec.otpRun := by
  have h1 : ∀ (l : List Nat) (u : State), (l.foldl (fun s n => s.blow n (wordFuses voidData)) u).sec.otpRun = u.sec.otpRun := fun l u =>
    State.foldl_keep (fun s => s.sec.otpRun) _ (fun u n => u.blow_otpRun n _) l u
  have h2 : ∀ (l : List Nat) (u : State), (l.foldl (fun s n => s.blowPart n (wordFuses voidData)) u).sec.otpRun = u.sec.otpRun := fun l u =>
    State.foldl_keep (fun s => s.sec.otpRun) _ (fun u n => u.blowPart_otpRun n _) l u
  have h3 : ∀ (u : State) (n b : Nat), (u.tally n b).sec.otpRun = u.sec.otpRun := fun u n b => u.blow_otpRun _ _
  unfold State.otpBlow
  split
  · dsimp only
    split
    · rfl
    · split
      · exact State.blow_otpRun _ _ _
      · exact State.blowPart_otpRun _ _ _
  · dsimp only
    split
    · rfl
    · split
      · exact h3 _ _ _
      · exact State.blowPart_otpRun _ _ _
  · split
    · rfl
    · split
      · exact h1 _ _
      · exact h2 _ _
  · rfl

theorem State.otpShow_sec (s : State) (n : Nat) (three : Bool) (o : Sense) : (s.otpShow n three o).sec = s.sec := by
  have h : ∀ (u : State) (k : Nat), (u.otpAlarm k).sec = u.sec := fun u k => by
    unfold State.otpAlarm
    simp [class0]
  unfold State.otpShow
  dsimp only
  repeat' split
  all_goals simp [h]

@[simp] theorem State.accrue_temps (s : State) (d : Nat) (tj : Int) : (s.accrue d tj).sec.temps = s.sec.temps ∧ (s.accrue d tj).sec.measAt = s.sec.measAt := by
  unfold State.accrue
  dsimp only
  split
  · rw [State.advise_sec]
    exact ⟨rfl, rfl⟩
  · exact ⟨rfl, rfl⟩

theorem State.logLife_temps (s : State) : s.logLife.sec.temps = s.sec.temps ∧ s.logLife.sec.measAt = s.sec.measAt := by
  unfold State.logLife
  dsimp only
  split <;> exact ⟨rfl, rfl⟩

theorem State.project_sec (s : State) : s.project.sec = s.sec := by
  unfold State.project
  dsimp only
  repeat' split
  all_goals simp

end Sys2Proof.Machine
end

