-- ==== Sys2Proof/Laws/Host.lean ====
section
/-! SUPPORT. What a host command's shared operations do: running it, and writing its completion (R288 to R293). -/

namespace Sys2Proof.Machine

open Sys2Proof

theorem State.updHly_hly (s : State) (f : HlySt → HlySt) : (s.updHly f).hly = f s.hly := rfl
theorem State.updHly_regs (s : State) (f : HlySt → HlySt) : (s.updHly f).regs = s.regs := rfl

/-- A vector raised changes the vectors only. -/
theorem State.raiseRing_only (s : State) (n : Nat) : s.raiseRing n = { s with hly := { s.hly with vecs := (s.raiseRing n).hly.vecs } } := by
  unfold State.raiseRing
  dsimp only
  split
  · unfold State.sendVector
    split <;> rfl
  · split <;> rfl

/-- A completion that is written changes its ring's index, the vectors, its ring's count of fetched descriptors, and the last completion. -/
theorem State.cmdDone_only (s : State) (d : Done) (irq : Bool) :
    s.cmdDone d irq true = { s.put HLY_RING_n_IDX_DEV_IDX ((s.devIdx d.ring + 1) % 2 ^ 32) .a d.ring with
      hly := { s.hly with rings := tabUpd {} s.hly.rings d.ring (fun r => { r with fetched := r.fetched - 1 }), last := some d, vecs := (s.cmdDone d irq true).hly.vecs } } := by
  unfold State.cmdDone
  rw [if_pos rfl]
  dsimp only
  split
  · rw [State.raiseRing_only]
    rfl
  · rfl

/-- What a completion leaves of Halyard. -/
theorem State.cmdDone_hly (s : State) (d : Done) (irq : Bool) :
    (s.cmdDone d irq true).hly.last = some d ∧ (s.cmdDone d irq true).hly.exclusive = s.hly.exclusive ∧
    (s.cmdDone d irq true).hly.rings = tabUpd {} s.hly.rings d.ring (fun r => { r with fetched := r.fetched - 1 }) := by
  rw [State.cmdDone_only]
  exact ⟨rfl, rfl, rfl⟩

theorem State.cmdDone_sec (s : State) (d : Done) (irq : Bool) : (s.cmdDone d irq true).sec = s.sec := by
  rw [State.cmdDone_only]
  rfl

theorem State.cmdDone_die (s : State) (d : Done) (irq : Bool) : (s.cmdDone d irq true).die = s.die := by
  rw [State.cmdDone_only]
  rfl

theorem State.cmdDone_regs (s : State) (d : Done) (irq : Bool) : (s.cmdDone d irq true).regs = (s.put HLY_RING_n_IDX_DEV_IDX ((s.devIdx d.ring + 1) % 2 ^ 32) .a d.ring).regs := by
  rw [State.cmdDone_only]

/-- A register outside the ring indices reads the same after a completion. -/
theorem State.cmdDone_get (s : State) (d : Done) (irq : Bool) (f : Fld) (c : Chan) (i : Nat)
    (h : fldAddr f (blockBase f.blk c) i ≠ fldAddr HLY_RING_n_IDX_DEV_IDX (blockBase .hly .a) d.ring) : (s.cmdDone d irq true).get f c i = s.get f c i := by
  refine (State.get_of_regs _ _ (State.cmdDone_regs s d irq) f c i).trans ?_
  exact State.get_put_addr s HLY_RING_n_IDX_DEV_IDX f _ .a c d.ring i h

theorem State.cmdDone_idx (s : State) (d : Done) (irq : Bool) : (s.cmdDone d irq true).devIdx d.ring = (s.devIdx d.ring + 1) % 2 ^ 32 := by
  unfold State.devIdx
  refine (State.get_of_regs _ _ (State.cmdDone_regs s d irq) _ _ _).trans ?_
  rw [State.get_put_same _ _ _ _ _ (by decide)]
  exact Nat.mod_mod _ _

/-- A command without a buffer runs. -/
theorem State.command_none (s : State) (r : Nat) (d : Desc) (f : State → State × Ends) (h1 : s.mayRun r = true) (h2 : d.flags < 4) (h3 : d.length = 0) :
    s.command r d .none f = (f { s with now := max s.now d.t }).1.finish r d (f { s with now := max s.now d.t }).2 := by
  unfold State.command
  dsimp only
  rw [if_neg (by show ¬ (s.mayRun r = false); simp [h1]), if_neg (by omega), if_neg (by simp [Buf.fits, h3])]

/-- A command that reads a buffer runs. -/
theorem State.command_inp (s : State) (r n : Nat) (d : Desc) (f : State → State × Ends) (h1 : s.mayRun r = true) (h2 : d.flags < 4) (h3 : (Buf.inp n).fits d = true) (h4 : d.length ≠ 0) :
    s.command r d (.inp n) f = (f { s with now := max s.now d.t }).1.finish r d (f { s with now := max s.now d.t }).2 := by
  unfold State.command
  dsimp only
  rw [if_neg (by show ¬ (s.mayRun r = false); simp [h1]), if_neg (by omega), if_neg (by simp [h3]), if_neg h4]

/-- A command that writes a buffer runs, where the buffer can be written. -/
theorem State.command_out (s : State) (r n : Nat) (d : Desc) (f : State → State × Ends) (h1 : s.mayRun r = true) (h2 : d.flags < 4) (h3 : (Buf.out n).fits d = true) (h4 : d.bufOk = true) :
    s.command r d (.out n) f = (f { s with now := max s.now d.t }).1.finish r d (f { s with now := max s.now d.t }).2 := by
  unfold State.command
  dsimp only
  rw [if_neg (by show ¬ (s.mayRun r = false); simp [h1]), if_neg (by omega), if_neg (by simp [h3]), if_neg (by rintro ⟨_, _, h⟩; simp [h4] at h)]

theorem State.finish_eq (s : State) (r : Nat) (d : Desc) (e : Ends) (h : d.doneOk = true) : s.finish r d e = s.cmdDone ⟨r, d.tag, e.status, e.result, e.data⟩ d.irq true := by
  unfold State.finish
  rw [h]

/-- The ring's authority was needed: its time is noted (R291). -/
def State.noteNeed (s : State) (r : Nat) : State := (s.updRing r (fun x => { x with authAt := s.now })).put SEC_AUTH_n_IDLE_LEFT 30 .a r

/-- A command that needs a scope its ring holds runs, and the time of the need is noted. -/
theorem State.withScope_held (s : State) (r k : Nat) (f : State → State × Ends) (h : s.holds r k = true) :
    s.withScope r k f = f (s.noteNeed r) := by
  unfold State.withScope
  rw [if_pos h]
  rfl

theorem State.alone_none (s : State) (f : State → State × Ends) (h : s.hly.exclusive = none) : s.alone f = f s := by
  unfold State.alone
  rw [h]

theorem State.updRing_ring (s : State) (r : Nat) (f : RingSt → RingSt) : (s.updRing r f).ring r = f (s.ring r) := tabGet_tabUpd_same _ _ _ _

theorem State.put_ring (s : State) (f : Fld) (v : Nat) (c : Chan) (i n : Nat) : (s.put f v c i).ring n = s.ring n := rfl

/-- A register of another block reads the same after a completion. -/
theorem State.cmdDone_blk (s : State) (d : Done) (irq : Bool) (f : Fld) (c : Chan) (i : Nat) (hb : f.blk ≠ .hly) (hd : d.ring < 8) (hf : f.off + f.stride * i < 0x10000) :
    (s.cmdDone d irq true).get f c i = s.get f c i :=
  State.cmdDone_get s d irq f c i (fldAddr_ne_of_blk HLY_RING_n_IDX_DEV_IDX f .a c d.ring i hb (by show 0x200 + 8 * d.ring < 0x10000; omega) hf)

/-! ## Authority (R291, R367) -/

theorem State.pushEvent_hly (s : State) (ty : Nat) (w : List Nat) (e : Option (Chan × Nat)) : (s.pushEvent ty w e).hly = s.hly := by
  rw [State.pushEvent_rest]

theorem State.authChanged_hly (s : State) : s.authChanged.hly = s.hly := by
  unfold State.authChanged State.showDiag
  dsimp only
  split
  · rfl
  · unfold State.setRegion State.fwEvent
    rw [State.pushEvent_hly]
    rfl

/-- A change of authority writes Halyard's registers only. -/
theorem State.authChanged_keepsRegs (s : State) : State.keepsRegs [.hly] s s.authChanged := by
  have h1 : State.keepsRegs [.hly] s s.showAuth :=
    ((State.keepsRegs.refl _ _).put_of HLY_STATUS_OWNER_AUTH _ .a 0 (by decide) (by decide)).put_of HLY_STATUS_VENDOR_AUTH _ .a 0 (by decide) (by decide)
  unfold State.authChanged State.showDiag
  dsimp only
  split
  · exact h1
  · unfold State.setRegion State.fwEvent
    exact (h1.trans (.of_regs rfl)).trans (State.pushEvent_keepsRegs _ _ _ _)

/-- SERVICE ends: a ring without authority stays without. -/
theorem State.endService_scope (s : State) (r : Nat) (hr : r < 8) (h : s.get SEC_AUTH_n_SCOPE .a r = 0) : s.endService.get SEC_AUTH_n_SCOPE .a r = 0 := by
  unfold State.endService
  dsimp only
  have key : ∀ (l : List Nat) (x : State), (∀ n ∈ l, n < 8) → x.get SEC_AUTH_n_SCOPE .a r = 0 → (l.foldl (fun (s : State) n => s.put SEC_AUTH_n_SCOPE (s.get SEC_AUTH_n_SCOPE .a n % 256) .a n) x).get SEC_AUTH_n_SCOPE .a r = 0 := by
    intro l
    induction l with
    | nil => intro x _ hx; exact hx
    | cons a l ih =>
      intro x hl hx
      have hla := hl a (List.mem_cons_self ..)
      refine ih _ (fun n hn => hl n (List.mem_cons_of_mem _ hn)) ?_
      by_cases ha : a = r
      · subst ha
        rw [State.get_put_same _ _ _ _ _ (by decide), hx]
        rfl
      · rw [State.get_put_addr _ SEC_AUTH_n_SCOPE SEC_AUTH_n_SCOPE _ .a .a a r (fldAddr_ne_of_off _ _ _ _ _ rfl (by show (0x130 + 4 * r) % 0x10000 ≠ (0x130 + 4 * a) % 0x10000; omega))]
        exact hx
  refine key _ _ (fun n hn => List.mem_range.mp hn) ?_
  have e1 : ∀ i : Nat, i < 8 → ∀ f : Fld, f.blk = .otp → f.off = 0x100 → f.stride = 0 → fldAddr SEC_AUTH_n_SCOPE (blockBase .otp .a) i ≠ fldAddr f (blockBase f.blk .a) 0 := by
    intro i hi f hb ho hs
    rw [hb]
    refine fldAddr_ne_of_off _ _ _ _ _ rfl ?_
    rw [ho, hs]
    show (0x130 + 4 * i) % 0x10000 ≠ _
    omega
  rw [State.get_put_addr _ SEC_LIFECYCLE_SVC_LEFT SEC_AUTH_n_SCOPE _ .a .a 0 r (e1 r hr _ rfl rfl rfl), State.get_put_addr _ SEC_LIFECYCLE_SVC_FROM SEC_AUTH_n_SCOPE _ .a .a 0 r (e1 r hr _ rfl rfl rfl)]
  refine (State.get_of_regs (if s.lifecycle = lcSERVICE then s.put SEC_LIFECYCLE_STATE (s.get SEC_LIFECYCLE_SVC_FROM) else s) _ rfl _ _ _).trans ?_
  split
  · rw [State.get_put_addr _ SEC_LIFECYCLE_STATE SEC_AUTH_n_SCOPE _ .a .a 0 r (e1 r hr _ rfl rfl rfl)]
    exact h
  · exact h

/-- The authority of a ring ends. -/
theorem State.endAuth_scope (s : State) (r : Nat) (hr : r < 8) : (s.endAuth r).get SEC_AUTH_n_SCOPE .a r = 0 := by
  unfold State.endAuth
  split
  · assumption
  · have h0 : (((s.put SEC_AUTH_n_SCOPE 0 .a r).put SEC_AUTH_n_IDLE_LEFT 0 .a r).pushEvent 4 [4, r, 0, 0]).get SEC_AUTH_n_SCOPE .a r = 0 := by
      rw [(State.pushEvent_keepsRegs _ _ _ _) SEC_AUTH_n_SCOPE .a r (by decide) (by show 0x130 + 4 * r < 0x10000; omega),
        State.get_put_bits _ SEC_AUTH_n_IDLE_LEFT SEC_AUTH_n_SCOPE _ .a r (by decide) rfl rfl rfl rfl (.inl (by decide)), State.get_put_same _ _ _ _ _ (by decide)]
      rfl
    dsimp only
    rw [State.authChanged_keepsRegs _ SEC_AUTH_n_SCOPE .a r (by decide) (by show 0x130 + 4 * r < 0x10000; omega)]
    split
    · exact State.endService_scope _ r hr h0
    · exact h0

/-- A response that passes, without SERVICE: the ring's time is noted, and its scope joins those it holds. -/
theorem State.grant_plain (s : State) (r : Nat) (a : AuthResp) (hr : r < 8) (h : a.service = false) (ha : a.scope < 2 ^ 16) :
    (s.grant r a).hly = (s.updRing r (fun x => { x with authAt := s.now })).hly ∧ (s.grant r a).get SEC_AUTH_n_SCOPE .a r = (s.get SEC_AUTH_n_SCOPE .a r ||| a.scope) := by
  have hl : s.get SEC_AUTH_n_SCOPE .a r < 2 ^ 16 := Nat.mod_lt _ (Nat.two_pow_pos _)
  have ho : SEC_AUTH_n_SCOPE.off + SEC_AUTH_n_SCOPE.stride * r < 0x10000 := by show 0x130 + 4 * r < 0x10000; omega
  have e1 : fldAddr SEC_AUTH_n_SCOPE (blockBase .otp .a) r ≠ fldAddr SEC_AUTH_FAIL_FAILS (blockBase .otp .a) 0 := by
    refine fldAddr_ne_of_off _ _ _ _ _ rfl ?_
    simp only [SEC_AUTH_n_SCOPE, SEC_AUTH_FAIL_FAILS]
    omega
  unfold State.grant
  dsimp only
  rw [if_neg (by simp [h])]
  refine ⟨?_, ?_⟩
  · rw [State.authChanged_hly, State.pushEvent_hly]
    rfl
  · rw [State.authChanged_keepsRegs _ SEC_AUTH_n_SCOPE .a r (by decide) ho, State.pushEvent_keepsRegs _ _ _ _ SEC_AUTH_n_SCOPE .a r (by decide) ho]
    refine (State.get_of_regs (((s.put SEC_AUTH_FAIL_FAILS 0).put SEC_AUTH_n_SCOPE ((s.put SEC_AUTH_FAIL_FAILS 0).get SEC_AUTH_n_SCOPE .a r ||| a.scope) .a r).put SEC_AUTH_n_IDLE_LEFT 30 .a r) _ rfl _ _ _).trans ?_
    rw [State.get_put_bits _ SEC_AUTH_n_IDLE_LEFT SEC_AUTH_n_SCOPE _ .a r (by decide) rfl rfl rfl rfl (.inl (by decide)), State.get_put_same _ _ _ _ _ (by decide),
      State.get_put_addr _ SEC_AUTH_FAIL_FAILS SEC_AUTH_n_SCOPE _ .a .a 0 r e1]
    exact Nat.mod_eq_of_lt (Nat.or_lt_two_pow hl ha)

/-! ## What noting the need of authority leaves alone -/

theorem State.noteNeed_sec (s : State) (r : Nat) : (s.noteNeed r).sec = s.sec := rfl

theorem State.noteNeed_get (s : State) (r : Nat) (hr : r < 8) (f : Fld) (i : Nat) (h : f.blk ≠ .otp ∨ f.off + f.stride * i < 0x130) (ho : f.off + f.stride * i < 0x10000) : (s.noteNeed r).get f .a i = s.get f .a i := by
  unfold State.noteNeed
  rcases h with h | h
  · rw [State.get_put_blk _ SEC_AUTH_n_IDLE_LEFT f _ .a .a r i h (by show 0x130 + 4 * r < 0x10000; omega) ho]
    rfl
  · by_cases hb : f.blk = .otp
    · rw [State.get_put_addr _ SEC_AUTH_n_IDLE_LEFT f _ .a .a r i (by
        rw [hb]
        refine fldAddr_ne_of_off _ _ _ _ _ rfl ?_
        show _ ≠ (0x130 + 4 * r) % 0x10000
        omega)]
      rfl
    · rw [State.get_put_blk _ SEC_AUTH_n_IDLE_LEFT f _ .a .a r i hb (by show 0x130 + 4 * r < 0x10000; omega) ho]
      rfl

theorem State.noteNeed_identity (s : State) (r : Nat) (hr : r < 8) : (s.noteNeed r).identity = s.identity := by
  have key : ∀ (l : List Nat) (v : Nat), (∀ k ∈ l, k < 4) →
      l.foldl (fun (v : Nat) k => v + (s.noteNeed r).get SEC_DEVICE_ID_n_ID .a k * 2 ^ (32 * k)) v = l.foldl (fun (v : Nat) k => v + s.get SEC_DEVICE_ID_n_ID .a k * 2 ^ (32 * k)) v := by
    intro l
    induction l with
    | nil => intro v _; rfl
    | cons a l ih =>
      intro v hl
      have ha : a < 4 := hl a (List.mem_cons_self ..)
      rw [List.foldl_cons, List.foldl_cons, State.noteNeed_get s r hr SEC_DEVICE_ID_n_ID a (.inr (by simp only [SEC_DEVICE_ID_n_ID]; omega)) (by simp only [SEC_DEVICE_ID_n_ID]; omega)]
      exact ih _ fun k hk => hl k (List.mem_cons_of_mem _ hk)
  exact key _ _ fun k hk => List.mem_range.mp hk

theorem State.noteNeed_keyOk (s : State) (r : Nat) (hr : r < 8) (d : Desc) (k : KeyBlob) : (s.noteNeed r).keyOk d k = s.keyOk d k := by
  unfold State.keyOk State.ownerKeyOk
  rw [State.noteNeed_identity s r hr, State.noteNeed_get s r hr SEC_KEYCTL_OWNER_REV 0 (.inr (by decide)) (by decide)]
  rfl

theorem State.noteNeed_stageTarget (s : State) (r : Nat) (hr : r < 8) (f : StageFile) : (s.noteNeed r).stageTarget f = s.stageTarget f := by
  unfold State.stageTarget State.targetOk
  rw [State.noteNeed_identity s r hr, State.noteNeed_get s r hr SYS_ID_PART 0 (.inl (by decide)) (by decide), State.noteNeed_get s r hr SYS_ID_STEPPING 0 (.inl (by decide)) (by decide)]

theorem State.noteNeed_stageKey (s : State) (r : Nat) (hr : r < 8) (f : StageFile) : (s.noteNeed r).stageKey f = s.stageKey f := by
  unfold State.stageKey
  rw [State.noteNeed_get s r hr SEC_KEYCTL_VENDOR_REV 0 (.inr (by decide)) (by decide)]

theorem State.noteNeed_stageRollback (s : State) (r : Nat) (hr : r < 8) (f : StageFile) : (s.noteNeed r).stageRollback f = s.stageRollback f := by
  unfold State.stageRollback
  rw [State.noteNeed_get s r hr SEC_ROLLBACK_FW 0 (.inr (by decide)) (by decide), State.noteNeed_sec]

theorem State.noteNeed_stageCheck (s : State) (r : Nat) (hr : r < 8) (f : StageFile) (n : Nat) : (s.noteNeed r).stageCheck f n = s.stageCheck f n := by
  unfold State.stageCheck
  rw [State.noteNeed_stageTarget s r hr, State.noteNeed_stageKey s r hr, State.noteNeed_stageRollback s r hr]

theorem State.installKey_keys (s : State) (e : Nat) : (s.installKey e).sec.lineKeys = e :: s.sec.lineKeys := by
  unfold State.installKey
  dsimp only
  split <;> rfl

/-! ## SHUTDOWN (R436) -/

theorem State.abortTest_sec (s : State) : s.abortTest.sec = s.sec := by
  unfold State.abortTest
  dsimp only
  split
  · rfl
  · split
    · rw [State.satInc_sec, State.satInc_sec]
    · rw [State.pushRec_sec, State.putBoth_sec, State.satInc_sec, State.satInc_sec]

theorem State.setDev_dev (s : State) (n : Nat) (h : n < 16) : (s.setDev n).dev = n := by
  unfold State.setDev
  dsimp only
  split
  · assumption
  · unfold State.dev
    rw [State.pushEvent_keepsRegs _ _ _ _ SYS_STATE_DEV_STATE .a 0 (by decide) (by decide), State.get_put_same _ _ _ _ _ (by decide)]
    exact Nat.mod_eq_of_lt h

theorem State.settle_shutdown (s : State) (h : s.dev = stSHUTDOWN) : s.settle.dev = stSHUTDOWN := by
  unfold State.settle
  dsimp only
  rw [h, if_neg (by rintro ⟨_, h⟩; exact absurd h (by decide)), if_neg (by rintro ⟨_, h, _⟩; revert h; decide), if_neg (by rintro ⟨_, h, _⟩; exact absurd h (by decide))]
  unfold State.showPins
  split
  · exact h
  · refine Eq.trans ?_ h
    exact ((State.keepsRegs.refl [Block.fc] s).put_of FC_FLT_CFG_PIN_CMD _ .a 0 (by decide) (by decide)).put_of FC_FLT_CFG_PIN_CMD _ .b 0 (by decide) (by decide) SYS_STATE_DEV_STATE .a 0 (by decide) (by decide)

theorem State.showKill_keepsRegs (s : State) : State.keepsRegs [.sout] s s.showKill := by
  have hb : ∀ (x : State) (f : Fld) (v i : Nat), f.blk = .sout → f.off + f.stride * i < 0x10000 → State.keepsRegs [.sout] x (x.putBoth f v i) := fun x f v i h ho =>
    ((State.keepsRegs.refl [.sout] x).put_of f v .a i (by simp [h]) ho).put_of f v .b i (by simp [h]) ho
  have hf : ∀ (l : List Nat) (x : State), (∀ k ∈ l, k < 4) → State.keepsRegs [.sout] x (l.foldl (fun s k =>
      (s.putBoth SOUT_LS_n_STAT_HELD (s.die.b.lsHeld.getLsbD k).toNat k).putBoth SOUT_LS_n_STAT_CLOSED (s.lsClosed.getLsbD k).toNat k) x) := by
    intro l
    induction l with
    | nil => intro x _; exact .refl _ _
    | cons a l ih =>
      intro x hl
      have ha : a < 4 := hl a (List.mem_cons_self ..)
      refine State.keepsRegs.trans ?_ (ih _ fun k hk => hl k (List.mem_cons_of_mem _ hk))
      have ho : SOUT_LS_n_STAT_HELD.off + SOUT_LS_n_STAT_HELD.stride * a < 0x10000 := by simp only [SOUT_LS_n_STAT_HELD]; omega
      have ho' : SOUT_LS_n_STAT_CLOSED.off + SOUT_LS_n_STAT_CLOSED.stride * a < 0x10000 := by simp only [SOUT_LS_n_STAT_CLOSED]; omega
      exact (hb x _ _ a rfl ho).trans (hb _ _ _ a rfl ho')
  unfold State.showKill
  dsimp only
  exact ((hb s _ _ 0 rfl (by decide)).trans (hb _ _ _ 0 rfl (by decide))).trans (hf _ _ (by decide))

theorem State.showKill_sec (s : State) : s.showKill.sec = s.sec := by
  unfold State.showKill
  dsimp only
  rw [State.foldl_sec _ _ _ (by intros; rw [State.putBoth_sec, State.putBoth_sec]), State.putBoth_sec, State.putBoth_sec]

theorem State.startRun_does (s : State) (k : RunKind) : State.keepsRegs [.bst] s (s.startRun k) ∧ (s.startRun k).sec.run = some k ∧ (s.startRun k).die = s.die :=
  ⟨((State.keepsRegs.refl [Block.bst] s).put_of BST_STATUS_ORIGIN _ .a 0 (by decide) (by decide)).put_of BST_STATUS_BUSY _ .a 0 (by decide) (by decide), rfl, rfl⟩

theorem State.settle_die (s : State) : s.settle.die = s.die := by
  rw [State.settle_rest]

theorem State.settle_sec (s : State) : s.settle.sec = s.sec := by
  rw [State.settle_rest]

theorem State.setDev_parts (s : State) (n : Nat) : (s.setDev n).sec = s.sec ∧ (s.setDev n).die = s.die ∧ (s.setDev n).outs = s.outs := by
  rw [State.setDev_rest]
  exact ⟨rfl, rfl, rfl⟩

/-- R436: SHUTDOWN is entered, every switch command withdrawn, and the Ratline run started. -/
theorem State.shutdownRequest_does (s : State) (h1 : s.mayShutdown = true) (h2 : s.sec.l3 = none) (h3 : s.outs.slot.unit < 20) :
    s.shutdownRequest.dev = stSHUTDOWN ∧ s.shutdownRequest.sec.run = some .shutdown ∧ s.shutdownRequest.die = twoMap s.die (fun d => { d with cmd := 0, lsCmd := 0, staged := none, holding := false }) := by
  have e1 : (s.setDev stSHUTDOWN).abortTest.dev = stSHUTDOWN :=
    (State.abortTest_keepsRegs _ (by rw [(State.setDev_parts s _).2.2]; exact h3) SYS_STATE_DEV_STATE .a 0 (by decide) (by decide)).trans (State.setDev_dev s stSHUTDOWN (by decide))
  have e2 : (s.setDev stSHUTDOWN).abortTest.sec.l3 = none := by
    rw [State.abortTest_sec, (State.setDev_parts s _).1]
    exact h2
  have e3 : (s.setDev stSHUTDOWN).abortTest.die = s.die := by
    rw [State.abortTest_die, (State.setDev_parts s _).2.1]
  unfold State.shutdownRequest
  rw [if_pos h1]
  dsimp only
  generalize (s.setDev stSHUTDOWN).abortTest = x at e1 e2 e3
  have e4 : x.copySummary.sec.l3 = none := e2
  have e5 : x.copySummary.dev = stSHUTDOWN := e1
  have e6 : x.copySummary.die = s.die := e3
  generalize x.copySummary = y at e4 e5 e6
  have e7 : ({ y with die := twoMap y.die (fun d => { d with cmd := 0, lsCmd := 0, staged := none, holding := false }) } : State).showKill.sec.l3 = none := by
    rw [State.showKill_sec]
    exact e4
  have e8 : ({ y with die := twoMap y.die (fun d => { d with cmd := 0, lsCmd := 0, staged := none, holding := false }) } : State).showKill.dev = stSHUTDOWN :=
    (State.showKill_keepsRegs _ SYS_STATE_DEV_STATE .a 0 (by decide) (by decide)).trans e5
  have e9 : ({ y with die := twoMap y.die (fun d => { d with cmd := 0, lsCmd := 0, staged := none, holding := false }) } : State).showKill.die = twoMap s.die (fun d => { d with cmd := 0, lsCmd := 0, staged := none, holding := false }) := by
    rw [State.showKill_die]
    dsimp only
    rw [e6]
  generalize ({ y with die := twoMap y.die (fun d => { d with cmd := 0, lsCmd := 0, staged := none, holding := false }) } : State).showKill = z at e7 e8 e9
  rw [if_neg (by simp [e7])]
  refine ⟨State.settle_shutdown _ (((State.startRun_does z _).1 SYS_STATE_DEV_STATE .a 0 (by decide) (by decide)).trans e8), ?_, ?_⟩
  · rw [State.settle_sec]
    exact (State.startRun_does z _).2.1
  · rw [State.settle_die, (State.startRun_does z _).2.2]
    exact e9

/-! ## RESTART (R196) -/

theorem State.bootImage_fcv (s : State) (nets : Bool) : (s.bootImage true nets).fcv = s.fcv := by
  unfold State.bootImage State.startWith
  split
  · exact State.updSec_fcv _ _
  · split
    · rw [State.updSec_fcv, State.showImgErr_fcv]
    · rw [if_neg (by decide)]
      split
      · rw [State.updSec_fcv, State.showImgErr_fcv]
      · rw [State.updSec_fcv, State.loadImage_fcv, State.advanceClz_fcv]

theorem State.withDie_fcv (s : State) (d : Two Die) : ({ s with die := d } : State).fcv = s.fcv := rfl

theorem State.resetFaults_clear (s : State) : (s.resetFaults true).fcv = ((s.fc.a.latches.filter (fun l => l.cls == 3), []), (s.fc.b.latches.filter (fun l => l.cls == 3), [])) := by
  unfold State.resetFaults
  simp only [State.showLines_fcv, State.put_fcv, if_true]
  rfl

/-- A channel reset that clears: only Class 3 latches stay, and no window. -/
theorem State.channelReset_fcv (s : State) (code : Nat) : (s.channelReset code true true).fcv = ((s.fc.a.latches.filter (fun l => l.cls == 3), []), (s.fc.b.latches.filter (fun l => l.cls == 3), [])) := by
  unfold State.channelReset State.loseChannels State.resetDies
  dsimp only
  rw [State.settle_fcv, State.showFurl_fcv, State.showKill_fcv, State.bootImage_fcv, State.beginClocks_fcv, State.updSec_fcv]
  rw [State.withDie_fcv, State.resetFaults_clear]
  have h : (((((s.noteReset code).setDev stINIT).abortRefit.endStops 9).endAuthority.resetFields chanResetBlock (fun f => f.cls == .v)).clearConfig.resetSafety.resetNets.resetRest).fcv = s.fcv := by
    rw [State.resetRest_fcv, State.resetNets_fcv, State.resetSafety_fcv, State.clearConfig_fcv, State.resetFields_fcv, State.endAuthority_fcv, State.endStops_fcv, State.abortRefit_fcv, State.setDev_fcv, State.noteReset_fcv]
  have ha := congrArg (fun v => v.1.1) h
  have hb := congrArg (fun v => v.2.1) h
  dsimp only [State.fcv] at ha hb
  rw [ha, hb]

theorem State.fcv_parts {s : State} {a c : List Latch} {b d : List Nat} (h : s.fcv = ((a, b), (c, d))) : s.fc.a.latches = a ∧ s.fc.b.latches = c ∧ s.fc.a.windows = b ∧ s.fc.b.windows = d := by
  unfold State.fcv at h
  simp only [Prod.mk.injEq] at h
  exact ⟨h.1.1, h.2.1, h.1.2, h.2.2⟩

/-- What a clearing channel reset leaves of the collectors, from a state with the latches of `s`. -/
theorem State.channelReset_clears (s x : State) (code : Nat) (h : x.fcv = s.fcv) :
    (x.channelReset code true true).fc.a.latches = s.fc.a.latches.filter (fun l => l.cls == 3) ∧ (x.channelReset code true true).fc.b.latches = s.fc.b.latches.filter (fun l => l.cls == 3) ∧
    (x.channelReset code true true).fc.a.windows = [] ∧ (x.channelReset code true true).fc.b.windows = [] := by
  have hp := State.fcv_parts (State.channelReset_fcv x code)
  have hx := State.fcv_parts (show x.fcv = ((s.fc.a.latches, s.fc.a.windows), (s.fc.b.latches, s.fc.b.windows)) from h)
  rw [hx.1, hx.2.1] at hp
  exact hp

end Sys2Proof.Machine
end

