-- ==== Sys2Proof/Laws/Halyard.lean ====
section
/-! SUPPORT. What Halyard's shared operations do to its registers: an event, host loss, and the closing of the set-up window (R280, R303, R304). -/

namespace Sys2Proof.Machine

open Sys2Proof

/-- Where field `f` (of one instance) stands apart from the counts of dropped events. -/
def Fld.noDrop (f : Fld) : Prop := ∀ n, n < 8 → fldAddr f (blockBase f.blk .a) 0 ≠ fldAddr HLY_RING_n_STATUS_DROPPED (blockBase .hly .a) n

theorem State.pushEvent_get (s : State) (ty : Nat) (w : List Nat) (e : Option (Chan × Nat)) (f : Fld) (h : f.noDrop) : (s.pushEvent ty w e).get f = s.get f := by
  have hd : s.dropEvent.get f = s.get f := by
    unfold State.dropEvent
    dsimp only
    split
    · rename_i n hn
      have hn8 : n < 8 := List.mem_range.mp (List.mem_of_find?_eq_some hn)
      unfold State.satInc
      dsimp only
      split
      · rw [State.get_put_addr _ HLY_RING_n_STATUS_DROPPED f _ .a .a n 0 (h n hn8)]
        rfl
      · rfl
    · rfl
  unfold State.pushEvent
  dsimp only
  cases e with
  | none =>
    dsimp only
    split
    · rfl
    · exact hd
  | some x =>
    dsimp only
    split
    · rfl
    · exact hd

/-- A region set leaves the registers but for a dropped event's count. -/
theorem State.setRegion_get (s : State) (i n : Nat) (g : FwRegion) (f : Fld) (h : f.noDrop) : (s.setRegion i n g).get f = s.get f := by
  unfold State.setRegion State.fwEvent
  dsimp only
  rw [State.pushEvent_get _ _ _ _ f h]
  rfl

theorem State.authChanged_get (s : State) (f : Fld) (h : f.noDrop) (h1 : HLY_STATUS_OWNER_AUTH.apart f = true) (h2 : HLY_STATUS_VENDOR_AUTH.apart f = true) : s.authChanged.get f = s.get f := by
  have e : s.showAuth.get f = s.get f := by
    unfold State.showAuth State.putFlag
    rw [State.get_put_apart _ _ _ _ h2, State.get_put_apart _ _ _ _ h1]
  unfold State.authChanged State.showDiag
  dsimp only
  split
  · exact e
  · rw [State.setRegion_get _ _ _ _ f h, e]

/-- The end of every authority leaves the registers outside the security block, but for what shows it. -/
theorem State.endAuthority_get (s : State) (f : Fld) (hb : f.blk ≠ .otp) (ho : f.off < 0x10000) (h : f.noDrop) (h1 : HLY_STATUS_OWNER_AUTH.apart f = true) (h2 : HLY_STATUS_VENDOR_AUTH.apart f = true) :
    s.endAuthority.get f = s.get f := by
  have hp : ∀ (x : State) (g : Fld) (v i : Nat), g.blk = .otp → g.off + g.stride * i < 0x10000 → (x.put g v .a i).get f = x.get f := fun x g v i hg hi =>
    State.get_put_blk x g f v .a .a i 0 (fun e => hb (e.trans hg)) hi (by simpa using ho)
  have hl : ∀ (l : List Nat) (x : State), (∀ n ∈ l, n < 8) → (l.foldl (fun (s : State) n => (s.put SEC_AUTH_n_SCOPE 0 .a n).put SEC_AUTH_n_IDLE_LEFT 0 .a n) x).get f = x.get f := by
    intro l
    induction l with
    | nil => intro x _; rfl
    | cons a l ih =>
      intro x hl
      have ha : a < 8 := hl a (List.mem_cons_self ..)
      rw [List.foldl_cons, ih _ fun n hn => hl n (List.mem_cons_of_mem _ hn), hp _ SEC_AUTH_n_IDLE_LEFT _ a rfl (by simp only [SEC_AUTH_n_IDLE_LEFT]; omega), hp _ SEC_AUTH_n_SCOPE _ a rfl (by simp only [SEC_AUTH_n_SCOPE]; omega)]
  have hs : ∀ (l : List Nat) (x : State), (∀ n ∈ l, n < 8) → (l.foldl (fun (s : State) n => s.put SEC_AUTH_n_SCOPE (s.get SEC_AUTH_n_SCOPE .a n % 256) .a n) x).get f = x.get f := by
    intro l
    induction l with
    | nil => intro x _; rfl
    | cons a l ih =>
      intro x hl
      have ha : a < 8 := hl a (List.mem_cons_self ..)
      rw [List.foldl_cons, ih _ fun n hn => hl n (List.mem_cons_of_mem _ hn), hp _ SEC_AUTH_n_SCOPE _ a rfl (by simp only [SEC_AUTH_n_SCOPE]; omega)]
  have he : ∀ x : State, x.endService.get f = x.get f := fun x => by
    unfold State.endService
    dsimp only
    rw [hs _ _ (fun n hn => List.mem_range.mp hn), hp _ SEC_LIFECYCLE_SVC_LEFT _ 0 rfl (by decide), hp _ SEC_LIFECYCLE_SVC_FROM _ 0 rfl (by decide)]
    refine (State.get_of_regs (if x.lifecycle = lcSERVICE then x.put SEC_LIFECYCLE_STATE (x.get SEC_LIFECYCLE_SVC_FROM) else x) _ rfl _ _ _).trans ?_
    split
    · exact hp _ SEC_LIFECYCLE_STATE _ 0 rfl (by decide)
    · rfl
  unfold State.endAuthority
  dsimp only
  rw [State.authChanged_get _ f h h1 h2, he, hl _ _ (fun n hn => List.mem_range.mp hn)]

theorem noDrop_of (f : Fld) (hb : f.blk = .hly) (ho : f.off < 0x200) : f.noDrop := by
  intro n hn
  rw [hb]
  refine fldAddr_ne_of_off _ _ _ _ _ rfl ?_
  simp only [HLY_RING_n_STATUS_DROPPED]
  omega

/-- R303: host loss begins. -/
theorem State.beginLoss_does (s : State) (cause : Nat) (k : HostLoss) :
    (s.beginLoss cause k).get HLY_STATUS_STATE = hlyLOST ∧ (s.beginLoss cause k).hostLost = true ∧ (s.beginLoss cause k).hly.loss = k := by
  refine ⟨?_, rfl, rfl⟩
  unfold State.beginLoss
  dsimp only
  refine (State.get_of_regs (((((s.raiseOnce (class0 54 cause)).hlyEvent 1 cause 0).satInc HLY_COUNT_HOST_LOSS).put HLY_STATUS_STATE hlyLOST).endAuthority) _ rfl _ _ _).trans ?_
  rw [State.endAuthority_get _ HLY_STATUS_STATE (by decide) (by decide) (noDrop_of _ rfl (by decide)) (by decide) (by decide), State.get_put_same _ _ _ _ _ (by decide)]
  rfl

/-- E54 of the loss stays latched (R303). -/
theorem State.beginLoss_latched (s : State) (c : Chan) (cause : Nat) (k : HostLoss) (hq : s.quiet) : (s.beginLoss cause k).faulted c ⟨54, 0, .shared, .none⟩ := by
  have h : (s.raiseOnce (class0 54 cause)).faulted c ⟨54, 0, .shared, .none⟩ := State.raiseOnce_latched s c (class0 54 cause) (.inl hq) (by cases c <;> exact .inl rfl)
  refine State.faulted_keep ?_ h
  unfold State.beginLoss
  dsimp only
  refine Eq.trans (State.fcv_of_fc (s := State.endAuthority _) rfl) ?_
  rw [State.endAuthority_fcv, State.put_fcv, State.satInc_fcv]
  exact State.pushEvent_fcv ..

/-- A doorbell poll of one ring leaves the heartbeat count, the failures and the heartbeat alone. -/
theorem State.pollRing_beat (s : State) (o : PollObs) (n : Nat) : (s.pollRing o n).hly.alive = s.hly.alive ∧ (s.pollRing o n).hly.fails = s.hly.fails ∧ (s.pollRing o n).hly.hb = s.hly.hb ∧ (s.pollRing o n).hly.imgSeq = s.hly.imgSeq ∧ (s.pollRing o n).hly.kick = s.hly.kick := by
  have he : ∀ (x : State) (c : Nat), x.hly = s.hly → (x.ringError n c).hly.alive = s.hly.alive ∧ (x.ringError n c).hly.fails = s.hly.fails ∧ (x.ringError n c).hly.hb = s.hly.hb ∧ (x.ringError n c).hly.imgSeq = s.hly.imgSeq ∧ (x.ringError n c).hly.kick = s.hly.kick := fun x c hx => by
    unfold State.ringError State.hlyEvent
    rw [State.pushEvent_hly]
    rw [← hx]
    exact ⟨rfl, rfl, rfl, rfl, rfl⟩
  unfold State.pollRing
  split
  · exact ⟨rfl, rfl, rfl, rfl, rfl⟩
  · dsimp only
    split
    · split
      · exact he _ _ rfl
      · split
        · refine he _ _ ?_
          unfold State.dmaErr State.satInc
          dsimp only
          split <;> rfl
        · exact ⟨rfl, rfl, rfl, rfl, rfl⟩
    · split
      · exact he _ _ rfl
      · have ha : ∀ x : State, (x.ackLogged n).hly.alive = x.hly.alive ∧ (x.ackLogged n).hly.fails = x.hly.fails ∧ (x.ackLogged n).hly.hb = x.hly.hb ∧ (x.ackLogged n).hly.imgSeq = x.hly.imgSeq ∧ (x.ackLogged n).hly.kick = x.hly.kick := fun x => by
          have hf : ∀ (l : List (Nat × Chan)) (y : State), (l.foldl (fun (s : State) (e : Nat × Chan) => s.recAck e.2 1) y).hly = y.hly := fun l y => by
            apply State.foldl_keep (·.hly)
            intro v q
            rfl
          unfold State.ackLogged State.updRing State.updHly
          dsimp only
          rw [hf]
          exact ⟨rfl, rfl, rfl, rfl, rfl⟩
        have h := ha (s.updRing n (fun r => { r with host := ((o.host[n]?).getD 0) % 2 ^ 32 }))
        exact h

theorem State.updHly_get (s : State) (g : HlySt → HlySt) (f : Fld) (c : Chan) (i : Nat) : (s.updHly g).get f c i = s.get f c i := rfl
theorem State.updHly_now (s : State) (g : HlySt → HlySt) : (s.updHly g).now = s.now := rfl
theorem State.updHly_hostLost (s : State) (g : HlySt → HlySt) : (s.updHly g).hostLost = s.hostLost := rfl
theorem State.updHly_fcv' (s : State) (g : HlySt → HlySt) : (s.updHly g).fcv = s.fcv := rfl
theorem State.putFlag_hly (s : State) (f : Fld) (v : Bool) : (s.putFlag f v).hly = s.hly ∧ (s.putFlag f v).hostLost = s.hostLost ∧ (s.putFlag f v).fcv = s.fcv := ⟨rfl, rfl, rfl⟩
theorem State.put_hly' (s : State) (f : Fld) (v : Nat) : (s.put f v).hly = s.hly ∧ (s.put f v).hostLost = s.hostLost ∧ (s.put f v).fcv = s.fcv := ⟨rfl, rfl, rfl⟩
theorem State.resetFields_hly (s : State) (q : Nat → Bool) (p : Fld → Bool) : (s.resetFields q p).hly = s.hly ∧ (s.resetFields q p).hostLost = s.hostLost ∧ (s.resetFields q p).fcv = s.fcv := ⟨rfl, rfl, rfl⟩

theorem State.hostWindow_hly (s : State) (b : Bool) : (s.hostWindow b).hly = s.hly := by
  have h : ∀ (x : State) (i n : Nat) (g : FwRegion), (x.setRegion i n g).hly = x.hly := fun x i n g => by
    unfold State.setRegion State.fwEvent
    dsimp only
    rw [State.pushEvent_hly]
  unfold State.hostWindow
  dsimp only
  split <;> rw [h, h, h, h]

theorem State.hostWindow_get (s : State) (b : Bool) (f : Fld) (h : f.noDrop) : (s.hostWindow b).get f = s.get f := by
  unfold State.hostWindow
  dsimp only
  split <;> rw [State.setRegion_get _ _ _ _ f h, State.setRegion_get _ _ _ _ f h, State.setRegion_get _ _ _ _ f h, State.setRegion_get _ _ _ _ f h]

/-- The window opens again: the rings are gone. -/
theorem State.reopen_does (s : State) :
    s.reopen.get HLY_WINDOW_STATUS_OPEN = 1 ∧ s.reopen.hostLost = s.hostLost ∧ s.reopen.hly.loss = s.hly.loss ∧ s.reopen.hly.rings = [] ∧ s.reopen.fcv = s.fcv := by
  have h1 : ∀ x : State, (x.hostWindow true).hostLost = x.hostLost := fun x => by simp
  have h2 : ∀ x : State, (x.hostWindow true).fcv = x.fcv := fun x => by simp
  unfold State.reopen
  dsimp only
  refine ⟨?_, ?_, ?_, ?_, ?_⟩
  · rw [State.updHly_get, State.hostWindow_get _ _ _ (noDrop_of _ rfl (by decide))]
    exact State.get_put_same _ _ _ _ _ (by decide)
  · rw [State.updHly_hostLost, h1, (State.putFlag_hly _ _ _).2.1, (State.put_hly' _ _ _).2.1, (State.resetFields_hly _ _ _).2.1]
  · rw [State.updHly_hly, State.hostWindow_hly, (State.putFlag_hly _ _ _).1, (State.put_hly' _ _ _).1, (State.resetFields_hly _ _ _).1]
  · rw [State.updHly_hly]
  · rw [State.updHly_fcv', h2, (State.putFlag_hly _ _ _).2.2, (State.put_hly' _ _ _).2.2, (State.resetFields_hly _ _ _).2.2]

theorem State.startRings_get (s : State) (f : Fld) (hb : f.blk = .hly) (ho : f.off < 0x200) : s.startRings.get f = s.get f := by
  have hl : ∀ (l : List Nat) (x : State), (∀ n ∈ l, n < 8) → (l.foldl (fun (s : State) n =>
    ((s.put HLY_RING_n_STATUS_STATE (s.ringPresent n).toNat .a n).put HLY_RING_n_STATUS_CAUSE 0 .a n).put HLY_RING_n_IDX_DEV_IDX 0 .a n) x).get f = x.get f := by
    intro l
    induction l with
    | nil => intro x _; rfl
    | cons a l ih =>
      intro x hx
      have ha := hx a (List.mem_cons_self ..)
      rw [List.foldl_cons, ih _ (fun n hn => hx n (List.mem_cons_of_mem _ hn)),
        State.get_put_addr _ HLY_RING_n_IDX_DEV_IDX f _ .a .a a 0 (by rw [hb]; refine fldAddr_ne_of_off _ _ _ _ _ rfl ?_; simp only [HLY_RING_n_IDX_DEV_IDX]; omega),
        State.get_put_addr _ HLY_RING_n_STATUS_CAUSE f _ .a .a a 0 (by rw [hb]; refine fldAddr_ne_of_off _ _ _ _ _ rfl ?_; simp only [HLY_RING_n_STATUS_CAUSE]; omega),
        State.get_put_addr _ HLY_RING_n_STATUS_STATE f _ .a .a a 0 (by rw [hb]; refine fldAddr_ne_of_off _ _ _ _ _ rfl ?_; simp only [HLY_RING_n_STATUS_STATE]; omega)]
  unfold State.startRings
  dsimp only
  rw [State.updHly_get]
  exact hl _ _ (fun n hn => List.mem_range.mp hn)

/-- R280: the window closes, and Halyard runs. -/
theorem State.closeWindow_does (s : State) :
    s.closeWindow.get HLY_SETUP_DONE_DONE = 1 ∧ s.closeWindow.get HLY_STATUS_STATE = hlyRUN ∧ s.closeWindow.get HLY_STATUS_SETUP_ERR = 0 ∧ s.closeWindow.hly.hbAt = s.now := by
  have hq : ∀ (x : State), x.endLoss.requeue.get HLY_SETUP_DONE_DONE = x.get HLY_SETUP_DONE_DONE ∧ x.endLoss.requeue.now = x.now := fun x => by
    unfold State.endLoss
    split
    · exact ⟨rfl, rfl⟩
    · refine ⟨(State.get_of_regs (State.hlyEvent _ 2 0 0) _ rfl _ _ _).trans ?_, ?_⟩
      · unfold State.hlyEvent
        rw [State.pushEvent_get _ _ _ _ _ (noDrop_of _ rfl (by decide))]
        rfl
      · unfold State.hlyEvent State.requeue
        dsimp only
        rw [State.pushEvent_rest]
        rfl
  have hn : ∀ (x : State) (i n : Nat) (g : FwRegion), (x.setRegion i n g).now = x.now := fun x i n g => by
    unfold State.setRegion State.fwEvent
    dsimp only
    rw [State.pushEvent_rest]
  have hw : ∀ x : State, (x.hostWindow false).startRings.now = x.now := fun x => by
    unfold State.startRings
    dsimp only
    rw [State.updHly_now]
    refine Eq.trans (b := (x.hostWindow false).now) ?_ ?_
    · apply State.foldl_keep (·.now)
      intro v n
      rfl
    · unfold State.hostWindow
      dsimp only
      rw [if_neg (by decide), hn, hn, hn, hn]
  have hd : ((((((s.putFlag HLY_SETUP_DONE_DONE true).putFlag HLY_WINDOW_STATUS_OPEN false).putFlag HLY_STATUS_NET_SET true).hostWindow false).startRings).get HLY_SETUP_DONE_DONE) = 1 := by
    rw [State.startRings_get _ _ rfl (by decide), State.hostWindow_get _ _ _ (noDrop_of _ rfl (by decide))]
    unfold State.putFlag
    rw [State.get_put_apart _ HLY_STATUS_NET_SET _ _ (by decide), State.get_put_apart _ HLY_WINDOW_STATUS_OPEN _ _ (by decide), State.get_put_same _ _ _ _ _ (by decide)]
    rfl
  have hnow : (((((s.putFlag HLY_SETUP_DONE_DONE true).putFlag HLY_WINDOW_STATUS_OPEN false).putFlag HLY_STATUS_NET_SET true).hostWindow false).startRings).now = s.now := hw _
  have fin : ∀ x : State, x.get HLY_SETUP_DONE_DONE = 1 → x.now = s.now →
      (((x.put HLY_STATUS_STATE hlyRUN).put HLY_STATUS_SETUP_ERR 0).updHly (fun h => { h with hbAt := ((x.put HLY_STATUS_STATE hlyRUN).put HLY_STATUS_SETUP_ERR 0).now, fails := 0, imgWait := ((x.put HLY_STATUS_STATE hlyRUN).put HLY_STATUS_SETUP_ERR 0).get SYS_GCOUNT_COUNT, kick := false })).get HLY_SETUP_DONE_DONE = 1 ∧
      (((x.put HLY_STATUS_STATE hlyRUN).put HLY_STATUS_SETUP_ERR 0).updHly (fun h => { h with hbAt := ((x.put HLY_STATUS_STATE hlyRUN).put HLY_STATUS_SETUP_ERR 0).now, fails := 0, imgWait := ((x.put HLY_STATUS_STATE hlyRUN).put HLY_STATUS_SETUP_ERR 0).get SYS_GCOUNT_COUNT, kick := false })).get HLY_STATUS_STATE = hlyRUN ∧
      (((x.put HLY_STATUS_STATE hlyRUN).put HLY_STATUS_SETUP_ERR 0).updHly (fun h => { h with hbAt := ((x.put HLY_STATUS_STATE hlyRUN).put HLY_STATUS_SETUP_ERR 0).now, fails := 0, imgWait := ((x.put HLY_STATUS_STATE hlyRUN).put HLY_STATUS_SETUP_ERR 0).get SYS_GCOUNT_COUNT, kick := false })).get HLY_STATUS_SETUP_ERR = 0 ∧
      (((x.put HLY_STATUS_STATE hlyRUN).put HLY_STATUS_SETUP_ERR 0).updHly (fun h => { h with hbAt := ((x.put HLY_STATUS_STATE hlyRUN).put HLY_STATUS_SETUP_ERR 0).now, fails := 0, imgWait := ((x.put HLY_STATUS_STATE hlyRUN).put HLY_STATUS_SETUP_ERR 0).get SYS_GCOUNT_COUNT, kick := false })).hly.hbAt = s.now := by
    intro x h1 h2
    have hg : ∀ (y : State) (g : HlySt → HlySt) (f : Fld), (y.updHly g).get f = y.get f := fun _ _ _ => rfl
    rw [hg, hg, hg]
    refine ⟨?_, ?_, ?_, h2⟩
    · rw [State.get_put_apart _ HLY_STATUS_SETUP_ERR _ _ (by decide), State.get_put_apart _ HLY_STATUS_STATE _ _ (by decide)]
      exact h1
    · rw [State.get_put_apart _ HLY_STATUS_SETUP_ERR _ _ (by decide), State.get_put_same _ _ _ _ _ (by decide)]
      rfl
    · rw [State.get_put_same _ _ _ _ _ (by decide)]
      rfl
  unfold State.closeWindow
  dsimp only
  generalize ((((s.putFlag HLY_SETUP_DONE_DONE true).putFlag HLY_WINDOW_STATUS_OPEN false).putFlag HLY_STATUS_NET_SET true).hostWindow false).startRings = x at hd hnow
  split
  · exact fin x hd hnow
  · exact fin _ ((hq x).1.trans hd) ((hq x).2.trans hnow)

end Sys2Proof.Machine
end

