-- ==== Sys2Proof/Laws/Refit.lean ====
section
/-! SUPPORT. What the shared operations of a Refit and of a Ratline run do (R152 to R154, R400 to R410). -/

namespace Sys2Proof.Machine

open Sys2Proof

/-- The phase is shown in both channels' view. -/
theorem State.refitPhase_phase (s : State) (p : Nat) (h : p < 8) : (s.refitPhase p).get LGE_REFIT_PHASE = p := by
  unfold State.refitPhase
  dsimp only
  rw [State.pushEvent_keepsRegs _ _ _ _ LGE_REFIT_PHASE .a 0 (by decide) (by decide)]
  unfold State.putBoth
  rw [State.get_put_addr _ LGE_REFIT_PHASE LGE_REFIT_PHASE _ .b .a 0 0 (by decide), State.get_put_same _ _ _ _ _ (by decide)]
  exact Nat.mod_eq_of_lt h

theorem State.refitPhase_parts (s : State) (p : Nat) : (s.refitPhase p).sec = s.sec ∧ (s.refitPhase p).hly = s.hly := by
  unfold State.refitPhase State.putBoth
  dsimp only
  rw [State.pushEvent_rest]
  exact ⟨rfl, rfl⟩

theorem State.ringError_parts (s : State) (n c : Nat) : (s.ringError n c).sec = s.sec ∧ (s.ringError n c).refit = s.refit := by
  unfold State.ringError State.hlyEvent
  rw [State.pushEvent_rest]
  exact ⟨rfl, rfl⟩

/-- The end of an exclusive command touches Halyard only. -/
theorem State.endExclusive_sec (s : State) (op st r : Nat) : (s.endExclusive op st r).sec = s.sec := by
  unfold State.endExclusive
  split
  · rfl
  · split
    · rfl
    · dsimp only
      split
      · rfl
      · split
        · unfold State.cmdDone
          split
          · dsimp only
            split
            · rw [State.raiseRing_only]
              rfl
            · rfl
          · rw [(State.ringError_parts _ _ _).1]
            unfold State.dmaErr
            rw [State.satInc_sec]
            rfl
        · rfl

/-- A dropped Refit leaves nothing of it. -/
theorem State.dropRefit_none (s : State) (code : Nat) : (s.dropRefit code).refit = none ∧ (s.dropRefit code).refitHeld = [] := by
  unfold State.dropRefit
  dsimp only
  simp

theorem State.scopeHeld_of {s t : State} (h : ∀ n, n < 8 → t.get SEC_AUTH_n_SCOPE .a n = s.get SEC_AUTH_n_SCOPE .a n) (k : Nat) : t.scopeHeld k = s.scopeHeld k := by
  simp only [State.scopeHeld, show List.range 8 = [0, 1, 2, 3, 4, 5, 6, 7] from rfl, List.any_cons, List.any_nil, h 0 (by decide), h 1 (by decide), h 2 (by decide), h 3 (by decide),
    h 4 (by decide), h 5 (by decide), h 6 (by decide), h 7 (by decide)]

/-- Whether a controlled run is allowed depends on the security registers. -/
theorem State.bstState_of {s t : State} (h : State.keepsRegs [.bst] s t) : t.bstState = s.bstState := by
  unfold State.bstState State.lifecycle
  rw [h SEC_LIFECYCLE_STATE .a 0 (by decide) (by decide), State.scopeHeld_of fun n hn => h SEC_AUTH_n_SCOPE .a n (by decide) (by show 0x130 + 4 * n < 0x10000; omega)]

/-! ## The end of a Ratline run -/

theorem State.showRun_sec (s : State) (o : RatlineObs) (r : Nat) : (s.showRun o r).sec = s.sec := rfl

theorem State.logFails_sec (s : State) (fs : List BstFail) : (s.logFails fs).sec = s.sec := by
  unfold State.logFails
  rw [State.foldl_sec]
  · rfl
  · intro x n
    rfl

theorem State.noteSram_run (s : State) (o : RatlineObs) : (s.noteSram o).sec.run = s.sec.run ∧ (s.noteSram o).sec.l3Dead = s.sec.l3Dead := by
  unfold State.noteSram
  dsimp only
  split
  · rw [State.advise_sec]
    exact ⟨rfl, rfl⟩
  · exact ⟨rfl, rfl⟩

theorem State.resetAge_run (s : State) : s.resetAge.sec.run = s.sec.run ∧ s.resetAge.sec.l3Dead = s.sec.l3Dead := ⟨rfl, rfl⟩

/-- What a run that passes leaves behind, but for a controlled one. -/
theorem State.passRun_run (s : State) (k : RunKind) (ms : Nat) (h : s.sec.run = none) (hd : s.sec.l3Dead = false) : (s.passRun k ms).sec.run = none := by
  unfold State.passRun
  split
  · exact h
  · unfold State.endL3
    rw [if_neg (by decide), if_neg (by rw [(State.resetAge_run s).2, hd]; decide)]
    exact h
  · exact h
  · exact h
  · exact h
  · exact h

/-- A run that passes is over. -/
theorem State.endRun_none (s : State) (k : RunKind) (o : RatlineObs) (ms : Nat) (hd : s.sec.l3Dead = false) (hk : k = .cold ∨ k = .cert ∨ k = .shutdown ∨ k = .l3) (b : Bool) :
    (((if b then ((s.updSec (fun x => { x with run := none, abort := false, rows := o.rows, columns := o.columns })).clearArrays).noteSram o
      else s.updSec (fun x => { x with run := none, abort := false, rows := o.rows, columns := o.columns })).passRun k ms).leaveRun k o.imgOk).sec.run = none := by
  have h : (if b then ((s.updSec (fun x => { x with run := none, abort := false, rows := o.rows, columns := o.columns })).clearArrays).noteSram o
      else s.updSec (fun x => { x with run := none, abort := false, rows := o.rows, columns := o.columns })).sec.run = none ∧
      (if b then ((s.updSec (fun x => { x with run := none, abort := false, rows := o.rows, columns := o.columns })).clearArrays).noteSram o
      else s.updSec (fun x => { x with run := none, abort := false, rows := o.rows, columns := o.columns })).sec.l3Dead = false := by
    cases b
    · exact ⟨rfl, hd⟩
    · exact ⟨(State.noteSram_run _ _).1, (State.noteSram_run _ _).2.trans hd⟩
  have hp := State.passRun_run _ k ms h.1 h.2
  rcases hk with rfl | rfl | rfl | rfl
  · exact hp
  · exact hp
  · exact hp
  · exact hp

/-- A full controlled run destroys the memory contents outside the AON scratch bytes, and ends in a channel reset. -/
theorem State.fullRun_mem (s : State) (f : SecSt → SecSt) (o : RatlineObs) (ms : Nat) :
    (((((s.updSec f).clearArrays.noteSram o).raiseFails (.controlled true) o.fails).passRun (.controlled true) ms).leaveRun (.controlled true) o.imgOk).settle.mem = s.mem.filter (fun e => decide (0x30000000 ≤ e.1 ∧ e.1 < 0x30000400)) := by
  unfold State.leaveRun State.raiseFails
  dsimp only
  rw [(State.settle_keeps _).2.1, (State.channelReset_keeps _ _ _ _).2.1]
  have h : ∀ x : State, (x.passRun (.controlled true) ms).mem = x.mem := fun x => by
    unfold State.passRun
    rfl
  rw [h, (State.noteSram_keeps _ _).2.1]
  rfl

theorem State.fullFail_mem (s : State) (f : SecSt → SecSt) (o : RatlineObs) :
    ((((s.updSec f).clearArrays.noteSram o).raiseFails (.controlled true) o.fails).leaveRun (.controlled true) o.imgOk).settle.mem = s.mem.filter (fun e => decide (0x30000000 ≤ e.1 ∧ e.1 < 0x30000400)) := by
  unfold State.leaveRun State.raiseFails
  dsimp only
  rw [(State.settle_keeps _).2.1, (State.channelReset_keeps _ _ _ _).2.1, (State.noteSram_keeps _ _).2.1]
  rfl

theorem State.fullEnd_mem (s : State) (f : SecSt → SecSt) (o : RatlineObs) (ms r : Nat) :
    ((if r = 1 then (((s.updSec f).clearArrays.noteSram o).raiseFails (.controlled true) o.fails).passRun (.controlled true) ms
      else if RunKind.controlled true = .l3 then (((s.updSec f).clearArrays.noteSram o).raiseFails (.controlled true) o.fails).endL3 false
      else ((s.updSec f).clearArrays.noteSram o).raiseFails (.controlled true) o.fails).leaveRun (.controlled true) o.imgOk).settle.mem = s.mem.filter (fun e => decide (0x30000000 ≤ e.1 ∧ e.1 < 0x30000400)) := by
  split
  · exact State.fullRun_mem ..
  · rw [if_neg (by decide)]
    exact State.fullFail_mem ..

end Sys2Proof.Machine
end

