-- ==== Sys2Proof/Laws/Start.lean ====
section
/-! SUPPORT. A start of the main die leaves no consequential window open (R428). -/

namespace Sys2Proof.Machine

open Sys2Proof

/-- The consequential windows of both collectors. -/
def State.wins (s : State) : List Nat × List Nat := (s.fc.a.windows, s.fc.b.windows)

theorem State.wins_of_fcv {s t : State} (h : t.fcv = s.fcv) : t.wins = s.wins := by
  have hp := State.fcv_parts (show t.fcv = ((s.fc.a.latches, s.fc.a.windows), (s.fc.b.latches, s.fc.b.windows)) from h)
  unfold State.wins
  rw [hp.2.2.1, hp.2.2.2]

@[simp] theorem State.raise_wins (s : State) (e : FaultEv) : (s.raise e).wins = s.wins := by
  have ha := State.raise_windows s .a e
  have hb := State.raise_windows s .b e
  unfold State.wins
  rw [show (s.raise e).fc.a.windows = s.fc.a.windows from ha, show (s.raise e).fc.b.windows = s.fc.b.windows from hb]

@[simp] theorem State.raiseOnce_wins (s : State) (e : FaultEv) : (s.raiseOnce e).wins = s.wins := State.raise_wins s e

@[simp] theorem State.ite_wins (c : Prop) [Decidable c] (a b : State) : (if c then a else b).wins = if c then a.wins else b.wins := apply_ite _ _ _ _

@[simp] theorem State.foldl_wins {α : Type} (f : State → α → State) (l : List α) (s : State) (h : ∀ s x, (f s x).wins = s.wins) : (l.foldl f s).wins = s.wins :=
  State.foldl_keep (·.wins) f h l s

@[simp] theorem State.beginClocks_wins (s : State) : (State.beginClocks s).wins = s.wins := State.wins_of_fcv (State.beginClocks_fcv s)

@[simp] theorem State.claimFuses_wins (s : State) (k : Ticket) : (State.claimFuses s k).wins = s.wins := State.wins_of_fcv (State.claimFuses_fcv s k)

@[simp] theorem State.loadKeys_wins (s : State) : (State.loadKeys s).wins = s.wins := State.wins_of_fcv (State.loadKeys_fcv s)

@[simp] theorem State.noteReset_wins (s : State) (code : Nat) : (State.noteReset s code).wins = s.wins := State.wins_of_fcv (State.noteReset_fcv s code)

@[simp] theorem State.pushEvent_wins (s : State) (typ : Nat) (words : List Nat) (fault : Option (Chan × Nat)) : (State.pushEvent s typ words fault).wins = s.wins := State.wins_of_fcv (State.pushEvent_fcv s typ words fault)

@[simp] theorem State.put_wins (s : State) (f : Fld) (v : Nat) (c : Chan) (i : Nat) : (State.put s f v c i).wins = s.wins := State.wins_of_fcv (State.put_fcv s f v c i)

@[simp] theorem State.putFlag_wins (s : State) (f : Fld) (v : Bool) (c : Chan) (i : Nat) : (State.putFlag s f v c i).wins = s.wins := State.wins_of_fcv (State.putFlag_fcv s f v c i)

@[simp] theorem State.resetFields_wins (s : State) (q : Nat → Bool) (p : Fld → Bool) : (State.resetFields s q p).wins = s.wins := State.wins_of_fcv (State.resetFields_fcv s q p)

@[simp] theorem State.restoreL3_wins (s : State) : (State.restoreL3 s).wins = s.wins := State.wins_of_fcv (State.restoreL3_fcv s)

@[simp] theorem State.runFw_wins (s : State) (n : Nat) : (State.runFw s n).wins = s.wins := State.wins_of_fcv (State.runFw_fcv s n)

@[simp] theorem State.setVerify_wins (s : State) (v : Nat) : (State.setVerify s v).wins = s.wins := State.wins_of_fcv (State.setVerify_fcv s v)

@[simp] theorem State.settle_wins (s : State) : (State.settle s).wins = s.wins := State.wins_of_fcv (State.settle_fcv s)

@[simp] theorem State.showFurl_wins (s : State) : (State.showFurl s).wins = s.wins := State.wins_of_fcv (State.showFurl_fcv s)

@[simp] theorem State.showIdentity_wins (s : State) : (State.showIdentity s).wins = s.wins := State.wins_of_fcv (State.showIdentity_fcv s)

@[simp] theorem State.showKill_wins (s : State) : (State.showKill s).wins = s.wins := State.wins_of_fcv (State.showKill_fcv s)

@[simp] theorem State.showOtp_wins (s : State) : (State.showOtp s).wins = s.wins := State.wins_of_fcv (State.showOtp_fcv s)

@[simp] theorem State.spendCert_wins (s : State) (reason : Nat) : (State.spendCert s reason).wins = s.wins := State.wins_of_fcv (State.spendCert_fcv s reason)

@[simp] theorem State.startRatline_wins (s : State) (reason : Nat) : (State.startRatline s reason).wins = s.wins := State.wins_of_fcv (State.startRatline_fcv s reason)

@[simp] theorem State.startWith_wins (s : State) (k : StartImg) : (State.startWith s k).wins = s.wins := State.wins_of_fcv (State.startWith_fcv s k)

@[simp] theorem State.tally_wins (s : State) (n bits : Nat) : (State.tally s n bits).wins = s.wins := State.wins_of_fcv (State.tally_fcv s n bits)

@[simp] theorem State.updSec_wins (s : State) (f : SecSt → SecSt) : (State.updSec s f).wins = s.wins := State.wins_of_fcv (State.updSec_fcv s f)

@[simp] theorem State.otpAlarm_wins (s : State) (n : Nat) : (State.otpAlarm s n).wins = s.wins := by
  unfold State.otpAlarm
  first
    | (simp; done)
    | (dsimp only; rw [State.foldl_wins _ _ _ (fun _ _ => rfl)]; rfl)
    | (dsimp only; simp; done)
    | ((try dsimp only); repeat' (first | (simp; done) | split))

@[simp] theorem State.senseWord_wins (s : State) (n : Nat) (o : Sense) : (State.senseWord s n o).wins = s.wins := by
  unfold State.senseWord
  first
    | (simp; done)
    | (dsimp only; rw [State.foldl_wins _ _ _ (fun _ _ => rfl)]; rfl)
    | (dsimp only; simp; done)
    | ((try dsimp only); repeat' (first | (simp; done) | split))

@[simp] theorem State.sense_wins (s : State) (priv : List Sense) : (State.sense s priv).wins = s.wins := by
  unfold State.sense
  first
    | (simp; done)
    | (dsimp only; rw [State.foldl_wins _ _ _ (fun _ _ => rfl)]; rfl)
    | (dsimp only; simp; done)
    | ((try dsimp only); repeat' (first | (simp; done) | split))

@[simp] theorem State.showRails_wins (s : State) (o : StartObs) : (State.showRails s o).wins = s.wins := by
  unfold State.showRails
  first
    | (simp; done)
    | (dsimp only; rw [State.foldl_wins _ _ _ (fun _ _ => rfl)]; rfl)
    | (dsimp only; simp; done)
    | ((try dsimp only); repeat' (first | (simp; done) | split))

@[simp] theorem State.drkChecks_wins (s : State) (o : StartObs) : (State.drkChecks s o).wins = s.wins := by
  unfold State.drkChecks
  first
    | (simp; done)
    | (dsimp only; rw [State.foldl_wins _ _ _ (fun _ _ => rfl)]; rfl)
    | (dsimp only; simp; done)
    | ((try dsimp only); repeat' (first | (simp; done) | split))

@[simp] theorem State.advise_wins (s : State) (n : Nat) : (State.advise s n).wins = s.wins := by
  unfold State.advise
  first
    | (simp; done)
    | (dsimp only; rw [State.foldl_wins _ _ _ (fun _ _ => rfl)]; rfl)
    | (dsimp only; simp; done)
    | ((try dsimp only); repeat' (first | (simp; done) | split))

@[simp] theorem State.restoreSummary_wins (s : State) (aonOk flashOk : Bool) : (State.restoreSummary s aonOk flashOk).wins = s.wins := by
  unfold State.restoreSummary
  split
  · rfl
  · split
    · dsimp only
      rw [State.putFlag_wins, State.setVerify_wins]
      rfl
    · dsimp only
      simp

@[simp] theorem State.restoreAon_wins (s : State) (o : StartObs) : (State.restoreAon s o).wins = s.wins := by
  unfold State.restoreAon
  first
    | (simp; done)
    | (dsimp only; rw [State.foldl_wins _ _ _ (fun _ _ => rfl)]; rfl)
    | (dsimp only; simp; done)
    | ((try dsimp only); repeat' (first | (simp; done) | split))

@[simp] theorem State.ticketEnds_wins (s : State) (bad : Bool) : (State.ticketEnds s bad).wins = s.wins := by
  unfold State.ticketEnds
  first
    | (simp; done)
    | (dsimp only; rw [State.foldl_wins _ _ _ (fun _ _ => rfl)]; rfl)
    | (dsimp only; simp; done)
    | ((try dsimp only); repeat' (first | (simp; done) | split))

@[simp] theorem State.actTicket_wins (s : State) (k : Ticket) (fusesOk : Bool) : (State.actTicket s k fusesOk).wins = s.wins := by
  unfold State.actTicket
  first
    | (simp; done)
    | (dsimp only; rw [State.foldl_wins _ _ _ (fun _ _ => rfl)]; rfl)
    | (dsimp only; simp; done)
    | ((try dsimp only); repeat' (first | (simp; done) | split))

@[simp] theorem State.tickets_wins (s : State) (o : StartObs) : (State.tickets s o).wins = s.wins := by
  unfold State.tickets
  first
    | (simp; done)
    | (dsimp only; rw [State.foldl_wins _ _ _ (fun _ _ => rfl)]; rfl)
    | (dsimp only; simp; done)
    | ((try dsimp only); repeat' (first | (simp; done) | split))

@[simp] theorem State.failFw_wins (s : State) (n : Nat) : (State.failFw s n).wins = s.wins := by
  unfold State.failFw
  first
    | (simp; done)
    | (dsimp only; rw [State.foldl_wins _ _ _ (fun _ _ => rfl)]; rfl)
    | (dsimp only; simp; done)
    | ((try dsimp only); repeat' (first | (simp; done) | split))

@[simp] theorem State.startFw_wins (s : State) (o : StartObs) : (State.startFw s o).1.wins = s.wins := by
  unfold State.startFw
  first
    | (simp; done)
    | (dsimp only; rw [State.foldl_wins _ _ _ (fun _ _ => rfl)]; rfl)
    | (dsimp only; simp; done)
    | ((try dsimp only); repeat' (first | (simp; done) | split))

@[simp] theorem State.showImgErr_wins (s : State) (e : ImgErr) : (s.showImgErr e).wins = s.wins := State.wins_of_fcv (State.showImgErr_fcv s e)

@[simp] theorem State.loadImage_wins (s : State) (im : Image) (slot : Nat) (nets : Bool) : (s.loadImage im slot nets).wins = s.wins := State.wins_of_fcv (State.loadImage_fcv s im slot nets)

theorem State.fw_wins (s : State) (l : Tab FwRegion) : ({ s with fw := l } : State).wins = s.wins := rfl

@[simp] theorem State.bootImage_wins (s : State) (ok nets : Bool) : (s.bootImage ok nets).wins = s.wins := by
  unfold State.bootImage
  split
  · simp
  · split
    · simp
    · split
      · simp
      · split
        · simp
        · rw [State.startWith_wins, State.loadImage_wins, State.wins_of_fcv (State.advanceClz_fcv _ _)]

@[simp] theorem State.startElements_wins (s : State) (o : StartObs) : (State.startElements s o).wins = s.wins := by
  unfold State.startElements
  dsimp only
  split
  · simp
  · rw [State.bootImage_wins, State.beginClocks_wins, State.putFlag_wins]
    rw [State.fw_wins]
    simp

@[simp] theorem State.course_wins (s : State) (o : StartObs) : (State.course s o).wins = s.wins := by
  unfold State.course
  first
    | (simp; done)
    | (dsimp only; rw [State.foldl_wins _ _ _ (fun _ _ => rfl)]; rfl)
    | (dsimp only; simp; done)
    | ((try dsimp only); repeat' (first | (simp; done) | split))


theorem State.power_wins (s : State) (p : Power) : ({ s with power := p } : State).wins = s.wins := rfl

/-- A start of the main die leaves no window open: the collectors are cleared, and nothing in the start opens one. -/
theorem State.mainStart_wins (s : State) (n : Nat) (o : StartObs) : (s.mainStart n o).wins = ([], []) := by
  have hl : ∀ x : State, x.loseMain.wins = ([], []) := fun x => by
    unfold State.loseMain
    dsimp only
    rw [State.updSec_wins]
    rfl
  unfold State.mainStart
  dsimp only
  rw [State.settle_wins, State.showFurl_wins, State.showKill_wins, State.course_wins, State.updSec_wins, State.power_wins]
  exact hl _

/-- What a start of the main die clears and keeps (R428, R438). -/
theorem State.mainStart_does (s : State) (n : Nat) (o : StartObs) :
    (s.mainStart n o).power = .on ∧ (s.mainStart n o).epochAt = none ∧ (s.mainStart n o).refit = none ∧ (s.mainStart n o).graph = ⟨{}, {}⟩ ∧ (s.mainStart n o).stay = ⟨{}, {}⟩ ∧ (s.mainStart n o).service = none ∧ (s.mainStart n o).mem = s.mem.filter (fun e => decide (0x30000000 ≤ e.1 ∧ e.1 < 0x30000400)) := by
  have hl : ∀ x : State, x.loseMain.epochAt = none ∧ x.loseMain.refit = none ∧ x.loseMain.graph = ⟨{}, {}⟩ ∧ x.loseMain.stay = ⟨{}, {}⟩ ∧ x.loseMain.service = none ∧ x.loseMain.mem = x.mem.filter (fun e => decide (0x30000000 ≤ e.1 ∧ e.1 < 0x30000400)) := fun x => by
    unfold State.loseMain State.resetRest State.resetNets State.resetSafety State.resetDies State.otpInterrupt State.updSec State.resetFields
    dsimp only
    refine ⟨rfl, rfl, rfl, rfl, rfl, ?_⟩
    split <;> simp
  have hm : (if n = 0 then ({ s with now := max s.now o.t } : State) else State.noteReset { s with now := max s.now o.t } n).mem = s.mem := by
    split <;> simp
  unfold State.mainStart
  dsimp only
  generalize (if n = 0 then ({ s with now := max s.now o.t } : State) else State.noteReset { s with now := max s.now o.t } n) = u at hm
  have h := hl u
  generalize u.loseMain = v at h
  rw [← hm]
  refine ⟨by simp, ?_, ?_, ?_, ?_, ?_, ?_⟩
  · rw [← h.1]; simp
  · rw [← h.2.1]; simp
  · rw [← h.2.2.1]; simp
  · rw [← h.2.2.2.1]; simp
  · rw [← h.2.2.2.2.1]; simp
  · rw [← h.2.2.2.2.2]; simp

end Sys2Proof.Machine
end

