-- ==== Sys2Proof/Laws/Timers.lean ====
section
/-! SUPPORT. The timer blocks: what a timer's ticks leave in its count, its overflow bit and the compares it passes (R335, R337 to R339). -/

namespace Sys2Proof.Machine

open Sys2Proof

theorem State.getT_putT_same (s : State) (f : Fld) (v : Nat) (u : Unit3) (i : Nat) (h : f.ok = true) : (s.putT f v u i).getT f u i = v % 2 ^ (f.hi + 1 - f.lo) :=
  fldGet_fldPut_same s.regs f (timBase u) i v h

theorem State.getT_putT_addr (s : State) (f g : Fld) (v : Nat) (u : Unit3) (i j : Nat) (h : (g.off + g.stride * j) % 0x10000 ≠ (f.off + f.stride * i) % 0x10000) : (s.putT f v u i).getT g u j = s.getT g u j :=
  fldGet_fldPut_addr s.regs f g (timBase u) (timBase u) i j v (fldAddr_ne_of_off f g (timBase u) i j (by cases u <;> rfl) h)

theorem State.getT_putT_bits (s : State) (f g : Fld) (v : Nat) (u : Unit3) (i : Nat) (hf : f.ok = true) (ho : g.off = f.off) (hs : g.stride = f.stride) (hr : g.rst = f.rst) (h : g.hi < f.lo ∨ f.hi < g.lo) :
    (s.putT f v u i).getT g u i = s.getT g u i :=
  fldGet_fldPut_bits s.regs f g (timBase u) (timBase u) i i v hf (by unfold fldAddr; rw [ho, hs]) hr h

theorem State.getT_updTim (s : State) (f : TimSt → TimSt) (g : Fld) (u w : Unit3) (j : Nat) : (s.updTim u f).getT g w j = s.getT g w j := rfl

/-- A firing compare touches its own action register and its timer's output. -/
theorem State.fireCompare_getT (s : State) (u : Unit3) (late : Bool) (n : Nat) (g : Fld) (j : Nat)
    (h1 : (g.off + g.stride * j) % 0x10000 ≠ (0x208 + 16 * n) % 0x10000) (h2 : (g.off + g.stride * j) % 0x10000 ≠ (0x14 + 32 * (n / 4)) % 0x10000 ∨ (g.off = 0x14 ∧ g.stride = 32 ∧ j = n / 4 ∧ g.rst = 0 ∧ g.hi < 3)) :
    (s.fireCompare u late n).getT g u j = s.getT g u j := by
  have ha : ∀ (v : State) (f : Fld) (x : Nat), f.off = 0x208 → f.stride = 16 → (v.putT f x u n).getT g u j = v.getT g u j := fun v f x hf hs =>
    State.getT_putT_addr v f g x u n j (by rw [hf, hs]; exact h1)
  have ho : ∀ (v : State) (x : Nat), (v.putT TIM_TM_t_STATUS_OUT x u (n / 4)).getT g u j = v.getT g u j := fun v x => by
    rcases h2 with h2 | ⟨a, b, rfl, d, e⟩
    · exact State.getT_putT_addr v TIM_TM_t_STATUS_OUT g x u (n / 4) j h2
    · exact State.getT_putT_bits v TIM_TM_t_STATUS_OUT g x u (n / 4) (by decide) a b d (.inl e)
  have hl : ∀ (p : Prop) [Decidable p] (v : State), (if p then v.putT TIM_CMP_n_ACT_LATE 1 u n else v).getT g u j = v.getT g u j := fun p _ v => by
    split
    · exact ha _ _ _ rfl rfl
    · rfl
  have hi : ∀ (p : Prop) [Decidable p] (v : State), (if p then v.updTim u (fun x => { x with irqs := x.irqs + 1 }) else v).getT g u j = v.getT g u j := fun p _ v => by
    split <;> rfl
  have hm : ∀ (v w : State) (x : Nat) (p : Prop) [Decidable p], v.getT g u j = w.getT g u j → (if p then v else v.putT TIM_TM_t_STATUS_OUT x u (n / 4)).getT g u j = w.getT g u j := fun v w x p _ h => by
    split
    · exact h
    · rw [ho, h]
  unfold State.fireCompare
  dsimp only
  apply hm
  rw [hi, hl, ha _ _ _ rfl rfl, ha _ _ _ rfl rfl]

/-- The compare that fires is disarmed, and reads FIRED (R337). -/
theorem State.fireCompare_fired (s : State) (u : Unit3) (late : Bool) (n : Nat) (hn : n < 32) :
    (s.fireCompare u late n).getT TIM_CMP_n_ACT_FIRED u n = 1 ∧ (s.fireCompare u late n).getT TIM_CMP_n_ACT_ARMED u n = 0 := by
  have ho : ∀ (v : State) (x : Nat) (g : Fld), g.off = 0x208 → g.stride = 16 → (v.putT TIM_TM_t_STATUS_OUT x u (n / 4)).getT g u n = v.getT g u n := fun v x g a b =>
    State.getT_putT_addr v TIM_TM_t_STATUS_OUT g x u (n / 4) n (by rw [a, b]; show (0x208 + 16 * n) % 0x10000 ≠ (0x14 + 32 * (n / 4)) % 0x10000; omega)
  have key : ∀ (g : Fld) (x : Nat), g.off = 0x208 → g.stride = 16 → g.rst = 0 → 28 < g.lo → g.lo ≤ g.hi →
      ((s.putT TIM_CMP_n_ACT_ARMED 0 u n).putT TIM_CMP_n_ACT_FIRED 1 u n).getT g u n = x → (s.fireCompare u late n).getT g u n = x := fun g x a b c d d2 e => by
    have hl : ∀ (p : Prop) [Decidable p] (v : State), (if p then v.putT TIM_CMP_n_ACT_LATE 1 u n else v).getT g u n = v.getT g u n := fun p _ v => by
      split
      · exact State.getT_putT_bits v TIM_CMP_n_ACT_LATE g 1 u n (by decide) a b c (.inr (by show 28 < g.lo; exact d))
      · rfl
    have hi : ∀ (p : Prop) [Decidable p] (v : State), (if p then v.updTim u (fun x => { x with irqs := x.irqs + 1 }) else v).getT g u n = v.getT g u n := fun p _ v => by
      split <;> rfl
    have hm : ∀ (v w : State) (x : Nat) (p : Prop) [Decidable p], v.getT g u n = w.getT g u n → (if p then v else v.putT TIM_TM_t_STATUS_OUT x u (n / 4)).getT g u n = w.getT g u n := fun v w x p _ h => by
      split
      · exact h
      · rw [ho _ _ _ a b, h]
    rw [← e]
    unfold State.fireCompare
    dsimp only
    apply hm
    rw [hi, hl]
  refine ⟨key _ _ rfl rfl rfl (by decide) (by decide) (State.getT_putT_same _ _ _ _ _ (by decide)), key _ _ rfl rfl rfl (by decide) (by decide) ?_⟩
  exact (State.getT_putT_bits _ TIM_CMP_n_ACT_FIRED TIM_CMP_n_ACT_ARMED 1 u n (by decide) rfl rfl rfl (by decide)).trans (State.getT_putT_same _ _ _ _ _ (by decide))

/-- A field that no firing compare of the list touches. -/
theorem State.fires_getT (u : Unit3) (late : Bool) (g : Fld) (j : Nat) (l : List Nat) (s : State)
    (h : ∀ n ∈ l, (g.off + g.stride * j) % 0x10000 ≠ (0x208 + 16 * n) % 0x10000 ∧ ((g.off + g.stride * j) % 0x10000 ≠ (0x14 + 32 * (n / 4)) % 0x10000 ∨ (g.off = 0x14 ∧ g.stride = 32 ∧ j = n / 4 ∧ g.rst = 0 ∧ g.hi < 3))) :
    (l.foldl (fun s k => s.fireCompare u late k) s).getT g u j = s.getT g u j := by
  induction l generalizing s with
  | nil => rfl
  | cons n l ih =>
    rw [List.foldl_cons, ih _ (fun m hm => h m (List.mem_cons_of_mem _ hm))]
    exact s.fireCompare_getT u late n g j (h n (List.mem_cons_self ..)).1 (h n (List.mem_cons_self ..)).2

theorem State.fires_fired (u : Unit3) (late : Bool) (l : List Nat) (s : State) (k : Nat) (hk : k ∈ l) (h : ∀ n ∈ l, n < 32) :
    (l.foldl (fun s k => s.fireCompare u late k) s).getT TIM_CMP_n_ACT_FIRED u k = 1 ∧ (l.foldl (fun s k => s.fireCompare u late k) s).getT TIM_CMP_n_ACT_ARMED u k = 0 := by
  have keep : ∀ (l : List Nat) (s : State), (∀ n ∈ l, n < 32) → k < 32 → s.getT TIM_CMP_n_ACT_FIRED u k = 1 ∧ s.getT TIM_CMP_n_ACT_ARMED u k = 0 →
      (l.foldl (fun s k => s.fireCompare u late k) s).getT TIM_CMP_n_ACT_FIRED u k = 1 ∧ (l.foldl (fun s k => s.fireCompare u late k) s).getT TIM_CMP_n_ACT_ARMED u k = 0 := by
    intro l
    induction l with
    | nil => exact fun _ _ _ h => h
    | cons n l ih =>
      intro s hl hk hs
      refine ih _ (fun m hm => hl m (List.mem_cons_of_mem _ hm)) hk ?_
      have hn := hl n (List.mem_cons_self ..)
      by_cases e : n = k
      · subst e
        exact s.fireCompare_fired u late n hn
      · have a1 : ((0x208 : Nat) + 16 * k) % 0x10000 ≠ (0x208 + 16 * n) % 0x10000 := by omega
        have a2 : ((0x208 : Nat) + 16 * k) % 0x10000 ≠ (0x14 + 32 * (n / 4)) % 0x10000 := by omega
        exact ⟨(s.fireCompare_getT u late n TIM_CMP_n_ACT_FIRED k a1 (.inl a2)).trans hs.1, (s.fireCompare_getT u late n TIM_CMP_n_ACT_ARMED k a1 (.inl a2)).trans hs.2⟩
  induction l generalizing s with
  | nil => exact absurd hk (List.not_mem_nil)
  | cons n l ih =>
    rcases List.mem_cons.1 hk with rfl | hk
    · exact keep l _ (fun m hm => h m (List.mem_cons_of_mem _ hm)) (h _ (List.mem_cons_self ..)) (s.fireCompare_fired u late _ (h _ (List.mem_cons_self ..)))
    · exact ih _ hk (fun m hm => h m (List.mem_cons_of_mem _ hm))

theorem mem_insertBy {α : Type} (key : α → Nat) (x y : α) (l : List α) : y ∈ insertBy key x l ↔ y = x ∨ y ∈ l := by
  induction l with
  | nil => simp [insertBy]
  | cons z l ih =>
    unfold insertBy
    split
    · simp
    · simp [ih]; tauto

theorem mem_sortBy {α : Type} (key : α → Nat) (l : List α) (y : α) : y ∈ sortBy key l ↔ y ∈ l := by
  have h : ∀ (l acc : List α), y ∈ l.foldl (fun acc x => insertBy key x acc) acc ↔ y ∈ acc ∨ y ∈ l := by
    intro l
    induction l with
    | nil => simp
    | cons x l ih =>
      intro acc
      rw [List.foldl_cons, ih, mem_insertBy]
      simp; tauto
  unfold sortBy
  rw [h]
  simp

/-- The compares a timer passes are its own four. -/
theorem State.passed_own (s : State) (u : Unit3) (t old n k : Nat) (h : k ∈ s.passed u t old n) : 4 * t ≤ k ∧ k < 4 * t + 4 := by
  unfold State.passed at h
  rw [mem_sortBy, List.mem_filter, List.mem_map] at h
  obtain ⟨⟨j, hj, rfl⟩, _⟩ := h
  have := List.mem_range.1 hj
  omega

/-- R335, R337, R339: `n` ticks of a timer: its count, its overflow, and every compare passed. -/
theorem State.tickTimer_ticks (s : State) (u : Unit3) (late : Bool) (t n : Nat) (ht : t < 8) (hn : 0 < n) :
    (s.tickTimer u late t n).1.getT TIM_TM_t_COUNT_COUNT u t = (s.getT TIM_TM_t_COUNT_COUNT u t + n) % 2 ^ 32
    ∧ (2 ^ 32 ≤ s.getT TIM_TM_t_COUNT_COUNT u t + n → (s.tickTimer u late t n).1.getT TIM_TM_t_STATUS_OVF u t = 1)
    ∧ (∀ k ∈ s.passed u t (s.getT TIM_TM_t_COUNT_COUNT u t) n, (s.tickTimer u late t n).1.getT TIM_CMP_n_ACT_FIRED u k = 1 ∧ (s.tickTimer u late t n).1.getT TIM_CMP_n_ACT_ARMED u k = 0)
    ∧ (∀ (g : Fld) (j : Nat), g.off = 0 → g.stride = 32 → j < 8 → (s.tickTimer u late t n).1.getT g u j = s.getT g u j) := by
  have own := fun k hk => s.passed_own u t (s.getT TIM_TM_t_COUNT_COUNT u t) n k hk
  unfold State.tickTimer
  rw [if_neg (by omega)]
  dsimp only
  generalize hb : (if 0 < (s.getT TIM_TM_t_COUNT_COUNT u t + n) / 2 ^ 32 then (s.putT TIM_TM_t_COUNT_COUNT ((s.getT TIM_TM_t_COUNT_COUNT u t + n) % 2 ^ 32) u t).putT TIM_TM_t_STATUS_OVF 1 u t else s.putT TIM_TM_t_COUNT_COUNT ((s.getT TIM_TM_t_COUNT_COUNT u t + n) % 2 ^ 32) u t) = b
  have hc : b.getT TIM_TM_t_COUNT_COUNT u t = (s.getT TIM_TM_t_COUNT_COUNT u t + n) % 2 ^ 32 := by
    rw [← hb]
    have e : ∀ v : State, (v.putT TIM_TM_t_STATUS_OVF 1 u t).getT TIM_TM_t_COUNT_COUNT u t = v.getT TIM_TM_t_COUNT_COUNT u t := fun v =>
      State.getT_putT_addr v _ _ _ u t t (by show (4 + 32 * t) % 0x10000 ≠ (0x14 + 32 * t) % 0x10000; omega)
    split
    · rw [e, State.getT_putT_same _ _ _ _ _ (by decide)]
      exact Nat.mod_mod _ _
    · rw [State.getT_putT_same _ _ _ _ _ (by decide)]
      exact Nat.mod_mod _ _
  refine ⟨?_, ?_, ?_, ?_⟩
  · rw [State.fires_getT _ _ _ _ _ _ (fun k hk => ?_), hc]
    have := own k hk
    exact ⟨by show (4 + 32 * t) % 0x10000 ≠ (0x208 + 16 * k) % 0x10000; omega, .inl (by show (4 + 32 * t) % 0x10000 ≠ (0x14 + 32 * (k / 4)) % 0x10000; omega)⟩
  · intro hw
    rw [State.fires_getT _ _ _ _ _ _ (fun k hk => ?_), ← hb, if_pos (Nat.div_pos hw (Nat.two_pow_pos _)), State.getT_putT_same _ _ _ _ _ (by decide)]
    · rfl
    · have := own k hk
      exact ⟨by show (0x14 + 32 * t) % 0x10000 ≠ (0x208 + 16 * k) % 0x10000; omega, .inr ⟨rfl, rfl, by omega, rfl, by decide⟩⟩
  · exact fun k hk => State.fires_fired _ _ _ _ _ hk (fun m hm => by have := own m hm; omega)
  · intro g j h1 h2 hj
    rw [State.fires_getT _ _ _ _ _ _ (fun k hk => ?_), ← hb]
    · have e : ∀ (v : State) (f : Fld) (x : Nat), 0 < f.off → f.off < 32 → f.stride = 32 → (v.putT f x u t).getT g u j = v.getT g u j := fun v f x a b c =>
        State.getT_putT_addr v f g x u t j (by rw [h1, h2, c]; omega)
      split
      · rw [e _ _ _ (by decide) (by decide) rfl, e _ _ _ (by decide) (by decide) rfl]
      · rw [e _ _ _ (by decide) (by decide) rfl]
    · have := own k hk
      rw [h1, h2]
      exact ⟨by omega, .inl (by omega)⟩

/-- A disabled timer does nothing in a pass. -/
theorem State.passTimer_off (s : State) (u : Unit3) (late : Bool) (t n : Nat) (es : Tab TimEvents) (h : s.getT TIM_TM_t_CFG_EN u t = 0) : s.passTimer u late t n es = (s, es) := by
  unfold State.passTimer
  rw [if_pos h]

/-- A time-clocked timer with no master in the pass makes its own ticks. -/
theorem State.passTimer_alone (s : State) (u : Unit3) (late : Bool) (t n : Nat) (h1 : s.getT TIM_TM_t_CFG_EN u t ≠ 0) (h2 : s.getT TIM_TM_t_CFG_CLK u t = 0) :
    (s.passTimer u late t n []).1 = (s.tickTimer u late t n).1 := by
  have hm : s.masterEvents u t [] = 0 := by
    unfold State.masterEvents tabGet
    dsimp only
    split
    · rfl
    · rfl
  unfold State.passTimer
  rw [if_neg h1, hm]
  dsimp only
  rw [h2]
  simp

/-- The only enabled timer of a block, brought up to time (R335). -/
theorem State.advance_only (s : State) (u : Unit3) (k : Nat) (hk : k < 8) (ho : s.onlyTimer u k) (hd : s.dev ≠ stSLEEP) (hn : (s.tim u).last + 10 ≤ s.now) :
    ∃ v : State, (∀ (g : Fld) (j : Nat), v.getT g u j = s.getT g u j) ∧ s.advance u = (v.tickTimer u false k (s.ticksDue u k s.now)).1 := by
  obtain ⟨h1, h2, h3, h4, h5⟩ := ho
  unfold State.advance
  dsimp only
  rw [if_neg (by omega), if_neg hd]
  generalize hv : State.updTim s u _ = v
  have hg : ∀ (g : Fld) (j : Nat), v.getT g u j = s.getT g u j := fun g j => by rw [← hv]; rfl
  refine ⟨v, hg, ?_⟩
  unfold State.passBlock
  have hgate : v.gateOpen u k = true := by
    unfold State.gateOpen
    rw [hg, h3]
    rfl
  have htick : ((List.range 8).map (fun t => if (s.getT TIM_TM_t_CFG_EN u t == 1 && s.getT TIM_TM_t_CFG_CLK u t == 0) = true then (prescale (tabGet 0 (s.tim u).phase t) ((s.now - (s.tim u).last) / 10) (s.getT TIM_TM_t_CFG_PRESC u t)).2 else 0)).getD k 0 = s.ticksDue u k s.now := by
    rw [List.getD_eq_getElem?_getD, List.getElem?_map, List.getElem?_range hk]
    simp only [Option.map_some, Option.getD_some, h1, h2, beq_self_eq_true, Bool.and_self, if_true]
    rfl
  have hgates : ((List.range 8).map (fun t => v.gateOpen u t)).getD k true = true := by
    rw [List.getD_eq_getElem?_getD, List.getElem?_map, List.getElem?_range hk]
    simpa using hgate
  dsimp only
  generalize hf : (fun (r : State × Tab TimEvents) t => r.1.passTimer u false t (if ((List.range 8).map (fun t => v.gateOpen u t)).getD t true = true then ((List.range 8).map (fun t => if (s.getT TIM_TM_t_CFG_EN u t == 1 && s.getT TIM_TM_t_CFG_CLK u t == 0) = true then (prescale (tabGet 0 (s.tim u).phase t) ((s.now - (s.tim u).last) / 10) (s.getT TIM_TM_t_CFG_PRESC u t)).2 else 0)).getD t 0 else 0) r.2) = f
  have foff : ∀ (r : State × Tab TimEvents) (t : Nat), r.1.getT TIM_TM_t_CFG_EN u t = 0 → f r t = r := fun r t h => by
    rw [← hf]
    exact State.passTimer_off _ _ _ _ _ _ h
  have fon : (f (v, []) k).1 = (v.tickTimer u false k (s.ticksDue u k s.now)).1 := by
    rw [← hf]
    dsimp only
    rw [hgates, if_pos rfl, htick]
    exact State.passTimer_alone _ _ _ _ _ (by rw [hg, h1]; decide) (by rw [hg]; exact h2)
  have hen : ∀ j, j < 8 → j ≠ k → (f (v, []) k).1.getT TIM_TM_t_CFG_EN u j = 0 := fun j hj hne => by
    rw [fon]
    by_cases hz : s.ticksDue u k s.now = 0
    · unfold State.tickTimer
      rw [if_pos hz]
      exact (hg _ _).trans (h5 ⟨j, hj⟩ hne)
    · exact ((v.tickTimer_ticks u false k _ hk (by omega)).2.2.2 _ j rfl rfl hj).trans ((hg _ _).trans (h5 ⟨j, hj⟩ hne))
  have before : ∀ l : List Nat, (∀ j ∈ l, j < 8 ∧ j ≠ k) → l.foldl f (v, []) = (v, []) := fun l => by
    induction l with
    | nil => exact fun _ => rfl
    | cons j l ih =>
      intro hl
      have := hl j (List.mem_cons_self ..)
      rw [List.foldl_cons, foff _ _ (by exact (hg _ _).trans (h5 ⟨j, this.1⟩ this.2))]
      exact ih (fun m hm => hl m (List.mem_cons_of_mem _ hm))
  have after : ∀ l : List Nat, (∀ j ∈ l, j < 8 ∧ j ≠ k) → l.foldl f (f (v, []) k) = f (v, []) k := fun l => by
    induction l with
    | nil => exact fun _ => rfl
    | cons j l ih =>
      intro hl
      have := hl j (List.mem_cons_self ..)
      rw [List.foldl_cons, foff _ _ (hen j this.1 this.2)]
      exact ih (fun m hm => hl m (List.mem_cons_of_mem _ hm))
  have hsplit : List.range 8 = List.range k ++ (k :: (List.range (7 - k)).map (fun i => k + 1 + i)) := by
    revert hk
    clear * -
    intro hk
    have : k = 0 ∨ k = 1 ∨ k = 2 ∨ k = 3 ∨ k = 4 ∨ k = 5 ∨ k = 6 ∨ k = 7 := by omega
    rcases this with rfl | rfl | rfl | rfl | rfl | rfl | rfl | rfl <;> rfl
  rw [hsplit, List.foldl_append, List.foldl_cons, before _ (fun j hj => by have := List.mem_range.1 hj; omega), after _ (fun j hj => by
    obtain ⟨i, hi, rfl⟩ := List.mem_map.1 hj
    have := List.mem_range.1 hi
    omega)]
  exact fon

theorem State.tim_updTim (s : State) (u : Unit3) (f : TimSt → TimSt) : (s.updTim u f).tim u = f (s.tim u) := tabGet_tabUpd_same _ _ _ _

theorem State.crc_updCrc (s : State) (u : Unit3) (f : CrcSt → CrcSt) : tabGet {} (s.updCrc u f).crcs (unitNum u) = f (tabGet {} s.crcs (unitNum u)) := tabGet_tabUpd_same _ _ _ _

/-- Bringing a block up to time leaves the levels of its pins. -/
theorem State.advance_pins (s : State) (u : Unit3) : ((s.advance u).tim u).pins = (s.tim u).pins := by
  have hu : ∀ (x : State) (f : TimSt → TimSt), (∀ y, (f y).pins = y.pins) → ((x.updTim u f).tim u).pins = (x.tim u).pins := fun x f hf => by
    show (tabGet {} (tabUpd {} _ _ _) _ : TimSt).pins = _
    rw [tabGet_tabUpd_same]
    exact hf _
  have hcap : ∀ (x : State) (t : Nat), ((x.capture u t none).tim u).pins = (x.tim u).pins := fun x t => by
    unfold State.capture
    dsimp only
    split <;> rfl
  have hfire : ∀ (x : State) (l : Bool) (n : Nat), ((x.fireCompare u l n).tim u).pins = (x.tim u).pins := fun x l n => by
    have h2 : ∀ (p : Prop) [Decidable p] (v : State), ((if p then v.updTim u (fun x => { x with irqs := x.irqs + 1 }) else v).tim u).pins = (v.tim u).pins := fun p _ v => by
      split
      · exact hu _ _ (fun _ => rfl)
      · rfl
    have h1 : ∀ (p : Prop) [Decidable p] (v : State), ((if p then v.putT TIM_CMP_n_ACT_LATE 1 u n else v).tim u).pins = (v.tim u).pins := fun p _ v => by
      split <;> rfl
    have h3 : ∀ (v : State) (y : Nat) (p : Prop) [Decidable p], ((if p then v else v.putT TIM_TM_t_STATUS_OUT y u (n / 4)).tim u).pins = (v.tim u).pins := fun v y p _ => by
      split <;> rfl
    unfold State.fireCompare
    dsimp only
    rw [h3, h2, h1]
    rfl
  have htick : ∀ (x : State) (l : Bool) (t n : Nat), ((x.tickTimer u l t n).1.tim u).pins = (x.tim u).pins := fun x l t n => by
    unfold State.tickTimer
    split
    · rfl
    · dsimp only
      rw [State.foldl_keep (fun s : State => (s.tim u).pins) _ (fun y k => hfire y l k)]
      split <;> rfl
  have hpass : ∀ (r : State × Tab TimEvents) (l : Bool) (t n : Nat), ((r.1.passTimer u l t n r.2).1.tim u).pins = (r.1.tim u).pins := fun r l t n => by
    have h4 : ∀ (p : Prop) [Decidable p] (v : State), ((if p then v.capture u t none else v).tim u).pins = (v.tim u).pins := fun p _ v => by
      split
      · exact hcap _ _
      · rfl
    have h5 : ∀ (p : Prop) [Decidable p] (v : State), ((if p then v.putT TIM_TM_t_COUNT_COUNT 0 u t else v).tim u).pins = (v.tim u).pins := fun p _ v => by
      split <;> rfl
    unfold State.passTimer
    split
    · rfl
    · dsimp only
      rw [h5, h4]
      exact htick _ _ _ _
  have hblock : ∀ (x : State) (l : Bool) (f : Nat → Nat), ((x.passBlock u l f).tim u).pins = (x.tim u).pins := fun x l f => by
    unfold State.passBlock
    dsimp only
    exact State.foldl_keep1 (fun s : State => (s.tim u).pins) _ (fun r t => hpass r l t _) _ _
  unfold State.advance
  dsimp only
  split
  · rfl
  · split
    · exact hu _ _ (fun _ => rfl)
    · rw [hblock]
      exact hu _ _ (fun _ => rfl)

end Sys2Proof.Machine
end

