-- ==== Sys2Proof/Laws/Now.lean ====
section
/-! SUPPORT. What leaves the clock alone: a start, a sleep and a wake move no time of their own. -/

namespace Sys2Proof.Machine

open Sys2Proof

@[simp] theorem State.ite_now (c : Prop) [Decidable c] (a b : State) : (if c then a else b).now = if c then a.now else b.now := apply_ite _ _ _ _

@[simp] theorem State.foldl_now {α : Type} (f : State → α → State) (l : List α) (s : State) (h : ∀ s x, (f s x).now = s.now) : (l.foldl f s).now = s.now :=
  State.foldl_keep (·.now) f h l s

@[simp] theorem State.putAt_now (s : State) (f : Fld) (v base : Nat) (i : Nat) : (State.putAt s f v base i).now = s.now := by
  unfold State.putAt
  simp

@[simp] theorem State.putT_now (s : State) (f : Fld) (v : Nat) (u : Unit3) (i : Nat) : (State.putT s f v u i).now = s.now := by
  unfold State.putT
  simp

@[simp] theorem State.updTim_now (s : State) (u : Unit3) (f : TimSt → TimSt) : (State.updTim s u f).now = s.now := by
  unfold State.updTim
  simp

@[simp] theorem State.fireCompare_now (s : State) (u : Unit3) (late : Bool) (n : Nat) : (State.fireCompare s u late n).now = s.now := by
  unfold State.fireCompare
  simp

@[simp] theorem State.tickTimer_now (s : State) (u : Unit3) (late : Bool) (t n : Nat) : (State.tickTimer s u late t n).1.now = s.now := by
  unfold State.tickTimer
  ((try dsimp only); repeat' (first | (simp; done) | split))

@[simp] theorem State.capture_now (s : State) (u : Unit3) (t : Nat) (stamp : Option Nat) : (State.capture s u t stamp).now = s.now := by
  unfold State.capture
  ((try dsimp only); repeat' (first | (simp; done) | split))

@[simp] theorem State.foldl1_now {α β : Type} (f : State × β → α → State × β) (l : List α) (r : State × β) (h : ∀ r x, (f r x).1.now = r.1.now) : (l.foldl f r).1.now = r.1.now := by
  induction l generalizing r with
  | nil => rfl
  | cons a l ih => exact (ih _).trans (h r a)

@[simp] theorem State.passTimer_now (s : State) (u : Unit3) (late : Bool) (t n : Nat) (es : Tab TimEvents) : (State.passTimer s u late t n es).1.now = s.now := by
  unfold State.passTimer
  ((try dsimp only); repeat' (first | (simp; done) | split))

@[simp] theorem State.passBlock_now (s : State) (u : Unit3) (late : Bool) (ticks : Nat → Nat) : (State.passBlock s u late ticks).now = s.now := by
  unfold State.passBlock
  exact State.foldl1_now _ _ _ (by intros; simp)

@[simp] theorem State.makeUp_now (s : State) (u : Unit3) (p : Nat) : (State.makeUp s u p).now = s.now := by
  unfold State.makeUp
  simp

@[simp] theorem State.put_now (s : State) (f : Fld) (v : Nat) (c : Chan) (i : Nat) : (State.put s f v c i).now = s.now := by
  unfold State.put
  simp

@[simp] theorem State.stopStay_now (s : State) : (State.stopStay s).now = s.now := by
  unfold State.stopStay
  simp

@[simp] theorem State.updAe_now (s : State) (c : Chan) (f : AeSt → AeSt) : (State.updAe s c f).now = s.now := by
  unfold State.updAe
  simp

@[simp] theorem State.invalidate_now (s : State) : (State.invalidate s).now = s.now := by
  unfold State.invalidate
  simp

@[simp] theorem State.updAdc_now (s : State) (k : Nat) (f : AdcSt → AdcSt) : (State.updAdc s k f).now = s.now := by
  unfold State.updAdc
  simp

@[simp] theorem State.putA_now (s : State) (f : Fld) (v k : Nat) (i : Nat) : (State.putA s f v k i).now = s.now := by
  unfold State.putA
  simp

@[simp] theorem State.addA_now (s : State) (f : Fld) (n k : Nat) (i : Nat) : (State.addA s f n k i).now = s.now := by
  unfold State.addA
  simp

@[simp] theorem State.adcNext.regular_now (k : Nat) (s : State) (a : AdcSt) : (State.adcNext.regular k s a).now = s.now := by
  unfold State.adcNext.regular
  repeat' (first | (simp; done) | split)

@[simp] theorem State.adcNext_now (s : State) (k : Nat) : (State.adcNext s k).now = s.now := by
  unfold State.adcNext
  ((try dsimp only); repeat' (first | (simp; done) | split))

@[simp] theorem State.calFallsDue_now (s : State) (k : Nat) : (State.calFallsDue s k).now = s.now := by
  unfold State.calFallsDue
  simp

@[simp] theorem State.calibrateAll_now (s : State) : (State.calibrateAll s).now = s.now := by
  unfold State.calibrateAll
  simp

@[simp] theorem State.putSesBit_now (s : State) (f : Fld) (n : Nat) (b : Bool) : (State.putSesBit s f n b).now = s.now := by
  unfold State.putSesBit
  simp

@[simp] theorem State.showSingle_now (s : State) (n : Nat) : (State.showSingle s n).now = s.now := by
  unfold State.showSingle
  simp

@[simp] theorem State.setSes_now (s : State) (n st : Nat) : (State.setSes s n st).now = s.now := by
  unfold State.setSes
  simp

@[simp] theorem State.openSessions_now (s : State) : (State.openSessions s).now = s.now := by
  unfold State.openSessions
  simp

@[simp] theorem State.oweTests_now (s : State) (m : BitVec 16) : (State.oweTests s m).now = s.now := by
  unfold State.oweTests
  simp

@[simp] theorem State.oweAll_now (s : State) : (State.oweAll s).now = s.now := by
  unfold State.oweAll
  simp

@[simp] theorem State.resume_now (s : State) : (State.resume s).now = s.now := by
  unfold State.resume
  simp

@[simp] theorem State.satInc_now (s : State) (f : Fld) (c : Chan) (i : Nat) : (State.satInc s f c i).now = s.now := by
  unfold State.satInc
  simp

@[simp] theorem State.noteReset_now (s : State) (code : Nat) : (State.noteReset s code).now = s.now := by
  unfold State.noteReset
  simp

@[simp] theorem State.advance_now (s : State) (u : Unit3) : (State.advance s u).now = s.now := by
  unfold State.advance
  simp

@[simp] theorem State.putBoth_now (s : State) (f : Fld) (v : Nat) (i : Nat) : (State.putBoth s f v i).now = s.now := by
  unfold State.putBoth
  simp

@[simp] theorem State.putFlag_now (s : State) (f : Fld) (v : Bool) (c : Chan) (i : Nat) : (State.putFlag s f v c i).now = s.now := by
  unfold State.putFlag
  simp

@[simp] theorem State.recReady_now (s : State) : (State.recReady s).now = s.now := by
  unfold State.recReady
  simp

@[simp] theorem State.pushRec_now (s : State) (typ : Nat) (payload : List Nat) : (State.pushRec s typ payload).now = s.now := by
  unfold State.pushRec
  simp

@[simp] theorem State.abortTest_now (s : State) : (State.abortTest s).now = s.now := by
  unfold State.abortTest
  simp

@[simp] theorem State.dropEvent_now (s : State) : (State.dropEvent s).now = s.now := by
  unfold State.dropEvent
  ((try dsimp only); repeat' (first | (simp; done) | split))

@[simp] theorem State.pushEvent_now (s : State) (typ : Nat) (words : List Nat) (fault : Option (Chan × Nat)) : (State.pushEvent s typ words fault).now = s.now := by
  unfold State.pushEvent
  simp

@[simp] theorem State.setDev_now (s : State) (n : Nat) : (State.setDev s n).now = s.now := by
  unfold State.setDev
  simp

theorem State.clearMirror_slept (s : State) : s.clearMirror.sleepAt = s.sleepAt ∧ s.clearMirror.sleepRun = s.sleepRun := by
  have hu : ∀ (y : State) (g : MzSt → MzSt), (y.updMz g).sleepAt = y.sleepAt ∧ (y.updMz g).sleepRun = y.sleepRun := fun _ _ => ⟨rfl, rfl⟩
  unfold State.clearMirror
  rw [(hu _ _).1, (hu _ _).2]
  refine ⟨?_, ?_⟩
  · apply State.foldl_keep (·.sleepAt)
    intro v q
    rfl
  · apply State.foldl_keep (·.sleepRun)
    intro v q
    rfl

/-- What entering SLEEP notes (R433, R434). -/
theorem State.enterSleep_does (x : State) (l : Tab AdcSt) :
    let t := State.setDev (State.clearMirror { x with sleepAt := x.now, sleptFrom := x.dev, sleepRun := 0, adcs := l }) stSLEEP
    t.dev = stSLEEP ∧ t.sleepAt = x.now ∧ t.sleepRun = 0 ∧ t.mz.mirrorAt = none := by
  dsimp only
  refine ⟨State.setDev_dev _ _ (by decide), ?_, ?_, ?_⟩
  · have h : ∀ (x : State) (n : Nat), (x.setDev n).sleepAt = x.sleepAt := fun x n => by rw [State.setDev_rest]
    rw [h, (State.clearMirror_slept _).1]
  · have h : ∀ (x : State) (n : Nat), (x.setDev n).sleepRun = x.sleepRun := fun x n => by rw [State.setDev_rest]
    rw [h, (State.clearMirror_slept _).2]
  · have h : ∀ (x : State) (n : Nat), (x.setDev n).mz = x.mz := fun x n => by rw [State.setDev_rest]
    rw [h, State.clearMirror_mz]

end Sys2Proof.Machine
end

