-- ==== Sys2Proof/Laws/Bus.lean ====
section
/-! SUPPORT. What a read and a write through the firewall do (R31, R35, R75, R370). -/

namespace Sys2Proof.Machine

open Sys2Proof

/-- A read the firewall permits of an address that holds a register. -/
theorem State.busRead_reg (s : State) (i : Initiator) (a base : Nat) (b : Block) (h1 : s.fwAllows i .read a (a + 3) = true) (h2 : placeOf a = .regs b base) (h3 : a % 4 = 0) :
    s.busRead i a = { (s.readAt i true b base a).1 with bus := .data (s.readAt i true b base a).2 } := by
  unfold State.busRead
  rw [if_neg (by rw [h1]; decide), if_neg (by rw [h2, h3]; rintro (h | h); cases h; exact h rfl)]
  unfold State.readWord
  rw [h2]

/-- A register read: the word, and the latches the read takes. -/
theorem State.readAt_reg (s : State) (i : Initiator) (b : Block) (base a off : Nat) (d : RegDesc) (ho : offsetIn b a = off) (hd : (regAt b off).map (·.1) = some d) :
    (s.readAt i true b base a).2 = (s.catchUp b base).readReg i b off a d ∧
    (s.readAt i true b base a).1.latches = ((s.catchUp b base).take i ((s.catchUp b base).latchesOf b (a - off) off)).latches := by
  have hc : ∀ (x : State), (x.clearRc a d).latches = x.latches := fun x => by
    unfold State.clearRc
    dsimp only
    split <;> rfl
  have hr : ∀ (x : State), (x.readCap b base off).latches = x.latches := fun x => by
    unfold State.readCap
    split
    · split <;> rfl
    · rfl
  unfold State.readAt
  dsimp only
  rw [ho, hd]
  exact ⟨rfl, (hc _).trans (hr _)⟩

theorem foldl_fix {α β : Type} (f : β → α → β) (l : List α) (w : β) (h : ∀ x ∈ l, ∀ v, f v x = v) : l.foldl f w = w := by
  induction l generalizing w with
  | nil => rfl
  | cons x l ih =>
    rw [List.foldl_cons, h x (List.mem_cons_self ..)]
    exact ih w fun y hy => h y (List.mem_cons_of_mem _ hy)

/-- A register none of whose fields is read-clear is unchanged by a read. -/
theorem State.clearRc_none (s : State) (a : Nat) (d : RegDesc) (h : d.fields.all (fun f => f.acc != .rc) = true) : s.clearRc a d = s := by
  unfold State.clearRc
  dsimp only
  rw [foldl_fix, if_pos rfl]
  intro f hf v
  have hn : f.acc ≠ .rc := by simpa using List.all_eq_true.mp h f hf
  split
  · exact absurd ‹_› hn
  · rfl

/-- A latch of the initiator holds the value it was last given. -/
theorem State.take_latched (s : State) (i : Initiator) (m : LatchMap) (rst : Nat) (h : (m.map (·.1)).Nodup) : ∀ e ∈ m, (s.take i m).latched i rst e.1 = e.2 := by
  have key : ∀ (m : LatchMap) (t : Tab Nat) (k : Nat), k ∉ m.map (·.1) → tabGet rst (m.foldl (fun t e => tabSet t (latchKey i e.1) e.2) t) (latchKey i k) = tabGet rst t (latchKey i k) := by
    intro m
    induction m with
    | nil => intro t k _; rfl
    | cons e m ih =>
      intro t k hk
      rw [List.map_cons, List.mem_cons, not_or] at hk
      rw [List.foldl_cons, ih _ _ hk.2]
      exact tabGet_tabSet_other _ _ _ _ _ (by unfold latchKey; have := hk.1; omega)
  unfold State.latched State.take
  dsimp only
  generalize s.latches = t
  induction m generalizing t with
  | nil => intro e he; cases he
  | cons c m ih =>
    intro e he
    rw [List.map_cons, List.nodup_cons] at h
    rw [List.foldl_cons]
    rcases List.mem_cons.mp he with he | he
    · rw [he, key m _ _ h.1]
      exact tabGet_tabSet_same _ _ _ _
    · exact ih h.2 _ e he

/-- A read of one initiator leaves the latches of every other. -/
theorem State.take_others (s : State) (i j : Initiator) (h : iniCode j ≠ iniCode i) (m : LatchMap) (k rst : Nat) (hk : k < 2 ^ 32) (hm : ∀ e ∈ m, e.1 < 2 ^ 32) :
    tabGet rst (s.take i m).latches (latchKey j k) = tabGet rst s.latches (latchKey j k) := by
  unfold State.take
  dsimp only
  generalize s.latches = t
  induction m generalizing t with
  | nil => rfl
  | cons e m ih =>
    rw [List.foldl_cons, ih (fun x hx => hm x (List.mem_cons_of_mem _ hx))]
    refine tabGet_tabSet_other _ _ _ _ _ ?_
    have := hm e (List.mem_cons_self ..)
    unfold latchKey
    omega

theorem State.liveMap_nodup (s : State) (base : Nat) (l : List Nat) (h : l.Nodup) : ((s.liveMap base l).map (·.1)).Nodup := by
  unfold State.liveMap
  rw [List.map_map]
  exact h.map fun x y hxy => Nat.add_left_cancel hxy

/-- A latching read of a block that needs no catching up. -/
theorem State.busRead_latch (s : State) (i : Initiator) (a base off : Nat) (b : Block) (d : RegDesc) (h1 : s.fwAllows i .read a (a + 3) = true) (h2 : placeOf a = .regs b base) (h3 : a % 4 = 0)
    (ho : offsetIn b a = off) (hd : (regAt b off).map (·.1) = some d) (hn : (((s.catchUp b base).latchesOf b (a - off) off).map (·.1)).Nodup) :
    (s.busRead i a).bus = .data ((s.catchUp b base).readReg i b off a d) ∧
    ∀ e ∈ (s.catchUp b base).latchesOf b (a - off) off, ∀ rst, (s.busRead i a).latched i rst e.1 = e.2 := by
  rw [s.busRead_reg i a base b h1 h2 h3]
  have h := s.readAt_reg i b base a off d ho hd
  refine ⟨congrArg BusAns.data h.1, fun e he rst => ?_⟩
  have := State.take_latched (s.catchUp b base) i _ rst hn e he
  unfold State.latched at this ⊢
  dsimp only
  rw [h.2]
  exact this

/-- R39: what a denied transaction leaves. -/
theorem State.deny_does (s : State) (i : Initiator) (a : Nat) : (s.deny i a).bus = .error ∧ (s.deny i a).mem = s.mem := by
  unfold State.deny
  dsimp only
  refine ⟨rfl, ?_⟩
  split <;> simp

theorem State.deny_latched (s : State) (i : Initiator) (a : Nat) (hq : s.quiet) :
    (∀ c, iniChan i = some c → (s.deny i a).faulted c ⟨23, 2, chanCharge c, .none⟩) ∧ (iniChan i = none → (s.deny i a).faulted .a ⟨23, 0, .shared, .none⟩ ∧ (s.deny i a).faulted .b ⟨23, 0, .shared, .none⟩) := by
  have hq' : ((s.satInc SEC_FW_DENY_COUNT).put SEC_FW_DENY_LAST_INIT (iniCode i)).quiet := (State.quiet_of_fcv (by simp)).mpr hq
  have hb : ∀ (x : State) (c : Chan) (l : Latch), x.faulted c l → ({ x with bus := .error } : State).faulted c l := fun x c l h => h
  unfold State.deny
  dsimp only
  refine ⟨fun c hc => ?_, fun hc => ?_⟩
  · rw [hc]
    exact hb _ _ _ (State.raiseOnce_latched _ _ _ (.inl hq') (.inr rfl))
  · rw [hc]
    exact ⟨hb _ _ _ (State.raiseOnce_latched _ .a _ (.inl hq') (.inl rfl)), hb _ _ _ (State.raiseOnce_latched _ .b _ (.inl hq') (.inl rfl))⟩

theorem regWord_tabSet (r : RegFile) (rst a x : Nat) (w : Word) : regWord (tabSet r a w) rst x = if x = a then w else regWord r rst x := by
  unfold regWord
  exact tabGet_tabSet _ _ _ _ _

theorem Block.still_parts (b : Block) (h : b.still = true) (s : State) (i : Initiator) (base off : Nat) :
    s.catchUp b base = s ∧ ownRow b base off = false ∧ mayWrite i b base off = true ∧ s.scanHolds b base off = false ∧ b ≠ .mzw := by
  cases b
  all_goals first
    | exact absurd h (by decide)
    | exact ⟨rfl, rfl, rfl, rfl, by decide⟩

theorem State.writeAt_still (s : State) (i : Initiator) (a v base off : Nat) (b : Block) (d : RegDesc) (hs : b.still = true) (ho : offsetIn b a = off) (hd : (regAt b off).map (·.1) = some d) :
    s.writeAt i b base a v = (if regWord s.regs d.rst a = written (s.rwsOpen i || base == 0x60000000) (regWord s.regs d.rst a) v d.fields then s else { s with regs := tabSet s.regs a (written (s.rwsOpen i || base == 0x60000000) (regWord s.regs d.rst a) v d.fields) }) := by
  obtain ⟨e1, e2, e3, e4, e5⟩ := b.still_parts hs s i base off
  unfold State.writeAt
  dsimp only
  rw [ho, hd]
  dsimp only
  rw [e1, e2, e3, e4, if_neg (by decide), if_neg (by decide), if_neg (fun h => e5 h.1), if_neg (fun h => e5 h.1)]

/-- A word written to a register of such a block: its fields by their access codes, and no other register. -/
theorem State.busWrite_reg (s : State) (i : Initiator) (a v base off : Nat) (b : Block) (d : RegDesc) (h1 : s.fwAllows i .write a a = true) (h2 : placeOf a = .regs b base) (h3 : a % 4 = 0)
    (hs : b.still = true) (ho : offsetIn b a = off) (hd : (regAt b off).map (·.1) = some d) :
    (s.busWrite i .word a v).bus = .done ∧ regWord (s.busWrite i .word a v).regs d.rst a = written (s.rwsOpen i || base == 0x60000000) (regWord s.regs d.rst a) v d.fields ∧
    (∀ x, x ≠ a → ∀ rst, regWord (s.busWrite i .word a v).regs rst x = regWord s.regs rst x) ∧ (s.busWrite i .word a v).mem = s.mem := by
  have hw := s.writeAt_still i a v base off b d hs ho hd
  unfold State.busWrite
  rw [if_neg (by rw [h1]; decide), h2]
  dsimp only
  rw [if_pos ⟨rfl, h3⟩, hw]
  split
  · rename_i h
    exact ⟨rfl, h, fun _ _ _ => rfl, rfl⟩
  · refine ⟨rfl, ?_, fun x hx rst => ?_, rfl⟩
    · rw [regWord_tabSet, if_pos rfl]
    · rw [regWord_tabSet, if_neg hx]

theorem allRegs_ok : (allRegs.all (fun d => d.fields.all (fun f => decide (f.lo ≤ f.hi ∧ f.hi < 32)))) = true := by decide +kernel

theorem regAt_ok (b : Block) (off : Nat) (d : RegDesc) (h : (regAt b off).map (·.1) = some d) (f : Fld) (hf : f ∈ d.fields) : f.lo ≤ f.hi ∧ f.hi < 32 := by
  obtain ⟨e, he, hd⟩ := Option.map_eq_some_iff.mp h
  unfold regAt at he
  obtain ⟨d', hd', hx⟩ := Option.map_eq_some_iff.mp he
  have hm := List.mem_of_find?_eq_some hd'
  have h1 := List.all_eq_true.mp allRegs_ok d' hm
  rw [← hx] at hd
  have h2 : d'.fields.all (fun f => decide (f.lo ≤ f.hi ∧ f.hi < 32)) = true := h1
  rw [show d' = d from hd] at h2
  simpa using List.all_eq_true.mp h2 f hf

/-- A field that reads 0 still does after another field is made 0. -/
theorem getBits_putBits_zero (w : Word) (hi lo hi' lo' : Nat) (h1 : lo ≤ hi) (h2 : hi < 32) (h : getBits w hi' lo' = 0) : getBits (putBits w hi lo 0) hi' lo' = 0 := by
  apply Nat.eq_of_testBit_eq
  intro k
  have h0 : (getBits w hi' lo').testBit k = false := by rw [h]; exact Nat.zero_testBit k
  rw [Nat.zero_testBit, testBit_getBits] at *
  by_cases hk : k < hi' + 1 - lo'
  · simp only [hk, decide_true, Bool.true_and] at *
    by_cases hr : lo' + k < lo ∨ hi < lo' + k
    · rw [testBit_putBits w hi lo 0 _ h1 h2 hr]; exact h0
    · have hs : getBits (putBits w hi lo 0) hi lo = 0 := (getBits_putBits_same w hi lo 0 h1 h2).trans (Nat.zero_mod _)
      have hb : (getBits (putBits w hi lo 0) hi lo).testBit (lo' + k - lo) = false := by rw [hs]; exact Nat.zero_testBit _
      rw [testBit_getBits] at hb
      have hlt : lo' + k - lo < hi + 1 - lo := by omega
      simp only [hlt, decide_true, Bool.true_and] at hb
      rw [show lo + (lo' + k - lo) = lo' + k by omega] at hb
      exact hb
  · simp [hk]

/-- R8: after a read every RC field of the register is 0. -/
theorem State.clearRc_zero (s : State) (a : Nat) (d : RegDesc) (h : ∀ f ∈ d.fields, f.lo ≤ f.hi ∧ f.hi < 32) (f : Fld) (hf : f ∈ d.fields) (hr : f.acc = .rc) :
    getBits (regWord (s.clearRc a d).regs d.rst a) f.hi f.lo = 0 := by
  have key : ∀ (g : Word → Fld → Word), (∀ w x, x.acc = .rc → g w x = putBits w x.hi x.lo 0) → (∀ w x, x.acc ≠ .rc → g w x = w) →
      ∀ (l : List Fld) (w : Word), (∀ x ∈ l, x.lo ≤ x.hi ∧ x.hi < 32) → (f ∈ l ∨ getBits w f.hi f.lo = 0) → getBits (l.foldl g w) f.hi f.lo = 0 := by
    intro g g1 g2 l
    induction l with
    | nil => intro w _ h; exact h.resolve_left (List.not_mem_nil)
    | cons x l ih =>
      intro w hl hw
      rw [List.foldl_cons]
      have hx := hl x (List.mem_cons_self ..)
      refine ih _ (fun y hy => hl y (List.mem_cons_of_mem _ hy)) ?_
      by_cases hc : x.acc = .rc
      · rw [g1 _ _ hc]
        rcases hw with hw | hw
        · rcases List.mem_cons.mp hw with hw | hw
          · exact .inr (by rw [← hw] at hx ⊢; exact (getBits_putBits_same w _ _ 0 hx.1 hx.2).trans (Nat.zero_mod _))
          · exact .inl hw
        · exact .inr (getBits_putBits_zero _ _ _ _ _ hx.1 hx.2 hw)
      · rw [g2 _ _ hc]
        rcases hw with hw | hw
        · rcases List.mem_cons.mp hw with hw | hw
          · exact absurd (hw ▸ hr) hc
          · exact .inl hw
        · exact .inr hw
  unfold State.clearRc
  dsimp only
  have hz := key (fun (w : Word) (f : Fld) => match f.acc with
    | .rc => putBits w f.hi f.lo 0
    | _ => w) (fun w x hx => by rw [hx]) (fun w x hx => by
      split
      · exact absurd ‹_› hx
      · rfl) d.fields (regWord s.regs d.rst a) h (.inl hf)
  split
  · rename_i he
    rw [he]
    exact hz
  · rw [regWord_tabSet, if_pos rfl]
    exact hz

/-- R7: a byte or half-word access to a register writes nothing and returns a bus error. -/
theorem State.busWrite_narrow (s : State) (i : Initiator) (w : Width) (a v base : Nat) (b : Block) (h1 : s.fwAllows i .write a a = true) (h2 : placeOf a = .regs b base) (h3 : w ≠ .word ∨ a % 4 ≠ 0) :
    s.busWrite i w a v = { s with bus := .error } := by
  unfold State.busWrite
  rw [if_neg (by rw [h1]; decide), h2]
  dsimp only
  rw [if_neg (by rintro ⟨x, y⟩; rcases h3 with h | h; exact h x; exact h y)]

end Sys2Proof.Machine
end

