-- ==== Sys2Proof/Laws/Cycle.lean ====
section
/-! SUPPORT. The guard cycle: what leaves the angle engines, the graphs and the dies alone (R21 to R24). -/

namespace Sys2Proof.Machine

open Sys2Proof

@[simp] theorem State.updSes_ae (s : State) (n : Nat) (f : SesSt → SesSt) : (State.updSes s n f).ae = s.ae := by
  unfold State.updSes
  simp

@[simp] theorem State.putSesBit_ae (s : State) (f : Fld) (n : Nat) (b : Bool) : (State.putSesBit s f n b).ae = s.ae := by
  unfold State.putSesBit
  simp

@[simp] theorem State.showSingle_ae (s : State) (n : Nat) : (State.showSingle s n).ae = s.ae := by
  unfold State.showSingle
  simp

@[simp] theorem State.setPath_ae (s : State) (n : Nat) (p : Net) (up : Bool) : (State.setPath s n p up).ae = s.ae := by
  unfold State.setPath
  simp

@[simp] theorem State.setSes_ae (s : State) (n st : Nat) : (State.setSes s n st).ae = s.ae := by
  unfold State.setSes
  simp

@[simp] theorem State.failSes_ae (s : State) (n line : Nat) : (State.failSes s n line).ae = s.ae := by
  unfold State.failSes
  dsimp only
  rw [State.raise_ae, State.updSes_ae, State.setSes_ae]

@[simp] theorem State.twin_ae (s : State) (n : Nat) (w : OpenWin) (f : GoaFrame) : (State.twin s n w f).ae = s.ae := by
  unfold State.twin
  simp

@[simp] theorem State.runSes_ae (s : State) (n : Nat) : (State.runSes s n).ae = s.ae := by
  unfold State.runSes
  simp

@[simp] theorem State.deliver_ae (s : State) (n : Nat) (p : Net) (c : Slot) (restart : Bool) : (State.deliver s n p c restart).ae = s.ae := by
  unfold State.deliver
  simp

@[simp] theorem State.processCopy_ae (s : State) (n : Nat) (p : Net) (c : Slot) : (State.processCopy s n p c).ae = s.ae := by
  unfold State.processCopy
  ((try dsimp only); repeat' (first | (simp; done) | split))

@[simp] theorem State.deliverAll_ae (s : State) : (State.deliverAll s).ae = s.ae := by
  unfold State.deliverAll
  dsimp only
  rw [State.foldl_ae]
  intro v n
  rw [State.foldl_ae]
  intro x c
  rw [State.processCopy_ae]

@[simp] theorem State.formGroups_ae (s : State) (sf : Option Nat) : (State.formGroups s sf).ae = s.ae := by
  unfold State.formGroups
  simp

@[simp] theorem State.showHostImage_ae (s : State) : (State.showHostImage s).ae = s.ae := by
  unfold State.showHostImage
  simp

@[simp] theorem State.adcFault_ae (s : State) (k : Nat) (el : Elem) : (State.adcFault s k el).ae = s.ae := by
  unfold State.adcFault
  simp

@[simp] theorem State.aiCheck_ae (s : State) (k n : Nat) : (State.aiCheck s k n).ae = s.ae := by
  unfold State.aiCheck
  simp

@[simp] theorem State.aiSnap_ae (s : State) (c : Chan) (n : Nat) : (State.aiSnap s c n).1.ae = s.ae := by
  unfold State.aiSnap
  ((try dsimp only); repeat' (first | (simp; done) | split))

@[simp] theorem State.aiInputs_ae (s : State) (c : Chan) : (State.aiInputs s c).1.ae = s.ae := by
  unfold State.aiInputs
  simp

@[simp] theorem State.updGraph_ae (s : State) (c : Chan) (f : GraphSt → GraphSt) : (State.updGraph s c f).ae = s.ae := by
  unfold State.updGraph
  simp

@[simp] theorem State.setInputs_ae (s : State) (app : BitVec 64) (aiA aiB : List (Nat × Int)) : (State.setInputs s app aiA aiB).ae = s.ae := by
  unfold State.setInputs
  simp

@[simp] theorem State.sent_ae (s : State) (c : Chan) (l : Lane) : (State.sent s c l).ae = s.ae := by
  unfold State.sent
  simp

/-! ## Evaluation (R130 to R133) -/

/-- What follows the forming of the result vector leaves the graph alone. -/
theorem State.evalShow_graph (s : State) (c : Chan) (l : Tab InstSt) (a b : Bool) :
    (if b then (((s.showInsts c l).showSf c).putFlag LLK_STATUS_ARMED a .a).setDev stRUN else ((s.showInsts c l).showSf c).putFlag LLK_STATUS_ARMED a .a).graph = s.graph := by
  split <;> simp

theorem State.evalChannel_delivered (s : State) (c : Chan) : (twoAt (s.evalChannel c).graph c).delivered = true := by
  unfold State.evalChannel
  dsimp only
  rw [State.evalShow_graph]
  unfold State.updGraph
  dsimp only
  rw [twoAt_twoUpd_same]

/-- A channel's evaluation leaves the other channel's graph alone. -/
theorem State.evalChannel_other (s : State) (c d : Chan) (h : d ≠ c) : twoAt (s.evalChannel c).graph d = twoAt s.graph d := by
  have hu : ∀ (x : State) (f : GraphSt → GraphSt), twoAt (x.updGraph c f).graph d = twoAt x.graph d := fun x f => by
    unfold State.updGraph
    cases c <;> cases d <;> first | rfl | exact absurd rfl h
  have hf : ∀ (α : Type) (g : State → α → State) (l : List α) (x : State), (∀ y a, twoAt (g y a).graph d = twoAt y.graph d) → twoAt (l.foldl g x).graph d = twoAt x.graph d := fun α g l x hg =>
    State.foldl_keep (fun y => twoAt y.graph d) g hg l x
  have hc : ∀ x : State, twoAt (x.chargeReceived c).graph d = twoAt x.graph d := fun x => by
    unfold State.chargeReceived
    dsimp only
    refine (hf _ _ _ _ ?_).trans (by simp)
    intro y l
    refine (hf _ _ _ _ ?_)
    intro z n
    exact hu _ _
  have hp : ∀ (x : State) (e : Ev) (g : Nat), twoAt (x.pressOn c e g).graph d = twoAt x.graph d := fun x e g => by
    unfold State.pressOn
    dsimp only
    split
    · rw [hu, hu]
    · rw [hu]
  have hs : ∀ (x : State) (a b : Tab Int), (x.showSignals c a b).graph = x.graph := fun x a b => by simp
  unfold State.evalChannel
  dsimp only
  rw [State.evalShow_graph, hu, hs]
  exact Eq.trans (hf _ _ _ _ (fun y a => hp y _ a)) (hc s)

theorem State.evalMax_graph (s : State) (c : Chan) (n : Nat) : (s.evalMax c n).graph = s.graph := by
  unfold State.evalMax
  dsimp only
  rfl

theorem State.dropCleared_delivered (s : State) (f : SfFault) (c : Chan) : (twoAt (s.dropCleared f).graph c).delivered = (twoAt s.graph c).delivered := by
  simp

theorem State.evalAll_shape (s : State) (run : List Chan) (us : Chan → Nat) (c : Chan) :
    (twoAt (s.evalAll run us).graph c).delivered = (twoAt (run.foldl (fun (s : State) c => (s.evalChannel c).evalMax c (us c)) s).graph c).delivered := by
  unfold State.evalAll
  dsimp only
  refine State.foldl_keep (fun x => (twoAt x.graph c).delivered) _ ?_ _ _
  intro x f
  split
  · rfl
  · exact State.dropCleared_delivered x f c

/-- The one channel that evaluates has delivered its vector. -/
theorem State.evalAll_one (s : State) (c : Chan) (us : Chan → Nat) : (twoAt (s.evalAll [c] us).graph c).delivered = true := by
  rw [State.evalAll_shape]
  show (twoAt ((s.evalChannel c).evalMax c (us c)).graph c).delivered = true
  rw [State.evalMax_graph]
  exact State.evalChannel_delivered s c

/-- Both channels that evaluate have delivered their vectors. -/
theorem State.evalAll_both (s : State) (c : Chan) (us : Chan → Nat) : (twoAt (s.evalAll [.a, .b] us).graph c).delivered = true := by
  rw [State.evalAll_shape]
  show (twoAt ((((s.evalChannel .a).evalMax .a (us .a)).evalChannel .b).evalMax .b (us .b)).graph c).delivered = true
  rw [State.evalMax_graph]
  cases c
  · rw [State.evalChannel_other _ .b .a (by decide), State.evalMax_graph]
    exact State.evalChannel_delivered s .a
  · exact State.evalChannel_delivered _ .b

end Sys2Proof.Machine
end

