-- ==== Sys2Proof/Laws/FrameExec.lean ====
section
/-! SUPPORT. What each command leaves unchanged: for every meaning, the fields of a state that it does not touch when it answers a next state. -/

namespace Sys2Proof.Machine

open Sys2Proof

theorem execAdcConversionDone_view (k : Fin 4) (raw : BitVec 16) (t : Nat) (s : State) (s1 : State) (h : execAdcConversionDone k raw t s = .next s1) : s1.view = { s.view with adcs := s1.adcs } := by
  unfold execAdcConversionDone at h
  rw [View.ext_iff]
  cases h
  simp

theorem execIosInjectionTrigger_view (k : Fin 4) (n : Fin 56) (s : State) (s1 : State) (h : execIosInjectionTrigger k n s = .next s1) : s1.view = { s.view with adcs := s1.adcs } := by
  unfold execIosInjectionTrigger at h
  rw [View.ext_iff]
  split at h <;> cases h <;> simp

theorem execMonitorBurst_view (k : Fin 4) (s : State) (s1 : State) (h : execMonitorBurst k s = .next s1) : s1.view = { s.view with adcs := s1.adcs } := by
  unfold execMonitorBurst at h
  rw [View.ext_iff]
  split at h <;> cases h <;> simp

theorem execCalibrationDue_view (k : Fin 4) (request : Bool) (t : Nat) (s : State) (s1 : State) (h : execCalibrationDue k request t s = .next s1) : s1.view = { s.view with adcs := s1.adcs } := by
  unfold execCalibrationDue at h
  rw [View.ext_iff]
  (cases h; (try dsimp only); repeat' (first | (simp; done) | split))

theorem execCalibrationOverdue_view (k : Fin 4) (t : Nat) (s : State) (s1 : State) (h : execCalibrationOverdue k t s = .next s1) : s1.view = s.view := by
  unfold execCalibrationOverdue at h
  cases h
  simp

theorem execConversionTimeout_view (k : Fin 4) (s : State) (s1 : State) (h : execConversionTimeout k s = .next s1) : s1.view = { s.view with adcs := s1.adcs } := by
  unfold execConversionTimeout at h
  rw [View.ext_iff]
  split at h <;> cases h <;> simp

theorem execAdcRefXchkFault_view (k : Fin 4) (s : State) (s1 : State) (h : execAdcRefXchkFault k s = .next s1) : s1.view = s.view := by
  unfold execAdcRefXchkFault at h
  cases h
  simp

theorem execAiContextStale_view (c : Chan) (n : Fin 8) (t : Nat) (s : State) (s1 : State) (h : execAiContextStale c n t s = .next s1) : s1.view = s.view := by
  unfold execAiContextStale at h
  (cases h; (try dsimp only); repeat' (first | (simp; done) | split))

theorem execAdcCtxClr_view (k : Fin 4) (n : Fin 64) (ownSc : Bool) (s : State) (s1 : State) (h : execAdcCtxClr k n ownSc s = .next s1) : s1.view = { s.view with adcs := s1.adcs } := by
  unfold execAdcCtxClr at h
  rw [View.ext_iff]
  split at h <;> cases h <;> simp

theorem execRegisterWrite_view (i : Initiator) (width : Width) (a : Word) (v : Word) (t : Nat) (s : State) (s1 : State) (h : execRegisterWrite i width a v t s = .next s1) : s1.view = { s.view with mem := s1.mem, mz := s1.mz, tims := s1.tims } := by
  unfold execRegisterWrite at h
  rw [View.ext_iff]
  (cases h; (try dsimp only); repeat' (first | (simp; done) | split))

theorem execReadClear_view (i : Initiator) (a : Word) (s : State) (s1 : State) (h : execReadClear i a s = .next s1) : s1.view = { s.view with tims := s1.tims } := by
  unfold execReadClear at h
  rw [View.ext_iff]
  cases h
  simp

theorem execLcPosLoRead_view (i : Initiator) (c : Chan) (s : State) (s1 : State) (h : execLcPosLoRead i c s = .next s1) : s1.view = { s.view with tims := s1.tims } := by
  unfold execLcPosLoRead at h
  rw [View.ext_iff]
  cases h
  simp

theorem execCamOriginLoRead_view (i : Initiator) (c : Chan) (s : State) (s1 : State) (h : execCamOriginLoRead i c s = .next s1) : s1.view = { s.view with tims := s1.tims } := by
  unfold execCamOriginLoRead at h
  rw [View.ext_iff]
  cases h
  simp

theorem execDsfLatchRead_view (i : Initiator) (c : Chan) (k : Fin 3) (s : State) (s1 : State) (h : execDsfLatchRead i c k s = .next s1) : s1.view = { s.view with tims := s1.tims } := by
  unfold execDsfLatchRead at h
  rw [View.ext_iff]
  cases h
  simp

theorem execAdcSumLoRead_view (i : Initiator) (k : Fin 4) (n : Fin 64) (s : State) (s1 : State) (h : execAdcSumLoRead i k n s = .next s1) : s1.view = { s.view with tims := s1.tims } := by
  unfold execAdcSumLoRead at h
  rw [View.ext_iff]
  cases h
  simp

theorem execTimCountRead_view (i : Initiator) (u : Unit3) (k : Fin 8) (t : Nat) (s : State) (s1 : State) (h : execTimCountRead i u k t s = .next s1) : s1.view = { s.view with tims := s1.tims } := by
  unfold execTimCountRead at h
  rw [View.ext_iff]
  cases h
  simp

theorem execTimCapRead_view (i : Initiator) (u : Unit3) (k : Fin 8) (s : State) (s1 : State) (h : execTimCapRead i u k s = .next s1) : s1.view = { s.view with tims := s1.tims } := by
  unfold execTimCapRead at h
  rw [View.ext_iff]
  cases h
  simp

theorem execCrcResultLoRead_view (i : Initiator) (u : Unit3) (s : State) (s1 : State) (h : execCrcResultLoRead i u s = .next s1) : s1.view = { s.view with tims := s1.tims } := by
  unfold execCrcResultLoRead at h
  rw [View.ext_iff]
  cases h
  simp

theorem execMzwGtLoRead_view (i : Initiator) (s : State) (s1 : State) (h : execMzwGtLoRead i s = .next s1) : s1.view = { s.view with tims := s1.tims } := by
  unfold execMzwGtLoRead at h
  rw [View.ext_iff]
  cases h
  simp

theorem execPwrAonLoRead_view (i : Initiator) (t : Nat) (s : State) (s1 : State) (h : execPwrAonLoRead i t s = .next s1) : s1.view = { s.view with tims := s1.tims } := by
  unfold execPwrAonLoRead at h
  rw [View.ext_iff]
  cases h
  simp

theorem execStayAttributionWindowEnd_view (s : State) (s1 : State) (h : execStayAttributionWindowEnd s = .next s1) : s1.view = { s.view with stay := s1.stay } := by
  unfold execStayAttributionWindowEnd at h
  rw [View.ext_iff]
  cases ha : (s.stay.a.attrOpen || s.stay.b.attrOpen) <;> simp only [ha, Bool.false_eq_true, if_true, if_false] at h
  · cases h
    simp
  · injection h with h
    subst h
    split <;> simp

theorem execStayAlignFrame_view (c : Chan) (h : StayHead) (offset : Int) (s : State) (s1 : State) (h : execStayAlignFrame c h offset s = .next s1) : s1.view = { s.view with graph := s1.graph, stay := s1.stay } := by
  unfold execStayAlignFrame at h
  rw [View.ext_iff]
  cases h
  simp

theorem execStaySkewFault_view (c : Chan) (s : State) (s1 : State) (h : execStaySkewFault c s = .next s1) : s1.view = { s.view with graph := s1.graph, stay := s1.stay } := by
  unfold execStaySkewFault at h
  rw [View.ext_iff]
  split at h <;> cases h <;> simp

theorem execStayHoldFrame_view (c : Chan) (h : StayHead) (s : State) (s1 : State) (h : execStayHoldFrame c h s = .next s1) : s1.view = { s.view with graph := s1.graph, stay := s1.stay } := by
  unfold execStayHoldFrame at h
  rw [View.ext_iff]
  split at h <;> cases h <;> simp

theorem execStayRepeatRequest_view (c : Chan) (l : Lane) (seq : Nat) (s : State) (s1 : State) (h : execStayRepeatRequest c l seq s = .next s1) : s1.view = s.view := by
  unfold execStayRepeatRequest at h
  cases h
  simp

theorem execStayDeadlineMiss_view (c : Chan) (m : StayMissing) (s : State) (s1 : State) (h : execStayDeadlineMiss c m s = .next s1) : s1.view = { s.view with graph := s1.graph, stay := s1.stay } := by
  unfold execStayDeadlineMiss at h
  rw [View.ext_iff]
  (cases h; (try dsimp only); repeat' (first | (simp; done) | split))

theorem execStayTrainingTimeout_view (s : State) (s1 : State) (h : execStayTrainingTimeout s = .next s1) : s1.view = s.view := by
  unfold execStayTrainingTimeout at h
  cases h
  simp

theorem execStayTokenFrame_view (c : Chan) (h : StayHead) (t : StayToken) (s : State) (s1 : State) (h : execStayTokenFrame c h t s = .next s1) : s1.view = { s.view with graph := s1.graph, stay := s1.stay } := by
  unfold execStayTokenFrame at h
  rw [View.ext_iff]
  split at h <;> cases h <;> simp

theorem execStayInputFrame_view (c : Chan) (h : StayHead) (s : State) (s1 : State) (h : execStayInputFrame c h s = .next s1) : s1.view = { s.view with inp := s1.inp, pairs := s1.pairs, graph := s1.graph, stay := s1.stay } := by
  unfold execStayInputFrame at h
  rw [View.ext_iff]
  cases h
  simp

theorem execInputFilterChange_view (c : Chan) (pin : Fin 48) (level : Bool) (s : State) (s1 : State) (h : execInputFilterChange c pin level s = .next s1) : s1.view = { s.view with inp := s1.inp } := by
  unfold execInputFilterChange at h
  rw [View.ext_iff]
  split at h <;> cases h <;> simp

theorem execDiscrepancyTimeout_view (n : Fin 24) (s : State) (s1 : State) (h : execDiscrepancyTimeout n s = .next s1) : s1.view = { s.view with pairs := s1.pairs } := by
  unfold execDiscrepancyTimeout at h
  rw [View.ext_iff]
  split at h <;> cases h <;> simp

theorem execComparatorDisagreement_view (pin : Fin 48) (s : State) (s1 : State) (h : execComparatorDisagreement pin s = .next s1) : s1.view = s.view := by
  unfold execComparatorDisagreement at h
  cases h
  simp

theorem execTestPulseDue_view (n : Fin 8) (t : Nat) (s : State) (s1 : State) (h : execTestPulseDue n t s = .next s1) : s1.view = s.view := by
  unfold execTestPulseDue at h
  cases h
  simp

theorem execTestPulseTokenGrant_view (high : BitVec 48) (s : State) (s1 : State) (h : execTestPulseTokenGrant high s = .next s1) : s1.view = s.view := by
  unfold execTestPulseTokenGrant at h
  (cases h; (try dsimp only); repeat' (first | (simp; done) | split))

theorem execTestPulseStart_view (t : Nat) (s : State) (s1 : State) (h : execTestPulseStart t s = .next s1) : s1.view = s.view := by
  unfold execTestPulseStart at h
  cases h
  simp

theorem execTestPulseWidthEnd_view (a b : PulseObs) (tpLow : Bool) (s : State) (s1 : State) (h : execTestPulseWidthEnd a b tpLow s = .next s1) : s1.view = s.view := by
  unfold execTestPulseWidthEnd at h
  cases h
  simp

theorem execTestPulseSettleEnd_view (high : BitVec 48) (s : State) (s1 : State) (h : execTestPulseSettleEnd high s = .next s1) : s1.view = { s.view with pairs := s1.pairs } := by
  unfold execTestPulseSettleEnd at h
  rw [View.ext_iff]
  split at h <;> cases h <;> simp

theorem execSourceLowIdle_view (n : Fin 8) (s : State) (s1 : State) (h : execSourceLowIdle n s = .next s1) : s1.view = s.view := by
  unfold execSourceLowIdle at h
  cases h
  simp

theorem execFastKill_view (c : Chan) (n : Fin 24) (y : Bool) (s : State) (s1 : State) (h : execFastKill c n y s = .next s1) : s1.view = s.view := by
  unfold execFastKill at h
  cases h
  simp

theorem execFastKillRelease_view (c : Chan) (n : Fin 24) (s : State) (s1 : State) (h : execFastKillRelease c n s = .next s1) : s1.view = s.view := by
  unfold execFastKillRelease at h
  cases h
  simp

theorem execFastKillCrcCheck_view (c : Chan) (upset : Option (Fin 24 × Word)) (s : State) (s1 : State) (h : execFastKillCrcCheck c upset s = .next s1) : s1.view = s.view := by
  unfold execFastKillCrcCheck at h
  split at h <;> cases h <;> simp

theorem execOutputReadbackFault_view (unit : Fin 20) (t : Nat) (o : TestObs) (limA limB : Bool) (s : State) (s1 : State) (h : execOutputReadbackFault unit t o limA limB s = .next s1) : s1.view = s.view := by
  unfold execOutputReadbackFault at h
  cases h
  simp

theorem execCurrentLimitOpen_view (c : Chan) (unit : Fin 20) (s : State) (s1 : State) (h : execCurrentLimitOpen c unit s = .next s1) : s1.view = s.view := by
  unfold execCurrentLimitOpen at h
  cases h
  simp

theorem execReadbackDisagreement_view (n : Fin 16) (s : State) (s1 : State) (h : execReadbackDisagreement n s = .next s1) : s1.view = s.view := by
  unfold execReadbackDisagreement at h
  cases h
  simp

theorem execOpenLoad_view (n : Fin 16) (s : State) (s1 : State) (h : execOpenLoad n s = .next s1) : s1.view = s.view := by
  unfold execOpenLoad at h
  cases h
  simp

theorem execOutputTestDue_view (key : Fin 36) (t : Nat) (s : State) (s1 : State) (h : execOutputTestDue key t s = .next s1) : s1.view = s.view := by
  unfold execOutputTestDue at h
  cases h
  simp

theorem execOutputTestTokenGrant_view (t mvA mvB ma : Nat) (tjA tjB : Int) (s : State) (s1 : State) (h : execOutputTestTokenGrant t mvA mvB ma tjA tjB s = .next s1) : s1.view = s.view := by
  unfold execOutputTestTokenGrant at h
  (cases h; (try dsimp only); repeat' (first | (simp; done) | split))

theorem execOutputTestPhaseStart_view (o : TestObs) (s : State) (s1 : State) (h : execOutputTestPhaseStart o s = .next s1) : s1.view = s.view := by
  unfold execOutputTestPhaseStart at h
  cases h
  simp

theorem execOutputTestPhaseEnd_view (t : Nat) (o : TestObs) (s : State) (s1 : State) (h : execOutputTestPhaseEnd t o s = .next s1) : s1.view = s.view := by
  unfold execOutputTestPhaseEnd at h
  injection h with h
  subst h
  dsimp only
  split
  · split
    · next h' => exact (State.verdict_view _ _ _ _ _ h').trans (by simp)
    · split <;> simp
  · simp

theorem execOutputTestVerifyEnd_view (t : Nat) (o : TestObs) (s : State) (s1 : State) (h : execOutputTestVerifyEnd t o s = .next s1) : s1.view = s.view := by
  unfold execOutputTestVerifyEnd at h
  (cases h; (try dsimp only); repeat' (first | (simp; done) | split))

theorem execPtpMessage_view (n : Net) (o : PtpObs) (t : Nat) (s : State) (s1 : State) (h : execPtpMessage n o t s = .next s1) : s1.view = { s.view with ptp := s1.ptp } := by
  unfold execPtpMessage at h
  rw [View.ext_iff]
  (cases h; (try dsimp only); repeat' (first | (simp; done) | split))

theorem execPtpSyncTimeout_view (n : Net) (t : Nat) (s : State) (s1 : State) (h : execPtpSyncTimeout n t s = .next s1) : s1.view = { s.view with ptp := s1.ptp } := by
  unfold execPtpSyncTimeout at h
  rw [View.ext_iff]
  (cases h; (try dsimp only); repeat' (first | (simp; done) | split))

theorem execPtpPps_view (n : Net) (t : Nat) (s : State) (s1 : State) (h : execPtpPps n t s = .next s1) : s1.view = { s.view with ptp := s1.ptp } := by
  unfold execPtpPps at h
  rw [View.ext_iff]
  (cases h; (try dsimp only); repeat' (first | (simp; done) | split))

theorem execPhyPoll_view (n : Net) (p1 p2 : Option Bool) (s : State) (s1 : State) (h : execPhyPoll n p1 p2 s = .next s1) : s1.view = s.view := by
  unfold execPhyPoll at h
  cases h
  simp

theorem execArpRequest_view (n : Net) (t : Nat) (s : State) (s1 : State) (h : execArpRequest n t s = .next s1) : s1.view = { s.view with nets := s1.nets } := by
  unfold execArpRequest at h
  rw [View.ext_iff]
  (cases h; (try dsimp only); repeat' (first | (simp; done) | split))

theorem execIcmpEchoRequest_view (n : Net) (t : Nat) (s : State) (s1 : State) (h : execIcmpEchoRequest n t s = .next s1) : s1.view = { s.view with nets := s1.nets } := by
  unfold execIcmpEchoRequest at h
  rw [View.ext_iff]
  (cases h; (try dsimp only); repeat' (first | (simp; done) | split))

theorem execSwitchFrameForward_view (n : Net) (f : SwitchFrame) (t : Nat) (s : State) (s1 : State) (h : execSwitchFrameForward n f t s = .next s1) : s1.view = { s.view with nets := s1.nets } := by
  unfold execSwitchFrameForward at h
  rw [View.ext_iff]
  (cases h; (try dsimp only); repeat' (first | (simp; done) | split))

theorem execMasterAngleFrame_view (n : Net) (f : MasterFrame) (t : Nat) (s : State) (s1 : State) (h : execMasterAngleFrame n f t s = .next s1) : s1.view = { s.view with nets := s1.nets } := by
  unfold execMasterAngleFrame at h
  rw [View.ext_iff]
  injection h with h
  subst h
  split
  · exact ⟨State.police_pending _ _ _ (fun _ => by dsimp only; repeat' (first | rfl | split)), State.police_mem _ _ _ (fun _ => by dsimp only; repeat' (first | rfl | split)), State.police_mz _ _ _ (fun _ => by dsimp only; repeat' (first | rfl | split)), State.police_prog _ _ _ (fun _ => by dsimp only; repeat' (first | rfl | split)), State.police_refit _ _ _ (fun _ => by dsimp only; repeat' (first | rfl | split)), State.police_refitHeld _ _ _ (fun _ => by dsimp only; repeat' (first | rfl | split)), State.police_fw _ _ _ (fun _ => by dsimp only; repeat' (first | rfl | split)), State.police_ses _ _ _ (fun _ => by dsimp only; repeat' (first | rfl | split)), rfl, State.police_link _ _ _ (fun _ => by dsimp only; repeat' (first | rfl | split)), State.police_ptp _ _ _ (fun _ => by dsimp only; repeat' (first | rfl | split)), State.police_tims _ _ _ (fun _ => by dsimp only; repeat' (first | rfl | split)), State.police_crcs _ _ _ (fun _ => by dsimp only; repeat' (first | rfl | split)), State.police_adcs _ _ _ (fun _ => by dsimp only; repeat' (first | rfl | split)), State.police_inp _ _ _ (fun _ => by dsimp only; repeat' (first | rfl | split)), State.police_pairs _ _ _ (fun _ => by dsimp only; repeat' (first | rfl | split)), State.police_power _ _ _ (fun _ => by dsimp only; repeat' (first | rfl | split)), State.police_service _ _ _ (fun _ => by dsimp only; repeat' (first | rfl | split)), State.police_epochAt _ _ _ (fun _ => by dsimp only; repeat' (first | rfl | split)), State.police_hostLost _ _ _ (fun _ => by dsimp only; repeat' (first | rfl | split)), State.police_graph _ _ _ (fun _ => by dsimp only; repeat' (first | rfl | split)), State.police_stay _ _ _ (fun _ => by dsimp only; repeat' (first | rfl | split))⟩
  · simp

theorem execGoaleFrameReceived_view (p : Net) (f : GoaFrame) (t : Nat) (s : State) (s1 : State) (h : execGoaleFrameReceived p f t s = .next s1) : s1.view = { s.view with ses := s1.ses } := by
  unfold execGoaleFrameReceived at h
  rw [View.ext_iff]
  (cases h; (try dsimp only); repeat' (first | (simp; done) | split))

theorem execTwinWindowEnd_view (n : Fin 256) (t : Nat) (s : State) (s1 : State) (h : execTwinWindowEnd n t s = .next s1) : s1.view = { s.view with ses := s1.ses } := by
  unfold execTwinWindowEnd at h
  rw [View.ext_iff]
  (cases h; (try dsimp only); repeat' (first | (simp; done) | split))

theorem execPathLost_view (n : Fin 256) (p : Net) (t : Nat) (s : State) (s1 : State) (h : execPathLost n p t s = .next s1) : s1.view = { s.view with ses := s1.ses } := by
  unfold execPathLost at h
  rw [View.ext_iff]
  (cases h; (try dsimp only); repeat' (first | (simp; done) | split))

theorem execNetworkLinkDown_view (n : Net) (s : State) (s1 : State) (h : execNetworkLinkDown n s = .next s1) : s1.view = s.view := by
  unfold execNetworkLinkDown at h
  cases h
  simp

theorem execNpeFault_view (n : Net) (s : State) (s1 : State) (h : execNpeFault n s = .next s1) : s1.view = { s.view with ptp := s1.ptp } := by
  unfold execNpeFault at h
  rw [View.ext_iff]
  cases h
  simp

theorem execSessionWatchdogExpiry_view (n : Fin 256) (t : Nat) (s : State) (s1 : State) (h : execSessionWatchdogExpiry n t s = .next s1) : s1.view = { s.view with ses := s1.ses } := by
  unfold execSessionWatchdogExpiry at h
  rw [View.ext_iff]
  (cases h; (try dsimp only); repeat' (first | (simp; done) | split))

theorem execEpochSwitchTime_view (t : Nat) (s : State) (s1 : State) (h : execEpochSwitchTime t s = .next s1) : s1.view = { s.view with epochAt := s1.epochAt } := by
  unfold execEpochSwitchTime at h
  rw [View.ext_iff]
  (cases h; (try dsimp only); repeat' (first | (simp; done) | split))

theorem execGroupStateFrame_view (p : Port) (a b : Half) (peak after lost : Nat) (t : Nat) (s : State) (s1 : State) (h : execGroupStateFrame p a b peak after lost t s = .next s1) : s1.view = { s.view with link := s1.link } := by
  unfold execGroupStateFrame at h
  rw [View.ext_iff]
  (cases h; (try dsimp only); repeat' (first | (simp; done) | split))

theorem execPortLost_view (p : Port) (t : Nat) (s : State) (s1 : State) (h : execPortLost p t s = .next s1) : s1.view = { s.view with link := s1.link } := by
  unfold execPortLost at h
  rw [View.ext_iff]
  (cases h; (try dsimp only); repeat' (first | (simp; done) | split))

theorem execLineLinkTick_view (t : Nat) (s : State) (s1 : State) (h : execLineLinkTick t s = .next s1) : s1.view = { s.view with link := s1.link } := by
  unfold execLineLinkTick at h
  rw [View.ext_iff]
  (cases h; (try dsimp only); repeat' (first | (simp; done) | split))

theorem execRelayFrameReceived_view (p : Port) (r : List (BitVec 16)) (crcOk : Bool) (peak after lost : Nat) (s : State) (s1 : State) (h : execRelayFrameReceived p r crcOk peak after lost s = .next s1) : s1.view = s.view := by
  unfold execRelayFrameReceived at h
  cases h
  simp

theorem execRelayFrameSend_view (free : Nat) (s : State) (s1 : State) (h : execRelayFrameSend free s = .next s1) : s1.view = { s.view with link := s1.link } := by
  unfold execRelayFrameSend at h
  rw [View.ext_iff]
  (cases h; (try dsimp only); repeat' (first | (simp; done) | split))

theorem execXoffInChange_view (p : Port) (level : Bool) (t : Nat) (s : State) (s1 : State) (h : execXoffInChange p level t s = .next s1) : s1.view = { s.view with link := s1.link } := by
  unfold execXoffInChange at h
  rw [View.ext_iff]
  (cases h; (try dsimp only); repeat' (first | (simp; done) | split))

theorem execXoffInHeld_view (p : Port) (t : Nat) (s : State) (s1 : State) (h : execXoffInHeld p t s = .next s1) : s1.view = s.view := by
  unfold execXoffInHeld at h
  cases h
  simp

theorem execLleFault_view (s : State) (s1 : State) (h : execLleFault s = .next s1) : s1.view = { s.view with link := s1.link } := by
  unfold execLleFault at h
  rw [View.ext_iff]
  cases h
  simp

theorem execRecFlushTimeout_view (s : State) (s1 : State) (h : execRecFlushTimeout s = .next s1) : s1.view = s.view := by
  unfold execRecFlushTimeout at h
  cases h
  simp

theorem execRecClockTimeout_view (s : State) (s1 : State) (h : execRecClockTimeout s = .next s1) : s1.view = s.view := by
  unfold execRecClockTimeout at h
  cases h
  simp

theorem execRecClkEdge_view (s : State) (s1 : State) (h : execRecClkEdge s = .next s1) : s1.view = s.view := by
  unfold execRecClkEdge at h
  (cases h; (try dsimp only); repeat' (first | (simp; done) | split))

theorem execMonitoredStopCompletion_view (s : State) (s1 : State) (h : execMonitoredStopCompletion s = .next s1) : s1.view = s.view := by
  unfold execMonitoredStopCompletion at h
  cases h
  simp

theorem execTimedStopCompletion_view (t : Nat) (s : State) (s1 : State) (h : execTimedStopCompletion t s = .next s1) : s1.view = s.view := by
  unfold execTimedStopCompletion at h
  cases h
  simp

theorem execStopTimeExceeded_view (t : Nat) (s : State) (s1 : State) (h : execStopTimeExceeded t s = .next s1) : s1.view = s.view := by
  unfold execStopTimeExceeded at h
  cases h
  simp

theorem execBrakeOverlapEnd_view (t : Nat) (s : State) (s1 : State) (h : execBrakeOverlapEnd t s = .next s1) : s1.view = s.view := by
  unfold execBrakeOverlapEnd at h
  cases h
  simp

theorem execFurlTimerExpiry_view (c : Chan) (t : Nat) (s : State) (s1 : State) (h : execFurlTimerExpiry c t s = .next s1) : s1.view = s.view := by
  unfold execFurlTimerExpiry at h
  cases h
  simp

theorem execFurlArmRelease_view (c : Chan) (s : State) (s1 : State) (h : execFurlArmRelease c s = .next s1) : s1.view = s.view := by
  unfold execFurlArmRelease at h
  cases h
  simp

theorem execFurlCrcCheck_view (c : Chan) (upset : Option (Fin 3 × Word)) (s : State) (s1 : State) (h : execFurlCrcCheck c upset s = .next s1) : s1.view = s.view := by
  unfold execFurlCrcCheck at h
  split at h <;> cases h <;> simp

theorem execCommandWatchdogExpiry_view (c : Chan) (t : Nat) (s : State) (s1 : State) (h : execCommandWatchdogExpiry c t s = .next s1) : s1.view = s.view := by
  unfold execCommandWatchdogExpiry at h
  cases h
  simp

theorem execEncoderEdge_view (n : Fin 4) (a b : EncObs) (s : State) (s1 : State) (h : execEncoderEdge n a b s = .next s1) : s1.view = s.view := by
  unfold execEncoderEdge at h
  cases h
  simp

theorem execSourceFault_view (c : Chan) (n : Fin 4) (k : SrcFault) (s : State) (s1 : State) (h : execSourceFault c n k s = .next s1) : s1.view = s.view := by
  unfold execSourceFault at h
  cases h
  simp

theorem execSourceFaultConfirmTimeout_view (c : Chan) (n : Fin 4) (s : State) (s1 : State) (h : execSourceFaultConfirmTimeout c n s = .next s1) : s1.view = s.view := by
  unfold execSourceFaultConfirmTimeout at h
  cases h
  simp

theorem execSourceXcheckExcess_view (c : Chan) (s : State) (s1 : State) (h : execSourceXcheckExcess c s = .next s1) : s1.view = s.view := by
  unfold execSourceXcheckExcess at h
  cases h
  simp

theorem execChannelXcheckExcess_view (s : State) (s1 : State) (h : execChannelXcheckExcess s = .next s1) : s1.view = s.view := by
  unfold execChannelXcheckExcess at h
  cases h
  simp

theorem execCoordinatePlausibility_view (c : Chan) (s : State) (s1 : State) (h : execCoordinatePlausibility c s = .next s1) : s1.view = s.view := by
  unfold execCoordinatePlausibility at h
  cases h
  simp

theorem execAngleEngineOverrun_view (c : Chan) (s : State) (s1 : State) (h : execAngleEngineOverrun c s = .next s1) : s1.view = s.view := by
  unfold execAngleEngineOverrun at h
  cases h
  simp

theorem execStandstillSet_view (c : Chan) (t : Nat) (s : State) (s1 : State) (h : execStandstillSet c t s = .next s1) : s1.view = s.view := by
  unfold execStandstillSet at h
  cases h
  simp

theorem execMasterDevTimeout_view (c : Chan) (s : State) (s1 : State) (h : execMasterDevTimeout c s = .next s1) : s1.view = s.view := by
  unfold execMasterDevTimeout at h
  cases h
  simp

theorem execAngleEngineUpdate_view (c : Chan) (t : Nat) (bad : BitVec 4) (s : State) (s1 : State) (h : execAngleEngineUpdate c t bad s = .next s1) : s1.view = { s.view with nets := s1.nets, tims := s1.tims, adcs := s1.adcs } := by
  unfold execAngleEngineUpdate at h
  rw [View.ext_iff]
  split at h <;> cases h <;> simp

theorem execCamPredictedEvent_view (c : Chan) (n : Fin 1024) (t : Nat) (s : State) (s1 : State) (h : execCamPredictedEvent c n t s = .next s1) : s1.view = { s.view with tims := s1.tims, adcs := s1.adcs } := by
  unfold execCamPredictedEvent at h
  rw [View.ext_iff]
  cases h
  simp

theorem execCamCrcCheck_view (c : Chan) (upset : Option (Fin 2113 × Word)) (s : State) (s1 : State) (h : execCamCrcCheck c upset s = .next s1) : s1.view = s.view := by
  unfold execCamCrcCheck at h
  split at h <;> cases h <;> simp

theorem execStayCoordFrame_view (c : Chan) (h : StayHead) (s : State) (s1 : State) (h : execStayCoordFrame c h s = .next s1) : s1.view = { s.view with graph := s1.graph, stay := s1.stay } := by
  unfold execStayCoordFrame at h
  rw [View.ext_iff]
  cases h
  simp

theorem execStayEventFrame_view (c : Chan) (h : StayHead) (e : StayEvent) (same : Bool) (s : State) (s1 : State) (h : execStayEventFrame c h e same s = .next s1) : s1.view = { s.view with graph := s1.graph, stay := s1.stay } := by
  unfold execStayEventFrame at h
  rw [View.ext_iff]
  split at h <;> cases h <;> simp

theorem execOtpRead_view (i : Initiator) (n : Fin 512) (s : State) (s1 : State) (h : execOtpRead i n s = .next s1) : s1.view = s.view := by
  unfold execOtpRead at h
  cases h
  simp

theorem execOtpMread_view (i : Initiator) (n : Fin 512) (s : State) (s1 : State) (h : execOtpMread i n s = .next s1) : s1.view = s.view := by
  unfold execOtpMread at h
  cases h
  simp

theorem execOtpProgram_view (i : Initiator) (n : Fin 512) (s : State) (s1 : State) (h : execOtpProgram i n s = .next s1) : s1.view = s.view := by
  unfold execOtpProgram at h
  cases h
  simp

theorem execOtpLock_view (i : Initiator) (g : Fin 512) (s : State) (s1 : State) (h : execOtpLock i g s = .next s1) : s1.view = s.view := by
  unfold execOtpLock at h
  cases h
  simp

theorem execOtpVoid_view (i : Initiator) (g : Fin 512) (s : State) (s1 : State) (h : execOtpVoid i g s = .next s1) : s1.view = s.view := by
  unfold execOtpVoid at h
  cases h
  simp

theorem execOtpCommandDone_view (o : Sense) (ok : Bool) (s : State) (s1 : State) (h : execOtpCommandDone o ok s = .next s1) : s1.view = s.view := by
  unfold execOtpCommandDone at h
  split at h <;> cases h <;> simp

theorem execFreqWindowEnd_view (c : Chan) (count : Nat) (s : State) (s1 : State) (h : execFreqWindowEnd c count s = .next s1) : s1.view = s.view := by
  unfold execFreqWindowEnd at h
  cases h
  simp

theorem execRefJudgementWindowEnd_view (c : Chan) (dev : Int) (s : State) (s1 : State) (h : execRefJudgementWindowEnd c dev s = .next s1) : s1.view = s.view := by
  unfold execRefJudgementWindowEnd at h
  split at h <;> cases h <;> simp

theorem execAonClkStop_view (s : State) (s1 : State) (h : execAonClkStop s = .next s1) : s1.view = s.view := by
  unfold execAonClkStop at h
  cases h
  simp

theorem execCrystalRestart_view (s : State) (s1 : State) (h : execCrystalRestart s = .next s1) : s1.view = s.view := by
  unfold execCrystalRestart at h
  cases h
  simp

theorem execPllLockLost_view (c : Chan) (s : State) (s1 : State) (h : execPllLockLost c s = .next s1) : s1.view = s.view := by
  unfold execPllLockLost at h
  cases h
  simp

theorem execSecFwCommit_view (i : Initiator) (s : State) (s1 : State) (h : execSecFwCommit i s = .next s1) : s1.view = { s.view with fw := s1.fw } := by
  unfold execSecFwCommit at h
  rw [View.ext_iff]
  cases h
  simp

theorem execSecFwLoad_view (i : Initiator) (s : State) (s1 : State) (h : execSecFwLoad i s = .next s1) : s1.view = s.view := by
  unfold execSecFwLoad at h
  rw [View.ext_iff]
  cases h
  simp

theorem execRingOscMeasure_view (drift : List Int) (tMain tA tB : Int) (t : Nat) (s : State) (s1 : State) (h : execRingOscMeasure drift tMain tA tB t s = .next s1) : s1.view = s.view := by
  unfold execRingOscMeasure at h
  cases h
  simp

theorem execSlackHourly_view (a b : Nat) (s : State) (s1 : State) (h : execSlackHourly a b s = .next s1) : s1.view = s.view := by
  unfold execSlackHourly at h
  cases h
  simp

theorem execSlackReadingLow_view (c : Chan) (ps : Nat) (s : State) (s1 : State) (h : execSlackReadingLow c ps s = .next s1) : s1.view = s.view := by
  unfold execSlackReadingLow at h
  cases h
  simp

theorem execFuseSweep_view (low high words : Nat) (changed : Bool) (t : Nat) (s : State) (s1 : State) (h : execFuseSweep low high words changed t s = .next s1) : s1.view = s.view := by
  unfold execFuseSweep at h
  cases h
  simp

theorem execVerifyAdjust_view (us : Nat) (s : State) (s1 : State) (h : execVerifyAdjust us s = .next s1) : s1.view = s.view := by
  unfold execVerifyAdjust at h
  cases h
  simp

theorem execSummaryCopy_view (t : Nat) (s : State) (s1 : State) (h : execSummaryCopy t s = .next s1) : s1.view = s.view := by
  unfold execSummaryCopy at h
  cases h
  simp

theorem execHmcFault_view (s : State) (s1 : State) (h : execHmcFault s = .next s1) : s1.view = s.view := by
  unfold execHmcFault at h
  cases h
  simp

theorem execGuardCycleBoundary_view (t : Nat) (a b : DieObs) (s : State) (s1 : State) (h : execGuardCycleBoundary t a b s = .next s1) : s1.view = { s.view with link := s1.link, inp := s1.inp, pairs := s1.pairs, graph := s1.graph } := by
  unfold execGuardCycleBoundary at h
  rw [View.ext_iff]
  split at h <;> cases h <;> simp

theorem execCoordinateSnapshot_view (t : Nat) (app : BitVec 64) (s : State) (s1 : State) (h : execCoordinateSnapshot t app s = .next s1) : s1.view = { s.view with ses := s1.ses, link := s1.link, graph := s1.graph } := by
  unfold execCoordinateSnapshot at h
  rw [View.ext_iff]
  split at h <;> cases h <;> simp

theorem execStaySnapshotFrame_view (c : Chan) (h : StayHead) (testOk : Bool) (s : State) (s1 : State) (h : execStaySnapshotFrame c h testOk s = .next s1) : s1.view = { s.view with graph := s1.graph, stay := s1.stay } := by
  unfold execStaySnapshotFrame at h
  rw [View.ext_iff]
  cases h
  simp

theorem execGraphEvaluation_view (usA usB : Nat) (s : State) (s1 : State) (h : execGraphEvaluation usA usB s = .next s1) : s1.view = { s.view with mz := s1.mz, pairs := s1.pairs, graph := s1.graph } := by
  unfold execGraphEvaluation at h
  rw [View.ext_iff]
  (cases h; (try dsimp only); repeat' (first | (simp; done) | split))

theorem execEdmTimeout_view (n : Fin 512) (s : State) (s1 : State) (h : execEdmTimeout n s = .next s1) : s1.view = s.view := by
  unfold execEdmTimeout at h
  split at h <;> cases h <;> simp

theorem execGraphIntegrityCheck_view (c : Chan) (same : Bool) (s : State) (s1 : State) (h : execGraphIntegrityCheck c same s = .next s1) : s1.view = s.view := by
  unfold execGraphIntegrityCheck at h
  cases h
  simp

theorem execResultAgreement_view (s : State) (s1 : State) (h : execResultAgreement s = .next s1) : s1.view = { s.view with graph := s1.graph } := by
  unfold execResultAgreement at h
  rw [View.ext_iff]
  (cases h; (try dsimp only); repeat' (first | (simp; done) | split))

theorem execStayResultFrame_view (c : Chan) (h : StayHead) (crcSame : Bool) (s : State) (s1 : State) (h : execStayResultFrame c h crcSame s = .next s1) : s1.view = { s.view with graph := s1.graph, stay := s1.stay } := by
  unfold execStayResultFrame at h
  rw [View.ext_iff]
  cases h
  simp

theorem execGuardCycleOverrun_view (c : Chan) (s : State) (s1 : State) (h : execGuardCycleOverrun c s = .next s1) : s1.view = s.view := by
  unfold execGuardCycleOverrun at h
  cases h
  simp

theorem execStage_view (s : State) (s1 : State) (h : execStage s = .next s1) : s1.view = { s.view with ses := s1.ses } := by
  unfold execStage at h
  rw [View.ext_iff]
  (cases h; (try dsimp only); repeat' (first | (simp; done) | split))

theorem execOtherClass2Line_view (c : Chan) (s : State) (s1 : State) (h : execOtherClass2Line c s = .next s1) : s1.view = s.view := by
  unfold execOtherClass2Line at h
  cases h
  simp

theorem execFcTestInjection_view (c : Chan) (passed : Bool) (s : State) (s1 : State) (h : execFcTestInjection c passed s = .next s1) : s1.view = s.view := by
  unfold execFcTestInjection at h
  cases h
  simp

theorem execFltPinMismatch_view (c : Chan) (level : Bool) (s : State) (s1 : State) (h : execFltPinMismatch c level s = .next s1) : s1.view = s.view := by
  unfold execFltPinMismatch at h
  cases h
  simp

theorem execConsequentialWindowEnd_view (n : Fin 16) (s : State) (s1 : State) (h : execConsequentialWindowEnd n s = .next s1) : s1.view = s.view := by
  unfold execConsequentialWindowEnd at h
  cases h
  simp

theorem execSelftestWarn_view (s : State) (s1 : State) (h : execSelftestWarn s = .next s1) : s1.view = s.view := by
  unfold execSelftestWarn at h
  cases h
  simp

theorem execSelftestOverdue_view (s : State) (s1 : State) (h : execSelftestOverdue s = .next s1) : s1.view = s.view := by
  unfold execSelftestOverdue at h
  cases h
  simp

theorem execPatrolScrub_view (m : MemLoc) (e : Ecc) (s : State) (s1 : State) (h : execPatrolScrub m e s = .next s1) : s1.view = s.view := by
  unfold execPatrolScrub at h
  split at h <;> cases h <;> simp

theorem execFcRecAck_view (i : Initiator) (c : Chan) (n : Fin 17) (s : State) (s1 : State) (h : execFcRecAck i c n s = .next s1) : s1.view = s.view := by
  unfold execFcRecAck at h
  cases h
  simp

theorem execHlySetupDone_view (msix testRead : Bool) (t : Nat) (s : State) (s1 : State) (h : execHlySetupDone msix testRead t s = .next s1) : s1.view = { s.view with fw := s1.fw } := by
  unfold execHlySetupDone at h
  rw [View.ext_iff]
  (cases h; (try dsimp only); repeat' (first | (simp; done) | split))

theorem execBar0WriteDenied_view (off : BitVec 16) (s : State) (s1 : State) (h : execBar0WriteDenied off s = .next s1) : s1.view = s.view := by
  unfold execBar0WriteDenied at h
  cases h
  simp

theorem execHeartbeatTimeout_view (t : Nat) (s : State) (s1 : State) (h : execHeartbeatTimeout t s = .next s1) : s1.view = { s.view with fw := s1.fw, service := s1.service, hostLost := s1.hostLost } := by
  unfold execHeartbeatTimeout at h
  rw [View.ext_iff]
  (cases h; (try dsimp only); repeat' (first | (simp; done) | split))

theorem execDoorbellReadFailures_view (s : State) (s1 : State) (h : execDoorbellReadFailures s = .next s1) : s1.view = { s.view with fw := s1.fw, service := s1.service, hostLost := s1.hostLost } := by
  unfold execDoorbellReadFailures at h
  rw [View.ext_iff]
  split at h <;> cases h <;> simp

theorem execBusMasterDisable_view (s : State) (s1 : State) (h : execBusMasterDisable s = .next s1) : s1.view = { s.view with fw := s1.fw, service := s1.service, hostLost := s1.hostLost } := by
  unfold execBusMasterDisable at h
  rw [View.ext_iff]
  cases h
  simp

theorem execPcieLinkLoss_view (s : State) (s1 : State) (h : execPcieLinkLoss s = .next s1) : s1.view = { s.view with fw := s1.fw, service := s1.service, hostLost := s1.hostLost } := by
  unfold execPcieLinkLoss at h
  rw [View.ext_iff]
  cases h
  simp

theorem execPcieFlr_view (s : State) (s1 : State) (h : execPcieFlr s = .next s1) : s1.view = { s.view with fw := s1.fw, service := s1.service, hostLost := s1.hostLost } := by
  unfold execPcieFlr at h
  rw [View.ext_iff]
  cases h
  simp

theorem execPcieD3hot_view (s : State) (s1 : State) (h : execPcieD3hot s = .next s1) : s1.view = { s.view with fw := s1.fw, service := s1.service, hostLost := s1.hostLost } := by
  unfold execPcieD3hot at h
  rw [View.ext_iff]
  cases h
  simp

theorem execDoorbellKick_view (n : Fin 8) (s : State) (s1 : State) (h : execDoorbellKick n s = .next s1) : s1.view = s.view := by
  unfold execDoorbellKick at h
  cases h
  simp

theorem execDoorbellPoll_view (o : PollObs) (t : Nat) (s : State) (s1 : State) (h : execDoorbellPoll o t s = .next s1) : s1.view = { s.view with hostLost := s1.hostLost } := by
  unfold execDoorbellPoll at h
  rw [View.ext_iff]
  (cases h; (try dsimp only); repeat' (first | (simp; done) | split))

theorem execEventRingWrite_view (ok : Bool) (t : Nat) (s : State) (s1 : State) (h : execEventRingWrite ok t s = .next s1) : s1.view = s.view := by
  unfold execEventRingWrite at h
  (cases h; (try dsimp only); repeat' (first | (simp; done) | split))

theorem execImageEntryWrite_view (ok : Bool) (t : Nat) (s : State) (s1 : State) (h : execImageEntryWrite ok t s = .next s1) : s1.view = s.view := by
  unfold execImageEntryWrite at h
  (cases h; (try dsimp only); repeat' (first | (simp; done) | split))

theorem execIrqDelayExpiry_view (v : Fin 8) (t : Nat) (s : State) (s1 : State) (h : execIrqDelayExpiry v t s = .next s1) : s1.view = s.view := by
  unfold execIrqDelayExpiry at h
  (cases h; (try dsimp only); repeat' (first | (simp; done) | split))

theorem execHalyardFault_view (s : State) (s1 : State) (h : execHalyardFault s = .next s1) : s1.view = s.view := by
  unfold execHalyardFault at h
  cases h
  simp

theorem execAuthorityIdleTimeout_view (r : Fin 8) (t : Nat) (s : State) (s1 : State) (h : execAuthorityIdleTimeout r t s = .next s1) : s1.view = { s.view with fw := s1.fw, service := s1.service } := by
  unfold execAuthorityIdleTimeout at h
  rw [View.ext_iff]
  injection h with h
  subst h
  split <;> simp

theorem execNonceLapse_view (r : Fin 8) (t : Nat) (s : State) (s1 : State) (h : execNonceLapse r t s = .next s1) : s1.view = s.view := by
  unfold execNonceLapse at h
  (cases h; (try dsimp only); repeat' (first | (simp; done) | split))

theorem execAuthBackoffEnd_view (t : Nat) (s : State) (s1 : State) (h : execAuthBackoffEnd t s = .next s1) : s1.view = s.view := by
  unfold execAuthBackoffEnd at h
  (cases h; (try dsimp only); repeat' (first | (simp; done) | split))

theorem execServiceDurationEnd_view (t : Nat) (s : State) (s1 : State) (h : execServiceDurationEnd t s = .next s1) : s1.view = { s.view with fw := s1.fw, service := s1.service } := by
  unfold execServiceDurationEnd at h
  rw [View.ext_iff]
  (cases h; (try dsimp only); repeat' (first | (simp; done) | split))

theorem execAuthChallenge_view (r : Fin 8) (d : Desc) (s : State) (s1 : State) (h : execAuthChallenge r d s = .next s1) : s1.view = s.view := by
  unfold execAuthChallenge at h
  cases h
  (repeat' (first | (simp; done) | (simp [View.ext_iff]; done) | (refine State.command_keep (fun v => v) _ _ _ _ _ fun x => ?_) | (refine State.withScope_keep (fun v => v) _ _ _ _ fun x => ?_) | (refine State.alone_keep (fun v => v) _ _ fun x => ?_) | split))

theorem execAuthResponse_view (r : Fin 8) (d : Desc) (a : AuthResp) (s : State) (s1 : State) (h : execAuthResponse r d a s = .next s1) : s1.view = { s.view with fw := s1.fw, service := s1.service } := by
  unfold execAuthResponse at h
  suffices k : ({ s1.view with fw := s.fw, service := s.service } : View) = s.view by
    simp only [View.ext_iff] at k ⊢
    simp_all
  cases h
  refine State.command_keep (fun v => { v with fw := s.fw, service := s.service }) _ _ _ _ _ fun x => ?_
  dsimp only
  split
  · rfl
  · split
    · rfl
    · split
      · simp [View.ext_iff]
      · split
        · simp [View.ext_iff]
        · split <;> simp [View.ext_iff]

theorem execAuthEnd_view (r : Fin 8) (d : Desc) (s : State) (s1 : State) (h : execAuthEnd r d s = .next s1) : s1.view = { s.view with fw := s1.fw, service := s1.service } := by
  unfold execAuthEnd at h
  suffices k : ({ s1.view with fw := s.fw, service := s.service } : View) = s.view by
    simp only [View.ext_iff] at k ⊢
    simp_all
  cases h
  (repeat' (first | (simp; done) | (simp [View.ext_iff]; done) | (refine State.command_keep (fun v => { v with fw := s.fw, service := s.service }) _ _ _ _ _ fun x => ?_) | (refine State.withScope_keep (fun v => { v with fw := s.fw, service := s.service }) _ _ _ _ fun x => ?_) | (refine State.alone_keep (fun v => { v with fw := s.fw, service := s.service }) _ _ fun x => ?_) | split))

theorem execNop_view (r : Fin 8) (d : Desc) (s : State) (s1 : State) (h : execNop r d s = .next s1) : s1.view = s.view := by
  unfold execNop at h
  cases h
  (repeat' (first | (simp; done) | (simp [View.ext_iff]; done) | (refine State.command_keep (fun v => v) _ _ _ _ _ fun x => ?_) | (refine State.withScope_keep (fun v => v) _ _ _ _ fun x => ?_) | (refine State.alone_keep (fun v => v) _ _ fun x => ?_) | split))

theorem execGetInfo_view (r : Fin 8) (d : Desc) (s : State) (s1 : State) (h : execGetInfo r d s = .next s1) : s1.view = s.view := by
  unfold execGetInfo at h
  cases h
  (repeat' (first | (simp; done) | (simp [View.ext_iff]; done) | (refine State.command_keep (fun v => v) _ _ _ _ _ fun x => ?_) | (refine State.withScope_keep (fun v => v) _ _ _ _ fun x => ?_) | (refine State.alone_keep (fun v => v) _ _ fun x => ?_) | split))

theorem execReadReg_view (r : Fin 8) (d : Desc) (s : State) (s1 : State) (h : execReadReg r d s = .next s1) : s1.view = { s.view with tims := s1.tims } := by
  unfold execReadReg at h
  suffices k : ({ s1.view with tims := s.tims } : View) = s.view by
    simp only [View.ext_iff] at k ⊢
    simp_all
  cases h
  refine State.command_keep (fun v => { v with tims := s.tims }) _ _ _ _ _ fun x => ?_
  split
  · rfl
  · dsimp only
    split <;> simp [View.ext_iff]

theorem execAttest_view (r : Fin 8) (d : Desc) (nonce : BitVec 256) (s : State) (s1 : State) (h : execAttest r d nonce s = .next s1) : s1.view = s.view := by
  unfold execAttest at h
  cases h
  (repeat' (first | (simp; done) | (simp [View.ext_iff]; done) | (refine State.command_keep (fun v => v) _ _ _ _ _ fun x => ?_) | (refine State.withScope_keep (fun v => v) _ _ _ _ fun x => ?_) | (refine State.alone_keep (fun v => v) _ _ fun x => ?_) | split))

theorem execRingReset_view (r : Fin 8) (d : Desc) (s : State) (s1 : State) (h : execRingReset r d s = .next s1) : s1.view = s.view := by
  unfold execRingReset at h
  cases h
  (repeat' (first | (simp; done) | (simp [View.ext_iff]; done) | (refine State.command_keep (fun v => v) _ _ _ _ _ fun x => ?_) | (refine State.withScope_keep (fun v => v) _ _ _ _ fun x => ?_) | (refine State.alone_keep (fun v => v) _ _ fun x => ?_) | split))

theorem execSetPoll_view (r : Fin 8) (d : Desc) (s : State) (s1 : State) (h : execSetPoll r d s = .next s1) : s1.view = s.view := by
  unfold execSetPoll at h
  cases h
  (repeat' (first | (simp; done) | (simp [View.ext_iff]; done) | (refine State.command_keep (fun v => v) _ _ _ _ _ fun x => ?_) | (refine State.withScope_keep (fun v => v) _ _ _ _ fun x => ?_) | (refine State.alone_keep (fun v => v) _ _ fun x => ?_) | split))

theorem execRestart_view (r : Fin 8) (d : Desc) (imgOk : Bool) (s : State) (s1 : State) (h : execRestart r d imgOk s = .next s1) : s1.view = { s.view with prog := s1.prog, refit := s1.refit, refitHeld := s1.refitHeld, fw := s1.fw, ses := s1.ses, nets := s1.nets, link := s1.link, ptp := s1.ptp, tims := s1.tims, crcs := s1.crcs, adcs := s1.adcs, inp := s1.inp, pairs := s1.pairs, service := s1.service, graph := s1.graph, stay := s1.stay } := by
  unfold execRestart at h
  have hk : ∀ f : State → State × Ends, (∀ x, (f x).1.view = x.view) → ∀ x : State, (x.command r.val d .none fun s => s.alone f).view = x.view := fun f hf x =>
    State.command_keep (fun v => v) _ _ _ _ _ fun y => State.alone_keep (fun v => v) _ _ hf
  rw [View.ext_iff]
  injection h with h
  subst h
  split <;> simp (disch := (intro x; (try dsimp only); split <;> rfl)) [fun f hf x => State.keeps_of_view (hk f hf x)]

theorem execShutdown_view (r : Fin 8) (d : Desc) (s : State) (s1 : State) (h : execShutdown r d s = .next s1) : s1.view = s.view := by
  unfold execShutdown at h
  cases h
  (repeat' (first | (simp; done) | (simp [View.ext_iff]; done) | (refine State.command_keep (fun v => v) _ _ _ _ _ fun x => ?_) | (refine State.withScope_keep (fun v => v) _ _ _ _ fun x => ?_) | (refine State.alone_keep (fun v => v) _ _ fun x => ?_) | split))

theorem execFwStage_view (r : Fin 8) (d : Desc) (f : StageFile) (s : State) (s1 : State) (h : execFwStage r d f s = .next s1) : s1.view = s.view := by
  unfold execFwStage at h
  cases h
  (repeat' (first | (simp; done) | (simp [View.ext_iff]; done) | (refine State.command_keep (fun v => v) _ _ _ _ _ fun x => ?_) | (refine State.withScope_keep (fun v => v) _ _ _ _ fun x => ?_) | (refine State.alone_keep (fun v => v) _ _ fun x => ?_) | split))

theorem execKeyInstall_view (r : Fin 8) (d : Desc) (k : KeyBlob) (s : State) (s1 : State) (h : execKeyInstall r d k s = .next s1) : s1.view = s.view := by
  unfold execKeyInstall at h
  cases h
  (repeat' (first | (simp; done) | (simp [View.ext_iff]; done) | (refine State.command_keep (fun v => v) _ _ _ _ _ fun x => ?_) | (refine State.withScope_keep (fun v => v) _ _ _ _ fun x => ?_) | (refine State.alone_keep (fun v => v) _ _ fun x => ?_) | split))

theorem execKeyRemove_view (r : Fin 8) (d : Desc) (s : State) (s1 : State) (h : execKeyRemove r d s = .next s1) : s1.view = s.view := by
  unfold execKeyRemove at h
  cases h
  (repeat' (first | (simp; done) | (simp [View.ext_iff]; done) | (refine State.command_keep (fun v => v) _ _ _ _ _ fun x => ?_) | (refine State.withScope_keep (fun v => v) _ _ _ _ fun x => ?_) | (refine State.alone_keep (fun v => v) _ _ fun x => ?_) | split))

theorem execEpochSwitch_view (r : Fin 8) (d : Desc) (s : State) (s1 : State) (h : execEpochSwitch r d s = .next s1) : s1.view = { s.view with epochAt := s1.epochAt } := by
  unfold execEpochSwitch at h
  dsimp only at h
  split at h
  · injection h with h
    subst h
    simp [View.ext_iff]
  · injection h with h
    have k : s1.view = s.view := by
      rw [← h]
      refine State.command_keep (fun v => v) _ _ _ _ _ fun x => ?_
      split
      · rfl
      · split
        · rfl
        · exact State.withScope_keep (fun v => v) _ _ _ _ fun y => State.alone_keep (fun v => v) _ _ fun z => rfl
    rw [View.ext_iff] at k ⊢
    simp_all

theorem execTelltaleReport_view (c : Chan) (t0 t1 : BitVec 8) (s : State) (s1 : State) (h : execTelltaleReport c t0 t1 s = .next s1) : s1.view = s.view := by
  unfold execTelltaleReport at h
  cases h
  simp

theorem execForcedMismatch_view (c : Chan) (t0 t1 : BitVec 8) (s : State) (s1 : State) (h : execForcedMismatch c t0 t1 s = .next s1) : s1.view = { s.view with stay := s1.stay } := by
  unfold execForcedMismatch at h
  rw [View.ext_iff]
  (cases h; (try dsimp only); repeat' (first | (simp; done) | split))

theorem execLatentDivergenceSweep_view (c : Chan) (us : Fin 201) (diff : Option (Fin 3 × Fin 8192)) (s : State) (s1 : State) (h : execLatentDivergenceSweep c us diff s = .next s1) : s1.view = s.view := by
  unfold execLatentDivergenceSweep at h
  (cases h; (try dsimp only); repeat' (first | (simp; done) | split))

theorem execAsyncInputDisagreement_view (c : Chan) (input : Fin 64) (cycles : Nat) (s : State) (s1 : State) (h : execAsyncInputDisagreement c input cycles s = .next s1) : s1.view = s.view := by
  unfold execAsyncInputDisagreement at h
  cases h
  simp

theorem execMeasuringWheelEdge_view (a b : Bool) (t : Nat) (s : State) (s1 : State) (h : execMeasuringWheelEdge a b t s = .next s1) : s1.view = { s.view with mz := s1.mz } := by
  unfold execMeasuringWheelEdge at h
  rw [View.ext_iff]
  (cases h; (try dsimp only); repeat' (first | (simp; done) | split))

theorem execMeasuringFault_view (k : MzFault) (present : Bool) (t : Nat) (s : State) (s1 : State) (h : execMeasuringFault k present t s = .next s1) : s1.view = { s.view with mz := s1.mz } := by
  unfold execMeasuringFault at h
  rw [View.ext_iff]
  (cases h; (try dsimp only); repeat' (first | (simp; done) | split))

theorem execGrandTotalCommit_view (t : Nat) (s : State) (s1 : State) (h : execGrandTotalCommit t s = .next s1) : s1.view = { s.view with mz := s1.mz } := by
  unfold execGrandTotalCommit at h
  rw [View.ext_iff]
  (cases h; (try dsimp only); repeat' (first | (simp; done) | split))

theorem execSealChange_view (broken : Bool) (t : Nat) (s : State) (s1 : State) (h : execSealChange broken t s = .next s1) : s1.view = { s.view with mz := s1.mz } := by
  unfold execSealChange at h
  rw [View.ext_iff]
  (cases h; (try dsimp only); repeat' (first | (simp; done) | split))

theorem execMzLockstepRestart_view (t : Nat) (s : State) (s1 : State) (h : execMzLockstepRestart t s = .next s1) : s1.view = { s.view with mz := s1.mz } := by
  unfold execMzLockstepRestart at h
  rw [View.ext_iff]
  (cases h; (try dsimp only); repeat' (first | (simp; done) | split))

theorem execVmzLow_view (t : Nat) (s : State) (s1 : State) (h : execVmzLow t s = .next s1) : s1.view = { s.view with mz := s1.mz } := by
  unfold execVmzLow at h
  rw [View.ext_iff]
  (cases h; (try dsimp only); repeat' (first | (simp; done) | split))

theorem execVmzReset_view (t : Nat) (s : State) (s1 : State) (h : execVmzReset t s = .next s1) : s1.view = { s.view with mz := s1.mz } := by
  unfold execVmzReset at h
  rw [View.ext_iff]
  (cases h; (try dsimp only); repeat' (first | (simp; done) | split))

theorem execVmzRelease_view (t : Nat) (s : State) (s1 : State) (h : execVmzRelease t s = .next s1) : s1.view = { s.view with mz := s1.mz } := by
  unfold execVmzRelease at h
  rw [View.ext_iff]
  (cases h; (try dsimp only); repeat' (first | (simp; done) | split))

theorem execLotOpen_view (t : Nat) (s : State) (s1 : State) (h : execLotOpen t s = .next s1) : s1.view = { s.view with mz := s1.mz } := by
  unfold execLotOpen at h
  rw [View.ext_iff]
  cases h
  (try dsimp only)
  repeat' (first | (simp; done) | (simp (disch := (intros; (try dsimp only); repeat' (first | (simp; done) | split))); done) | split)

theorem execLotClose_view (t : Nat) (s : State) (s1 : State) (h : execLotClose t s = .next s1) : s1.view = { s.view with mz := s1.mz } := by
  unfold execLotClose at h
  rw [View.ext_iff]
  cases h
  (try dsimp only)
  repeat' (first | (simp; done) | (simp (disch := (intros; (try dsimp only); repeat' (first | (simp; done) | split))); done) | split)

theorem execLotCut_view (t : Nat) (s : State) (s1 : State) (h : execLotCut t s = .next s1) : s1.view = { s.view with mz := s1.mz } := by
  unfold execLotCut at h
  rw [View.ext_iff]
  cases h
  simp

theorem execReadLot_view (t : Nat) (s : State) (s1 : State) (h : execReadLot t s = .next s1) : s1.view = { s.view with mz := s1.mz } := by
  unfold execReadLot at h
  rw [View.ext_iff]
  cases h
  (try dsimp only)
  repeat' (first | (simp; done) | (simp (disch := (intros; (try dsimp only); repeat' (first | (simp; done) | split))); done) | split)

theorem execReadAudit_view (t : Nat) (s : State) (s1 : State) (h : execReadAudit t s = .next s1) : s1.view = { s.view with mz := s1.mz } := by
  unfold execReadAudit at h
  rw [View.ext_iff]
  cases h
  (try dsimp only)
  repeat' (first | (simp; done) | (simp (disch := (intros; (try dsimp only); repeat' (first | (simp; done) | split))); done) | split)

theorem execReadEvent_view (t : Nat) (s : State) (s1 : State) (h : execReadEvent t s = .next s1) : s1.view = { s.view with mz := s1.mz } := by
  unfold execReadEvent at h
  rw [View.ext_iff]
  cases h
  (try dsimp only)
  repeat' (first | (simp; done) | (simp (disch := (intros; (try dsimp only); repeat' (first | (simp; done) | split))); done) | split)

theorem execReadCert_view (t : Nat) (s : State) (s1 : State) (h : execReadCert t s = .next s1) : s1.view = { s.view with mz := s1.mz } := by
  unfold execReadCert at h
  rw [View.ext_iff]
  cases h
  (try dsimp only)
  repeat' (first | (simp; done) | (simp (disch := (intros; (try dsimp only); repeat' (first | (simp; done) | split))); done) | split)

theorem execTimeHint_view (t : Nat) (s : State) (s1 : State) (h : execTimeHint t s = .next s1) : s1.view = { s.view with mz := s1.mz } := by
  unfold execTimeHint at h
  rw [View.ext_iff]
  cases h
  simp

theorem execMzwCommandRefused_view (k : MzRefusal) (t : Nat) (s : State) (s1 : State) (h : execMzwCommandRefused k t s = .next s1) : s1.view = { s.view with mz := s1.mz } := by
  unfold execMzwCommandRefused at h
  rw [View.ext_iff]
  (cases h; (try dsimp only); repeat' (first | (simp; done) | split))

theorem execMirrorFrame_view (t : Nat) (s : State) (s1 : State) (h : execMirrorFrame t s = .next s1) : s1.view = { s.view with mz := s1.mz } := by
  unfold execMirrorFrame at h
  rw [View.ext_iff]
  (cases h; (try dsimp only); repeat' (first | (simp; done) | split))

theorem execMizzenLinkTimeout_view (t : Nat) (s : State) (s1 : State) (h : execMizzenLinkTimeout t s = .next s1) : s1.view = { s.view with mz := s1.mz } := by
  unfold execMizzenLinkTimeout at h
  rw [View.ext_iff]
  (cases h; (try dsimp only); repeat' (first | (simp; done) | split))

theorem execIndicationLine_view (t : Nat) (s : State) (s1 : State) (h : execIndicationLine t s = .next s1) : s1.view = { s.view with mz := s1.mz } := by
  unfold execIndicationLine at h
  rw [View.ext_iff]
  (cases h; (try dsimp only); repeat' (first | (simp; done) | split))

theorem execIdRequest_view (s : State) (s1 : State) (h : execIdRequest s = .next s1) : s1.view = { s.view with mz := s1.mz } := by
  unfold execIdRequest at h
  rw [View.ext_iff]
  cases h
  simp

theorem execLotRequest_view (n : Nat) (s : State) (s1 : State) (h : execLotRequest n s = .next s1) : s1.view = { s.view with mz := s1.mz } := by
  unfold execLotRequest at h
  rw [View.ext_iff]
  cases h
  simp

theorem execAudRequest_view (n : Nat) (s : State) (s1 : State) (h : execAudRequest n s = .next s1) : s1.view = { s.view with mz := s1.mz } := by
  unfold execAudRequest at h
  rw [View.ext_iff]
  cases h
  simp

theorem execEvtRequest_view (n : Nat) (s : State) (s1 : State) (h : execEvtRequest n s = .next s1) : s1.view = { s.view with mz := s1.mz } := by
  unfold execEvtRequest at h
  rw [View.ext_iff]
  cases h
  simp

theorem execSetParameter_view (k : MzParam) (v : Nat) (s : State) (s1 : State) (h : execSetParameter k v s = .next s1) : s1.view = { s.view with mz := s1.mz } := by
  unfold execSetParameter at h
  rw [View.ext_iff]
  cases h
  (try dsimp only)
  repeat' (first | (simp; done) | (simp (disch := (intros; (try dsimp only); repeat' (first | (simp; done) | split))); done) | split)

theorem execCommit_view (t : Nat) (s : State) (s1 : State) (h : execCommit t s = .next s1) : s1.view = { s.view with mz := s1.mz } := by
  unfold execCommit at h
  rw [View.ext_iff]
  cases h
  (try dsimp only)
  repeat' (first | (simp; done) | (simp (disch := (intros; (try dsimp only); repeat' (first | (simp; done) | split))); done) | split)

theorem execFwload_view (f : MzFw) (t : Nat) (s : State) (s1 : State) (h : execFwload f t s = .next s1) : s1.view = { s.view with mz := s1.mz } := by
  unfold execFwload at h
  rw [View.ext_iff]
  cases h
  (try dsimp only)
  repeat' (first | (simp; done) | (simp (disch := (intros; (try dsimp only); repeat' (first | (simp; done) | split))); done) | split)

theorem execPor_view (o : StartObs) (s : State) (s1 : State) (h : execPor o s = .next s1) : s1.view = { s.view with mem := s1.mem, mz := s1.mz, prog := s1.prog, refit := s1.refit, refitHeld := s1.refitHeld, fw := s1.fw, ses := s1.ses, nets := s1.nets, link := s1.link, ptp := s1.ptp, tims := s1.tims, crcs := s1.crcs, adcs := s1.adcs, inp := s1.inp, pairs := s1.pairs, power := s1.power, service := s1.service, epochAt := s1.epochAt, hostLost := s1.hostLost, graph := s1.graph, stay := s1.stay } := by
  unfold execPor at h
  rw [View.ext_iff]
  cases h
  simp

theorem execBor_view (o : StartObs) (vbat : Bool) (s : State) (s1 : State) (h : execBor o vbat s = .next s1) : s1.view = { s.view with mem := s1.mem, mz := s1.mz, prog := s1.prog, refit := s1.refit, refitHeld := s1.refitHeld, fw := s1.fw, ses := s1.ses, nets := s1.nets, link := s1.link, ptp := s1.ptp, tims := s1.tims, crcs := s1.crcs, adcs := s1.adcs, inp := s1.inp, pairs := s1.pairs, power := s1.power, service := s1.service, epochAt := s1.epochAt, hostLost := s1.hostLost, graph := s1.graph, stay := s1.stay } := by
  unfold execBor at h
  rw [View.ext_iff]
  cases h
  (try dsimp only)
  repeat' (first | (simp; done) | (simp (disch := (intros; (try dsimp only); repeat' (first | (simp; done) | split))); done) | split)

theorem execResetN_view (ns : Nat) (o : StartObs) (s : State) (s1 : State) (h : execResetN ns o s = .next s1) : s1.view = { s.view with mem := s1.mem, mz := s1.mz, prog := s1.prog, refit := s1.refit, refitHeld := s1.refitHeld, fw := s1.fw, ses := s1.ses, nets := s1.nets, link := s1.link, ptp := s1.ptp, tims := s1.tims, crcs := s1.crcs, adcs := s1.adcs, inp := s1.inp, pairs := s1.pairs, power := s1.power, service := s1.service, epochAt := s1.epochAt, hostLost := s1.hostLost, graph := s1.graph, stay := s1.stay } := by
  unfold execResetN at h
  rw [View.ext_iff]
  split at h <;> cases h <;> simp

theorem execVbatRise_view (t : Nat) (s : State) (s1 : State) (h : execVbatRise t s = .next s1) : s1.view = { s.view with mem := s1.mem, power := s1.power } := by
  unfold execVbatRise at h
  rw [View.ext_iff]
  (cases h; (try dsimp only); repeat' (first | (simp; done) | split))

theorem execMainRailsRemoved_view (vbat : Bool) (t : Nat) (s : State) (s1 : State) (h : execMainRailsRemoved vbat t s = .next s1) : s1.view = { s.view with mem := s1.mem, mz := s1.mz, prog := s1.prog, refit := s1.refit, refitHeld := s1.refitHeld, fw := s1.fw, ses := s1.ses, nets := s1.nets, link := s1.link, ptp := s1.ptp, tims := s1.tims, crcs := s1.crcs, adcs := s1.adcs, inp := s1.inp, pairs := s1.pairs, power := s1.power, service := s1.service, epochAt := s1.epochAt, hostLost := s1.hostLost, graph := s1.graph, stay := s1.stay } := by
  unfold execMainRailsRemoved at h
  rw [View.ext_iff]
  (cases h; (try dsimp only); repeat' (first | (simp; done) | split))

theorem execVbatDip_view (t : Nat) (s : State) (s1 : State) (h : execVbatDip t s = .next s1) : s1.view = { s.view with mem := s1.mem, power := s1.power } := by
  unfold execVbatDip at h
  rw [View.ext_iff]
  (cases h; (try dsimp only); repeat' (first | (simp; done) | split))

theorem execVbatLow_view (s : State) (s1 : State) (h : execVbatLow s = .next s1) : s1.view = s.view := by
  unfold execVbatLow at h
  cases h
  simp

theorem execVsUndervoltage_view (c : Chan) (s : State) (s1 : State) (h : execVsUndervoltage c s = .next s1) : s1.view = s.view := by
  unfold execVsUndervoltage at h
  cases h
  simp

theorem execVsRelease_view (c : Chan) (s : State) (s1 : State) (h : execVsRelease c s = .next s1) : s1.view = s.view := by
  unfold execVsRelease at h
  cases h
  simp

theorem execSupplyMonitorFault_view (r : Rail) (high : Bool) (s : State) (s1 : State) (h : execSupplyMonitorFault r high s = .next s1) : s1.view = s.view := by
  unfold execSupplyMonitorFault at h
  cases h
  simp

theorem execStartComplete_view (t : Nat) (s : State) (s1 : State) (h : execStartComplete t s = .next s1) : s1.view = s.view := by
  unfold execStartComplete at h
  (cases h; (try dsimp only); repeat' (first | (simp; done) | split))

theorem execTrialStartTimeout_view (o : StartObs) (s : State) (s1 : State) (h : execTrialStartTimeout o s = .next s1) : s1.view = { s.view with mem := s1.mem, mz := s1.mz, prog := s1.prog, refit := s1.refit, refitHeld := s1.refitHeld, fw := s1.fw, ses := s1.ses, nets := s1.nets, link := s1.link, ptp := s1.ptp, tims := s1.tims, crcs := s1.crcs, adcs := s1.adcs, inp := s1.inp, pairs := s1.pairs, power := s1.power, service := s1.service, epochAt := s1.epochAt, hostLost := s1.hostLost, graph := s1.graph, stay := s1.stay } := by
  unfold execTrialStartTimeout at h
  rw [View.ext_iff]
  (cases h; (try dsimp only); repeat' (first | (simp; done) | split))

theorem execSleepEntry_view (t : Nat) (s : State) (s1 : State) (h : execSleepEntry t s = .next s1) : s1.view = { s.view with mz := s1.mz, tims := s1.tims, adcs := s1.adcs, stay := s1.stay } := by
  unfold execSleepEntry at h
  rw [View.ext_iff]
  injection h with h
  subst h
  split <;> simp

theorem execWake_view (w : WakeCause) (t : Nat) (s : State) (s1 : State) (h : execWake w t s = .next s1) : s1.view = { s.view with tims := s1.tims, adcs := s1.adcs, stay := s1.stay } := by
  unfold execWake at h
  rw [View.ext_iff]
  (cases h; (try dsimp only); repeat' (first | (simp; done) | split))

theorem execJunctionOvertemperature_view (die : Fin 3) (temp : Int) (s : State) (s1 : State) (h : execJunctionOvertemperature die temp s = .next s1) : s1.view = s.view := by
  unfold execJunctionOvertemperature at h
  cases h
  simp

theorem execSecInternalFault_view (s : State) (s1 : State) (h : execSecInternalFault s = .next s1) : s1.view = s.view := by
  unfold execSecInternalFault at h
  cases h
  simp

theorem execJtagLifecycleRequest_view (ok : Bool) (s : State) (s1 : State) (h : execJtagLifecycleRequest ok s = .next s1) : s1.view = s.view := by
  unfold execJtagLifecycleRequest at h
  cases h
  simp

theorem execDebugAttach_view (c : Chan) (e : DbgElem) (s : State) (s1 : State) (h : execDebugAttach c e s = .next s1) : s1.view = { s.view with stay := s1.stay } := by
  unfold execDebugAttach at h
  rw [View.ext_iff]
  split at h <;> cases h <;> simp

theorem execDebugDetach_view (c : Chan) (s : State) (s1 : State) (h : execDebugDetach c s = .next s1) : s1.view = s.view := by
  unfold execDebugDetach at h
  cases h
  simp

theorem execDebugReset_view (c : Chan) (e : DbgElem) (s : State) (s1 : State) (h : execDebugReset c e s = .next s1) : s1.view = { s.view with inp := s1.inp, graph := s1.graph } := by
  unfold execDebugReset at h
  rw [View.ext_iff]
  split at h <;> cases h <;> simp

theorem execAppReset_view (t : Nat) (s : State) (s1 : State) (h : execAppReset t s = .next s1) : s1.view = { s.view with tims := s1.tims, crcs := s1.crcs } := by
  unfold execAppReset at h
  rw [View.ext_iff]
  cases h
  simp

theorem execBstFullRun_view (s : State) (s1 : State) (h : execBstFullRun s = .next s1) : s1.view = s.view := by
  unfold execBstFullRun at h
  cases h
  simp

theorem execBstSelectedRun_view (logic : BitVec 13) (arrays : BitVec 64) (s : State) (s1 : State) (h : execBstSelectedRun logic arrays s = .next s1) : s1.view = s.view := by
  unfold execBstSelectedRun at h
  cases h
  simp

theorem execBstRepair_view (k : Fin 32) (ok : Bool) (s : State) (s1 : State) (h : execBstRepair k ok s = .next s1) : s1.view = s.view := by
  unfold execBstRepair at h
  cases h
  simp

theorem execBstAbort_view (s : State) (s1 : State) (h : execBstAbort s = .next s1) : s1.view = s.view := by
  unfold execBstAbort at h
  split at h <;> cases h <;> simp

theorem execRatlineComplete_view (o : RatlineObs) (s : State) (s1 : State) (h : execRatlineComplete o s = .next s1) : s1.view = { s.view with mem := s1.mem, prog := s1.prog, refit := s1.refit, refitHeld := s1.refitHeld, fw := s1.fw, ses := s1.ses, nets := s1.nets, link := s1.link, ptp := s1.ptp, tims := s1.tims, crcs := s1.crcs, adcs := s1.adcs, inp := s1.inp, pairs := s1.pairs, service := s1.service, graph := s1.graph, stay := s1.stay } := by
  unfold execRatlineComplete at h
  rw [View.ext_iff]
  (cases h; (try dsimp only); repeat' (first | (simp; done) | split))

theorem execRefit_view (r : Fin 8) (d : Desc) (im : Image) (s : State) (s1 : State) (h : execRefit r d im s = .next s1) : s1.view = { s.view with prog := s1.prog, refit := s1.refit, refitHeld := s1.refitHeld } := by
  unfold execRefit at h
  dsimp only at h
  split at h
  · injection h with h
    subst h
    simp [View.ext_iff]
  · injection h with h
    have k : s1.view = s.view := by
      rw [← h]
      refine State.command_keep (fun v => v) _ _ _ _ _ fun x => ?_
      split
      · next y hy => exact State.refitRefused_view _ _ _ hy
      · refine State.withScope_keep (fun v => v) _ _ _ _ fun y => ?_
        split <;> simp
    rw [View.ext_iff] at k ⊢
    simp_all

theorem execRefitStopped_view (s : State) (s1 : State) (h : execRefitStopped s = .next s1) : s1.view = s.view := by
  unfold execRefitStopped at h
  cases h
  simp

theorem execRefitApplied_view (crcOk : Bool) (s : State) (s1 : State) (h : execRefitApplied crcOk s = .next s1) : s1.view = { s.view with prog := s1.prog, refit := s1.refit, refitHeld := s1.refitHeld, pairs := s1.pairs } := by
  unfold execRefitApplied at h
  rw [View.ext_iff]
  (cases h; (try dsimp only); repeat' (first | (simp; done) | split))

theorem execRefitCommitted_view (imgOk : Bool) (s : State) (s1 : State) (h : execRefitCommitted imgOk s = .next s1) : s1.view = { s.view with prog := s1.prog, refit := s1.refit, refitHeld := s1.refitHeld, fw := s1.fw, ses := s1.ses, nets := s1.nets, link := s1.link, ptp := s1.ptp, tims := s1.tims, crcs := s1.crcs, adcs := s1.adcs, inp := s1.inp, pairs := s1.pairs, service := s1.service, graph := s1.graph, stay := s1.stay } := by
  unfold execRefitCommitted at h
  rw [View.ext_iff]
  (cases h; (try dsimp only); repeat' (first | (simp; done) | split))

theorem execTimCmpWrite_view (i : Initiator) (u : Unit3) (n : Fin 32) (v : Word) (t : Nat) (s : State) (s1 : State) (h : execTimCmpWrite i u n v t s = .next s1) : s1.view = { s.view with tims := s1.tims } := by
  unfold execTimCmpWrite at h
  rw [View.ext_iff]
  cases h
  simp

theorem execTimCmpDisarm_view (i : Initiator) (u : Unit3) (n : Fin 32) (t : Nat) (s : State) (s1 : State) (h : execTimCmpDisarm i u n t s = .next s1) : s1.view = { s.view with tims := s1.tims } := by
  unfold execTimCmpDisarm at h
  rw [View.ext_iff]
  cases h
  simp

theorem execTimCountWrite_view (i : Initiator) (u : Unit3) (k : Fin 8) (v : Word) (t : Nat) (s : State) (s1 : State) (h : execTimCountWrite i u k v t s = .next s1) : s1.view = { s.view with tims := s1.tims } := by
  unfold execTimCountWrite at h
  rw [View.ext_iff]
  cases h
  simp

theorem execTimPCfgWrite_view (i : Initiator) (k : Fin 8) (v : Word) (t : Nat) (s : State) (s1 : State) (h : execTimPCfgWrite i k v t s = .next s1) : s1.view = { s.view with tims := s1.tims } := by
  unfold execTimPCfgWrite at h
  rw [View.ext_iff]
  cases h
  simp

theorem execTimerCompareMatch_view (u : Unit3) (t : Nat) (s : State) (s1 : State) (h : execTimerCompareMatch u t s = .next s1) : s1.view = { s.view with tims := s1.tims } := by
  unfold execTimerCompareMatch at h
  rw [View.ext_iff]
  cases h
  simp

theorem execTimerOverflow_view (u : Unit3) (t : Nat) (s : State) (s1 : State) (h : execTimerOverflow u t s = .next s1) : s1.view = { s.view with tims := s1.tims } := by
  unfold execTimerOverflow at h
  rw [View.ext_iff]
  cases h
  simp

theorem execTmioCaptureEdge_view (k : Fin 4) (level : Bool) (t : Nat) (s : State) (s1 : State) (h : execTmioCaptureEdge k level t s = .next s1) : s1.view = { s.view with tims := s1.tims } := by
  unfold execTmioCaptureEdge at h
  rw [View.ext_iff]
  (cases h; (try dsimp only); repeat' (first | (simp; done) | split))

theorem execCrcGo_view (i : Initiator) (u : Unit3) (s : State) (s1 : State) (h : execCrcGo i u s = .next s1) : s1.view = { s.view with crcs := s1.crcs } := by
  unfold execCrcGo at h
  rw [View.ext_iff]
  cases h
  simp

theorem execCrcScanDone_view (u : Unit3) (s : State) (s1 : State) (h : execCrcScanDone u s = .next s1) : s1.view = { s.view with tims := s1.tims, crcs := s1.crcs } := by
  unfold execCrcScanDone at h
  rw [View.ext_iff]
  injection h with h
  subst h
  split
  · simp
  · dsimp only
    split
    · split <;> simp
    · next s' ws hy =>
      have k := State.scanWords_keep _ _ _ _ _ hy
      simp_all

end Sys2Proof.Machine
end

