-- ==== Sys2Proof/Laws/Off.lean ====
section
/-! SUPPORT. The registers an operation leaves alone: outside the blocks it may write, every word stays as it was. -/

namespace Sys2Proof.Machine

open Sys2Proof

/-- The registers outside the blocks `B`. -/
def regsOff (B : List Block) (r : RegFile) : RegFile := r.filter (fun e => !B.any (fun b => inBlock b e.1))

theorem filter_tabSet {α : Type} (t : Tab α) (k : Nat) (v : α) (p : Nat → Bool) (h : p k = false) : (tabSet t k v).filter (fun e => p e.1) = t.filter (fun e => p e.1) := by
  induction t with
  | nil =>
    unfold tabSet
    simp [h]
  | cons e t ih =>
    obtain ⟨j, w⟩ := e
    unfold tabSet
    split
    · simp [h]
    · split
      · rename_i e
        subst e
        simp [h]
      · simp [List.filter_cons, ih]

theorem outside_tabSet (B : List Block) (r : RegFile) (a : Nat) (w : Word) (b : Block) (hb : b ∈ B) (ha : inBlock b a = true) : regsOff B (tabSet r a w) = regsOff B r := by
  unfold regsOff
  refine filter_tabSet r a w (fun a => !B.any (fun b => inBlock b a)) ?_
  simp only [Bool.not_eq_false', List.any_eq_true]
  exact ⟨b, hb, ha⟩

/-- A word outside the blocks reads as before. -/
theorem regWord_outside {B : List Block} {r r' : RegFile} (h : regsOff B r' = regsOff B r) (rst a : Nat) (ha : ∀ b ∈ B, inBlock b a = false) : regWord r' rst a = regWord r rst a := by
  have key : ∀ r : RegFile, regWord (regsOff B r) rst a = regWord r rst a := fun r => by
    unfold regWord regsOff
    induction r with
    | nil => rfl
    | cons e r ih =>
      obtain ⟨k, v⟩ := e
      rw [List.filter_cons]
      split
      · unfold tabGet
        split
        · rfl
        · exact ih
      · rename_i hk
        have hne : k ≠ a := fun e => by
          subst e
          refine hk ?_
          simp only [Bool.not_eq_true', List.any_eq_false, Bool.not_eq_true]
          exact ha
        rw [ih]
        conv => rhs; unfold tabGet
        rw [if_neg hne]
  rw [← key r', h, key r]

theorem fldAddr_page (f : Fld) (base i : Nat) : fldAddr f base i / 0x10000 = base / 0x10000 := by
  unfold fldAddr
  omega

theorem inBlock_fldAddr (f : Fld) (c : Chan) (i : Nat) : inBlock f.blk (fldAddr f (blockBase f.blk c) i) = true := by
  unfold inBlock
  rw [fldAddr_page]
  unfold blockBase
  have := blockNum_lt f.blk
  split
  · have e : (0x50000000 + 0x10000 * blockNum f.blk) / 0x10000 = 0x5000 + blockNum f.blk := by omega
    simp [e]
  · have e : (0x40000000 + 0x10000 * blockNum f.blk) / 0x10000 = 0x4000 + blockNum f.blk := by omega
    simp [e]

@[simp] theorem State.put_elsewhere (B : List Block) (s : State) (f : Fld) (v : Nat) (c : Chan) (i : Nat) (hb : f.blk ∈ B) : regsOff B (s.put f v c i).regs = regsOff B s.regs :=
  outside_tabSet B s.regs _ _ f.blk hb (inBlock_fldAddr f c i)

theorem State.putAt_elsewhere (B : List Block) (s : State) (f : Fld) (v base i : Nat) (b : Block) (hb : b ∈ B) (ha : inBlock b base = true) : regsOff B (s.putAt f v base i).regs = regsOff B s.regs := by
  refine outside_tabSet B s.regs _ _ b hb ?_
  unfold inBlock at *
  rwa [fldAddr_page]

@[simp] theorem State.ite_elsewhere (B : List Block) (c : Prop) [Decidable c] (a b : State) : regsOff B (if c then a else b).regs = if c then regsOff B a.regs else regsOff B b.regs := by
  split <;> rfl

@[simp] theorem State.foldl_elsewhere {α : Type} (B : List Block) (f : State → α → State) (l : List α) (s : State) (h : ∀ s x, regsOff B (f s x).regs = regsOff B s.regs) : regsOff B (l.foldl f s).regs = regsOff B s.regs :=
  State.foldl_keep (fun s => regsOff B s.regs) f h l s

@[simp] theorem State.foldl1_elsewhere {α β : Type} (B : List Block) (f : State × β → α → State × β) (l : List α) (r : State × β) (h : ∀ r x, regsOff B (f r x).1.regs = regsOff B r.1.regs) : regsOff B (l.foldl f r).1.regs = regsOff B r.1.regs :=
  State.foldl_keep1 (fun s => regsOff B s.regs) f h l r

@[simp] theorem ADC_AI_n_UA_blk : ADC_AI_n_UA.blk = .adc := by decide
@[simp] theorem ADC_AI_n_VALID_blk : ADC_AI_n_VALID.blk = .adc := by decide
@[simp] theorem ADC_CAL_COEF_GAIN_blk : ADC_CAL_COEF_GAIN.blk = .adc := by decide
@[simp] theorem ADC_CAL_COEF_OFFSET_blk : ADC_CAL_COEF_OFFSET.blk = .adc := by decide
@[simp] theorem ADC_CAL_RESTARTS_COUNT_blk : ADC_CAL_RESTARTS_COUNT.blk = .adc := by decide
@[simp] theorem ADC_CFG_CAL_PERIOD_blk : ADC_CFG_CAL_PERIOD.blk = .adc := by decide
@[simp] theorem ADC_CFG_EN_blk : ADC_CFG_EN.blk = .adc := by decide
@[simp] theorem ADC_CTX_n_AGE_HYST_blk : ADC_CTX_n_AGE_HYST.blk = .adc := by decide
@[simp] theorem ADC_CTX_n_AGE_MAX_AGE_blk : ADC_CTX_n_AGE_MAX_AGE.blk = .adc := by decide
@[simp] theorem ADC_CTX_n_AGE_WIN_EN_blk : ADC_CTX_n_AGE_WIN_EN.blk = .adc := by decide
@[simp] theorem ADC_CTX_n_DISC_COUNT_blk : ADC_CTX_n_DISC_COUNT.blk = .adc := by decide
@[simp] theorem ADC_CTX_n_STATUS_INJ_LOST_blk : ADC_CTX_n_STATUS_INJ_LOST.blk = .adc := by decide
@[simp] theorem ADC_CTX_n_STATUS_SPAN_blk : ADC_CTX_n_STATUS_SPAN.blk = .adc := by decide
@[simp] theorem ADC_CTX_n_STATUS_STALE_blk : ADC_CTX_n_STATUS_STALE.blk = .adc := by decide
@[simp] theorem ADC_CTX_n_VALUE_OUTSIDE_blk : ADC_CTX_n_VALUE_OUTSIDE.blk = .adc := by decide
@[simp] theorem ADC_CTX_n_VALUE_RESULT_blk : ADC_CTX_n_VALUE_RESULT.blk = .adc := by decide
@[simp] theorem ADC_CTX_n_VALUE_VALID_blk : ADC_CTX_n_VALUE_VALID.blk = .adc := by decide
@[simp] theorem ADC_CTX_n_WIN_HIGH_blk : ADC_CTX_n_WIN_HIGH.blk = .adc := by decide
@[simp] theorem ADC_CTX_n_WIN_LOW_blk : ADC_CTX_n_WIN_LOW.blk = .adc := by decide
@[simp] theorem ADC_INJ_LOST_blk : ADC_INJ_LOST.blk = .adc := by decide
@[simp] theorem ADC_INJ_PEAK_blk : ADC_INJ_PEAK.blk = .adc := by decide
@[simp] theorem ADC_SLOT_k_CTX_blk : ADC_SLOT_k_CTX.blk = .adc := by decide
@[simp] theorem ADC_SLOT_k_REPS_blk : ADC_SLOT_k_REPS.blk = .adc := by decide
@[simp] theorem ADC_STATUS_CAL_FAIL_blk : ADC_STATUS_CAL_FAIL.blk = .adc := by decide
@[simp] theorem ADC_STATUS_CAL_RUN_blk : ADC_STATUS_CAL_RUN.blk = .adc := by decide
@[simp] theorem ADC_STATUS_CAL_STARVED_blk : ADC_STATUS_CAL_STARVED.blk = .adc := by decide
@[simp] theorem ADC_STATUS_CONV_TO_blk : ADC_STATUS_CONV_TO.blk = .adc := by decide
@[simp] theorem ADC_STATUS_INJ_RUN_blk : ADC_STATUS_INJ_RUN.blk = .adc := by decide
@[simp] theorem ADC_STATUS_READY_blk : ADC_STATUS_READY.blk = .adc := by decide
@[simp] theorem ADC_STATUS_REF_XCHK_blk : ADC_STATUS_REF_XCHK.blk = .adc := by decide
@[simp] theorem ADC_WINEV_HI_OUT_blk : ADC_WINEV_HI_OUT.blk = .adc := by decide
@[simp] theorem ADC_WINEV_LO_OUT_blk : ADC_WINEV_LO_OUT.blk = .adc := by decide
@[simp] theorem AE_ENC_n_CFG_INVERT_blk : AE_ENC_n_CFG_INVERT.blk = .lc := by decide
@[simp] theorem AE_ENC_n_CFG_ZREF_blk : AE_ENC_n_CFG_ZREF.blk = .lc := by decide
@[simp] theorem AE_ENC_n_COUNT_COUNT_blk : AE_ENC_n_COUNT_COUNT.blk = .lc := by decide
@[simp] theorem AE_ENC_n_DEN_DEN_blk : AE_ENC_n_DEN_DEN.blk = .lc := by decide
@[simp] theorem AE_ENC_n_NUM_NUM_blk : AE_ENC_n_NUM_NUM.blk = .lc := by decide
@[simp] theorem AE_ENC_n_OFFSET_OFFSET_blk : AE_ENC_n_OFFSET_OFFSET.blk = .lc := by decide
@[simp] theorem AE_ENC_n_STATUS_AMPL_blk : AE_ENC_n_STATUS_AMPL.blk = .lc := by decide
@[simp] theorem AE_ENC_n_STATUS_EXCLUDED_blk : AE_ENC_n_STATUS_EXCLUDED.blk = .lc := by decide
@[simp] theorem AE_ENC_n_STATUS_FRAME_blk : AE_ENC_n_STATUS_FRAME.blk = .lc := by decide
@[simp] theorem AE_ENC_n_STATUS_ILLEGAL_blk : AE_ENC_n_STATUS_ILLEGAL.blk = .lc := by decide
@[simp] theorem AE_ENC_n_STATUS_RATE_blk : AE_ENC_n_STATUS_RATE.blk = .lc := by decide
@[simp] theorem AE_ENC_n_STATUS_REALIGNS_blk : AE_ENC_n_STATUS_REALIGNS.blk = .lc := by decide
@[simp] theorem AE_ENC_n_STATUS_REFD_blk : AE_ENC_n_STATUS_REFD.blk = .lc := by decide
@[simp] theorem AE_ENC_n_STATUS_WIRE_blk : AE_ENC_n_STATUS_WIRE.blk = .lc := by decide
@[simp] theorem AE_ENC_n_STATUS_ZDEV_blk : AE_ENC_n_STATUS_ZDEV.blk = .lc := by decide
@[simp] theorem BST_CTRL_CMD_blk : BST_CTRL_CMD.blk = .bst := by decide
@[simp] theorem BST_CTRL_LOGIC_SEL_blk : BST_CTRL_LOGIC_SEL.blk = .bst := by decide
@[simp] theorem BST_CTRL_REPAIR_WORD_blk : BST_CTRL_REPAIR_WORD.blk = .bst := by decide
@[simp] theorem BST_MEM_SEL_HI_SEL_blk : BST_MEM_SEL_HI_SEL.blk = .bst := by decide
@[simp] theorem BST_MEM_SEL_LO_SEL_blk : BST_MEM_SEL_LO_SEL.blk = .bst := by decide
@[simp] theorem BST_REPAIR_USED_USED_blk : BST_REPAIR_USED_USED.blk = .bst := by decide
@[simp] theorem BST_STATUS_BUSY_blk : BST_STATUS_BUSY.blk = .bst := by decide
@[simp] theorem BST_STATUS_COLL_blk : BST_STATUS_COLL.blk = .bst := by decide
@[simp] theorem BST_STATUS_ORIGIN_blk : BST_STATUS_ORIGIN.blk = .bst := by decide
@[simp] theorem BST_STATUS_REPAIR_RESULT_blk : BST_STATUS_REPAIR_RESULT.blk = .bst := by decide
@[simp] theorem CAM_CFG_HYST_blk : CAM_CFG_HYST.blk = .lc := by decide
@[simp] theorem CAM_CFG_ORIGIN_EN_blk : CAM_CFG_ORIGIN_EN.blk = .lc := by decide
@[simp] theorem CAM_CFG_ORIGIN_SIG_blk : CAM_CFG_ORIGIN_SIG.blk = .lc := by decide
@[simp] theorem CAM_COUNT_LATE_blk : CAM_COUNT_LATE.blk = .lc := by decide
@[simp] theorem CAM_COUNT_UNCONF_blk : CAM_COUNT_UNCONF.blk = .lc := by decide
@[simp] theorem CAM_ORIGIN_HI_ORIGIN_HI_blk : CAM_ORIGIN_HI_ORIGIN_HI.blk = .lc := by decide
@[simp] theorem CAM_ORIGIN_LO_ORIGIN_LO_blk : CAM_ORIGIN_LO_ORIGIN_LO.blk = .lc := by decide
@[simp] theorem CAM_PT_n_ACT_PREDICT_blk : CAM_PT_n_ACT_PREDICT.blk = .lc := by decide
@[simp] theorem CAM_STATUS_FAR_blk : CAM_STATUS_FAR.blk = .lc := by decide
@[simp] theorem CAM_STATUS_FAR_COUNT_blk : CAM_STATUS_FAR_COUNT.blk = .lc := by decide
@[simp] theorem CAM_WIN_HI_OPEN_blk : CAM_WIN_HI_OPEN.blk = .lc := by decide
@[simp] theorem CAM_WIN_LO_OPEN_blk : CAM_WIN_LO_OPEN.blk = .lc := by decide
@[simp] theorem CLK_FMON_DEV_A_blk : CLK_FMON_DEV_A.blk = .pwr := by decide
@[simp] theorem CLK_FMON_DEV_B_blk : CLK_FMON_DEV_B.blk = .pwr := by decide
@[simp] theorem CLK_FMON_X_DEV_AB_blk : CLK_FMON_X_DEV_AB.blk = .pwr := by decide
@[simp] theorem CLK_FMON_X_DEV_BA_blk : CLK_FMON_X_DEV_BA.blk = .pwr := by decide
@[simp] theorem CLK_STATUS_PLL_A_LOCK_blk : CLK_STATUS_PLL_A_LOCK.blk = .pwr := by decide
@[simp] theorem CLK_STATUS_PLL_B_LOCK_blk : CLK_STATUS_PLL_B_LOCK.blk = .pwr := by decide
@[simp] theorem CLK_STATUS_SUSPECT_A_blk : CLK_STATUS_SUSPECT_A.blk = .pwr := by decide
@[simp] theorem CLK_STATUS_SUSPECT_B_blk : CLK_STATUS_SUSPECT_B.blk = .pwr := by decide
@[simp] theorem CLK_STATUS_X32_RUN_blk : CLK_STATUS_X32_RUN.blk = .pwr := by decide
@[simp] theorem CNM_ADCREF_DRIFT_blk : CNM_ADCREF_DRIFT.blk = .cnm := by decide
@[simp] theorem CNM_ADVICE_ADVICE_blk : CNM_ADVICE_ADVICE.blk = .cnm := by decide
@[simp] theorem CNM_ADVICE_REPLANS_blk : CNM_ADVICE_REPLANS.blk = .cnm := by decide
@[simp] theorem CNM_FUSE_AGE_H_blk : CNM_FUSE_AGE_H.blk = .cnm := by decide
@[simp] theorem CNM_FUSE_DIFF_WORDS_blk : CNM_FUSE_DIFF_WORDS.blk = .cnm := by decide
@[simp] theorem CNM_LIFE_d_EQ_HOURS_blk : CNM_LIFE_d_EQ_HOURS.blk = .cnm := by decide
@[simp] theorem CNM_PROJ_REMAIN_blk : CNM_PROJ_REMAIN.blk = .cnm := by decide
@[simp] theorem CNM_PROJ_USED_blk : CNM_PROJ_USED.blk = .cnm := by decide
@[simp] theorem CNM_RON_DIE_blk : CNM_RON_DIE.blk = .cnm := by decide
@[simp] theorem CNM_RON_OUTPUT_blk : CNM_RON_OUTPUT.blk = .cnm := by decide
@[simp] theorem CNM_RON_RON_MAX_blk : CNM_RON_RON_MAX.blk = .cnm := by decide
@[simp] theorem CNM_RO_k_DRIFT_blk : CNM_RO_k_DRIFT.blk = .cnm := by decide
@[simp] theorem CNM_SLACK_SLACK_A_blk : CNM_SLACK_SLACK_A.blk = .cnm := by decide
@[simp] theorem CNM_SLACK_SLACK_B_blk : CNM_SLACK_SLACK_B.blk = .cnm := by decide
@[simp] theorem CNM_SRAM_SBE_24H_blk : CNM_SRAM_SBE_24H.blk = .cnm := by decide
@[simp] theorem CNM_TEMP_d_b_HOURS_blk : CNM_TEMP_d_b_HOURS.blk = .cnm := by decide
@[simp] theorem CRC_ALIVE_NEXT_blk : CRC_ALIVE_NEXT.blk = .crc := by decide
@[simp] theorem CRC_CFG_IRQ_EN_blk : CRC_CFG_IRQ_EN.blk = .crc := by decide
@[simp] theorem CRC_LENGTH_BYTES_blk : CRC_LENGTH_BYTES.blk = .crc := by decide
@[simp] theorem CRC_START_ADDR_blk : CRC_START_ADDR.blk = .crc := by decide
@[simp] theorem CRC_STATUS_BUSY_blk : CRC_STATUS_BUSY.blk = .crc := by decide
@[simp] theorem CRC_STATUS_COLL_blk : CRC_STATUS_COLL.blk = .crc := by decide
@[simp] theorem CRC_STATUS_DONE_blk : CRC_STATUS_DONE.blk = .crc := by decide
@[simp] theorem CRC_STATUS_ERR_blk : CRC_STATUS_ERR.blk = .crc := by decide
@[simp] theorem DSF_ARAMP_ACC_blk : DSF_ARAMP_ACC.blk = .dsf := by decide
@[simp] theorem DSF_CFG_MODE_blk : DSF_CFG_MODE.blk = .dsf := by decide
@[simp] theorem DSF_CFG_SBC_ORDER_blk : DSF_CFG_SBC_ORDER.blk = .dsf := by decide
@[simp] theorem DSF_COUNTS_COMPLETED_blk : DSF_COUNTS_COMPLETED.blk = .dsf := by decide
@[simp] theorem DSF_COUNTS_FURLED_blk : DSF_COUNTS_FURLED.blk = .dsf := by decide
@[simp] theorem DSF_DLIM_DIST_blk : DSF_DLIM_DIST.blk = .dsf := by decide
@[simp] theorem DSF_ELAPSED_TIME_blk : DSF_ELAPSED_TIME.blk = .dsf := by decide
@[simp] theorem DSF_FURL_CRC_DIE_CRC_blk : DSF_FURL_CRC_DIE_CRC.blk = .dsf := by decide
@[simp] theorem DSF_FURL_CRC_IMG_CRC_blk : DSF_FURL_CRC_IMG_CRC.blk = .dsf := by decide
@[simp] theorem DSF_FURL_REMAIN_DIE_A_blk : DSF_FURL_REMAIN_DIE_A.blk = .dsf := by decide
@[simp] theorem DSF_FURL_REMAIN_DIE_B_blk : DSF_FURL_REMAIN_DIE_B.blk = .dsf := by decide
@[simp] theorem DSF_GROUPS_MEMBER_blk : DSF_GROUPS_MEMBER.blk = .dsf := by decide
@[simp] theorem DSF_LIMIT_HI_POS_HI_blk : DSF_LIMIT_HI_POS_HI.blk = .dsf := by decide
@[simp] theorem DSF_LIMIT_LO_POS_LO_blk : DSF_LIMIT_LO_POS_LO.blk = .dsf := by decide
@[simp] theorem DSF_P0_HI_POS_HI_blk : DSF_P0_HI_POS_HI.blk = .dsf := by decide
@[simp] theorem DSF_P0_LO_POS_LO_blk : DSF_P0_LO_POS_LO.blk = .dsf := by decide
@[simp] theorem DSF_PRED_HI_POS_HI_blk : DSF_PRED_HI_POS_HI.blk = .dsf := by decide
@[simp] theorem DSF_PRED_LO_POS_LO_blk : DSF_PRED_LO_POS_LO.blk = .dsf := by decide
@[simp] theorem DSF_START_GROUPS_GROUPS_blk : DSF_START_GROUPS_GROUPS.blk = .dsf := by decide
@[simp] theorem DSF_STATUS_END_CAUSE_blk : DSF_STATUS_END_CAUSE.blk = .dsf := by decide
@[simp] theorem DSF_STATUS_FURL_A_blk : DSF_STATUS_FURL_A.blk = .dsf := by decide
@[simp] theorem DSF_STATUS_FURL_B_blk : DSF_STATUS_FURL_B.blk = .dsf := by decide
@[simp] theorem DSF_STATUS_HOLD_OTHER_blk : DSF_STATUS_HOLD_OTHER.blk = .dsf := by decide
@[simp] theorem DSF_STATUS_PHASE_blk : DSF_STATUS_PHASE.blk = .dsf := by decide
@[simp] theorem DSF_STATUS_START_CAUSE_blk : DSF_STATUS_START_CAUSE.blk = .dsf := by decide
@[simp] theorem DSF_STATUS_SURVIVOR_blk : DSF_STATUS_SURVIVOR.blk = .dsf := by decide
@[simp] theorem DSF_TIME_T_DELAY_blk : DSF_TIME_T_DELAY.blk = .dsf := by decide
@[simp] theorem DSF_V0_SPEED_blk : DSF_V0_SPEED.blk = .dsf := by decide
@[simp] theorem DSF_VEND_SPEED_blk : DSF_VEND_SPEED.blk = .dsf := by decide
@[simp] theorem DSF_VENV_SPEED_blk : DSF_VENV_SPEED.blk = .dsf := by decide
@[simp] theorem FC_CONSEQ_COUNT_COUNT_blk : FC_CONSEQ_COUNT_COUNT.blk = .fc := by decide
@[simp] theorem FC_CONSEQ_HI_LINES_blk : FC_CONSEQ_HI_LINES.blk = .fc := by decide
@[simp] theorem FC_CONSEQ_LO_LINES_blk : FC_CONSEQ_LO_LINES.blk = .fc := by decide
@[simp] theorem FC_FIRST_CLASS_blk : FC_FIRST_CLASS.blk = .fc := by decide
@[simp] theorem FC_FIRST_GCOUNT_COUNT_blk : FC_FIRST_GCOUNT_COUNT.blk = .fc := by decide
@[simp] theorem FC_FIRST_LINE_blk : FC_FIRST_LINE.blk = .fc := by decide
@[simp] theorem FC_FIRST_MULTI_blk : FC_FIRST_MULTI.blk = .fc := by decide
@[simp] theorem FC_FIRST_STAMP_UPDATE_blk : FC_FIRST_STAMP_UPDATE.blk = .fc := by decide
@[simp] theorem FC_FIRST_VALID_blk : FC_FIRST_VALID.blk = .fc := by decide
@[simp] theorem FC_FLT_CFG_PIN_CMD_blk : FC_FLT_CFG_PIN_CMD.blk = .fc := by decide
@[simp] theorem FC_FLT_CFG_PIN_READ_blk : FC_FLT_CFG_PIN_READ.blk = .fc := by decide
@[simp] theorem FC_LOCKOUT_CL1_blk : FC_LOCKOUT_CL1.blk = .fc := by decide
@[simp] theorem FC_LOCKOUT_CL2_blk : FC_LOCKOUT_CL2.blk = .fc := by decide
@[simp] theorem FC_LOCKOUT_L3_PEND_blk : FC_LOCKOUT_L3_PEND.blk = .fc := by decide
@[simp] theorem FC_OTHER_HI_LINES_blk : FC_OTHER_HI_LINES.blk = .fc := by decide
@[simp] theorem FC_OTHER_LO_LINES_blk : FC_OTHER_LO_LINES.blk = .fc := by decide
@[simp] theorem FC_REC_PTR_NEXT_blk : FC_REC_PTR_NEXT.blk = .fc := by decide
@[simp] theorem FC_REC_PTR_OVERRUN_blk : FC_REC_PTR_OVERRUN.blk = .fc := by decide
@[simp] theorem FC_REC_PTR_UNREAD_blk : FC_REC_PTR_UNREAD.blk = .fc := by decide
@[simp] theorem FC_REC_n_W0_CHANNEL_blk : FC_REC_n_W0_CHANNEL.blk = .fc := by decide
@[simp] theorem FC_REC_n_W0_CLASS_blk : FC_REC_n_W0_CLASS.blk = .fc := by decide
@[simp] theorem FC_REC_n_W0_LINE_blk : FC_REC_n_W0_LINE.blk = .fc := by decide
@[simp] theorem FC_REC_n_W0_SF_blk : FC_REC_n_W0_SF.blk = .fc := by decide
@[simp] theorem FC_REC_n_W0_VALID_blk : FC_REC_n_W0_VALID.blk = .fc := by decide
@[simp] theorem FC_REC_n_W1_DETAIL_blk : FC_REC_n_W1_DETAIL.blk = .fc := by decide
@[simp] theorem FC_REC_n_W2_GCOUNT_blk : FC_REC_n_W2_GCOUNT.blk = .fc := by decide
@[simp] theorem FC_REC_n_W3_UPDATE_blk : FC_REC_n_W3_UPDATE.blk = .fc := by decide
@[simp] theorem FC_SELFTEST_AGE_H_blk : FC_SELFTEST_AGE_H.blk = .fc := by decide
@[simp] theorem FC_SELFTEST_OVERDUE_blk : FC_SELFTEST_OVERDUE.blk = .fc := by decide
@[simp] theorem FC_SELFTEST_WARN_blk : FC_SELFTEST_WARN.blk = .fc := by decide
@[simp] theorem FC_STATUS_HI_LINES_blk : FC_STATUS_HI_LINES.blk = .fc := by decide
@[simp] theorem FC_STATUS_LO_LINES_blk : FC_STATUS_LO_LINES.blk = .fc := by decide
@[simp] theorem GOA_FAIL_n_RUN_blk : GOA_FAIL_n_RUN.blk = .net := by decide
@[simp] theorem GOA_KEY_ACTIVE_EPOCH_blk : GOA_KEY_ACTIVE_EPOCH.blk = .net := by decide
@[simp] theorem GOA_KEY_OTHER_EPOCH_blk : GOA_KEY_OTHER_EPOCH.blk = .net := by decide
@[simp] theorem GOA_RUN_n_RUN_blk : GOA_RUN_n_RUN.blk = .net := by decide
@[simp] theorem GOA_SES_n_CFG_RX_BW_blk : GOA_SES_n_CFG_RX_BW.blk = .net := by decide
@[simp] theorem GOA_SES_n_CFG_RX_VW_blk : GOA_SES_n_CFG_RX_VW.blk = .net := by decide
@[simp] theorem GOA_SES_n_COUNT_CRC_blk : GOA_SES_n_COUNT_CRC.blk = .net := by decide
@[simp] theorem GOA_SES_n_COUNT_MAC_blk : GOA_SES_n_COUNT_MAC.blk = .net := by decide
@[simp] theorem GOA_SES_n_COUNT_MISS_blk : GOA_SES_n_COUNT_MISS.blk = .net := by decide
@[simp] theorem GOA_SES_n_COUNT_STALE_blk : GOA_SES_n_COUNT_STALE.blk = .net := by decide
@[simp] theorem GOA_SES_n_STATUS_ALIVE_LO_blk : GOA_SES_n_STATUS_ALIVE_LO.blk = .net := by decide
@[simp] theorem GOA_SES_n_STATUS_PATH_X_UP_blk : GOA_SES_n_STATUS_PATH_X_UP.blk = .net := by decide
@[simp] theorem GOA_SES_n_STATUS_PATH_Y_UP_blk : GOA_SES_n_STATUS_PATH_Y_UP.blk = .net := by decide
@[simp] theorem GOA_SES_n_STATUS_PEER_LC_STATE_blk : GOA_SES_n_STATUS_PEER_LC_STATE.blk = .net := by decide
@[simp] theorem GOA_SES_n_STATUS_PEER_RESTART_blk : GOA_SES_n_STATUS_PEER_RESTART.blk = .net := by decide
@[simp] theorem GOA_SES_n_STATUS_STATE_blk : GOA_SES_n_STATUS_STATE.blk = .net := by decide
@[simp] theorem GOA_SES_n_WIN_AGE_blk : GOA_SES_n_WIN_AGE.blk = .net := by decide
@[simp] theorem GOA_SES_n_WIN_SKEW_blk : GOA_SES_n_WIN_SKEW.blk = .net := by decide
@[simp] theorem GOA_SINGLE_n_RUN_blk : GOA_SINGLE_n_RUN.blk = .net := by decide
@[simp] theorem HLY_COUNT_DMA_ERR_blk : HLY_COUNT_DMA_ERR.blk = .hly := by decide
@[simp] theorem HLY_COUNT_HOST_LOSS_blk : HLY_COUNT_HOST_LOSS.blk = .hly := by decide
@[simp] theorem HLY_HOST_IMG_HI_IMG_blk : HLY_HOST_IMG_HI_IMG.blk = .hly := by decide
@[simp] theorem HLY_HOST_IMG_LO_IMG_blk : HLY_HOST_IMG_LO_IMG.blk = .hly := by decide
@[simp] theorem HLY_IMG_CFG_IMG_DIV_blk : HLY_IMG_CFG_IMG_DIV.blk = .hly := by decide
@[simp] theorem HLY_PI_LOSS_HI_LOSS_blk : HLY_PI_LOSS_HI_LOSS.blk = .hly := by decide
@[simp] theorem HLY_PI_LOSS_LO_LOSS_blk : HLY_PI_LOSS_LO_LOSS.blk = .hly := by decide
@[simp] theorem HLY_POLL_HOST_WD_blk : HLY_POLL_HOST_WD.blk = .hly := by decide
@[simp] theorem HLY_POLL_POLL_US_blk : HLY_POLL_POLL_US.blk = .hly := by decide
@[simp] theorem HLY_RING_n_IDX_DEV_IDX_blk : HLY_RING_n_IDX_DEV_IDX.blk = .hly := by decide
@[simp] theorem HLY_RING_n_STATUS_CAUSE_blk : HLY_RING_n_STATUS_CAUSE.blk = .hly := by decide
@[simp] theorem HLY_RING_n_STATUS_DROPPED_blk : HLY_RING_n_STATUS_DROPPED.blk = .hly := by decide
@[simp] theorem HLY_RING_n_STATUS_STATE_blk : HLY_RING_n_STATUS_STATE.blk = .hly := by decide
@[simp] theorem HLY_SETUP_DONE_DONE_blk : HLY_SETUP_DONE_DONE.blk = .hly := by decide
@[simp] theorem HLY_STATUS_NET_SET_blk : HLY_STATUS_NET_SET.blk = .hly := by decide
@[simp] theorem HLY_STATUS_OWNER_AUTH_blk : HLY_STATUS_OWNER_AUTH.blk = .hly := by decide
@[simp] theorem HLY_STATUS_SETUP_ERR_blk : HLY_STATUS_SETUP_ERR.blk = .hly := by decide
@[simp] theorem HLY_STATUS_STATE_blk : HLY_STATUS_STATE.blk = .hly := by decide
@[simp] theorem HLY_STATUS_VENDOR_AUTH_blk : HLY_STATUS_VENDOR_AUTH.blk = .hly := by decide
@[simp] theorem HLY_WINDOW_STATUS_DENIED_blk : HLY_WINDOW_STATUS_DENIED.blk = .hly := by decide
@[simp] theorem HLY_WINDOW_STATUS_OPEN_blk : HLY_WINDOW_STATUS_OPEN.blk = .hly := by decide
@[simp] theorem LC_ACC_ACC_blk : LC_ACC_ACC.blk = .lc := by decide
@[simp] theorem LC_AMAX_AMAX_blk : LC_AMAX_AMAX.blk = .lc := by decide
@[simp] theorem LC_CFG_PRI_SRC_blk : LC_CFG_PRI_SRC.blk = .lc := by decide
@[simp] theorem LC_CFG_SEC_SRC_blk : LC_CFG_SEC_SRC.blk = .lc := by decide
@[simp] theorem LC_CFG_VSTILL_blk : LC_CFG_VSTILL.blk = .lc := by decide
@[simp] theorem LC_CYCLE_CYCLE_blk : LC_CYCLE_CYCLE.blk = .lc := by decide
@[simp] theorem LC_MASTER_CFG_EN_blk : LC_MASTER_CFG_EN.blk = .lc := by decide
@[simp] theorem LC_MASTER_CFG_TIME_blk : LC_MASTER_CFG_TIME.blk = .lc := by decide
@[simp] theorem LC_MASTER_CFG_TOL_blk : LC_MASTER_CFG_TOL.blk = .lc := by decide
@[simp] theorem LC_MASTER_DIFF_DIFF_blk : LC_MASTER_DIFF_DIFF.blk = .lc := by decide
@[simp] theorem LC_POS_HI_POS_INT_HI_blk : LC_POS_HI_POS_INT_HI.blk = .lc := by decide
@[simp] theorem LC_POS_LO_POS_FRAC_blk : LC_POS_LO_POS_FRAC.blk = .lc := by decide
@[simp] theorem LC_POS_LO_POS_INT_LO_blk : LC_POS_LO_POS_INT_LO.blk = .lc := by decide
@[simp] theorem LC_REALIGN_D_blk : LC_REALIGN_D.blk = .lc := by decide
@[simp] theorem LC_STAMP_UPDATE_blk : LC_STAMP_UPDATE.blk = .lc := by decide
@[simp] theorem LC_STATUS_DIR_blk : LC_STATUS_DIR.blk = .lc := by decide
@[simp] theorem LC_STATUS_MASTER_DEV_blk : LC_STATUS_MASTER_DEV.blk = .lc := by decide
@[simp] theorem LC_STATUS_ON_SEC_blk : LC_STATUS_ON_SEC.blk = .lc := by decide
@[simp] theorem LC_STATUS_PRI_OK_blk : LC_STATUS_PRI_OK.blk = .lc := by decide
@[simp] theorem LC_STATUS_SEC_OK_blk : LC_STATUS_SEC_OK.blk = .lc := by decide
@[simp] theorem LC_STATUS_STANDSTILL_blk : LC_STATUS_STANDSTILL.blk = .lc := by decide
@[simp] theorem LC_STATUS_STATE_blk : LC_STATUS_STATE.blk = .lc := by decide
@[simp] theorem LC_TOL_TOL_CH_blk : LC_TOL_TOL_CH.blk = .lc := by decide
@[simp] theorem LC_TOL_TOL_SRC_blk : LC_TOL_TOL_SRC.blk = .lc := by decide
@[simp] theorem LC_VEL_VEL_blk : LC_VEL_VEL.blk = .lc := by decide
@[simp] theorem LC_VMAX_VMAX_blk : LC_VMAX_VMAX.blk = .lc := by decide
@[simp] theorem LC_XCHK_CH_DIFF_blk : LC_XCHK_CH_DIFF.blk = .lc := by decide
@[simp] theorem LC_XCHK_SRC_DIFF_blk : LC_XCHK_SRC_DIFF.blk = .lc := by decide
@[simp] theorem LGE_INST_n_FAULT_blk : LGE_INST_n_FAULT.blk = .lge := by decide
@[simp] theorem LGE_INST_n_HELD_blk : LGE_INST_n_HELD.blk = .lge := by decide
@[simp] theorem LGE_INST_n_MUTED_blk : LGE_INST_n_MUTED.blk = .lge := by decide
@[simp] theorem LGE_INST_n_Q_blk : LGE_INST_n_Q.blk = .lge := by decide
@[simp] theorem LGE_MISMATCH_COUNT_blk : LGE_MISMATCH_COUNT.blk = .lge := by decide
@[simp] theorem LGE_REFIT_ERR_CODE_blk : LGE_REFIT_ERR_CODE.blk = .lge := by decide
@[simp] theorem LGE_REFIT_PHASE_blk : LGE_REFIT_PHASE.blk = .lge := by decide
@[simp] theorem LGE_SF_FAULT_n_FAULT_blk : LGE_SF_FAULT_n_FAULT.blk = .lge := by decide
@[simp] theorem LGE_SF_REFIT_n_HELD_blk : LGE_SF_REFIT_n_HELD.blk = .lge := by decide
@[simp] theorem LGE_SF_RIL_n_WAIT_blk : LGE_SF_RIL_n_WAIT.blk = .lge := by decide
@[simp] theorem LGE_SF_SAFE_n_SAFE_blk : LGE_SF_SAFE_n_SAFE.blk = .lge := by decide
@[simp] theorem LGE_SIG_n_VALUE_blk : LGE_SIG_n_VALUE.blk = .lge := by decide
@[simp] theorem LKS_ASYNC_MAX_DIS_blk : LKS_ASYNC_MAX_DIS.blk = .lks := by decide
@[simp] theorem LKS_ASYNC_SOURCE_blk : LKS_ASYNC_SOURCE.blk = .lks := by decide
@[simp] theorem LKS_FORCE_LAST_BIT_blk : LKS_FORCE_LAST_BIT.blk = .lks := by decide
@[simp] theorem LKS_FORCE_PASSES_blk : LKS_FORCE_PASSES.blk = .lks := by decide
@[simp] theorem LKS_MM_INFO_TT0_GROUPS_blk : LKS_MM_INFO_TT0_GROUPS.blk = .lks := by decide
@[simp] theorem LKS_MM_INFO_TT1_GROUPS_blk : LKS_MM_INFO_TT1_GROUPS.blk = .lks := by decide
@[simp] theorem LKS_STATUS_ASYNC_blk : LKS_STATUS_ASYNC.blk = .lks := by decide
@[simp] theorem LKS_STATUS_DBG_ATTACHED_blk : LKS_STATUS_DBG_ATTACHED.blk = .lks := by decide
@[simp] theorem LKS_STATUS_DBG_UNCHECKED_blk : LKS_STATUS_DBG_UNCHECKED.blk = .lks := by decide
@[simp] theorem LKS_STATUS_FORCE_FAIL_blk : LKS_STATUS_FORCE_FAIL.blk = .lks := by decide
@[simp] theorem LKS_STATUS_MISMATCH_blk : LKS_STATUS_MISMATCH.blk = .lks := by decide
@[simp] theorem LKS_STATUS_SWEEP_blk : LKS_STATUS_SWEEP.blk = .lks := by decide
@[simp] theorem LKS_STATUS_TT_DIS_blk : LKS_STATUS_TT_DIS.blk = .lks := by decide
@[simp] theorem LKS_STATUS_TT_SIDE_blk : LKS_STATUS_TT_SIDE.blk = .lks := by decide
@[simp] theorem LKS_SWEEP_AREA_blk : LKS_SWEEP_AREA.blk = .lks := by decide
@[simp] theorem LKS_SWEEP_INDEX_blk : LKS_SWEEP_INDEX.blk = .lks := by decide
@[simp] theorem LKS_SWEEP_SWEEPS_blk : LKS_SWEEP_SWEEPS.blk = .lks := by decide
@[simp] theorem LKS_SWEEP_TIME_LAST_US_blk : LKS_SWEEP_TIME_LAST_US.blk = .lks := by decide
@[simp] theorem LLK_CFG_POS_blk : LLK_CFG_POS.blk = .llk := by decide
@[simp] theorem LLK_ENTRY_q_FROM_DN_blk : LLK_ENTRY_q_FROM_DN.blk = .llk := by decide
@[simp] theorem LLK_ENTRY_q_FROM_UP_blk : LLK_ENTRY_q_FROM_UP.blk = .llk := by decide
@[simp] theorem LLK_ENTRY_q_GSTOP_blk : LLK_ENTRY_q_GSTOP.blk = .llk := by decide
@[simp] theorem LLK_ENTRY_q_HOPS_blk : LLK_ENTRY_q_HOPS.blk = .llk := by decide
@[simp] theorem LLK_ENTRY_q_VALID_blk : LLK_ENTRY_q_VALID.blk = .llk := by decide
@[simp] theorem LLK_GRP_LOST_COMPLETE_blk : LLK_GRP_LOST_COMPLETE.blk = .llk := by decide
@[simp] theorem LLK_GRP_LOST_LOST_blk : LLK_GRP_LOST_LOST.blk = .llk := by decide
@[simp] theorem LLK_GRP_STATE_A_blk : LLK_GRP_STATE_A.blk = .llk := by decide
@[simp] theorem LLK_GRP_STATE_B_blk : LLK_GRP_STATE_B.blk = .llk := by decide
@[simp] theorem LLK_LINE_q_NODE_blk : LLK_LINE_q_NODE.blk = .llk := by decide
@[simp] theorem LLK_PORT_n_FIFO_OVERFLOW_blk : LLK_PORT_n_FIFO_OVERFLOW.blk = .llk := by decide
@[simp] theorem LLK_PORT_n_FIFO_PEAK_blk : LLK_PORT_n_FIFO_PEAK.blk = .llk := by decide
@[simp] theorem LLK_PORT_n_STATUS_LOSTS_blk : LLK_PORT_n_STATUS_LOSTS.blk = .llk := by decide
@[simp] theorem LLK_PORT_n_STATUS_SEQ_blk : LLK_PORT_n_STATUS_SEQ.blk = .llk := by decide
@[simp] theorem LLK_PORT_n_STATUS_STATE_blk : LLK_PORT_n_STATUS_STATE.blk = .llk := by decide
@[simp] theorem LLK_PORT_n_STATUS_XOFF_IN_blk : LLK_PORT_n_STATUS_XOFF_IN.blk = .llk := by decide
@[simp] theorem LLK_PORT_n_STATUS_XOFF_OUT_blk : LLK_PORT_n_STATUS_XOFF_OUT.blk = .llk := by decide
@[simp] theorem LLK_REACH_GOA_POS_blk : LLK_REACH_GOA_POS.blk = .llk := by decide
@[simp] theorem LLK_REACH_LL_POS_blk : LLK_REACH_LL_POS.blk = .llk := by decide
@[simp] theorem LLK_STATUS_ARMED_blk : LLK_STATUS_ARMED.blk = .llk := by decide
@[simp] theorem LLK_STATUS_OWN_STOP_blk : LLK_STATUS_OWN_STOP.blk = .llk := by decide
@[simp] theorem LLK_STATUS_SINGLE_blk : LLK_STATUS_SINGLE.blk = .llk := by decide
@[simp] theorem LLK_WMARK_HIGH_blk : LLK_WMARK_HIGH.blk = .llk := by decide
@[simp] theorem LLK_WMARK_LOW_blk : LLK_WMARK_LOW.blk = .llk := by decide
@[simp] theorem MZW_DATA_n_DATA_blk : MZW_DATA_n_DATA.blk = .mzw := by decide
@[simp] theorem MZW_GT_HI_GT_HI_blk : MZW_GT_HI_GT_HI.blk = .mzw := by decide
@[simp] theorem MZW_GT_LO_GT_LO_blk : MZW_GT_LO_GT_LO.blk = .mzw := by decide
@[simp] theorem MZW_LOT_LEN_LEN_blk : MZW_LOT_LEN_LEN.blk = .mzw := by decide
@[simp] theorem MZW_LOT_NUMBER_blk : MZW_LOT_NUMBER.blk = .mzw := by decide
@[simp] theorem MZW_PARCRC_VERSION_blk : MZW_PARCRC_VERSION.blk = .mzw := by decide
@[simp] theorem MZW_RESP_CMD_blk : MZW_RESP_CMD.blk = .mzw := by decide
@[simp] theorem MZW_RESP_RESULT_blk : MZW_RESP_RESULT.blk = .mzw := by decide
@[simp] theorem MZW_SEAL_COUNT_blk : MZW_SEAL_COUNT.blk = .mzw := by decide
@[simp] theorem MZW_STATUS_AUDIT_FULL_blk : MZW_STATUS_AUDIT_FULL.blk = .mzw := by decide
@[simp] theorem MZW_STATUS_LINK_blk : MZW_STATUS_LINK.blk = .mzw := by decide
@[simp] theorem MZW_STATUS_LOT_OPEN_blk : MZW_STATUS_LOT_OPEN.blk = .mzw := by decide
@[simp] theorem MZW_STATUS_MEAS_FAULT_blk : MZW_STATUS_MEAS_FAULT.blk = .mzw := by decide
@[simp] theorem MZW_STATUS_MZ_FAULT_blk : MZW_STATUS_MZ_FAULT.blk = .mzw := by decide
@[simp] theorem MZW_STATUS_POWER_blk : MZW_STATUS_POWER.blk = .mzw := by decide
@[simp] theorem MZW_STATUS_QFULL_blk : MZW_STATUS_QFULL.blk = .mzw := by decide
@[simp] theorem MZW_STATUS_UNSEALED_blk : MZW_STATUS_UNSEALED.blk = .mzw := by decide
@[simp] theorem MZW_SWCRC_VERSION_blk : MZW_SWCRC_VERSION.blk = .mzw := by decide
@[simp] theorem MZW_SWID_VERSION_blk : MZW_SWID_VERSION.blk = .mzw := by decide
@[simp] theorem NET_n_CFG_EN_blk : NET_n_CFG_EN.blk = .net := by decide
@[simp] theorem NET_n_CFG_ICMP_blk : NET_n_CFG_ICMP.blk = .net := by decide
@[simp] theorem NET_n_CFG_P1_EN_blk : NET_n_CFG_P1_EN.blk = .net := by decide
@[simp] theorem NET_n_CFG_P2_EN_blk : NET_n_CFG_P2_EN.blk = .net := by decide
@[simp] theorem NET_n_CFG_PTP_MODE_blk : NET_n_CFG_PTP_MODE.blk = .net := by decide
@[simp] theorem NET_n_COUNT_FORMAT_blk : NET_n_COUNT_FORMAT.blk = .net := by decide
@[simp] theorem NET_n_COUNT_UNKNOWN_blk : NET_n_COUNT_UNKNOWN.blk = .net := by decide
@[simp] theorem NET_n_MAC_HI_MAC_HI_blk : NET_n_MAC_HI_MAC_HI.blk = .net := by decide
@[simp] theorem NET_n_MAC_LO_MAC_LO_blk : NET_n_MAC_LO_MAC_LO.blk = .net := by decide
@[simp] theorem NET_n_POLICE_POLICED_blk : NET_n_POLICE_POLICED.blk = .net := by decide
@[simp] theorem NET_n_POLICE_SLOT_FULL_blk : NET_n_POLICE_SLOT_FULL.blk = .net := by decide
@[simp] theorem NET_n_PTP_OFFSET_OFFSET_blk : NET_n_PTP_OFFSET_OFFSET.blk = .net := by decide
@[simp] theorem NET_n_STATUS_NPE_OK_blk : NET_n_STATUS_NPE_OK.blk = .net := by decide
@[simp] theorem NET_n_STATUS_P1_1000_blk : NET_n_STATUS_P1_1000.blk = .net := by decide
@[simp] theorem NET_n_STATUS_P1_UP_blk : NET_n_STATUS_P1_UP.blk = .net := by decide
@[simp] theorem NET_n_STATUS_P2_1000_blk : NET_n_STATUS_P2_1000.blk = .net := by decide
@[simp] theorem NET_n_STATUS_P2_UP_blk : NET_n_STATUS_P2_UP.blk = .net := by decide
@[simp] theorem NET_n_STATUS_PTP_STATE_blk : NET_n_STATUS_PTP_STATE.blk = .net := by decide
@[simp] theorem OTP_CTRL_ADDR_blk : OTP_CTRL_ADDR.blk = .otp := by decide
@[simp] theorem OTP_CTRL_CMD_blk : OTP_CTRL_CMD.blk = .otp := by decide
@[simp] theorem OTP_DATA_HI_DATA_blk : OTP_DATA_HI_DATA.blk = .otp := by decide
@[simp] theorem OTP_DATA_LO_DATA_blk : OTP_DATA_LO_DATA.blk = .otp := by decide
@[simp] theorem OTP_LOCK_LOCKED_blk : OTP_LOCK_LOCKED.blk = .otp := by decide
@[simp] theorem OTP_MARGIN_CHECK_blk : OTP_MARGIN_CHECK.blk = .otp := by decide
@[simp] theorem OTP_MARGIN_DIFF_HIGH_blk : OTP_MARGIN_DIFF_HIGH.blk = .otp := by decide
@[simp] theorem OTP_MARGIN_DIFF_LOW_blk : OTP_MARGIN_DIFF_LOW.blk = .otp := by decide
@[simp] theorem OTP_SENSE_SHIFT_blk : OTP_SENSE_SHIFT.blk = .otp := by decide
@[simp] theorem OTP_STATUS_ALARM_blk : OTP_STATUS_ALARM.blk = .otp := by decide
@[simp] theorem OTP_STATUS_BUSY_blk : OTP_STATUS_BUSY.blk = .otp := by decide
@[simp] theorem OTP_STATUS_COLL_blk : OTP_STATUS_COLL.blk = .otp := by decide
@[simp] theorem OTP_STATUS_CORRECTED_blk : OTP_STATUS_CORRECTED.blk = .otp := by decide
@[simp] theorem OTP_STATUS_MARGINAL_blk : OTP_STATUS_MARGINAL.blk = .otp := by decide
@[simp] theorem OTP_STATUS_RESULT_blk : OTP_STATUS_RESULT.blk = .otp := by decide
@[simp] theorem OTP_WMAP_k_WRITTEN_blk : OTP_WMAP_k_WRITTEN.blk = .otp := by decide
@[simp] theorem PWR_FLAGS_AON_CLK_STOP_blk : PWR_FLAGS_AON_CLK_STOP.blk = .pwr := by decide
@[simp] theorem PWR_HIST_n_CAUSE_blk : PWR_HIST_n_CAUSE.blk = .pwr := by decide
@[simp] theorem PWR_HIST_n_SECONDS_blk : PWR_HIST_n_SECONDS.blk = .pwr := by decide
@[simp] theorem PWR_RESET_COUNT_blk : PWR_RESET_COUNT.blk = .pwr := by decide
@[simp] theorem PWR_RESET_LAST_CAUSE_blk : PWR_RESET_LAST_CAUSE.blk = .pwr := by decide
@[simp] theorem PWR_STATUS_VBAT_LOW_blk : PWR_STATUS_VBAT_LOW.blk = .pwr := by decide
@[simp] theorem PWR_STATUS_VDDA_OK_blk : PWR_STATUS_VDDA_OK.blk = .pwr := by decide
@[simp] theorem PWR_STATUS_VDDIO_33_OK_blk : PWR_STATUS_VDDIO_33_OK.blk = .pwr := by decide
@[simp] theorem PWR_STATUS_VDD_18_OK_blk : PWR_STATUS_VDD_18_OK.blk = .pwr := by decide
@[simp] theorem PWR_STATUS_VDD_CORE_OK_blk : PWR_STATUS_VDD_CORE_OK.blk = .pwr := by decide
@[simp] theorem PWR_STATUS_VS_A_OK_blk : PWR_STATUS_VS_A_OK.blk = .pwr := by decide
@[simp] theorem PWR_STATUS_VS_A_UV_blk : PWR_STATUS_VS_A_UV.blk = .pwr := by decide
@[simp] theorem PWR_STATUS_VS_B_OK_blk : PWR_STATUS_VS_B_OK.blk = .pwr := by decide
@[simp] theorem PWR_STATUS_VS_B_UV_blk : PWR_STATUS_VS_B_UV.blk = .pwr := by decide
@[simp] theorem PWR_WAKE_LAST_WAKE_blk : PWR_WAKE_LAST_WAKE.blk = .pwr := by decide
@[simp] theorem REC_CFG_EN_blk : REC_CFG_EN.blk = .llk := by decide
@[simp] theorem REC_CFG_FLUSH_blk : REC_CFG_FLUSH.blk = .llk := by decide
@[simp] theorem REC_CFG_TYPES_blk : REC_CFG_TYPES.blk = .llk := by decide
@[simp] theorem REC_COUNT_DROPPED_blk : REC_COUNT_DROPPED.blk = .llk := by decide
@[simp] theorem REC_COUNT_RELAYED_blk : REC_COUNT_RELAYED.blk = .llk := by decide
@[simp] theorem REC_STATUS_CLK_SEEN_blk : REC_STATUS_CLK_SEEN.blk = .llk := by decide
@[simp] theorem REC_STATUS_LEVEL_blk : REC_STATUS_LEVEL.blk = .llk := by decide
@[simp] theorem REC_STATUS_RDY_blk : REC_STATUS_RDY.blk = .llk := by decide
@[simp] theorem REC_WMARK_HIGH_blk : REC_WMARK_HIGH.blk = .llk := by decide
@[simp] theorem REC_WMARK_LOW_blk : REC_WMARK_LOW.blk = .llk := by decide
@[simp] theorem SEC_AUTH_FAIL_BACKOFF_S_blk : SEC_AUTH_FAIL_BACKOFF_S.blk = .otp := by decide
@[simp] theorem SEC_AUTH_FAIL_FAILS_blk : SEC_AUTH_FAIL_FAILS.blk = .otp := by decide
@[simp] theorem SEC_AUTH_n_IDLE_LEFT_blk : SEC_AUTH_n_IDLE_LEFT.blk = .otp := by decide
@[simp] theorem SEC_AUTH_n_SCOPE_blk : SEC_AUTH_n_SCOPE.blk = .otp := by decide
@[simp] theorem SEC_DEVICE_ID_n_ID_blk : SEC_DEVICE_ID_n_ID.blk = .otp := by decide
@[simp] theorem SEC_FW_ATTR_EN_blk : SEC_FW_ATTR_EN.blk = .otp := by decide
@[simp] theorem SEC_FW_ATTR_R_blk : SEC_FW_ATTR_R.blk = .otp := by decide
@[simp] theorem SEC_FW_ATTR_USER_blk : SEC_FW_ATTR_USER.blk = .otp := by decide
@[simp] theorem SEC_FW_ATTR_W_blk : SEC_FW_ATTR_W.blk = .otp := by decide
@[simp] theorem SEC_FW_ATTR_X_blk : SEC_FW_ATTR_X.blk = .otp := by decide
@[simp] theorem SEC_FW_BASE_ADDR_blk : SEC_FW_BASE_ADDR.blk = .otp := by decide
@[simp] theorem SEC_FW_CTRL_ERR_blk : SEC_FW_CTRL_ERR.blk = .otp := by decide
@[simp] theorem SEC_FW_DENY_COUNT_blk : SEC_FW_DENY_COUNT.blk = .otp := by decide
@[simp] theorem SEC_FW_DENY_LAST_INIT_blk : SEC_FW_DENY_LAST_INIT.blk = .otp := by decide
@[simp] theorem SEC_FW_LIMIT_ADDR_blk : SEC_FW_LIMIT_ADDR.blk = .otp := by decide
@[simp] theorem SEC_FW_SEL_INIT_blk : SEC_FW_SEL_INIT.blk = .otp := by decide
@[simp] theorem SEC_FW_SEL_REGION_blk : SEC_FW_SEL_REGION.blk = .otp := by decide
@[simp] theorem SEC_KEYCTL_OWNER_REV_blk : SEC_KEYCTL_OWNER_REV.blk = .otp := by decide
@[simp] theorem SEC_KEYCTL_VENDOR_REV_blk : SEC_KEYCTL_VENDOR_REV.blk = .otp := by decide
@[simp] theorem SEC_LIFECYCLE_STATE_blk : SEC_LIFECYCLE_STATE.blk = .otp := by decide
@[simp] theorem SEC_LIFECYCLE_SVC_FROM_blk : SEC_LIFECYCLE_SVC_FROM.blk = .otp := by decide
@[simp] theorem SEC_LIFECYCLE_SVC_LEFT_blk : SEC_LIFECYCLE_SVC_LEFT.blk = .otp := by decide
@[simp] theorem SEC_MANIFEST_VERSION_blk : SEC_MANIFEST_VERSION.blk = .otp := by decide
@[simp] theorem SEC_ROLLBACK_CLZ_blk : SEC_ROLLBACK_CLZ.blk = .otp := by decide
@[simp] theorem SEC_ROLLBACK_FW_blk : SEC_ROLLBACK_FW.blk = .otp := by decide
@[simp] theorem SEC_ROLLBACK_FW_SLOT_blk : SEC_ROLLBACK_FW_SLOT.blk = .otp := by decide
@[simp] theorem SEC_ROLLBACK_TRIAL_blk : SEC_ROLLBACK_TRIAL.blk = .otp := by decide
@[simp] theorem SIN_CMP_A_HI_FILT_blk : SIN_CMP_A_HI_FILT.blk = .sin := by decide
@[simp] theorem SIN_CMP_A_LO_FILT_blk : SIN_CMP_A_LO_FILT.blk = .sin := by decide
@[simp] theorem SIN_CMP_B_HI_FILT_blk : SIN_CMP_B_HI_FILT.blk = .sin := by decide
@[simp] theorem SIN_CMP_B_LO_FILT_blk : SIN_CMP_B_LO_FILT.blk = .sin := by decide
@[simp] theorem SIN_DIE_STATUS_FRAME_A_blk : SIN_DIE_STATUS_FRAME_A.blk = .sin := by decide
@[simp] theorem SIN_DIE_STATUS_FRAME_B_blk : SIN_DIE_STATUS_FRAME_B.blk = .sin := by decide
@[simp] theorem SIN_DIE_STATUS_REF_A_blk : SIN_DIE_STATUS_REF_A.blk = .sin := by decide
@[simp] theorem SIN_DIE_STATUS_REF_B_blk : SIN_DIE_STATUS_REF_B.blk = .sin := by decide
@[simp] theorem SIN_DIE_STATUS_STUCK_CNT_A_blk : SIN_DIE_STATUS_STUCK_CNT_A.blk = .sin := by decide
@[simp] theorem SIN_DIE_STATUS_STUCK_CNT_B_blk : SIN_DIE_STATUS_STUCK_CNT_B.blk = .sin := by decide
@[simp] theorem SIN_DISC_RUN_RUN_blk : SIN_DISC_RUN_RUN.blk = .sin := by decide
@[simp] theorem SIN_FK_CRC_DIE_CRC_blk : SIN_FK_CRC_DIE_CRC.blk = .sin := by decide
@[simp] theorem SIN_FK_CRC_IMG_CRC_blk : SIN_FK_CRC_IMG_CRC.blk = .sin := by decide
@[simp] theorem SIN_FK_STAT_FIRED_blk : SIN_FK_STAT_FIRED.blk = .sin := by decide
@[simp] theorem SIN_PAIR_STATE_RELEASED_blk : SIN_PAIR_STATE_RELEASED.blk = .sin := by decide
@[simp] theorem SIN_PAIR_n_FAULT_CMP_DIS_X_blk : SIN_PAIR_n_FAULT_CMP_DIS_X.blk = .sin := by decide
@[simp] theorem SIN_PAIR_n_FAULT_CMP_DIS_Y_blk : SIN_PAIR_n_FAULT_CMP_DIS_Y.blk = .sin := by decide
@[simp] theorem SIN_PAIR_n_FAULT_DISC_blk : SIN_PAIR_n_FAULT_DISC.blk = .sin := by decide
@[simp] theorem SIN_PAIR_n_FAULT_PEND_CYCLE_blk : SIN_PAIR_n_FAULT_PEND_CYCLE.blk = .sin := by decide
@[simp] theorem SIN_PAIR_n_FAULT_SHORT_X_blk : SIN_PAIR_n_FAULT_SHORT_X.blk = .sin := by decide
@[simp] theorem SIN_PAIR_n_FAULT_SHORT_Y_blk : SIN_PAIR_n_FAULT_SHORT_Y.blk = .sin := by decide
@[simp] theorem SIN_PAIR_n_FAULT_SRC_blk : SIN_PAIR_n_FAULT_SRC.blk = .sin := by decide
@[simp] theorem SIN_PAIR_n_FAULT_STUCK_DIE_blk : SIN_PAIR_n_FAULT_STUCK_DIE.blk = .sin := by decide
@[simp] theorem SIN_PAIR_n_FAULT_STUCK_X_blk : SIN_PAIR_n_FAULT_STUCK_X.blk = .sin := by decide
@[simp] theorem SIN_PAIR_n_FAULT_STUCK_Y_blk : SIN_PAIR_n_FAULT_STUCK_Y.blk = .sin := by decide
@[simp] theorem SIN_PAIR_n_FAULT_XCIRC_X_blk : SIN_PAIR_n_FAULT_XCIRC_X.blk = .sin := by decide
@[simp] theorem SIN_PAIR_n_FAULT_XCIRC_Y_blk : SIN_PAIR_n_FAULT_XCIRC_Y.blk = .sin := by decide
@[simp] theorem SIN_PAIR_n_FAULT_XSRC_blk : SIN_PAIR_n_FAULT_XSRC.blk = .sin := by decide
@[simp] theorem SIN_PAIR_n_TIME_DISC_blk : SIN_PAIR_n_TIME_DISC.blk = .sin := by decide
@[simp] theorem SOUT_DIE_STATUS_ATTR_CNT_A_blk : SOUT_DIE_STATUS_ATTR_CNT_A.blk = .sout := by decide
@[simp] theorem SOUT_DIE_STATUS_ATTR_CNT_B_blk : SOUT_DIE_STATUS_ATTR_CNT_B.blk = .sout := by decide
@[simp] theorem SOUT_DIE_STATUS_FRAME_A_blk : SOUT_DIE_STATUS_FRAME_A.blk = .sout := by decide
@[simp] theorem SOUT_DIE_STATUS_FRAME_B_blk : SOUT_DIE_STATUS_FRAME_B.blk = .sout := by decide
@[simp] theorem SOUT_DIE_STATUS_PUMP_A_blk : SOUT_DIE_STATUS_PUMP_A.blk = .sout := by decide
@[simp] theorem SOUT_DIE_STATUS_PUMP_B_blk : SOUT_DIE_STATUS_PUMP_B.blk = .sout := by decide
@[simp] theorem SOUT_DIE_STATUS_REF_A_blk : SOUT_DIE_STATUS_REF_A.blk = .sout := by decide
@[simp] theorem SOUT_DIE_STATUS_REF_B_blk : SOUT_DIE_STATUS_REF_B.blk = .sout := by decide
@[simp] theorem SOUT_KILL_HELD_A_blk : SOUT_KILL_HELD_A.blk = .sout := by decide
@[simp] theorem SOUT_KILL_HELD_B_blk : SOUT_KILL_HELD_B.blk = .sout := by decide
@[simp] theorem SOUT_LS_n_STAT_ABORTED_blk : SOUT_LS_n_STAT_ABORTED.blk = .sout := by decide
@[simp] theorem SOUT_LS_n_STAT_CLOSED_blk : SOUT_LS_n_STAT_CLOSED.blk = .sout := by decide
@[simp] theorem SOUT_LS_n_STAT_FAIL_CLOSE_blk : SOUT_LS_n_STAT_FAIL_CLOSE.blk = .sout := by decide
@[simp] theorem SOUT_LS_n_STAT_HELD_blk : SOUT_LS_n_STAT_HELD.blk = .sout := by decide
@[simp] theorem SOUT_LS_n_STAT_LIMIT_blk : SOUT_LS_n_STAT_LIMIT.blk = .sout := by decide
@[simp] theorem SOUT_LS_n_STAT_STUCK_blk : SOUT_LS_n_STAT_STUCK.blk = .sout := by decide
@[simp] theorem SOUT_RB_M_DIE_A_blk : SOUT_RB_M_DIE_A.blk = .sout := by decide
@[simp] theorem SOUT_RB_M_DIE_B_blk : SOUT_RB_M_DIE_B.blk = .sout := by decide
@[simp] theorem SOUT_RB_O_DIE_A_blk : SOUT_RB_O_DIE_A.blk = .sout := by decide
@[simp] theorem SOUT_RB_O_DIE_B_blk : SOUT_RB_O_DIE_B.blk = .sout := by decide
@[simp] theorem SOUT_VERIFY_VERIFY_blk : SOUT_VERIFY_VERIFY.blk = .sout := by decide
@[simp] theorem SOUT_n_CFG_OPEN_CLASS_blk : SOUT_n_CFG_OPEN_CLASS.blk = .sout := by decide
@[simp] theorem SOUT_n_CFG_OPEN_LOAD_blk : SOUT_n_CFG_OPEN_LOAD.blk = .sout := by decide
@[simp] theorem SOUT_n_CFG_PLACED_blk : SOUT_n_CFG_PLACED.blk = .sout := by decide
@[simp] theorem SOUT_n_FAULT_FEED_blk : SOUT_n_FAULT_FEED.blk = .sout := by decide
@[simp] theorem SOUT_n_FAULT_LIMIT_A_blk : SOUT_n_FAULT_LIMIT_A.blk = .sout := by decide
@[simp] theorem SOUT_n_FAULT_LIMIT_B_blk : SOUT_n_FAULT_LIMIT_B.blk = .sout := by decide
@[simp] theorem SOUT_n_FAULT_LS_blk : SOUT_n_FAULT_LS.blk = .sout := by decide
@[simp] theorem SOUT_n_FAULT_OPEN_A_blk : SOUT_n_FAULT_OPEN_A.blk = .sout := by decide
@[simp] theorem SOUT_n_FAULT_OPEN_B_blk : SOUT_n_FAULT_OPEN_B.blk = .sout := by decide
@[simp] theorem SOUT_n_FAULT_OPEN_LOAD_blk : SOUT_n_FAULT_OPEN_LOAD.blk = .sout := by decide
@[simp] theorem SOUT_n_FAULT_PHASE_blk : SOUT_n_FAULT_PHASE.blk = .sout := by decide
@[simp] theorem SOUT_n_FAULT_RB_DIS_blk : SOUT_n_FAULT_RB_DIS.blk = .sout := by decide
@[simp] theorem SOUT_n_FAULT_STUCK_A_blk : SOUT_n_FAULT_STUCK_A.blk = .sout := by decide
@[simp] theorem SOUT_n_FAULT_STUCK_B_blk : SOUT_n_FAULT_STUCK_B.blk = .sout := by decide
@[simp] theorem SOUT_n_LAST_UPDATE_blk : SOUT_n_LAST_UPDATE.blk = .sout := by decide
@[simp] theorem SOUT_n_RON_RON_A_blk : SOUT_n_RON_RON_A.blk = .sout := by decide
@[simp] theorem SOUT_n_RON_RON_B_blk : SOUT_n_RON_RON_B.blk = .sout := by decide
@[simp] theorem SOUT_n_STAT_ABORTED_blk : SOUT_n_STAT_ABORTED.blk = .sout := by decide
@[simp] theorem SOUT_n_STAT_UNPLACED_blk : SOUT_n_STAT_UNPLACED.blk = .sout := by decide
@[simp] theorem STY_ERR_ATTR_blk : STY_ERR_ATTR.blk = .lks := by decide
@[simp] theorem STY_ERR_KIND_blk : STY_ERR_KIND.blk = .lks := by decide
@[simp] theorem STY_ERR_TYPE_blk : STY_ERR_TYPE.blk = .lks := by decide
@[simp] theorem STY_REPEATS_RX_blk : STY_REPEATS_RX.blk = .lks := by decide
@[simp] theorem STY_REPEATS_TX_blk : STY_REPEATS_TX.blk = .lks := by decide
@[simp] theorem STY_SKEW_MAX_NS_blk : STY_SKEW_MAX_NS.blk = .lks := by decide
@[simp] theorem STY_SKEW_NOW_NS_blk : STY_SKEW_NOW_NS.blk = .lks := by decide
@[simp] theorem STY_STATUS_AE_RX_OK_blk : STY_STATUS_AE_RX_OK.blk = .lks := by decide
@[simp] theorem STY_STATUS_AE_TX_OK_blk : STY_STATUS_AE_TX_OK.blk = .lks := by decide
@[simp] theorem STY_STATUS_CYC_RX_OK_blk : STY_STATUS_CYC_RX_OK.blk = .lks := by decide
@[simp] theorem STY_STATUS_CYC_TX_OK_blk : STY_STATUS_CYC_TX_OK.blk = .lks := by decide
@[simp] theorem STY_STATUS_MODE_blk : STY_STATUS_MODE.blk = .lks := by decide
@[simp] theorem SYS_EVAL_EVAL_MAX_A_blk : SYS_EVAL_EVAL_MAX_A.blk = .sys := by decide
@[simp] theorem SYS_EVAL_EVAL_MAX_B_blk : SYS_EVAL_EVAL_MAX_B.blk = .sys := by decide
@[simp] theorem SYS_GCOUNT_COUNT_blk : SYS_GCOUNT_COUNT.blk = .sys := by decide
@[simp] theorem SYS_STATE_DEV_STATE_blk : SYS_STATE_DEV_STATE.blk = .sys := by decide
@[simp] theorem SYS_STATE_SC_CLK_STEP_blk : SYS_STATE_SC_CLK_STEP.blk = .sys := by decide
@[simp] theorem TIM_CMP_n_ACT_ARMED_blk : TIM_CMP_n_ACT_ARMED.blk = .tim := by decide
@[simp] theorem TIM_CMP_n_ACT_CMP_LAP_blk : TIM_CMP_n_ACT_CMP_LAP.blk = .tim := by decide
@[simp] theorem TIM_CMP_n_ACT_EVT_blk : TIM_CMP_n_ACT_EVT.blk = .tim := by decide
@[simp] theorem TIM_CMP_n_ACT_FIRED_blk : TIM_CMP_n_ACT_FIRED.blk = .tim := by decide
@[simp] theorem TIM_CMP_n_ACT_IRQ_blk : TIM_CMP_n_ACT_IRQ.blk = .tim := by decide
@[simp] theorem TIM_CMP_n_ACT_LATE_blk : TIM_CMP_n_ACT_LATE.blk = .tim := by decide
@[simp] theorem TIM_CMP_n_ACT_OUT_blk : TIM_CMP_n_ACT_OUT.blk = .tim := by decide
@[simp] theorem TIM_CMP_n_ARMED_COUNT_blk : TIM_CMP_n_ARMED_COUNT.blk = .tim := by decide
@[simp] theorem TIM_CMP_n_VALUE_blk : TIM_CMP_n_VALUE.blk = .tim := by decide
@[simp] theorem TIM_TM_t_CAPSTAMP_UPDATE_blk : TIM_TM_t_CAPSTAMP_UPDATE.blk = .tim := by decide
@[simp] theorem TIM_TM_t_CAP_COUNT_blk : TIM_TM_t_CAP_COUNT.blk = .tim := by decide
@[simp] theorem TIM_TM_t_CFG_CAP_SRC_blk : TIM_TM_t_CFG_CAP_SRC.blk = .tim := by decide
@[simp] theorem TIM_TM_t_CFG_CLK_blk : TIM_TM_t_CFG_CLK.blk = .tim := by decide
@[simp] theorem TIM_TM_t_CFG_EN_blk : TIM_TM_t_CFG_EN.blk = .tim := by decide
@[simp] theorem TIM_TM_t_CFG_PRESC_blk : TIM_TM_t_CFG_PRESC.blk = .tim := by decide
@[simp] theorem TIM_TM_t_CFG_SLAVE_blk : TIM_TM_t_CFG_SLAVE.blk = .tim := by decide
@[simp] theorem TIM_TM_t_COUNT_COUNT_blk : TIM_TM_t_COUNT_COUNT.blk = .tim := by decide
@[simp] theorem TIM_TM_t_STATUS_CAP_FULL_blk : TIM_TM_t_STATUS_CAP_FULL.blk = .tim := by decide
@[simp] theorem TIM_TM_t_STATUS_CAP_OVR_blk : TIM_TM_t_STATUS_CAP_OVR.blk = .tim := by decide
@[simp] theorem TIM_TM_t_STATUS_CFG_ERR_blk : TIM_TM_t_STATUS_CFG_ERR.blk = .tim := by decide
@[simp] theorem TIM_TM_t_STATUS_OUT_blk : TIM_TM_t_STATUS_OUT.blk = .tim := by decide
@[simp] theorem TIM_TM_t_STATUS_OVF_blk : TIM_TM_t_STATUS_OVF.blk = .tim := by decide
@[simp] theorem TIM_WAKE_AON_TICKS_blk : TIM_WAKE_AON_TICKS.blk = .tim := by decide
@[simp] theorem TPS_n_CFG_PLACED_blk : TPS_n_CFG_PLACED.blk = .sin := by decide
@[simp] theorem TPS_n_LAST_UPDATE_blk : TPS_n_LAST_UPDATE.blk = .sin := by decide
@[simp] theorem TPS_n_STAT_ACTIVE_blk : TPS_n_STAT_ACTIVE.blk = .sin := by decide
@[simp] theorem TPS_n_STAT_LOW_IDLE_blk : TPS_n_STAT_LOW_IDLE.blk = .sin := by decide
@[simp] theorem TPS_n_STAT_NOT_LOW_blk : TPS_n_STAT_NOT_LOW.blk = .sin := by decide
@[simp] theorem TPS_n_STAT_UNPLACED_blk : TPS_n_STAT_UNPLACED.blk = .sin := by decide

@[simp] theorem State.putFlag_elsewhere (B : List Block) (s : State) (f : Fld) (v : Bool) (c : Chan) (i : Nat) (hb : f.blk ∈ B) : regsOff B (State.putFlag s f v c i).regs = regsOff B s.regs := by
  unfold State.putFlag
  simp [hb]

@[simp] theorem State.satInc_elsewhere (B : List Block) (s : State) (f : Fld) (c : Chan) (i : Nat) (hb : f.blk ∈ B) : regsOff B (State.satInc s f c i).regs = regsOff B s.regs := by
  unfold State.satInc
  simp [hb]

@[simp] theorem State.putBoth_elsewhere (B : List Block) (s : State) (f : Fld) (v : Nat) (i : Nat) (hb : f.blk ∈ B) : regsOff B (State.putBoth s f v i).regs = regsOff B s.regs := by
  unfold State.putBoth
  simp [hb]

theorem adcBase_in (k : Nat) : inBlock .adc (adcBase k) = true := by
  unfold adcBase inBlock
  have h : k % 2 = 0 ∨ k % 2 = 1 := by omega
  cases adcChan k <;> rcases h with h | h <;> rw [h] <;> decide

theorem adcBase_room (k : Nat) : adcBase k % 0x10000 + 0x4000 ≤ 0x10000 := by
  unfold adcBase
  have h : k % 2 = 0 ∨ k % 2 = 1 := by omega
  cases adcChan k <;> rcases h with h | h <;> rw [h] <;> decide

@[simp] theorem State.putA_elsewhere (B : List Block) (s : State) (f : Fld) (v k : Nat) (i : Nat) (h0 : Block.adc ∈ B) : regsOff B (State.putA s f v k i).regs = regsOff B s.regs :=
  State.putAt_elsewhere B s f v (adcBase k) i .adc h0 (adcBase_in k)

@[simp] theorem State.putT_elsewhere (B : List Block) (s : State) (f : Fld) (v : Nat) (u : Unit3) (i : Nat) (h0 : Block.tim ∈ B) : regsOff B (State.putT s f v u i).regs = regsOff B s.regs :=
  State.putAt_elsewhere B s f v (timBase u) i .tim h0 (by cases u <;> decide)

@[simp] theorem State.updCrc_elsewhere (B : List Block) (s : State) (u : Unit3) (f : CrcSt → CrcSt)  : regsOff B (State.updCrc s u f).regs = regsOff B s.regs := by
  unfold State.updCrc
  with_reducible rfl

@[simp] theorem State.putC_elsewhere (B : List Block) (s : State) (f : Fld) (v : Nat) (u : Unit3) (h0 : Block.crc ∈ B) : regsOff B (State.putC s f v u).regs = regsOff B s.regs :=
  State.putAt_elsewhere B s f v (crcBase u) 0 .crc h0 (by cases u <;> decide)

@[simp] theorem State.putN_elsewhere (B : List Block) (s : State) (f : Fld) (v : Nat) (n : Net) (hb : f.blk ∈ B) : regsOff B (State.putN s f v n).regs = regsOff B s.regs := by
  unfold State.putN
  simp [hb]

@[simp] theorem State.putP_elsewhere (B : List Block) (s : State) (f : Fld) (v : Nat) (p : Port) (hb : f.blk ∈ B) : regsOff B (State.putP s f v p).regs = regsOff B s.regs := by
  unfold State.putP
  simp [hb]

@[simp] theorem State.putSesBit_elsewhere (B : List Block) (s : State) (f : Fld) (n : Nat) (b : Bool) (hb : f.blk ∈ B) : regsOff B (State.putSesBit s f n b).regs = regsOff B s.regs := by
  unfold State.putSesBit
  simp [hb]

@[simp] theorem State.zeroBoth_elsewhere (B : List Block) (s : State) (fs : List Fld) (i : Nat) (hb : ∀ f ∈ fs, f.blk ∈ B) : regsOff B (State.zeroBoth s fs i).regs = regsOff B s.regs := by
  unfold State.zeroBoth
  induction fs generalizing s with
  | nil => rfl
  | cons f fs ih =>
    rw [List.foldl_cons, ih _ (fun x hx => hb x (List.mem_cons_of_mem _ hx))]
    simp [hb f (List.mem_cons_self ..)]

@[simp] theorem State.putNew_elsewhere (B : List Block) (s : State) (f : Fld) (v : Nat) (c : Chan) (i : Nat) (hb : f.blk ∈ B) : regsOff B (State.putNew s f v c i).regs = regsOff B s.regs := by
  unfold State.putNew
  simp [hb]

@[simp] theorem State.pairBit_elsewhere (B : List Block) (s : State) (f : Fld) (n : Nat) (b : Bool) (hb : f.blk ∈ B) : regsOff B (State.pairBit s f n b).regs = regsOff B s.regs := by
  unfold State.pairBit
  simp [hb]

@[simp] theorem State.addA_elsewhere (B : List Block) (s : State) (f : Fld) (n k : Nat) (i : Nat) (h0 : Block.adc ∈ B) : regsOff B (State.addA s f n k i).regs = regsOff B s.regs := by
  unfold State.addA
  simp [h0]

@[simp] theorem State.putMap_elsewhere (B : List Block) (s : State) (f : Fld) (c : Chan) (p : Nat → Bool) (hb : f.blk ∈ B) : regsOff B (State.putMap s f c p).regs = regsOff B s.regs := by
  unfold State.putMap
  simp [hb]

@[simp] theorem State.first_elsewhere (B : List Block) (s : State) (c : Chan) (e : FaultEv) (multi : Bool) (h0 : Block.fc ∈ B) : regsOff B (State.first s c e multi).regs = regsOff B s.regs := by
  unfold State.first
  simp [h0]

@[simp] theorem State.dropEvent_elsewhere (B : List Block) (s : State) (h0 : Block.hly ∈ B) : regsOff B (State.dropEvent s).regs = regsOff B s.regs := by
  unfold State.dropEvent
  (try dsimp only)
  repeat' (first | with_reducible rfl | (simp [h0]; done) | split)

@[simp] theorem State.pushEvent_elsewhere (B : List Block) (s : State) (typ : Nat) (words : List Nat) (fault : Option (Chan × Nat)) (h0 : Block.hly ∈ B) : regsOff B (State.pushEvent s typ words fault).regs = regsOff B s.regs := by
  unfold State.pushEvent
  simp [h0]

@[simp] theorem State.recReady_elsewhere (B : List Block) (s : State) (h0 : Block.llk ∈ B) : regsOff B (State.recReady s).regs = regsOff B s.regs := by
  unfold State.recReady
  simp [h0]

@[simp] theorem State.pushRec_elsewhere (B : List Block) (s : State) (typ : Nat) (payload : List Nat) (h0 : Block.llk ∈ B) : regsOff B (State.pushRec s typ payload).regs = regsOff B s.regs := by
  unfold State.pushRec
  simp [h0]

@[simp] theorem State.putRecord_elsewhere (B : List Block) (s : State) (c : Chan) (n : Nat) (e : FaultEv) (h0 : Block.fc ∈ B) : regsOff B (State.putRecord s c n e).regs = regsOff B s.regs := by
  unfold State.putRecord
  simp [h0]

@[simp] theorem State.record_elsewhere (B : List Block) (s : State) (c : Chan) (e : FaultEv) (h0 : Block.fc ∈ B) (h1 : Block.llk ∈ B) (h2 : Block.hly ∈ B) : regsOff B (State.record s c e).regs = regsOff B s.regs := by
  unfold State.record
  (try dsimp only)
  repeat' (first | with_reducible rfl | (simp [h0, h1, h2]; done) | split)

@[simp] theorem State.showLines_elsewhere (B : List Block) (s : State) (c : Chan) (h0 : Block.fc ∈ B) : regsOff B (State.showLines s c).regs = regsOff B s.regs := by
  unfold State.showLines
  simp [h0]

@[simp] theorem State.updFc_elsewhere (B : List Block) (s : State) (c : Chan) (f : FcSt → FcSt)  : regsOff B (State.updFc s c f).regs = regsOff B s.regs := by
  unfold State.updFc
  with_reducible rfl

@[simp] theorem State.latchIn_elsewhere (B : List Block) (s : State) (c : Chan) (e : FaultEv) (multi : Bool) (h0 : Block.fc ∈ B) (h1 : Block.llk ∈ B) (h2 : Block.hly ∈ B) : regsOff B (State.latchIn s c e multi).regs = regsOff B s.regs := by
  unfold State.latchIn
  (try dsimp only)
  repeat' (first | with_reducible rfl | (simp [h0, h1, h2]; done) | split)

@[simp] theorem State.latch_elsewhere (B : List Block) (s : State) (e : FaultEv) (multi : Bool) (h0 : Block.fc ∈ B) (h1 : Block.llk ∈ B) (h2 : Block.hly ∈ B) : regsOff B (State.latch s e multi).regs = regsOff B s.regs := by
  unfold State.latch
  (try dsimp only)
  repeat' (first | with_reducible rfl | (simp [h0, h1, h2]; done) | split)

@[simp] theorem State.setDev_elsewhere (B : List Block) (s : State) (n : Nat) (h0 : Block.sys ∈ B) (h1 : Block.hly ∈ B) : regsOff B (State.setDev s n).regs = regsOff B s.regs := by
  unfold State.setDev
  simp [h0, h1]

@[simp] theorem State.showPins_elsewhere (B : List Block) (s : State) (h0 : Block.fc ∈ B) : regsOff B (State.showPins s).regs = regsOff B s.regs := by
  unfold State.showPins
  simp [h0]

@[simp] theorem State.settle_elsewhere (B : List Block) (s : State) (h0 : Block.sys ∈ B) (h1 : Block.fc ∈ B) (h2 : Block.hly ∈ B) : regsOff B (State.settle s).regs = regsOff B s.regs := by
  unfold State.settle
  simp [h0, h1, h2]

/-- A line of Class 0 or Class 1. -/
def FaultEv.low (e : FaultEv) : Prop := e.cls < 2

@[simp] theorem class0_low (l d : Nat) : (class0 l d).low := by
  show 0 < 2
  omega

@[simp] theorem class1Both_low (l : Nat) (e : Elem) (d : Nat) : (class1Both l e d).low := by
  show 1 < 2
  omega

@[simp] theorem FaultEv.low_zero (l : Nat) (g : Charge) (c : Coll) (e : Elem) (d : Nat) : (⟨l, 0, g, c, e, d⟩ : FaultEv).low := by
  show 0 < 2
  omega

@[simp] theorem FaultEv.low_one (l : Nat) (g : Charge) (c : Coll) (e : Elem) (d : Nat) : (⟨l, 1, g, c, e, d⟩ : FaultEv).low := by
  show 1 < 2
  omega

@[simp] theorem State.raiseLow_elsewhere (B : List Block) (s : State) (e : FaultEv) (h : e.low) (h0 : Block.sys ∈ B) (h1 : Block.fc ∈ B) (h2 : Block.llk ∈ B) (h3 : Block.hly ∈ B) : regsOff B (State.raise s e).regs = regsOff B s.regs := by
  have hr : ∀ u : State, u.react e = u := fun u => by
    unfold FaultEv.low at h
    unfold State.react
    split
    · omega
    · omega
    · rfl
  unfold State.raise
  dsimp only
  simp only [hr, ite_self]
  simp [h0, h1, h2, h3]

@[simp] theorem State.raiseOnceLow_elsewhere (B : List Block) (s : State) (e : FaultEv) (h : e.low) (h0 : Block.sys ∈ B) (h1 : Block.fc ∈ B) (h2 : Block.llk ∈ B) (h3 : Block.hly ∈ B) : regsOff B (State.raiseOnce s e).regs = regsOff B s.regs := by
  show regsOff B (State.raise s e).regs = _
  exact State.raiseLow_elsewhere B s e h h0 h1 h2 h3


@[simp] theorem State.updDie_elsewhere (B : List Block) (s : State) (c : Chan) (f : Die → Die)  : regsOff B (State.updDie s c f).regs = regsOff B s.regs := by
  unfold State.updDie
  with_reducible rfl

@[simp] theorem State.armFurl_elsewhere (B : List Block) (s : State) (c : Chan)  : regsOff B (State.armFurl s c).regs = regsOff B s.regs := by
  unfold State.armFurl
  simp

@[simp] theorem State.armBothFurl_elsewhere (B : List Block) (s : State)  : regsOff B (State.armBothFurl s).regs = regsOff B s.regs := by
  unfold State.armBothFurl
  simp

@[simp] theorem State.disarmFurl_elsewhere (B : List Block) (s : State) (c : Chan)  : regsOff B (State.disarmFurl s c).regs = regsOff B s.regs := by
  unfold State.disarmFurl
  simp

@[simp] theorem State.showFurl_elsewhere (B : List Block) (s : State) (h0 : Block.dsf ∈ B) : regsOff B (State.showFurl s).regs = regsOff B s.regs := by
  unfold State.showFurl
  simp [h0]

@[simp] theorem State.endStops_elsewhere (B : List Block) (s : State) (cause : Nat) (h0 : Block.dsf ∈ B) : regsOff B (State.endStops s cause).regs = regsOff B s.regs := by
  unfold State.endStops
  (try dsimp only)
  repeat' (first | with_reducible rfl | (simp [h0]; done) | split)

@[simp] theorem State.abortTest_elsewhere (B : List Block) (s : State) (h0 : Block.sout ∈ B) (h1 : Block.llk ∈ B) : regsOff B (State.abortTest s).regs = regsOff B s.regs := by
  unfold State.abortTest
  simp [h0, h1]

@[simp] theorem State.openDie_elsewhere (B : List Block) (s : State) (c : Chan) (keep : BitVec 16) (keepLs : BitVec 4) (h0 : Block.sout ∈ B) (h1 : Block.llk ∈ B) : regsOff B (State.openDie s c keep keepLs).regs = regsOff B s.regs := by
  unfold State.openDie
  simp [h0, h1]

@[simp] theorem State.singleMode_elsewhere (B : List Block) (s : State) (c : Chan) (h0 : Block.sout ∈ B) (h1 : Block.lks ∈ B) (h2 : Block.llk ∈ B) : regsOff B (State.singleMode s c).regs = regsOff B s.regs := by
  unfold State.singleMode
  (try dsimp only)
  repeat' (first | with_reducible rfl | (simp [h0, h1, h2]; done) | split)

@[simp] theorem State.class2_elsewhere (B : List Block) (s : State) (c : Chan) (suspect : Bool) (line : Bool) (h0 : Block.sout ∈ B) (h1 : Block.dsf ∈ B) (h2 : Block.lks ∈ B) (h3 : Block.llk ∈ B) : regsOff B (State.class2 s c suspect line).regs = regsOff B s.regs := by
  unfold State.class2
  simp [h0, h1, h2, h3]

@[simp] theorem State.oweTests_elsewhere (B : List Block) (s : State) (m : BitVec 16)  : regsOff B (State.oweTests s m).regs = regsOff B s.regs := by
  unfold State.oweTests
  with_reducible rfl

@[simp] theorem State.showKill_elsewhere (B : List Block) (s : State) (h0 : Block.sout ∈ B) : regsOff B (State.showKill s).regs = regsOff B s.regs := by
  unfold State.showKill
  simp [h0]

@[simp] theorem State.kill_elsewhere (B : List Block) (s : State) (c : Chan) (m : BitVec 16) (ls : BitVec 4) (f : Die → Die) (h0 : Block.sout ∈ B) (h1 : Block.llk ∈ B) : regsOff B (State.kill s c m ls f).regs = regsOff B s.regs := by
  unfold State.kill
  simp [h0, h1]

@[simp] theorem State.fatalKill_elsewhere (B : List Block) (s : State) (h0 : Block.sout ∈ B) (h1 : Block.llk ∈ B) : regsOff B (State.fatalKill s).regs = regsOff B s.regs := by
  unfold State.fatalKill
  simp [h0, h1]

@[simp] theorem State.class3_elsewhere (B : List Block) (s : State) (h0 : Block.fc ∈ B) (h1 : Block.sout ∈ B) (h2 : Block.dsf ∈ B) (h3 : Block.llk ∈ B) : regsOff B (State.class3 s).regs = regsOff B s.regs := by
  unfold State.class3
  simp [h0, h1, h2, h3]

@[simp] theorem State.keepL3_elsewhere (B : List Block) (s : State) (e : FaultEv)  : regsOff B (State.keepL3 s e).regs = regsOff B s.regs := by
  unfold State.keepL3
  (try dsimp only)
  repeat' (first | with_reducible rfl | (simp; done) | split)

@[simp] theorem State.react_elsewhere (B : List Block) (s : State) (e : FaultEv) (h0 : Block.fc ∈ B) (h1 : Block.sout ∈ B) (h2 : Block.dsf ∈ B) (h3 : Block.lks ∈ B) (h4 : Block.llk ∈ B) : regsOff B (State.react s e).regs = regsOff B s.regs := by
  unfold State.react
  (try dsimp only)
  repeat' (first | with_reducible rfl | (simp [h0, h1, h2, h3, h4]; done) | split)

@[simp] theorem State.raise_elsewhere (B : List Block) (s : State) (e : FaultEv) (h0 : Block.sys ∈ B) (h1 : Block.fc ∈ B) (h2 : Block.sout ∈ B) (h3 : Block.dsf ∈ B) (h4 : Block.lks ∈ B) (h5 : Block.llk ∈ B) (h6 : Block.hly ∈ B) : regsOff B (State.raise s e).regs = regsOff B s.regs := by
  unfold State.raise
  simp [h0, h1, h2, h3, h4, h5, h6]

@[simp] theorem State.raiseOnce_elsewhere (B : List Block) (s : State) (e : FaultEv) (h0 : Block.sys ∈ B) (h1 : Block.fc ∈ B) (h2 : Block.sout ∈ B) (h3 : Block.dsf ∈ B) (h4 : Block.lks ∈ B) (h5 : Block.llk ∈ B) (h6 : Block.hly ∈ B) : regsOff B (State.raiseOnce s e).regs = regsOff B s.regs := by
  unfold State.raiseOnce
  simp [h0, h1, h2, h3, h4, h5, h6]

@[simp] theorem State.at_elsewhere (B : List Block) (s : State) (t : Nat)  : regsOff B (State.at s t).regs = regsOff B s.regs := by
  unfold State.at
  with_reducible rfl

@[simp] theorem State.updMz_elsewhere (B : List Block) (s : State) (f : MzSt → MzSt)  : regsOff B (State.updMz s f).regs = regsOff B s.regs := by
  unfold State.updMz
  with_reducible rfl

@[simp] theorem State.mzCommit_elsewhere (B : List Block) (s : State)  : regsOff B (State.mzCommit s).regs = regsOff B s.regs := by
  unfold State.mzCommit
  simp

@[simp] theorem State.mzEvent_elsewhere (B : List Block) (s : State) (e : MzEvent)  : regsOff B (State.mzEvent s e).regs = regsOff B s.regs := by
  unfold State.mzEvent
  simp

@[simp] theorem State.showOtp_elsewhere (B : List Block) (s : State) (h0 : Block.otp ∈ B) (h1 : Block.bst ∈ B) : regsOff B (State.showOtp s).regs = regsOff B s.regs := by
  unfold State.showOtp
  simp [h0, h1]

@[simp] theorem State.updSec_elsewhere (B : List Block) (s : State) (f : SecSt → SecSt)  : regsOff B (State.updSec s f).regs = regsOff B s.regs := by
  unfold State.updSec
  with_reducible rfl

@[simp] theorem State.blow_elsewhere (B : List Block) (s : State) (n : Nat) (f : BitVec 72) (h0 : Block.otp ∈ B) (h1 : Block.bst ∈ B) : regsOff B (State.blow s n f).regs = regsOff B s.regs := by
  unfold State.blow
  simp [h0, h1]

@[simp] theorem State.tally_elsewhere (B : List Block) (s : State) (n bits : Nat) (h0 : Block.otp ∈ B) (h1 : Block.bst ∈ B) : regsOff B (State.tally s n bits).regs = regsOff B s.regs := by
  unfold State.tally
  simp [h0, h1]

@[simp] theorem State.advanceCounter_elsewhere (B : List Block) (s : State) (n v : Nat) (h0 : Block.otp ∈ B) (h1 : Block.bst ∈ B) : regsOff B (State.advanceCounter s n v).regs = regsOff B s.regs := by
  unfold State.advanceCounter
  simp [h0, h1]

@[simp] theorem State.acceptFw_elsewhere (B : List Block) (s : State) (h0 : Block.otp ∈ B) (h1 : Block.bst ∈ B) : regsOff B (State.acceptFw s).regs = regsOff B s.regs := by
  unfold State.acceptFw
  (try dsimp only)
  repeat' (first | with_reducible rfl | (simp [h0, h1]; done) | split)

@[simp] theorem State.markReady_elsewhere (B : List Block) (s : State)  : regsOff B (State.markReady s).regs = regsOff B s.regs := by
  unfold State.markReady
  with_reducible rfl

@[simp] theorem State.startWith_elsewhere (B : List Block) (s : State) (k : StartImg)  : regsOff B (State.startWith s k).regs = regsOff B s.regs := by
  unfold State.startWith
  simp

@[simp] theorem State.armLines_elsewhere (B : List Block) (s : State) (h0 : Block.dsf ∈ B) : regsOff B (State.armLines s).regs = regsOff B s.regs := by
  unfold State.armLines
  simp [h0]

@[simp] theorem State.fkFree_elsewhere (B : List Block) (s : State) (c : Chan) (h0 : Block.sout ∈ B) : regsOff B (State.fkFree s c).regs = regsOff B s.regs := by
  unfold State.fkFree
  simp [h0]

@[simp] theorem State.updOut_elsewhere (B : List Block) (s : State) (n : Nat) (f : OutSt → OutSt)  : regsOff B (State.updOut s n f).regs = regsOff B s.regs := by
  unfold State.updOut
  with_reducible rfl

@[simp] theorem State.applySwitches_elsewhere (B : List Block) (s : State) (c : Chan) (w : BitVec 16) (l : BitVec 4) (h0 : Block.sout ∈ B) (h1 : Block.llk ∈ B) : regsOff B (State.applySwitches s c w l).regs = regsOff B s.regs := by
  unfold State.applySwitches
  simp [h0, h1]

@[simp] theorem txSeqFld_blk (l : Lane) : (txSeqFld l).blk = .lks := by cases l <;> decide

@[simp] theorem rxSeqFld_blk (l : Lane) : (rxSeqFld l).blk = .lks := by cases l <;> decide

@[simp] theorem rxOkFld_blk (l : Lane) : (rxOkFld l).blk = .lks := by cases l <;> decide

@[simp] theorem txOkFld_blk (l : Lane) : (txOkFld l).blk = .lks := by cases l <;> decide

@[simp] theorem State.sent_elsewhere (B : List Block) (s : State) (c : Chan) (l : Lane) (h0 : Block.lks ∈ B) : regsOff B (State.sent s c l).regs = regsOff B s.regs := by
  unfold State.sent
  simp [h0]

@[simp] theorem State.applyDie_elsewhere (B : List Block) (s : State) (c : Chan) (o : DieObs) (h0 : Block.sout ∈ B) (h1 : Block.lks ∈ B) (h2 : Block.llk ∈ B) : regsOff B (State.applyDie s c o).regs = regsOff B s.regs := by
  unfold State.applyDie
  (try dsimp only)
  repeat' (first | with_reducible rfl | (simp [h0, h1, h2]; done) | split)

@[simp] theorem State.advise_elsewhere (B : List Block) (s : State) (n : Nat) (h0 : Block.sys ∈ B) (h1 : Block.fc ∈ B) (h2 : Block.llk ∈ B) (h3 : Block.hly ∈ B) (h4 : Block.cnm ∈ B) : regsOff B (State.advise s n).regs = regsOff B s.regs := by
  unfold State.advise
  simp [h0, h1, h2, h3, h4]

@[simp] theorem State.replan_elsewhere (B : List Block) (s : State) (h0 : Block.cnm ∈ B) : regsOff B (State.replan s).regs = regsOff B s.regs := by
  unfold State.replan
  simp [h0]

@[simp] theorem State.clockStep_elsewhere (B : List Block) (s : State) (h0 : Block.sys ∈ B) (h1 : Block.fc ∈ B) (h2 : Block.llk ∈ B) (h3 : Block.hly ∈ B) (h4 : Block.cnm ∈ B) : regsOff B (State.clockStep s).regs = regsOff B s.regs := by
  unfold State.clockStep
  simp [h0, h1, h2, h3, h4]

@[simp] theorem State.dieInputFault_elsewhere (B : List Block) (s : State) (c : Chan) (h0 : Block.sys ∈ B) (h1 : Block.fc ∈ B) (h2 : Block.sout ∈ B) (h3 : Block.dsf ∈ B) (h4 : Block.lks ∈ B) (h5 : Block.llk ∈ B) (h6 : Block.hly ∈ B) : regsOff B (State.dieInputFault s c).regs = regsOff B s.regs := by
  unfold State.dieInputFault
  simp [h0, h1, h2, h3, h4, h5, h6]

@[simp] theorem State.judgeDie_elsewhere (B : List Block) (s : State) (c : Chan) (o : DieObs) (h0 : Block.sys ∈ B) (h1 : Block.fc ∈ B) (h2 : Block.sin ∈ B) (h3 : Block.sout ∈ B) (h4 : Block.dsf ∈ B) (h5 : Block.lks ∈ B) (h6 : Block.llk ∈ B) (h7 : Block.hly ∈ B) : regsOff B (State.judgeDie s c o).regs = regsOff B s.regs := by
  unfold State.judgeDie
  (try dsimp only)
  repeat' (first | with_reducible rfl | (simp [h0, h1, h2, h3, h4, h5, h6, h7]; done) | split)

@[simp] theorem State.boundaryApply_elsewhere (B : List Block) (s : State) (t : Nat) (a b : DieObs) (h0 : Block.sys ∈ B) (h1 : Block.fc ∈ B) (h2 : Block.sin ∈ B) (h3 : Block.sout ∈ B) (h4 : Block.dsf ∈ B) (h5 : Block.lks ∈ B) (h6 : Block.llk ∈ B) (h7 : Block.hly ∈ B) (h8 : Block.cnm ∈ B) : regsOff B (State.boundaryApply s t a b).regs = regsOff B s.regs := by
  unfold State.boundaryApply
  simp [h0, h1, h2, h3, h4, h5, h6, h7, h8]

@[simp] theorem State.clearCond_elsewhere (B : List Block) (s : State) (line : Nat) (e : Elem)  : regsOff B (State.clearCond s line e).regs = regsOff B s.regs := by
  unfold State.clearCond
  with_reducible rfl

@[simp] theorem State.updPair_elsewhere (B : List Block) (s : State) (n : Nat) (f : PairSt → PairSt)  : regsOff B (State.updPair s n f).regs = regsOff B s.regs := by
  unfold State.updPair
  with_reducible rfl

@[simp] theorem State.cycleStep_elsewhere (B : List Block) (s : State) (n : Nat) (h0 : Block.sin ∈ B) : regsOff B (State.cycleStep s n).regs = regsOff B s.regs := by
  unfold State.cycleStep
  simp [h0]

@[simp] theorem State.discStep_elsewhere (B : List Block) (s : State) (n : Nat) (h0 : Block.sin ∈ B) : regsOff B (State.discStep s n).regs = regsOff B s.regs := by
  unfold State.discStep
  simp [h0]

@[simp] theorem State.pairStep_elsewhere (B : List Block) (s : State) (n : Nat) (h0 : Block.sin ∈ B) : regsOff B (State.pairStep s n).regs = regsOff B s.regs := by
  unfold State.pairStep
  simp [h0]

@[simp] theorem State.agreeInputs_elsewhere (B : List Block) (s : State) (h0 : Block.sin ∈ B) : regsOff B (State.agreeInputs s).regs = regsOff B s.regs := by
  unfold State.agreeInputs
  simp [h0]

@[simp] theorem State.agreeReadback_elsewhere (B : List Block) (s : State) (h0 : Block.sout ∈ B) : regsOff B (State.agreeReadback s).regs = regsOff B s.regs := by
  unfold State.agreeReadback
  simp [h0]

@[simp] theorem State.dropLatches_elsewhere (B : List Block) (s : State) (c : Chan) (p : Latch → Bool) (h0 : Block.fc ∈ B) : regsOff B (State.dropLatches s c p).regs = regsOff B s.regs := by
  unfold State.dropLatches
  simp [h0]

@[simp] theorem State.clearClass0_elsewhere (B : List Block) (s : State) (h0 : Block.fc ∈ B) : regsOff B (State.clearClass0 s).regs = regsOff B s.regs := by
  unfold State.clearClass0
  simp [h0]

@[simp] theorem State.exchangeFaults_elsewhere (B : List Block) (s : State)  : regsOff B (State.exchangeFaults s).regs = regsOff B s.regs := by
  unfold State.exchangeFaults
  simp

@[simp] theorem State.latchSamples_elsewhere (B : List Block) (s : State) (c : Chan) (o : DieObs)  : regsOff B (State.latchSamples s c o).regs = regsOff B s.regs := by
  unfold State.latchSamples
  simp

@[simp] theorem State.linkBoundary_elsewhere (B : List Block) (s : State) (h0 : Block.llk ∈ B) : regsOff B (State.linkBoundary s).regs = regsOff B s.regs := by
  unfold State.linkBoundary
  simp [h0]

@[simp] theorem State.boundarySend_elsewhere (B : List Block) (s : State) (a b : DieObs) (h0 : Block.fc ∈ B) (h1 : Block.sin ∈ B) (h2 : Block.sout ∈ B) (h3 : Block.lks ∈ B) (h4 : Block.llk ∈ B) : regsOff B (State.boundarySend s a b).regs = regsOff B s.regs := by
  unfold State.boundarySend
  simp [h0, h1, h2, h3, h4]

@[simp] theorem State.countSleep_elsewhere (B : List Block) (s : State)  : regsOff B (State.countSleep s).regs = regsOff B s.regs := by
  unfold State.countSleep
  with_reducible rfl

@[simp] theorem State.plainRun_elsewhere (B : List Block) (s : State) (h0 : Block.sys ∈ B) (h1 : Block.hly ∈ B) : regsOff B (State.plainRun s).regs = regsOff B s.regs := by
  unfold State.plainRun
  simp [h0, h1]

@[simp] theorem State.showPhaseOf_elsewhere (B : List Block) (s : State) (c : Chan) (h0 : Block.dsf ∈ B) : regsOff B (State.showPhaseOf s c).regs = regsOff B s.regs := by
  unfold State.showPhaseOf
  simp [h0]

@[simp] theorem State.updStop_elsewhere (B : List Block) (s : State) (c : Chan) (f : StopSt → StopSt)  : regsOff B (State.updStop s c f).regs = regsOff B s.regs := by
  unfold State.updStop
  with_reducible rfl

@[simp] theorem State.beginStop_elsewhere (B : List Block) (s : State) (c : Chan) (cause : Nat) (h0 : Block.sys ∈ B) (h1 : Block.dsf ∈ B) (h2 : Block.hly ∈ B) : regsOff B (State.beginStop s c cause).regs = regsOff B s.regs := by
  unfold State.beginStop
  simp [h0, h1, h2]

@[simp] theorem State.finishStop_elsewhere (B : List Block) (s : State) (c : Chan) (cause : Nat) (h0 : Block.sout ∈ B) (h1 : Block.dsf ∈ B) : regsOff B (State.finishStop s c cause).regs = regsOff B s.regs := by
  unfold State.finishStop
  (try dsimp only)
  repeat' (first | with_reducible rfl | (simp [h0, h1]; done) | split)

@[simp] theorem State.furlStop_elsewhere (B : List Block) (s : State) (c : Chan) (cause endCause : Nat) (h0 : Block.sys ∈ B) (h1 : Block.sout ∈ B) (h2 : Block.dsf ∈ B) (h3 : Block.hly ∈ B) : regsOff B (State.furlStop s c cause endCause).regs = regsOff B s.regs := by
  unfold State.furlStop
  simp [h0, h1, h2, h3]

@[simp] theorem State.stopBoundary_elsewhere (B : List Block) (s : State) (c : Chan) (h0 : Block.sys ∈ B) (h1 : Block.sout ∈ B) (h2 : Block.dsf ∈ B) (h3 : Block.hly ∈ B) : regsOff B (State.stopBoundary s c).regs = regsOff B s.regs := by
  unfold State.stopBoundary
  (try dsimp only)
  repeat' (first | with_reducible rfl | (simp [h0, h1, h2, h3]; done) | split)

@[simp] theorem State.stopsBoundary_elsewhere (B : List Block) (s : State) (h0 : Block.sys ∈ B) (h1 : Block.sout ∈ B) (h2 : Block.dsf ∈ B) (h3 : Block.hly ∈ B) : regsOff B (State.stopsBoundary s).regs = regsOff B s.regs := by
  unfold State.stopsBoundary
  simp [h0, h1, h2, h3]

@[simp] theorem State.adcFault_elsewhere (B : List Block) (s : State) (k : Nat) (el : Elem) (h0 : Block.sys ∈ B) (h1 : Block.fc ∈ B) (h2 : Block.llk ∈ B) (h3 : Block.hly ∈ B) : regsOff B (State.adcFault s k el).regs = regsOff B s.regs := by
  unfold State.adcFault
  simp [h0, h1, h2, h3]

@[simp] theorem State.aiCheck_elsewhere (B : List Block) (s : State) (k n : Nat) (h0 : Block.sys ∈ B) (h1 : Block.fc ∈ B) (h2 : Block.llk ∈ B) (h3 : Block.hly ∈ B) (h4 : Block.adc ∈ B) : regsOff B (State.aiCheck s k n).regs = regsOff B s.regs := by
  unfold State.aiCheck
  simp [h0, h1, h2, h3, h4]

@[simp] theorem State.aiSnap_elsewhere (B : List Block) (s : State) (c : Chan) (n : Nat) (h0 : Block.sys ∈ B) (h1 : Block.fc ∈ B) (h2 : Block.llk ∈ B) (h3 : Block.hly ∈ B) (h4 : Block.adc ∈ B) : regsOff B (State.aiSnap s c n).1.regs = regsOff B s.regs := by
  unfold State.aiSnap
  (try dsimp only)
  repeat' (first | with_reducible rfl | (simp [h0, h1, h2, h3, h4]; done) | split)

@[simp] theorem State.aiInputs_elsewhere (B : List Block) (s : State) (c : Chan) (h0 : Block.sys ∈ B) (h1 : Block.fc ∈ B) (h2 : Block.llk ∈ B) (h3 : Block.hly ∈ B) (h4 : Block.adc ∈ B) : regsOff B (State.aiInputs s c).1.regs = regsOff B s.regs := by
  unfold State.aiInputs
  simp [h0, h1, h2, h3, h4]

@[simp] theorem State.showSingle_elsewhere (B : List Block) (s : State) (n : Nat) (h0 : Block.net ∈ B) : regsOff B (State.showSingle s n).regs = regsOff B s.regs := by
  unfold State.showSingle
  simp [h0]

@[simp] theorem State.setSes_elsewhere (B : List Block) (s : State) (n st : Nat) (h0 : Block.net ∈ B) : regsOff B (State.setSes s n st).regs = regsOff B s.regs := by
  unfold State.setSes
  simp [h0]

@[simp] theorem State.updSes_elsewhere (B : List Block) (s : State) (n : Nat) (f : SesSt → SesSt)  : regsOff B (State.updSes s n f).regs = regsOff B s.regs := by
  unfold State.updSes
  with_reducible rfl

@[simp] theorem State.runSes_elsewhere (B : List Block) (s : State) (n : Nat) (h0 : Block.net ∈ B) : regsOff B (State.runSes s n).regs = regsOff B s.regs := by
  unfold State.runSes
  simp [h0]

@[simp] theorem State.deliver_elsewhere (B : List Block) (s : State) (n : Nat) (p : Net) (c : Slot) (restart : Bool) (h0 : Block.net ∈ B) (h1 : Block.llk ∈ B) (h2 : Block.hly ∈ B) : regsOff B (State.deliver s n p c restart).regs = regsOff B s.regs := by
  unfold State.deliver
  simp [h0, h1, h2]

@[simp] theorem State.failSes_elsewhere (B : List Block) (s : State) (n line : Nat) (h0 : Block.sys ∈ B) (h1 : Block.fc ∈ B) (h2 : Block.net ∈ B) (h3 : Block.llk ∈ B) (h4 : Block.hly ∈ B) : regsOff B (State.failSes s n line).regs = regsOff B s.regs := by
  unfold State.failSes
  simp [h0, h1, h2, h3, h4]

@[simp] theorem pathFld_blk (p : Net) : (pathFld p).blk = .net := by cases p <;> decide

@[simp] theorem State.setPath_elsewhere (B : List Block) (s : State) (n : Nat) (p : Net) (up : Bool) (h0 : Block.net ∈ B) (h1 : Block.hly ∈ B) : regsOff B (State.setPath s n p up).regs = regsOff B s.regs := by
  unfold State.setPath
  simp [h0, h1]

@[simp] theorem State.twin_elsewhere (B : List Block) (s : State) (n : Nat) (w : OpenWin) (f : GoaFrame) (h0 : Block.sys ∈ B) (h1 : Block.fc ∈ B) (h2 : Block.net ∈ B) (h3 : Block.llk ∈ B) (h4 : Block.hly ∈ B) : regsOff B (State.twin s n w f).regs = regsOff B s.regs := by
  unfold State.twin
  simp [h0, h1, h2, h3, h4]

@[simp] theorem State.processCopy_elsewhere (B : List Block) (s : State) (n : Nat) (p : Net) (c : Slot) (h0 : Block.sys ∈ B) (h1 : Block.fc ∈ B) (h2 : Block.net ∈ B) (h3 : Block.llk ∈ B) (h4 : Block.hly ∈ B) : regsOff B (State.processCopy s n p c).regs = regsOff B s.regs := by
  unfold State.processCopy
  (try dsimp only)
  repeat' (first | with_reducible rfl | (simp [h0, h1, h2, h3, h4]; done) | split)

@[simp] theorem State.deliverAll_elsewhere (B : List Block) (s : State) (h0 : Block.sys ∈ B) (h1 : Block.fc ∈ B) (h2 : Block.net ∈ B) (h3 : Block.llk ∈ B) (h4 : Block.hly ∈ B) : regsOff B (State.deliverAll s).regs = regsOff B s.regs := by
  unfold State.deliverAll
  generalize (s.get SYS_GCOUNT_COUNT + 2 ^ 32 - 1) % 2 ^ 32 = k
  exact State.foldl_elsewhere B _ _ _ fun x n => State.foldl_elsewhere B _ _ _ fun y c => by simp [*]

@[simp] theorem State.formGroups_elsewhere (B : List Block) (s : State) (sf : Option Nat) (h0 : Block.sys ∈ B) (h1 : Block.fc ∈ B) (h2 : Block.llk ∈ B) (h3 : Block.hly ∈ B) : regsOff B (State.formGroups s sf).regs = regsOff B s.regs := by
  unfold State.formGroups
  simp [h0, h1, h2, h3]

@[simp] theorem State.updGraph_elsewhere (B : List Block) (s : State) (c : Chan) (f : GraphSt → GraphSt)  : regsOff B (State.updGraph s c f).regs = regsOff B s.regs := by
  unfold State.updGraph
  with_reducible rfl

@[simp] theorem State.freeze_elsewhere (B : List Block) (s : State) (t : Nat) (h0 : Block.sys ∈ B) (h1 : Block.fc ∈ B) (h2 : Block.net ∈ B) (h3 : Block.llk ∈ B) (h4 : Block.hly ∈ B) : regsOff B (State.freeze s t).regs = regsOff B s.regs := by
  unfold State.freeze
  simp [h0, h1, h2, h3, h4]

@[simp] theorem State.setInputs_elsewhere (B : List Block) (s : State) (app : BitVec 64) (aiA aiB : List (Nat × Int))  : regsOff B (State.setInputs s app aiA aiB).regs = regsOff B s.regs := by
  unfold State.setInputs
  simp

@[simp] theorem State.showHostImage_elsewhere (B : List Block) (s : State) (h0 : Block.hly ∈ B) : regsOff B (State.showHostImage s).regs = regsOff B s.regs := by
  unfold State.showHostImage
  simp [h0]

@[simp] theorem State.clearEdm_elsewhere (B : List Block) (s : State) (c : Chan)  : regsOff B (State.clearEdm s c).regs = regsOff B s.regs := by
  unfold State.clearEdm
  simp

@[simp] theorem State.mzResp_elsewhere (B : List Block) (s : State) (cmd result : Nat) (h0 : Block.mzw ∈ B) : regsOff B (State.mzResp s cmd result).regs = regsOff B s.regs := by
  unfold State.mzResp
  simp [h0]

@[simp] theorem State.mzSend_elsewhere (B : List Block) (s : State) (cmd arg : Nat) (h0 : Block.mzw ∈ B) : regsOff B (State.mzSend s cmd arg).regs = regsOff B s.regs := by
  unfold State.mzSend
  simp [h0]

@[simp] theorem State.lotCut_elsewhere (B : List Block) (s : State) (id : Int) (h0 : Block.mzw ∈ B) : regsOff B (State.lotCut s id).regs = regsOff B s.regs := by
  unfold State.lotCut
  simp [h0]

@[simp] theorem State.copySummary_elsewhere (B : List Block) (s : State)  : regsOff B (State.copySummary s).regs = regsOff B s.regs := by
  unfold State.copySummary
  simp

@[simp] theorem State.startRun_elsewhere (B : List Block) (s : State) (k : RunKind) (h0 : Block.bst ∈ B) : regsOff B (State.startRun s k).regs = regsOff B s.regs := by
  unfold State.startRun
  simp [h0]

@[simp] theorem State.shutdownRequest_elsewhere (B : List Block) (s : State) (h0 : Block.sys ∈ B) (h1 : Block.fc ∈ B) (h2 : Block.sout ∈ B) (h3 : Block.llk ∈ B) (h4 : Block.hly ∈ B) (h5 : Block.bst ∈ B) : regsOff B (State.shutdownRequest s).regs = regsOff B s.regs := by
  unfold State.shutdownRequest
  simp [h0, h1, h2, h3, h4, h5]

@[simp] theorem State.edges_elsewhere (B : List Block) (s : State) (c : Chan) (h0 : Block.sys ∈ B) (h1 : Block.fc ∈ B) (h2 : Block.sout ∈ B) (h3 : Block.llk ∈ B) (h4 : Block.hly ∈ B) (h5 : Block.mzw ∈ B) (h6 : Block.bst ∈ B) : regsOff B (State.edges s c).regs = regsOff B s.regs := by
  unfold State.edges
  simp [h0, h1, h2, h3, h4, h5, h6]

@[simp] theorem State.oweOutput_elsewhere (B : List Block) (s : State) (n : Nat)  : regsOff B (State.oweOutput s n).regs = regsOff B s.regs := by
  unfold State.oweOutput
  simp

@[simp] theorem State.owePulses_elsewhere (B : List Block) (s : State) (n : Nat)  : regsOff B (State.owePulses s n).regs = regsOff B s.regs := by
  unfold State.owePulses
  simp

@[simp] theorem State.clearElem_elsewhere (B : List Block) (s : State) (line : Nat) (e : Elem) (h0 : Block.lc ∈ B) (h1 : Block.sin ∈ B) (h2 : Block.sout ∈ B) : regsOff B (State.clearElem s line e).regs = regsOff B s.regs := by
  unfold State.clearElem
  (try dsimp only)
  repeat' (first | with_reducible rfl | (simp [h0, h1, h2]; done) | split)

@[simp] theorem State.dropCleared_elsewhere (B : List Block) (s : State) (f : SfFault) (h0 : Block.fc ∈ B) (h1 : Block.lc ∈ B) (h2 : Block.sin ∈ B) (h3 : Block.sout ∈ B) : regsOff B (State.dropCleared s f).regs = regsOff B s.regs := by
  unfold State.dropCleared
  simp [h0, h1, h2, h3]

@[simp] theorem State.chargeReceived_elsewhere (B : List Block) (s : State) (c : Chan)  : regsOff B (State.chargeReceived s c).regs = regsOff B s.regs := by
  unfold State.chargeReceived
  dsimp only
  exact (State.foldl_elsewhere B _ _ _ fun u l => State.foldl_elsewhere B _ _ _ fun v n => State.updGraph_elsewhere B v c _).trans (State.updFc_elsewhere B s c _)

@[simp] theorem State.pressOn_elsewhere (B : List Block) (s : State) (c : Chan) (e : Ev) (g : Nat)  : regsOff B (State.pressOn s c e g).regs = regsOff B s.regs := by
  unfold State.pressOn
  simp

@[simp] theorem State.showInsts_elsewhere (B : List Block) (s : State) (c : Chan) (insts : Tab InstSt) (h0 : Block.lge ∈ B) : regsOff B (State.showInsts s c insts).regs = regsOff B s.regs := by
  unfold State.showInsts
  simp [h0]

@[simp] theorem State.showSf_elsewhere (B : List Block) (s : State) (c : Chan) (h0 : Block.fc ∈ B) (h1 : Block.lge ∈ B) : regsOff B (State.showSf s c).regs = regsOff B s.regs := by
  unfold State.showSf
  simp [h0, h1]

@[simp] theorem State.showSignals_elsewhere (B : List Block) (s : State) (c : Chan) (old new : Tab Int) (h0 : Block.lge ∈ B) : regsOff B (State.showSignals s c old new).regs = regsOff B s.regs := by
  unfold State.showSignals
  simp [h0]

@[simp] theorem State.evalChannel_elsewhere (B : List Block) (s : State) (c : Chan) (h0 : Block.sys ∈ B) (h1 : Block.fc ∈ B) (h2 : Block.lge ∈ B) (h3 : Block.llk ∈ B) (h4 : Block.hly ∈ B) : regsOff B (State.evalChannel s c).regs = regsOff B s.regs := by
  unfold State.evalChannel
  simp [h0, h1, h2, h3, h4]

@[simp] theorem State.evalMax_elsewhere (B : List Block) (s : State) (c : Chan) (us : Nat) (h0 : Block.sys ∈ B) : regsOff B (State.evalMax s c us).regs = regsOff B s.regs := by
  unfold State.evalMax
  cases c <;> simp [h0]

@[simp] theorem State.evalAll_elsewhere (B : List Block) (s : State) (run : List Chan) (us : Chan → Nat) (h0 : Block.sys ∈ B) (h1 : Block.fc ∈ B) (h2 : Block.lc ∈ B) (h3 : Block.sin ∈ B) (h4 : Block.sout ∈ B) (h5 : Block.lge ∈ B) (h6 : Block.llk ∈ B) (h7 : Block.hly ∈ B) : regsOff B (State.evalAll s run us).regs = regsOff B s.regs := by
  unfold State.evalAll
  simp [h0, h1, h2, h3, h4, h5, h6, h7]

@[simp] theorem State.raiseBlocks_elsewhere (B : List Block) (s : State) (old new : List (Nat × Nat)) (h0 : Block.sys ∈ B) (h1 : Block.fc ∈ B) (h2 : Block.llk ∈ B) (h3 : Block.hly ∈ B) : regsOff B (State.raiseBlocks s old new).regs = regsOff B s.regs := by
  unfold State.raiseBlocks
  simp [h0, h1, h2, h3]

@[simp] theorem State.sendSes_elsewhere (B : List Block) (s : State) (n : Nat) (w : TxWords)  : regsOff B (State.sendSes s n w).regs = regsOff B s.regs := by
  unfold State.sendSes
  simp

@[simp] theorem State.dmaErr_elsewhere (B : List Block) (s : State) (h0 : Block.hly ∈ B) : regsOff B (State.dmaErr s).regs = regsOff B s.regs := by
  unfold State.dmaErr
  simp [h0]

@[simp] theorem State.updHly_elsewhere (B : List Block) (s : State) (f : HlySt → HlySt)  : regsOff B (State.updHly s f).regs = regsOff B s.regs := by
  unfold State.updHly
  with_reducible rfl

@[simp] theorem State.updVec_elsewhere (B : List Block) (s : State) (v : Nat) (f : VecSt → VecSt)  : regsOff B (State.updVec s v f).regs = regsOff B s.regs := by
  unfold State.updVec
  simp

@[simp] theorem State.sendVector_elsewhere (B : List Block) (s : State) (v : Nat)  : regsOff B (State.sendVector s v).regs = regsOff B s.regs := by
  unfold State.sendVector
  simp

@[simp] theorem State.raiseRing_elsewhere (B : List Block) (s : State) (n : Nat)  : regsOff B (State.raiseRing s n).regs = regsOff B s.regs := by
  unfold State.raiseRing
  (try dsimp only)
  repeat' (first | with_reducible rfl | (simp; done) | split)

@[simp] theorem State.hlyEvent_elsewhere (B : List Block) (s : State) (kind x y : Nat) (h0 : Block.hly ∈ B) : regsOff B (State.hlyEvent s kind x y).regs = regsOff B s.regs := by
  unfold State.hlyEvent
  simp [h0]

@[simp] theorem State.updRing_elsewhere (B : List Block) (s : State) (n : Nat) (f : RingSt → RingSt)  : regsOff B (State.updRing s n f).regs = regsOff B s.regs := by
  unfold State.updRing
  simp

@[simp] theorem State.ringError_elsewhere (B : List Block) (s : State) (n cause : Nat) (h0 : Block.hly ∈ B) : regsOff B (State.ringError s n cause).regs = regsOff B s.regs := by
  unfold State.ringError
  simp [h0]

@[simp] theorem State.capture_elsewhere (B : List Block) (s : State) (u : Unit3) (t : Nat) (stamp : Option Nat) (h0 : Block.tim ∈ B) : regsOff B (State.capture s u t stamp).regs = regsOff B s.regs := by
  unfold State.capture
  (try dsimp only)
  repeat' (first | with_reducible rfl | (simp [h0]; done) | split)

@[simp] theorem State.updTim_elsewhere (B : List Block) (s : State) (u : Unit3) (f : TimSt → TimSt)  : regsOff B (State.updTim s u f).regs = regsOff B s.regs := by
  unfold State.updTim
  with_reducible rfl

@[simp] theorem State.fireCompare_elsewhere (B : List Block) (s : State) (u : Unit3) (late : Bool) (n : Nat) (h0 : Block.tim ∈ B) : regsOff B (State.fireCompare s u late n).regs = regsOff B s.regs := by
  unfold State.fireCompare
  simp [h0]

@[simp] theorem State.tickTimer_elsewhere (B : List Block) (s : State) (u : Unit3) (late : Bool) (t n : Nat) (h0 : Block.tim ∈ B) : regsOff B (State.tickTimer s u late t n).1.regs = regsOff B s.regs := by
  unfold State.tickTimer
  (try dsimp only)
  repeat' (first | with_reducible rfl | (simp [h0]; done) | split)

@[simp] theorem State.passTimer_elsewhere (B : List Block) (s : State) (u : Unit3) (late : Bool) (t n : Nat) (es : Tab TimEvents) (h0 : Block.tim ∈ B) : regsOff B (State.passTimer s u late t n es).1.regs = regsOff B s.regs := by
  unfold State.passTimer
  (try dsimp only)
  repeat' (first | with_reducible rfl | (simp [h0]; done) | split)

@[simp] theorem State.passBlock_elsewhere (B : List Block) (s : State) (u : Unit3) (late : Bool) (ticks : Nat → Nat) (h0 : Block.tim ∈ B) : regsOff B (State.passBlock s u late ticks).regs = regsOff B s.regs := by
  unfold State.passBlock
  simp [h0]

@[simp] theorem State.advance_elsewhere (B : List Block) (s : State) (u : Unit3) (h0 : Block.tim ∈ B) : regsOff B (State.advance s u).regs = regsOff B s.regs := by
  unfold State.advance
  simp [h0]

@[simp] theorem State.camCapture_elsewhere (B : List Block) (s : State) (c : Chan) (t : Nat) (h0 : Block.tim ∈ B) : regsOff B (State.camCapture s c t).regs = regsOff B s.regs := by
  unfold State.camCapture
  simp [h0]

@[simp] theorem State.updAdc_elsewhere (B : List Block) (s : State) (k : Nat) (f : AdcSt → AdcSt)  : regsOff B (State.updAdc s k f).regs = regsOff B s.regs := by
  unfold State.updAdc
  with_reducible rfl

@[simp] theorem State.adcNext.regular_elsewhere (B : List Block) (k : Nat) (s : State) (a : AdcSt) : regsOff B (State.adcNext.regular k s a).regs = regsOff B s.regs := by
  unfold State.adcNext.regular
  dsimp only
  repeat' (first | with_reducible rfl | (simp; done) | split)

@[simp] theorem State.adcNext_elsewhere (B : List Block) (s : State) (k : Nat) (h0 : Block.adc ∈ B) : regsOff B (State.adcNext s k).regs = regsOff B s.regs := by
  unfold State.adcNext
  (try dsimp only)
  repeat' (first | with_reducible rfl | (simp [h0]; done) | split)

@[simp] theorem State.inject_elsewhere (B : List Block) (s : State) (k n : Nat) (h0 : Block.adc ∈ B) : regsOff B (State.inject s k n).regs = regsOff B s.regs := by
  unfold State.inject
  simp [h0]

@[simp] theorem State.camInject_elsewhere (B : List Block) (s : State) (c : Chan) (target : Nat) (h0 : Block.adc ∈ B) : regsOff B (State.camInject s c target).regs = regsOff B s.regs := by
  unfold State.camInject
  simp [h0]

@[simp] theorem State.recCam_elsewhere (B : List Block) (s : State) (c : Chan) (n act dir : Nat) (h0 : Block.llk ∈ B) : regsOff B (State.recCam s c n act dir).regs = regsOff B s.regs := by
  unfold State.recCam
  simp [h0]

@[simp] theorem State.fireCam_elsewhere (B : List Block) (s : State) (c : Chan) (n dir : Nat) (h0 : Block.llk ∈ B) (h1 : Block.adc ∈ B) (h2 : Block.tim ∈ B) : regsOff B (State.fireCam s c n dir).regs = regsOff B s.regs := by
  unfold State.fireCam
  simp [h0, h1, h2]

@[simp] theorem State.updAe_elsewhere (B : List Block) (s : State) (c : Chan) (f : AeSt → AeSt)  : regsOff B (State.updAe s c f).regs = regsOff B s.regs := by
  unfold State.updAe
  with_reducible rfl

@[simp] theorem State.updPt_elsewhere (B : List Block) (s : State) (c : Chan) (n : Nat) (f : PtSt → PtSt)  : regsOff B (State.updPt s c n f).regs = regsOff B s.regs := by
  unfold State.updPt
  simp

@[simp] theorem State.firePredicted_elsewhere (B : List Block) (s : State) (c : Chan) (n : Nat) (h0 : Block.llk ∈ B) (h1 : Block.adc ∈ B) (h2 : Block.tim ∈ B) : regsOff B (State.firePredicted s c n).regs = regsOff B s.regs := by
  unfold State.firePredicted
  (try dsimp only)
  repeat' (first | with_reducible rfl | (simp [h0, h1, h2]; done) | split)

@[simp] theorem State.judgePoint_elsewhere (B : List Block) (s : State) (c : Chan) (n : Nat) (x : PtSt) (cr : Option (Nat × Int)) (h0 : Block.lc ∈ B) (h1 : Block.llk ∈ B) (h2 : Block.adc ∈ B) (h3 : Block.tim ∈ B) : regsOff B (State.judgePoint s c n x cr).regs = regsOff B s.regs := by
  unfold State.judgePoint
  (try dsimp only)
  repeat' (first | with_reducible rfl | (simp [h0, h1, h2, h3]; done) | split)

@[simp] theorem State.predict_elsewhere (B : List Block) (s : State) (c : Chan) (n : Nat)  : regsOff B (State.predict s c n).regs = regsOff B s.regs := by
  unfold State.predict
  simp

@[simp] theorem State.eventPoint_elsewhere (B : List Block) (s : State) (c : Chan) (p : Int) (n : Nat) (h0 : Block.lc ∈ B) (h1 : Block.llk ∈ B) (h2 : Block.adc ∈ B) (h3 : Block.tim ∈ B) : regsOff B (State.eventPoint s c p n).regs = regsOff B s.regs := by
  unfold State.eventPoint
  simp [h0, h1, h2, h3]

@[simp] theorem State.events_elsewhere (B : List Block) (s : State) (c : Chan) (p : Int) (jumped wasFar : Bool) (h0 : Block.lc ∈ B) (h1 : Block.llk ∈ B) (h2 : Block.adc ∈ B) (h3 : Block.tim ∈ B) : regsOff B (State.events s c p jumped wasFar).regs = regsOff B s.regs := by
  unfold State.events
  simp [h0, h1, h2, h3]

@[simp] theorem State.takeFar_elsewhere (B : List Block) (s : State) (c : Chan) (h0 : Block.lc ∈ B) : regsOff B (State.takeFar s c).regs = regsOff B s.regs := by
  unfold State.takeFar
  simp [h0]

@[simp] theorem State.takeOrigin_elsewhere (B : List Block) (s : State) (c : Chan) (h0 : Block.lc ∈ B) : regsOff B (State.takeOrigin s c).1.regs = regsOff B s.regs := by
  unfold State.takeOrigin
  (try dsimp only)
  repeat' (first | with_reducible rfl | (simp [h0]; done) | split)

@[simp] theorem State.windows_elsewhere (B : List Block) (s : State) (c : Chan) (h0 : Block.lc ∈ B) (h1 : Block.llk ∈ B) : regsOff B (State.windows s c).regs = regsOff B s.regs := by
  unfold State.windows
  simp [h0, h1]

@[simp] theorem State.cams_elsewhere (B : List Block) (s : State) (c : Chan) (p : Int) (h0 : Block.lc ∈ B) (h1 : Block.llk ∈ B) (h2 : Block.adc ∈ B) (h3 : Block.tim ∈ B) : regsOff B (State.cams s c p).regs = regsOff B s.regs := by
  unfold State.cams
  simp [h0, h1, h2, h3]

@[simp] theorem State.updEnc_elsewhere (B : List Block) (s : State) (c : Chan) (n : Nat) (f : EncSt → EncSt)  : regsOff B (State.updEnc s c n f).regs = regsOff B s.regs := by
  unfold State.updEnc
  simp

@[simp] theorem State.setSrc_elsewhere (B : List Block) (s : State) (c : Chan) (n : Nat) (p : Int)  : regsOff B (State.setSrc s c n p).regs = regsOff B s.regs := by
  unfold State.setSrc
  simp

@[simp] theorem State.alignSec_elsewhere (B : List Block) (s : State) (c : Chan)  : regsOff B (State.alignSec s c).regs = regsOff B s.regs := by
  unfold State.alignSec
  simp

@[simp] theorem State.shiftSteps_elsewhere (B : List Block) (s : State) (u : Unit3) (d : Int)  : regsOff B (State.shiftSteps s u d).regs = regsOff B s.regs := by
  unfold State.shiftSteps
  simp

@[simp] theorem State.rebase_elsewhere (B : List Block) (s : State) (c : Chan) (p : Int)  : regsOff B (State.rebase s c p).regs = regsOff B s.regs := by
  unfold State.rebase
  (try dsimp only)
  repeat' (first | with_reducible rfl | (simp; done) | split)

@[simp] theorem State.enterLinear_elsewhere (B : List Block) (s : State) (c : Chan)  : regsOff B (State.enterLinear s c).regs = regsOff B s.regs := by
  unfold State.enterLinear
  simp

@[simp] theorem State.advanceState_elsewhere (B : List Block) (s : State) (c : Chan) (h0 : Block.lc ∈ B) : regsOff B (State.advanceState s c).regs = regsOff B s.regs := by
  unfold State.advanceState
  simp [h0]

@[simp] theorem State.compareSources_elsewhere (B : List Block) (s : State) (c : Chan) (h0 : Block.lc ∈ B) : regsOff B (State.compareSources s c).regs = regsOff B s.regs := by
  unfold State.compareSources
  simp [h0]

@[simp] theorem State.take_elsewhere (B : List Block) (s : State) (i : Initiator) (m : LatchMap)  : regsOff B (State.take s i m).regs = regsOff B s.regs := by
  unfold State.take
  with_reducible rfl

@[simp] theorem State.motion_elsewhere (B : List Block) (s : State) (c : Chan) (h0 : Block.lc ∈ B) : regsOff B (State.motion s c).regs = regsOff B s.regs := by
  unfold State.motion
  simp [h0]

@[simp] theorem State.checkRef_elsewhere (B : List Block) (s : State) (c : Chan) (n : Nat) (k : Int) (h0 : Block.lc ∈ B) : regsOff B (State.checkRef s c n k).regs = regsOff B s.regs := by
  unfold State.checkRef
  (try dsimp only)
  repeat' (first | with_reducible rfl | (simp [h0]; done) | split)

@[simp] theorem State.reference_elsewhere (B : List Block) (s : State) (c : Chan) (k : Int) (h0 : Block.lc ∈ B) : regsOff B (State.reference s c k).regs = regsOff B s.regs := by
  unfold State.reference
  simp [h0]

@[simp] theorem State.references_elsewhere (B : List Block) (s : State) (c : Chan) (h0 : Block.lc ∈ B) : regsOff B (State.references s c).regs = regsOff B s.regs := by
  unfold State.references
  (try dsimp only)
  repeat' (first | with_reducible rfl | (simp [h0]; done) | split)

@[simp] theorem State.showPos_elsewhere (B : List Block) (s : State) (c : Chan) (h0 : Block.lc ∈ B) : regsOff B (State.showPos s c).regs = regsOff B s.regs := by
  unfold State.showPos
  simp [h0]

@[simp] theorem State.showSources_elsewhere (B : List Block) (s : State) (c : Chan) (bad : BitVec 4) (h0 : Block.lc ∈ B) : regsOff B (State.showSources s c bad).regs = regsOff B s.regs := by
  unfold State.showSources
  simp [h0]

@[simp] theorem State.takePos_elsewhere (B : List Block) (s : State) (c : Chan)  : regsOff B (State.takePos s c).regs = regsOff B s.regs := by
  unfold State.takePos
  simp

@[simp] theorem State.coordinate_elsewhere (B : List Block) (s : State) (c : Chan) (bad : BitVec 4) (h0 : Block.lc ∈ B) : regsOff B (State.coordinate s c bad).1.regs = regsOff B s.regs := by
  unfold State.coordinate
  simp [h0]

@[simp] theorem State.displacements_elsewhere (B : List Block) (s : State) (c : Chan)  : regsOff B (State.displacements s c).regs = regsOff B s.regs := by
  unfold State.displacements
  simp

@[simp] theorem State.recStop_elsewhere (B : List Block) (s : State) (cause : Nat) (st : StopSt) (h0 : Block.llk ∈ B) : regsOff B (State.recStop s cause st).regs = regsOff B s.regs := by
  unfold State.recStop
  simp [h0]

@[simp] theorem State.updNet_elsewhere (B : List Block) (s : State) (n : Net) (f : NetSt → NetSt)  : regsOff B (State.updNet s n f).regs = regsOff B s.regs := by
  unfold State.updNet
  with_reducible rfl

@[simp] theorem State.latchT0_elsewhere (B : List Block) (s : State) (c : Chan) (h0 : Block.dsf ∈ B) (h1 : Block.llk ∈ B) : regsOff B (State.latchT0 s c).regs = regsOff B s.regs := by
  unfold State.latchT0
  simp [h0, h1]

@[simp] theorem State.master_elsewhere (B : List Block) (s : State) (c : Chan) (h0 : Block.lc ∈ B) : regsOff B (State.master s c).regs = regsOff B s.regs := by
  unfold State.master
  (try dsimp only)
  repeat' (first | with_reducible rfl | (simp [h0]; done) | split)

@[simp] theorem State.updStops_elsewhere (B : List Block) (s : State) (f : StopSt → StopSt)  : regsOff B (State.updStops s f).regs = regsOff B s.regs := by
  unfold State.updStops
  exact State.foldl_elsewhere B _ _ _ fun u c => State.updStop_elsewhere B u c f

@[simp] theorem State.furlBy_elsewhere (B : List Block) (s : State) (cause : Nat)  : regsOff B (State.furlBy s cause).regs = regsOff B s.regs := by
  unfold State.furlBy
  simp

@[simp] theorem State.furlExpire_elsewhere (B : List Block) (s : State) (c : Chan) (h0 : Block.sout ∈ B) (h1 : Block.dsf ∈ B) (h2 : Block.llk ∈ B) : regsOff B (State.furlExpire s c).regs = regsOff B s.regs := by
  unfold State.furlExpire
  simp [h0, h1, h2]

@[simp] theorem State.monitor_elsewhere (B : List Block) (s : State) (c : Chan) (h0 : Block.sys ∈ B) (h1 : Block.fc ∈ B) (h2 : Block.sout ∈ B) (h3 : Block.dsf ∈ B) (h4 : Block.llk ∈ B) (h5 : Block.hly ∈ B) : regsOff B (State.monitor s c).regs = regsOff B s.regs := by
  unfold State.monitor
  simp [h0, h1, h2, h3, h4, h5]

@[simp] theorem State.startUpdate_elsewhere (B : List Block) (s : State) (c : Chan) (t : Nat) (h0 : Block.lc ∈ B) : regsOff B (State.startUpdate s c t).regs = regsOff B s.regs := by
  unfold State.startUpdate
  simp [h0]

@[simp] theorem State.lineSteps_elsewhere (B : List Block) (s : State) (u : Unit3) (old new : Int) (h0 : Block.tim ∈ B) : regsOff B (State.lineSteps s u old new).regs = regsOff B s.regs := by
  unfold State.lineSteps
  simp [h0]

@[simp] theorem State.stepTimers_elsewhere (B : List Block) (s : State) (c : Chan) (p : Int) (h0 : Block.tim ∈ B) : regsOff B (State.stepTimers s c p).regs = regsOff B s.regs := by
  unfold State.stepTimers
  (try dsimp only)
  repeat' (first | with_reducible rfl | (simp [h0]; done) | split)

@[simp] theorem State.lose_elsewhere (B : List Block) (s : State) (c : Chan) (h0 : Block.lc ∈ B) : regsOff B (State.lose s c).regs = regsOff B s.regs := by
  unfold State.lose
  simp [h0]

@[simp] theorem State.bothSourcesFault_elsewhere (B : List Block) (s : State) (n : Nat) (h0 : Block.sys ∈ B) (h1 : Block.fc ∈ B) (h2 : Block.lc ∈ B) (h3 : Block.sout ∈ B) (h4 : Block.dsf ∈ B) (h5 : Block.lks ∈ B) (h6 : Block.llk ∈ B) (h7 : Block.hly ∈ B) : regsOff B (State.bothSourcesFault s n).regs = regsOff B s.regs := by
  unfold State.bothSourcesFault
  simp [h0, h1, h2, h3, h4, h5, h6, h7]

@[simp] theorem State.coordFault_elsewhere (B : List Block) (s : State) (c : Chan) (line detail : Nat) (h0 : Block.sys ∈ B) (h1 : Block.fc ∈ B) (h2 : Block.sout ∈ B) (h3 : Block.dsf ∈ B) (h4 : Block.lks ∈ B) (h5 : Block.llk ∈ B) (h6 : Block.hly ∈ B) : regsOff B (State.coordFault s c line detail).regs = regsOff B s.regs := by
  unfold State.coordFault
  simp [h0, h1, h2, h3, h4, h5, h6]

@[simp] theorem State.sourceClass1_elsewhere (B : List Block) (s : State) (c : Chan) (n : Nat) (h0 : Block.sys ∈ B) (h1 : Block.fc ∈ B) (h2 : Block.lc ∈ B) (h3 : Block.sout ∈ B) (h4 : Block.dsf ∈ B) (h5 : Block.lks ∈ B) (h6 : Block.llk ∈ B) (h7 : Block.hly ∈ B) : regsOff B (State.sourceClass1 s c n).regs = regsOff B s.regs := by
  unfold State.sourceClass1
  simp [h0, h1, h2, h3, h4, h5, h6, h7]

@[simp] theorem State.police_elsewhere (B : List Block) (s : State) (n : Net) (act : State → State) (h0 : Block.net ∈ B) (hf : ∀ x, regsOff B (act x).regs = regsOff B x.regs) : regsOff B (State.police s n act).regs = regsOff B s.regs := by
  unfold State.police
  simp [h0, hf]

@[simp] theorem State.updSrc_elsewhere (B : List Block) (s : State) (n : Nat) (f : SrcSt → SrcSt)  : regsOff B (State.updSrc s n f).regs = regsOff B s.regs := by
  unfold State.updSrc
  with_reducible rfl

@[simp] theorem State.stuckPin_elsewhere (B : List Block) (s : State) (die : Chan) (pin : Nat) (h0 : Block.sys ∈ B) (h1 : Block.fc ∈ B) (h2 : Block.sin ∈ B) (h3 : Block.sout ∈ B) (h4 : Block.dsf ∈ B) (h5 : Block.lks ∈ B) (h6 : Block.llk ∈ B) (h7 : Block.hly ∈ B) : regsOff B (State.stuckPin s die pin).regs = regsOff B s.regs := by
  unfold State.stuckPin
  (try dsimp only)
  repeat' (first | with_reducible rfl | (simp [h0, h1, h2, h3, h4, h5, h6, h7]; done) | split)

@[simp] theorem State.judgeWidth_elsewhere (B : List Block) (s : State) (a b : PulseObs) (pin : Nat) (h0 : Block.sys ∈ B) (h1 : Block.fc ∈ B) (h2 : Block.sin ∈ B) (h3 : Block.sout ∈ B) (h4 : Block.dsf ∈ B) (h5 : Block.lks ∈ B) (h6 : Block.llk ∈ B) (h7 : Block.hly ∈ B) : regsOff B (State.judgeWidth s a b pin).regs = regsOff B s.regs := by
  unfold State.judgeWidth
  (try dsimp only)
  repeat' (first | with_reducible rfl | (simp [h0, h1, h2, h3, h4, h5, h6, h7]; done) | split)

@[simp] theorem State.sourceFault_elsewhere (B : List Block) (s : State) (k : Nat) (h0 : Block.sys ∈ B) (h1 : Block.fc ∈ B) (h2 : Block.sin ∈ B) (h3 : Block.llk ∈ B) (h4 : Block.hly ∈ B) : regsOff B (State.sourceFault s k).regs = regsOff B s.regs := by
  unfold State.sourceFault
  simp [h0, h1, h2, h3, h4]

@[simp] theorem State.judgeSettle_elsewhere (B : List Block) (s : State) (high : BitVec 48) (pin : Nat) (h0 : Block.sys ∈ B) (h1 : Block.fc ∈ B) (h2 : Block.sin ∈ B) (h3 : Block.llk ∈ B) (h4 : Block.hly ∈ B) : regsOff B (State.judgeSettle s high pin).regs = regsOff B s.regs := by
  unfold State.judgeSettle
  (try dsimp only)
  repeat' (first | with_reducible rfl | (simp [h0, h1, h2, h3, h4]; done) | split)

@[simp] theorem State.showFk_elsewhere (B : List Block) (s : State) (h0 : Block.sin ∈ B) : regsOff B (State.showFk s).regs = regsOff B s.regs := by
  unfold State.showFk
  simp [h0]

@[simp] theorem State.updTest_elsewhere (B : List Block) (s : State) (key : Nat) (f : TestSt → TestSt)  : regsOff B (State.updTest s key f).regs = regsOff B s.regs := by
  unfold State.updTest
  with_reducible rfl

@[simp] theorem State.keepTemps_elsewhere (B : List Block) (s : State) (k : Nat)  : regsOff B (State.keepTemps s k).regs = regsOff B s.regs := by
  unfold State.keepTemps
  simp

@[simp] theorem State.noteRon_elsewhere (B : List Block) (s : State) (n die r : Nat) (tj : Int) (h0 : Block.sys ∈ B) (h1 : Block.fc ∈ B) (h2 : Block.llk ∈ B) (h3 : Block.hly ∈ B) (h4 : Block.cnm ∈ B) : regsOff B (State.noteRon s n die r tj).regs = regsOff B s.regs := by
  unfold State.noteRon
  simp [h0, h1, h2, h3, h4]

@[simp] theorem State.measureRon_elsewhere (B : List Block) (s : State) (k : TestKind) (unit mvA mvB ma : Nat) (tjA tjB : Int) (h0 : Block.sys ∈ B) (h1 : Block.fc ∈ B) (h2 : Block.sout ∈ B) (h3 : Block.llk ∈ B) (h4 : Block.hly ∈ B) (h5 : Block.cnm ∈ B) : regsOff B (State.measureRon s k unit mvA mvB ma tjA tjB).regs = regsOff B s.regs := by
  unfold State.measureRon
  simp [h0, h1, h2, h3, h4, h5]

@[simp] theorem State.showPhase_elsewhere (B : List Block) (s : State) (k : TestKind) (unit v : Nat) (h0 : Block.sout ∈ B) : regsOff B (State.showPhase s k unit v).regs = regsOff B s.regs := by
  unfold State.showPhase
  simp [h0]

@[simp] theorem State.setVerify_elsewhere (B : List Block) (s : State) (v : Nat) (h0 : Block.sout ∈ B) : regsOff B (State.setVerify s v).regs = regsOff B s.regs := by
  unfold State.setVerify
  simp [h0]

@[simp] theorem State.applyVerify_elsewhere (B : List Block) (s : State) (h0 : Block.sout ∈ B) (h1 : Block.cnm ∈ B) : regsOff B (State.applyVerify s).regs = regsOff B s.regs := by
  unfold State.applyVerify
  simp [h0, h1]

@[simp] theorem State.endSlot_elsewhere (B : List Block) (s : State) (h0 : Block.sout ∈ B) (h1 : Block.cnm ∈ B) : regsOff B (State.endSlot s).regs = regsOff B s.regs := by
  unfold State.endSlot
  simp [h0, h1]

@[simp] theorem State.lsFault_elsewhere (B : List Block) (s : State) (k : Nat) (f : Fld) (h0 : Block.sys ∈ B) (h1 : Block.fc ∈ B) (h2 : Block.sout ∈ B) (h3 : Block.llk ∈ B) (h4 : Block.hly ∈ B) (hb : f.blk = .sout) : regsOff B (State.lsFault s k f).regs = regsOff B s.regs := by
  unfold State.lsFault
  simp [h0, h1, h2, h3, h4, hb]

@[simp] theorem State.attributeTo_elsewhere (B : List Block) (s : State) (die : Chan) (n : Nat) (h0 : Block.sys ∈ B) (h1 : Block.fc ∈ B) (h2 : Block.sin ∈ B) (h3 : Block.sout ∈ B) (h4 : Block.dsf ∈ B) (h5 : Block.lks ∈ B) (h6 : Block.llk ∈ B) (h7 : Block.hly ∈ B) : regsOff B (State.attributeTo s die n).regs = regsOff B s.regs := by
  unfold State.attributeTo
  (try dsimp only)
  repeat' (first | with_reducible rfl | (simp [h0, h1, h2, h3, h4, h5, h6, h7]; done) | split)

@[simp] theorem State.outFault_elsewhere (B : List Block) (s : State) (n line : Nat) (f : Fld) (die : Option Chan) (h0 : Block.sys ∈ B) (h1 : Block.fc ∈ B) (h2 : Block.sin ∈ B) (h3 : Block.sout ∈ B) (h4 : Block.dsf ∈ B) (h5 : Block.lks ∈ B) (h6 : Block.llk ∈ B) (h7 : Block.hly ∈ B) (hb : f.blk = .sout) : regsOff B (State.outFault s n line f die).regs = regsOff B s.regs := by
  unfold State.outFault
  (try dsimp only)
  repeat' (first | with_reducible rfl | (simp [h0, h1, h2, h3, h4, h5, h6, h7, hb]; done) | split)

@[simp] theorem State.stuckClosed_elsewhere (B : List Block) (s : State) (n : Nat) (c : Chan) (h0 : Block.sys ∈ B) (h1 : Block.fc ∈ B) (h2 : Block.sin ∈ B) (h3 : Block.sout ∈ B) (h4 : Block.dsf ∈ B) (h5 : Block.lks ∈ B) (h6 : Block.llk ∈ B) (h7 : Block.hly ∈ B) : regsOff B (State.stuckClosed s n c).regs = regsOff B s.regs := by
  unfold State.stuckClosed
  (try dsimp only)
  repeat' (first | with_reducible rfl | (simp [h0, h1, h2, h3, h4, h5, h6, h7]; done) | split)

@[simp] theorem State.applyWant_elsewhere (B : List Block) (s : State)  : regsOff B (State.applyWant s).regs = regsOff B s.regs := by
  unfold State.applyWant
  simp

@[simp] theorem State.testDone_elsewhere (B : List Block) (s : State) (k : TestKind) (n : Nat) (h0 : Block.sout ∈ B) (h1 : Block.llk ∈ B) : regsOff B (State.testDone s k n).regs = regsOff B s.regs := by
  unfold State.testDone
  simp [h0, h1]

@[simp] theorem State.failedOpen_elsewhere (B : List Block) (s : State) (n : Nat) (c : Chan) (h0 : Block.sys ∈ B) (h1 : Block.fc ∈ B) (h2 : Block.sin ∈ B) (h3 : Block.sout ∈ B) (h4 : Block.dsf ∈ B) (h5 : Block.lks ∈ B) (h6 : Block.llk ∈ B) (h7 : Block.hly ∈ B) : regsOff B (State.failedOpen s n c).regs = regsOff B s.regs := by
  unfold State.failedOpen
  (try dsimp only)
  repeat' (first | with_reducible rfl | (simp [h0, h1, h2, h3, h4, h5, h6, h7]; done) | split)

@[simp] theorem State.fedOutside_elsewhere (B : List Block) (s : State) (n : Nat) (h0 : Block.sys ∈ B) (h1 : Block.fc ∈ B) (h2 : Block.sin ∈ B) (h3 : Block.sout ∈ B) (h4 : Block.dsf ∈ B) (h5 : Block.lks ∈ B) (h6 : Block.llk ∈ B) (h7 : Block.hly ∈ B) : regsOff B (State.fedOutside s n).regs = regsOff B s.regs := by
  unfold State.fedOutside
  simp [h0, h1, h2, h3, h4, h5, h6, h7]

@[simp] theorem State.judgeLs_elsewhere (B : List Block) (s : State) (k : Nat) (o : TestObs) (h0 : Block.sys ∈ B) (h1 : Block.fc ∈ B) (h2 : Block.sout ∈ B) (h3 : Block.llk ∈ B) (h4 : Block.hly ∈ B) : regsOff B (State.judgeLs s k o).regs = regsOff B s.regs := by
  unfold State.judgeLs
  simp [h0, h1, h2, h3, h4]

@[simp] theorem State.judgeReadback_elsewhere (B : List Block) (s : State) (n : Nat) (o : TestObs) (limA limB : Bool) (h0 : Block.sys ∈ B) (h1 : Block.fc ∈ B) (h2 : Block.sin ∈ B) (h3 : Block.sout ∈ B) (h4 : Block.dsf ∈ B) (h5 : Block.lks ∈ B) (h6 : Block.llk ∈ B) (h7 : Block.hly ∈ B) : regsOff B (State.judgeReadback s n o limA limB).regs = regsOff B s.regs := by
  unfold State.judgeReadback
  simp [h0, h1, h2, h3, h4, h5, h6, h7]

@[simp] theorem State.answerClass2_elsewhere (B : List Block) (s : State) (o : Chan) (suspect : Bool)  : regsOff B (State.answerClass2 s o suspect).regs = regsOff B s.regs := by
  unfold State.answerClass2
  simp

@[simp] theorem State.setAge_elsewhere (B : List Block) (s : State) (h : Nat) (h0 : Block.fc ∈ B) : regsOff B (State.setAge s h).regs = regsOff B s.regs := by
  unfold State.setAge
  simp [h0]

@[simp] theorem State.mismatch_elsewhere (B : List Block) (s : State) (c : Chan) (h0 : Block.sys ∈ B) (h1 : Block.fc ∈ B) (h2 : Block.sout ∈ B) (h3 : Block.dsf ∈ B) (h4 : Block.lks ∈ B) (h5 : Block.llk ∈ B) (h6 : Block.hly ∈ B) : regsOff B (State.mismatch s c).regs = regsOff B s.regs := by
  unfold State.mismatch
  simp [h0, h1, h2, h3, h4, h5, h6]

@[simp] theorem State.mmInfo_elsewhere (B : List Block) (s : State) (c : Chan) (t0 t1 : BitVec 8) (h0 : Block.lks ∈ B) : regsOff B (State.mmInfo s c t0 t1).regs = regsOff B s.regs := by
  unfold State.mmInfo
  simp [h0]

@[simp] theorem State.ttDisagree_elsewhere (B : List Block) (s : State) (c : Chan) (side : Nat) (h0 : Block.sys ∈ B) (h1 : Block.fc ∈ B) (h2 : Block.sout ∈ B) (h3 : Block.dsf ∈ B) (h4 : Block.lks ∈ B) (h5 : Block.llk ∈ B) (h6 : Block.hly ∈ B) : regsOff B (State.ttDisagree s c side).regs = regsOff B s.regs := by
  unfold State.ttDisagree
  simp [h0, h1, h2, h3, h4, h5, h6]

@[simp] theorem State.openWindow_elsewhere (B : List Block) (s : State) (n : Nat)  : regsOff B (State.openWindow s n).regs = regsOff B s.regs := by
  unfold State.openWindow
  simp

@[simp] theorem State.resetFields_elsewhere (B : List Block) (s : State) (q : Nat → Bool) (p : Fld → Bool) (h : ∀ a, q a = true → ∃ b ∈ B, inBlock b a = true) : regsOff B (State.resetFields s q p).regs = regsOff B s.regs := by
  show regsOff B (s.regs.map _) = _
  unfold regsOff
  induction s.regs with
  | nil => rfl
  | cons e l ih =>
    rw [List.map_cons, List.filter_cons, List.filter_cons, ih]
    by_cases he : q e.1 = true
    · obtain ⟨b, hb, ha⟩ := h _ he
      have : B.any (fun b => inBlock b e.1) = true := List.any_eq_true.mpr ⟨b, hb, ha⟩
      rw [if_pos he, this]
      rfl
    · rw [if_neg he]

@[simp] theorem State.showCnm_elsewhere (B : List Block) (s : State) (h0 : Block.cnm ∈ B) : regsOff B (State.showCnm s).regs = regsOff B s.regs := by
  unfold State.showCnm
  simp [h0]

@[simp] theorem State.eccSingle_elsewhere (B : List Block) (s : State) (h0 : Block.cnm ∈ B) : regsOff B (State.eccSingle s).regs = regsOff B s.regs := by
  unfold State.eccSingle
  simp [h0]

@[simp] theorem State.eccFound_elsewhere (B : List Block) (s : State) (m : MemLoc) (e : Ecc) (h0 : Block.sys ∈ B) (h1 : Block.fc ∈ B) (h2 : Block.sout ∈ B) (h3 : Block.dsf ∈ B) (h4 : Block.lks ∈ B) (h5 : Block.llk ∈ B) (h6 : Block.hly ∈ B) (h7 : Block.cnm ∈ B) : regsOff B (State.eccFound s m e).regs = regsOff B s.regs := by
  unfold State.eccFound
  (try dsimp only)
  repeat' (first | with_reducible rfl | (simp [h0, h1, h2, h3, h4, h5, h6, h7]; done) | split)

@[simp] theorem State.updStay_elsewhere (B : List Block) (s : State) (c : Chan) (f : StaySt → StaySt)  : regsOff B (State.updStay s c f).regs = regsOff B s.regs := by
  unfold State.updStay
  with_reducible rfl

@[simp] theorem State.latchUnattributed_elsewhere (B : List Block) (s : State) (line detail : Nat) (h0 : Block.fc ∈ B) (h1 : Block.llk ∈ B) (h2 : Block.hly ∈ B) : regsOff B (State.latchUnattributed s line detail).regs = regsOff B s.regs := by
  unfold State.latchUnattributed
  simp [h0, h1, h2]

@[simp] theorem State.stayFault_elsewhere (B : List Block) (s : State) (c : Chan) (typ kind : Nat) (h0 : Block.fc ∈ B) (h1 : Block.lks ∈ B) (h2 : Block.llk ∈ B) (h3 : Block.hly ∈ B) : regsOff B (State.stayFault s c typ kind).regs = regsOff B s.regs := by
  unfold State.stayFault
  simp [h0, h1, h2, h3]

@[simp] theorem State.receive_elsewhere (B : List Block) (s : State) (c : Chan) (l : Lane) (h : StayHead) (hasDeadline : Bool) (body : State → State) (h0 : Block.fc ∈ B) (h1 : Block.lks ∈ B) (h2 : Block.llk ∈ B) (h3 : Block.hly ∈ B) (hf : ∀ x, regsOff B (body x).regs = regsOff B x.regs) : regsOff B (State.receive s c l h hasDeadline body).regs = regsOff B s.regs := by
  unfold State.receive
  simp [h0, h1, h2, h3, hf]

@[simp] theorem State.sourcesDue_elsewhere (B : List Block) (s : State)  : regsOff B (State.sourcesDue s).regs = regsOff B s.regs := by
  unfold State.sourcesDue
  with_reducible rfl

@[simp] theorem State.tryDual_elsewhere (B : List Block) (s : State) (h0 : Block.lks ∈ B) : regsOff B (State.tryDual s).regs = regsOff B s.regs := by
  unfold State.tryDual
  simp [h0]

@[simp] theorem State.dropSlot_elsewhere (B : List Block) (s : State) (t : StayToken) (h0 : Block.sin ∈ B) (h1 : Block.sout ∈ B) (h2 : Block.llk ∈ B) : regsOff B (State.dropSlot s t).regs = regsOff B s.regs := by
  unfold State.dropSlot
  (try dsimp only)
  repeat' (first | with_reducible rfl | (simp [h0, h1, h2]; done) | split)

@[simp] theorem State.chargeStay_elsewhere (B : List Block) (s : State) (g : Charge) (h0 : Block.fc ∈ B) (h1 : Block.lks ∈ B) : regsOff B (State.chargeStay s g).regs = regsOff B s.regs := by
  unfold State.chargeStay
  simp [h0, h1]

@[simp] theorem State.checkCopy_elsewhere (B : List Block) (s : State) (n : Nat) (p : Net) (f : GoaFrame) (h0 : Block.net ∈ B) (h1 : Block.hly ∈ B) : regsOff B (State.checkCopy s n p f).1.regs = regsOff B s.regs := by
  unfold State.checkCopy
  (try dsimp only)
  repeat' (first | with_reducible rfl | (simp [h0, h1]; done) | split)

theorem State.blockReset_elsewhere (B : List Block) (s : State) (base size : Nat) (b : Block) (hb : b ∈ B) (hp : inBlock b base = true) (hs : base % 0x10000 + size ≤ 0x10000) : regsOff B (State.blockReset s base size).regs = regsOff B s.regs := by
  unfold State.blockReset
  refine State.resetFields_elsewhere B s _ _ fun a ha => ⟨b, hb, ?_⟩
  simp only [Bool.and_eq_true, decide_eq_true_eq] at ha
  have e : a / 0x10000 = base / 0x10000 := by omega
  unfold inBlock at *
  rwa [e]

@[simp] theorem State.updPtp_elsewhere (B : List Block) (s : State) (n : Net) (f : PtpSt → PtpSt)  : regsOff B (State.updPtp s n f).regs = regsOff B s.regs := by
  unfold State.updPtp
  with_reducible rfl

@[simp] theorem State.showPtp_elsewhere (B : List Block) (s : State) (n : Net) (h0 : Block.net ∈ B) : regsOff B (State.showPtp s n).regs = regsOff B s.regs := by
  unfold State.showPtp
  simp [h0]

@[simp] theorem State.cmdDone_elsewhere (B : List Block) (s : State) (d : Done) (irq doneOk : Bool) (h0 : Block.hly ∈ B) : regsOff B (State.cmdDone s d irq doneOk).regs = regsOff B s.regs := by
  unfold State.cmdDone
  simp [h0]

@[simp] theorem State.endExclusive_elsewhere (B : List Block) (s : State) (op status result : Nat) (h0 : Block.hly ∈ B) : regsOff B (State.endExclusive s op status result).regs = regsOff B s.regs := by
  unfold State.endExclusive
  (try dsimp only)
  repeat' (first | with_reducible rfl | (simp [h0]; done) | split)

@[simp] theorem State.useEpoch_elsewhere (B : List Block) (s : State) (ep : Nat) (h0 : Block.net ∈ B) : regsOff B (State.useEpoch s ep).regs = regsOff B s.regs := by
  unfold State.useEpoch
  simp [h0]

@[simp] theorem State.updPort_elsewhere (B : List Block) (s : State) (p : Port) (f : PortSt → PortSt)  : regsOff B (State.updPort s p f).regs = regsOff B s.regs := by
  unfold State.updPort
  with_reducible rfl

@[simp] theorem State.linkFault_elsewhere (B : List Block) (s : State) (detail : Nat) (h0 : Block.sys ∈ B) (h1 : Block.fc ∈ B) (h2 : Block.llk ∈ B) (h3 : Block.hly ∈ B) : regsOff B (State.linkFault s detail).regs = regsOff B s.regs := by
  unfold State.linkFault
  simp [h0, h1, h2, h3]

@[simp] theorem State.fifoOverflow_elsewhere (B : List Block) (s : State) (p : Port) (words : Nat) (h0 : Block.sys ∈ B) (h1 : Block.fc ∈ B) (h2 : Block.llk ∈ B) (h3 : Block.hly ∈ B) : regsOff B (State.fifoOverflow s p words).regs = regsOff B s.regs := by
  unfold State.fifoOverflow
  simp [h0, h1, h2, h3]

@[simp] theorem State.setPort_elsewhere (B : List Block) (s : State) (p : Port) (v : Nat) (h0 : Block.llk ∈ B) : regsOff B (State.setPort s p v).regs = regsOff B s.regs := by
  unfold State.setPort
  simp [h0]

@[simp] theorem State.showEntries_elsewhere (B : List Block) (s : State) (h0 : Block.llk ∈ B) : regsOff B (State.showEntries s).regs = regsOff B s.regs := by
  unfold State.showEntries
  simp [h0]

@[simp] theorem State.xoffOut_elsewhere (B : List Block) (s : State) (p : Port) (peak after : Nat) (h0 : Block.llk ∈ B) : regsOff B (State.xoffOut s p peak after).regs = regsOff B s.regs := by
  unfold State.xoffOut
  simp [h0]

@[simp] theorem State.storeRelayed_elsewhere (B : List Block) (s : State) (r : List Nat) (h0 : Block.llk ∈ B) : regsOff B (State.storeRelayed s r).regs = regsOff B s.regs := by
  unfold State.storeRelayed
  simp [h0]

@[simp] theorem State.popRec_elsewhere (B : List Block) (s : State) (h0 : Block.llk ∈ B) : regsOff B (State.popRec s).regs = regsOff B s.regs := by
  unfold State.popRec
  simp [h0]

@[simp] theorem State.trainPorts_elsewhere (B : List Block) (s : State) (h0 : Block.llk ∈ B) : regsOff B (State.trainPorts s).regs = regsOff B s.regs := by
  unfold State.trainPorts
  simp [h0]

@[simp] theorem State.endLoss_elsewhere (B : List Block) (s : State) (h0 : Block.hly ∈ B) : regsOff B (State.endLoss s).regs = regsOff B s.regs := by
  unfold State.endLoss
  simp [h0]

@[simp] theorem State.fwEvent_elsewhere (B : List Block) (s : State) (i n : Nat) (old new : FwRegion) (h0 : Block.hly ∈ B) : regsOff B (State.fwEvent s i n old new).regs = regsOff B s.regs := by
  unfold State.fwEvent
  simp [h0]

@[simp] theorem State.setRegion_elsewhere (B : List Block) (s : State) (i n : Nat) (g : FwRegion) (h0 : Block.hly ∈ B) : regsOff B (State.setRegion s i n g).regs = regsOff B s.regs := by
  unfold State.setRegion
  simp [h0]

@[simp] theorem State.hostWindow_elsewhere (B : List Block) (s : State) (opened : Bool) (h0 : Block.hly ∈ B) : regsOff B (State.hostWindow s opened).regs = regsOff B s.regs := by
  unfold State.hostWindow
  simp [h0]

@[simp] theorem State.requeue_elsewhere (B : List Block) (s : State)  : regsOff B (State.requeue s).regs = regsOff B s.regs := by
  unfold State.requeue
  with_reducible rfl

@[simp] theorem State.startRings_elsewhere (B : List Block) (s : State) (h0 : Block.hly ∈ B) : regsOff B (State.startRings s).regs = regsOff B s.regs := by
  unfold State.startRings
  dsimp only
  rw [State.updHly_elsewhere]
  exact State.foldl_elsewhere B _ _ _ fun u n => by simp [h0]

@[simp] theorem State.closeWindow_elsewhere (B : List Block) (s : State) (h0 : Block.hly ∈ B) : regsOff B (State.closeWindow s).regs = regsOff B s.regs := by
  unfold State.closeWindow
  simp [h0]

@[simp] theorem State.deny_elsewhere (B : List Block) (s : State) (i : Initiator) (a : Nat) (h0 : Block.sys ∈ B) (h1 : Block.fc ∈ B) (h2 : Block.sout ∈ B) (h3 : Block.dsf ∈ B) (h4 : Block.lks ∈ B) (h5 : Block.llk ∈ B) (h6 : Block.hly ∈ B) (h7 : Block.otp ∈ B) : regsOff B (State.deny s i a).regs = regsOff B s.regs := by
  unfold State.deny
  (try dsimp only)
  repeat' (first | with_reducible rfl | (simp [h0, h1, h2, h3, h4, h5, h6, h7]; done) | split)

@[simp] theorem State.hostDenied_elsewhere (B : List Block) (s : State) (off : Nat) (h0 : Block.sys ∈ B) (h1 : Block.fc ∈ B) (h2 : Block.sout ∈ B) (h3 : Block.dsf ∈ B) (h4 : Block.lks ∈ B) (h5 : Block.llk ∈ B) (h6 : Block.hly ∈ B) (h7 : Block.otp ∈ B) : regsOff B (State.hostDenied s off).regs = regsOff B s.regs := by
  unfold State.hostDenied
  simp [h0, h1, h2, h3, h4, h5, h6, h7]

@[simp] theorem State.pollBeat_elsewhere (B : List Block) (s : State) (o : PollObs) (h0 : Block.hly ∈ B) : regsOff B (State.pollBeat s o).regs = regsOff B s.regs := by
  unfold State.pollBeat
  simp [h0]

@[simp] theorem State.pollImage_elsewhere (B : List Block) (s : State) (o : PollObs) (h0 : Block.hly ∈ B) : regsOff B (State.pollImage s o).regs = regsOff B s.regs := by
  unfold State.pollImage
  simp [h0]

@[simp] theorem State.recAck_elsewhere (B : List Block) (s : State) (c : Chan) (n : Nat) (h0 : Block.fc ∈ B) : regsOff B (State.recAck s c n).regs = regsOff B s.regs := by
  unfold State.recAck
  simp [h0]

@[simp] theorem State.ackLogged_elsewhere (B : List Block) (s : State) (n : Nat) (h0 : Block.fc ∈ B) : regsOff B (State.ackLogged s n).regs = regsOff B s.regs := by
  unfold State.ackLogged
  simp [h0]

@[simp] theorem State.pollRing_elsewhere (B : List Block) (s : State) (o : PollObs) (n : Nat) (h0 : Block.fc ∈ B) (h1 : Block.hly ∈ B) : regsOff B (State.pollRing s o n).regs = regsOff B s.regs := by
  unfold State.pollRing
  simp [h0, h1]

@[simp] theorem State.showAuth_elsewhere (B : List Block) (s : State) (h0 : Block.hly ∈ B) : regsOff B (State.showAuth s).regs = regsOff B s.regs := by
  unfold State.showAuth
  simp [h0]

@[simp] theorem State.showDiag_elsewhere (B : List Block) (s : State) (h0 : Block.hly ∈ B) : regsOff B (State.showDiag s).regs = regsOff B s.regs := by
  unfold State.showDiag
  simp [h0]

@[simp] theorem State.authChanged_elsewhere (B : List Block) (s : State) (h0 : Block.hly ∈ B) : regsOff B (State.authChanged s).regs = regsOff B s.regs := by
  unfold State.authChanged
  simp [h0]

@[simp] theorem State.endService_elsewhere (B : List Block) (s : State) (h0 : Block.otp ∈ B) : regsOff B (State.endService s).regs = regsOff B s.regs := by
  unfold State.endService
  simp [h0]

@[simp] theorem State.endAuthority_elsewhere (B : List Block) (s : State) (h0 : Block.hly ∈ B) (h1 : Block.otp ∈ B) : regsOff B (State.endAuthority s).regs = regsOff B s.regs := by
  unfold State.endAuthority
  simp [h0, h1]

@[simp] theorem State.beginLoss_elsewhere (B : List Block) (s : State) (cause : Nat) (k : HostLoss) (h0 : Block.sys ∈ B) (h1 : Block.fc ∈ B) (h2 : Block.llk ∈ B) (h3 : Block.hly ∈ B) (h4 : Block.otp ∈ B) : regsOff B (State.beginLoss s cause k).regs = regsOff B s.regs := by
  unfold State.beginLoss
  simp [h0, h1, h2, h3, h4]

@[simp] theorem State.losePoll_elsewhere (B : List Block) (s : State) (cause : Nat) (h0 : Block.sys ∈ B) (h1 : Block.fc ∈ B) (h2 : Block.llk ∈ B) (h3 : Block.hly ∈ B) (h4 : Block.otp ∈ B) : regsOff B (State.losePoll s cause).regs = regsOff B s.regs := by
  unfold State.losePoll
  simp [h0, h1, h2, h3, h4]

@[simp] theorem State.reopen_elsewhere (B : List Block) (s : State) (h0 : Block.hly ∈ B) : regsOff B (State.reopen s).regs = regsOff B s.regs := by
  unfold State.reopen
  dsimp only
  simp only [State.updHly_elsewhere]
  rw [State.hostWindow_elsewhere, State.putFlag_elsewhere, State.put_elsewhere, State.resetFields_elsewhere]
  all_goals first | (simp [h0]; done) | skip
  intro a ha
  simp only [Bool.and_eq_true, decide_eq_true_eq] at ha
  refine ⟨.hly, h0, ?_⟩
  have e : a / 0x10000 = 0x4000 + 10 := by
    have : blockBase .hly .a = 0x400A0000 := rfl
    omega
  unfold inBlock
  rw [e]
  decide

@[simp] theorem State.loseSetup_elsewhere (B : List Block) (s : State) (cause : Nat) (h0 : Block.sys ∈ B) (h1 : Block.fc ∈ B) (h2 : Block.llk ∈ B) (h3 : Block.hly ∈ B) (h4 : Block.otp ∈ B) : regsOff B (State.loseSetup s cause).regs = regsOff B s.regs := by
  unfold State.loseSetup
  simp [h0, h1, h2, h3, h4]

@[simp] theorem State.writeEvent_elsewhere (B : List Block) (s : State) (n : Nat) (e : HlyEv) (h0 : Block.hly ∈ B) : regsOff B (State.writeEvent s n e).regs = regsOff B s.regs := by
  unfold State.writeEvent
  (try dsimp only)
  repeat' (first | with_reducible rfl | (simp [h0]; done) | split)

@[simp] theorem State.finish_elsewhere (B : List Block) (s : State) (r : Nat) (d : Desc) (e : Ends) (h0 : Block.hly ∈ B) : regsOff B (State.finish s r d e).regs = regsOff B s.regs := by
  unfold State.finish
  simp [h0]

@[simp] theorem State.command_elsewhere (B : List Block) (s : State) (r : Nat) (d : Desc) (b : Buf) (f : State → State × Ends) (h0 : Block.hly ∈ B) (hf : ∀ x, regsOff B (f x).1.regs = regsOff B x.regs) : regsOff B (State.command s r d b f).regs = regsOff B s.regs := by
  unfold State.command
  (try dsimp only)
  repeat' (first | with_reducible rfl | (simp [h0, hf]; done) | split)

@[simp] theorem State.showAge_elsewhere (B : List Block) (s : State) (h0 : Block.fc ∈ B) : regsOff B (State.showAge s).regs = regsOff B s.regs := by
  unfold State.showAge
  simp [h0]

@[simp] theorem State.alone_elsewhere (B : List Block) (s : State) (f : State → State × Ends) (hf : ∀ x, regsOff B (f x).1.regs = regsOff B x.regs) : regsOff B (State.alone s f).1.regs = regsOff B s.regs := by
  unfold State.alone
  (try dsimp only)
  repeat' (first | with_reducible rfl | (simp [hf]; done) | split)

@[simp] theorem State.draw_elsewhere (B : List Block) (s : State)  : regsOff B (State.draw s).2.regs = regsOff B s.regs := by
  unfold State.draw
  with_reducible rfl

@[simp] theorem State.authFails_elsewhere (B : List Block) (s : State) (r : Nat) (h0 : Block.sys ∈ B) (h1 : Block.fc ∈ B) (h2 : Block.llk ∈ B) (h3 : Block.hly ∈ B) (h4 : Block.otp ∈ B) : regsOff B (State.authFails s r).regs = regsOff B s.regs := by
  unfold State.authFails
  simp [h0, h1, h2, h3, h4]

@[simp] theorem State.openService_elsewhere (B : List Block) (s : State) (r dur : Nat) (h0 : Block.otp ∈ B) : regsOff B (State.openService s r dur).regs = regsOff B s.regs := by
  unfold State.openService
  simp [h0]

@[simp] theorem State.grant_elsewhere (B : List Block) (s : State) (r : Nat) (a : AuthResp) (h0 : Block.hly ∈ B) (h1 : Block.otp ∈ B) : regsOff B (State.grant s r a).regs = regsOff B s.regs := by
  unfold State.grant
  simp [h0, h1]

@[simp] theorem State.readFails_elsewhere (B : List Block) (s : State) (h0 : Block.hly ∈ B) : regsOff B (State.readFails s).1.regs = regsOff B s.regs := by
  unfold State.readFails
  simp [h0]

@[simp] theorem State.endAuth_elsewhere (B : List Block) (s : State) (r : Nat) (h0 : Block.hly ∈ B) (h1 : Block.otp ∈ B) : regsOff B (State.endAuth s r).regs = regsOff B s.regs := by
  unfold State.endAuth
  simp [h0, h1]

@[simp] theorem State.stageStore_elsewhere (B : List Block) (s : State) (f : StageFile) (h0 : Block.otp ∈ B) (h1 : Block.bst ∈ B) : regsOff B (State.stageStore s f).regs = regsOff B s.regs := by
  unfold State.stageStore
  (try dsimp only)
  repeat' (first | with_reducible rfl | (simp [h0, h1]; done) | split)

@[simp] theorem State.withScope_elsewhere (B : List Block) (s : State) (r k : Nat) (f : State → State × Ends) (h0 : Block.otp ∈ B) (hf : ∀ x, regsOff B (f x).1.regs = regsOff B x.regs) : regsOff B (State.withScope s r k f).1.regs = regsOff B s.regs := by
  unfold State.withScope
  (try dsimp only)
  repeat' (first | with_reducible rfl | (simp [h0, hf]; done) | split)

@[simp] theorem State.installKey_elsewhere (B : List Block) (s : State) (e : Nat) (h0 : Block.net ∈ B) : regsOff B (State.installKey s e).regs = regsOff B s.regs := by
  unfold State.installKey
  simp [h0]

@[simp] theorem State.runOn_elsewhere (B : List Block) (s : State) (r : Running)  : regsOff B (State.runOn s r).regs = regsOff B s.regs := by
  unfold State.runOn
  simp

@[simp] theorem State.resetRing_elsewhere (B : List Block) (s : State) (n : Nat) (h0 : Block.hly ∈ B) : regsOff B (State.resetRing s n).regs = regsOff B s.regs := by
  unfold State.resetRing
  simp [h0]

@[simp] theorem State.refitPhase_elsewhere (B : List Block) (s : State) (p : Nat) (h0 : Block.lge ∈ B) (h1 : Block.hly ∈ B) : regsOff B (State.refitPhase s p).regs = regsOff B s.regs := by
  unfold State.refitPhase
  simp [h0, h1]

@[simp] theorem State.updCtx_elsewhere (B : List Block) (s : State) (k n : Nat) (f : CtxSt → CtxSt)  : regsOff B (State.updCtx s k n f).regs = regsOff B s.regs := by
  unfold State.updCtx
  simp

@[simp] theorem State.statRecord_elsewhere (B : List Block) (s : State) (h0 : Block.llk ∈ B) : regsOff B (State.statRecord s).regs = regsOff B s.regs := by
  unfold State.statRecord
  simp [h0]

@[simp] theorem State.window_elsewhere (B : List Block) (s : State) (k n r : Nat) (fresh : Bool) (h0 : Block.llk ∈ B) (h1 : Block.adc ∈ B) : regsOff B (State.window s k n r fresh).regs = regsOff B s.regs := by
  unfold State.window
  simp [h0, h1]

@[simp] theorem State.result_elsewhere (B : List Block) (s : State) (k n r : Nat) (h0 : Block.llk ∈ B) (h1 : Block.adc ∈ B) : regsOff B (State.result s k n r).regs = regsOff B s.regs := by
  unfold State.result
  simp [h0, h1]

@[simp] theorem State.sampleInto_elsewhere (B : List Block) (s : State) (k n raw : Nat) (h0 : Block.llk ∈ B) (h1 : Block.adc ∈ B) : regsOff B (State.sampleInto s k n raw).regs = regsOff B s.regs := by
  unfold State.sampleInto
  simp [h0, h1]

@[simp] theorem State.burstConv_elsewhere (B : List Block) (s : State) (k n rep disc raw : Nat) (h0 : Block.llk ∈ B) (h1 : Block.adc ∈ B) : regsOff B (State.burstConv s k n rep disc raw).regs = regsOff B s.regs := by
  unfold State.burstConv
  simp [h0, h1]

@[simp] theorem State.noteAdcRef_elsewhere (B : List Block) (s : State) (k : Nat) (g o : Int) (h0 : Block.sys ∈ B) (h1 : Block.fc ∈ B) (h2 : Block.llk ∈ B) (h3 : Block.hly ∈ B) (h4 : Block.cnm ∈ B) : regsOff B (State.noteAdcRef s k g o).regs = regsOff B s.regs := by
  unfold State.noteAdcRef
  simp [h0, h1, h2, h3, h4]

@[simp] theorem State.calResult_elsewhere (B : List Block) (s : State) (k : Nat) (h0 : Block.sys ∈ B) (h1 : Block.fc ∈ B) (h2 : Block.llk ∈ B) (h3 : Block.hly ∈ B) (h4 : Block.adc ∈ B) (h5 : Block.cnm ∈ B) : regsOff B (State.calResult s k).regs = regsOff B s.regs := by
  unfold State.calResult
  simp [h0, h1, h2, h3, h4, h5]

@[simp] theorem State.showRail_elsewhere (B : List Block) (s : State) (n raw : Nat) (h0 : Block.pwr ∈ B) : regsOff B (State.showRail s n raw).regs = regsOff B s.regs := by
  unfold State.showRail
  split
  · rename_i h
    refine State.putFlag_elsewhere _ _ _ _ _ _ ?_
    unfold railOf at h
    split at h <;> cases h <;> simpa using h0
  · rfl

@[simp] theorem State.conversion_elsewhere (B : List Block) (s : State) (k raw : Nat) (h0 : Block.sys ∈ B) (h1 : Block.fc ∈ B) (h2 : Block.llk ∈ B) (h3 : Block.hly ∈ B) (h4 : Block.adc ∈ B) (h5 : Block.cnm ∈ B) (h6 : Block.pwr ∈ B) : regsOff B (State.conversion s k raw).regs = regsOff B s.regs := by
  unfold State.conversion
  (try dsimp only)
  repeat' (first | with_reducible rfl | (simp [h0, h1, h2, h3, h4, h5, h6]; done) | split)

@[simp] theorem State.calFallsDue_elsewhere (B : List Block) (s : State) (k : Nat) (h0 : Block.adc ∈ B) : regsOff B (State.calFallsDue s k).regs = regsOff B s.regs := by
  unfold State.calFallsDue
  simp [h0]

@[simp] theorem State.restartCtx_elsewhere (B : List Block) (s : State) (k n : Nat) (h0 : Block.adc ∈ B) : regsOff B (State.restartCtx s k n).regs = regsOff B s.regs := by
  unfold State.restartCtx
  simp [h0]

@[simp] theorem State.restartAll_elsewhere (B : List Block) (s : State) (k : Nat) (h0 : Block.adc ∈ B) : regsOff B (State.restartAll s k).regs = regsOff B s.regs := by
  unfold State.restartAll
  simp [h0]

@[simp] theorem State.adcReset_elsewhere (B : List Block) (s : State) (k : Nat) (h0 : Block.adc ∈ B) : regsOff B (State.adcReset s k).regs = regsOff B s.regs := by
  unfold State.adcReset
  dsimp only
  rw [State.updAdc_elsewhere, State.blockReset_elsewhere B _ _ _ .adc h0 (adcBase_in k) (adcBase_room k)]
  simp [h0]

@[simp] theorem State.guarded_elsewhere (B : List Block) (s : State) (i : Initiator) (a : Nat) (f : State → State) (h0 : Block.sys ∈ B) (h1 : Block.fc ∈ B) (h2 : Block.sout ∈ B) (h3 : Block.dsf ∈ B) (h4 : Block.lks ∈ B) (h5 : Block.llk ∈ B) (h6 : Block.hly ∈ B) (h7 : Block.otp ∈ B) (hf : ∀ x, regsOff B (f x).regs = regsOff B x.regs) : regsOff B (State.guarded s i a f).regs = regsOff B s.regs := by
  unfold State.guarded
  simp [h0, h1, h2, h3, h4, h5, h6, h7, hf]

@[simp] theorem State.scanEnds_elsewhere (B : List Block) (s : State) (u : Unit3) (err : Nat) (h0 : Block.crc ∈ B) : regsOff B (State.scanEnds s u err).regs = regsOff B s.regs := by
  unfold State.scanEnds
  simp [h0]

@[simp] theorem State.otpStart_elsewhere (B : List Block) (s : State) (cmd addr : Nat) (h0 : Block.otp ∈ B) : regsOff B (State.otpStart s cmd addr).regs = regsOff B s.regs := by
  unfold State.otpStart
  simp [h0]

@[simp] theorem State.otpCommand_elsewhere (B : List Block) (s : State) (i : Initiator) (who : Bool) (cmd addr : Nat) (h0 : Block.sys ∈ B) (h1 : Block.fc ∈ B) (h2 : Block.sout ∈ B) (h3 : Block.dsf ∈ B) (h4 : Block.lks ∈ B) (h5 : Block.llk ∈ B) (h6 : Block.hly ∈ B) (h7 : Block.otp ∈ B) : regsOff B (State.otpCommand s i who cmd addr).regs = regsOff B s.regs := by
  unfold State.otpCommand
  simp [h0, h1, h2, h3, h4, h5, h6, h7]

@[simp] theorem State.blowPart_elsewhere (B : List Block) (s : State) (n : Nat) (f : BitVec 72) (h0 : Block.otp ∈ B) (h1 : Block.bst ∈ B) : regsOff B (State.blowPart s n f).regs = regsOff B s.regs := by
  unfold State.blowPart
  simp [h0, h1]

@[simp] theorem State.otpBlow_elsewhere (B : List Block) (s : State) (c : OtpCmd) (ok : Bool) (h0 : Block.otp ∈ B) (h1 : Block.bst ∈ B) : regsOff B (State.otpBlow s c ok).1.regs = regsOff B s.regs := by
  unfold State.otpBlow
  (try dsimp only)
  repeat' (first | with_reducible rfl | (simp [h0, h1]; done) | split)

@[simp] theorem State.otpAlarm_elsewhere (B : List Block) (s : State) (n : Nat) (h0 : Block.sys ∈ B) (h1 : Block.fc ∈ B) (h2 : Block.llk ∈ B) (h3 : Block.hly ∈ B) (h4 : Block.otp ∈ B) : regsOff B (State.otpAlarm s n).regs = regsOff B s.regs := by
  unfold State.otpAlarm
  simp [h0, h1, h2, h3, h4]

@[simp] theorem State.otpShow_elsewhere (B : List Block) (s : State) (n : Nat) (three : Bool) (o : Sense) (h0 : Block.sys ∈ B) (h1 : Block.fc ∈ B) (h2 : Block.llk ∈ B) (h3 : Block.hly ∈ B) (h4 : Block.otp ∈ B) : regsOff B (State.otpShow s n three o).regs = regsOff B s.regs := by
  unfold State.otpShow
  (try dsimp only)
  repeat' (first | with_reducible rfl | (simp [h0, h1, h2, h3, h4]; done) | split)

@[simp] theorem State.showIdentity_elsewhere (B : List Block) (s : State) (h0 : Block.net ∈ B) (h1 : Block.otp ∈ B) : regsOff B (State.showIdentity s).regs = regsOff B s.regs := by
  unfold State.showIdentity
  simp [h0, h1]

@[simp] theorem State.fwControl_elsewhere (B : List Block) (s : State) (i : Initiator) (act : State → State) (h0 : Block.sys ∈ B) (h1 : Block.fc ∈ B) (h2 : Block.sout ∈ B) (h3 : Block.dsf ∈ B) (h4 : Block.lks ∈ B) (h5 : Block.llk ∈ B) (h6 : Block.hly ∈ B) (h7 : Block.otp ∈ B) (hf : ∀ x, regsOff B (act x).regs = regsOff B x.regs) : regsOff B (State.fwControl s i act).regs = regsOff B s.regs := by
  unfold State.fwControl
  simp [h0, h1, h2, h3, h4, h5, h6, h7, hf]

@[simp] theorem State.mzTake_elsewhere (B : List Block) (s : State) (cmd : Nat) (f : State → Nat → State × Nat) (h0 : Block.mzw ∈ B) (hf : ∀ x a, regsOff B (f x a).1.regs = regsOff B x.regs) : regsOff B (State.mzTake s cmd f).regs = regsOff B s.regs := by
  unfold State.mzTake
  (try dsimp only)
  repeat' (first | with_reducible rfl | (simp [h0, hf]; done) | split)

@[simp] theorem State.openLot_elsewhere (B : List Block) (s : State) (ident : Nat)  : regsOff B (State.openLot s ident).regs = regsOff B s.regs := by
  unfold State.openLot
  simp

@[simp] theorem State.closeLot_elsewhere (B : List Block) (s : State)  : regsOff B (State.closeLot s).regs = regsOff B s.regs := by
  unfold State.closeLot
  (try dsimp only)
  repeat' (first | with_reducible rfl | (simp; done) | split)

@[simp] theorem State.mzData_elsewhere (B : List Block) (s : State) (f : Nat → Nat) (h0 : Block.mzw ∈ B) : regsOff B (State.mzData s f).regs = regsOff B s.regs := by
  unfold State.mzData
  simp [h0]

@[simp] theorem State.mzRefuse_elsewhere (B : List Block) (s : State) (cmd : Nat) (h0 : Block.sys ∈ B) (h1 : Block.fc ∈ B) (h2 : Block.llk ∈ B) (h3 : Block.hly ∈ B) (h4 : Block.mzw ∈ B) : regsOff B (State.mzRefuse s cmd).regs = regsOff B s.regs := by
  unfold State.mzRefuse
  simp [h0, h1, h2, h3, h4]

@[simp] theorem State.clearMirror_elsewhere (B : List Block) (s : State) (h0 : Block.mzw ∈ B) : regsOff B (State.clearMirror s).regs = regsOff B s.regs := by
  unfold State.clearMirror
  rw [State.updMz_elsewhere]
  unfold mirrorFields
  simp [h0]

@[simp] theorem State.mzFlag_elsewhere (B : List Block) (s : State) (f : LotFlags → LotFlags)  : regsOff B (State.mzFlag s f).regs = regsOff B s.regs := by
  unfold State.mzFlag
  simp

@[simp] theorem State.measFault_elsewhere (B : List Block) (s : State) (k : MzFault)  : regsOff B (State.measFault s k).regs = regsOff B s.regs := by
  unfold State.measFault
  simp

@[simp] theorem State.mzAudit_elsewhere (B : List Block) (s : State) (c : MzChange)  : regsOff B (State.mzAudit s c).regs = regsOff B s.regs := by
  unfold State.mzAudit
  simp

@[simp] theorem State.mzAnswer_elsewhere (B : List Block) (s : State) (f : State → State × MzAnswer) (hf : ∀ x, regsOff B (f x).1.regs = regsOff B x.regs) : regsOff B (State.mzAnswer s f).regs = regsOff B s.regs := by
  unfold State.mzAnswer
  simp [hf]

@[simp] theorem State.goRun_elsewhere (B : List Block) (s : State) (full : Bool) (cmd logic lo hi : Nat) (h0 : Block.bst ∈ B) : regsOff B (State.goRun s full cmd logic lo hi).regs = regsOff B s.regs := by
  unfold State.goRun
  simp [h0]

@[simp] theorem State.accrue_elsewhere (B : List Block) (s : State) (d : Nat) (tj : Int) (h0 : Block.sys ∈ B) (h1 : Block.fc ∈ B) (h2 : Block.llk ∈ B) (h3 : Block.hly ∈ B) (h4 : Block.cnm ∈ B) : regsOff B (State.accrue s d tj).regs = regsOff B s.regs := by
  unfold State.accrue
  simp [h0, h1, h2, h3, h4]

@[simp] theorem State.logLife_elsewhere (B : List Block) (s : State)  : regsOff B (State.logLife s).regs = regsOff B s.regs := by
  unfold State.logLife
  simp

@[simp] theorem State.project_elsewhere (B : List Block) (s : State) (h0 : Block.sys ∈ B) (h1 : Block.fc ∈ B) (h2 : Block.llk ∈ B) (h3 : Block.hly ∈ B) (h4 : Block.cnm ∈ B) : regsOff B (State.project s).regs = regsOff B s.regs := by
  unfold State.project
  (try dsimp only)
  repeat' (first | with_reducible rfl | (simp [h0, h1, h2, h3, h4]; done) | split)

@[simp] theorem State.stopStay_elsewhere (B : List Block) (s : State) (h0 : Block.lks ∈ B) : regsOff B (State.stopStay s).regs = regsOff B s.regs := by
  unfold State.stopStay
  simp [h0]

@[simp] theorem State.noteReset_elsewhere (B : List Block) (s : State) (code : Nat) (h0 : Block.pwr ∈ B) : regsOff B (State.noteReset s code).regs = regsOff B s.regs := by
  unfold State.noteReset
  simp [h0]

@[simp] theorem State.calibrateAll_elsewhere (B : List Block) (s : State) (h0 : Block.adc ∈ B) : regsOff B (State.calibrateAll s).regs = regsOff B s.regs := by
  unfold State.calibrateAll
  simp [h0]

@[simp] theorem State.invalidate_elsewhere (B : List Block) (s : State) (h0 : Block.lc ∈ B) : regsOff B (State.invalidate s).regs = regsOff B s.regs := by
  unfold State.invalidate
  simp [h0]

@[simp] theorem State.makeUp_elsewhere (B : List Block) (s : State) (u : Unit3) (p : Nat) (h0 : Block.tim ∈ B) : regsOff B (State.makeUp s u p).regs = regsOff B s.regs := by
  unfold State.makeUp
  simp [h0]

@[simp] theorem State.openSessions_elsewhere (B : List Block) (s : State) (h0 : Block.net ∈ B) : regsOff B (State.openSessions s).regs = regsOff B s.regs := by
  unfold State.openSessions
  simp [h0]

@[simp] theorem State.oweAll_elsewhere (B : List Block) (s : State)  : regsOff B (State.oweAll s).regs = regsOff B s.regs := by
  unfold State.oweAll
  simp

@[simp] theorem State.resume_elsewhere (B : List Block) (s : State) (h0 : Block.lc ∈ B) (h1 : Block.lks ∈ B) (h2 : Block.net ∈ B) (h3 : Block.adc ∈ B) (h4 : Block.tim ∈ B) : regsOff B (State.resume s).regs = regsOff B s.regs := by
  unfold State.resume
  simp [h0, h1, h2, h3, h4]

@[simp] theorem State.stampChange_elsewhere (B : List Block) (s : State) (c : Chan) (n t : Nat) (h0 : Block.lc ∈ B) : regsOff B (State.stampChange s c n t).regs = regsOff B s.regs := by
  unfold State.stampChange
  simp [h0]

@[simp] theorem State.decode_elsewhere (B : List Block) (s : State) (c : Chan) (n : Nat) (o : EncObs) (h0 : Block.lc ∈ B) : regsOff B (State.decode s c n o).regs = regsOff B s.regs := by
  unfold State.decode
  simp [h0]

@[simp] theorem State.drawDrk_elsewhere (B : List Block) (s : State) (h0 : Block.otp ∈ B) (h1 : Block.bst ∈ B) : regsOff B (State.drawDrk s).regs = regsOff B s.regs := by
  unfold State.drawDrk
  simp [h0, h1]

end Sys2Proof.Machine
end

