-- ==== Sys2Proof/Laws/OffExec.lean ====
section
/-! SUPPORT. The registers each command leaves alone: outside the blocks it may write, every word stays as it was. -/

namespace Sys2Proof.Machine

open Sys2Proof

@[simp] theorem uvFld_blk (c : Chan) : (uvFld c).blk = .pwr := by cases c <;> decide

@[simp] theorem railFld_blk (r : Rail) : (railFld r).blk = .pwr := by cases r <;> decide

@[simp] theorem srcFaultBit_blk (k : SrcFault) : (srcFaultBit k).blk = .lc := by cases k <;> decide

theorem inBlock_near (b : Block) (base a size : Nat) (hp : inBlock b base = true) (hs : base % 0x10000 + size ≤ 0x10000) (h1 : base ≤ a) (h2 : a < base + size) : inBlock b a = true := by
  have e : a / 0x10000 = base / 0x10000 := by omega
  unfold inBlock at *
  rwa [e]

theorem State.verdict_elsewhere (B : List Block) (s s1 : State) (k : TestKind) (n : Nat) (o : TestObs) (h0 : Block.sys ∈ B) (h1 : Block.fc ∈ B) (h2 : Block.sin ∈ B) (h3 : Block.sout ∈ B) (h4 : Block.dsf ∈ B) (h5 : Block.lks ∈ B) (h6 : Block.llk ∈ B) (h7 : Block.hly ∈ B) (h : s.verdict k n o = some s1) : regsOff B s1.regs = regsOff B s.regs := by
  unfold State.verdict at h
  repeat' split at h
  all_goals first
    | (have h := Option.some.inj h; rw [← h]; first | (simp [h0, h1, h2, h3, h4, h5, h6, h7]; done) | (rw [State.lsFault_elsewhere] <;> first | assumption | decide) | (split <;> simp [h0, h1, h2, h3, h4, h5, h6, h7]))
    | exact absurd h (by simp)

theorem execVbatLow_elsewhere (s : State) (s1 : State) (h : execVbatLow s = .next s1) : regsOff [.sys, .fc, .llk, .hly, .pwr] s1.regs = regsOff [.sys, .fc, .llk, .hly, .pwr] s.regs := by
  unfold execVbatLow at h
  cases h
  simp

theorem execAonClkStop_elsewhere (s : State) (s1 : State) (h : execAonClkStop s = .next s1) : regsOff [.sys, .fc, .llk, .hly, .pwr] s1.regs = regsOff [.sys, .fc, .llk, .hly, .pwr] s.regs := by
  unfold execAonClkStop at h
  cases h
  simp

theorem execPllLockLost_elsewhere (c : Chan) (s : State) (s1 : State) (h : execPllLockLost c s = .next s1) : regsOff [.sys, .fc, .sout, .dsf, .lks, .llk, .hly, .pwr] s1.regs = regsOff [.sys, .fc, .sout, .dsf, .lks, .llk, .hly, .pwr] s.regs := by
  unfold execPllLockLost at h
  cases h
  cases c <;> simp

theorem execFreqWindowEnd_elsewhere (c : Chan) (count : Nat) (s : State) (s1 : State) (h : execFreqWindowEnd c count s = .next s1) : regsOff [.sys, .fc, .sout, .dsf, .lks, .llk, .hly, .cnm, .pwr] s1.regs = regsOff [.sys, .fc, .sout, .dsf, .lks, .llk, .hly, .cnm, .pwr] s.regs := by
  unfold execFreqWindowEnd at h
  cases h
  (try dsimp only)
  repeat' (first | with_reducible rfl | (simp; done) | split)

theorem execRefJudgementWindowEnd_elsewhere (c : Chan) (dev : Int) (s : State) (s1 : State) (h : execRefJudgementWindowEnd c dev s = .next s1) : regsOff [.pwr] s1.regs = regsOff [.pwr] s.regs := by
  unfold execRefJudgementWindowEnd at h
  cases h
  (try dsimp only)
  repeat' (first | with_reducible rfl | (simp; done) | split)

theorem execVsUndervoltage_elsewhere (c : Chan) (s : State) (s1 : State) (h : execVsUndervoltage c s = .next s1) : regsOff [.sys, .fc, .sout, .dsf, .lks, .llk, .hly, .pwr] s1.regs = regsOff [.sys, .fc, .sout, .dsf, .lks, .llk, .hly, .pwr] s.regs := by
  unfold execVsUndervoltage at h
  cases h
  simp

theorem execSupplyMonitorFault_elsewhere (r : Rail) (high : Bool) (s : State) (s1 : State) (h : execSupplyMonitorFault r high s = .next s1) : regsOff [.sys, .fc, .sout, .dsf, .lks, .llk, .hly, .pwr] s1.regs = regsOff [.sys, .fc, .sout, .dsf, .lks, .llk, .hly, .pwr] s.regs := by
  unfold execSupplyMonitorFault at h
  cases h
  simp

theorem execVmzLow_elsewhere (t : Nat) (s : State) (s1 : State) (h : execVmzLow t s = .next s1) : regsOff [] s1.regs = regsOff [] s.regs := by
  unfold execVmzLow at h
  cases h
  simp

theorem execStartComplete_elsewhere (t : Nat) (s : State) (s1 : State) (h : execStartComplete t s = .next s1) : regsOff [.sys, .fc, .hly, .otp, .bst] s1.regs = regsOff [.sys, .fc, .hly, .otp, .bst] s.regs := by
  unfold execStartComplete at h
  cases h
  (try dsimp only)
  repeat' (first | with_reducible rfl | (simp; done) | split)

theorem execGuardCycleBoundary_elsewhere (t : Nat) (a b : DieObs) (s : State) (s1 : State) (h : execGuardCycleBoundary t a b s = .next s1) : regsOff [.sys, .fc, .sin, .sout, .dsf, .lks, .llk, .hly, .cnm] s1.regs = regsOff [.sys, .fc, .sin, .sout, .dsf, .lks, .llk, .hly, .cnm] s.regs := by
  unfold execGuardCycleBoundary at h
  cases h
  simp

theorem execCoordinateSnapshot_elsewhere (t : Nat) (app : BitVec 64) (s : State) (s1 : State) (h : execCoordinateSnapshot t app s = .next s1) : regsOff [.sys, .fc, .lks, .net, .llk, .hly, .adc] s1.regs = regsOff [.sys, .fc, .lks, .net, .llk, .hly, .adc] s.regs := by
  unfold execCoordinateSnapshot at h
  cases h
  simp

theorem execSessionWatchdogExpiry_elsewhere (n : Fin 256) (t : Nat) (s : State) (s1 : State) (h : execSessionWatchdogExpiry n t s = .next s1) : regsOff [.sys, .fc, .net, .llk, .hly] s1.regs = regsOff [.sys, .fc, .net, .llk, .hly] s.regs := by
  unfold execSessionWatchdogExpiry at h
  cases h
  simp

theorem execAiContextStale_elsewhere (c : Chan) (n : Fin 8) (t : Nat) (s : State) (s1 : State) (h : execAiContextStale c n t s = .next s1) : regsOff [.sys, .fc, .llk, .hly, .adc] s1.regs = regsOff [.sys, .fc, .llk, .hly, .adc] s.regs := by
  unfold execAiContextStale at h
  cases h
  (try dsimp only)
  repeat' (first | with_reducible rfl | (simp; done) | split)

theorem execGraphEvaluation_elsewhere (usA usB : Nat) (s : State) (s1 : State) (h : execGraphEvaluation usA usB s = .next s1) : regsOff [.sys, .fc, .lc, .sin, .sout, .lge, .llk, .hly, .mzw, .bst] s1.regs = regsOff [.sys, .fc, .lc, .sin, .sout, .lge, .llk, .hly, .mzw, .bst] s.regs := by
  unfold execGraphEvaluation at h
  cases h
  (try dsimp only)
  repeat' (first | with_reducible rfl | (simp; done) | split)

theorem execResultAgreement_elsewhere (s : State) (s1 : State) (h : execResultAgreement s = .next s1) : regsOff [.lks] s1.regs = regsOff [.lks] s.regs := by
  unfold execResultAgreement at h
  cases h
  (try dsimp only)
  repeat' (first | with_reducible rfl | (simp; done) | split)

theorem execGuardCycleOverrun_elsewhere (c : Chan) (s : State) (s1 : State) (h : execGuardCycleOverrun c s = .next s1) : regsOff [.sys, .fc, .sout, .dsf, .lks, .llk, .hly] s1.regs = regsOff [.sys, .fc, .sout, .dsf, .lks, .llk, .hly] s.regs := by
  unfold execGuardCycleOverrun at h
  cases h
  simp

theorem execStage_elsewhere (s : State) (s1 : State) (h : execStage s = .next s1) : regsOff [] s1.regs = regsOff [] s.regs := by
  unfold execStage at h
  cases h
  (try dsimp only)
  repeat' (first | with_reducible rfl | (simp; done) | split)

theorem execImageEntryWrite_elsewhere (ok : Bool) (t : Nat) (s : State) (s1 : State) (h : execImageEntryWrite ok t s = .next s1) : regsOff [.hly] s1.regs = regsOff [.hly] s.regs := by
  unfold execImageEntryWrite at h
  cases h
  (try dsimp only)
  repeat' (first | with_reducible rfl | (simp; done) | split)

theorem execCommandWatchdogExpiry_elsewhere (c : Chan) (t : Nat) (s : State) (s1 : State) (h : execCommandWatchdogExpiry c t s = .next s1) : regsOff [.sys, .fc, .sout, .dsf, .llk, .hly] s1.regs = regsOff [.sys, .fc, .sout, .dsf, .llk, .hly] s.regs := by
  unfold execCommandWatchdogExpiry at h
  cases h
  simp

theorem execAngleEngineUpdate_elsewhere (c : Chan) (t : Nat) (bad : BitVec 4) (s : State) (s1 : State) (h : execAngleEngineUpdate c t bad s = .next s1) : regsOff [.sys, .fc, .lc, .sout, .dsf, .lks, .llk, .hly, .adc, .tim] s1.regs = regsOff [.sys, .fc, .lc, .sout, .dsf, .lks, .llk, .hly, .adc, .tim] s.regs := by
  unfold execAngleEngineUpdate at h
  cases h
  simp

theorem execMonitoredStopCompletion_elsewhere (s : State) (s1 : State) (h : execMonitoredStopCompletion s = .next s1) : regsOff [] s1.regs = regsOff [] s.regs := by
  unfold execMonitoredStopCompletion at h
  cases h
  simp

theorem execStandstillSet_elsewhere (c : Chan) (t : Nat) (s : State) (s1 : State) (h : execStandstillSet c t s = .next s1) : regsOff [.lc] s1.regs = regsOff [.lc] s.regs := by
  unfold execStandstillSet at h
  cases h
  simp

theorem execSourceFault_elsewhere (c : Chan) (n : Fin 4) (k : SrcFault) (s : State) (s1 : State) (h : execSourceFault c n k s = .next s1) : regsOff [.sys, .fc, .lc, .sout, .dsf, .lks, .llk, .hly] s1.regs = regsOff [.sys, .fc, .lc, .sout, .dsf, .lks, .llk, .hly] s.regs := by
  unfold execSourceFault at h
  cases h
  simp

theorem execSourceFaultConfirmTimeout_elsewhere (c : Chan) (n : Fin 4) (s : State) (s1 : State) (h : execSourceFaultConfirmTimeout c n s = .next s1) : regsOff [.sys, .fc, .sout, .dsf, .lks, .llk, .hly] s1.regs = regsOff [.sys, .fc, .sout, .dsf, .lks, .llk, .hly] s.regs := by
  unfold execSourceFaultConfirmTimeout at h
  cases h
  simp

theorem execSourceXcheckExcess_elsewhere (c : Chan) (s : State) (s1 : State) (h : execSourceXcheckExcess c s = .next s1) : regsOff [.sys, .fc, .lc, .sout, .dsf, .lks, .llk, .hly] s1.regs = regsOff [.sys, .fc, .lc, .sout, .dsf, .lks, .llk, .hly] s.regs := by
  unfold execSourceXcheckExcess at h
  cases h
  simp

theorem execChannelXcheckExcess_elsewhere (s : State) (s1 : State) (h : execChannelXcheckExcess s = .next s1) : regsOff [.sys, .fc, .lc, .sout, .dsf, .lks, .llk, .hly] s1.regs = regsOff [.sys, .fc, .lc, .sout, .dsf, .lks, .llk, .hly] s.regs := by
  unfold execChannelXcheckExcess at h
  cases h
  simp

theorem execCoordinatePlausibility_elsewhere (c : Chan) (s : State) (s1 : State) (h : execCoordinatePlausibility c s = .next s1) : regsOff [.sys, .fc, .sout, .dsf, .lks, .llk, .hly] s1.regs = regsOff [.sys, .fc, .sout, .dsf, .lks, .llk, .hly] s.regs := by
  unfold execCoordinatePlausibility at h
  cases h
  simp

theorem execAngleEngineOverrun_elsewhere (c : Chan) (s : State) (s1 : State) (h : execAngleEngineOverrun c s = .next s1) : regsOff [.sys, .fc, .sout, .dsf, .lks, .llk, .hly] s1.regs = regsOff [.sys, .fc, .sout, .dsf, .lks, .llk, .hly] s.regs := by
  unfold execAngleEngineOverrun at h
  cases h
  simp

theorem execCamPredictedEvent_elsewhere (c : Chan) (n : Fin 1024) (t : Nat) (s : State) (s1 : State) (h : execCamPredictedEvent c n t s = .next s1) : regsOff [.llk, .adc, .tim] s1.regs = regsOff [.llk, .adc, .tim] s.regs := by
  unfold execCamPredictedEvent at h
  cases h
  simp

theorem execCamCrcCheck_elsewhere (c : Chan) (upset : Option (Fin 2113 × Word)) (s : State) (s1 : State) (h : execCamCrcCheck c upset s = .next s1) : regsOff [.sys, .fc, .lc, .sout, .dsf, .lks, .llk, .hly] s1.regs = regsOff [.sys, .fc, .lc, .sout, .dsf, .lks, .llk, .hly] s.regs := by
  unfold execCamCrcCheck at h
  cases h
  have hu : ∀ x : State, x.regs = s.regs ∨ (∃ i w, x.regs = tabSet s.regs (camAddr c i) w ∧ i < 2113) → regsOff [.sys, .fc, .lc, .sout, .dsf, .lks, .llk, .hly] x.regs = regsOff [.sys, .fc, .lc, .sout, .dsf, .lks, .llk, .hly] s.regs := fun x hx => by
    rcases hx with hx | ⟨i, w, hx, hi⟩
    · rw [hx]
    · rw [hx]
      refine outside_tabSet _ _ _ _ .lc (by decide) ?_
      refine inBlock_near .lc (blockBase .lc c) _ 0x10000 (by cases c <;> decide) (by cases c <;> decide) (by unfold camAddr; omega) ?_
      unfold camAddr
      split
      · omega
      · split <;> omega
  cases upset with
  | none =>
    dsimp only
    repeat' (first | with_reducible rfl | (simp; done) | split)
  | some p =>
    have e := hu { s with regs := tabSet s.regs (camAddr c p.1.val) p.2 } (.inr ⟨p.1.val, p.2, rfl, p.1.isLt⟩)
    have ht : ∀ x : State, regsOff [.sys, .fc, .lc, .sout, .dsf, .lks, .llk, .hly] (if x.get CAM_CRC_CRC c = 0 ∧ x.usedPoints c = [] then x else if x.camCrc c = x.get CAM_CRC_CRC c then x.clearCond 20 .none else x.raise (class2Own 20 c (x.camCrc c))).regs = regsOff [.sys, .fc, .lc, .sout, .dsf, .lks, .llk, .hly] x.regs := fun x => by
      repeat' (first | with_reducible rfl | (simp; done) | split)
    exact (ht _).trans e

theorem execMasterAngleFrame_elsewhere (n : Net) (f : MasterFrame) (t : Nat) (s : State) (s1 : State) (h : execMasterAngleFrame n f t s = .next s1) : regsOff [.net] s1.regs = regsOff [.net] s.regs := by
  unfold execMasterAngleFrame at h
  injection h with h
  subst h
  split
  · refine State.police_elsewhere _ _ _ _ (by decide) (fun x => ?_)
    beta_reduce
    dsimp only
    repeat' (first | with_reducible rfl | (simp; done) | split)
  · rfl

theorem execMasterDevTimeout_elsewhere (c : Chan) (s : State) (s1 : State) (h : execMasterDevTimeout c s = .next s1) : regsOff [.sys, .fc, .lc, .llk, .hly] s1.regs = regsOff [.sys, .fc, .lc, .llk, .hly] s.regs := by
  unfold execMasterDevTimeout at h
  cases h
  simp

theorem execInputFilterChange_elsewhere (c : Chan) (pin : Fin 48) (level : Bool) (s : State) (s1 : State) (h : execInputFilterChange c pin level s = .next s1) : regsOff [] s1.regs = regsOff [] s.regs := by
  unfold execInputFilterChange at h
  cases h
  simp

theorem execDiscrepancyTimeout_elsewhere (n : Fin 24) (s : State) (s1 : State) (h : execDiscrepancyTimeout n s = .next s1) : regsOff [.sys, .fc, .sin, .llk, .hly] s1.regs = regsOff [.sys, .fc, .sin, .llk, .hly] s.regs := by
  unfold execDiscrepancyTimeout at h
  cases h
  simp

theorem execComparatorDisagreement_elsewhere (pin : Fin 48) (s : State) (s1 : State) (h : execComparatorDisagreement pin s = .next s1) : regsOff [.sys, .fc, .sin, .llk, .hly] s1.regs = regsOff [.sys, .fc, .sin, .llk, .hly] s.regs := by
  unfold execComparatorDisagreement at h
  cases h
  (try dsimp only)
  repeat' (first | with_reducible rfl | (simp; done) | split)

theorem execTestPulseDue_elsewhere (n : Fin 8) (t : Nat) (s : State) (s1 : State) (h : execTestPulseDue n t s = .next s1) : regsOff [] s1.regs = regsOff [] s.regs := by
  unfold execTestPulseDue at h
  cases h
  simp

theorem execTestPulseTokenGrant_elsewhere (high : BitVec 48) (s : State) (s1 : State) (h : execTestPulseTokenGrant high s = .next s1) : regsOff [.sin, .lks] s1.regs = regsOff [.sin, .lks] s.regs := by
  unfold execTestPulseTokenGrant at h
  cases h
  (try dsimp only)
  repeat' (first | with_reducible rfl | (simp; done) | split)

theorem execTestPulseStart_elsewhere (t : Nat) (s : State) (s1 : State) (h : execTestPulseStart t s = .next s1) : regsOff [.sin] s1.regs = regsOff [.sin] s.regs := by
  unfold execTestPulseStart at h
  cases h
  simp

theorem execTestPulseWidthEnd_elsewhere (a b : PulseObs) (tpLow : Bool) (s : State) (s1 : State) (h : execTestPulseWidthEnd a b tpLow s = .next s1) : regsOff [.sys, .fc, .sin, .sout, .dsf, .lks, .llk, .hly] s1.regs = regsOff [.sys, .fc, .sin, .sout, .dsf, .lks, .llk, .hly] s.regs := by
  unfold execTestPulseWidthEnd at h
  cases h
  simp

theorem execTestPulseSettleEnd_elsewhere (high : BitVec 48) (s : State) (s1 : State) (h : execTestPulseSettleEnd high s = .next s1) : regsOff [.sys, .fc, .sin, .llk, .hly] s1.regs = regsOff [.sys, .fc, .sin, .llk, .hly] s.regs := by
  unfold execTestPulseSettleEnd at h
  cases h
  simp

theorem execSourceLowIdle_elsewhere (n : Fin 8) (s : State) (s1 : State) (h : execSourceLowIdle n s = .next s1) : regsOff [.sys, .fc, .sin, .llk, .hly] s1.regs = regsOff [.sys, .fc, .sin, .llk, .hly] s.regs := by
  unfold execSourceLowIdle at h
  cases h
  simp

theorem execFastKill_elsewhere (c : Chan) (n : Fin 24) (y : Bool) (s : State) (s1 : State) (h : execFastKill c n y s = .next s1) : regsOff [.sys, .fc, .sin, .sout, .llk, .hly] s1.regs = regsOff [.sys, .fc, .sin, .sout, .llk, .hly] s.regs := by
  unfold execFastKill at h
  cases h
  simp

theorem execFastKillRelease_elsewhere (c : Chan) (n : Fin 24) (s : State) (s1 : State) (h : execFastKillRelease c n s = .next s1) : regsOff [.sin, .sout] s1.regs = regsOff [.sin, .sout] s.regs := by
  unfold execFastKillRelease at h
  cases h
  simp

theorem execFastKillCrcCheck_elsewhere (c : Chan) (upset : Option (Fin 24 × Word)) (s : State) (s1 : State) (h : execFastKillCrcCheck c upset s = .next s1) : regsOff [.sys, .fc, .sin, .sout, .dsf, .lks, .llk, .hly] s1.regs = regsOff [.sys, .fc, .sin, .sout, .dsf, .lks, .llk, .hly] s.regs := by
  unfold execFastKillCrcCheck at h
  cases h
  (try dsimp only)
  repeat' (first | with_reducible rfl | (simp; done) | split)

theorem execOutputTestDue_elsewhere (key : Fin 36) (t : Nat) (s : State) (s1 : State) (h : execOutputTestDue key t s = .next s1) : regsOff [] s1.regs = regsOff [] s.regs := by
  unfold execOutputTestDue at h
  cases h
  simp

theorem execOutputTestTokenGrant_elsewhere (t mvA mvB ma : Nat) (tjA tjB : Int) (s : State) (s1 : State) (h : execOutputTestTokenGrant t mvA mvB ma tjA tjB s = .next s1) : regsOff [.sys, .fc, .sout, .lks, .llk, .hly, .cnm] s1.regs = regsOff [.sys, .fc, .sout, .lks, .llk, .hly, .cnm] s.regs := by
  unfold execOutputTestTokenGrant at h
  cases h
  (try dsimp only)
  repeat' (first | with_reducible rfl | (simp; done) | split)

theorem execOutputTestPhaseStart_elsewhere (o : TestObs) (s : State) (s1 : State) (h : execOutputTestPhaseStart o s = .next s1) : regsOff [.sys, .fc, .sin, .sout, .dsf, .lks, .llk, .hly, .cnm] s1.regs = regsOff [.sys, .fc, .sin, .sout, .dsf, .lks, .llk, .hly, .cnm] s.regs := by
  unfold execOutputTestPhaseStart at h
  cases h
  simp

theorem execOutputTestPhaseEnd_elsewhere (t : Nat) (o : TestObs) (s : State) (s1 : State) (h : execOutputTestPhaseEnd t o s = .next s1) : regsOff [.sys, .fc, .sin, .sout, .dsf, .lks, .llk, .hly, .cnm] s1.regs = regsOff [.sys, .fc, .sin, .sout, .dsf, .lks, .llk, .hly, .cnm] s.regs := by
  unfold execOutputTestPhaseEnd at h
  injection h with h
  subst h
  dsimp only
  split
  · split
    · rename_i s' hv
      rw [State.verdict_elsewhere [.sys, .fc, .sin, .sout, .dsf, .lks, .llk, .hly, .cnm] _ _ _ _ _ (by decide) (by decide) (by decide) (by decide) (by decide) (by decide) (by decide) (by decide) hv]
      simp
    · repeat' (first | with_reducible rfl | (simp; done) | split)
  · rfl

theorem execOutputTestVerifyEnd_elsewhere (t : Nat) (o : TestObs) (s : State) (s1 : State) (h : execOutputTestVerifyEnd t o s = .next s1) : regsOff [.sys, .fc, .sin, .sout, .dsf, .lks, .llk, .hly, .cnm] s1.regs = regsOff [.sys, .fc, .sin, .sout, .dsf, .lks, .llk, .hly, .cnm] s.regs := by
  unfold execOutputTestVerifyEnd at h
  cases h
  (try dsimp only)
  repeat' (first | with_reducible rfl | (simp; done) | split)

theorem execOutputReadbackFault_elsewhere (unit : Fin 20) (t : Nat) (o : TestObs) (limA limB : Bool) (s : State) (s1 : State) (h : execOutputReadbackFault unit t o limA limB s = .next s1) : regsOff [.sys, .fc, .sin, .sout, .dsf, .lks, .llk, .hly] s1.regs = regsOff [.sys, .fc, .sin, .sout, .dsf, .lks, .llk, .hly] s.regs := by
  unfold execOutputReadbackFault at h
  cases h
  simp

theorem execCurrentLimitOpen_elsewhere (c : Chan) (unit : Fin 20) (s : State) (s1 : State) (h : execCurrentLimitOpen c unit s = .next s1) : regsOff [.sys, .fc, .sin, .sout, .dsf, .lks, .llk, .hly] s1.regs = regsOff [.sys, .fc, .sin, .sout, .dsf, .lks, .llk, .hly] s.regs := by
  unfold execCurrentLimitOpen at h
  injection h with h
  subst h
  split
  · cases c <;> (dsimp only; rw [State.outFault_elsewhere] <;> first | (simp; done) | decide)
  · dsimp only
    rw [State.lsFault_elsewhere] <;> first | (simp; done) | decide

theorem execReadbackDisagreement_elsewhere (n : Fin 16) (s : State) (s1 : State) (h : execReadbackDisagreement n s = .next s1) : regsOff [.sys, .fc, .sin, .sout, .dsf, .lks, .llk, .hly] s1.regs = regsOff [.sys, .fc, .sin, .sout, .dsf, .lks, .llk, .hly] s.regs := by
  unfold execReadbackDisagreement at h
  cases h
  simp

theorem execOpenLoad_elsewhere (n : Fin 16) (s : State) (s1 : State) (h : execOpenLoad n s = .next s1) : regsOff [.sys, .fc, .sout, .llk, .hly] s1.regs = regsOff [.sys, .fc, .sout, .llk, .hly] s.regs := by
  unfold execOpenLoad at h
  cases h
  simp

theorem execEdmTimeout_elsewhere (n : Fin 512) (s : State) (s1 : State) (h : execEdmTimeout n s = .next s1) : regsOff [.sys, .fc, .llk, .hly] s1.regs = regsOff [.sys, .fc, .llk, .hly] s.regs := by
  unfold execEdmTimeout at h
  cases h
  (try dsimp only)
  repeat' (first | with_reducible rfl | (simp; done) | split)

theorem execGraphIntegrityCheck_elsewhere (c : Chan) (same : Bool) (s : State) (s1 : State) (h : execGraphIntegrityCheck c same s = .next s1) : regsOff [.sys, .fc, .sout, .dsf, .lks, .llk, .hly] s1.regs = regsOff [.sys, .fc, .sout, .dsf, .lks, .llk, .hly] s.regs := by
  unfold execGraphIntegrityCheck at h
  cases h
  simp

theorem execFurlTimerExpiry_elsewhere (c : Chan) (t : Nat) (s : State) (s1 : State) (h : execFurlTimerExpiry c t s = .next s1) : regsOff [.sys, .fc, .sout, .dsf, .lks, .llk, .hly] s1.regs = regsOff [.sys, .fc, .sout, .dsf, .lks, .llk, .hly] s.regs := by
  unfold execFurlTimerExpiry at h
  cases h
  simp

theorem execFurlArmRelease_elsewhere (c : Chan) (s : State) (s1 : State) (h : execFurlArmRelease c s = .next s1) : regsOff [.sys, .fc, .sout, .dsf, .hly] s1.regs = regsOff [.sys, .fc, .sout, .dsf, .hly] s.regs := by
  unfold execFurlArmRelease at h
  cases h
  simp

theorem execTimedStopCompletion_elsewhere (t : Nat) (s : State) (s1 : State) (h : execTimedStopCompletion t s = .next s1) : regsOff [] s1.regs = regsOff [] s.regs := by
  unfold execTimedStopCompletion at h
  cases h
  simp

theorem execStopTimeExceeded_elsewhere (t : Nat) (s : State) (s1 : State) (h : execStopTimeExceeded t s = .next s1) : regsOff [.sys, .fc, .llk, .hly] s1.regs = regsOff [.sys, .fc, .llk, .hly] s.regs := by
  unfold execStopTimeExceeded at h
  cases h
  simp

theorem execBrakeOverlapEnd_elsewhere (t : Nat) (s : State) (s1 : State) (h : execBrakeOverlapEnd t s = .next s1) : regsOff [] s1.regs = regsOff [] s.regs := by
  unfold execBrakeOverlapEnd at h
  cases h
  simp

theorem execFurlCrcCheck_elsewhere (c : Chan) (upset : Option (Fin 3 × Word)) (s : State) (s1 : State) (h : execFurlCrcCheck c upset s = .next s1) : regsOff [.sys, .fc, .sout, .dsf, .lks, .llk, .hly] s1.regs = regsOff [.sys, .fc, .sout, .dsf, .lks, .llk, .hly] s.regs := by
  unfold execFurlCrcCheck at h
  cases h
  (try dsimp only)
  repeat' (first | with_reducible rfl | (simp; done) | split)

theorem execOtherClass2Line_elsewhere (c : Chan) (s : State) (s1 : State) (h : execOtherClass2Line c s = .next s1) : regsOff [.sys, .fc, .hly] s1.regs = regsOff [.sys, .fc, .hly] s.regs := by
  unfold execOtherClass2Line at h
  cases h
  simp

theorem execFcTestInjection_elsewhere (c : Chan) (passed : Bool) (s : State) (s1 : State) (h : execFcTestInjection c passed s = .next s1) : regsOff [.sys, .fc, .sout, .dsf, .lks, .llk, .hly] s1.regs = regsOff [.sys, .fc, .sout, .dsf, .lks, .llk, .hly] s.regs := by
  unfold execFcTestInjection at h
  cases h
  simp

theorem execFltPinMismatch_elsewhere (c : Chan) (level : Bool) (s : State) (s1 : State) (h : execFltPinMismatch c level s = .next s1) : regsOff [.sys, .fc, .sout, .dsf, .lks, .llk, .hly] s1.regs = regsOff [.sys, .fc, .sout, .dsf, .lks, .llk, .hly] s.regs := by
  unfold execFltPinMismatch at h
  cases h
  simp

theorem execConsequentialWindowEnd_elsewhere (n : Fin 16) (s : State) (s1 : State) (h : execConsequentialWindowEnd n s = .next s1) : regsOff [.sys, .fc, .sout, .dsf, .lks, .llk, .hly] s1.regs = regsOff [.sys, .fc, .sout, .dsf, .lks, .llk, .hly] s.regs := by
  unfold execConsequentialWindowEnd at h
  cases h
  simp

theorem execSelftestWarn_elsewhere (s : State) (s1 : State) (h : execSelftestWarn s = .next s1) : regsOff [.fc, .hly] s1.regs = regsOff [.fc, .hly] s.regs := by
  unfold execSelftestWarn at h
  cases h
  simp

theorem execSelftestOverdue_elsewhere (s : State) (s1 : State) (h : execSelftestOverdue s = .next s1) : regsOff [.fc, .hly] s1.regs = regsOff [.fc, .hly] s.regs := by
  unfold execSelftestOverdue at h
  cases h
  simp

theorem execTelltaleReport_elsewhere (c : Chan) (t0 t1 : BitVec 8) (s : State) (s1 : State) (h : execTelltaleReport c t0 t1 s = .next s1) : regsOff [.sys, .fc, .sout, .dsf, .lks, .llk, .hly] s1.regs = regsOff [.sys, .fc, .sout, .dsf, .lks, .llk, .hly] s.regs := by
  unfold execTelltaleReport at h
  cases h
  simp

theorem execForcedMismatch_elsewhere (c : Chan) (t0 t1 : BitVec 8) (s : State) (s1 : State) (h : execForcedMismatch c t0 t1 s = .next s1) : regsOff [.sys, .fc, .sout, .dsf, .lks, .llk, .hly] s1.regs = regsOff [.sys, .fc, .sout, .dsf, .lks, .llk, .hly] s.regs := by
  unfold execForcedMismatch at h
  cases h
  simp

theorem execLatentDivergenceSweep_elsewhere (c : Chan) (us : Fin 201) (diff : Option (Fin 3 × Fin 8192)) (s : State) (s1 : State) (h : execLatentDivergenceSweep c us diff s = .next s1) : regsOff [.sys, .fc, .sout, .dsf, .lks, .llk, .hly] s1.regs = regsOff [.sys, .fc, .sout, .dsf, .lks, .llk, .hly] s.regs := by
  unfold execLatentDivergenceSweep at h
  cases h
  (try dsimp only)
  repeat' (first | with_reducible rfl | (simp; done) | split)

theorem execAsyncInputDisagreement_elsewhere (c : Chan) (input : Fin 64) (cycles : Nat) (s : State) (s1 : State) (h : execAsyncInputDisagreement c input cycles s = .next s1) : regsOff [.sys, .fc, .sout, .dsf, .lks, .llk, .hly] s1.regs = regsOff [.sys, .fc, .sout, .dsf, .lks, .llk, .hly] s.regs := by
  unfold execAsyncInputDisagreement at h
  cases h
  simp

theorem execDebugAttach_elsewhere (c : Chan) (e : DbgElem) (s : State) (s1 : State) (h : execDebugAttach c e s = .next s1) : regsOff [.sys, .fc, .sout, .dsf, .lks, .llk, .hly] s1.regs = regsOff [.sys, .fc, .sout, .dsf, .lks, .llk, .hly] s.regs := by
  unfold execDebugAttach at h
  cases h
  simp

theorem execDebugDetach_elsewhere (c : Chan) (s : State) (s1 : State) (h : execDebugDetach c s = .next s1) : regsOff [.lks] s1.regs = regsOff [.lks] s.regs := by
  unfold execDebugDetach at h
  cases h
  simp

theorem execAppReset_elsewhere (t : Nat) (s : State) (s1 : State) (h : execAppReset t s = .next s1) : regsOff [.tim, .crc] s1.regs = regsOff [.tim, .crc] s.regs := by
  unfold execAppReset at h
  injection h with h
  subst h
  dsimp only
  rw [State.resetFields_elsewhere]
  · simp
  · intro a ha
    simp only [Bool.and_eq_true, decide_eq_true_eq] at ha
    by_cases h6 : a < 0x60010000
    · exact ⟨.tim, by decide, inBlock_near .tim 0x60000000 a 0x10000 (by decide) (by decide) ha.1 h6⟩
    · exact ⟨.crc, by decide, inBlock_near .crc 0x60010000 a 0x10000 (by decide) (by decide) (by omega) (by omega)⟩

theorem execPatrolScrub_elsewhere (m : MemLoc) (e : Ecc) (s : State) (s1 : State) (h : execPatrolScrub m e s = .next s1) : regsOff [.sys, .fc, .sout, .dsf, .lks, .llk, .hly, .cnm] s1.regs = regsOff [.sys, .fc, .sout, .dsf, .lks, .llk, .hly, .cnm] s.regs := by
  unfold execPatrolScrub at h
  cases h
  (try dsimp only)
  repeat' (first | with_reducible rfl | (simp; done) | split)

theorem execStayAlignFrame_elsewhere (c : Chan) (h : StayHead) (offset : Int) (s : State) (s1 : State) (h : execStayAlignFrame c h offset s = .next s1) : regsOff [.fc, .lks, .llk, .hly] s1.regs = regsOff [.fc, .lks, .llk, .hly] s.regs := by
  unfold execStayAlignFrame at h
  cases h
  simp

theorem execStayCoordFrame_elsewhere (c : Chan) (h : StayHead) (s : State) (s1 : State) (h : execStayCoordFrame c h s = .next s1) : regsOff [.fc, .lc, .lks, .llk, .hly] s1.regs = regsOff [.fc, .lc, .lks, .llk, .hly] s.regs := by
  unfold execStayCoordFrame at h
  cases h
  simp

theorem execStayInputFrame_elsewhere (c : Chan) (h : StayHead) (s : State) (s1 : State) (h : execStayInputFrame c h s = .next s1) : regsOff [.fc, .sin, .sout, .lks, .llk, .hly] s1.regs = regsOff [.fc, .sin, .sout, .lks, .llk, .hly] s.regs := by
  unfold execStayInputFrame at h
  cases h
  simp

theorem execStaySnapshotFrame_elsewhere (c : Chan) (h : StayHead) (testOk : Bool) (s : State) (s1 : State) (h : execStaySnapshotFrame c h testOk s = .next s1) : regsOff [.sys, .fc, .sout, .dsf, .lks, .llk, .hly] s1.regs = regsOff [.sys, .fc, .sout, .dsf, .lks, .llk, .hly] s.regs := by
  unfold execStaySnapshotFrame at h
  cases h
  simp

theorem execStayResultFrame_elsewhere (c : Chan) (h : StayHead) (crcSame : Bool) (s : State) (s1 : State) (h : execStayResultFrame c h crcSame s = .next s1) : regsOff [.fc, .lge, .lks, .llk, .hly] s1.regs = regsOff [.fc, .lge, .lks, .llk, .hly] s.regs := by
  unfold execStayResultFrame at h
  cases h
  simp

theorem execStayTokenFrame_elsewhere (c : Chan) (h : StayHead) (t : StayToken) (s : State) (s1 : State) (h : execStayTokenFrame c h t s = .next s1) : regsOff [.fc, .lks, .llk, .hly] s1.regs = regsOff [.fc, .lks, .llk, .hly] s.regs := by
  unfold execStayTokenFrame at h
  cases h
  (try dsimp only)
  repeat' (first | with_reducible rfl | (simp; done) | split)

theorem execStayEventFrame_elsewhere (c : Chan) (h : StayHead) (e : StayEvent) (same : Bool) (s : State) (s1 : State) (h : execStayEventFrame c h e same s = .next s1) : regsOff [.sys, .fc, .lc, .sout, .dsf, .lks, .llk, .hly] s1.regs = regsOff [.sys, .fc, .lc, .sout, .dsf, .lks, .llk, .hly] s.regs := by
  unfold execStayEventFrame at h
  cases h
  (try dsimp only)
  repeat' (first | with_reducible rfl | (simp; done) | split)

theorem execStayHoldFrame_elsewhere (c : Chan) (h : StayHead) (s : State) (s1 : State) (h : execStayHoldFrame c h s = .next s1) : regsOff [.fc, .dsf, .lks, .llk, .hly] s1.regs = regsOff [.fc, .dsf, .lks, .llk, .hly] s.regs := by
  unfold execStayHoldFrame at h
  cases h
  simp

theorem execStayRepeatRequest_elsewhere (c : Chan) (l : Lane) (seq : Nat) (s : State) (s1 : State) (h : execStayRepeatRequest c l seq s = .next s1) : regsOff [.lks] s1.regs = regsOff [.lks] s.regs := by
  unfold execStayRepeatRequest at h
  cases h
  simp

theorem execStayDeadlineMiss_elsewhere (c : Chan) (m : StayMissing) (s : State) (s1 : State) (h : execStayDeadlineMiss c m s = .next s1) : regsOff [.fc, .sin, .sout, .lks, .llk, .hly] s1.regs = regsOff [.fc, .sin, .sout, .lks, .llk, .hly] s.regs := by
  unfold execStayDeadlineMiss at h
  cases h
  (try dsimp only)
  repeat' (first | with_reducible rfl | (simp; done) | split)

theorem execStaySkewFault_elsewhere (c : Chan) (s : State) (s1 : State) (h : execStaySkewFault c s = .next s1) : regsOff [.fc, .lks, .llk, .hly] s1.regs = regsOff [.fc, .lks, .llk, .hly] s.regs := by
  unfold execStaySkewFault at h
  cases h
  simp

theorem execStayTrainingTimeout_elsewhere (s : State) (s1 : State) (h : execStayTrainingTimeout s = .next s1) : regsOff [.sys, .fc, .sout, .dsf, .lks, .llk, .hly] s1.regs = regsOff [.sys, .fc, .sout, .dsf, .lks, .llk, .hly] s.regs := by
  unfold execStayTrainingTimeout at h
  cases h
  simp

theorem execStayAttributionWindowEnd_elsewhere (s : State) (s1 : State) (h : execStayAttributionWindowEnd s = .next s1) : regsOff [.sys, .fc, .sout, .dsf, .lks, .llk, .hly] s1.regs = regsOff [.sys, .fc, .sout, .dsf, .lks, .llk, .hly] s.regs := by
  unfold execStayAttributionWindowEnd at h
  dsimp only at h
  split at h
  · injection h with h
    subst h
    split <;> simp
  · injection h with h
    subst h
    rfl

theorem execGoaleFrameReceived_elsewhere (p : Net) (f : GoaFrame) (t : Nat) (s : State) (s1 : State) (h : execGoaleFrameReceived p f t s = .next s1) : regsOff [.net, .hly] s1.regs = regsOff [.net, .hly] s.regs := by
  unfold execGoaleFrameReceived at h
  cases h
  (try dsimp only)
  repeat' (first | with_reducible rfl | (simp; done) | split)

theorem execTwinWindowEnd_elsewhere (n : Fin 256) (t : Nat) (s : State) (s1 : State) (h : execTwinWindowEnd n t s = .next s1) : regsOff [.net] s1.regs = regsOff [.net] s.regs := by
  unfold execTwinWindowEnd at h
  cases h
  simp

theorem execPathLost_elsewhere (n : Fin 256) (p : Net) (t : Nat) (s : State) (s1 : State) (h : execPathLost n p t s = .next s1) : regsOff [.sys, .fc, .net, .llk, .hly] s1.regs = regsOff [.sys, .fc, .net, .llk, .hly] s.regs := by
  unfold execPathLost at h
  cases h
  simp

theorem execNetworkLinkDown_elsewhere (n : Net) (s : State) (s1 : State) (h : execNetworkLinkDown n s = .next s1) : regsOff [.sys, .fc, .llk, .hly] s1.regs = regsOff [.sys, .fc, .llk, .hly] s.regs := by
  unfold execNetworkLinkDown at h
  cases h
  simp

theorem execNpeFault_elsewhere (n : Net) (s : State) (s1 : State) (h : execNpeFault n s = .next s1) : regsOff [.sys, .fc, .net, .llk, .hly] s1.regs = regsOff [.sys, .fc, .net, .llk, .hly] s.regs := by
  unfold execNpeFault at h
  injection h with h
  subst h
  have e : ∀ x : State, regsOff [.sys, .fc, .net, .llk, .hly] (x.blockReset (blockBase .net .a + 0x100 * netNum n) 0x100).regs = regsOff [.sys, .fc, .net, .llk, .hly] x.regs := fun x =>
    State.blockReset_elsewhere _ x _ _ .net (by decide) (by cases n <;> decide) (by cases n <;> decide)
  simp [e]

theorem execPhyPoll_elsewhere (n : Net) (p1 p2 : Option Bool) (s : State) (s1 : State) (h : execPhyPoll n p1 p2 s = .next s1) : regsOff [.net] s1.regs = regsOff [.net] s.regs := by
  unfold execPhyPoll at h
  cases h
  simp

theorem execPtpMessage_elsewhere (n : Net) (o : PtpObs) (t : Nat) (s : State) (s1 : State) (h : execPtpMessage n o t s = .next s1) : regsOff [.net] s1.regs = regsOff [.net] s.regs := by
  unfold execPtpMessage at h
  cases h
  simp

theorem execPtpSyncTimeout_elsewhere (n : Net) (t : Nat) (s : State) (s1 : State) (h : execPtpSyncTimeout n t s = .next s1) : regsOff [.net] s1.regs = regsOff [.net] s.regs := by
  unfold execPtpSyncTimeout at h
  cases h
  simp

theorem execPtpPps_elsewhere (n : Net) (t : Nat) (s : State) (s1 : State) (h : execPtpPps n t s = .next s1) : regsOff [] s1.regs = regsOff [] s.regs := by
  unfold execPtpPps at h
  cases h
  simp

theorem execArpRequest_elsewhere (n : Net) (t : Nat) (s : State) (s1 : State) (h : execArpRequest n t s = .next s1) : regsOff [.net] s1.regs = regsOff [.net] s.regs := by
  unfold execArpRequest at h
  cases h
  split
  · exact State.police_elsewhere _ _ n _ (by decide) fun x => State.updNet_elsewhere _ x n _
  · rfl

theorem execIcmpEchoRequest_elsewhere (n : Net) (t : Nat) (s : State) (s1 : State) (h : execIcmpEchoRequest n t s = .next s1) : regsOff [.net] s1.regs = regsOff [.net] s.regs := by
  unfold execIcmpEchoRequest at h
  cases h
  split
  · split
    · exact State.police_elsewhere _ _ n _ (by decide) fun x => State.updNet_elsewhere _ x n _
    · simp
  · rfl

theorem execEpochSwitchTime_elsewhere (t : Nat) (s : State) (s1 : State) (h : execEpochSwitchTime t s = .next s1) : regsOff [.net, .hly] s1.regs = regsOff [.net, .hly] s.regs := by
  unfold execEpochSwitchTime at h
  cases h
  (try dsimp only)
  repeat' (first | with_reducible rfl | (simp; done) | split)

theorem execLineLinkTick_elsewhere (t : Nat) (s : State) (s1 : State) (h : execLineLinkTick t s = .next s1) : regsOff [.llk] s1.regs = regsOff [.llk] s.regs := by
  unfold execLineLinkTick at h
  cases h
  simp

theorem execGroupStateFrame_elsewhere (p : Port) (a b : Half) (peak after lost : Nat) (t : Nat) (s : State) (s1 : State) (h : execGroupStateFrame p a b peak after lost t s = .next s1) : regsOff [.sys, .fc, .llk, .hly] s1.regs = regsOff [.sys, .fc, .llk, .hly] s.regs := by
  unfold execGroupStateFrame at h
  injection h with h
  subst h
  dsimp only
  split
  · rfl
  · split
    · rename_i f hf
      have hb : f.blk = .llk := by
        unfold State.frameFails at hf
        dsimp only at hf
        repeat' split at hf
        all_goals first | (have hf := Option.some.inj hf; rw [← hf]; decide) | exact absurd hf (by simp)
      split <;> simp [hb]
    · repeat' (first | with_reducible rfl | (simp; done) | split)

theorem execPortLost_elsewhere (p : Port) (t : Nat) (s : State) (s1 : State) (h : execPortLost p t s = .next s1) : regsOff [.sys, .fc, .llk, .hly] s1.regs = regsOff [.sys, .fc, .llk, .hly] s.regs := by
  unfold execPortLost at h
  cases h
  simp

theorem execRelayFrameReceived_elsewhere (p : Port) (r : List (BitVec 16)) (crcOk : Bool) (peak after lost : Nat) (s : State) (s1 : State) (h : execRelayFrameReceived p r crcOk peak after lost s = .next s1) : regsOff [.sys, .fc, .llk, .hly] s1.regs = regsOff [.sys, .fc, .llk, .hly] s.regs := by
  unfold execRelayFrameReceived at h
  cases h
  simp

theorem execRelayFrameSend_elsewhere (free : Nat) (s : State) (s1 : State) (h : execRelayFrameSend free s = .next s1) : regsOff [.llk] s1.regs = regsOff [.llk] s.regs := by
  unfold execRelayFrameSend at h
  cases h
  (try dsimp only)
  repeat' (first | with_reducible rfl | (simp; done) | split)

theorem execXoffInChange_elsewhere (p : Port) (level : Bool) (t : Nat) (s : State) (s1 : State) (h : execXoffInChange p level t s = .next s1) : regsOff [.llk] s1.regs = regsOff [.llk] s.regs := by
  unfold execXoffInChange at h
  cases h
  simp

theorem execXoffInHeld_elsewhere (p : Port) (t : Nat) (s : State) (s1 : State) (h : execXoffInHeld p t s = .next s1) : regsOff [.sys, .fc, .llk, .hly] s1.regs = regsOff [.sys, .fc, .llk, .hly] s.regs := by
  unfold execXoffInHeld at h
  cases h
  simp

theorem execLleFault_elsewhere (s : State) (s1 : State) (h : execLleFault s = .next s1) : regsOff [.sys, .fc, .llk, .hly] s1.regs = regsOff [.sys, .fc, .llk, .hly] s.regs := by
  unfold execLleFault at h
  injection h with h
  subst h
  have e : ∀ x : State, regsOff [.sys, .fc, .llk, .hly] (x.blockReset (blockBase .llk .a) 0x400).regs = regsOff [.sys, .fc, .llk, .hly] x.regs := fun x =>
    State.blockReset_elsewhere _ x _ _ .llk (by decide) (by decide) (by decide)
  simp [e]

theorem execRecFlushTimeout_elsewhere (s : State) (s1 : State) (h : execRecFlushTimeout s = .next s1) : regsOff [.llk] s1.regs = regsOff [.llk] s.regs := by
  unfold execRecFlushTimeout at h
  cases h
  simp

theorem execRecClockTimeout_elsewhere (s : State) (s1 : State) (h : execRecClockTimeout s = .next s1) : regsOff [.sys, .fc, .llk, .hly] s1.regs = regsOff [.sys, .fc, .llk, .hly] s.regs := by
  unfold execRecClockTimeout at h
  cases h
  simp

theorem execHlySetupDone_elsewhere (msix testRead : Bool) (t : Nat) (s : State) (s1 : State) (h : execHlySetupDone msix testRead t s = .next s1) : regsOff [.sys, .fc, .sout, .dsf, .lks, .llk, .hly, .otp] s1.regs = regsOff [.sys, .fc, .sout, .dsf, .lks, .llk, .hly, .otp] s.regs := by
  unfold execHlySetupDone at h
  cases h
  simp

theorem execBar0WriteDenied_elsewhere (off : BitVec 16) (s : State) (s1 : State) (h : execBar0WriteDenied off s = .next s1) : regsOff [.sys, .fc, .sout, .dsf, .lks, .llk, .hly, .otp] s1.regs = regsOff [.sys, .fc, .sout, .dsf, .lks, .llk, .hly, .otp] s.regs := by
  unfold execBar0WriteDenied at h
  cases h
  simp

theorem execDoorbellKick_elsewhere (n : Fin 8) (s : State) (s1 : State) (h : execDoorbellKick n s = .next s1) : regsOff [] s1.regs = regsOff [] s.regs := by
  unfold execDoorbellKick at h
  cases h
  simp

theorem execDoorbellPoll_elsewhere (o : PollObs) (t : Nat) (s : State) (s1 : State) (h : execDoorbellPoll o t s = .next s1) : regsOff [.fc, .hly] s1.regs = regsOff [.fc, .hly] s.regs := by
  unfold execDoorbellPoll at h
  cases h
  simp

theorem execDoorbellReadFailures_elsewhere (s : State) (s1 : State) (h : execDoorbellReadFailures s = .next s1) : regsOff [.sys, .fc, .llk, .hly, .otp] s1.regs = regsOff [.sys, .fc, .llk, .hly, .otp] s.regs := by
  unfold execDoorbellReadFailures at h
  cases h
  simp

theorem execHeartbeatTimeout_elsewhere (t : Nat) (s : State) (s1 : State) (h : execHeartbeatTimeout t s = .next s1) : regsOff [.sys, .fc, .llk, .hly, .otp] s1.regs = regsOff [.sys, .fc, .llk, .hly, .otp] s.regs := by
  unfold execHeartbeatTimeout at h
  cases h
  simp

theorem execBusMasterDisable_elsewhere (s : State) (s1 : State) (h : execBusMasterDisable s = .next s1) : regsOff [.sys, .fc, .llk, .hly, .otp] s1.regs = regsOff [.sys, .fc, .llk, .hly, .otp] s.regs := by
  unfold execBusMasterDisable at h
  cases h
  simp

theorem execPcieLinkLoss_elsewhere (s : State) (s1 : State) (h : execPcieLinkLoss s = .next s1) : regsOff [.sys, .fc, .llk, .hly, .otp] s1.regs = regsOff [.sys, .fc, .llk, .hly, .otp] s.regs := by
  unfold execPcieLinkLoss at h
  cases h
  simp

theorem execPcieFlr_elsewhere (s : State) (s1 : State) (h : execPcieFlr s = .next s1) : regsOff [.sys, .fc, .llk, .hly, .otp] s1.regs = regsOff [.sys, .fc, .llk, .hly, .otp] s.regs := by
  unfold execPcieFlr at h
  cases h
  simp

theorem execPcieD3hot_elsewhere (s : State) (s1 : State) (h : execPcieD3hot s = .next s1) : regsOff [.sys, .fc, .llk, .hly, .otp] s1.regs = regsOff [.sys, .fc, .llk, .hly, .otp] s.regs := by
  unfold execPcieD3hot at h
  cases h
  simp

theorem execIrqDelayExpiry_elsewhere (v : Fin 8) (t : Nat) (s : State) (s1 : State) (h : execIrqDelayExpiry v t s = .next s1) : regsOff [] s1.regs = regsOff [] s.regs := by
  unfold execIrqDelayExpiry at h
  cases h
  (try dsimp only)
  repeat' (first | with_reducible rfl | (simp; done) | split)

theorem execEventRingWrite_elsewhere (ok : Bool) (t : Nat) (s : State) (s1 : State) (h : execEventRingWrite ok t s = .next s1) : regsOff [.hly] s1.regs = regsOff [.hly] s.regs := by
  unfold execEventRingWrite at h
  cases h
  (try dsimp only)
  repeat' (first | with_reducible rfl | (simp; done) | split)

theorem execHalyardFault_elsewhere (s : State) (s1 : State) (h : execHalyardFault s = .next s1) : regsOff [.sys, .fc, .llk, .hly] s1.regs = regsOff [.sys, .fc, .llk, .hly] s.regs := by
  unfold execHalyardFault at h
  injection h with h
  subst h
  have e : ∀ x : State, regsOff [.sys, .fc, .llk, .hly] (x.blockReset (blockBase .hly .a)).regs = regsOff [.sys, .fc, .llk, .hly] x.regs := fun x =>
    State.blockReset_elsewhere _ x _ _ .hly (by decide) (by decide) (by decide)
  split <;> simp [e]

theorem execNop_elsewhere (r : Fin 8) (d : Desc) (s : State) (s1 : State) (h : execNop r d s = .next s1) : regsOff [.hly] s1.regs = regsOff [.hly] s.regs := by
  unfold execNop at h
  cases h
  simp

theorem execGetInfo_elsewhere (r : Fin 8) (d : Desc) (s : State) (s1 : State) (h : execGetInfo r d s = .next s1) : regsOff [.fc, .hly] s1.regs = regsOff [.fc, .hly] s.regs := by
  unfold execGetInfo at h
  cases h
  simp

theorem execShutdown_elsewhere (r : Fin 8) (d : Desc) (s : State) (s1 : State) (h : execShutdown r d s = .next s1) : regsOff [.sys, .fc, .sout, .llk, .hly, .bst] s1.regs = regsOff [.sys, .fc, .sout, .llk, .hly, .bst] s.regs := by
  unfold execShutdown at h
  cases h
  (try dsimp only)
  repeat' (first | with_reducible rfl | (simp; done) | (apply State.command_elsewhere) | (apply State.withScope_elsewhere) | (apply State.alone_elsewhere) | (apply State.mzTake_elsewhere) | (apply State.mzAnswer_elsewhere) | (apply State.guarded_elsewhere) | (apply State.police_elsewhere) | (intro x; beta_reduce) | (intro x a; beta_reduce) | split | (dsimp only))

theorem execAuthChallenge_elsewhere (r : Fin 8) (d : Desc) (s : State) (s1 : State) (h : execAuthChallenge r d s = .next s1) : regsOff [.hly] s1.regs = regsOff [.hly] s.regs := by
  unfold execAuthChallenge at h
  cases h
  (try dsimp only)
  repeat' (first | with_reducible rfl | (simp; done) | (apply State.command_elsewhere) | (apply State.withScope_elsewhere) | (apply State.alone_elsewhere) | (apply State.mzTake_elsewhere) | (apply State.mzAnswer_elsewhere) | (apply State.guarded_elsewhere) | (apply State.police_elsewhere) | (intro x; beta_reduce) | (intro x a; beta_reduce) | split | (dsimp only))

theorem execAuthResponse_elsewhere (r : Fin 8) (d : Desc) (a : AuthResp) (s : State) (s1 : State) (h : execAuthResponse r d a s = .next s1) : regsOff [.sys, .fc, .llk, .hly, .otp] s1.regs = regsOff [.sys, .fc, .llk, .hly, .otp] s.regs := by
  unfold execAuthResponse at h
  cases h
  (try dsimp only)
  repeat' (first | with_reducible rfl | (simp; done) | (apply State.command_elsewhere) | (apply State.withScope_elsewhere) | (apply State.alone_elsewhere) | (apply State.mzTake_elsewhere) | (apply State.mzAnswer_elsewhere) | (apply State.guarded_elsewhere) | (apply State.police_elsewhere) | (intro x; beta_reduce) | (intro x a; beta_reduce) | split | (dsimp only))

theorem execAuthEnd_elsewhere (r : Fin 8) (d : Desc) (s : State) (s1 : State) (h : execAuthEnd r d s = .next s1) : regsOff [.hly, .otp] s1.regs = regsOff [.hly, .otp] s.regs := by
  unfold execAuthEnd at h
  cases h
  simp

theorem execFwStage_elsewhere (r : Fin 8) (d : Desc) (f : StageFile) (s : State) (s1 : State) (h : execFwStage r d f s = .next s1) : regsOff [.hly, .otp, .bst] s1.regs = regsOff [.hly, .otp, .bst] s.regs := by
  unfold execFwStage at h
  cases h
  (try dsimp only)
  repeat' (first | with_reducible rfl | (simp; done) | (apply State.command_elsewhere) | (apply State.withScope_elsewhere) | (apply State.alone_elsewhere) | (apply State.mzTake_elsewhere) | (apply State.mzAnswer_elsewhere) | (apply State.guarded_elsewhere) | (apply State.police_elsewhere) | (intro x; beta_reduce) | (intro x a; beta_reduce) | split | (dsimp only))

theorem execKeyInstall_elsewhere (r : Fin 8) (d : Desc) (k : KeyBlob) (s : State) (s1 : State) (h : execKeyInstall r d k s = .next s1) : regsOff [.net, .hly, .otp] s1.regs = regsOff [.net, .hly, .otp] s.regs := by
  unfold execKeyInstall at h
  cases h
  (try dsimp only)
  repeat' (first | with_reducible rfl | (simp; done) | (apply State.command_elsewhere) | (apply State.withScope_elsewhere) | (apply State.alone_elsewhere) | (apply State.mzTake_elsewhere) | (apply State.mzAnswer_elsewhere) | (apply State.guarded_elsewhere) | (apply State.police_elsewhere) | (intro x; beta_reduce) | (intro x a; beta_reduce) | split | (dsimp only))

theorem execKeyRemove_elsewhere (r : Fin 8) (d : Desc) (s : State) (s1 : State) (h : execKeyRemove r d s = .next s1) : regsOff [.net, .hly, .otp] s1.regs = regsOff [.net, .hly, .otp] s.regs := by
  unfold execKeyRemove at h
  cases h
  (try dsimp only)
  repeat' (first | with_reducible rfl | (simp; done) | (apply State.command_elsewhere) | (apply State.withScope_elsewhere) | (apply State.alone_elsewhere) | (apply State.mzTake_elsewhere) | (apply State.mzAnswer_elsewhere) | (apply State.guarded_elsewhere) | (apply State.police_elsewhere) | (intro x; beta_reduce) | (intro x a; beta_reduce) | split | (dsimp only))

theorem execEpochSwitch_elsewhere (r : Fin 8) (d : Desc) (s : State) (s1 : State) (h : execEpochSwitch r d s = .next s1) : regsOff [.hly, .otp] s1.regs = regsOff [.hly, .otp] s.regs := by
  unfold execEpochSwitch at h
  dsimp only at h
  split at h
  · injection h with h
    subst h
    simp
  · injection h with h
    subst h
    repeat' (first | with_reducible rfl | (simp; done) | (apply State.command_elsewhere) | (apply State.withScope_elsewhere) | (apply State.alone_elsewhere) | (intro x; beta_reduce) | split | (dsimp only))

theorem execAttest_elsewhere (r : Fin 8) (d : Desc) (nonce : BitVec 256) (s : State) (s1 : State) (h : execAttest r d nonce s = .next s1) : regsOff [.fc, .hly] s1.regs = regsOff [.fc, .hly] s.regs := by
  unfold execAttest at h
  cases h
  (try dsimp only)
  repeat' (first | with_reducible rfl | (simp; done) | split)

theorem execRingReset_elsewhere (r : Fin 8) (d : Desc) (s : State) (s1 : State) (h : execRingReset r d s = .next s1) : regsOff [.hly] s1.regs = regsOff [.hly] s.regs := by
  unfold execRingReset at h
  cases h
  (try dsimp only)
  repeat' (first | with_reducible rfl | (simp; done) | (apply State.command_elsewhere) | (apply State.withScope_elsewhere) | (apply State.alone_elsewhere) | (apply State.mzTake_elsewhere) | (apply State.mzAnswer_elsewhere) | (apply State.guarded_elsewhere) | (apply State.police_elsewhere) | (intro x; beta_reduce) | (intro x a; beta_reduce) | split | (dsimp only))

theorem execSetPoll_elsewhere (r : Fin 8) (d : Desc) (s : State) (s1 : State) (h : execSetPoll r d s = .next s1) : regsOff [.hly] s1.regs = regsOff [.hly] s.regs := by
  unfold execSetPoll at h
  cases h
  (try dsimp only)
  repeat' (first | with_reducible rfl | (simp; done) | split)

theorem execAuthorityIdleTimeout_elsewhere (r : Fin 8) (t : Nat) (s : State) (s1 : State) (h : execAuthorityIdleTimeout r t s = .next s1) : regsOff [.hly, .otp] s1.regs = regsOff [.hly, .otp] s.regs := by
  unfold execAuthorityIdleTimeout at h
  cases h
  simp

theorem execNonceLapse_elsewhere (r : Fin 8) (t : Nat) (s : State) (s1 : State) (h : execNonceLapse r t s = .next s1) : regsOff [] s1.regs = regsOff [] s.regs := by
  unfold execNonceLapse at h
  cases h
  (try dsimp only)
  repeat' (first | with_reducible rfl | (simp; done) | split)

theorem execAuthBackoffEnd_elsewhere (t : Nat) (s : State) (s1 : State) (h : execAuthBackoffEnd t s = .next s1) : regsOff [.otp] s1.regs = regsOff [.otp] s.regs := by
  unfold execAuthBackoffEnd at h
  cases h
  (try dsimp only)
  repeat' (first | with_reducible rfl | (simp; done) | split)

theorem execServiceDurationEnd_elsewhere (t : Nat) (s : State) (s1 : State) (h : execServiceDurationEnd t s = .next s1) : regsOff [.hly, .otp] s1.regs = regsOff [.hly, .otp] s.regs := by
  unfold execServiceDurationEnd at h
  cases h
  (try dsimp only)
  repeat' (first | with_reducible rfl | (simp; done) | split)

theorem execRefitStopped_elsewhere (s : State) (s1 : State) (h : execRefitStopped s = .next s1) : regsOff [.lge, .hly] s1.regs = regsOff [.lge, .hly] s.regs := by
  unfold execRefitStopped at h
  cases h
  simp

theorem execAdcConversionDone_elsewhere (k : Fin 4) (raw : BitVec 16) (t : Nat) (s : State) (s1 : State) (h : execAdcConversionDone k raw t s = .next s1) : regsOff [.sys, .fc, .llk, .hly, .adc, .cnm, .pwr] s1.regs = regsOff [.sys, .fc, .llk, .hly, .adc, .cnm, .pwr] s.regs := by
  unfold execAdcConversionDone at h
  cases h
  simp

theorem execAdcRefXchkFault_elsewhere (k : Fin 4) (s : State) (s1 : State) (h : execAdcRefXchkFault k s = .next s1) : regsOff [.sys, .fc, .llk, .hly, .adc] s1.regs = regsOff [.sys, .fc, .llk, .hly, .adc] s.regs := by
  unfold execAdcRefXchkFault at h
  cases h
  simp

theorem execIosInjectionTrigger_elsewhere (k : Fin 4) (n : Fin 56) (s : State) (s1 : State) (h : execIosInjectionTrigger k n s = .next s1) : regsOff [.adc] s1.regs = regsOff [.adc] s.regs := by
  unfold execIosInjectionTrigger at h
  cases h
  simp

theorem execMonitorBurst_elsewhere (k : Fin 4) (s : State) (s1 : State) (h : execMonitorBurst k s = .next s1) : regsOff [.adc] s1.regs = regsOff [.adc] s.regs := by
  unfold execMonitorBurst at h
  cases h
  simp

theorem execCalibrationDue_elsewhere (k : Fin 4) (request : Bool) (t : Nat) (s : State) (s1 : State) (h : execCalibrationDue k request t s = .next s1) : regsOff [.adc] s1.regs = regsOff [.adc] s.regs := by
  unfold execCalibrationDue at h
  cases h
  simp

theorem execCalibrationOverdue_elsewhere (k : Fin 4) (t : Nat) (s : State) (s1 : State) (h : execCalibrationOverdue k t s = .next s1) : regsOff [.sys, .fc, .llk, .hly, .adc] s1.regs = regsOff [.sys, .fc, .llk, .hly, .adc] s.regs := by
  unfold execCalibrationOverdue at h
  cases h
  simp

theorem execConversionTimeout_elsewhere (k : Fin 4) (s : State) (s1 : State) (h : execConversionTimeout k s = .next s1) : regsOff [.sys, .fc, .llk, .hly, .adc] s1.regs = regsOff [.sys, .fc, .llk, .hly, .adc] s.regs := by
  unfold execConversionTimeout at h
  cases h
  simp

theorem execAdcCtxClr_elsewhere (k : Fin 4) (n : Fin 64) (ownSc : Bool) (s : State) (s1 : State) (h : execAdcCtxClr k n ownSc s = .next s1) : regsOff [] s1.regs = regsOff [] s.regs := by
  unfold execAdcCtxClr at h
  cases h
  simp

theorem execFcRecAck_elsewhere (i : Initiator) (c : Chan) (n : Fin 17) (s : State) (s1 : State) (h : execFcRecAck i c n s = .next s1) : regsOff [.sys, .fc, .sout, .dsf, .lks, .llk, .hly, .otp] s1.regs = regsOff [.sys, .fc, .sout, .dsf, .lks, .llk, .hly, .otp] s.regs := by
  unfold execFcRecAck at h
  cases h
  simp

theorem execTimCmpWrite_elsewhere (i : Initiator) (u : Unit3) (n : Fin 32) (v : Word) (t : Nat) (s : State) (s1 : State) (h : execTimCmpWrite i u n v t s = .next s1) : regsOff [.sys, .fc, .sout, .dsf, .lks, .llk, .hly, .tim, .otp] s1.regs = regsOff [.sys, .fc, .sout, .dsf, .lks, .llk, .hly, .tim, .otp] s.regs := by
  unfold execTimCmpWrite at h
  cases h
  simp

theorem execTimCmpDisarm_elsewhere (i : Initiator) (u : Unit3) (n : Fin 32) (t : Nat) (s : State) (s1 : State) (h : execTimCmpDisarm i u n t s = .next s1) : regsOff [.sys, .fc, .sout, .dsf, .lks, .llk, .hly, .tim, .otp] s1.regs = regsOff [.sys, .fc, .sout, .dsf, .lks, .llk, .hly, .tim, .otp] s.regs := by
  unfold execTimCmpDisarm at h
  cases h
  simp

theorem execTimCountWrite_elsewhere (i : Initiator) (u : Unit3) (k : Fin 8) (v : Word) (t : Nat) (s : State) (s1 : State) (h : execTimCountWrite i u k v t s = .next s1) : regsOff [.sys, .fc, .sout, .dsf, .lks, .llk, .hly, .tim, .otp] s1.regs = regsOff [.sys, .fc, .sout, .dsf, .lks, .llk, .hly, .tim, .otp] s.regs := by
  unfold execTimCountWrite at h
  cases h
  simp

theorem execTimPCfgWrite_elsewhere (i : Initiator) (k : Fin 8) (v : Word) (t : Nat) (s : State) (s1 : State) (h : execTimPCfgWrite i k v t s = .next s1) : regsOff [.sys, .fc, .sout, .dsf, .lks, .llk, .hly, .tim, .otp] s1.regs = regsOff [.sys, .fc, .sout, .dsf, .lks, .llk, .hly, .tim, .otp] s.regs := by
  unfold execTimPCfgWrite at h
  cases h
  apply State.guarded_elsewhere
  all_goals first | (simp; done) | skip
  intro x
  dsimp only
  split
  · simp
  · have e : ∀ (y : State) (v : Word), regsOff [.sys, .fc, .sout, .dsf, .lks, .llk, .hly, .tim, .otp] (tabSet y.regs (timBase .p + 0x20 * k.val) v) = regsOff [.sys, .fc, .sout, .dsf, .lks, .llk, .hly, .tim, .otp] y.regs := fun y v =>
      outside_tabSet _ _ _ _ .tim (by decide) (inBlock_near .tim 0x60000000 _ 0x10000 (by decide) (by decide) (by show 0x60000000 ≤ 0x60000000 + _; omega) (by have := k.isLt; show 0x60000000 + _ < _; omega))
    split
    · rw [State.updTim_elsewhere, State.putT_elsewhere _ _ _ _ _ _ (by decide)]
      refine (e _ _).trans ?_
      simp
    · rw [State.putT_elsewhere _ _ _ _ _ _ (by decide)]
      refine (e _ _).trans ?_
      simp

theorem execTimerCompareMatch_elsewhere (u : Unit3) (t : Nat) (s : State) (s1 : State) (h : execTimerCompareMatch u t s = .next s1) : regsOff [.tim] s1.regs = regsOff [.tim] s.regs := by
  unfold execTimerCompareMatch at h
  cases h
  simp

theorem execTimerOverflow_elsewhere (u : Unit3) (t : Nat) (s : State) (s1 : State) (h : execTimerOverflow u t s = .next s1) : regsOff [.tim] s1.regs = regsOff [.tim] s.regs := by
  unfold execTimerOverflow at h
  cases h
  simp

theorem execTmioCaptureEdge_elsewhere (k : Fin 4) (level : Bool) (t : Nat) (s : State) (s1 : State) (h : execTmioCaptureEdge k level t s = .next s1) : regsOff [.tim] s1.regs = regsOff [.tim] s.regs := by
  unfold execTmioCaptureEdge at h
  cases h
  simp

theorem execCrcGo_elsewhere (i : Initiator) (u : Unit3) (s : State) (s1 : State) (h : execCrcGo i u s = .next s1) : regsOff [.sys, .fc, .sout, .dsf, .lks, .llk, .hly, .crc, .otp] s1.regs = regsOff [.sys, .fc, .sout, .dsf, .lks, .llk, .hly, .crc, .otp] s.regs := by
  unfold execCrcGo at h
  cases h
  simp

theorem execOtpRead_elsewhere (i : Initiator) (n : Fin 512) (s : State) (s1 : State) (h : execOtpRead i n s = .next s1) : regsOff [.sys, .fc, .sout, .dsf, .lks, .llk, .hly, .otp] s1.regs = regsOff [.sys, .fc, .sout, .dsf, .lks, .llk, .hly, .otp] s.regs := by
  unfold execOtpRead at h
  cases h
  simp

theorem execOtpMread_elsewhere (i : Initiator) (n : Fin 512) (s : State) (s1 : State) (h : execOtpMread i n s = .next s1) : regsOff [.sys, .fc, .sout, .dsf, .lks, .llk, .hly, .otp] s1.regs = regsOff [.sys, .fc, .sout, .dsf, .lks, .llk, .hly, .otp] s.regs := by
  unfold execOtpMread at h
  cases h
  simp

theorem execOtpProgram_elsewhere (i : Initiator) (n : Fin 512) (s : State) (s1 : State) (h : execOtpProgram i n s = .next s1) : regsOff [.sys, .fc, .sout, .dsf, .lks, .llk, .hly, .otp] s1.regs = regsOff [.sys, .fc, .sout, .dsf, .lks, .llk, .hly, .otp] s.regs := by
  unfold execOtpProgram at h
  cases h
  simp

theorem execOtpLock_elsewhere (i : Initiator) (g : Fin 512) (s : State) (s1 : State) (h : execOtpLock i g s = .next s1) : regsOff [.sys, .fc, .sout, .dsf, .lks, .llk, .hly, .otp] s1.regs = regsOff [.sys, .fc, .sout, .dsf, .lks, .llk, .hly, .otp] s.regs := by
  unfold execOtpLock at h
  cases h
  simp

theorem execOtpVoid_elsewhere (i : Initiator) (g : Fin 512) (s : State) (s1 : State) (h : execOtpVoid i g s = .next s1) : regsOff [.sys, .fc, .sout, .dsf, .lks, .llk, .hly, .otp] s1.regs = regsOff [.sys, .fc, .sout, .dsf, .lks, .llk, .hly, .otp] s.regs := by
  unfold execOtpVoid at h
  cases h
  simp

theorem execOtpCommandDone_elsewhere (o : Sense) (ok : Bool) (s : State) (s1 : State) (h : execOtpCommandDone o ok s = .next s1) : regsOff [.sys, .fc, .net, .llk, .hly, .otp, .bst] s1.regs = regsOff [.sys, .fc, .net, .llk, .hly, .otp, .bst] s.regs := by
  unfold execOtpCommandDone at h
  cases h
  (try dsimp only)
  repeat' (first | with_reducible rfl | (simp; done) | split)

theorem execSecFwCommit_elsewhere (i : Initiator) (s : State) (s1 : State) (h : execSecFwCommit i s = .next s1) : regsOff [.sys, .fc, .sout, .dsf, .lks, .llk, .hly, .otp] s1.regs = regsOff [.sys, .fc, .sout, .dsf, .lks, .llk, .hly, .otp] s.regs := by
  unfold execSecFwCommit at h
  cases h
  simp

theorem execSecFwLoad_elsewhere (i : Initiator) (s : State) (s1 : State) (h : execSecFwLoad i s = .next s1) : regsOff [.sys, .fc, .sout, .dsf, .lks, .llk, .hly, .otp] s1.regs = regsOff [.sys, .fc, .sout, .dsf, .lks, .llk, .hly, .otp] s.regs := by
  unfold execSecFwLoad at h
  cases h
  simp

theorem execLotOpen_elsewhere (t : Nat) (s : State) (s1 : State) (h : execLotOpen t s = .next s1) : regsOff [.mzw] s1.regs = regsOff [.mzw] s.regs := by
  unfold execLotOpen at h
  cases h
  (try dsimp only)
  repeat' (first | with_reducible rfl | (simp; done) | (apply State.command_elsewhere) | (apply State.withScope_elsewhere) | (apply State.alone_elsewhere) | (apply State.mzTake_elsewhere) | (apply State.mzAnswer_elsewhere) | (apply State.guarded_elsewhere) | (apply State.police_elsewhere) | (intro x; beta_reduce) | (intro x a; beta_reduce) | split | (dsimp only))

theorem execLotClose_elsewhere (t : Nat) (s : State) (s1 : State) (h : execLotClose t s = .next s1) : regsOff [.mzw] s1.regs = regsOff [.mzw] s.regs := by
  unfold execLotClose at h
  cases h
  (try dsimp only)
  repeat' (first | with_reducible rfl | (simp; done) | (apply State.command_elsewhere) | (apply State.withScope_elsewhere) | (apply State.alone_elsewhere) | (apply State.mzTake_elsewhere) | (apply State.mzAnswer_elsewhere) | (apply State.guarded_elsewhere) | (apply State.police_elsewhere) | (intro x; beta_reduce) | (intro x a; beta_reduce) | split | (dsimp only))

theorem execLotCut_elsewhere (t : Nat) (s : State) (s1 : State) (h : execLotCut t s = .next s1) : regsOff [.mzw] s1.regs = regsOff [.mzw] s.regs := by
  unfold execLotCut at h
  cases h
  simp

theorem execReadLot_elsewhere (t : Nat) (s : State) (s1 : State) (h : execReadLot t s = .next s1) : regsOff [.mzw] s1.regs = regsOff [.mzw] s.regs := by
  unfold execReadLot at h
  cases h
  (try dsimp only)
  repeat' (first | with_reducible rfl | (simp; done) | (apply State.command_elsewhere) | (apply State.withScope_elsewhere) | (apply State.alone_elsewhere) | (apply State.mzTake_elsewhere) | (apply State.mzAnswer_elsewhere) | (apply State.guarded_elsewhere) | (apply State.police_elsewhere) | (intro x; beta_reduce) | (intro x a; beta_reduce) | split | (dsimp only))

theorem execReadAudit_elsewhere (t : Nat) (s : State) (s1 : State) (h : execReadAudit t s = .next s1) : regsOff [.mzw] s1.regs = regsOff [.mzw] s.regs := by
  unfold execReadAudit at h
  cases h
  (try dsimp only)
  repeat' (first | with_reducible rfl | (simp; done) | (apply State.command_elsewhere) | (apply State.withScope_elsewhere) | (apply State.alone_elsewhere) | (apply State.mzTake_elsewhere) | (apply State.mzAnswer_elsewhere) | (apply State.guarded_elsewhere) | (apply State.police_elsewhere) | (intro x; beta_reduce) | (intro x a; beta_reduce) | split | (dsimp only))

theorem execReadEvent_elsewhere (t : Nat) (s : State) (s1 : State) (h : execReadEvent t s = .next s1) : regsOff [.mzw] s1.regs = regsOff [.mzw] s.regs := by
  unfold execReadEvent at h
  cases h
  (try dsimp only)
  repeat' (first | with_reducible rfl | (simp; done) | (apply State.command_elsewhere) | (apply State.withScope_elsewhere) | (apply State.alone_elsewhere) | (apply State.mzTake_elsewhere) | (apply State.mzAnswer_elsewhere) | (apply State.guarded_elsewhere) | (apply State.police_elsewhere) | (intro x; beta_reduce) | (intro x a; beta_reduce) | split | (dsimp only))

theorem execReadCert_elsewhere (t : Nat) (s : State) (s1 : State) (h : execReadCert t s = .next s1) : regsOff [.mzw] s1.regs = regsOff [.mzw] s.regs := by
  unfold execReadCert at h
  cases h
  (try dsimp only)
  repeat' (first | with_reducible rfl | (simp; done) | (apply State.command_elsewhere) | (apply State.withScope_elsewhere) | (apply State.alone_elsewhere) | (apply State.mzTake_elsewhere) | (apply State.mzAnswer_elsewhere) | (apply State.guarded_elsewhere) | (apply State.police_elsewhere) | (intro x; beta_reduce) | (intro x a; beta_reduce) | split | (dsimp only))

theorem execTimeHint_elsewhere (t : Nat) (s : State) (s1 : State) (h : execTimeHint t s = .next s1) : regsOff [.mzw] s1.regs = regsOff [.mzw] s.regs := by
  unfold execTimeHint at h
  cases h
  exact (State.mzTake_elsewhere _ _ _ _ (by decide) fun x a => State.updMz_elsewhere _ x _).trans (by simp)

theorem execMzwCommandRefused_elsewhere (k : MzRefusal) (t : Nat) (s : State) (s1 : State) (h : execMzwCommandRefused k t s = .next s1) : regsOff [.sys, .fc, .llk, .hly, .mzw] s1.regs = regsOff [.sys, .fc, .llk, .hly, .mzw] s.regs := by
  unfold execMzwCommandRefused at h
  cases h
  (try dsimp only)
  repeat' (first | with_reducible rfl | (simp; done) | split)

theorem execMirrorFrame_elsewhere (t : Nat) (s : State) (s1 : State) (h : execMirrorFrame t s = .next s1) : regsOff [.mzw] s1.regs = regsOff [.mzw] s.regs := by
  unfold execMirrorFrame at h
  injection h with h
  subst h
  split
  · rfl
  · rw [State.updMz_elsewhere]
    have hk : ∀ (l : List (Fld × Nat)) (x : State), (∀ e ∈ l, e.1.blk = .mzw) → regsOff [.mzw] (l.foldl (fun (s : State) (e : Fld × Nat) => s.put e.1 e.2) x).regs = regsOff [.mzw] x.regs := by
      intro l
      induction l with
      | nil => intro x _; rfl
      | cons e l ih =>
        intro x hx
        rw [List.foldl_cons, ih _ (fun y hy => hx y (List.mem_cons_of_mem _ hy))]
        simp [hx e (List.mem_cons_self ..)]
    refine hk _ _ fun e he => ?_
    have hm := (List.of_mem_zip he).1
    have : ∀ f ∈ mirrorFields, f.blk = .mzw := by decide
    exact this _ hm

theorem execMizzenLinkTimeout_elsewhere (t : Nat) (s : State) (s1 : State) (h : execMizzenLinkTimeout t s = .next s1) : regsOff [.mzw] s1.regs = regsOff [.mzw] s.regs := by
  unfold execMizzenLinkTimeout at h
  cases h
  (try dsimp only)
  repeat' (first | with_reducible rfl | (simp; done) | split)

theorem execMeasuringFault_elsewhere (k : MzFault) (present : Bool) (t : Nat) (s : State) (s1 : State) (h : execMeasuringFault k present t s = .next s1) : regsOff [] s1.regs = regsOff [] s.regs := by
  unfold execMeasuringFault at h
  cases h
  simp

theorem execSealChange_elsewhere (broken : Bool) (t : Nat) (s : State) (s1 : State) (h : execSealChange broken t s = .next s1) : regsOff [] s1.regs = regsOff [] s.regs := by
  unfold execSealChange at h
  cases h
  simp

theorem execIndicationLine_elsewhere (t : Nat) (s : State) (s1 : State) (h : execIndicationLine t s = .next s1) : regsOff [] s1.regs = regsOff [] s.regs := by
  unfold execIndicationLine at h
  cases h
  simp

theorem execGrandTotalCommit_elsewhere (t : Nat) (s : State) (s1 : State) (h : execGrandTotalCommit t s = .next s1) : regsOff [] s1.regs = regsOff [] s.regs := by
  unfold execGrandTotalCommit at h
  cases h
  simp

theorem execIdRequest_elsewhere (s : State) (s1 : State) (h : execIdRequest s = .next s1) : regsOff [] s1.regs = regsOff [] s.regs := by
  unfold execIdRequest at h
  cases h
  simp

theorem execLotRequest_elsewhere (n : Nat) (s : State) (s1 : State) (h : execLotRequest n s = .next s1) : regsOff [] s1.regs = regsOff [] s.regs := by
  unfold execLotRequest at h
  cases h
  simp

theorem execAudRequest_elsewhere (n : Nat) (s : State) (s1 : State) (h : execAudRequest n s = .next s1) : regsOff [] s1.regs = regsOff [] s.regs := by
  unfold execAudRequest at h
  cases h
  simp

theorem execEvtRequest_elsewhere (n : Nat) (s : State) (s1 : State) (h : execEvtRequest n s = .next s1) : regsOff [] s1.regs = regsOff [] s.regs := by
  unfold execEvtRequest at h
  cases h
  simp

theorem execSetParameter_elsewhere (k : MzParam) (v : Nat) (s : State) (s1 : State) (h : execSetParameter k v s = .next s1) : regsOff [] s1.regs = regsOff [] s.regs := by
  unfold execSetParameter at h
  cases h
  (try dsimp only)
  repeat' (first | with_reducible rfl | (simp; done) | (apply State.command_elsewhere) | (apply State.withScope_elsewhere) | (apply State.alone_elsewhere) | (apply State.mzTake_elsewhere) | (apply State.mzAnswer_elsewhere) | (apply State.guarded_elsewhere) | (apply State.police_elsewhere) | (intro x; beta_reduce) | (intro x a; beta_reduce) | split | (dsimp only))

theorem execCommit_elsewhere (t : Nat) (s : State) (s1 : State) (h : execCommit t s = .next s1) : regsOff [] s1.regs = regsOff [] s.regs := by
  unfold execCommit at h
  cases h
  (try dsimp only)
  repeat' (first | with_reducible rfl | (simp; done) | (apply State.command_elsewhere) | (apply State.withScope_elsewhere) | (apply State.alone_elsewhere) | (apply State.mzTake_elsewhere) | (apply State.mzAnswer_elsewhere) | (apply State.guarded_elsewhere) | (apply State.police_elsewhere) | (intro x; beta_reduce) | (intro x a; beta_reduce) | split | (dsimp only))

theorem execFwload_elsewhere (f : MzFw) (t : Nat) (s : State) (s1 : State) (h : execFwload f t s = .next s1) : regsOff [] s1.regs = regsOff [] s.regs := by
  unfold execFwload at h
  cases h
  (try dsimp only)
  repeat' (first | with_reducible rfl | (simp; done) | (apply State.command_elsewhere) | (apply State.withScope_elsewhere) | (apply State.alone_elsewhere) | (apply State.mzTake_elsewhere) | (apply State.mzAnswer_elsewhere) | (apply State.guarded_elsewhere) | (apply State.police_elsewhere) | (intro x; beta_reduce) | (intro x a; beta_reduce) | split | (dsimp only))

theorem execMzLockstepRestart_elsewhere (t : Nat) (s : State) (s1 : State) (h : execMzLockstepRestart t s = .next s1) : regsOff [] s1.regs = regsOff [] s.regs := by
  unfold execMzLockstepRestart at h
  cases h
  simp

theorem execBstFullRun_elsewhere (s : State) (s1 : State) (h : execBstFullRun s = .next s1) : regsOff [.bst] s1.regs = regsOff [.bst] s.regs := by
  unfold execBstFullRun at h
  cases h
  simp

theorem execBstSelectedRun_elsewhere (logic : BitVec 13) (arrays : BitVec 64) (s : State) (s1 : State) (h : execBstSelectedRun logic arrays s = .next s1) : regsOff [.bst] s1.regs = regsOff [.bst] s.regs := by
  unfold execBstSelectedRun at h
  cases h
  simp

theorem execBstRepair_elsewhere (k : Fin 32) (ok : Bool) (s : State) (s1 : State) (h : execBstRepair k ok s = .next s1) : regsOff [.otp, .bst] s1.regs = regsOff [.otp, .bst] s.regs := by
  unfold execBstRepair at h
  cases h
  simp

theorem execBstAbort_elsewhere (s : State) (s1 : State) (h : execBstAbort s = .next s1) : regsOff [] s1.regs = regsOff [] s.regs := by
  unfold execBstAbort at h
  cases h
  (try dsimp only)
  repeat' (first | with_reducible rfl | (simp; done) | split)

theorem execRingOscMeasure_elsewhere (drift : List Int) (tMain tA tB : Int) (t : Nat) (s : State) (s1 : State) (h : execRingOscMeasure drift tMain tA tB t s = .next s1) : regsOff [.sys, .fc, .llk, .hly, .cnm] s1.regs = regsOff [.sys, .fc, .llk, .hly, .cnm] s.regs := by
  unfold execRingOscMeasure at h
  cases h
  simp

theorem execSlackHourly_elsewhere (a b : Nat) (s : State) (s1 : State) (h : execSlackHourly a b s = .next s1) : regsOff [.sys, .fc, .llk, .hly, .cnm] s1.regs = regsOff [.sys, .fc, .llk, .hly, .cnm] s.regs := by
  unfold execSlackHourly at h
  cases h
  simp

theorem execSlackReadingLow_elsewhere (c : Chan) (ps : Nat) (s : State) (s1 : State) (h : execSlackReadingLow c ps s = .next s1) : regsOff [.sys, .fc, .sout, .dsf, .lks, .llk, .hly] s1.regs = regsOff [.sys, .fc, .sout, .dsf, .lks, .llk, .hly] s.regs := by
  unfold execSlackReadingLow at h
  cases h
  simp

theorem execFuseSweep_elsewhere (low high words : Nat) (changed : Bool) (t : Nat) (s : State) (s1 : State) (h : execFuseSweep low high words changed t s = .next s1) : regsOff [.sys, .fc, .llk, .hly, .otp, .cnm] s1.regs = regsOff [.sys, .fc, .llk, .hly, .otp, .cnm] s.regs := by
  unfold execFuseSweep at h
  cases h
  simp

theorem execVerifyAdjust_elsewhere (us : Nat) (s : State) (s1 : State) (h : execVerifyAdjust us s = .next s1) : regsOff [.sys, .fc, .sout, .llk, .hly, .cnm] s1.regs = regsOff [.sys, .fc, .sout, .llk, .hly, .cnm] s.regs := by
  unfold execVerifyAdjust at h
  cases h
  simp

theorem execSummaryCopy_elsewhere (t : Nat) (s : State) (s1 : State) (h : execSummaryCopy t s = .next s1) : regsOff [] s1.regs = regsOff [] s.regs := by
  unfold execSummaryCopy at h
  cases h
  simp

theorem execHmcFault_elsewhere (s : State) (s1 : State) (h : execHmcFault s = .next s1) : regsOff [.cnm] s1.regs = regsOff [.cnm] s.regs := by
  unfold execHmcFault at h
  injection h with h
  subst h
  rw [State.blockReset_elsewhere _ _ _ _ .cnm (by decide) (by decide) (by decide)]
  simp

theorem execSleepEntry_elsewhere (t : Nat) (s : State) (s1 : State) (h : execSleepEntry t s = .next s1) : regsOff [.sys, .sout, .lks, .llk, .hly, .tim, .mzw] s1.regs = regsOff [.sys, .sout, .lks, .llk, .hly, .tim, .mzw] s.regs := by
  unfold execSleepEntry at h
  cases h
  simp

theorem execWake_elsewhere (w : WakeCause) (t : Nat) (s : State) (s1 : State) (h : execWake w t s = .next s1) : regsOff [.sys, .fc, .lc, .lks, .net, .hly, .adc, .tim, .pwr] s1.regs = regsOff [.sys, .fc, .lc, .lks, .net, .hly, .adc, .tim, .pwr] s.regs := by
  unfold execWake at h
  cases h
  simp

theorem execCrystalRestart_elsewhere (s : State) (s1 : State) (h : execCrystalRestart s = .next s1) : regsOff [.pwr] s1.regs = regsOff [.pwr] s.regs := by
  unfold execCrystalRestart at h
  cases h
  simp

theorem execVsRelease_elsewhere (c : Chan) (s : State) (s1 : State) (h : execVsRelease c s = .next s1) : regsOff [.sys, .fc, .sout, .dsf, .hly, .pwr] s1.regs = regsOff [.sys, .fc, .sout, .dsf, .hly, .pwr] s.regs := by
  unfold execVsRelease at h
  cases h
  simp

theorem execVmzReset_elsewhere (t : Nat) (s : State) (s1 : State) (h : execVmzReset t s = .next s1) : regsOff [] s1.regs = regsOff [] s.regs := by
  unfold execVmzReset at h
  cases h
  simp

theorem execVmzRelease_elsewhere (t : Nat) (s : State) (s1 : State) (h : execVmzRelease t s = .next s1) : regsOff [] s1.regs = regsOff [] s.regs := by
  unfold execVmzRelease at h
  cases h
  simp

theorem execMeasuringWheelEdge_elsewhere (a b : Bool) (t : Nat) (s : State) (s1 : State) (h : execMeasuringWheelEdge a b t s = .next s1) : regsOff [] s1.regs = regsOff [] s.regs := by
  unfold execMeasuringWheelEdge at h
  cases h
  simp

theorem execEncoderEdge_elsewhere (n : Fin 4) (a b : EncObs) (s : State) (s1 : State) (h : execEncoderEdge n a b s = .next s1) : regsOff [.lc] s1.regs = regsOff [.lc] s.regs := by
  unfold execEncoderEdge at h
  cases h
  simp

theorem execRecClkEdge_elsewhere (s : State) (s1 : State) (h : execRecClkEdge s = .next s1) : regsOff [.llk] s1.regs = regsOff [.llk] s.regs := by
  unfold execRecClkEdge at h
  cases h
  (try dsimp only)
  repeat' (first | with_reducible rfl | (simp; done) | split)

theorem execJunctionOvertemperature_elsewhere (die : Fin 3) (temp : Int) (s : State) (s1 : State) (h : execJunctionOvertemperature die temp s = .next s1) : regsOff [.sys, .fc, .sout, .dsf, .lks, .llk, .hly] s1.regs = regsOff [.sys, .fc, .sout, .dsf, .lks, .llk, .hly] s.regs := by
  unfold execJunctionOvertemperature at h
  cases h
  simp

theorem execSecInternalFault_elsewhere (s : State) (s1 : State) (h : execSecInternalFault s = .next s1) : regsOff [.sys, .fc, .sout, .dsf, .lks, .llk, .hly] s1.regs = regsOff [.sys, .fc, .sout, .dsf, .lks, .llk, .hly] s.regs := by
  unfold execSecInternalFault at h
  cases h
  simp

theorem execJtagLifecycleRequest_elsewhere (ok : Bool) (s : State) (s1 : State) (h : execJtagLifecycleRequest ok s = .next s1) : regsOff [.otp, .bst] s1.regs = regsOff [.otp, .bst] s.regs := by
  unfold execJtagLifecycleRequest at h
  cases h
  simp

theorem execSwitchFrameForward_elsewhere (n : Net) (f : SwitchFrame) (t : Nat) (s : State) (s1 : State) (h : execSwitchFrameForward n f t s = .next s1) : regsOff [.net] s1.regs = regsOff [.net] s.regs := by
  unfold execSwitchFrameForward at h
  cases h
  (try dsimp only)
  repeat' (first | with_reducible rfl | (simp; done) | split)

end Sys2Proof.Machine
end

