-- ==== Sys2Proof/WellFormed.lean ====
section
/-! DEFINITION. When a command is one the outside can send: every field of a frame, a descriptor, an image header or a register access fits the width the spec gives it, and every list has the length the spec gives it. The meanings do not rest on it: a command that is not well formed still takes a next state. -/

namespace Sys2Proof

open Sys2Proof.Machine

/-- The value fits a field of `n` bits. -/
def fits (n v : Nat) : Bool := v < 2 ^ n

/-- The value fits a signed field of `n` bits. -/
def fitsInt (n : Nat) (v : Int) : Bool := -(2 ^ (n - 1)) ≤ v && v < 2 ^ (n - 1)

/-- R288: the fields of a command descriptor; FLAGS holds no bits but IRQ and CLEAR. -/
def descOk (d : Desc) : Bool :=
  fits 2 d.flags && fits 16 d.tag && fits 32 d.length && fits 64 d.addr && fits 32 d.arg0 && fits 32 d.arg1

/-- R215: TYPE, SEQ and STAMP of a Stay frame. -/
def headOk (h : StayHead) : Bool := fits 8 h.typ && fits 8 h.seq && fits 32 h.stamp

/-- R216: what an EVENT frame reports: one of the four sources, an error code, or a CRC. -/
def eventOk : StayEvent → Bool
  | .sourceFault n => n < 4
  | .verdict v => fits 16 v
  | .camCrc v => fits 32 v

/-- R231: the fields of a Goale frame. -/
def goaleOk (f : GoaFrame) : Bool :=
  fits 16 f.srcNode && fits 16 f.connId && fits 32 f.srcAddr && fits 8 f.epoch && f.bits.length ≤ 2 && f.bits.all (fits 32) &&
  f.vals.length ≤ 16 && f.vals.all (fitsInt 32) && fits 32 f.alive && fits 64 f.time && fits 64 f.lc && fits 8 f.lcState &&
  fits 16 f.member && fits 16 f.gstop

/-- R251: the fields of a master-angle frame. -/
def masterOk (f : MasterFrame) : Bool :=
  fits 32 f.srcAddr && fits 32 f.seq && fitsInt 64 f.angle && fitsInt 32 f.vel && fits 64 f.time

/-- R256: the fields of one half of a group-state frame, which has 32 entries. -/
def halfOk (h : Half) : Bool :=
  fits 8 h.typ && fits 8 h.seq && fits 5 h.pos && fits 32 h.lineCrc && fits 16 h.node && h.entries.length == 32 &&
  h.entries.all (fun e => fits 5 e.2.1 && fits 16 e.2.2)

/-- R285: a doorbell read shows a heartbeat, eight host indices and two image sequence numbers of 32 bits. -/
def pollOk (o : PollObs) : Bool :=
  fits 32 o.heartbeat && o.host.length == 8 && o.host.all (fits 32) && fits 32 o.seqA && fits 32 o.seqB

/-- R365: the fields of an authentication response. -/
def authOk (a : AuthResp) : Bool :=
  fits 8 a.authority && fits 8 a.keyId && fits 16 a.scope && fits 16 a.duration && fits 128 a.device && fits 256 a.nonce

/-- R359: the fields of a line-key buffer. -/
def keyOk (k : KeyBlob) : Bool := fits 128 k.device && fits 8 k.epoch && fits 8 k.keyId

/-- R354: a ticket carries four words of root-key hash and the 16 words of group 5. -/
def ticketOk (k : Ticket) : Bool :=
  fits 8 k.target && fits 8 k.source && k.ownerHash.length == 4 && k.ownerOtp.length == 16 && k.ownerHash.all (fits 64) && k.ownerOtp.all (fits 64)

/-- R360: the fields of the header of a staged image. -/
def stageOk (f : StageFile) : Bool :=
  fits 32 f.magic && fits 16 f.format && fits 8 f.typ && fits 8 f.revoke && fits 32 f.length && fits 32 f.version &&
  fits 32 f.rollback && fits 32 f.target && fits 128 f.bind && fits 32 f.keyId && f.hash.length == 8 &&
  (match f.pay with
   | .firmware => true
   | .ticket k => ticketOk k
   | .manifest v r _ => fits 32 v && fits 32 r)

/-- R146, R147: the fields of the header of a Cleuz image, and a section table of at most 32 entries. -/
def imageOk (im : Image) : Bool :=
  fits 32 im.magic && fits 16 im.format && fits 16 im.flags && fits 32 im.length && fits 32 im.version && fits 32 im.rollback &&
  fits 32 im.target && fits 128 im.bind && fits 32 im.sections && fits 32 im.keyId && im.hash.length == 8 && im.hash.all (fits 32) &&
  im.table.length ≤ 32 && im.table.all (fun t => fits 16 t.typ && fits 16 t.flags && fits 32 t.offset && fits 32 t.length)

/-- R375, R411: a start reads the eight privileged words; a ticket found in flash is a ticket. -/
def startOk (o : StartObs) : Bool :=
  o.priv.length == 8 &&
  (match o.ticket with
   | some k => ticketOk k
   | none => true)

/-- R406: a Ratline run names arrays of the 64 of R402. -/
def ratlineOk (o : RatlineObs) : Bool := o.worst < 64 && o.rows.all (fun r => r.1 < 64) && o.columns.all (· < 64)

/-- R391: the words of a Mizzen firmware image. -/
def mzFwOk (f : MzFw) : Bool := fits 32 f.rollback && fits 32 f.version && fits 32 f.crc

/-- R224: the addresses of a forwarded frame are Ethernet addresses. -/
def switchOk (f : SwitchFrame) : Bool := fits 48 f.src && fits 48 f.dst

/-- R7: the address of an access is a multiple of its width. -/
def aligned (w : Width) (a : Word) : Bool :=
  match w with
  | .word => a.toNat % 4 == 0
  | .half => a.toNat % 2 == 0
  | .byte => true

/-- Whether the command is one the outside can send. -/
def Instr.wf : Instr → Bool
  | .por o => startOk o
  | .bor o _ => startOk o
  | .resetN _ o => startOk o
  | .trialStartTimeout o => startOk o
  | .masterAngleFrame _ f _ => masterOk f
  | .stayAlignFrame _ h _ => headOk h
  | .stayCoordFrame _ h => headOk h
  | .stayInputFrame _ h => headOk h
  | .staySnapshotFrame _ h _ => headOk h
  | .stayResultFrame _ h _ => headOk h
  | .stayTokenFrame _ h _ => headOk h
  | .stayEventFrame _ h e _ => headOk h && eventOk e
  | .stayHoldFrame _ h => headOk h
  | .stayRepeatRequest _ _ q => fits 8 q
  | .goaleFrameReceived _ f _ => goaleOk f
  | .groupStateFrame _ a b _ _ _ _ => halfOk a && halfOk b
  | .relayFrameReceived _ r _ _ _ _ => r.length ≤ 20
  | .doorbellPoll o _ => pollOk o
  | .nop _ d => descOk d
  | .getInfo _ d => descOk d
  | .readReg _ d => descOk d
  | .restart _ d _ => descOk d
  | .shutdown _ d => descOk d
  | .authChallenge _ d => descOk d
  | .authResponse _ d a => descOk d && authOk a
  | .authEnd _ d => descOk d
  | .refit _ d im => descOk d && imageOk im
  | .fwStage _ d f => descOk d && stageOk f
  | .keyInstall _ d k => descOk d && keyOk k
  | .keyRemove _ d => descOk d
  | .epochSwitch _ d => descOk d
  | .attest _ d _ => descOk d
  | .ringReset _ d => descOk d
  | .setPoll _ d => descOk d
  | .readClear _ a => aligned .word a
  | .registerWrite _ w a _ _ => aligned w a
  | .setParameter _ v => fits 32 v
  | .fwload f _ => mzFwOk f
  | .ratlineComplete o => ratlineOk o
  | .ringOscMeasure d _ _ _ _ => d.length == 8
  | .switchFrameForward _ f _ => switchOk f
  | .vbatRise _ | .mainRailsRemoved _ _ | .vbatDip _ | .vbatLow | .aonClkStop | .pllLockLost _ => true
  | .freqWindowEnd _ _ | .refJudgementWindowEnd _ _ | .vsUndervoltage _ | .supplyMonitorFault _ _ | .vmzLow _ | .startComplete _ => true
  | .guardCycleBoundary _ _ _ | .coordinateSnapshot _ _ | .sessionWatchdogExpiry _ _ | .aiContextStale _ _ _ | .graphEvaluation _ _ | .resultAgreement => true
  | .guardCycleOverrun _ | .stage | .imageEntryWrite _ _ | .commandWatchdogExpiry _ _ | .angleEngineUpdate _ _ _ | .monitoredStopCompletion => true
  | .standstillSet _ _ | .sourceFault _ _ _ | .sourceFaultConfirmTimeout _ _ | .sourceXcheckExcess _ | .channelXcheckExcess | .coordinatePlausibility _ => true
  | .angleEngineOverrun _ | .camPredictedEvent _ _ _ | .camCrcCheck _ _ | .masterDevTimeout _ | .inputFilterChange _ _ _ | .discrepancyTimeout _ => true
  | .comparatorDisagreement _ | .testPulseDue _ _ | .testPulseTokenGrant _ | .testPulseStart _ | .testPulseWidthEnd _ _ _ | .testPulseSettleEnd _ => true
  | .sourceLowIdle _ | .fastKill _ _ _ | .fastKillRelease _ _ | .fastKillCrcCheck _ _ | .outputTestDue _ _ | .outputTestTokenGrant _ _ _ _ _ _ => true
  | .outputTestPhaseStart _ | .outputTestPhaseEnd _ _ | .outputTestVerifyEnd _ _ | .outputReadbackFault _ _ _ _ _ | .currentLimitOpen _ _ | .readbackDisagreement _ => true
  | .openLoad _ | .edmTimeout _ | .graphIntegrityCheck _ _ | .furlTimerExpiry _ _ | .furlArmRelease _ | .timedStopCompletion _ => true
  | .stopTimeExceeded _ | .brakeOverlapEnd _ | .furlCrcCheck _ _ | .otherClass2Line _ | .fcTestInjection _ _ | .fltPinMismatch _ _ => true
  | .consequentialWindowEnd _ | .selftestWarn | .selftestOverdue | .telltaleReport _ _ _ | .forcedMismatch _ _ _ | .latentDivergenceSweep _ _ _ => true
  | .asyncInputDisagreement _ _ _ | .debugAttach _ _ | .debugDetach _ | .debugReset _ _ | .appReset _ | .patrolScrub _ _ => true
  | .stayDeadlineMiss _ _ | .staySkewFault _ | .stayTrainingTimeout | .stayAttributionWindowEnd | .twinWindowEnd _ _ | .pathLost _ _ _ => true
  | .networkLinkDown _ | .npeFault _ | .phyPoll _ _ _ | .ptpMessage _ _ _ | .ptpSyncTimeout _ _ | .ptpPps _ _ => true
  | .arpRequest _ _ | .icmpEchoRequest _ _ | .epochSwitchTime _ | .lineLinkTick _ | .portLost _ _ | .relayFrameSend _ => true
  | .xoffInChange _ _ _ | .xoffInHeld _ _ | .lleFault | .recFlushTimeout | .recClockTimeout | .hlySetupDone _ _ _ => true
  | .bar0WriteDenied _ | .doorbellKick _ | .doorbellReadFailures | .heartbeatTimeout _ | .busMasterDisable | .pcieLinkLoss => true
  | .pcieFlr | .pcieD3hot | .irqDelayExpiry _ _ | .eventRingWrite _ _ | .halyardFault | .authorityIdleTimeout _ _ => true
  | .nonceLapse _ _ | .authBackoffEnd _ | .serviceDurationEnd _ | .refitStopped | .refitApplied _ | .refitCommitted _ => true
  | .adcConversionDone _ _ _ | .adcRefXchkFault _ | .iosInjectionTrigger _ _ | .monitorBurst _ | .calibrationDue _ _ _ | .calibrationOverdue _ _ => true
  | .conversionTimeout _ | .adcCtxClr _ _ _ | .lcPosLoRead _ _ | .camOriginLoRead _ _ | .dsfLatchRead _ _ _ | .adcSumLoRead _ _ _ => true
  | .timCountRead _ _ _ _ | .timCapRead _ _ _ | .crcResultLoRead _ _ | .mzwGtLoRead _ | .pwrAonLoRead _ _ | .fcRecAck _ _ _ => true
  | .timCmpWrite _ _ _ _ _ | .timCmpDisarm _ _ _ _ | .timCountWrite _ _ _ _ _ | .timPCfgWrite _ _ _ _ | .timerCompareMatch _ _ | .timerOverflow _ _ => true
  | .tmioCaptureEdge _ _ _ | .crcGo _ _ | .crcScanDone _ | .otpRead _ _ | .otpMread _ _ | .otpProgram _ _ => true
  | .otpLock _ _ | .otpVoid _ _ | .otpCommandDone _ _ | .secFwCommit _ | .secFwLoad _ | .lotOpen _ => true
  | .lotClose _ | .lotCut _ | .readLot _ | .readAudit _ | .readEvent _ | .readCert _ => true
  | .timeHint _ | .mzwCommandRefused _ _ | .mirrorFrame _ | .mizzenLinkTimeout _ | .measuringFault _ _ _ | .sealChange _ _ => true
  | .indicationLine _ | .grandTotalCommit _ | .idRequest | .lotRequest _ | .audRequest _ | .evtRequest _ => true
  | .commit _ | .mzLockstepRestart _ | .bstFullRun | .bstSelectedRun _ _ | .bstRepair _ _ | .bstAbort => true
  | .slackHourly _ _ | .slackReadingLow _ _ | .fuseSweep _ _ _ _ _ | .verifyAdjust _ | .summaryCopy _ | .hmcFault => true
  | .sleepEntry _ | .wake _ _ | .crystalRestart | .vsRelease _ | .vmzReset _ | .vmzRelease _ => true
  | .measuringWheelEdge _ _ _ | .encoderEdge _ _ _ | .recClkEdge | .junctionOvertemperature _ _ | .secInternalFault | .jtagLifecycleRequest _ => true

/-- A well-formed command. -/
abbrev Instr.WellFormed (i : Instr) : Prop := i.wf = true

end Sys2Proof
end

