-- ==== Sys2Proof/Tests/Slice0.lean ====
section
/-! SUPPORT. Tests of single commands and values against the spec, an ill-formed command for every check of WellFormed, and for every statement that has hypotheses a state and operands that meet them, clause by clause. -/

namespace Sys2Proof.Tests

open Sys2Proof Sys2Proof.Machine

set_option maxRecDepth 100000
set_option Elab.async false
set_option linter.unusedVariables false

/-! ## Small states and operands -/

/-- Both channels in dual mode. -/
def dualSt : State := (State.reset.put STY_STATUS_MODE 1 .a).put STY_STATUS_MODE 1 .b

/-- Channel A carries on alone. -/
def aloneSt : State := State.reset.put STY_STATUS_MODE 2 .a

/-- Network X is configured. -/
def netSt0 : State := (((State.reset.put NET_n_CFG_EN 1).put NET_n_IP_ADDR 1).put NET_n_MASK_ADDR 1).put NET_n_GW_ADDR 1

/-- Halyard runs and command ring 0 has a command fetched. -/
def hostSt : State := { (((State.reset.put HLY_STATUS_STATE hlyRUN).put HLY_RING_n_CFG_LOG2SIZE 4).put HLY_RING_n_STATUS_STATE 1) with hly := { rings := [(0, { fetched := 1 })] } }

/-- A whole-device Refit image with empty SYS, LGE and scope sections. -/
def tinyImage : Image := ⟨0xC1E20A5E, 1, 3, 740, 1, 0, 65536 * State.reset.get SYS_ID_PART, 0, 3, 0, List.replicate 8 0, true, true, true, [⟨1, 0, 640, 4, true⟩, ⟨6, 0, 656, 4, true⟩, ⟨0xF0, 0, 672, 4, true⟩], [], {}, []⟩

/-- A descriptor with LENGTH and ARG0. -/
def dsc (len a0 : Nat) : Desc := { t := 0, flags := 0, tag := 0, length := len, addr := 0, arg0 := a0, arg1 := 0, bufOk := true, doneOk := true }

/-- The state after a command. -/
def after (i : Instr) (s : State) : State :=
  match exec i s with
  | .next t => t
  | _ => s

/-! ## WellFormed refuses -/

theorem test_ill_descriptor_flags : (.nop 0 { dsc 0 0 with flags := 4 } : Instr).wf = false := by decide

theorem test_well_descriptor : (.nop 0 (dsc 0 0) : Instr).wf = true := by decide

theorem test_ill_stay_head : (.stayCoordFrame .a ⟨256, 1, 0, true, true, true⟩ : Instr).wf = false := by decide

theorem test_well_stay_head : (.stayCoordFrame .a ⟨2, 1, 0, true, true, true⟩ : Instr).wf = true := by decide

theorem test_ill_stay_event : (.stayEventFrame .a ⟨0x14, 1, 0, true, true, true⟩ (.sourceFault 4) true : Instr).wf = false := by decide

theorem test_ill_repeat_sequence : (.stayRepeatRequest .a .cycle 256 : Instr).wf = false := by decide

theorem test_ill_goale_epoch : (.goaleFrameReceived .x ⟨true, 1, 3, 5, true, .x, false, 256, [], [], 0, 0, 0, 0, 0, 0, true, true⟩ 0 : Instr).wf = false := by decide

theorem test_well_goale : (.goaleFrameReceived .x ⟨true, 1, 3, 5, true, .x, false, 255, [], [], 0, 0, 0, 0, 0, 0, true, true⟩ 0 : Instr).wf = true := by decide

theorem test_ill_master_address : (.masterAngleFrame .x ⟨true, 4294967296, 0, 0, 0, 0⟩ 0 : Instr).wf = false := by decide

theorem test_ill_half_entries : (.groupStateFrame .up ⟨true, true, 0x4A, 1, 0, false, false, 0, 9, [], true⟩ ⟨true, true, 0x4A, 1, 0, false, false, 0, 9, (List.replicate 32 (false, 0, 0)), true⟩ 0 0 0 0 : Instr).wf = false := by decide

theorem test_well_half_entries : (.groupStateFrame .up ⟨true, true, 0x4A, 1, 0, false, false, 0, 9, (List.replicate 32 (false, 0, 0)), true⟩ ⟨true, true, 0x4A, 1, 0, false, false, 0, 9, (List.replicate 32 (false, 0, 0)), true⟩ 0 0 0 0 : Instr).wf = true := by decide

theorem test_ill_poll_indices : (.doorbellPoll ⟨true, 0, [], 0, 0, 0, 0⟩ 0 : Instr).wf = false := by decide

theorem test_ill_auth_scope : (.authResponse 0 (dsc 120 0) ⟨2, 2, 65536, 0, true, 0, 7, true, none⟩ : Instr).wf = false := by decide

theorem test_ill_key_epoch : (.keyInstall 0 (dsc 172 5) ⟨0, 256, 0x10, true, true, true⟩ : Instr).wf = false := by decide

theorem test_ill_stage_hash : (.fwStage 0 (dsc 4 0) ⟨0xF1E20A5E, 1, 1, 0, 4, 1, 0, 0, 0, 0, [], true, true, true, true, .firmware⟩ : Instr).wf = false := by decide

theorem test_well_stage : (.fwStage 0 (dsc 4 0) ⟨0xF1E20A5E, 1, 1, 0, 4, 1, 0, 0, 0, 0, (List.replicate 8 0), true, true, true, true, .firmware⟩ : Instr).wf = true := by decide

theorem test_ill_stage_ticket : (.fwStage 0 (dsc 4 0) ⟨0xF1E20A5E, 1, 1, 0, 4, 1, 0, 0, 0, 0, (List.replicate 8 0), true, true, true, true, (.ticket ⟨0, 0, true, true, [], []⟩)⟩ : Instr).wf = false := by decide

theorem test_ill_stage_manifest : (.fwStage 0 (dsc 4 0) ⟨0xF1E20A5E, 1, 1, 0, 4, 1, 0, 0, 0, 0, (List.replicate 8 0), true, true, true, true, (.manifest 4294967296 0 true)⟩ : Instr).wf = false := by decide

theorem test_ill_image_rollback : (.refit 0 (dsc 740 0) { tinyImage with rollback := 4294967296 } : Instr).wf = false := by decide

theorem test_well_image : (.refit 0 (dsc 740 0) tinyImage : Instr).wf = true := by decide

theorem test_ill_start_words : (.por { t := 0, bootsel := 0, romOk := false, crystal := false, priv := [], drkOk := false, drkMarginal := false, idOk := false, flashTrained := false, certParityOk := false, certMacOk := false, certFlashOk := false, summaryMacOk := false, summaryFlashOk := false, ticket := none, fusesOk := false, fwOk := ⟨false, false⟩, imgOk := false, rails := 0 } : Instr).wf = false := by decide

theorem test_ill_start_ticket : (.por { t := 0, bootsel := 0, romOk := false, crystal := false, priv := List.replicate 8 {}, drkOk := false, drkMarginal := false, idOk := false, flashTrained := false, certParityOk := false, certMacOk := false, certFlashOk := false, summaryMacOk := false, summaryFlashOk := false, ticket := some ⟨0, 0, true, true, [], []⟩, fusesOk := false, fwOk := ⟨false, false⟩, imgOk := false, rails := 0 } : Instr).wf = false := by decide

theorem test_well_start : (.por { t := 0, bootsel := 0, romOk := false, crystal := false, priv := List.replicate 8 {}, drkOk := false, drkMarginal := false, idOk := false, flashTrained := false, certParityOk := false, certMacOk := false, certFlashOk := false, summaryMacOk := false, summaryFlashOk := false, ticket := none, fusesOk := false, fwOk := ⟨false, false⟩, imgOk := false, rails := 0 } : Instr).wf = true := by decide

theorem test_ill_ratline_array : (.ratlineComplete { t := 0, fails := [], rows := [], columns := [], peak := 0, flips := false, worst := 64, margin := 0, imgOk := false } : Instr).wf = false := by decide

theorem test_ill_relay_length : (.relayFrameReceived .up (List.replicate 21 0) true 0 0 0 : Instr).wf = false := by decide

theorem test_ill_parameter : (.setParameter .num 4294967296 : Instr).wf = false := by decide

theorem test_ill_mizzen_firmware : (.fwload ⟨true, true, 0, 4294967296, 0⟩ 0 : Instr).wf = false := by decide

theorem test_ill_ring_oscillators : (.ringOscMeasure [] 0 0 0 0 : Instr).wf = false := by decide

theorem test_ill_switch_address : (.switchFrameForward .x ⟨false, 281474976710656, 0, false, 64, false⟩ 0 : Instr).wf = false := by decide

theorem test_ill_read_alignment : (.readClear .sec 0x40000002 : Instr).wf = false := by decide

theorem test_ill_write_alignment : (.registerWrite .sec .half 0x10000001 0 0 : Instr).wf = false := by decide

/-! ## Values and commands -/

/-- R347: the check value over 123456789. -/
theorem test_crc32_check : crc32 [49, 50, 51, 52, 53, 54, 55, 56, 57] = 0xCBF43926 := by decide +kernel

/-- R347: the check value over 123456789. -/
theorem test_crc32c_check : crc32c [49, 50, 51, 52, 53, 54, 55, 56, 57] = 0xE3069283 := by decide +kernel

/-- R347: the check value over 123456789. -/
theorem test_crc16_check : crc16 [49, 50, 51, 52, 53, 54, 55, 56, 57] = 0x29B1 := by decide +kernel

/-- R347: the check value over 123456789. -/
theorem test_crc64_check : crc64 [49, 50, 51, 52, 53, 54, 55, 56, 57] = 0x6C40DF5F0B497347 := by decide +kernel

/-- R431: the device is in INIT after reset. -/
theorem test_reset_init : State.reset.dev = stINIT := by decide +kernel

/-- An empty queue idles. -/
theorem test_idle : step State.reset = .next State.reset := by rfl

/-- The command in front runs and leaves the queue. -/
theorem test_step_runs : (match step { State.reset with pending := [.vbatLow, .selftestWarn] } with | .next u => u.pending | _ => []) = [.selftestWarn] := by decide +kernel

/-- R134: NADD saturates at 32 bits. -/
theorem test_nadd_saturates : (evalBlock ⟨125000, true, true, 0, false, 0⟩ 0x11 [] [some 2147483647, some 1] {}).outs = [2147483647] := by decide +kernel

/-- R134: R is dominant in SR. -/
theorem test_sr_r_dominant : (evalBlock ⟨125000, true, true, 0, false, 0⟩ 0x05 [] [some 1, some 1] {}).outs = [0] := by decide +kernel

/-- R431: VBAT rising takes OFF to STANDBY. -/
theorem test_vbat_rise : (after (.vbatRise 0) { State.reset with power := .off }).power = .standby := by decide +kernel

/-- R19: a window 2 % off is within limits. -/
theorem test_freq_window_edge : (after (.freqWindowEnd .a 10200) { State.reset with fmon := ⟨1, 0⟩ }).fc.a.latches = [] := by decide +kernel

/-- R19: the second window beyond 2 % is E09. -/
theorem test_freq_window_beyond : ((after (.freqWindowEnd .a 10201) { State.reset with fmon := ⟨1, 0⟩ }).fc.a.latches.map (·.line)) = [9] := by decide +kernel

/-- R146: the least significant byte of a word stands at its lowest address. -/
theorem test_ram_little_endian : (after (.registerWrite .sec .word 0x10000000 0x11223344 0) State.reset).mem = [(0x10000000, 0x44), (0x10000001, 0x33), (0x10000002, 0x22), (0x10000003, 0x11)] := by decide +kernel

/-- R7: a byte access to a register is a bus error. -/
theorem test_byte_to_register : (after (.registerWrite .sec .byte 0x40000000 0 0) State.reset).bus = .error := by decide +kernel

/-- R31: the ROM is not written. -/
theorem test_rom_write : (after (.registerWrite .sec .word 0 1 0) State.reset).bus = .error := by decide +kernel

/-- R370: a read no region permits is E23 of the channel, Class 2. -/
theorem test_denied_read : ((after (.readClear .scA 0x40000000) State.reset).fc.a.latches.map (fun l => (l.line, l.cls, l.chg))) = [(23, 2, .a)] := by decide +kernel

/-- R380: NUM/DEN = 3/2 µm a step: the first edge counts 1 and carries 1. -/
theorem test_wheel_remainder : (let u := after (.measuringWheelEdge true false 0) { State.reset with mz := { params := { num := 3, den := 2 } } }; (u.mz.gt, u.mz.rem)) = (1, 1) := by decide +kernel

/-- R382: both inputs changing within one sample are a quadrature fault. -/
theorem test_wheel_quadrature : (after (.measuringWheelEdge true true 0) State.reset).mz.quad = true := by decide +kernel

/-- R292: SET_POLL sets POLL_US. -/
theorem test_set_poll : (after (.setPoll 0 (dsc 0 200)) hostSt).get HLY_POLL_POLL_US = 200 := by decide +kernel

/-- R292: 201 µs is out of range. -/
theorem test_set_poll_range : (after (.setPoll 0 (dsc 0 201)) hostSt).get HLY_POLL_POLL_US = hostSt.get HLY_POLL_POLL_US := by decide +kernel

/-- R337: a passed compare fires and disarms. -/
theorem test_compare_fires : (after (.timerCompareMatch .a 100) (((State.reset.putT TIM_TM_t_CFG_EN 1 .a).putT TIM_CMP_n_ACT_ARMED 1 .a).putT TIM_CMP_n_VALUE 3 .a)).getT TIM_CMP_n_ACT_ARMED .a = 0 := by decide +kernel

/-- R98: a fast kill acts in its own die alone. -/
theorem test_fast_kill_own_die : (let u := after (.fastKill .a 0 false) (((({ State.reset with die := ⟨{ powered := true }, { powered := true }⟩ }).put SIN_PAIR_n_CFG_MODE 1).put SIN_PAIR_n_CFG_FK_EN 1).put SIN_PAIR_n_CFG_FK_GROUP 5); (u.die.a.heldFk, u.die.b.heldFk)) = (5, 0) := by decide +kernel

/-- R184: E15 is Class 3 and latched in both collectors. -/
theorem test_sec_fault : (let u := after .secInternalFault State.reset; (u.fc.a.latches.map (fun l => (l.line, l.cls)), u.fc.b.latches.map (fun l => (l.line, l.cls)))) = ([(15, 3)], [(15, 3)]) := by decide +kernel

/-- R374: a finished command leaves the unit free. -/
theorem test_otp_done : (after (.otpCommandDone {} true) { State.reset with sec := { otpRun := some ⟨1, 0⟩ } }).flag OTP_STATUS_BUSY = false := by decide +kernel

/-- R236: at its time the switch is done. -/
theorem test_epoch_switch : (after (.epochSwitchTime 5) { State.reset with epochAt := some (.x, 5, 2), ptp := ⟨{ synced := true }, {}⟩ }).epochAt = none := by decide +kernel

/-- R153: a Refit that passes CHECK enters STOPPING. -/
theorem test_refit_begins : (after (.refit 0 (dsc 740 0) tinyImage) (hostSt.put SEC_AUTH_n_SCOPE 1)).get LGE_REFIT_PHASE = phSTOPPING := by decide +kernel

/-! ## The hypotheses of the statements are met -/

theorem witness_StepRunsCommand : ∃ (c : Instr) (q : List Instr) (s : State), s.pending = c :: q := ⟨.vbatLow, [], { State.reset with pending := [.vbatLow] }, rfl⟩

theorem witness_StepIdles : ∃ s : State, s.pending = [] := ⟨State.reset, rfl⟩

theorem witness_ResetState : ∃ a : Nat, ∀ e ∈ fixedWords, e.1 ≠ a := ⟨0x40000000, by decide⟩

theorem witness_StepKeepsInv : ∃ s t : State, s.Inv ∧ step s = .next t := ⟨State.reset, State.reset, ⟨⟨List.Pairwise.nil, by intro e h; cases h⟩, by intro e h; cases h⟩, rfl⟩

theorem witness_ProgramFrames : ∃ (i : Instr) (s t : State), exec i s = .next t ∧ memWriters i = false ∧ progWriters i = false ∧ progWriters i = false ∧ progWriters i = false ∧ powerWriters i = false ∧ epochAtWriters i = false ∧ serviceWriters i = false ∧ hostLostWriters i = false ∧ fwWriters i = false := ⟨.vbatLow, State.reset, after .vbatLow State.reset, by unfold after exec execVbatLow; rfl, rfl, rfl, rfl, rfl, rfl, rfl, rfl, rfl, rfl⟩

theorem witness_SafetyFrames : ∃ (i : Instr) (s t : State), exec i s = .next t ∧ inpWriters i = false ∧ pairsWriters i = false ∧ graphWriters i = false ∧ stayWriters i = false := ⟨.vbatLow, State.reset, after .vbatLow State.reset, by unfold after exec execVbatLow; rfl, rfl, rfl, rfl, rfl⟩

theorem witness_NetworkFrames : ∃ (i : Instr) (s t : State), exec i s = .next t ∧ sesWriters i = false ∧ netsWriters i = false ∧ linkWriters i = false ∧ ptpWriters i = false := ⟨.vbatLow, State.reset, after .vbatLow State.reset, by unfold after exec execVbatLow; rfl, rfl, rfl, rfl, rfl⟩

theorem witness_MeasuringFrames : ∃ (i : Instr) (s t : State), exec i s = .next t ∧ adcsWriters i = false ∧ timsWriters i = false ∧ crcsWriters i = false ∧ mzWriters i = false := ⟨.vbatLow, State.reset, after .vbatLow State.reset, by unfold after exec execVbatLow; rfl, rfl, rfl, rfl, rfl⟩

theorem witness_RegisterFrames : ∃ (i : Instr) (s t : State) (B : List Block) (a : Nat), exec i s = .next t ∧ regBlocks i = some B ∧ ∀ b ∈ B, inBlock b a = false := ⟨.lotOpen 0, State.reset, after (.lotOpen 0) State.reset, [.mzw], 0x40000000, by unfold after exec execLotOpen; rfl, rfl, by decide⟩

theorem witness_FatalKill : (∃ s : State, s.dev ≠ stSLEEP) ∧ (∃ temp : Int, 1350 < temp) ∧ ∃ r : Rail, mainRail r = true := ⟨⟨State.reset, by decide +kernel⟩, ⟨1351, by decide⟩, ⟨.vddCore, rfl⟩⟩

theorem witness_MaskedLine : ∃ (c : Chan) (s : State), s.masks c 41 = true := ⟨.a, ({ State.reset with fc := ⟨{ windows := [0] }, {}⟩ }).put FC_CMAP_n_HI_MASK 512 .a 0, by decide +kernel⟩

theorem witness_OnDelay : ∃ x : InstSt, x.k = 0 := ⟨{}, rfl⟩

theorem witness_HeldFunctionIsOff : ∃ (s : State) (c : Chan) (n : Nat) (i : Inst), s.prog.insts.find? (fun p => p.1 == n) = some (n, i) ∧ i.code = 0x30 ∧ s.sfHeld c i.sf = true ∧ s.stayMode c ≠ 2 := ⟨{ State.reset with prog := { insts := [(0, ⟨0x30, 3, [], [], []⟩)] }, refitHeld := [3] }, .a, 0, ⟨0x30, 3, [], [], []⟩, rfl, rfl, by decide +kernel, by decide +kernel⟩

theorem witness_AdcConversions :
    (∃ (k : Fin 4) (raw : BitVec 16) (t step : Nat) (s : State), ((s.adc k).run = .cal step) ∧ (step < 36) ∧ ((s.adc k).queue = [])) ∧
    (∃ (k : Fin 4) (raw : BitVec 16) (t n left : Nat) (s : State), ((s.adc k).run = .inj n (left + 1))) ∧
    (∃ (k : Fin 4) (n : Fin 56) (s : State), (s.getA ADC_CTX_n_CFG_EN k n = 1) ∧ (s.getA ADC_CTX_n_CFG_IOS_INJ k n = 1) ∧ ((s.adc k).queue.length < 4) ∧ ((s.adc k).run ≠ .idle)) ∧
    (∃ (k : Fin 4) (s : State), (s.getA ADC_CFG_EN k ≠ 0) ∧ ((s.adc k).run ≠ .idle)) ∧
    (∃ (k : Fin 4) (t : Nat) (s : State), (s.getA ADC_CFG_EN k ≠ 0) ∧ ((s.adc k).run ≠ .idle)) := by
  refine ⟨⟨0, 0, 0, 3, { State.reset with adcs := [(0, { run := .cal 3 })] }, ?_⟩,
    ⟨0, 0, 0, 5, 1, { State.reset with adcs := [(0, { run := .inj 5 2 })] }, ?_⟩,
    ⟨0, 0, (({ State.reset with adcs := [(0, { run := .cal 3 })] }.putA ADC_CTX_n_CFG_EN 1 0 0).putA ADC_CTX_n_CFG_IOS_INJ 1 0 0), ?_⟩,
    ⟨0, ({ State.reset with adcs := [(0, { run := .cal 3 })] }.putA ADC_CFG_EN 1 0), ?_⟩,
    ⟨0, 0, ({ State.reset with adcs := [(0, { run := .cal 3 })] }.putA ADC_CFG_EN 1 0), ?_⟩⟩
  all_goals decide +kernel

theorem witness_AdcFaults :
    (∃ (k : Fin 4) (t : Nat) (s : State), (s.quiet) ∧ (s.getA ADC_CFG_EN k = 1) ∧ ((s.adc k).calAt + 240000000000 * s.getA ADC_CFG_CAL_PERIOD k ≤ max s.now t)) ∧
    (∃ (k : Fin 4) (s : State), (s.quiet) ∧ (3 ≤ (s.adc k).refBad)) ∧
    (∃ (k : Fin 4) (s : State), (s.quiet) ∧ (s.getA ADC_CFG_EN k ≠ 0)) ∧
    (∃ (c : Chan) (n : Fin 8) (t k x : Nat) (s : State), (s.quiet) ∧ (s.aiCtx c n = some (k, x)) ∧ (s.getA ADC_CTX_n_VALUE_VALID k x ≠ 0) ∧ ((s.ctx k x).doneAt + 10000 * s.getA ADC_CTX_n_AGE_MAX_AGE k x < max s.now t)) := by
  refine ⟨⟨0, 100000000000000, (State.reset.putA ADC_CFG_EN 1 0), ?_⟩,
    ⟨0, { State.reset with adcs := [(0, { refBad := 3 })] }, ?_⟩,
    ⟨0, (State.reset.putA ADC_CFG_EN 1 0), ?_⟩,
    ⟨.a, 0, 100000000000, 0, 2, (((State.reset.put ADC_AI_n_EN 1).put ADC_AI_n_CTX 2).putA ADC_CTX_n_VALUE_VALID 1 0 2), ?_⟩⟩
  all_goals try unfold State.quiet
  all_goals decide +kernel

theorem witness_ClocksAndLockstep :
    (∃ (c : Chan) (count : Nat) (s : State), (s.quiet) ∧ (2 * fmonNominal c < 100 * ((count : Int) - fmonNominal c).natAbs) ∧ (1 ≤ twoAt s.fmon c)) ∧
    (∃ (c : Chan) (count : Nat) (s : State), (100 * ((count : Int) - fmonNominal c).natAbs ≤ 2 * fmonNominal c)) ∧
    (∃  (s : State), (s.quiet) ∧ (s.power = .on)) ∧
    (∃  (s : State), (s.power = .on)) ∧
    (∃ (c : Chan) (s : State), (s.quiet)) ∧
    (∃ (c : Chan) (t0 t1 : BitVec 8) (s : State), (s.quiet) ∧ ((twoAt s.stay c).decoupled = false) ∧ (t0 ≠ 0) ∧ (t1 ≠ 0)) ∧
    (∃ (c : Chan) (t0 t1 : BitVec 8) (s : State), (s.quiet) ∧ ((twoAt s.stay c).decoupled = false) ∧ ((t0 = 0 ∧ t1 ≠ 0) ∨ (t0 ≠ 0 ∧ t1 = 0))) ∧
    (∃ (c : Chan) (t0 : BitVec 8) (s : State), ((twoAt s.stay c).decoupled = false) ∧ (t0 = BitVec.ofNat 8 (2 ^ bitGroup (twoAt s.stay c).nextBit))) ∧
    (∃ (c : Chan) (us : Fin 201) (x : Fin 3 × Fin 8192) (s : State), (s.quiet) ∧ ((twoAt s.stay c).decoupled = false)) ∧
    (∃ (c : Chan) (input : Fin 64) (cycles : Nat) (s : State), (s.quiet) ∧ (4 < cycles)) := by
  refine ⟨⟨.a, 10201, { State.reset with fmon := ⟨1, 0⟩ }, ?_⟩,
    ⟨.a, 10200, State.reset, ?_⟩,
    ⟨State.reset, ?_⟩,
    ⟨State.reset, ?_⟩,
    ⟨.a, State.reset, ?_⟩,
    ⟨.a, 1, 1, State.reset, ?_⟩,
    ⟨.a, 0, 1, State.reset, ?_⟩,
    ⟨.a, 1, State.reset, ?_⟩,
    ⟨.a, 0, (0, 0), State.reset, ?_⟩,
    ⟨.a, 0, 5, State.reset, ?_⟩⟩
  all_goals try unfold State.quiet
  all_goals decide +kernel

theorem witness_CollectorCommands :
    (∃ (c : Chan) (s : State), ((twoAt s.fc (otherChan c)).cl2Line = true) ∧ (s.survives c false = true)) ∧
    (∃ (c : Chan) (s : State), ((twoAt s.fc (otherChan c)).cl2Line = true) ∧ (s.survives c false = false)) ∧
    (∃ (c : Chan) (s : State), (s.dev ≠ stSLEEP)) ∧
    (∃ (c : Chan) (level : Bool) (s : State), (s.quiet) ∧ (level ≠ s.flag FC_FLT_CFG_PIN_CMD c)) ∧
    (∃ (m : MemLoc) (k n : Nat) (s : State), (scrubArea m = some (k, n))) ∧
    (∃ (m : MemLoc) (k n : Nat) (s : State), (s.quiet) ∧ (scrubArea m = some (k, n)) ∧ ((eccEvent m).to .a)) := by
  refine ⟨⟨.a, { ((((State.reset.put DSF_CFG_CL2_REEF 1).put DSF_CFG_MODE 3).put LC_STATUS_STATE 2).put SYS_STATE_DEV_STATE stRUN) with fc := ⟨{}, { cl2Line := true }⟩ }, ?_⟩,
    ⟨.a, { State.reset with fc := ⟨{}, { cl2Line := true }⟩ }, ?_⟩,
    ⟨.a, State.reset, ?_⟩,
    ⟨.a, true, State.reset, ?_⟩,
    ⟨(.tcm .a), 0, 131072, State.reset, ?_⟩,
    ⟨.sharedFree, 2, 524288, State.reset, ?_⟩⟩
  all_goals try unfold State.quiet
  all_goals try unfold FaultEv.to
  all_goals decide +kernel

theorem witness_AngleEngineFaults :
    (∃ (c : Chan) (n : Fin 4) (k : SrcFault) (s : State), (n.val ≠ s.priSrc c) ∧ (n.val ≠ s.secSrc c)) ∧
    (∃ (c : Chan) (n : Fin 4) (s : State), (s.quiet) ∧ (tabHas (twoAt s.ae c).confirm n = true) ∧ (tabGet 0 (twoAt s.ae c).confirm n + 2 ≤ (twoAt s.ae c).stamp)) ∧
    (∃ (c : Chan) (s : State), (s.quiet) ∧ (3 ≤ (twoAt s.ae c).srcBad) ∧ (s.lcState c ≠ 4)) ∧
    (∃  (s : State), (s.quiet) ∧ (3 ≤ s.ae.a.chBad ∨ 3 ≤ s.ae.b.chBad) ∧ (s.lcState .a ≠ 4 ∨ s.lcState .b ≠ 4)) ∧
    (∃ (c : Chan) (s : State), (s.quiet) ∧ (s.implausible c = true)) ∧
    (∃ (c : Chan) (s : State), (s.quiet)) ∧
    (∃ (c : Chan) (t : Nat) (s : State), (1000000000 < ({ s with now := max s.now t }).stillFor c * s.get LC_CFG_VSTILL c)) := by
  refine ⟨⟨.a, 3, .wire, State.reset, ?_⟩,
    ⟨.a, 0, { State.reset with ae := ⟨{ confirm := [(0, 1)], stamp := 3 }, {}⟩ }, ?_⟩,
    ⟨.a, { State.reset with ae := ⟨{ srcBad := 3 }, {}⟩ }, ?_⟩,
    ⟨{ State.reset with ae := ⟨{ chBad := 3 }, {}⟩ }, ?_⟩,
    ⟨.a, { State.reset with ae := ⟨{ velBad := 3 }, {}⟩ }, ?_⟩,
    ⟨.a, State.reset, ?_⟩,
    ⟨.a, 1000000001, ({ State.reset with ae := ⟨{ last := some (0, 0) }, {}⟩ }.put LC_CFG_VSTILL 1), ?_⟩⟩
  all_goals try unfold State.quiet
  all_goals decide +kernel

theorem witness_AngleEngineUpdates :
    (∃ (n : Fin 4) (a b : EncObs) (s : State), (s.running = true) ∧ (s.dev ≠ stSLEEP)) ∧
    (∃ (c : Chan) (t : Nat) (bad : BitVec 4) (s : State), (s.running = true) ∧ (s.dev ≠ stSLEEP) ∧ (s.prog.hasLc = true)) ∧
    (∃ (c : Chan) (n : Fin 1024) (t u : Nat) (s : State), ((tabGet {} (twoAt s.ae c).pts n.val).due = some u) ∧ (u ≤ max s.now t)) ∧
    (∃ (c : Chan) (s : State), (s.quiet) ∧ (s.flag LC_MASTER_CFG_EN c = true) ∧ (32 * s.get LC_MASTER_CFG_TIME c < (twoAt s.ae c).devOut) ∧ (s.flag LC_STATUS_MASTER_DEV c = false)) := by
  refine ⟨⟨0, { count := 0, ref := false, t := 0 }, { count := 0, ref := false, t := 0 }, State.reset, ?_⟩,
    ⟨.a, 0, 0, { State.reset with prog := { hasLc := true } }, ?_⟩,
    ⟨.a, 0, 5, 5, { State.reset with ae := ⟨{ pts := [(0, { due := some 5 })] }, {}⟩ }, ?_⟩,
    ⟨.a, ({ State.reset with ae := ⟨{ devOut := 1 }, {}⟩ }.put LC_MASTER_CFG_EN 1), ?_⟩⟩
  all_goals try unfold State.quiet
  all_goals decide +kernel

theorem camCrcDiffers : ∃ (c : Chan) (s : State), s.quiet ∧ s.usedPoints c ≠ [] ∧ s.camCrc c ≠ s.get CAM_CRC_CRC c := by
  have hq : ∀ (u : State) (v : Nat), (u.put CAM_CRC_CRC v).camCrc .a = u.camCrc .a := fun u v => by
    unfold State.camCrc
    refine congrArg crc32cWords (List.map_congr_left fun i _ => congrArg BitVec.toNat ?_)
    unfold regWord State.put fldPut
    refine tabGet_tabSet_other _ _ _ _ _ ?_
    show camAddr .a i ≠ 0x4002040C
    unfold camAddr
    have : blockBase .lc .a = 0x40020000 := rfl
    split
    · omega
    · split <;> omega
  by_cases h : (State.reset.put CAM_PT_n_ACT_ACTION 1).camCrc .a = 1
  · refine ⟨.a, (State.reset.put CAM_PT_n_ACT_ACTION 1).put CAM_CRC_CRC 2, ⟨rfl, rfl⟩, by decide +kernel, ?_⟩
    rw [hq, h]
    decide +kernel
  · refine ⟨.a, (State.reset.put CAM_PT_n_ACT_ACTION 1).put CAM_CRC_CRC 1, ⟨rfl, rfl⟩, by decide +kernel, ?_⟩
    rw [hq, show State.get ((State.reset.put CAM_PT_n_ACT_ACTION 1).put CAM_CRC_CRC 1) CAM_CRC_CRC .a = 1 by decide +kernel]
    exact h

theorem witness_StayFrames :
    (∃ (c : Chan) (s : State), s.quiet ∧ s.usedPoints c ≠ [] ∧ s.camCrc c ≠ s.get CAM_CRC_CRC c) ∧
    (∃ (c : Chan) (h : StayHead) (s : State), (s.accepts c .ae h)) ∧
    (∃ (c : Chan) (h : StayHead) (v : Nat) (s : State), (s.accepts c .cycle h)) ∧
    (∃ (c : Chan) (h : StayHead) (k : Nat) (s : State), (s.quiet) ∧ (s.accepts c .cycle h) ∧ (k ≠ s.get CAM_CRC_CRC c)) := by
  refine ⟨camCrcDiffers,
    ⟨.a, ⟨0x02, 1, 0, true, true, true⟩, dualSt, ?_⟩,
    ⟨.a, ⟨0x14, 1, 0, true, true, true⟩, 0, dualSt, ?_⟩,
    ⟨.a, ⟨0x14, 1, 0, true, true, true⟩, 1, dualSt, ?_⟩⟩
  all_goals try unfold State.quiet
  all_goals try unfold State.accepts
  all_goals decide +kernel

theorem witness_StayLink :
    (∃  (s : State), (s.stay.a.attrOpen = true ∨ s.stay.b.attrOpen = true)) ∧
    (∃ (c : Chan) (h : StayHead) (o : Int) (s : State), (s.accepts c .ae h)) ∧
    (∃ (c : Chan) (s : State), (s.quiet) ∧ (s.stayMode c = 1) ∧ (3 ≤ (twoAt s.stay c).skewTicks)) ∧
    (∃ (c : Chan) (m : StayMissing) (s : State), (s.quiet) ∧ (s.stayMode c = 1) ∧ (m ≠ .coord ∨ 1 ≤ (twoAt s.stay c).coordMissing) ∧ (s.pulse.src < 8) ∧ (s.outs.slot.unit < 20)) ∧
    (∃ (c : Chan) (h : StayHead) (s : State), (s.stayMode c = 2) ∧ (h.typ = 0x15) ∧ (h.crcOk = true) ∧ (h.lengthOk = true) ∧ (h.seq = (s.get STY_SEQ_CYC_RX c + 1) % 256) ∧ (h.stamp = s.get SYS_GCOUNT_COUNT)) ∧
    (∃ (c : Chan) (l : Lane) (n : Nat) (s : State), (n ≠ s.get (txSeqFld l) c)) ∧
    (∃ (c : Chan) (l : Lane) (s : State), (s.get STY_REPEATS_TX c < 65535)) ∧
    (∃  (s : State), (s.quiet) ∧ (s.stayMode .a = 0 ∨ s.stayMode .b = 0)) ∧
    (∃ (c : Chan) (h : StayHead) (s : State), (s.accepts c .cycle h)) ∧
    (∃ (c : Chan) (h : StayHead) (s : State), (s.accepts c .cycle h)) ∧
    (∃ (c : Chan) (h : StayHead) (s : State), (s.accepts c .cycle h) ∧ (twoAt s.inp.got (otherChan c) = false)) := by
  refine ⟨⟨{ State.reset with stay := ⟨{ attrOpen := true }, {}⟩ }, ?_⟩,
    ⟨.a, ⟨0x01, 1, 0, true, true, true⟩, 0, dualSt, ?_⟩,
    ⟨.a, { dualSt with stay := ⟨{ skewTicks := 3 }, {}⟩ }, ?_⟩,
    ⟨.a, .input, dualSt, ?_⟩,
    ⟨.a, ⟨0x15, 1, 0, true, true, true⟩, aloneSt, ?_⟩,
    ⟨.a, .cycle, 1, State.reset, ?_⟩,
    ⟨.a, .cycle, State.reset, ?_⟩,
    ⟨State.reset, ?_⟩,
    ⟨.a, ⟨0x13, 1, 0, true, true, true⟩, dualSt, ?_⟩,
    ⟨.a, ⟨0x13, 1, 0, true, true, true⟩, dualSt, ?_⟩,
    ⟨.a, ⟨0x10, 1, 0, true, true, true⟩, dualSt, ?_⟩⟩
  all_goals try unfold State.quiet
  all_goals try unfold State.accepts
  all_goals decide +kernel

theorem witness_SafeInputs :
    (∃ (c : Chan) (p : Fin 48) (v : Bool) (s : State), ((twoAt s.die c).powered = true)) ∧
    (∃ (n : Fin 24) (s : State), (s.quiet) ∧ ((s.pair n).disc ≠ 0)) ∧
    (∃ (p : Fin 48) (s : State), (s.quiet) ∧ (s.pairMode (p.val / 2) ≠ 0) ∧ (s.sample .a p ≠ s.sample .b p)) ∧
    (∃ (n : Fin 8) (u : Nat) (s : State), (s.dual = true) ∧ (s.srcUsed n = true) ∧ (s.srcExpiry n ≤ max s.now u)) ∧
    (∃ (high : BitVec 48) (k : Nat) (s : State), (s.pulse.phase = .idle) ∧ (s.dual = true) ∧ (s.nextSource = some k)) ∧
    (∃ (u : Nat) (s : State), (s.pulse.phase = .announce) ∧ (s.pulse.confirmed = ⟨true, true⟩)) ∧
    (∃ (a b : PulseObs) (s : State), (s.pulse.phase = .pulse) ∧ ((∀ p : Fin 48, s.pulse.judged.getLsbD p = true → a.lowEnd.getLsbD p = true ∧ b.lowEnd.getLsbD p = true))) ∧
    (∃ (a b : PulseObs) (s : State), (s.pulse.phase = .pulse) ∧ (s.quiet)) ∧
    (∃ (high : BitVec 48) (s : State), (s.pulse.phase = .settle)) ∧
    (∃ (n : Fin 8) (s : State), (s.srcUsed n = true) ∧ (s.pulse.phase = .idle ∨ s.pulse.src ≠ n.val) ∧ (s.quiet)) ∧
    (∃ (c : Chan) (n : Fin 24) (y : Bool) (s : State), ((twoAt s.die c).powered = true) ∧ (s.isFk c n = true) ∧ ((twoAt s.die c).blank.getLsbD (2 * n.val + y.toNat) = false)) ∧
    (∃ (c : Chan) (n : Fin 24) (s : State), ((twoAt s.die c).fkFired.getLsbD n = true) ∧ ((twoAt s.die c).blank.getLsbD (2 * n.val) = false) ∧ ((twoAt s.die c).blank.getLsbD (2 * n.val + 1) = false)) ∧
    (∃ (c : Chan) (s : State), (s.quiet) ∧ (crc32cWords (twoAt s.die c).fkWords ≠ s.get SIN_FK_CRC_IMG_CRC c)) ∧
    (∃ (c : Chan) (s : State), (crc32cWords (twoAt s.die c).fkWords = s.get SIN_FK_CRC_IMG_CRC c)) := by
  refine ⟨⟨.a, 0, false, { State.reset with die := ⟨{ powered := true }, {}⟩ }, ?_⟩,
    ⟨0, { State.reset with pairs := [(0, { disc := 1 })] }, ?_⟩,
    ⟨0, ({ State.reset with inp := { agreed := ⟨1, 0⟩ } }.put SIN_PAIR_n_CFG_MODE 1), ?_⟩,
    ⟨0, 0, (dualSt.put SIN_PAIR_n_CFG_MODE 1), ?_⟩,
    ⟨0, 2, { dualSt with srcs := [(2, { due := true })] }, ?_⟩,
    ⟨0, { State.reset with pulse := { phase := .announce, confirmed := ⟨true, true⟩ } }, ?_⟩,
    ⟨⟨1, 1⟩, ⟨1, 1⟩, { State.reset with pulse := { phase := .pulse, judged := 1 } }, ?_⟩,
    ⟨{ lowEnd := 0, wentLow := 0 }, { lowEnd := 0, wentLow := 0 }, { State.reset with pulse := { phase := .pulse, judged := 1 } }, ?_⟩,
    ⟨0, { State.reset with pulse := { phase := .settle } }, ?_⟩,
    ⟨0, (State.reset.put SIN_PAIR_n_CFG_MODE 1), ?_⟩,
    ⟨.a, 0, false, (({ State.reset with die := ⟨{ powered := true }, {}⟩ }.put SIN_PAIR_n_CFG_MODE 1).put SIN_PAIR_n_CFG_FK_EN 1), ?_⟩,
    ⟨.a, 0, { State.reset with die := ⟨{ fkFired := 1 }, {}⟩ }, ?_⟩,
    ⟨.a, (State.reset.put SIN_FK_CRC_IMG_CRC 1), ?_⟩,
    ⟨.a, State.reset, ?_⟩⟩
  all_goals try unfold State.quiet
  all_goals decide +kernel

theorem witness_SafeOutputs :
    (∃ (u : Fin 20) (w : Nat) (o : TestObs) (m : Bool) (s : State), (s.quiet) ∧ (u.val < 16) ∧ (s.outMode u ≠ 0) ∧ (s.testHits (outBit u) 0 = false) ∧ ((s.out u).changed + 150000 ≤ max s.now w) ∧ ((s.closed .a).getLsbD u = true) ∧ ((s.closed .b).getLsbD u = true) ∧ (o.mA ≠ .h ∨ o.mB ≠ .h)) ∧
    (∃ (u : Fin 20) (w : Nat) (o : TestObs) (l m : Bool) (s : State), (s.quiet) ∧ (u.val < 16) ∧ (s.outMode u ≠ 0) ∧ (s.testHits (outBit u) 0 = false) ∧ ((s.out u).changed + 150000 ≤ max s.now w) ∧ ((s.closed .a).getLsbD u = false) ∧ ((s.closed .b).getLsbD u = false) ∧ (s.die.b.held.getLsbD u = false) ∧ (o.mA ≠ .l ∨ o.mB ≠ .l)) ∧
    (∃ (u : Fin 20) (w : Nat) (o : TestObs) (l m : Bool) (s : State), (s.quiet) ∧ (16 ≤ u.val) ∧ (s.lsUsed (u.val - 16) = true) ∧ (s.testHits 0 (BitVec.ofNat 4 (2 ^ (u.val - 16))) = false) ∧ (s.lsClosed.getLsbD (u.val - 16) = true) ∧ (o.dA ≠ .l ∨ o.dB ≠ .l)) ∧
    (∃ (c : Chan) (u : Fin 20) (s : State), (s.quiet) ∧ (u.val < 16)) ∧
    (∃ (c : Chan) (u : Fin 20) (s : State), (s.quiet) ∧ (16 ≤ u.val)) ∧
    (∃ (n : Fin 16) (s : State), (s.quiet) ∧ (s.outMode n ≠ 0)) ∧
    (∃ (n : Fin 16) (s : State), (s.quiet) ∧ (0 < s.get SOUT_n_CFG_OPEN_LOAD .a n) ∧ ((s.closed .a &&& s.closed .b).getLsbD n = true) ∧ (s.flag SOUT_n_CFG_OPEN_CLASS .a n = true)) ∧
    (∃ (n : Fin 16) (s : State), (s.quiet) ∧ (0 < s.get SOUT_n_CFG_OPEN_LOAD .a n) ∧ ((s.closed .a &&& s.closed .b).getLsbD n = true) ∧ (s.flag SOUT_n_CFG_OPEN_CLASS .a n = false)) := by
  refine ⟨⟨0, 150000, ⟨.mid, .mid, .mid, .mid, .mid, .mid, .between, false⟩, false, ({ State.reset with die := ⟨{ powered := true, stream := true, cmd := 1 }, { powered := true, stream := true, cmd := 1 }⟩ }.put SOUT_n_CFG_MODE 1), ?_⟩,
    ⟨0, 150000, ⟨.mid, .mid, .mid, .mid, .mid, .mid, .between, false⟩, false, false, (State.reset.put SOUT_n_CFG_MODE 1), ?_⟩,
    ⟨16, 0, ⟨.mid, .mid, .mid, .mid, .mid, .mid, .between, false⟩, false, false, ({ State.reset with die := ⟨{}, { powered := true, stream := true, lsCmd := 1 }⟩ }.put SOUT_n_CFG_MODE 2), ?_⟩,
    ⟨.a, 0, State.reset, ?_⟩,
    ⟨.a, 16, State.reset, ?_⟩,
    ⟨0, (State.reset.put SOUT_n_CFG_MODE 1), ?_⟩,
    ⟨0, (({ State.reset with die := ⟨{ powered := true, stream := true, cmd := 1 }, { powered := true, stream := true, cmd := 1 }⟩ }.put SOUT_n_CFG_OPEN_LOAD 1).put SOUT_n_CFG_OPEN_CLASS 1), ?_⟩,
    ⟨0, ({ State.reset with die := ⟨{ powered := true, stream := true, cmd := 1 }, { powered := true, stream := true, cmd := 1 }⟩ }.put SOUT_n_CFG_OPEN_LOAD 1), ?_⟩⟩
  all_goals try unfold State.quiet
  all_goals decide +kernel

theorem witness_OutputTests :
    (∃ (k : Fin 36) (w : Nat) (s : State), (s.testUsed k = true) ∧ (s.testBlocked k = false) ∧ (s.testOwed k = true ∨ s.testExpiry k ≤ max s.now w)) ∧
    (∃ (w va vb ma : Nat) (ta tb : Int) (k : Nat) (s : State), (s.outs.slot.phase = .idle) ∧ (s.dual = true) ∧ (({ s with now := max s.now w }).nextTest = some k)) ∧
    (∃ (o : TestObs) (s : State), (s.outs.slot.phase = .announce) ∧ (s.outs.slot.confirmed = ⟨true, true⟩) ∧ (s.outs.slot.kind ≠ .midA ∨ o.diff = .isOpen) ∧ (s.outs.slot.kind ≠ .lsMid ∨ (o.dA ≠ .l ∧ o.dB ≠ .l))) ∧
    (∃ (o : TestObs) (s : State), (s.quiet) ∧ (s.outs.slot.phase = .announce) ∧ (s.outs.slot.confirmed = ⟨true, true⟩) ∧ (s.outs.slot.kind = .midA) ∧ (o.diff ≠ .isOpen)) ∧
    (∃ (w : Nat) (o : TestObs) (s : State), (s.outs.slot.phase = .test) ∧ (({ s with now := max s.now w }).endSlot.verdict s.outs.slot.kind s.outs.slot.unit o = none) ∧ (s.outs.slot.onWaits = false)) ∧
    (∃ (w : Nat) (o : TestObs) (s : State), (s.quiet) ∧ (s.outs.slot.phase = .test) ∧ (s.outs.slot.kind = .offB) ∧ (o.oA = .l ∧ o.oB = .l) ∧ (o.mA ≠ .h ∨ o.mB ≠ .h)) ∧
    (∃ (w : Nat) (o : TestObs) (s : State), (s.outs.slot.phase = .verify) ∧ (verifyOk s.outs.slot.kind o = true)) ∧
    (∃ (w : Nat) (o : TestObs) (s : State), (s.quiet) ∧ (s.outs.slot.phase = .verify) ∧ (s.outs.slot.kind = .offA ∨ s.outs.slot.kind = .midA ∨ s.outs.slot.kind = .offB ∨ s.outs.slot.kind = .midB) ∧ (verifyOk s.outs.slot.kind o = false)) := by
  refine ⟨⟨0, 100000000000000, ((State.reset.put SOUT_n_CFG_MODE 1).put SOUT_n_CFG_TESTED 1), ?_⟩,
    ⟨0, 0, 0, 0, 0, 0, 0, (({ dualSt with outs := { outs := [(0, { owesMidA := true })] } }.put SOUT_n_CFG_MODE 1).put SOUT_n_CFG_TESTED 1), ?_⟩,
    ⟨⟨.mid, .mid, .mid, .mid, .mid, .mid, .isOpen, false⟩, { State.reset with outs := { slot := { phase := .announce, kind := .midA, confirmed := ⟨true, true⟩ } } }, ?_⟩,
    ⟨⟨.mid, .mid, .mid, .mid, .mid, .mid, .between, false⟩, { State.reset with outs := { slot := { phase := .announce, kind := .midA, confirmed := ⟨true, true⟩ } } }, ?_⟩,
    ⟨0, ⟨.l, .l, .l, .l, .l, .l, .isOpen, false⟩, { State.reset with outs := { slot := { phase := .test, kind := .offA } } }, ?_⟩,
    ⟨0, ⟨.mid, .mid, .l, .l, .l, .l, .isOpen, false⟩, { State.reset with outs := { slot := { phase := .test, kind := .offB } } }, ?_⟩,
    ⟨0, ⟨.h, .h, .h, .h, .l, .l, .isOpen, false⟩, { State.reset with outs := { slot := { phase := .verify, kind := .offA } } }, ?_⟩,
    ⟨0, ⟨.mid, .mid, .mid, .mid, .mid, .mid, .between, false⟩, { State.reset with outs := { slot := { phase := .verify, kind := .offA } } }, ?_⟩⟩
  all_goals try unfold State.quiet
  all_goals decide +kernel

theorem witness_Networks :
    (∃ (n : Net) (o : PtpObs) (w : Nat) (s : State), (s.netReady n = true) ∧ (o.master = true) ∧ (s.getN NET_n_CFG_PTP_MODE n ≠ 0)) ∧
    (∃ (n : Net) (o : PtpObs) (w : Nat) (s : State), (s.netReady n = true) ∧ (o.master = false) ∧ (o.sync = true) ∧ (o.diff.natAbs ≤ 1000) ∧ (7 ≤ (s.ptpSt n).good)) ∧
    (∃ (n : Net) (w : Nat) (s : State), ((s.ptpSt n).master = false) ∧ ((s.ptpSt n).lastSync + 3000000000 ≤ max s.now w)) ∧
    (∃ (n : Net) (w : Nat) (s : State), (s.syncedNet n = true)) ∧
    (∃ (n : Net) (p q : Option Bool) (s : State), (s.getN NET_n_CFG_EN n = 1)) ∧
    (∃ (n : Net) (w : Nat) (s : State), (s.netReady n = true) ∧ ((s.netSt n).polSec ≠ max s.now w / 1000000000 ∨ (s.netSt n).polCount < 4000)) ∧
    (∃ (n : Net) (w : Nat) (s : State), (s.netReady n = true) ∧ ((s.netSt n).polSec ≠ max s.now w / 1000000000 ∨ (s.netSt n).polCount < 4000) ∧ (s.getN NET_n_CFG_ICMP n = 1)) ∧
    (∃ (n : Net) (f : SwitchFrame) (w : Nat) (s : State), (s.getN NET_n_CFG_EN n ≠ 0) ∧ (s.getN NET_n_CFG_P1_EN n ≠ 0) ∧ (s.getN NET_n_CFG_P2_EN n ≠ 0) ∧ (f.bytes ≤ 1522) ∧ (f.forDevice = false) ∧ (f.broadcast = false) ∧ (∀ e ∈ (s.netSt n).macs, e.1 ≠ f.dst)) ∧
    (∃ (n : Net) (f : MasterFrame) (w : Nat) (s : State), (s.flag LC_MASTER_CFG_EN .a = true) ∧ (s.netReady n = true) ∧ ((s.netSt n).polSec ≠ max s.now w / 1000000000 ∨ (s.netSt n).polCount < 4000) ∧ (s.getN NET_n_MASTER_SRC_ADDR n ≠ 0) ∧ (f.srcAddr = s.getN NET_n_MASTER_SRC_ADDR n) ∧ (f.crcOk = true) ∧ ((s.netSt n).masterSeq = none) ∧ (s.syncedNet n = true) ∧ (((max s.now w : Nat) : Int) + (s.ptpSt n).offset - f.time ≤ 1000000 * s.get NET_MASTER_STALE) ∧ (s.ae.a.master = none)) ∧
    (∃ (n : Net) (s : State), (s.quiet) ∧ (s.anySession = true) ∧ (s.getN NET_n_STATUS_P1_UP n = 0) ∧ (s.getN NET_n_STATUS_P2_UP n = 0)) ∧
    (∃ (n : Net) (s : State), (s.quiet)) := by
  refine ⟨⟨.x, ⟨true, true, 0, 0⟩, 0, (netSt0.put NET_n_CFG_PTP_MODE 1), ?_⟩,
    ⟨.x, ⟨true, false, -1000, 0⟩, 0, { netSt0 with ptp := ⟨{ good := 7 }, {}⟩ }, ?_⟩,
    ⟨.x, 3000000000, State.reset, ?_⟩,
    ⟨.x, 0, { State.reset with ptp := ⟨{ synced := true }, {}⟩ }, ?_⟩,
    ⟨.x, none, none, netSt0, ?_⟩,
    ⟨.x, 0, netSt0, ?_⟩,
    ⟨.x, 0, (netSt0.put NET_n_CFG_ICMP 1), ?_⟩,
    ⟨.x, { fromP2 := false, src := 0, dst := 0, broadcast := false, bytes := 0, forDevice := false }, 0, ((netSt0.put NET_n_CFG_P1_EN 1).put NET_n_CFG_P2_EN 1), ?_⟩,
    ⟨.x, ⟨true, 7, 0, 0, 0, 0⟩, 0, (({ netSt0 with ptp := ⟨{ synced := true }, {}⟩ }.put LC_MASTER_CFG_EN 1).put NET_n_MASTER_SRC_ADDR 7), ?_⟩,
    ⟨.x, ({ State.reset with ses := [(0, {})] }.put GOA_SES_n_CFG_EN 1), ?_⟩,
    ⟨.x, State.reset, ?_⟩⟩
  all_goals try unfold State.quiet
  all_goals decide +kernel

theorem witness_GoaleSessions :
    (∃ (p : Net) (f : GoaFrame) (w n : Nat) (s : State), (s.netReady p = true) ∧ (s.dev ≠ stSLEEP) ∧ (f.portOk = true) ∧ (s.sesOf p f = some n) ∧ ((twoAt (s.se n).slots (netChan p)).length < 4)) ∧
    (∃ (p : Net) (f : GoaFrame) (w : Nat) (s : State), (s.netReady p = true) ∧ (s.dev ≠ stSLEEP) ∧ (f.portOk = false ∨ s.sesOf p f = none)) ∧
    (∃ (n : Fin 256) (w : Nat) (s : State), (∃ x ∈ (s.se n).wins, x.until_ ≤ max s.now w)) ∧
    (∃ (n : Fin 256) (p : Net) (w : Nat) (s : State), (s.quiet) ∧ (s.sesState n = sesRUN) ∧ (s.pathUp n p = true) ∧ (twoAt (s.se n).lastPass (netChan p) + s.sesWd n ≤ max s.now w)) ∧
    (∃ (n : Fin 256) (w : Nat) (s : State), (s.quiet) ∧ (s.sesState n = sesRUN) ∧ ((s.syncedNet (s.se n).lastNet = true ∧ (((s.se n).lastStamp + s.sesWd n : Nat) : Int) < ((max s.now w : Nat) : Int) + (s.ptpSt (s.se n).lastNet).offset) ∨ (s.se n).lastArrival + s.sesWd n < max s.now w)) ∧
    (∃ (w tm ep : Nat) (n : Net) (s : State), (s.epochAt = some (n, tm, ep)) ∧ (s.syncedNet n = true) ∧ ((tm : Int) ≤ ((max s.now w : Nat) : Int) + (s.ptpSt n).offset)) := by
  refine ⟨⟨.x, ⟨true, 1, 3, 5, true, .x, false, 0, [], [], 0, 0, 0, 0, 0, 0, true, true⟩, 0, 0, ((((({ netSt0 with ses := [(0, {})] }.put GOA_SES_n_CFG_EN 1).put GOA_SES_n_TIME_RX_PERIOD 4).put GOA_SES_n_PEER_PEER_NODE 1).put GOA_SES_n_PEER_CONN_ID 3).put GOA_SES_n_ADDR_X_ADDR 5), ?_⟩,
    ⟨.x, ⟨true, 2, 3, 5, true, .x, false, 0, [], [], 0, 0, 0, 0, 0, 0, true, true⟩, 0, ((((({ netSt0 with ses := [(0, {})] }.put GOA_SES_n_CFG_EN 1).put GOA_SES_n_TIME_RX_PERIOD 4).put GOA_SES_n_PEER_PEER_NODE 1).put GOA_SES_n_PEER_CONN_ID 3).put GOA_SES_n_ADDR_X_ADDR 5), ?_⟩,
    ⟨0, 0, { State.reset with ses := [(0, { wins := [⟨.x, ⟨true, 1, 3, 5, true, .x, false, 0, [], [], 0, 0, 0, 0, 0, 0, true, true⟩, 0⟩] })] }, ?_⟩,
    ⟨0, .x, 8000000, (((State.reset.put GOA_SES_n_STATUS_STATE sesRUN).put GOA_SES_n_STATUS_PATH_X_UP 1).put GOA_SES_n_TIME_WD 8), ?_⟩,
    ⟨0, 8000001, (((State.reset.put GOA_SES_n_STATUS_STATE sesRUN).put GOA_SES_n_STATUS_PATH_X_UP 1).put GOA_SES_n_TIME_WD 8), ?_⟩,
    ⟨5, 5, 2, .x, { State.reset with epochAt := some (.x, 5, 2), ptp := ⟨{ synced := true }, {}⟩ }, ?_⟩⟩
  all_goals try unfold State.quiet
  all_goals decide +kernel

theorem witness_LinePorts :
    (∃ (p : Port) (a b : Half) (pk af lost w : Nat) (s : State), (s.portUsed p = true) ∧ (s.portState p ≠ ptUNUSED) ∧ (((({ s with now := max s.now w }).xoffOut p pk af).fifoOverflow p lost).frameFails p a b = none) ∧ (((({ s with now := max s.now w }).xoffOut p pk af).fifoOverflow p lost).portState p = ptUP)) ∧
    (∃ (p : Port) (a b : Half) (pk af lost w : Nat) (f : Fld) (s : State), (s.portUsed p = true) ∧ (s.portState p ≠ ptUNUSED) ∧ (((({ s with now := max s.now w }).xoffOut p pk af).fifoOverflow p lost).frameFails p a b = some f)) ∧
    (∃ (p : Port) (w : Nat) (s : State), (s.quiet) ∧ (s.portState p = ptUP) ∧ ((s.port p).lastOk + 100000 ≤ max s.now w)) ∧
    (∃ (w : Nat) (s : State), (s.portUsed .up = true) ∧ (s.canBuild = true)) ∧
    (∃ (p : Port) (r : List (BitVec 16)) (pk af : Nat) (s : State), (s.portUsed p = true) ∧ ((s.xoffOut p pk af).flag REC_CFG_EN = true) ∧ (r.length ≤ 36) ∧ ((s.xoffOut p pk af).relayPort = none ∨ (s.xoffOut p pk af).relayPort = some (otherPort p)) ∧ (((s.xoffOut p pk af).recDrops (((r.map BitVec.toNat).headD 0) / 256) r.length) = false)) ∧
    (∃ (n : Nat) (p : Port) (r : List Nat) (l : List (List Nat)) (s : State), (s.relayPort = some p) ∧ (s.recd.fifo = r :: l) ∧ (s.flag REC_CFG_EN = true) ∧ (s.portUsed p = true) ∧ (92 ≤ n) ∧ (s.getP LLK_PORT_n_STATUS_XOFF_IN p = 0)) ∧
    (∃ (p : Port) (v : Bool) (w : Nat) (s : State), (s.getP LLK_PORT_n_STATUS_XOFF_IN p ≠ v.toNat)) ∧
    (∃ (p : Port) (w : Nat) (s : State), (s.quiet) ∧ (s.getP LLK_PORT_n_STATUS_XOFF_IN p = 1) ∧ ((s.port p).xoffAt + 10000000 < max s.now w)) ∧
    (∃  (s : State), (s.quiet)) ∧
    (∃  (s : State), (s.get REC_CFG_FLUSH ≠ 0) ∧ (s.recd.fifo ≠ [])) ∧
    (∃  (s : State), (s.quiet) ∧ (s.flag REC_STATUS_RDY = true)) ∧
    (∃ (r : List Nat) (l : List (List Nat)) (s : State), (s.relayPort = none) ∧ (s.recd.fifo = r :: l)) ∧
    (∃  (s : State), (s.relayPort = none) ∧ (s.recd.fifo = [])) := by
  refine ⟨⟨.up, ⟨true, true, 0x4A, 1, 0, false, false, 0, 9, [], true⟩, ⟨true, true, 0x4B, 1, 0, false, false, 0, 9, [], true⟩, 0, 1, 0, 0, ((((State.reset.put LLK_CFG_UP_USED 1).put LLK_CFG_N 2).put LLK_CFG_POS 1).put LLK_PORT_n_STATUS_STATE ptUP), ?_⟩,
    ⟨.up, ⟨true, false, 0x4A, 1, 0, false, false, 0, 9, [], true⟩, ⟨true, true, 0x4B, 1, 0, false, false, 0, 9, [], true⟩, 0, 1, 0, 0, LLK_PORT_n_COUNT_CRC, ((((State.reset.put LLK_CFG_UP_USED 1).put LLK_CFG_N 2).put LLK_CFG_POS 1).put LLK_PORT_n_STATUS_STATE ptUP), ?_⟩,
    ⟨.up, 100000, ((((State.reset.put LLK_CFG_UP_USED 1).put LLK_CFG_N 2).put LLK_CFG_POS 1).put LLK_PORT_n_STATUS_STATE ptUP), ?_⟩,
    ⟨0, (((((State.reset.put LLK_CFG_UP_USED 1).put LLK_CFG_N 2).put LLK_CFG_POS 1).put LLK_PORT_n_STATUS_STATE ptUP).put SYS_STATE_DEV_STATE stSAFE), ?_⟩,
    ⟨.up, [0x0201], 0, 1, (((((State.reset.put LLK_CFG_UP_USED 1).put LLK_CFG_N 2).put LLK_CFG_POS 1).put LLK_PORT_n_STATUS_STATE ptUP).put REC_CFG_EN 1), ?_⟩,
    ⟨92, .up, [1], [], (({ ((((State.reset.put LLK_CFG_UP_USED 1).put LLK_CFG_N 2).put LLK_CFG_POS 1).put LLK_PORT_n_STATUS_STATE ptUP) with recd := { fifo := [[1]] } }.put REC_CFG_EN 1).put REC_CFG_RELAY 1), ?_⟩,
    ⟨.up, true, 0, State.reset, ?_⟩,
    ⟨.up, 10000001, (State.reset.put LLK_PORT_n_STATUS_XOFF_IN 1), ?_⟩,
    ⟨State.reset, ?_⟩,
    ⟨({ State.reset with recd := { fifo := [[1]] } }.put REC_CFG_FLUSH 1), ?_⟩,
    ⟨(State.reset.put REC_STATUS_RDY 1), ?_⟩,
    ⟨[1], [], { State.reset with recd := { fifo := [[1]] } }, ?_⟩,
    ⟨State.reset, ?_⟩⟩
  all_goals try unfold State.quiet
  all_goals decide +kernel

theorem witness_MonitoredStops :
    (∃ (c : Chan) (s : State), (s.theStop.running = true) ∧ (s.theStop.atT0 = false) ∧ (s.theStop.furlNext = none) ∧ (s.get DSF_CFG_MODE .a = 3) ∧ ((∀ d ∈ s.parts, 3 ≤ (twoAt s.stop d).slow ∨ s.flag LC_STATUS_STANDSTILL d = true)) ∧ (c ∈ s.parts)) ∧
    (∃ (c : Chan) (w : Nat) (s : State), (s.theStop.running = true) ∧ (s.theStop.atT0 = false) ∧ (s.theStop.furlNext = none) ∧ (s.get DSF_CFG_MODE .a = 2) ∧ (s.theStop.t0 + 1000000 * s.get DSF_TIME_T_STOP .a ≤ max s.now w) ∧ (c ∈ s.parts)) ∧
    (∃ (w : Nat) (s : State), (s.quiet) ∧ (s.theStop.running = true) ∧ (s.theStop.atT0 = false) ∧ (s.theStop.complete = false) ∧ (s.theStop.furlNext = none) ∧ (s.get DSF_CFG_MODE .a = 3) ∧ (s.parts.length = 2) ∧ (s.theStop.t0 + 1000000 * s.get DSF_TIME_T_STOP .a ≤ max s.now w)) ∧
    (∃ (c : Chan) (w : Nat) (s : State), (s.theStop.overlap = true) ∧ (s.theStop.overlapAt + 1000000 * s.get DSF_SBC_TIME_T_OVERLAP .a ≤ max s.now w) ∧ (c ∈ s.parts)) ∧
    (∃ (c : Chan) (w : Nat) (s : State), ((twoAt s.die c).furl.armed = true) ∧ ((twoAt s.die c).furl.expired = false) ∧ ((twoAt s.die c).furl.start + 1000000 * s.get DSF_FURL_TIME c ≤ max s.now w) ∧ ((!(twoAt s.die c).holding && ((twoAt s.die c).cmd &&& s.stoMap c) != 0) = false)) ∧
    (∃ (c : Chan) (w : Nat) (s : State), (s.quiet) ∧ ((twoAt s.die c).furl.armed = true) ∧ ((twoAt s.die c).furl.expired = false) ∧ ((twoAt s.die c).furl.start + 1000000 * s.get DSF_FURL_TIME c ≤ max s.now w) ∧ ((twoAt s.die c).holding = false) ∧ ((twoAt s.die c).cmd &&& s.stoMap c ≠ 0)) ∧
    (∃ (c : Chan) (s : State), ((twoAt s.die c).holding = true) ∧ ((twoAt s.die (otherChan c)).furl.armed = false)) ∧
    (∃ (c : Chan) (s : State), (s.quiet) ∧ (crc32cWords (twoAt s.die c).furlWords % 2 ^ 32 ≠ s.get DSF_FURL_CRC_IMG_CRC c)) ∧
    (∃ (c : Chan) (w : Nat) (s : State), ((twoAt s.die c).powered = true) ∧ ((twoAt s.die c).stream = true) ∧ (s.dev ≠ stSLEEP) ∧ ((twoAt s.die c).lastCmd + 2 * s.tg + 20000 ≤ max s.now w)) := by
  refine ⟨⟨.a, ({ aloneSt with stop := ⟨{ running := true, slow := 3 }, {}⟩ }.put DSF_CFG_MODE 3), ?_⟩,
    ⟨.a, 5000000, (({ dualSt with stop := ⟨{ running := true }, {}⟩ }.put DSF_CFG_MODE 2).put DSF_TIME_T_STOP 5), ?_⟩,
    ⟨5000000, (({ dualSt with stop := ⟨{ running := true }, {}⟩ }.put DSF_CFG_MODE 3).put DSF_TIME_T_STOP 5), ?_⟩,
    ⟨.a, 5000000, ({ dualSt with stop := ⟨{ overlap := true }, {}⟩ }.put DSF_SBC_TIME_T_OVERLAP 5), ?_⟩,
    ⟨.a, 5000000, ({ State.reset with die := ⟨{ furl := { armed := true } }, {}⟩ }.put DSF_FURL_TIME 5), ?_⟩,
    ⟨.a, 5000000, (({ State.reset with die := ⟨{ furl := { armed := true }, cmd := 1 }, {}⟩ }.put DSF_FURL_TIME 5).put SOUT_n_CFG_STO 1), ?_⟩,
    ⟨.a, { State.reset with die := ⟨{ holding := true }, {}⟩ }, ?_⟩,
    ⟨.a, (State.reset.put DSF_FURL_CRC_IMG_CRC 1), ?_⟩,
    ⟨.a, 100000000, { State.reset with die := ⟨{ powered := true, stream := true }, {}⟩ }, ?_⟩⟩
  all_goals try unfold State.quiet
  all_goals decide +kernel

theorem witness_OtpAndFirewall :
    (∃ (i : Initiator) (n : Fin 512) (s : State), (i = .sec ∨ i = .hmc) ∧ (s.fwAllows i .write (blockBase .otp .a) (blockBase .otp .a + 3) = true) ∧ (s.flag OTP_STATUS_BUSY = false)) ∧
    (∃ (i : Initiator) (n : Fin 512) (s : State), (i = .sec ∨ i = .hmc) ∧ (s.fwAllows i .write (blockBase .otp .a) (blockBase .otp .a + 3) = true) ∧ (s.flag OTP_STATUS_BUSY = false)) ∧
    (∃ (n : Fin 512) (s : State), (s.flag OTP_STATUS_BUSY = false)) ∧
    (∃ (n : Fin 512) (s : State), (s.flag OTP_STATUS_BUSY = false)) ∧
    (∃ (n : Fin 512) (s : State), (s.flag OTP_STATUS_BUSY = false)) ∧
    (∃ (o : Sense) (ok : Bool) (c : OtpCmd) (s : State), (s.sec.otpRun = some c)) ∧
    (∃  (s : State), (s.staged.en = false ∨ s.staged.base ≤ s.staged.limit)) ∧
    (∃  (s : State), (s.staged.en = true) ∧ (s.staged.limit < s.staged.base)) := by
  refine ⟨⟨.sec, 0, (State.reset.put OTP_STATUS_BUSY 0), ?_⟩,
    ⟨.sec, 0, (State.reset.put OTP_STATUS_BUSY 0), ?_⟩,
    ⟨0, (State.reset.put OTP_STATUS_BUSY 0), ?_⟩,
    ⟨0, (State.reset.put OTP_STATUS_BUSY 0), ?_⟩,
    ⟨0, (State.reset.put OTP_STATUS_BUSY 0), ?_⟩,
    ⟨{}, false, ⟨1, 0⟩, { State.reset with sec := { otpRun := some ⟨1, 0⟩ } }, ?_⟩,
    ⟨State.reset, ?_⟩,
    ⟨((State.reset.put SEC_FW_ATTR_EN 1).put SEC_FW_BASE_ADDR 1), ?_⟩⟩
  all_goals decide +kernel

theorem witness_ConditionMonitor :
    (∃ (d : List Int) (a b e : Int) (w : Nat) (s : State), (s.running = true) ∧ (s.sec.measAt + 1000000000 ≤ max s.now w)) ∧
    (∃ (a b : Nat) (s : State), (min a b < 60) ∧ (s.get SYS_STATE_SC_CLK_STEP < 2)) ∧
    (∃ (c : Chan) (p : Nat) (s : State), (30 ≤ p)) ∧
    (∃ (c : Chan) (p : Nat) (s : State), (p < 30) ∧ (s.get SYS_STATE_SC_CLK_STEP < 2)) ∧
    (∃ (c : Chan) (p : Nat) (s : State), (s.quiet) ∧ (p < 30) ∧ (2 ≤ s.get SYS_STATE_SC_CLK_STEP) ∧ (2 ≤ twoAt s.sec.slackLow c)) ∧
    (∃ (u : Nat) (s : State), (s.get SOUT_VERIFY_VERIFY < 100) ∧ (s.get SOUT_VERIFY_VERIFY < u + 15) ∧ (s.outs.slot.phase = .idle)) ∧
    (∃ (u : Nat) (s : State), (s.get SOUT_VERIFY_VERIFY < 100) ∧ (s.get SOUT_VERIFY_VERIFY < u + 15) ∧ (s.outs.slot.phase ≠ .idle)) ∧
    (∃ (w : Nat) (s : State), (s.running = true) ∧ (s.sec.summaryAt + 24 * hourNs ≤ max s.now w)) := by
  refine ⟨⟨[], 0, 0, 0, 1000000000, State.reset, ?_⟩,
    ⟨0, 0, State.reset, ?_⟩,
    ⟨.a, 30, State.reset, ?_⟩,
    ⟨.a, 0, State.reset, ?_⟩,
    ⟨.a, 29, { (State.reset.put SYS_STATE_SC_CLK_STEP 2) with sec := { slackLow := ⟨2, 0⟩ } }, ?_⟩,
    ⟨60, State.reset, ?_⟩,
    ⟨60, { State.reset with outs := { slot := { phase := .test } } }, ?_⟩,
    ⟨24 * hourNs, State.reset, ?_⟩⟩
  all_goals try unfold State.quiet
  all_goals decide +kernel

theorem witness_TimersAndCheckUnits :
    (∃ (i : Initiator) (u : Unit3) (n : Fin 32) (v : Word) (w : Nat) (s : State), (s.fwAllows i .write (timBase u + 0x200 + 0x10 * n.val) (timBase u + 0x200 + 0x10 * n.val) = true)) ∧
    (∃ (i : Initiator) (u : Unit3) (n : Fin 32) (w : Nat) (s : State), (s.fwAllows i .write (timBase u + 0x208 + 0x10 * n.val) (timBase u + 0x208 + 0x10 * n.val) = true)) ∧
    (∃ (i : Initiator) (u : Unit3) (k : Fin 8) (v : Word) (w : Nat) (s : State), (s.fwAllows i .write (timBase u + 0x20 * k.val + 4) (timBase u + 0x20 * k.val + 4) = true)) ∧
    (∃ (i : Initiator) (k : Fin 8) (v : Word) (w : Nat) (s : State), (s.fwAllows i .write (timBase .p + 0x20 * k.val) (timBase .p + 0x20 * k.val) = true) ∧ (badTimCfg k v.toNat = true)) ∧
    (∃ (i : Initiator) (k : Fin 8) (v : Word) (w : Nat) (s : State), (s.fwAllows i .write (timBase .p + 0x20 * k.val) (timBase .p + 0x20 * k.val) = true) ∧ (badTimCfg k v.toNat = false)) ∧
    (∃ (u : Unit3) (k : Fin 8) (n : Fin 32) (w : Nat) (s : State), (s.onlyTimer u k) ∧ (s.dev ≠ stSLEEP) ∧ ((s.tim u).last + 10 ≤ max s.now w) ∧ (0 < s.ticksDue u k (max s.now w)) ∧ (n.val ∈ s.passed u k (s.getT TIM_TM_t_COUNT_COUNT u k) (s.ticksDue u k (max s.now w)))) ∧
    (∃ (u : Unit3) (k : Fin 8) (w : Nat) (s : State), (s.onlyTimer u k) ∧ (s.dev ≠ stSLEEP) ∧ ((s.tim u).last + 10 ≤ max s.now w) ∧ (2 ^ 32 ≤ s.getT TIM_TM_t_COUNT_COUNT u k + s.ticksDue u k (max s.now w))) ∧
    (∃ (k : Fin 4) (v : Bool) (w : Nat) (s : State), (s.dev ≠ stSLEEP) ∧ ((s.tim .p).pins.getLsbD k ≠ v)) ∧
    (∃ (i : Initiator) (u : Unit3) (s : State), (s.fwAllows i .write (crcBase u + 0xC) (crcBase u + 0xC) = true) ∧ (s.getC CRC_STATUS_BUSY u = 0) ∧ (s.getC CRC_START_ADDR u % 4 = 0) ∧ (s.getC CRC_LENGTH_BYTES u % 4 = 0)) ∧
    (∃ (i : Initiator) (u : Unit3) (s : State), (s.fwAllows i .write (crcBase u + 0xC) (crcBase u + 0xC) = true) ∧ (s.getC CRC_STATUS_BUSY u = 1)) ∧
    (∃ (u : Unit3) (r : State) (ws : List Nat) (s : State), (s.getC CRC_STATUS_BUSY u = 1) ∧ (s.scanWords u (s.getC CRC_START_ADDR u) (s.getC CRC_LENGTH_BYTES u / 4) = some (r, ws))) := by
  refine ⟨⟨.sec, .a, 0, 0, 0, State.reset, ?_⟩,
    ⟨.sec, .a, 0, 0, State.reset, ?_⟩,
    ⟨.sec, .a, 0, 0, 0, State.reset, ?_⟩,
    ⟨.sec, 0, 0xFFFFFFFF, 0, State.reset, ?_⟩,
    ⟨.sec, 0, 0, 0, State.reset, ?_⟩,
    ⟨.a, 0, 0, 100, (((State.reset.putT TIM_TM_t_CFG_EN 1 .a).putT TIM_CMP_n_ACT_ARMED 1 .a).putT TIM_CMP_n_VALUE 3 .a), ?_⟩,
    ⟨.a, 0, 100, ((State.reset.putT TIM_TM_t_CFG_EN 1 .a).putT TIM_TM_t_COUNT_COUNT 0xFFFFFFFF .a), ?_⟩,
    ⟨0, true, 0, State.reset, ?_⟩,
    ⟨.sec, .a, State.reset, ?_⟩,
    ⟨.sec, .a, (State.reset.putC CRC_STATUS_BUSY 1 .a), ?_⟩,
    ⟨.a, (State.reset.putC CRC_STATUS_BUSY 1 .a), [], (State.reset.putC CRC_STATUS_BUSY 1 .a), ?_⟩⟩
  all_goals try unfold State.onlyTimer
  all_goals decide +kernel

theorem witness_MizzenCount :
    (∃ (a b : Bool) (w : Nat) (s : State), (s.mz.on = true) ∧ ((a != s.mz.a) != (b != s.mz.b)) ∧ (s.mz.wire = false) ∧ (s.mz.quad = false) ∧ (s.mz.held = false) ∧ ((quadForward s.mz.a s.mz.b a b != (s.mz.params.invert == 1)) = true) ∧ (s.mz.mark < s.mz.pos + 1)) ∧
    (∃ (a b : Bool) (w : Nat) (s : State), (s.mz.on = true) ∧ ((a != s.mz.a) != (b != s.mz.b)) ∧ (s.mz.wire = false) ∧ (s.mz.quad = false) ∧ (s.mz.held = false) ∧ ((quadForward s.mz.a s.mz.b a b != (s.mz.params.invert == 1)) = true) ∧ (s.mz.pos + 1 ≤ s.mz.mark)) ∧
    (∃ (a b : Bool) (w : Nat) (s : State), (s.mz.on = true) ∧ ((a != s.mz.a) != (b != s.mz.b)) ∧ (s.mz.wire = false) ∧ (s.mz.quad = false) ∧ (s.mz.held = false) ∧ ((quadForward s.mz.a s.mz.b a b != (s.mz.params.invert == 1)) = false)) ∧
    (∃ (a b : Bool) (w : Nat) (s : State), (s.mz.on = true) ∧ (a ≠ s.mz.a) ∧ (b ≠ s.mz.b)) ∧
    (∃ (k : MzFault) (w : Nat) (s : State), (s.mz.on = true)) ∧
    (∃ (k : MzFault) (w : Nat) (s : State), (s.mz.on = true)) ∧
    (∃ (broken : Bool) (w : Nat) (s : State), (s.mz.on = true) ∧ (broken ≠ s.mz.broken) ∧ (s.mz.audit.length < 4096)) ∧
    (∃ (w : Nat) (s : State), (s.mz.on = true) ∧ (s.mz.held = false)) := by
  refine ⟨⟨true, false, 0, State.reset, ?_⟩,
    ⟨true, false, 0, { State.reset with mz := { far := 5 } }, ?_⟩,
    ⟨false, true, 0, State.reset, ?_⟩,
    ⟨true, true, 0, State.reset, ?_⟩,
    ⟨.wire, 0, State.reset, ?_⟩,
    ⟨.wire, 0, State.reset, ?_⟩,
    ⟨true, 0, State.reset, ?_⟩,
    ⟨0, State.reset, ?_⟩⟩
  all_goals decide +kernel

theorem witness_MizzenPowerAndMirror :
    (∃ (w : Nat) (s : State), (s.mz.on = true) ∧ (s.mz.committedAt + 1000000000 ≤ max s.now w)) ∧
    (∃ (w : Nat) (s : State), (s.mz.on = true)) ∧
    (∃ (w : Nat) (s : State), (s.mz.on = true)) ∧
    (∃ (w : Nat) (s : State), (s.mz.on = false)) ∧
    (∃ (w : Nat) (s : State), (s.mz.on = true) ∧ (s.power = .on) ∧ (s.dev ≠ stSLEEP)) ∧
    (∃ (w x : Nat) (s : State), (s.mz.mirrorAt = some x) ∧ (x + 10000000 ≤ max s.now w)) := by
  refine ⟨⟨1000000000, State.reset, ?_⟩,
    ⟨0, State.reset, ?_⟩,
    ⟨0, State.reset, ?_⟩,
    ⟨0, { State.reset with mz := { on := false } }, ?_⟩,
    ⟨0, State.reset, ?_⟩,
    ⟨10000000, 0, { State.reset with mz := { mirrorAt := some 0 } }, ?_⟩⟩
  all_goals decide +kernel

theorem witness_MizzenCommands :
    (∃ (n : Nat) (q : List (Nat × Nat)) (w : Nat) (s : State), (s.mz.on = true) ∧ (s.mz.held = false) ∧ (s.mz.queue = (mzLOT_OPEN, n) :: q) ∧ (s.power = .on) ∧ (s.mz.lot = none)) ∧
    (∃ (n : Nat) (q : List (Nat × Nat)) (w : Nat) (s : State), (s.mz.on = true) ∧ (s.mz.held = false) ∧ (s.mz.queue = (mzLOT_OPEN, n) :: q) ∧ (s.power = .on) ∧ (s.mz.lot.isSome = true)) ∧
    (∃ (n : Nat) (q : List (Nat × Nat)) (l : Lot) (w : Nat) (s : State), (s.mz.on = true) ∧ (s.mz.held = false) ∧ (s.mz.queue = (mzLOT_CLOSE, n) :: q) ∧ (s.power = .on) ∧ (s.mz.lot = some l)) ∧
    (∃ (n : Nat) (q : List (Nat × Nat)) (l : Lot) (w : Nat) (s : State), (s.mz.on = true) ∧ (s.mz.held = false) ∧ (s.mz.queue = (mzLOT_CUT, n) :: q) ∧ (s.power = .on) ∧ (s.mz.lot = some l)) ∧
    (∃ (n : Nat) (q : List (Nat × Nat)) (r : LotRec) (w : Nat) (k : Fin 16) (s : State), (s.mz.on = true) ∧ (s.mz.held = false) ∧ (s.mz.queue = (mzREAD_LOT, n) :: q) ∧ (s.power = .on) ∧ (s.lotRecord n = some r)) ∧
    (∃ (n : Nat) (q : List (Nat × Nat)) (e : AuditEntry) (w : Nat) (k : Fin 16) (s : State), (s.mz.on = true) ∧ (s.mz.held = false) ∧ (s.mz.queue = (mzREAD_AUDIT, n) :: q) ∧ (s.power = .on) ∧ (s.mz.audit[n]? = some e)) ∧
    (∃ (n : Nat) (q : List (Nat × Nat)) (e : MzEvent × Nat) (w : Nat) (k : Fin 16) (s : State), (s.mz.on = true) ∧ (s.mz.held = false) ∧ (s.mz.queue = (mzREAD_EVENT, n) :: q) ∧ (s.power = .on) ∧ (s.eventEntry n = some e)) ∧
    (∃ (n : Nat) (q : List (Nat × Nat)) (w : Nat) (k : Fin 16) (s : State), (s.mz.on = true) ∧ (s.mz.held = false) ∧ (s.mz.queue = (mzREAD_CERT, n) :: q) ∧ (s.power = .on) ∧ (n < 4)) ∧
    (∃ (n : Nat) (q : List (Nat × Nat)) (w : Nat) (s : State), (s.mz.on = true) ∧ (s.mz.held = false) ∧ (s.mz.queue = (mzTIME_HINT, n) :: q) ∧ (s.power = .on)) ∧
    (∃ (cmd n : Nat) (q : List (Nat × Nat)) (bad : Bool) (w : Nat) (s : State), (s.mz.on = true) ∧ (s.mz.held = false) ∧ (s.mz.queue = (cmd, n) :: q) ∧ (bad = true ∨ mzKnown cmd = false)) := by
  refine ⟨⟨0, [], 0, { State.reset with mz := { queue := [(mzLOT_OPEN, 0)] } }, ?_⟩,
    ⟨0, [], 0, { State.reset with mz := { queue := [(mzLOT_OPEN, 0)], lot := some ⟨1, 0, 0, 0, 0, {}⟩ } }, ?_⟩,
    ⟨0, [], ⟨1, 0, 0, 0, 0, {}⟩, 0, { State.reset with mz := { queue := [(mzLOT_CLOSE, 0)], lot := some ⟨1, 0, 0, 0, 0, {}⟩ } }, ?_⟩,
    ⟨0, [], ⟨1, 0, 0, 0, 0, {}⟩, 0, { State.reset with mz := { queue := [(mzLOT_CUT, 0)], lot := some ⟨1, 0, 0, 0, 0, {}⟩ } }, ?_⟩,
    ⟨0, [], ⟨0, 0, 0, 0, 0, 0, 0, 0, none, {}, 0⟩, 0, 0, { State.reset with mz := { queue := [(mzREAD_LOT, 0)], records := [⟨0, 0, 0, 0, 0, 0, 0, 0, none, {}, 0⟩] } }, ?_⟩,
    ⟨0, [], ⟨.seal true, 0, 0, 0⟩, 0, 0, { State.reset with mz := { queue := [(mzREAD_AUDIT, 0)], audit := [⟨.seal true, 0, 0, 0⟩] } }, ?_⟩,
    ⟨0, [], (.powerLost, 0), 0, 0, { State.reset with mz := { queue := [(mzREAD_EVENT, 0)], events := [(.powerLost, 0)] } }, ?_⟩,
    ⟨0, [], 0, 0, { State.reset with mz := { queue := [(mzREAD_CERT, 0)] } }, ?_⟩,
    ⟨0, [], 0, { State.reset with mz := { queue := [(mzTIME_HINT, 0)] } }, ?_⟩,
    ⟨0, 0, [], false, 0, { State.reset with mz := { queue := [(0, 0)] } }, ?_⟩⟩
  all_goals decide +kernel

theorem witness_MizzenRequests :
    (∃  (s : State), (s.mz.on = true) ∧ (s.mz.held = false)) ∧
    (∃ (n : Nat) (s : State), (s.mz.on = true) ∧ (s.mz.held = false)) ∧
    (∃ (n : Nat) (s : State), (s.mz.on = true) ∧ (s.mz.held = false)) ∧
    (∃ (n : Nat) (s : State), (s.mz.on = true) ∧ (s.mz.held = false)) ∧
    (∃ (k : MzParam) (v : Nat) (s : State), (s.mz.on = true) ∧ (s.mz.held = false) ∧ (s.mz.broken = true) ∧ (paramFits k v = true)) ∧
    (∃ (k : MzParam) (v : Nat) (s : State), (s.mz.on = true) ∧ (s.mz.held = false) ∧ (s.mz.broken = false ∨ paramFits k v = false)) ∧
    (∃ (w : Nat) (s : State), (s.mz.on = true) ∧ (s.mz.held = false) ∧ (s.mz.broken = true) ∧ (s.mz.audit.length + s.mz.staged.length ≤ 4096) ∧ (s.mz.audit.length < 4096) ∧ (s.mz.lot = none)) ∧
    (∃ (f : MzFw) (w : Nat) (s : State), (s.mz.on = true) ∧ (s.mz.held = false) ∧ (s.mz.broken = true) ∧ (s.mz.lot = none) ∧ (s.mz.edgeAt + 1000000000 ≤ max s.now w) ∧ (f.framesOk = true) ∧ (f.signed = true) ∧ (s.mz.rollback ≤ f.rollback) ∧ (s.mz.audit.length < 4096)) ∧
    (∃ (w : Nat) (s : State), (s.mz.on = true) ∧ (s.mz.lineAt + s.mz.params.indPeriod * 1000000 ≤ max s.now w)) := by
  refine ⟨⟨State.reset, ?_⟩,
    ⟨0, State.reset, ?_⟩,
    ⟨0, State.reset, ?_⟩,
    ⟨0, State.reset, ?_⟩,
    ⟨.num, 1, { State.reset with mz := { broken := true } }, ?_⟩,
    ⟨.num, 0, State.reset, ?_⟩,
    ⟨0, { State.reset with mz := { broken := true, staged := [(.num, 2)] } }, ?_⟩,
    ⟨⟨true, true, 0, 1, 0⟩, 1000000000, { State.reset with mz := { broken := true } }, ?_⟩,
    ⟨1000000000, State.reset, ?_⟩⟩
  all_goals decide +kernel

theorem witness_HostCommands :
    (∃ (r : Fin 8) (d : Desc) (s : State), (s.mayRun r.val = true) ∧ (d.flags < 4) ∧ (d.doneOk = true) ∧ (d.length = 0)) ∧
    (∃ (r : Fin 8) (d : Desc) (s : State), (s.mayRun r.val = true) ∧ (d.flags < 4) ∧ (d.doneOk = true) ∧ (d.length = 0) ∧ (2 ≤ d.arg0) ∧ (d.arg0 ≤ 200)) ∧
    (∃ (r : Fin 8) (d : Desc) (s : State), (s.mayRun r.val = true) ∧ (d.flags < 4) ∧ (d.doneOk = true) ∧ (d.length = 0) ∧ (d.arg0 < 2 ∨ 200 < d.arg0)) ∧
    (∃ (r : Fin 8) (d : Desc) (s : State), (s.mayRun r.val = true) ∧ (d.flags < 4) ∧ (d.doneOk = true) ∧ (d.length = 0) ∧ (d.arg0 ≠ r.val) ∧ (d.arg0 < 8) ∧ (s.ringPresent d.arg0 = true)) ∧
    (∃ (r : Fin 8) (d : Desc) (s : State), (s.mayRun r.val = true) ∧ (d.flags < 4) ∧ (d.doneOk = true) ∧ ((Buf.out 128).fits d = true) ∧ (d.bufOk = true)) ∧
    (∃ (r : Fin 8) (d : Desc) (s : State), (s.mayRun r.val = true) ∧ (d.flags < 4) ∧ (d.doneOk = true) ∧ ((Buf.out 16384).fits d = true) ∧ (d.bufOk = true) ∧ (d.arg0 % 4 = 0) ∧ (∀ k : Fin 4096, k.val < d.length / 4 → s.cmdReads r.val (d.arg0 + 4 * k.val) = true)) ∧
    (∃ (r : Fin 8) (d : Desc) (s : State), (s.mayRun r.val = true) ∧ (d.flags < 4) ∧ (d.doneOk = true) ∧ (d.length = 0) ∧ (s.get SEC_AUTH_n_SCOPE .a r ≠ 0)) ∧
    (∃ (r : Fin 8) (d : Desc) (s : State), (s.mayRun r.val = true) ∧ (d.flags < 4) ∧ (d.doneOk = true) ∧ (d.length = 32) ∧ (d.addr % 4 = 0) ∧ (d.bufOk = true) ∧ (d.arg0 = 1 ∨ d.arg0 = 2) ∧ (s.sec.backoff = none)) ∧
    (∃ (r : Fin 8) (d : Desc) (a : AuthResp) (n : NonceSt) (s : State), (s.mayRun r.val = true) ∧ (d.flags < 4) ∧ (d.doneOk = true) ∧ ((Buf.inp 256).fits d = true) ∧ (d.length ≠ 0) ∧ (d.bufOk = true) ∧ ((s.ring r.val).nonce = some n) ∧ (max s.now d.t < n.at_ + 60000000000) ∧ (State.authPasses (State.updRing { s with now := max s.now d.t } r.val (fun x => { x with nonce := none })) a d.length n = true) ∧ (a.service = false) ∧ (a.scope < 2 ^ 16)) ∧
    (∃ (r : Fin 8) (d : Desc) (a : AuthResp) (n : NonceSt) (s : State), (s.mayRun r.val = true) ∧ (d.flags < 4) ∧ (d.doneOk = true) ∧ ((Buf.inp 256).fits d = true) ∧ (d.length ≠ 0) ∧ (d.bufOk = true) ∧ ((s.ring r.val).nonce = some n) ∧ (max s.now d.t < n.at_ + 60000000000) ∧ (State.authPasses (State.updRing { s with now := max s.now d.t } r.val (fun x => { x with nonce := none })) a d.length n = false)) ∧
    (∃ (r : Fin 8) (w : Nat) (s : State), ((s.ring r.val).authAt + idleLimit ≤ max s.now w)) ∧
    (∃ (r : Fin 8) (w : Nat) (n : NonceSt) (s : State), ((s.ring r.val).nonce = some n) ∧ (n.at_ + 60000000000 ≤ max s.now w)) ∧
    (∃ (w e : Nat) (s : State), (s.sec.backoff = some e) ∧ (e ≤ max s.now w)) ∧
    (∃ (w e : Nat) (s : State), (s.service = some e) ∧ (e ≤ max s.now w)) := by
  refine ⟨⟨0, dsc 0 0, hostSt, ?_⟩,
    ⟨0, dsc 0 2, hostSt, ?_⟩,
    ⟨0, dsc 0 0, hostSt, ?_⟩,
    ⟨0, dsc 0 1, (hostSt.put HLY_RING_n_CFG_LOG2SIZE 4 .a 1), ?_⟩,
    ⟨0, dsc 0 0, hostSt, ?_⟩,
    ⟨0, dsc 4 0x40000000, hostSt, ?_⟩,
    ⟨0, dsc 0 0, (hostSt.put SEC_AUTH_n_SCOPE 1), ?_⟩,
    ⟨0, dsc 32 1, hostSt, ?_⟩,
    ⟨0, dsc 120 0, ⟨2, 2, 256, 0, true, 0, 7, true, none⟩, ⟨7, 2, 0⟩, { hostSt with hly := { rings := [(0, { fetched := 1, nonce := some ⟨7, 2, 0⟩ })] } }, ?_⟩,
    ⟨0, dsc 120 0, ⟨2, 2, 256, 0, true, 0, 7, false, none⟩, ⟨7, 2, 0⟩, { hostSt with hly := { rings := [(0, { fetched := 1, nonce := some ⟨7, 2, 0⟩ })] } }, ?_⟩,
    ⟨0, idleLimit, State.reset, ?_⟩,
    ⟨0, 60000000000, ⟨7, 2, 0⟩, { hostSt with hly := { rings := [(0, { fetched := 1, nonce := some ⟨7, 2, 0⟩ })] } }, ?_⟩,
    ⟨5, 5, { State.reset with sec := { backoff := some 5 } }, ?_⟩,
    ⟨5, 5, { State.reset with service := some 5 }, ?_⟩⟩
  all_goals decide +kernel

theorem witness_HostKeysAndUpdates :
    (∃ (r : Fin 8) (d : Desc) (nonce : BitVec 256) (s : State), (s.mayRun r.val = true) ∧ (d.flags < 4) ∧ (d.doneOk = true) ∧ ((Buf.inp 1024).fits d = true) ∧ (336 ≤ d.length) ∧ (d.bufOk = true)) ∧
    (∃ (r : Fin 8) (d : Desc) (s : State), (s.mayRun r.val = true) ∧ (d.flags < 4) ∧ (d.doneOk = true) ∧ (d.length = 0) ∧ (s.hly.exclusive = none) ∧ (s.mayShutdown = true) ∧ (s.sec.l3 = none) ∧ (s.outs.slot.unit < 20)) ∧
    (∃ (r : Fin 8) (d : Desc) (s : State), (s.mayRun r.val = true) ∧ (d.flags < 4) ∧ (d.doneOk = true) ∧ (d.length = 0) ∧ (s.hly.exclusive = none) ∧ (s.hasEpoch d.arg0 = true) ∧ (s.holds r.val 0 = true) ∧ (s.get GOA_KEY_ACTIVE_EPOCH ≠ d.arg0)) ∧
    (∃ (r : Fin 8) (d : Desc) (k : KeyBlob) (s : State), (s.mayRun r.val = true) ∧ (d.flags < 4) ∧ (d.doneOk = true) ∧ ((Buf.inp 256).fits d = true) ∧ (d.length ≠ 0) ∧ (d.bufOk = true) ∧ (s.hly.exclusive = none) ∧ (s.holds r.val 0 = true) ∧ (1 ≤ d.arg0) ∧ (d.arg0 ≤ 255) ∧ (s.keyOk d k = true) ∧ (s.sec.lineKeys.length < 2)) ∧
    (∃ (r : Fin 8) (d : Desc) (f : StageFile) (s : State), (s.mayRun r.val = true) ∧ (d.flags < 4) ∧ (d.doneOk = true) ∧ ((Buf.inp 16777216).fits d = true) ∧ (d.length ≠ 0) ∧ (d.bufOk = true) ∧ (s.hly.exclusive = none) ∧ (s.holds r.val s.stageScope = true) ∧ (s.stageCheck f d.length = none)) ∧
    (∃ (r : Fin 8) (d : Desc) (s : State), (s.mayRun r.val = true) ∧ (d.flags < 4) ∧ (d.length = 0) ∧ (s.hly.exclusive = none) ∧ (s.hasEpoch d.arg0 = true) ∧ (d.arg1 < 2) ∧ (s.holds r.val 0 = true) ∧ (s.syncedNet (argNet d.arg1) = true)) ∧
    (∃ (r : Fin 8) (d : Desc) (s : State), (s.mayRun r.val = true) ∧ (d.flags < 4) ∧ (d.length = 0) ∧ (s.hly.exclusive = none) ∧ (s.restartRefused = none) ∧ (d.doneOk = true)) := by
  refine ⟨⟨0, dsc 336 0, 0, hostSt, ?_⟩,
    ⟨0, dsc 0 0, (hostSt.put SYS_STATE_DEV_STATE stSAFE), ?_⟩,
    ⟨0, dsc 0 5, ({ hostSt with sec := { lineKeys := [5] } }.put SEC_AUTH_n_SCOPE 1), ?_⟩,
    ⟨0, dsc 172 5, ⟨0, 5, 0x10, true, true, true⟩, (hostSt.put SEC_AUTH_n_SCOPE 1), ?_⟩,
    ⟨0, dsc 4 0, ⟨0xF1E20A5E, 1, 1, 0, 4, 1, 0, 65536 * State.reset.get SYS_ID_PART, 0, 0, [], true, true, true, true, .firmware⟩, (hostSt.put SEC_AUTH_n_SCOPE 2048), ?_⟩,
    ⟨0, dsc 0 5, ({ hostSt with sec := { lineKeys := [5] }, ptp := ⟨{ synced := true }, {}⟩ }.put SEC_AUTH_n_SCOPE 1), ?_⟩,
    ⟨0, dsc 0 0, hostSt, ?_⟩⟩
  all_goals decide +kernel

theorem witness_RefitCommands :
    (∃ (r : Fin 8) (d : Desc) (im : Image) (s : State), (({ s with now := max s.now d.t } : State).refitStarts r.val d im = true)) ∧
    (∃ (im : Image) (s : State), (s.refit = some im) ∧ (s.get LGE_REFIT_PHASE = phSTOPPING) ∧ (s.refitOpen = true)) ∧
    (∃ (im : Image) (s : State), (s.refit = some im) ∧ (s.get LGE_REFIT_PHASE = phAPPLY)) ∧
    (∃ (im : Image) (s : State), (s.refit = some im) ∧ (s.get LGE_REFIT_PHASE = phAPPLY)) ∧
    (∃ (im : Image) (s : State), (s.refit = some im) ∧ (s.get LGE_REFIT_PHASE = phCOMMIT) ∧ (im.isWhole = false)) := by
  refine ⟨⟨0, dsc 740 0, tinyImage, (hostSt.put SEC_AUTH_n_SCOPE 1), ?_⟩,
    ⟨{ magic := 0, format := 0, flags := 0, length := 0, version := 0, rollback := 0, target := 0, bind := 0, sections := 0, keyId := 0, hash := [], hdrOk := false, sigOk := false, hashOk := false, table := [], fields := [], prog := {}, scope := [] }, ({ State.reset with refit := some { magic := 0, format := 0, flags := 0, length := 0, version := 0, rollback := 0, target := 0, bind := 0, sections := 0, keyId := 0, hash := [], hdrOk := false, sigOk := false, hashOk := false, table := [], fields := [], prog := {}, scope := [] } }.put LGE_REFIT_PHASE phSTOPPING), ?_⟩,
    ⟨{ magic := 0, format := 0, flags := 0, length := 0, version := 0, rollback := 0, target := 0, bind := 0, sections := 0, keyId := 0, hash := [], hdrOk := false, sigOk := false, hashOk := false, table := [], fields := [], prog := {}, scope := [] }, ({ State.reset with refit := some { magic := 0, format := 0, flags := 0, length := 0, version := 0, rollback := 0, target := 0, bind := 0, sections := 0, keyId := 0, hash := [], hdrOk := false, sigOk := false, hashOk := false, table := [], fields := [], prog := {}, scope := [] } }.put LGE_REFIT_PHASE phAPPLY), ?_⟩,
    ⟨{ magic := 0, format := 0, flags := 0, length := 0, version := 0, rollback := 0, target := 0, bind := 0, sections := 0, keyId := 0, hash := [], hdrOk := false, sigOk := false, hashOk := false, table := [], fields := [], prog := {}, scope := [] }, ({ State.reset with refit := some { magic := 0, format := 0, flags := 0, length := 0, version := 0, rollback := 0, target := 0, bind := 0, sections := 0, keyId := 0, hash := [], hdrOk := false, sigOk := false, hashOk := false, table := [], fields := [], prog := {}, scope := [] } }.put LGE_REFIT_PHASE phAPPLY), ?_⟩,
    ⟨{ magic := 0, format := 0, flags := 0, length := 0, version := 0, rollback := 0, target := 0, bind := 0, sections := 0, keyId := 0, hash := [], hdrOk := false, sigOk := false, hashOk := false, table := [], fields := [], prog := {}, scope := [] }, ({ State.reset with refit := some { magic := 0, format := 0, flags := 0, length := 0, version := 0, rollback := 0, target := 0, bind := 0, sections := 0, keyId := 0, hash := [], hdrOk := false, sigOk := false, hashOk := false, table := [], fields := [], prog := {}, scope := [] } }.put LGE_REFIT_PHASE phCOMMIT), ?_⟩⟩
  all_goals decide +kernel

theorem witness_RatlineRuns :
    (∃  (s : State), (s.bstFree = true) ∧ (s.bstState = true)) ∧
    (∃ (l : BitVec 13) (m : BitVec 64) (s : State), (s.bstFree = true) ∧ (s.bstState = true)) ∧
    (∃  (s : State), (s.bstFree = false)) ∧
    (∃ (k : Fin 32) (ok : Bool) (s : State), (s.bstFree = true) ∧ (s.bstState = true) ∧ (s.beyondRepair k.val = false) ∧ (s.fuses (32 + k.val) = 0)) ∧
    (∃ (b : Bool) (s : State), (s.sec.run = some (.controlled b))) ∧
    (∃ (o : RatlineObs) (k : RunKind) (s : State), (s.sec.run = some k) ∧ (o.fails = []) ∧ (s.sec.abort = false) ∧ (s.sec.l3Dead = false) ∧ (k = .cold ∨ k = .cert ∨ k = .shutdown ∨ k = .l3)) ∧
    (∃ (o : RatlineObs) (s : State), (s.sec.run = some (.controlled true))) ∧
    (∃ (o : RatlineObs) (s : State), (s.sec.run = some (.controlled false))) := by
  refine ⟨⟨((State.reset.put SYS_STATE_DEV_STATE stSAFE).put SEC_LIFECYCLE_STATE lcMANUFACTURE), ?_⟩,
    ⟨0, 0, ((State.reset.put SYS_STATE_DEV_STATE stSAFE).put SEC_LIFECYCLE_STATE lcMANUFACTURE), ?_⟩,
    ⟨State.reset, ?_⟩,
    ⟨0, false, ((State.reset.put SYS_STATE_DEV_STATE stSAFE).put SEC_LIFECYCLE_STATE lcMANUFACTURE), ?_⟩,
    ⟨false, { State.reset with sec := { run := some (.controlled false) } }, ?_⟩,
    ⟨{ t := 0, fails := [], rows := [], columns := [], peak := 0, flips := false, worst := 0, margin := 0, imgOk := false }, .cold, { State.reset with sec := { run := some .cold } }, ?_⟩,
    ⟨{ t := 0, fails := [], rows := [], columns := [], peak := 0, flips := false, worst := 0, margin := 0, imgOk := false }, { State.reset with sec := { run := some (.controlled true) } }, ?_⟩,
    ⟨{ t := 0, fails := [], rows := [], columns := [], peak := 0, flips := false, worst := 0, margin := 0, imgOk := false }, { State.reset with sec := { run := some (.controlled false) } }, ?_⟩⟩
  all_goals decide +kernel

theorem witness_HostLoss :
    (∃ (w : Nat) (s : State), (s.power = .on) ∧ (s.hlyState = hlyRUN) ∧ (s.quiet) ∧ (s.get HLY_POLL_HOST_WD ≠ 0) ∧ (s.hly.hbAt + s.get HLY_POLL_HOST_WD * 1000000 ≤ max s.now w)) ∧
    (∃  (s : State), (s.power = .on) ∧ (s.hlyState = hlyRUN) ∧ (s.quiet) ∧ (3 ≤ s.hly.fails)) ∧
    (∃  (s : State), (s.power = .on) ∧ (s.hlyState = hlyRUN) ∧ (s.quiet)) ∧
    (∃  (s : State), (s.power = .on) ∧ (s.hlyState = hlyRUN) ∧ (s.quiet)) ∧
    (∃  (s : State), (s.power = .on) ∧ (s.hlyState = hlyRUN) ∧ (s.quiet)) ∧
    (∃  (s : State), (s.power = .on) ∧ (s.hlyState = hlyRUN) ∧ (s.quiet)) ∧
    (∃  (s : State), (s.power = .on) ∧ (s.quiet)) := by
  refine ⟨⟨1000000, ((State.reset.put HLY_STATUS_STATE hlyRUN).put HLY_POLL_HOST_WD 1), ?_⟩,
    ⟨{ (State.reset.put HLY_STATUS_STATE hlyRUN) with hly := { fails := 3 } }, ?_⟩,
    ⟨(State.reset.put HLY_STATUS_STATE hlyRUN), ?_⟩,
    ⟨(State.reset.put HLY_STATUS_STATE hlyRUN), ?_⟩,
    ⟨(State.reset.put HLY_STATUS_STATE hlyRUN), ?_⟩,
    ⟨(State.reset.put HLY_STATUS_STATE hlyRUN), ?_⟩,
    ⟨State.reset, ?_⟩⟩
  all_goals try unfold State.quiet
  all_goals decide +kernel

theorem witness_HostSetupWindow :
    (∃ (m tr : Bool) (w : Nat) (s : State), (s.flag HLY_SETUP_DONE_DONE = false) ∧ (s.flag HLY_WINDOW_STATUS_OPEN = true) ∧ (({ s with now := max s.now w } : State).setupCheck m tr = 0)) ∧
    (∃ (m tr : Bool) (w : Nat) (s : State), (s.flag HLY_SETUP_DONE_DONE = false) ∧ (s.flag HLY_WINDOW_STATUS_OPEN = true) ∧ (({ s with now := max s.now w } : State).setupCheck m tr ≠ 0)) ∧
    (∃ (off : BitVec 16) (s : State), (s.flag HLY_SETUP_DONE_DONE = true) ∧ (off.toNat ≠ 0x1008)) ∧
    (∃ (i : Initiator) (c : Chan) (n : Fin 17) (s : State), (s.fwAllows i .write (blockBase .fc c + 0x54) (blockBase .fc c + 0x54 + 3) = true)) := by
  refine ⟨⟨true, true, 0, (((((State.reset.put HLY_WINDOW_STATUS_OPEN 1).put HLY_DB_BASE_LO_ADDR 1).put HLY_RING_n_CFG_LOG2SIZE 4).put HLY_RING_n_BASE_LO_ADDR 1).put HLY_POLL_POLL_US 2), ?_⟩,
    ⟨false, false, 0, (State.reset.put HLY_WINDOW_STATUS_OPEN 1), ?_⟩,
    ⟨0, (State.reset.put HLY_SETUP_DONE_DONE 1), ?_⟩,
    ⟨.sec, .a, 0, State.reset, ?_⟩⟩
  all_goals decide +kernel

theorem witness_HostExchange :
    (∃ (n : Fin 8) (s : State), (s.ringPresent n.val = true) ∧ (s.hlyState ≠ hlySETUP)) ∧
    (∃ (o : PollObs) (w : Nat) (s : State), (s.power = .on) ∧ (s.hlyState ≠ hlySETUP) ∧ (o.ok = false)) ∧
    (∃ (o : PollObs) (w : Nat) (s : State), (s.power = .on) ∧ (s.hlyState = hlyRUN) ∧ (o.ok = true) ∧ (o.seqA = o.seqB)) ∧
    (∃ (w n : Nat) (e : HlyEv) (q : List HlyEv) (s : State), (s.power = .on) ∧ (s.hlyState = hlyRUN) ∧ (s.ringOf tyEVENT = some n) ∧ (s.ev.queue = e :: q) ∧ (e.entries ≤ s.ringRoom n)) ∧
    (∃ (w n : Nat) (s : State), (s.power = .on) ∧ (s.cycles = true) ∧ (s.hlyState = hlyRUN) ∧ (s.get HLY_IMG_CFG_IMG_DIV ≤ idxSub (s.get SYS_GCOUNT_COUNT) s.hly.imgWait) ∧ (s.ringOf tyIMAGE = some n) ∧ (s.ringRoom n ≠ 0)) ∧
    (∃ (v : Fin 8) (w x : Nat) (s : State), ((s.vec v.val).due = some x) ∧ (x ≤ max s.now w)) := by
  refine ⟨⟨0, hostSt, ?_⟩,
    ⟨{ ok := false, heartbeat := 0, host := [], seqA := 0, seqB := 0, img := 0, fetchBad := 0 }, 0, hostSt, ?_⟩,
    ⟨⟨true, 0, [], 0, 0, 0, 0⟩, 0, hostSt, ?_⟩,
    ⟨0, 0, ⟨0, [], none, 0, 0, 0, 0⟩, [], ({ hostSt with ev := { queue := [⟨0, [], none, 0, 0, 0, 0⟩] } }.put HLY_RING_n_CFG_TYPE 1), ?_⟩,
    ⟨0, 0, ((hostSt.put HLY_RING_n_CFG_TYPE 2).put HLY_IMG_CFG_IMG_DIV 0), ?_⟩,
    ⟨0, 5, 5, { State.reset with hly := { vecs := [(0, { due := some 5 })] } }, ?_⟩⟩
  all_goals decide +kernel

theorem witness_GuardCycle :
    (∃ (w : Nat) (a b : DieObs) (c : Chan) (s : State), (s.cycles = true)) ∧
    (∃ (w : Nat) (app : BitVec 64) (c : Chan) (s : State), (s.cycles = true)) ∧
    (∃ (c : Chan) (h : StayHead) (s : State), (s.quiet) ∧ (s.accepts c .cycle h)) ∧
    (∃ (c : Chan) (h : StayHead) (s : State), (s.accepts c .cycle h)) ∧
    (∃ (a b : Nat) (c : Chan) (s : State), (s.cycles = true) ∧ (s.graphRuns = true) ∧ (s.parts.filter s.evaluates = [c])) ∧
    (∃ (a b : Nat) (c : Chan) (s : State), (s.cycles = true) ∧ (s.graphRuns = true) ∧ (s.parts.filter s.evaluates = [.a, .b])) ∧
    (∃ (n : Fin 512) (i : Inst) (c : Chan) (r : List Chan) (f : Nat) (s : State), (s.quiet) ∧ (s.prog.insts.find? (fun p => p.1 == n.val) = some (n.val, i)) ∧ (s.parts = c :: r) ∧ (i.code = 0x26 ∨ i.code = 0x41) ∧ (longerThan (edmRun i (tabGet {} (twoAt s.graph c).insts n.val)) (s.cyclesOfMs (if i.code = 0x26 then (parAt i.params 0).toNat else s.get DSF_SBC_TIME_FB_TIME c)) = true) ∧ (f ∈ s.edmFns i)) ∧
    (∃ (c : Chan) (s : State), (s.quiet)) := by
  refine ⟨⟨0, { frameOk := false, refOk := false, cmdOk := false, pumpOk := false, rbRefOk := false, mHigh := 0, oHigh := 0 }, { frameOk := false, refOk := false, cmdOk := false, pumpOk := false, rbRefOk := false, mHigh := 0, oHigh := 0 }, .a, State.reset, ?_⟩,
    ⟨0, 0, .a, State.reset, ?_⟩,
    ⟨.a, ⟨0x11, 1, 0, true, true, true⟩, dualSt, ?_⟩,
    ⟨.a, ⟨0x11, 1, 0, true, true, true⟩, dualSt, ?_⟩,
    ⟨0, 0, .a, (aloneSt.put SYS_STATE_DEV_STATE stSAFE), ?_⟩,
    ⟨0, 0, .a, (dualSt.put SYS_STATE_DEV_STATE stSAFE), ?_⟩,
    ⟨0, ⟨0x26, 3, [], [], []⟩, .a, [.b], 3, { dualSt with prog := { insts := [(0, ⟨0x26, 3, [], [], []⟩)] }, graph := ⟨{ insts := [(0, { k := 2 })] }, {}⟩ }, ?_⟩,
    ⟨.a, State.reset, ?_⟩⟩
  all_goals try unfold State.quiet
  all_goals try unfold State.accepts
  all_goals decide +kernel

theorem witness_GuardCycleAgreement :
    (∃ (c : Chan) (s : State), (s.cycles = true) ∧ (s.parts = [c])) ∧
    (∃  (s : State), (s.cycles = true) ∧ (s.parts = [.a, .b]) ∧ ((twoAt s.graph .a).delivered = true) ∧ (s.evaluates .a = true)) ∧
    (∃ (c : Chan) (h : StayHead) (s : State), (s.accepts c .cycle h) ∧ (sameResult (twoAt s.graph c) (twoAt s.graph (otherChan c)) = true)) ∧
    (∃ (c : Chan) (h : StayHead) (same : Bool) (s : State), (s.quiet) ∧ (s.accepts c .cycle h) ∧ ((same && sameResult (twoAt s.graph c) (twoAt s.graph (otherChan c))) = false)) ∧
    (∃ (c : Chan) (s : State), (s.quiet) ∧ (s.cycles = true) ∧ (s.evaluates c = true) ∧ ((twoAt s.graph c).delivered = false)) ∧
    (∃ (c : Chan) (s : State), (s.cycles = true) ∧ (s.parts = [c]) ∧ (s.stayMode c = 2) ∧ (s.evaluates c = true)) ∧
    (∃  (s : State), (s.cycles = true) ∧ (s.parts = [.a, .b]) ∧ (s.evaluates .a = true) ∧ (s.graph.a.agreed = true) ∧ (s.graph.a.noStage = false) ∧ (s.graphRuns = true)) := by
  refine ⟨⟨.a, aloneSt, ?_⟩,
    ⟨{ dualSt with graph := ⟨{ delivered := true }, {}⟩ }, ?_⟩,
    ⟨.a, ⟨0x12, 1, 0, true, true, true⟩, dualSt, ?_⟩,
    ⟨.a, ⟨0x12, 1, 0, true, true, true⟩, false, dualSt, ?_⟩,
    ⟨.a, dualSt, ?_⟩,
    ⟨.a, aloneSt, ?_⟩,
    ⟨({ dualSt with graph := ⟨{ agreed := true }, {}⟩ }.put SYS_STATE_DEV_STATE stSAFE), ?_⟩⟩
  all_goals try unfold State.quiet
  all_goals try unfold State.accepts
  all_goals decide +kernel

theorem witness_MainStarts :
    (∃ (o : StartObs) (s : State), (s.power ≠ .off)) ∧
    (∃ (o : StartObs) (s : State), (s.power = .off)) ∧
    (∃ (o : StartObs) (vbat : Bool) (s : State), (s.running = true)) ∧
    (∃ (ns : Nat) (o : StartObs) (s : State), (s.running = true) ∧ (1000 ≤ ns)) ∧
    (∃ (ns : Nat) (o : StartObs) (s : State), (ns < 200)) ∧
    (∃ (o : StartObs) (n : Nat) (s : State), (s.sec.fwRun = some n) ∧ ((s.fwSlotAt n).mark = .trial) ∧ (s.sec.startAt + 5000000000 ≤ max s.now o.t)) := by
  refine ⟨⟨{ t := 0, bootsel := 0, romOk := false, crystal := false, priv := [], drkOk := false, drkMarginal := false, idOk := false, flashTrained := false, certParityOk := false, certMacOk := false, certFlashOk := false, summaryMacOk := false, summaryFlashOk := false, ticket := none, fusesOk := false, fwOk := ⟨false, false⟩, imgOk := false, rails := 0 }, State.reset, ?_⟩,
    ⟨{ t := 0, bootsel := 0, romOk := false, crystal := false, priv := [], drkOk := false, drkMarginal := false, idOk := false, flashTrained := false, certParityOk := false, certMacOk := false, certFlashOk := false, summaryMacOk := false, summaryFlashOk := false, ticket := none, fusesOk := false, fwOk := ⟨false, false⟩, imgOk := false, rails := 0 }, { State.reset with power := .off }, ?_⟩,
    ⟨{ t := 0, bootsel := 0, romOk := false, crystal := false, priv := [], drkOk := false, drkMarginal := false, idOk := false, flashTrained := false, certParityOk := false, certMacOk := false, certFlashOk := false, summaryMacOk := false, summaryFlashOk := false, ticket := none, fusesOk := false, fwOk := ⟨false, false⟩, imgOk := false, rails := 0 }, false, State.reset, ?_⟩,
    ⟨1000, { t := 0, bootsel := 0, romOk := false, crystal := false, priv := [], drkOk := false, drkMarginal := false, idOk := false, flashTrained := false, certParityOk := false, certMacOk := false, certFlashOk := false, summaryMacOk := false, summaryFlashOk := false, ticket := none, fusesOk := false, fwOk := ⟨false, false⟩, imgOk := false, rails := 0 }, State.reset, ?_⟩,
    ⟨0, { t := 0, bootsel := 0, romOk := false, crystal := false, priv := [], drkOk := false, drkMarginal := false, idOk := false, flashTrained := false, certParityOk := false, certMacOk := false, certFlashOk := false, summaryMacOk := false, summaryFlashOk := false, ticket := none, fusesOk := false, fwOk := ⟨false, false⟩, imgOk := false, rails := 0 }, State.reset, ?_⟩,
    ⟨{ t := 5000000000, bootsel := 0, romOk := false, crystal := false, priv := [], drkOk := false, drkMarginal := false, idOk := false, flashTrained := false, certParityOk := false, certMacOk := false, certFlashOk := false, summaryMacOk := false, summaryFlashOk := false, ticket := none, fusesOk := false, fwOk := ⟨false, false⟩, imgOk := false, rails := 0 }, 0, { State.reset with sec := { fwRun := some 0, fw := [(0, { mark := .trial })] } }, ?_⟩⟩
  all_goals decide +kernel

theorem witness_PowerStates :
    (∃ (t0 : Nat) (s : State), (s.power = .off)) ∧
    (∃ (vbat : Bool) (t0 : Nat) (s : State), (s.running = true)) ∧
    (∃ (t0 : Nat) (s : State), (s.power = .standby)) ∧
    (∃ (t0 : Nat) (s : State), (s.power = .on)) := by
  refine ⟨⟨0, { State.reset with power := .off }, ?_⟩,
    ⟨false, 0, State.reset, ?_⟩,
    ⟨0, { State.reset with power := .standby }, ?_⟩,
    ⟨0, State.reset, ?_⟩⟩
  all_goals decide +kernel

theorem witness_SupplyFaults :
    (∃  (s : State), (s.running = true) ∧ (s.quiet)) ∧
    (∃ (c : Chan) (s : State), ((twoAt s.die c).wasReady = false)) ∧
    (∃ (c : Chan) (s : State), (s.running = true) ∧ ((twoAt s.die c).wasReady = true) ∧ (¬ s.quietSupply = true) ∧ (s.outs.slot.unit < 20) ∧ (s.quiet)) ∧
    (∃ (r : Rail) (s : State), (mainRail r = true)) ∧
    (∃ (r : Rail) (s : State), (s.quiet)) ∧
    (∃ (die : Fin 3) (temp : Int) (s : State), (1350 < temp)) ∧
    (∃ (die : Fin 3) (temp : Int) (s : State), (1250 < temp) ∧ (temp ≤ 1350) ∧ (s.quiet)) := by
  refine ⟨⟨State.reset, ?_⟩,
    ⟨.a, State.reset, ?_⟩,
    ⟨.a, ({ State.reset with die := ⟨{ wasReady := true }, {}⟩ }.put SYS_STATE_DEV_STATE stRUN), ?_⟩,
    ⟨.vddCore, State.reset, ?_⟩,
    ⟨.vddCore, State.reset, ?_⟩,
    ⟨0, 1351, State.reset, ?_⟩,
    ⟨0, 1251, State.reset, ?_⟩⟩
  all_goals try unfold State.quiet
  all_goals decide +kernel

theorem witness_StartsAndSleep :
    (∃ (t0 : Nat) (s : State), (s.running = true) ∧ (s.dev = stINIT) ∧ (s.sec.run = none) ∧ (s.locked = false) ∧ (s.sec.startImg = .loaded) ∧ (s.stayTrained = true)) ∧
    (∃ (t0 : Nat) (s : State), (s.running = true) ∧ (s.dev = stINIT) ∧ (s.sec.run = none) ∧ (s.locked = false) ∧ (s.sec.startImg = .none)) ∧
    (∃ (t0 : Nat) (s : State), (s.running = true) ∧ (s.dev = stINIT) ∧ (s.sec.run = none) ∧ (s.locked = false) ∧ (s.sec.startImg = .rejected)) ∧
    (∃ (t0 : Nat) (s : State), (s.cyclesOfMs 1000 ≤ s.sleepRun) ∧ (s.maySleep = true)) ∧
    (∃ (w : WakeCause) (t0 : Nat) (s : State), (s.dev = stSLEEP) ∧ (State.wakes { s with now := max s.now t0 } w = true)) := by
  refine ⟨⟨0, { dualSt with sec := { startImg := .loaded } }, ?_⟩,
    ⟨0, { dualSt with sec := { startImg := .none } }, ?_⟩,
    ⟨0, { dualSt with sec := { startImg := .rejected } }, ?_⟩,
    ⟨0, ((({ aloneSt with sleepRun := 1000000, graph := ⟨{ sigs := [(0, 1)] }, {}⟩ }.put SYS_STATE_DEV_STATE stSAFE).put PWR_SLEEP_CFG_SLEEP_EN 1).put PWR_SLEEP_CFG_SLEEP_SIG 0), ?_⟩,
    ⟨.host, 0, ((State.reset.put SYS_STATE_DEV_STATE stSLEEP).put PWR_SLEEP_CFG_WAKE_HOST 1), ?_⟩⟩
  all_goals decide +kernel

theorem witness_LifecycleAndDebug :
    (∃  (s : State), (s.lifecycle = lcBLANK) ∧ (s.sec.bootsel = 2)) ∧
    (∃  (s : State), (s.lifecycle = lcMANUFACTURE) ∧ (s.groupLocked 1 = true) ∧ (s.groupLocked 4 = true) ∧ (s.groupLocked 6 = true)) ∧
    (∃ (ok : Bool) (s : State), (s.lifecycle ≠ lcBLANK) ∧ (s.lifecycle ≠ lcMANUFACTURE)) ∧
    (∃ (c : Chan) (e : DbgElem) (s : State), (s.lifecycle = lcSERVICE) ∧ (s.scopeHeld 9 = true) ∧ (s.quiet)) ∧
    (∃ (c : Chan) (e : DbgElem) (s : State), (s.lifecycle ≠ lcSERVICE ∨ s.scopeHeld 9 = false)) ∧
    (∃ (c : Chan) (s : State), (s.lifecycle = lcSERVICE) ∧ (s.flag LKS_STATUS_DBG_ATTACHED c = true)) ∧
    (∃ (c : Chan) (s : State), (s.lifecycle = lcSERVICE) ∧ (s.flag LKS_STATUS_DBG_ATTACHED c = true)) ∧
    (∃ (c : Chan) (s : State), (s.lifecycle = lcSERVICE) ∧ (s.flag LKS_STATUS_DBG_ATTACHED c = true)) := by
  refine ⟨⟨{ State.reset with sec := { bootsel := 2 } }, ?_⟩,
    ⟨({ State.reset with sec := { otp := [(1, 4356)] } }.put SEC_LIFECYCLE_STATE lcMANUFACTURE), ?_⟩,
    ⟨false, (State.reset.put SEC_LIFECYCLE_STATE lcFIELD), ?_⟩,
    ⟨.a, .sc, ((State.reset.put SEC_LIFECYCLE_STATE lcSERVICE).put SEC_AUTH_n_SCOPE 512), ?_⟩,
    ⟨.a, .sc, State.reset, ?_⟩,
    ⟨.a, ((State.reset.put SEC_LIFECYCLE_STATE lcSERVICE).put LKS_STATUS_DBG_ATTACHED 1), ?_⟩,
    ⟨.a, ((State.reset.put SEC_LIFECYCLE_STATE lcSERVICE).put LKS_STATUS_DBG_ATTACHED 1), ?_⟩,
    ⟨.a, ((State.reset.put SEC_LIFECYCLE_STATE lcSERVICE).put LKS_STATUS_DBG_ATTACHED 1), ?_⟩⟩
  all_goals try unfold State.quiet
  all_goals decide +kernel

theorem witness_RegisterReads :
    (∃ (i : Initiator) (c : Chan) (s : State), (s.fwAllows i .read (blockBase .lc c + 0x24) (blockBase .lc c + 0x24 + 3) = true)) ∧
    (∃ (i : Initiator) (c : Chan) (s : State), (s.fwAllows i .read (blockBase .lc c + 0x404) (blockBase .lc c + 0x404 + 3) = true)) ∧
    (∃ (i : Initiator) (s : State), (s.fwAllows i .read (blockBase .mzw .a + 4) (blockBase .mzw .a + 4 + 3) = true)) ∧
    (∃ (i : Initiator) (u : Unit3) (s : State), (s.fwAllows i .read (crcBase u + 0x14) (crcBase u + 0x14 + 3) = true)) ∧
    (∃ (i : Initiator) (t0 : Nat) (s : State), (s.fwAllows i .read (blockBase .pwr .a + 0x30) (blockBase .pwr .a + 0x33) = true)) ∧
    (∃ (i : Initiator) (u : Unit3) (k : Fin 8) (t0 : Nat) (s : State), (s.fwAllows i .read (timBase u + 0x20 * k.val + 4) (timBase u + 0x20 * k.val + 7) = true)) ∧
    (∃ (i : Initiator) (u : Unit3) (k : Fin 8) (s : State), (s.fwAllows i .read (timBase u + 0x20 * k.val + 0xC) (timBase u + 0x20 * k.val + 0xF) = true)) := by
  refine ⟨⟨.sec, .a, State.reset, ?_⟩,
    ⟨.sec, .a, State.reset, ?_⟩,
    ⟨.sec, State.reset, ?_⟩,
    ⟨.sec, .a, State.reset, ?_⟩,
    ⟨.sec, 0, State.reset, ?_⟩,
    ⟨.sec, .a, 0, 0, State.reset, ?_⟩,
    ⟨.sec, .a, 0, State.reset, ?_⟩⟩
  all_goals decide +kernel

theorem witness_DsfLatches :
    (∃ (i : Initiator) (c : Chan) (s : State), (s.fwAllows i .read (blockBase .dsf c + DSF_P0_LO_POS_LO.off) (blockBase .dsf c + DSF_P0_LO_POS_LO.off + 3) = true)) ∧
    (∃ (i : Initiator) (c : Chan) (s : State), (s.fwAllows i .read (blockBase .dsf c + DSF_LIMIT_LO_POS_LO.off) (blockBase .dsf c + DSF_LIMIT_LO_POS_LO.off + 3) = true)) ∧
    (∃ (i : Initiator) (c : Chan) (s : State), (s.fwAllows i .read (blockBase .dsf c + DSF_PRED_LO_POS_LO.off) (blockBase .dsf c + DSF_PRED_LO_POS_LO.off + 3) = true)) ∧
    (∃ (i : Initiator) (c : Chan) (o : Nat) (a : Word) (s : State), (o ∈ [DSF_P0_HI_POS_HI.off, DSF_LIMIT_HI_POS_HI.off, DSF_PRED_HI_POS_HI.off, DSF_VENV_SPEED.off, DSF_ELAPSED_TIME.off]) ∧ (a.toNat = blockBase .dsf c + o) ∧ (s.fwAllows i .read a.toNat (a.toNat + 3) = true)) ∧
    (∃ (i j : Initiator) (c : Chan) (k : Fin 3) (a : Nat) (s : State), (s.fwAllows i .read (blockBase .dsf c + dsfLow k) (blockBase .dsf c + dsfLow k + 3) = true) ∧ (iniCode j ≠ iniCode i) ∧ (a < 2 ^ 32)) := by
  refine ⟨⟨.sec, .a, State.reset, ?_⟩,
    ⟨.sec, .a, State.reset, ?_⟩,
    ⟨.sec, .a, State.reset, ?_⟩,
    ⟨.sec, .a, DSF_P0_HI_POS_HI.off, BitVec.ofNat 32 (blockBase .dsf .a + DSF_P0_HI_POS_HI.off), State.reset, ?_⟩,
    ⟨.sec, .scA, .a, 0, 0, State.reset, ?_⟩⟩
  all_goals decide +kernel

theorem witness_AdcLatches :
    (∃ (i : Initiator) (k : Fin 4) (n : Fin 64) (s : State), (s.fwAllows i .read (adcBase k.val + 0x1010 + 0x40 * n.val) (adcBase k.val + 0x1010 + 0x40 * n.val + 3) = true)) ∧
    (∃ (i : Initiator) (k : Fin 4) (n : Fin 64) (m : Fin 3) (a : Word) (s : State), (a.toNat = adcBase k.val + 0x1014 + 0x40 * n.val + 4 * m.val) ∧ (s.fwAllows i .read a.toNat (a.toNat + 3) = true)) ∧
    (∃ (i j : Initiator) (k : Fin 4) (n : Fin 64) (a : Nat) (s : State), (s.fwAllows i .read (adcBase k.val + 0x1010 + 0x40 * n.val) (adcBase k.val + 0x1010 + 0x40 * n.val + 3) = true) ∧ (iniCode j ≠ iniCode i) ∧ (a < 2 ^ 32)) := by
  refine ⟨⟨.sec, 0, 0, State.reset, ?_⟩,
    ⟨.sec, 0, 0, 0, BitVec.ofNat 32 (adcBase 0 + 0x1014), State.reset, ?_⟩,
    ⟨.sec, .scA, 0, 0, 0, State.reset, ?_⟩⟩
  all_goals decide +kernel

theorem witness_BusReads :
    (∃ (i : Initiator) (a : Word) (s : State), (s.fwAllows i .read a.toNat (a.toNat + 3) = true) ∧ (placeOf a.toNat = .ram) ∧ (a.toNat % 4 = 0)) ∧
    (∃ (i : Initiator) (a : Word) (s : State), (s.fwAllows i .read a.toNat (a.toNat + 3) = true) ∧ (placeOf a.toNat = .unmapped ∨ a.toNat % 4 ≠ 0)) ∧
    (∃ (i : Initiator) (a : Word) (base : Nat) (b : Block) (s : State), (s.fwAllows i .read a.toNat (a.toNat + 3) = true) ∧ (placeOf a.toNat = .regs b base) ∧ (a.toNat % 4 = 0) ∧ (b.still = true) ∧ (regAt b (offsetIn b a.toNat) = none)) ∧
    (∃ (i : Initiator) (a : Word) (base : Nat) (b : Block) (d : RegDesc) (f : Fld) (s : State), (s.fwAllows i .read a.toNat (a.toNat + 3) = true) ∧ (placeOf a.toNat = .regs b base) ∧ (a.toNat % 4 = 0) ∧ (b.still = true) ∧ ((regAt b (offsetIn b a.toNat)).map (·.1) = some d) ∧ (f ∈ d.fields) ∧ (f.acc = .rc)) ∧
    (∃ (i : Initiator) (a : Word) (c : Chan) (s : State), (s.quiet) ∧ (s.fwAllows i .read a.toNat (a.toNat + 3) = false) ∧ (iniChan i = some c)) ∧
    (∃ (i : Initiator) (a : Word) (s : State), (s.quiet) ∧ (s.fwAllows i .read a.toNat (a.toNat + 3) = false) ∧ (iniChan i = none)) := by
  refine ⟨⟨.sec, 0x10000000, State.reset, ?_⟩,
    ⟨.sec, 0x10000001, State.reset, ?_⟩,
    ⟨.sec, 0x4000FFFC, 0x40000000, .sys, State.reset, ?_⟩,
    ⟨.sec, 0x40070108, 0x40070000, .lks, ⟨.lks, 0x108, 0, 1, 0x0, [STY_REPEATS_RX, STY_REPEATS_TX]⟩, STY_REPEATS_RX, State.reset, ?_⟩,
    ⟨.scA, 0, .a, State.reset, ?_⟩,
    ⟨.lle, 0, State.reset, ?_⟩⟩
  all_goals try unfold State.quiet
  all_goals decide +kernel

theorem witness_BusWrites :
    (∃ (i : Initiator) (a v : Word) (t0 : Nat) (s : State), (i ≠ .host) ∧ (s.fwAllows i .write a.toNat a.toNat = true) ∧ (placeOf a.toNat = .ram) ∧ (Memory.wf s.mem)) ∧
    (∃ (i : Initiator) (a v : Word) (t0 : Nat) (s : State), (i ≠ .host) ∧ (s.fwAllows i .write a.toNat a.toNat = true) ∧ (placeOf a.toNat = .ram) ∧ (Memory.wf s.mem)) ∧
    (∃ (i : Initiator) (a v : Word) (t0 : Nat) (s : State), (i ≠ .host) ∧ (s.fwAllows i .write a.toNat a.toNat = true) ∧ (placeOf a.toNat = .ram) ∧ (Memory.wf s.mem)) ∧
    (∃ (i : Initiator) (w : Width) (a v : Word) (t0 base : Nat) (b : Block) (s : State), (i ≠ .host) ∧ (s.fwAllows i .write a.toNat a.toNat = true) ∧ (placeOf a.toNat = .regs b base) ∧ (w ≠ .word ∨ a.toNat % 4 ≠ 0)) ∧
    (∃ (i : Initiator) (a v : Word) (t0 : Nat) (base : Nat) (b : Block) (d : RegDesc) (s : State), (i ≠ .host) ∧ (s.fwAllows i .write a.toNat a.toNat = true) ∧ (placeOf a.toNat = .regs b base) ∧ (a.toNat % 4 = 0) ∧ (b.still = true) ∧ ((regAt b (offsetIn b a.toNat)).map (·.1) = some d)) ∧
    (∃ (i : Initiator) (w : Width) (a v : Word) (t0 : Nat) (s : State), (i ≠ .host) ∧ (s.fwAllows i .write a.toNat a.toNat = true) ∧ (placeOf a.toNat = .unmapped ∨ placeOf a.toNat = .rom)) ∧
    (∃ (i : Initiator) (w : Width) (a v : Word) (t0 : Nat) (s : State), (i ≠ .host) ∧ (s.quiet) ∧ (s.fwAllows i .write a.toNat a.toNat = false)) ∧
    (∃ (w : Width) (a v : Word) (t0 : Nat) (s : State), (w ≠ .word)) := by
  refine ⟨⟨.sec, 0x10000000, 0, 0, State.reset, ?_⟩,
    ⟨.sec, 0x10000000, 0, 0, State.reset, ?_⟩,
    ⟨.sec, 0x10000000, 0, 0, State.reset, ?_⟩,
    ⟨.sec, .half, 0x40000000, 0, 0, 0x40000000, .sys, State.reset, ?_⟩,
    ⟨.sec, 0x40070108, 0, 0, 0x40070000, .lks, ⟨.lks, 0x108, 0, 1, 0x0, [STY_REPEATS_RX, STY_REPEATS_TX]⟩, State.reset, ?_⟩,
    ⟨.sec, .word, 0, 0, 0, State.reset, ?_⟩,
    ⟨.scA, .word, 0, 0, 0, State.reset, ?_⟩,
    ⟨.half, 0, 0, 0, State.reset, ?_⟩⟩
  all_goals try unfold State.quiet
  all_goals decide +kernel

end Sys2Proof.Tests
end

section
/-! Plain register accesses (R7, R8, R31, R35, R39): what the bus does at each kind of place, and from it what READ_CLEAR and REGISTER_WRITE answer; and what reset leaves (R5, R9). -/

namespace Sys2Proof.Machine

open Sys2Proof

/-! ## Reads -/

theorem exec_readClear (i : Initiator) (a : Word) (s : State) : exec (.readClear i a) s = .next (s.busRead i a.toNat) := rfl

/-- A read that the firewall does not permit is a denied transaction (R39). -/
theorem State.busRead_denied (s : State) (i : Initiator) (a : Nat) (h : s.fwAllows i .read a (a + 3) = false) : s.busRead i a = s.deny i a :=
  if_pos h

/-- An unmapped or unaligned read is a bus error. -/
theorem State.busRead_error (s : State) (i : Initiator) (a : Nat) (h : s.fwAllows i .read a (a + 3) = true) (hp : placeOf a = .unmapped ∨ a % 4 ≠ 0) :
    s.busRead i a = { s with bus := .error } := by
  unfold State.busRead
  rw [if_neg (by simp [h]), if_pos hp]

theorem State.busRead_ram (s : State) (i : Initiator) (a : Nat) (h : s.fwAllows i .read a (a + 3) = true) (hp : placeOf a = .ram) (ha : a % 4 = 0) :
    s.busRead i a = { s with bus := .data (memWord s.mem a) } := by
  unfold State.busRead
  rw [if_neg (by simp [h]), if_neg (by simp [hp, ha])]
  unfold State.readWord
  rw [hp]

theorem State.readCap_still (s : State) (b : Block) (base off : Nat) (hb : b.still = true) : s.readCap b base off = s := by
  cases b
  case tim => cases hb
  all_goals rfl

theorem State.catchUp_still (s : State) (b : Block) (base : Nat) (hb : b.still = true) : s.catchUp b base = s :=
  (b.still_parts hb s .sec base 0).1

/-- R31: an offset of a block that holds no register reads as zero. -/
theorem State.readAt_still_none (s : State) (i : Initiator) (b : Block) (base a : Nat) (hb : b.still = true) (hd : regAt b (offsetIn b a) = none) :
    s.readAt i true b base a = (s, 0) := by
  unfold State.readAt
  dsimp only
  rw [hd, s.catchUp_still b base hb]
  rfl

/-- A register read: its word, the latches the read takes, and its RC fields cleared. -/
theorem State.readAt_still (s : State) (i : Initiator) (b : Block) (base a : Nat) (d : RegDesc) (hb : b.still = true) (hd : (regAt b (offsetIn b a)).map (·.1) = some d) :
    s.readAt i true b base a = ((s.take i (s.latchesOf b (a - offsetIn b a) (offsetIn b a))).clearRc a d, s.readReg i b (offsetIn b a) a d) := by
  unfold State.readAt
  dsimp only
  rw [hd, s.catchUp_still b base hb]
  dsimp only
  rw [State.readCap_still _ b base _ hb, if_pos rfl]

/-- Settles O57: each clause is the rule of the bus at the place the address names; a denied read is `State.deny`, whose latches `State.deny_latched` gives. -/
theorem busReads : Obligations.BusReads := by
  refine ⟨fun i a s hfw hp ha => ?ram, fun i a s hfw hp => ?error, fun i a base b s hfw hp ha hb hd => ?empty,
    fun i a base b d f s hfw hp ha hb hd hf hrc => ?reg, fun i a c s hq hfw hc => ?deniedOwn, fun i a s hq hfw hc => ?deniedShared⟩
  all_goals refine .intro (exec_readClear i a s) ?_
  case ram =>
    rw [s.busRead_ram i _ hfw hp ha]
    exact ⟨rfl, rfl, rfl⟩
  case error => exact s.busRead_error i _ hfw hp
  case empty => rw [s.busRead_reg i _ base b hfw hp ha, s.readAt_still_none i b base _ hb hd]
  case reg =>
    rw [s.busRead_reg i _ base b hfw hp ha, s.readAt_still i b base _ d hb hd]
    exact ⟨rfl, State.clearRc_zero _ _ d (regAt_ok b _ d hd) f hf hrc⟩
  case deniedOwn =>
    rw [s.busRead_denied i _ hfw]
    obtain ⟨hbus, hmem⟩ := s.deny_does i a.toNat
    exact ⟨hbus, hmem, (s.deny_latched i a.toNat hq).1 c hc⟩
  case deniedShared =>
    rw [s.busRead_denied i _ hfw]
    obtain ⟨hbus, hmem⟩ := s.deny_does i a.toNat
    exact ⟨hbus, hmem, (s.deny_latched i a.toNat hq).2 hc⟩

/-! ## Writes -/

/-- The memory after a store of a width: the address aligned down to it. -/
def memStore (w : Width) (m : List Host.Cell) (a v : Nat) : List Host.Cell :=
  match w with
  | .word => memSetWord m (a / 4 * 4) v
  | .half => memInsert (a / 2 * 2 + 1) (BitVec.ofNat 8 (v / 2 ^ 8)) (memInsert (a / 2 * 2) (BitVec.ofNat 8 v) m)
  | .byte => memInsert a (BitVec.ofNat 8 v) m

theorem memByte_memStore_word (m : List Host.Cell) (a v : Nat) (h : Memory.wf m) (x : Nat) :
    memByte (memStore .word m a v) x = if a / 4 * 4 ≤ x ∧ x < a / 4 * 4 + 4 then BitVec.ofNat 8 (v / 2 ^ (8 * (x - a / 4 * 4))) else memByte m x :=
  memByte_memSetWord m _ v h x

theorem memByte_memStore_half (m : List Host.Cell) (a v : Nat) (h : Memory.wf m) (x : Nat) :
    memByte (memStore .half m a v) x = if x = a / 2 * 2 + 1 then BitVec.ofNat 8 (v / 2 ^ 8) else if x = a / 2 * 2 then BitVec.ofNat 8 v else memByte m x := by
  unfold memStore
  rw [memByte_memInsert _ _ _ (memInsert_wf _ _ m h), memByte_memInsert _ _ m h]

theorem memByte_memStore_byte (m : List Host.Cell) (a v : Nat) (h : Memory.wf m) (x : Nat) :
    memByte (memStore .byte m a v) x = if x = a then BitVec.ofNat 8 v else memByte m x :=
  memByte_memInsert _ _ m h x

/-- A write by an initiator other than the host, at its time, goes to the bus. -/
theorem exec_registerWrite (i : Initiator) (w : Width) (a v : Word) (t : Nat) (s : State) (h : i ≠ .host) :
    exec (.registerWrite i w a v t) s = .next (({ s with now := max s.now t } : State).busWrite i w a.toNat v.toNat) := by
  cases i
  case host => exact absurd rfl h
  all_goals rfl

/-- R34: the host accesses its window by words only. -/
theorem exec_registerWrite_host_narrow (w : Width) (a v : Word) (t : Nat) (s : State) (h : w ≠ .word) :
    exec (.registerWrite .host w a v t) s = .next { s with now := max s.now t, bus := .error } :=
  congrArg Host.Outcome.next (if_pos h)

/-- A write that the firewall does not permit is a denied transaction (R39). -/
theorem State.busWrite_denied (s : State) (i : Initiator) (w : Width) (a v : Nat) (h : s.fwAllows i .write a a = false) : s.busWrite i w a v = s.deny i a :=
  if_pos h

theorem State.busWrite_ram (s : State) (i : Initiator) (w : Width) (a v : Nat) (h : s.fwAllows i .write a a = true) (hp : placeOf a = .ram) :
    s.busWrite i w a v = { s with mem := memStore w s.mem a v, bus := .done } := by
  unfold State.busWrite
  rw [if_neg (by simp [h]), hp]
  cases w <;> rfl

/-- A write to an unmapped address or the ROM is a bus error. -/
theorem State.busWrite_error (s : State) (i : Initiator) (w : Width) (a v : Nat) (h : s.fwAllows i .write a a = true) (hp : placeOf a = .unmapped ∨ placeOf a = .rom) :
    s.busWrite i w a v = { s with bus := .error } := by
  unfold State.busWrite
  rw [if_neg (by simp [h])]
  rcases hp with hp | hp <;> rw [hp]

/-- A store to RAM by an initiator other than the host: the bytes it leaves, and no register written. -/
theorem answers_ramWrite (i : Initiator) (w : Width) (a v : Word) (t0 : Nat) (s : State) (f : Nat → BitVec 8) (hi : i ≠ .host)
    (hfw : s.fwAllows i .write a.toNat a.toNat = true) (hp : placeOf a.toNat = .ram) (hf : ∀ x, memByte (memStore w s.mem a.toNat v.toNat) x = f x) :
    Answers (.registerWrite i w a v t0) s (fun t => t.bus = .done ∧ t.regs = s.regs ∧ ∀ x, memByte t.mem x = f x) := by
  refine .intro (exec_registerWrite i w a v t0 s hi) ?_
  rw [State.busWrite_ram { s with now := max s.now t0 } i w _ _ hfw hp]
  exact ⟨rfl, rfl, hf⟩

/-- Settles O58: each clause is the rule of the bus at the place the address names; the host's window comes before the bus. -/
theorem busWrites : Obligations.BusWrites := by
  refine ⟨fun i a v t0 s hi hfw hp hm => ?word, fun i a v t0 s hi hfw hp hm => ?half, fun i a v t0 s hi hfw hp hm => ?byte,
    fun i w a v t0 base b s hi hfw hp hw => ?narrow, fun i a v t0 base b d s hi hfw hp ha hb hd => ?reg,
    fun i w a v t0 s hi hfw hp => ?error, fun i w a v t0 s hi hq hfw => ?denied, fun w a v t0 s hw => ?host⟩
  case word => exact answers_ramWrite i .word a v t0 s _ hi hfw hp (memByte_memStore_word _ _ _ hm)
  case half => exact answers_ramWrite i .half a v t0 s _ hi hfw hp (memByte_memStore_half _ _ _ hm)
  case byte => exact answers_ramWrite i .byte a v t0 s _ hi hfw hp (memByte_memStore_byte _ _ _ hm)
  case narrow => exact .intro (exec_registerWrite i w a v t0 s hi) (State.busWrite_narrow _ i w _ _ base b hfw hp hw)
  case reg => exact .intro (exec_registerWrite i .word a v t0 s hi) (State.busWrite_reg _ i _ _ base _ b d hfw hp ha hb rfl hd)
  case error => exact .intro (exec_registerWrite i w a v t0 s hi) (State.busWrite_error _ i w _ _ hfw hp)
  case denied =>
    refine .intro (exec_registerWrite i w a v t0 s hi) ?_
    rw [State.busWrite_denied { s with now := max s.now t0 } i w _ _ hfw]
    obtain ⟨hbus, hmem⟩ := State.deny_does { s with now := max s.now t0 } i a.toNat
    obtain ⟨hown, hshared⟩ := State.deny_latched { s with now := max s.now t0 } i a.toNat hq
    exact ⟨hbus, hmem, hshared, hown⟩
  case host => exact .intro (exec_registerWrite_host_narrow w a v t0 s hw) rfl

/-! ## Reset -/

/-- A key that is not listed reads the default. -/
theorem tabGet_of_not_listed {α : Type} (d : α) (t : Tab α) (k : Nat) (h : ∀ e ∈ t, e.1 ≠ k) : tabGet d t k = d := by
  induction t with
  | nil => rfl
  | cons e t ih =>
    obtain ⟨j, v⟩ := e
    unfold tabGet
    rw [if_neg (h (j, v) (List.mem_cons_self ..))]
    exact ih fun x hx => h x (List.mem_cons_of_mem _ hx)

/-- Settles O3: the register file of reset lists the fixed words alone; everything else is a default of the state. -/
theorem resetState : Obligations.ResetState := by
  have hregs : ∀ rst a, (∀ e ∈ fixedWords, e.1 ≠ a) → regWord State.reset.regs rst a = BitVec.ofNat 32 rst :=
    fun rst a h => tabGet_of_not_listed _ fixedWords a h
  have hdev : State.reset.dev = stINIT := by decide +kernel
  have hopen : State.reset.closed .a = 0 ∧ State.reset.closed .b = 0 ∧ State.reset.lsClosed = 0 := by decide +kernel
  obtain ⟨ha, hb, hls⟩ := hopen
  exact ⟨rfl, rfl, hregs, hdev, ha, hb, hls, rfl, rfl⟩

end Sys2Proof.Machine
end

section
/-! What every command leaves unchanged (R12, R31, R35, R153, R184, R314, R338, R346, R355, R431): one frame over the whole instruction type, of the view and of the registers. -/

namespace Sys2Proof.Machine

open Sys2Proof

/-- The view of `t`, but every field that command `i` is not listed as a writer of is that of `s`. -/
def frameView (i : Instr) (s t : State) : View where
  pending := s.pending
  mem := bif memWriters i then t.mem else s.mem
  mz := bif mzWriters i then t.mz else s.mz
  prog := bif progWriters i then t.prog else s.prog
  refit := bif progWriters i then t.refit else s.refit
  refitHeld := bif progWriters i then t.refitHeld else s.refitHeld
  fw := bif fwWriters i then t.fw else s.fw
  ses := bif sesWriters i then t.ses else s.ses
  nets := bif netsWriters i then t.nets else s.nets
  link := bif linkWriters i then t.link else s.link
  ptp := bif ptpWriters i then t.ptp else s.ptp
  tims := bif timsWriters i then t.tims else s.tims
  crcs := bif crcsWriters i then t.crcs else s.crcs
  adcs := bif adcsWriters i then t.adcs else s.adcs
  inp := bif inpWriters i then t.inp else s.inp
  pairs := bif pairsWriters i then t.pairs else s.pairs
  power := bif powerWriters i then t.power else s.power
  service := bif serviceWriters i then t.service else s.service
  epochAt := bif epochAtWriters i then t.epochAt else s.epochAt
  hostLost := bif hostLostWriters i then t.hostLost else s.hostLost
  graph := bif graphWriters i then t.graph else s.graph
  stay := bif stayWriters i then t.stay else s.stay

/-- The frame of every command: a field of the view changes only by the commands listed as its writers. -/
theorem exec_view (i : Instr) (s t : State) (h : exec i s = .next t) : t.view = frameView i s t := by
  cases i with
  | por => exact execPor_view _ _ _ h
  | bor => exact execBor_view _ _ _ _ h
  | resetN => exact execResetN_view _ _ _ _ h
  | vbatRise => exact execVbatRise_view _ _ _ h
  | mainRailsRemoved => exact execMainRailsRemoved_view _ _ _ _ h
  | vbatDip => exact execVbatDip_view _ _ _ h
  | vbatLow => exact execVbatLow_view _ _ h
  | aonClkStop => exact execAonClkStop_view _ _ h
  | pllLockLost => exact execPllLockLost_view _ _ _ h
  | freqWindowEnd => exact execFreqWindowEnd_view _ _ _ _ h
  | refJudgementWindowEnd => exact execRefJudgementWindowEnd_view _ _ _ _ h
  | vsUndervoltage => exact execVsUndervoltage_view _ _ _ h
  | supplyMonitorFault => exact execSupplyMonitorFault_view _ _ _ _ h
  | vmzLow => exact execVmzLow_view _ _ _ h
  | startComplete => exact execStartComplete_view _ _ _ h
  | trialStartTimeout => exact execTrialStartTimeout_view _ _ _ h
  | guardCycleBoundary => exact execGuardCycleBoundary_view _ _ _ _ _ h
  | coordinateSnapshot => exact execCoordinateSnapshot_view _ _ _ _ h
  | sessionWatchdogExpiry => exact execSessionWatchdogExpiry_view _ _ _ _ h
  | aiContextStale => exact execAiContextStale_view _ _ _ _ _ h
  | graphEvaluation => exact execGraphEvaluation_view _ _ _ _ h
  | resultAgreement => exact execResultAgreement_view _ _ h
  | guardCycleOverrun => exact execGuardCycleOverrun_view _ _ _ h
  | stage => exact execStage_view _ _ h
  | imageEntryWrite => exact execImageEntryWrite_view _ _ _ _ h
  | commandWatchdogExpiry => exact execCommandWatchdogExpiry_view _ _ _ _ h
  | angleEngineUpdate => exact execAngleEngineUpdate_view _ _ _ _ _ h
  | monitoredStopCompletion => exact execMonitoredStopCompletion_view _ _ h
  | standstillSet => exact execStandstillSet_view _ _ _ _ h
  | sourceFault => exact execSourceFault_view _ _ _ _ _ h
  | sourceFaultConfirmTimeout => exact execSourceFaultConfirmTimeout_view _ _ _ _ h
  | sourceXcheckExcess => exact execSourceXcheckExcess_view _ _ _ h
  | channelXcheckExcess => exact execChannelXcheckExcess_view _ _ h
  | coordinatePlausibility => exact execCoordinatePlausibility_view _ _ _ h
  | angleEngineOverrun => exact execAngleEngineOverrun_view _ _ _ h
  | camPredictedEvent => exact execCamPredictedEvent_view _ _ _ _ _ h
  | camCrcCheck => exact execCamCrcCheck_view _ _ _ _ h
  | masterAngleFrame => exact execMasterAngleFrame_view _ _ _ _ _ h
  | masterDevTimeout => exact execMasterDevTimeout_view _ _ _ h
  | inputFilterChange => exact execInputFilterChange_view _ _ _ _ _ h
  | discrepancyTimeout => exact execDiscrepancyTimeout_view _ _ _ h
  | comparatorDisagreement => exact execComparatorDisagreement_view _ _ _ h
  | testPulseDue => exact execTestPulseDue_view _ _ _ _ h
  | testPulseTokenGrant => exact execTestPulseTokenGrant_view _ _ _ h
  | testPulseStart => exact execTestPulseStart_view _ _ _ h
  | testPulseWidthEnd => exact execTestPulseWidthEnd_view _ _ _ _ _ h
  | testPulseSettleEnd => exact execTestPulseSettleEnd_view _ _ _ h
  | sourceLowIdle => exact execSourceLowIdle_view _ _ _ h
  | fastKill => exact execFastKill_view _ _ _ _ _ h
  | fastKillRelease => exact execFastKillRelease_view _ _ _ _ h
  | fastKillCrcCheck => exact execFastKillCrcCheck_view _ _ _ _ h
  | outputTestDue => exact execOutputTestDue_view _ _ _ _ h
  | outputTestTokenGrant => exact execOutputTestTokenGrant_view _ _ _ _ _ _ _ _ h
  | outputTestPhaseStart => exact execOutputTestPhaseStart_view _ _ _ h
  | outputTestPhaseEnd => exact execOutputTestPhaseEnd_view _ _ _ _ h
  | outputTestVerifyEnd => exact execOutputTestVerifyEnd_view _ _ _ _ h
  | outputReadbackFault => exact execOutputReadbackFault_view _ _ _ _ _ _ _ h
  | currentLimitOpen => exact execCurrentLimitOpen_view _ _ _ _ h
  | readbackDisagreement => exact execReadbackDisagreement_view _ _ _ h
  | openLoad => exact execOpenLoad_view _ _ _ h
  | edmTimeout => exact execEdmTimeout_view _ _ _ h
  | graphIntegrityCheck => exact execGraphIntegrityCheck_view _ _ _ _ h
  | furlTimerExpiry => exact execFurlTimerExpiry_view _ _ _ _ h
  | furlArmRelease => exact execFurlArmRelease_view _ _ _ h
  | timedStopCompletion => exact execTimedStopCompletion_view _ _ _ h
  | stopTimeExceeded => exact execStopTimeExceeded_view _ _ _ h
  | brakeOverlapEnd => exact execBrakeOverlapEnd_view _ _ _ h
  | furlCrcCheck => exact execFurlCrcCheck_view _ _ _ _ h
  | otherClass2Line => exact execOtherClass2Line_view _ _ _ h
  | fcTestInjection => exact execFcTestInjection_view _ _ _ _ h
  | fltPinMismatch => exact execFltPinMismatch_view _ _ _ _ h
  | consequentialWindowEnd => exact execConsequentialWindowEnd_view _ _ _ h
  | selftestWarn => exact execSelftestWarn_view _ _ h
  | selftestOverdue => exact execSelftestOverdue_view _ _ h
  | telltaleReport => exact execTelltaleReport_view _ _ _ _ _ h
  | forcedMismatch => exact execForcedMismatch_view _ _ _ _ _ h
  | latentDivergenceSweep => exact execLatentDivergenceSweep_view _ _ _ _ _ h
  | asyncInputDisagreement => exact execAsyncInputDisagreement_view _ _ _ _ _ h
  | debugAttach => exact execDebugAttach_view _ _ _ _ h
  | debugDetach => exact execDebugDetach_view _ _ _ h
  | debugReset => exact execDebugReset_view _ _ _ _ h
  | appReset => exact execAppReset_view _ _ _ h
  | patrolScrub => exact execPatrolScrub_view _ _ _ _ h
  | stayAlignFrame => exact execStayAlignFrame_view _ _ _ _ _ h
  | stayCoordFrame => exact execStayCoordFrame_view _ _ _ _ h
  | stayInputFrame => exact execStayInputFrame_view _ _ _ _ h
  | staySnapshotFrame => exact execStaySnapshotFrame_view _ _ _ _ _ h
  | stayResultFrame => exact execStayResultFrame_view _ _ _ _ _ h
  | stayTokenFrame => exact execStayTokenFrame_view _ _ _ _ _ h
  | stayEventFrame => exact execStayEventFrame_view _ _ _ _ _ _ h
  | stayHoldFrame => exact execStayHoldFrame_view _ _ _ _ h
  | stayRepeatRequest => exact execStayRepeatRequest_view _ _ _ _ _ h
  | stayDeadlineMiss => exact execStayDeadlineMiss_view _ _ _ _ h
  | staySkewFault => exact execStaySkewFault_view _ _ _ h
  | stayTrainingTimeout => exact execStayTrainingTimeout_view _ _ h
  | stayAttributionWindowEnd => exact execStayAttributionWindowEnd_view _ _ h
  | goaleFrameReceived => exact execGoaleFrameReceived_view _ _ _ _ _ h
  | twinWindowEnd => exact execTwinWindowEnd_view _ _ _ _ h
  | pathLost => exact execPathLost_view _ _ _ _ _ h
  | networkLinkDown => exact execNetworkLinkDown_view _ _ _ h
  | npeFault => exact execNpeFault_view _ _ _ h
  | phyPoll => exact execPhyPoll_view _ _ _ _ _ h
  | ptpMessage => exact execPtpMessage_view _ _ _ _ _ h
  | ptpSyncTimeout => exact execPtpSyncTimeout_view _ _ _ _ h
  | ptpPps => exact execPtpPps_view _ _ _ _ h
  | arpRequest => exact execArpRequest_view _ _ _ _ h
  | icmpEchoRequest => exact execIcmpEchoRequest_view _ _ _ _ h
  | epochSwitchTime => exact execEpochSwitchTime_view _ _ _ h
  | lineLinkTick => exact execLineLinkTick_view _ _ _ h
  | groupStateFrame => exact execGroupStateFrame_view _ _ _ _ _ _ _ _ _ h
  | portLost => exact execPortLost_view _ _ _ _ h
  | relayFrameReceived => exact execRelayFrameReceived_view _ _ _ _ _ _ _ _ h
  | relayFrameSend => exact execRelayFrameSend_view _ _ _ h
  | xoffInChange => exact execXoffInChange_view _ _ _ _ _ h
  | xoffInHeld => exact execXoffInHeld_view _ _ _ _ h
  | lleFault => exact execLleFault_view _ _ h
  | recFlushTimeout => exact execRecFlushTimeout_view _ _ h
  | recClockTimeout => exact execRecClockTimeout_view _ _ h
  | hlySetupDone => exact execHlySetupDone_view _ _ _ _ _ h
  | bar0WriteDenied => exact execBar0WriteDenied_view _ _ _ h
  | doorbellKick => exact execDoorbellKick_view _ _ _ h
  | doorbellPoll => exact execDoorbellPoll_view _ _ _ _ h
  | doorbellReadFailures => exact execDoorbellReadFailures_view _ _ h
  | heartbeatTimeout => exact execHeartbeatTimeout_view _ _ _ h
  | busMasterDisable => exact execBusMasterDisable_view _ _ h
  | pcieLinkLoss => exact execPcieLinkLoss_view _ _ h
  | pcieFlr => exact execPcieFlr_view _ _ h
  | pcieD3hot => exact execPcieD3hot_view _ _ h
  | irqDelayExpiry => exact execIrqDelayExpiry_view _ _ _ _ h
  | eventRingWrite => exact execEventRingWrite_view _ _ _ _ h
  | halyardFault => exact execHalyardFault_view _ _ h
  | nop => exact execNop_view _ _ _ _ h
  | getInfo => exact execGetInfo_view _ _ _ _ h
  | readReg => exact execReadReg_view _ _ _ _ h
  | restart => exact execRestart_view _ _ _ _ _ h
  | shutdown => exact execShutdown_view _ _ _ _ h
  | authChallenge => exact execAuthChallenge_view _ _ _ _ h
  | authResponse => exact execAuthResponse_view _ _ _ _ _ h
  | authEnd => exact execAuthEnd_view _ _ _ _ h
  | refit => exact execRefit_view _ _ _ _ _ h
  | fwStage => exact execFwStage_view _ _ _ _ _ h
  | keyInstall => exact execKeyInstall_view _ _ _ _ _ h
  | keyRemove => exact execKeyRemove_view _ _ _ _ h
  | epochSwitch => exact execEpochSwitch_view _ _ _ _ h
  | attest => exact execAttest_view _ _ _ _ _ h
  | ringReset => exact execRingReset_view _ _ _ _ h
  | setPoll => exact execSetPoll_view _ _ _ _ h
  | authorityIdleTimeout => exact execAuthorityIdleTimeout_view _ _ _ _ h
  | nonceLapse => exact execNonceLapse_view _ _ _ _ h
  | authBackoffEnd => exact execAuthBackoffEnd_view _ _ _ h
  | serviceDurationEnd => exact execServiceDurationEnd_view _ _ _ h
  | refitStopped => exact execRefitStopped_view _ _ h
  | refitApplied => exact execRefitApplied_view _ _ _ h
  | refitCommitted => exact execRefitCommitted_view _ _ _ h
  | adcConversionDone => exact execAdcConversionDone_view _ _ _ _ _ h
  | adcRefXchkFault => exact execAdcRefXchkFault_view _ _ _ h
  | iosInjectionTrigger => exact execIosInjectionTrigger_view _ _ _ _ h
  | monitorBurst => exact execMonitorBurst_view _ _ _ h
  | calibrationDue => exact execCalibrationDue_view _ _ _ _ _ h
  | calibrationOverdue => exact execCalibrationOverdue_view _ _ _ _ h
  | conversionTimeout => exact execConversionTimeout_view _ _ _ h
  | adcCtxClr => exact execAdcCtxClr_view _ _ _ _ _ h
  | lcPosLoRead => exact execLcPosLoRead_view _ _ _ _ h
  | camOriginLoRead => exact execCamOriginLoRead_view _ _ _ _ h
  | dsfLatchRead => exact execDsfLatchRead_view _ _ _ _ _ h
  | adcSumLoRead => exact execAdcSumLoRead_view _ _ _ _ _ h
  | timCountRead => exact execTimCountRead_view _ _ _ _ _ _ h
  | timCapRead => exact execTimCapRead_view _ _ _ _ _ h
  | crcResultLoRead => exact execCrcResultLoRead_view _ _ _ _ h
  | mzwGtLoRead => exact execMzwGtLoRead_view _ _ _ h
  | pwrAonLoRead => exact execPwrAonLoRead_view _ _ _ _ h
  | readClear => exact execReadClear_view _ _ _ _ h
  | fcRecAck => exact execFcRecAck_view _ _ _ _ _ h
  | registerWrite => exact execRegisterWrite_view _ _ _ _ _ _ _ h
  | timCmpWrite => exact execTimCmpWrite_view _ _ _ _ _ _ _ h
  | timCmpDisarm => exact execTimCmpDisarm_view _ _ _ _ _ _ h
  | timCountWrite => exact execTimCountWrite_view _ _ _ _ _ _ _ h
  | timPCfgWrite => exact execTimPCfgWrite_view _ _ _ _ _ _ h
  | timerCompareMatch => exact execTimerCompareMatch_view _ _ _ _ h
  | timerOverflow => exact execTimerOverflow_view _ _ _ _ h
  | tmioCaptureEdge => exact execTmioCaptureEdge_view _ _ _ _ _ h
  | crcGo => exact execCrcGo_view _ _ _ _ h
  | crcScanDone => exact execCrcScanDone_view _ _ _ h
  | otpRead => exact execOtpRead_view _ _ _ _ h
  | otpMread => exact execOtpMread_view _ _ _ _ h
  | otpProgram => exact execOtpProgram_view _ _ _ _ h
  | otpLock => exact execOtpLock_view _ _ _ _ h
  | otpVoid => exact execOtpVoid_view _ _ _ _ h
  | otpCommandDone => exact execOtpCommandDone_view _ _ _ _ h
  | secFwCommit => exact execSecFwCommit_view _ _ _ h
  | secFwLoad => exact execSecFwLoad_view _ _ _ h
  | lotOpen => exact execLotOpen_view _ _ _ h
  | lotClose => exact execLotClose_view _ _ _ h
  | lotCut => exact execLotCut_view _ _ _ h
  | readLot => exact execReadLot_view _ _ _ h
  | readAudit => exact execReadAudit_view _ _ _ h
  | readEvent => exact execReadEvent_view _ _ _ h
  | readCert => exact execReadCert_view _ _ _ h
  | timeHint => exact execTimeHint_view _ _ _ h
  | mzwCommandRefused => exact execMzwCommandRefused_view _ _ _ _ h
  | mirrorFrame => exact execMirrorFrame_view _ _ _ h
  | mizzenLinkTimeout => exact execMizzenLinkTimeout_view _ _ _ h
  | measuringFault => exact execMeasuringFault_view _ _ _ _ _ h
  | sealChange => exact execSealChange_view _ _ _ _ h
  | indicationLine => exact execIndicationLine_view _ _ _ h
  | grandTotalCommit => exact execGrandTotalCommit_view _ _ _ h
  | idRequest => exact execIdRequest_view _ _ h
  | lotRequest => exact execLotRequest_view _ _ _ h
  | audRequest => exact execAudRequest_view _ _ _ h
  | evtRequest => exact execEvtRequest_view _ _ _ h
  | setParameter => exact execSetParameter_view _ _ _ _ h
  | commit => exact execCommit_view _ _ _ h
  | fwload => exact execFwload_view _ _ _ _ h
  | mzLockstepRestart => exact execMzLockstepRestart_view _ _ _ h
  | bstFullRun => exact execBstFullRun_view _ _ h
  | bstSelectedRun => exact execBstSelectedRun_view _ _ _ _ h
  | bstRepair => exact execBstRepair_view _ _ _ _ h
  | bstAbort => exact execBstAbort_view _ _ h
  | ratlineComplete => exact execRatlineComplete_view _ _ _ h
  | ringOscMeasure => exact execRingOscMeasure_view _ _ _ _ _ _ _ h
  | slackHourly => exact execSlackHourly_view _ _ _ _ h
  | slackReadingLow => exact execSlackReadingLow_view _ _ _ _ h
  | fuseSweep => exact execFuseSweep_view _ _ _ _ _ _ _ h
  | verifyAdjust => exact execVerifyAdjust_view _ _ _ h
  | summaryCopy => exact execSummaryCopy_view _ _ _ h
  | hmcFault => exact execHmcFault_view _ _ h
  | sleepEntry => exact execSleepEntry_view _ _ _ h
  | wake => exact execWake_view _ _ _ _ h
  | crystalRestart => exact execCrystalRestart_view _ _ h
  | vsRelease => exact execVsRelease_view _ _ _ h
  | vmzReset => exact execVmzReset_view _ _ _ h
  | vmzRelease => exact execVmzRelease_view _ _ _ h
  | measuringWheelEdge => exact execMeasuringWheelEdge_view _ _ _ _ _ h
  | encoderEdge => exact execEncoderEdge_view _ _ _ _ _ h
  | recClkEdge => exact execRecClkEdge_view _ _ h
  | junctionOvertemperature => exact execJunctionOvertemperature_view _ _ _ _ h
  | secInternalFault => exact execSecInternalFault_view _ _ h
  | jtagLifecycleRequest => exact execJtagLifecycleRequest_view _ _ _ h
  | switchFrameForward => exact execSwitchFrameForward_view _ _ _ _ _ h

/-- A next state keeps the registers outside the blocks listed for its command, where it has a list. -/
def RegsFramed (i : Instr) (s t : State) : Prop := ∀ B, regBlocks i = some B → regsOff B t.regs = regsOff B s.regs

theorem RegsFramed.of_list {i : Instr} {s t : State} {L : List Block} (hL : regBlocks i = some L) (h : regsOff L t.regs = regsOff L s.regs) : RegsFramed i s t := fun B hB => by
  rw [hL] at hB
  injection hB with hB
  exact hB ▸ h

theorem RegsFramed.of_none {i : Instr} {s t : State} (hi : regBlocks i = none) : RegsFramed i s t := fun B hB => by
  rw [hi] at hB
  cases hB

/-- The register frame of every command; the 26 without a list are those that may write any block. -/
theorem exec_regsFramed (i : Instr) (s t : State) (h : exec i s = .next t) : RegsFramed i s t := by
  cases i with
  | por | bor | resetN | vbatRise | mainRailsRemoved | vbatDip | trialStartTimeout | debugReset | readReg
  | restart | refit | refitApplied | refitCommitted | lcPosLoRead | camOriginLoRead | dsfLatchRead | adcSumLoRead | timCountRead
  | timCapRead | crcResultLoRead | mzwGtLoRead | pwrAonLoRead | readClear | registerWrite | crcScanDone | ratlineComplete =>
    exact .of_none rfl
  | vbatLow => exact .of_list rfl (execVbatLow_elsewhere _ _ h)
  | aonClkStop => exact .of_list rfl (execAonClkStop_elsewhere _ _ h)
  | pllLockLost => exact .of_list rfl (execPllLockLost_elsewhere _ _ _ h)
  | freqWindowEnd => exact .of_list rfl (execFreqWindowEnd_elsewhere _ _ _ _ h)
  | refJudgementWindowEnd => exact .of_list rfl (execRefJudgementWindowEnd_elsewhere _ _ _ _ h)
  | vsUndervoltage => exact .of_list rfl (execVsUndervoltage_elsewhere _ _ _ h)
  | supplyMonitorFault => exact .of_list rfl (execSupplyMonitorFault_elsewhere _ _ _ _ h)
  | vmzLow => exact .of_list rfl (execVmzLow_elsewhere _ _ _ h)
  | startComplete => exact .of_list rfl (execStartComplete_elsewhere _ _ _ h)
  | guardCycleBoundary => exact .of_list rfl (execGuardCycleBoundary_elsewhere _ _ _ _ _ h)
  | coordinateSnapshot => exact .of_list rfl (execCoordinateSnapshot_elsewhere _ _ _ _ h)
  | sessionWatchdogExpiry => exact .of_list rfl (execSessionWatchdogExpiry_elsewhere _ _ _ _ h)
  | aiContextStale => exact .of_list rfl (execAiContextStale_elsewhere _ _ _ _ _ h)
  | graphEvaluation => exact .of_list rfl (execGraphEvaluation_elsewhere _ _ _ _ h)
  | resultAgreement => exact .of_list rfl (execResultAgreement_elsewhere _ _ h)
  | guardCycleOverrun => exact .of_list rfl (execGuardCycleOverrun_elsewhere _ _ _ h)
  | stage => exact .of_list rfl (execStage_elsewhere _ _ h)
  | imageEntryWrite => exact .of_list rfl (execImageEntryWrite_elsewhere _ _ _ _ h)
  | commandWatchdogExpiry => exact .of_list rfl (execCommandWatchdogExpiry_elsewhere _ _ _ _ h)
  | angleEngineUpdate => exact .of_list rfl (execAngleEngineUpdate_elsewhere _ _ _ _ _ h)
  | monitoredStopCompletion => exact .of_list rfl (execMonitoredStopCompletion_elsewhere _ _ h)
  | standstillSet => exact .of_list rfl (execStandstillSet_elsewhere _ _ _ _ h)
  | sourceFault => exact .of_list rfl (execSourceFault_elsewhere _ _ _ _ _ h)
  | sourceFaultConfirmTimeout => exact .of_list rfl (execSourceFaultConfirmTimeout_elsewhere _ _ _ _ h)
  | sourceXcheckExcess => exact .of_list rfl (execSourceXcheckExcess_elsewhere _ _ _ h)
  | channelXcheckExcess => exact .of_list rfl (execChannelXcheckExcess_elsewhere _ _ h)
  | coordinatePlausibility => exact .of_list rfl (execCoordinatePlausibility_elsewhere _ _ _ h)
  | angleEngineOverrun => exact .of_list rfl (execAngleEngineOverrun_elsewhere _ _ _ h)
  | camPredictedEvent => exact .of_list rfl (execCamPredictedEvent_elsewhere _ _ _ _ _ h)
  | camCrcCheck => exact .of_list rfl (execCamCrcCheck_elsewhere _ _ _ _ h)
  | masterAngleFrame => exact .of_list rfl (execMasterAngleFrame_elsewhere _ _ _ _ _ h)
  | masterDevTimeout => exact .of_list rfl (execMasterDevTimeout_elsewhere _ _ _ h)
  | inputFilterChange => exact .of_list rfl (execInputFilterChange_elsewhere _ _ _ _ _ h)
  | discrepancyTimeout => exact .of_list rfl (execDiscrepancyTimeout_elsewhere _ _ _ h)
  | comparatorDisagreement => exact .of_list rfl (execComparatorDisagreement_elsewhere _ _ _ h)
  | testPulseDue => exact .of_list rfl (execTestPulseDue_elsewhere _ _ _ _ h)
  | testPulseTokenGrant => exact .of_list rfl (execTestPulseTokenGrant_elsewhere _ _ _ h)
  | testPulseStart => exact .of_list rfl (execTestPulseStart_elsewhere _ _ _ h)
  | testPulseWidthEnd => exact .of_list rfl (execTestPulseWidthEnd_elsewhere _ _ _ _ _ h)
  | testPulseSettleEnd => exact .of_list rfl (execTestPulseSettleEnd_elsewhere _ _ _ h)
  | sourceLowIdle => exact .of_list rfl (execSourceLowIdle_elsewhere _ _ _ h)
  | fastKill => exact .of_list rfl (execFastKill_elsewhere _ _ _ _ _ h)
  | fastKillRelease => exact .of_list rfl (execFastKillRelease_elsewhere _ _ _ _ h)
  | fastKillCrcCheck => exact .of_list rfl (execFastKillCrcCheck_elsewhere _ _ _ _ h)
  | outputTestDue => exact .of_list rfl (execOutputTestDue_elsewhere _ _ _ _ h)
  | outputTestTokenGrant => exact .of_list rfl (execOutputTestTokenGrant_elsewhere _ _ _ _ _ _ _ _ h)
  | outputTestPhaseStart => exact .of_list rfl (execOutputTestPhaseStart_elsewhere _ _ _ h)
  | outputTestPhaseEnd => exact .of_list rfl (execOutputTestPhaseEnd_elsewhere _ _ _ _ h)
  | outputTestVerifyEnd => exact .of_list rfl (execOutputTestVerifyEnd_elsewhere _ _ _ _ h)
  | outputReadbackFault => exact .of_list rfl (execOutputReadbackFault_elsewhere _ _ _ _ _ _ _ h)
  | currentLimitOpen => exact .of_list rfl (execCurrentLimitOpen_elsewhere _ _ _ _ h)
  | readbackDisagreement => exact .of_list rfl (execReadbackDisagreement_elsewhere _ _ _ h)
  | openLoad => exact .of_list rfl (execOpenLoad_elsewhere _ _ _ h)
  | edmTimeout => exact .of_list rfl (execEdmTimeout_elsewhere _ _ _ h)
  | graphIntegrityCheck => exact .of_list rfl (execGraphIntegrityCheck_elsewhere _ _ _ _ h)
  | furlTimerExpiry => exact .of_list rfl (execFurlTimerExpiry_elsewhere _ _ _ _ h)
  | furlArmRelease => exact .of_list rfl (execFurlArmRelease_elsewhere _ _ _ h)
  | timedStopCompletion => exact .of_list rfl (execTimedStopCompletion_elsewhere _ _ _ h)
  | stopTimeExceeded => exact .of_list rfl (execStopTimeExceeded_elsewhere _ _ _ h)
  | brakeOverlapEnd => exact .of_list rfl (execBrakeOverlapEnd_elsewhere _ _ _ h)
  | furlCrcCheck => exact .of_list rfl (execFurlCrcCheck_elsewhere _ _ _ _ h)
  | otherClass2Line => exact .of_list rfl (execOtherClass2Line_elsewhere _ _ _ h)
  | fcTestInjection => exact .of_list rfl (execFcTestInjection_elsewhere _ _ _ _ h)
  | fltPinMismatch => exact .of_list rfl (execFltPinMismatch_elsewhere _ _ _ _ h)
  | consequentialWindowEnd => exact .of_list rfl (execConsequentialWindowEnd_elsewhere _ _ _ h)
  | selftestWarn => exact .of_list rfl (execSelftestWarn_elsewhere _ _ h)
  | selftestOverdue => exact .of_list rfl (execSelftestOverdue_elsewhere _ _ h)
  | telltaleReport => exact .of_list rfl (execTelltaleReport_elsewhere _ _ _ _ _ h)
  | forcedMismatch => exact .of_list rfl (execForcedMismatch_elsewhere _ _ _ _ _ h)
  | latentDivergenceSweep => exact .of_list rfl (execLatentDivergenceSweep_elsewhere _ _ _ _ _ h)
  | asyncInputDisagreement => exact .of_list rfl (execAsyncInputDisagreement_elsewhere _ _ _ _ _ h)
  | debugAttach => exact .of_list rfl (execDebugAttach_elsewhere _ _ _ _ h)
  | debugDetach => exact .of_list rfl (execDebugDetach_elsewhere _ _ _ h)
  | appReset => exact .of_list rfl (execAppReset_elsewhere _ _ _ h)
  | patrolScrub => exact .of_list rfl (execPatrolScrub_elsewhere _ _ _ _ h)
  | stayAlignFrame => exact .of_list rfl (execStayAlignFrame_elsewhere _ _ _ _ _ h)
  | stayCoordFrame => exact .of_list rfl (execStayCoordFrame_elsewhere _ _ _ _ h)
  | stayInputFrame => exact .of_list rfl (execStayInputFrame_elsewhere _ _ _ _ h)
  | staySnapshotFrame => exact .of_list rfl (execStaySnapshotFrame_elsewhere _ _ _ _ _ h)
  | stayResultFrame => exact .of_list rfl (execStayResultFrame_elsewhere _ _ _ _ _ h)
  | stayTokenFrame => exact .of_list rfl (execStayTokenFrame_elsewhere _ _ _ _ _ h)
  | stayEventFrame => exact .of_list rfl (execStayEventFrame_elsewhere _ _ _ _ _ _ h)
  | stayHoldFrame => exact .of_list rfl (execStayHoldFrame_elsewhere _ _ _ _ h)
  | stayRepeatRequest => exact .of_list rfl (execStayRepeatRequest_elsewhere _ _ _ _ _ h)
  | stayDeadlineMiss => exact .of_list rfl (execStayDeadlineMiss_elsewhere _ _ _ _ h)
  | staySkewFault => exact .of_list rfl (execStaySkewFault_elsewhere _ _ _ h)
  | stayTrainingTimeout => exact .of_list rfl (execStayTrainingTimeout_elsewhere _ _ h)
  | stayAttributionWindowEnd => exact .of_list rfl (execStayAttributionWindowEnd_elsewhere _ _ h)
  | goaleFrameReceived => exact .of_list rfl (execGoaleFrameReceived_elsewhere _ _ _ _ _ h)
  | twinWindowEnd => exact .of_list rfl (execTwinWindowEnd_elsewhere _ _ _ _ h)
  | pathLost => exact .of_list rfl (execPathLost_elsewhere _ _ _ _ _ h)
  | networkLinkDown => exact .of_list rfl (execNetworkLinkDown_elsewhere _ _ _ h)
  | npeFault => exact .of_list rfl (execNpeFault_elsewhere _ _ _ h)
  | phyPoll => exact .of_list rfl (execPhyPoll_elsewhere _ _ _ _ _ h)
  | ptpMessage => exact .of_list rfl (execPtpMessage_elsewhere _ _ _ _ _ h)
  | ptpSyncTimeout => exact .of_list rfl (execPtpSyncTimeout_elsewhere _ _ _ _ h)
  | ptpPps => exact .of_list rfl (execPtpPps_elsewhere _ _ _ _ h)
  | arpRequest => exact .of_list rfl (execArpRequest_elsewhere _ _ _ _ h)
  | icmpEchoRequest => exact .of_list rfl (execIcmpEchoRequest_elsewhere _ _ _ _ h)
  | epochSwitchTime => exact .of_list rfl (execEpochSwitchTime_elsewhere _ _ _ h)
  | lineLinkTick => exact .of_list rfl (execLineLinkTick_elsewhere _ _ _ h)
  | groupStateFrame => exact .of_list rfl (execGroupStateFrame_elsewhere _ _ _ _ _ _ _ _ _ h)
  | portLost => exact .of_list rfl (execPortLost_elsewhere _ _ _ _ h)
  | relayFrameReceived => exact .of_list rfl (execRelayFrameReceived_elsewhere _ _ _ _ _ _ _ _ h)
  | relayFrameSend => exact .of_list rfl (execRelayFrameSend_elsewhere _ _ _ h)
  | xoffInChange => exact .of_list rfl (execXoffInChange_elsewhere _ _ _ _ _ h)
  | xoffInHeld => exact .of_list rfl (execXoffInHeld_elsewhere _ _ _ _ h)
  | lleFault => exact .of_list rfl (execLleFault_elsewhere _ _ h)
  | recFlushTimeout => exact .of_list rfl (execRecFlushTimeout_elsewhere _ _ h)
  | recClockTimeout => exact .of_list rfl (execRecClockTimeout_elsewhere _ _ h)
  | hlySetupDone => exact .of_list rfl (execHlySetupDone_elsewhere _ _ _ _ _ h)
  | bar0WriteDenied => exact .of_list rfl (execBar0WriteDenied_elsewhere _ _ _ h)
  | doorbellKick => exact .of_list rfl (execDoorbellKick_elsewhere _ _ _ h)
  | doorbellPoll => exact .of_list rfl (execDoorbellPoll_elsewhere _ _ _ _ h)
  | doorbellReadFailures => exact .of_list rfl (execDoorbellReadFailures_elsewhere _ _ h)
  | heartbeatTimeout => exact .of_list rfl (execHeartbeatTimeout_elsewhere _ _ _ h)
  | busMasterDisable => exact .of_list rfl (execBusMasterDisable_elsewhere _ _ h)
  | pcieLinkLoss => exact .of_list rfl (execPcieLinkLoss_elsewhere _ _ h)
  | pcieFlr => exact .of_list rfl (execPcieFlr_elsewhere _ _ h)
  | pcieD3hot => exact .of_list rfl (execPcieD3hot_elsewhere _ _ h)
  | irqDelayExpiry => exact .of_list rfl (execIrqDelayExpiry_elsewhere _ _ _ _ h)
  | eventRingWrite => exact .of_list rfl (execEventRingWrite_elsewhere _ _ _ _ h)
  | halyardFault => exact .of_list rfl (execHalyardFault_elsewhere _ _ h)
  | nop => exact .of_list rfl (execNop_elsewhere _ _ _ _ h)
  | getInfo => exact .of_list rfl (execGetInfo_elsewhere _ _ _ _ h)
  | shutdown => exact .of_list rfl (execShutdown_elsewhere _ _ _ _ h)
  | authChallenge => exact .of_list rfl (execAuthChallenge_elsewhere _ _ _ _ h)
  | authResponse => exact .of_list rfl (execAuthResponse_elsewhere _ _ _ _ _ h)
  | authEnd => exact .of_list rfl (execAuthEnd_elsewhere _ _ _ _ h)
  | fwStage => exact .of_list rfl (execFwStage_elsewhere _ _ _ _ _ h)
  | keyInstall => exact .of_list rfl (execKeyInstall_elsewhere _ _ _ _ _ h)
  | keyRemove => exact .of_list rfl (execKeyRemove_elsewhere _ _ _ _ h)
  | epochSwitch => exact .of_list rfl (execEpochSwitch_elsewhere _ _ _ _ h)
  | attest => exact .of_list rfl (execAttest_elsewhere _ _ _ _ _ h)
  | ringReset => exact .of_list rfl (execRingReset_elsewhere _ _ _ _ h)
  | setPoll => exact .of_list rfl (execSetPoll_elsewhere _ _ _ _ h)
  | authorityIdleTimeout => exact .of_list rfl (execAuthorityIdleTimeout_elsewhere _ _ _ _ h)
  | nonceLapse => exact .of_list rfl (execNonceLapse_elsewhere _ _ _ _ h)
  | authBackoffEnd => exact .of_list rfl (execAuthBackoffEnd_elsewhere _ _ _ h)
  | serviceDurationEnd => exact .of_list rfl (execServiceDurationEnd_elsewhere _ _ _ h)
  | refitStopped => exact .of_list rfl (execRefitStopped_elsewhere _ _ h)
  | adcConversionDone => exact .of_list rfl (execAdcConversionDone_elsewhere _ _ _ _ _ h)
  | adcRefXchkFault => exact .of_list rfl (execAdcRefXchkFault_elsewhere _ _ _ h)
  | iosInjectionTrigger => exact .of_list rfl (execIosInjectionTrigger_elsewhere _ _ _ _ h)
  | monitorBurst => exact .of_list rfl (execMonitorBurst_elsewhere _ _ _ h)
  | calibrationDue => exact .of_list rfl (execCalibrationDue_elsewhere _ _ _ _ _ h)
  | calibrationOverdue => exact .of_list rfl (execCalibrationOverdue_elsewhere _ _ _ _ h)
  | conversionTimeout => exact .of_list rfl (execConversionTimeout_elsewhere _ _ _ h)
  | adcCtxClr => exact .of_list rfl (execAdcCtxClr_elsewhere _ _ _ _ _ h)
  | fcRecAck => exact .of_list rfl (execFcRecAck_elsewhere _ _ _ _ _ h)
  | timCmpWrite => exact .of_list rfl (execTimCmpWrite_elsewhere _ _ _ _ _ _ _ h)
  | timCmpDisarm => exact .of_list rfl (execTimCmpDisarm_elsewhere _ _ _ _ _ _ h)
  | timCountWrite => exact .of_list rfl (execTimCountWrite_elsewhere _ _ _ _ _ _ _ h)
  | timPCfgWrite => exact .of_list rfl (execTimPCfgWrite_elsewhere _ _ _ _ _ _ h)
  | timerCompareMatch => exact .of_list rfl (execTimerCompareMatch_elsewhere _ _ _ _ h)
  | timerOverflow => exact .of_list rfl (execTimerOverflow_elsewhere _ _ _ _ h)
  | tmioCaptureEdge => exact .of_list rfl (execTmioCaptureEdge_elsewhere _ _ _ _ _ h)
  | crcGo => exact .of_list rfl (execCrcGo_elsewhere _ _ _ _ h)
  | otpRead => exact .of_list rfl (execOtpRead_elsewhere _ _ _ _ h)
  | otpMread => exact .of_list rfl (execOtpMread_elsewhere _ _ _ _ h)
  | otpProgram => exact .of_list rfl (execOtpProgram_elsewhere _ _ _ _ h)
  | otpLock => exact .of_list rfl (execOtpLock_elsewhere _ _ _ _ h)
  | otpVoid => exact .of_list rfl (execOtpVoid_elsewhere _ _ _ _ h)
  | otpCommandDone => exact .of_list rfl (execOtpCommandDone_elsewhere _ _ _ _ h)
  | secFwCommit => exact .of_list rfl (execSecFwCommit_elsewhere _ _ _ h)
  | secFwLoad => exact .of_list rfl (execSecFwLoad_elsewhere _ _ _ h)
  | lotOpen => exact .of_list rfl (execLotOpen_elsewhere _ _ _ h)
  | lotClose => exact .of_list rfl (execLotClose_elsewhere _ _ _ h)
  | lotCut => exact .of_list rfl (execLotCut_elsewhere _ _ _ h)
  | readLot => exact .of_list rfl (execReadLot_elsewhere _ _ _ h)
  | readAudit => exact .of_list rfl (execReadAudit_elsewhere _ _ _ h)
  | readEvent => exact .of_list rfl (execReadEvent_elsewhere _ _ _ h)
  | readCert => exact .of_list rfl (execReadCert_elsewhere _ _ _ h)
  | timeHint => exact .of_list rfl (execTimeHint_elsewhere _ _ _ h)
  | mzwCommandRefused => exact .of_list rfl (execMzwCommandRefused_elsewhere _ _ _ _ h)
  | mirrorFrame => exact .of_list rfl (execMirrorFrame_elsewhere _ _ _ h)
  | mizzenLinkTimeout => exact .of_list rfl (execMizzenLinkTimeout_elsewhere _ _ _ h)
  | measuringFault => exact .of_list rfl (execMeasuringFault_elsewhere _ _ _ _ _ h)
  | sealChange => exact .of_list rfl (execSealChange_elsewhere _ _ _ _ h)
  | indicationLine => exact .of_list rfl (execIndicationLine_elsewhere _ _ _ h)
  | grandTotalCommit => exact .of_list rfl (execGrandTotalCommit_elsewhere _ _ _ h)
  | idRequest => exact .of_list rfl (execIdRequest_elsewhere _ _ h)
  | lotRequest => exact .of_list rfl (execLotRequest_elsewhere _ _ _ h)
  | audRequest => exact .of_list rfl (execAudRequest_elsewhere _ _ _ h)
  | evtRequest => exact .of_list rfl (execEvtRequest_elsewhere _ _ _ h)
  | setParameter => exact .of_list rfl (execSetParameter_elsewhere _ _ _ _ h)
  | commit => exact .of_list rfl (execCommit_elsewhere _ _ _ h)
  | fwload => exact .of_list rfl (execFwload_elsewhere _ _ _ _ h)
  | mzLockstepRestart => exact .of_list rfl (execMzLockstepRestart_elsewhere _ _ _ h)
  | bstFullRun => exact .of_list rfl (execBstFullRun_elsewhere _ _ h)
  | bstSelectedRun => exact .of_list rfl (execBstSelectedRun_elsewhere _ _ _ _ h)
  | bstRepair => exact .of_list rfl (execBstRepair_elsewhere _ _ _ _ h)
  | bstAbort => exact .of_list rfl (execBstAbort_elsewhere _ _ h)
  | ringOscMeasure => exact .of_list rfl (execRingOscMeasure_elsewhere _ _ _ _ _ _ _ h)
  | slackHourly => exact .of_list rfl (execSlackHourly_elsewhere _ _ _ _ h)
  | slackReadingLow => exact .of_list rfl (execSlackReadingLow_elsewhere _ _ _ _ h)
  | fuseSweep => exact .of_list rfl (execFuseSweep_elsewhere _ _ _ _ _ _ _ h)
  | verifyAdjust => exact .of_list rfl (execVerifyAdjust_elsewhere _ _ _ h)
  | summaryCopy => exact .of_list rfl (execSummaryCopy_elsewhere _ _ _ h)
  | hmcFault => exact .of_list rfl (execHmcFault_elsewhere _ _ h)
  | sleepEntry => exact .of_list rfl (execSleepEntry_elsewhere _ _ _ h)
  | wake => exact .of_list rfl (execWake_elsewhere _ _ _ _ h)
  | crystalRestart => exact .of_list rfl (execCrystalRestart_elsewhere _ _ h)
  | vsRelease => exact .of_list rfl (execVsRelease_elsewhere _ _ _ h)
  | vmzReset => exact .of_list rfl (execVmzReset_elsewhere _ _ _ h)
  | vmzRelease => exact .of_list rfl (execVmzRelease_elsewhere _ _ _ h)
  | measuringWheelEdge => exact .of_list rfl (execMeasuringWheelEdge_elsewhere _ _ _ _ _ h)
  | encoderEdge => exact .of_list rfl (execEncoderEdge_elsewhere _ _ _ _ _ h)
  | recClkEdge => exact .of_list rfl (execRecClkEdge_elsewhere _ _ h)
  | junctionOvertemperature => exact .of_list rfl (execJunctionOvertemperature_elsewhere _ _ _ _ h)
  | secInternalFault => exact .of_list rfl (execSecInternalFault_elsewhere _ _ h)
  | jtagLifecycleRequest => exact .of_list rfl (execJtagLifecycleRequest_elsewhere _ _ _ h)
  | switchFrameForward => exact .of_list rfl (execSwitchFrameForward_elsewhere _ _ _ _ _ h)

/-- Settles O11: a word outside the listed blocks is a word the command's frame keeps. -/
theorem registerFrames : Obligations.RegisterFrames := fun i s t B h hB a ha rst =>
  regWord_outside (exec_regsFramed i s t h B hB) rst a ha

theorem exec_keeps_mem (i : Instr) (s t : State) (h : exec i s = .next t) (hi : memWriters i = false) : t.mem = s.mem := by
  simpa [frameView, hi] using congrArg View.mem (exec_view i s t h)

/-- Settles O7: each field is one of the view's, and the frame keeps it where its writers leave the command out. -/
theorem programFrames : Obligations.ProgramFrames := by
  intro i s t h
  have hv := exec_view i s t h
  refine ⟨fun hi => ?mem, fun hi => ?prog, fun hi => ?refit, fun hi => ?refitHeld, fun hi => ?power, fun hi => ?epochAt, fun hi => ?service,
    fun hi => ?hostLost, fun hi => ?fw⟩
  case mem => exact exec_keeps_mem i s t h hi
  case prog => simpa [frameView, hi] using congrArg View.prog hv
  case refit => simpa [frameView, hi] using congrArg View.refit hv
  case refitHeld => simpa [frameView, hi] using congrArg View.refitHeld hv
  case power => simpa [frameView, hi] using congrArg View.power hv
  case epochAt => simpa [frameView, hi] using congrArg View.epochAt hv
  case service => simpa [frameView, hi] using congrArg View.service hv
  case hostLost => simpa [frameView, hi] using congrArg View.hostLost hv
  case fw => simpa [frameView, hi] using congrArg View.fw hv

/-- Settles O10, from the same frame. -/
theorem measuringFrames : Obligations.MeasuringFrames := by
  intro i s t h
  have hv := exec_view i s t h
  refine ⟨fun hi => ?adcs, fun hi => ?tims, fun hi => ?crcs, fun hi => ?mz⟩
  case adcs => simpa [frameView, hi] using congrArg View.adcs hv
  case tims => simpa [frameView, hi] using congrArg View.tims hv
  case crcs => simpa [frameView, hi] using congrArg View.crcs hv
  case mz => simpa [frameView, hi] using congrArg View.mz hv

end Sys2Proof.Machine
end

section
/-! The invariant of memory (R31, R35): a store into RAM keeps the canonical form, and every reset, dip or Ratline run only drops bytes. -/

namespace Sys2Proof.Machine

open Sys2Proof

theorem State.Same.mem {t s : State} (h : State.Same t s) : t.mem = s.mem := h.2.1

/-- Dropping listed bytes keeps the invariant. -/
theorem State.Inv.of_sublist {s t : State} (h : s.Inv) (hm : t.mem.Sublist s.mem) : t.Inv := by
  obtain ⟨⟨hord, hne⟩, hram⟩ := h
  exact ⟨⟨hord.sublist hm, fun e he => hne e (hm.subset he)⟩, fun e he => hram e (hm.subset he)⟩

theorem State.Inv.of_mem_eq {s t : State} (h : s.Inv) (hm : t.mem = s.mem) : t.Inv :=
  h.of_sublist (hm ▸ List.Sublist.refl _)

/-! ## What drops bytes -/

theorem State.loseMain_mem_sublist (s : State) : s.loseMain.mem.Sublist s.mem := by
  have hm : s.loseMain.mem = s.mem.filter (fun e => decide (0x30000000 ≤ e.1 ∧ e.1 < 0x30000400)) := by
    unfold State.loseMain State.resetRest State.resetNets State.resetSafety State.resetDies State.otpInterrupt State.updSec State.resetFields
    dsimp only
    split <;> simp
  exact hm ▸ List.filter_sublist

theorem State.loseAon_mem_sublist (s : State) : s.loseAon.mem.Sublist s.mem := by
  unfold State.loseAon
  dsimp only
  simp

theorem State.mainStart_mem_sublist (s : State) (n : Nat) (o : StartObs) : (s.mainStart n o).mem.Sublist s.mem := by
  obtain ⟨-, -, -, -, -, -, hm⟩ := s.mainStart_does n o
  exact hm ▸ List.filter_sublist

theorem execPor_mem_sublist (o : StartObs) (s t : State) (h : execPor o s = .next t) : t.mem.Sublist s.mem := by
  cases h
  refine (State.mainStart_mem_sublist _ _ _).trans ?_
  split
  · exact State.loseAon_mem_sublist { s with now := max s.now o.t }
  · exact .refl _

theorem execBor_mem_sublist (o : StartObs) (vbat : Bool) (s t : State) (h : execBor o vbat s = .next t) : t.mem.Sublist s.mem := by
  cases h
  split
  · simpa using State.mainStart_mem_sublist s _ o
  · exact .refl _

theorem execResetN_mem_sublist (ns : Nat) (o : StartObs) (s t : State) (h : execResetN ns o s = .next t) : t.mem.Sublist s.mem := by
  cases h
  split
  · exact State.mainStart_mem_sublist s _ o
  · exact .refl _

theorem execVbatRise_mem_sublist (w : Nat) (s t : State) (h : execVbatRise w s = .next t) : t.mem.Sublist s.mem := by
  cases h
  dsimp only
  split
  · exact State.loseAon_mem_sublist { s with now := max s.now w }
  · exact .refl _

theorem execVbatDip_mem_sublist (w : Nat) (s t : State) (h : execVbatDip w s = .next t) : t.mem.Sublist s.mem := by
  cases h
  split <;> exact State.loseAon_mem_sublist { s with now := max s.now w }

theorem execMainRailsRemoved_mem_sublist (vbat : Bool) (w : Nat) (s t : State) (h : execMainRailsRemoved vbat w s = .next t) : t.mem.Sublist s.mem := by
  have hmain : ∀ u : State, u.loseMain.showKill.showFurl.mem.Sublist u.mem := fun u => by
    simpa using u.loseMain_mem_sublist
  cases h
  simp only [State.ite_mem]
  split
  · cases vbat
    · exact (State.loseAon_mem_sublist _).trans (hmain _)
    · exact hmain _
  · exact .refl _

theorem execTrialStartTimeout_mem_sublist (o : StartObs) (s t : State) (h : execTrialStartTimeout o s = .next t) : t.mem.Sublist s.mem := by
  cases h
  split
  · exact .refl _
  · split
    · simp only [State.raiseOnce_keeps, State.put_mem_eq]
      exact State.mainStart_mem_sublist (s.updSec _) 0 o
    · exact .refl _

theorem State.clearArrays_mem_sublist (s : State) : s.clearArrays.mem.Sublist s.mem := List.filter_sublist

/-- What follows the test of the arrays is not memory: the failures raised, the pass noted, the channel reset. -/
theorem State.endRun_mem {passed : Prop} {d : Decidable passed} (s : State) (k : RunKind) (o : RatlineObs) :
    ((if passed then (s.raiseFails k o.fails).passRun k (((s.raiseFails k o.fails).now - (s.raiseFails k o.fails).sec.runAt) / 1000000)
      else if k = .l3 then (s.raiseFails k o.fails).endL3 false else s.raiseFails k o.fails).leaveRun k o.imgOk).settle.mem = s.mem := by
  simp only [State.settle_keeps, State.leaveRun_keeps, State.ite_mem, State.passRun_keeps, State.endL3_keeps, State.raiseFails_keeps, ite_self]

theorem State.testArrays_mem_sublist {full : Prop} {d : Decidable full} (s : State) (o : RatlineObs) :
    (if full then s.clearArrays.noteSram o else s).mem.Sublist s.mem := by
  split
  · rw [(State.noteSram_keeps _ o).mem]
    exact s.clearArrays_mem_sublist
  · exact .refl _

/-- A Ratline run tests every array or none (R404). -/
theorem execRatlineComplete_mem_sublist (o : RatlineObs) (s t : State) (h : execRatlineComplete o s = .next t) : t.mem.Sublist s.mem := by
  cases h
  generalize hu : ({ s with now := max s.now o.t } : State) = u
  have hm : u.mem = s.mem := hu ▸ rfl
  rw [← hm]
  dsimp only
  split
  · exact .refl _
  · rw [State.endRun_mem]
    refine (State.testArrays_mem_sublist _ o).trans ?_
    rw [State.updSec_mem_eq, (State.logFails_keeps _ _).mem, (State.showRun_keeps _ _ _).mem]

/-! ## What stores bytes -/

theorem memStore_wf (w : Width) (m : List Host.Cell) (a v : Nat) (h : Memory.wf m) : Memory.wf (memStore w m a v) := by
  cases w with
  | word => exact memSetWord_wf m _ v h
  | half => exact memInsert_wf _ _ _ (memInsert_wf _ _ m h)
  | byte => exact memInsert_wf _ _ m h

/-- The aligned store of a width stays in the word its address names, which is RAM. -/
theorem memStore_ram (w : Width) (m : List Host.Cell) (a v : Nat) (ha : placeOf a = .ram) (h : ∀ e ∈ m, placeOf e.1 = .ram) :
    ∀ e ∈ memStore w m a v, placeOf e.1 = .ram := by
  cases w with
  | word => exact memSetWord_ram m a v ha h
  | half =>
    have hlow : placeOf (a / 2 * 2) = .ram := ha ▸ placeOf_word _ _ (by omega)
    have hhigh : placeOf (a / 2 * 2 + 1) = .ram := ha ▸ placeOf_word _ _ (by omega)
    exact memInsert_ram _ _ _ hhigh (memInsert_ram _ _ m hlow h)
  | byte => exact memInsert_ram a _ m ha h

theorem State.busWrite_inv (s : State) (i : Initiator) (w : Width) (a v : Nat) (h : s.Inv) : (s.busWrite i w a v).Inv := by
  obtain hfw | hfw := Bool.eq_false_or_eq_true (s.fwAllows i .write a a)
  · cases hp : placeOf a with
    | ram =>
      rw [s.busWrite_ram i w a v hfw hp]
      exact ⟨memStore_wf w s.mem a v h.1, memStore_ram w s.mem a v hp h.2⟩
    | rom =>
      rw [s.busWrite_error i w a v hfw (.inr hp)]
      exact h
    | unmapped =>
      rw [s.busWrite_error i w a v hfw (.inl hp)]
      exact h
    | regs b base =>
      refine h.of_mem_eq ?_
      unfold State.busWrite
      simp only [hfw, hp, State.ite_mem]
      simp
  · rw [s.busWrite_denied i w a v hfw]
    exact h.of_mem_eq (s.deny_does i a).2

/-- The host's window holds registers alone, but what it does not hold itself goes to the bus. -/
theorem State.hostWrite_inv (s : State) (off v : Nat) (h : s.Inv) : (s.hostWrite off v).Inv := by
  unfold State.hostWrite
  split
  · exact h
  · split
    · exact h
    · split
      · split <;> exact h
      · exact s.busWrite_inv .host .word _ v h

theorem execRegisterWrite_inv (i : Initiator) (w : Width) (a v : Word) (n : Nat) (s t : State) (h : s.Inv) (he : exec (.registerWrite i w a v n) s = .next t) : t.Inv := by
  have hnow : ({ s with now := max s.now n } : State).Inv := h
  by_cases hi : i = .host
  · subst hi
    cases he
    generalize ({ s with now := max s.now n } : State) = u at hnow
    dsimp only
    split
    · exact hnow
    · split
      · exact hnow.of_mem_eq (u.hostDenied_keeps _).mem
      · exact u.hostWrite_inv _ _ hnow
  · rw [exec_registerWrite i w a v n s hi] at he
    cases he
    exact State.busWrite_inv _ i w _ _ hnow

/-! ## Every command -/

/-- Every command keeps the invariant: its writers of RAM one by one, the others by their frame. -/
theorem exec_inv (i : Instr) (s t : State) (h : s.Inv) (he : exec i s = .next t) : t.Inv := by
  by_cases hi : memWriters i = false
  · exact h.of_mem_eq (exec_keeps_mem i s t he hi)
  · cases i
    case por => exact h.of_sublist (execPor_mem_sublist _ s t he)
    case bor => exact h.of_sublist (execBor_mem_sublist _ _ s t he)
    case resetN => exact h.of_sublist (execResetN_mem_sublist _ _ s t he)
    case vbatRise => exact h.of_sublist (execVbatRise_mem_sublist _ s t he)
    case mainRailsRemoved => exact h.of_sublist (execMainRailsRemoved_mem_sublist _ _ s t he)
    case vbatDip => exact h.of_sublist (execVbatDip_mem_sublist _ s t he)
    case trialStartTimeout => exact h.of_sublist (execTrialStartTimeout_mem_sublist _ s t he)
    case ratlineComplete => exact h.of_sublist (execRatlineComplete_mem_sublist _ s t he)
    case registerWrite => exact execRegisterWrite_inv _ _ _ _ _ s t h he
    all_goals exact absurd rfl hi

/-- Settles O5: a step runs the command at the front of the queue, or idles. -/
theorem stepKeepsInv : Obligations.StepKeepsInv := by
  intro s t h he
  unfold step at he
  split at he
  · cases he
    exact h
  next c q _ => exact exec_inv c { s with pending := q } t h he

/-- Settles O4: RAM lists nothing after reset. -/
theorem resetHasInv : Obligations.ResetHasInv :=
  ⟨⟨.nil, fun _ he => nomatch he⟩, fun _ he => nomatch he⟩

end Sys2Proof.Machine
end

section
/-! The device-fatal line (R30, R192): a Class 3 event opens every switch, whatever window is open. -/

namespace Sys2Proof.Machine

open Sys2Proof

/-- What the device-fatal line holds open: the switches of both dies and the low-side returns. -/
def State.fatalHolds (s : State) : BitVec 16 × BitVec 16 × BitVec 4 := (s.die.a.heldFatal, s.die.b.heldFatal, s.die.b.lsHeld)

theorem State.fatalHolds_of_die {s t : State} (h : t.die = s.die) : t.fatalHolds = s.fatalHolds := by
  unfold State.fatalHolds
  rw [h]

theorem State.fatalKill_holds (s : State) : s.fatalKill.fatalHolds = (0xFFFF, 0xFFFF, 0xF) := by
  unfold State.fatalKill State.fatalHolds
  rw [State.kill_die, State.kill_die]
  rfl

theorem State.disarmFurl_fatalHolds (s : State) (c : Chan) : (s.disarmFurl c).fatalHolds = s.fatalHolds := by
  cases c <;> rfl

/-- The end of every stop disarms the Furl timers and leaves the device-fatal line. -/
theorem State.endStops_fatalHolds (s : State) (k : Nat) : (s.endStops k).fatalHolds = s.fatalHolds := by
  have hone : ∀ (u : State) (d : Chan) (p : Prop) [Decidable p] (f : StopSt → StopSt) (g : Fld) (v w : Nat),
      (if p then (((({ u with stop := twoUpd u.stop d f }).put DSF_STATUS_END_CAUSE v d).put DSF_STATUS_PHASE w d).satInc g d) else u).fatalHolds = u.fatalHolds := fun u d p _ f g v w => by
    split
    · exact State.fatalHolds_of_die (by simp)
    · rfl
  have hfurl : ∀ (u : State) (d : Chan) (p : Prop) [Decidable p], (if p then u.disarmFurl d else u).fatalHolds = u.fatalHolds := fun u d p _ => by
    split
    · exact u.disarmFurl_fatalHolds d
    · rfl
  have hshow : ∀ u : State, u.showFurl.fatalHolds = u.fatalHolds := fun u => rfl
  unfold State.endStops
  dsimp only
  rw [hshow, hfurl, hfurl, hone, hone]

theorem State.class3_fatalHolds (s : State) : s.class3.fatalHolds = (0xFFFF, 0xFFFF, 0xF) := by
  unfold State.class3
  dsimp only
  rw [State.endStops_fatalHolds, State.fatalKill_holds]

theorem State.keepL3_die (s : State) (e : FaultEv) : (s.keepL3 e).die = s.die := by
  unfold State.keepL3
  split <;> rfl

/-- A Class 3 event of both collectors opens every switch of both dies and every low-side switch. -/
theorem State.raise_class3 (s : State) (n : Nat) (g : Charge) (el : Elem) (k : Nat) (h6 : n ≠ 6) (h7 : n ≠ 7) :
    (s.raise ⟨n, 3, g, .both, el, k⟩).fatalHolds = (0xFFFF, 0xFFFF, 0xF) := by
  have hreact : ∀ u : State, (u.react ⟨n, 3, g, .both, el, k⟩).fatalHolds = (0xFFFF, 0xFFFF, 0xF) := fun u => by
    show (u.class3.keepL3 _).fatalHolds = _
    rw [State.fatalHolds_of_die (State.keepL3_die _ _), State.class3_fatalHolds]
  unfold State.raise
  dsimp only
  rw [if_pos (by simp [State.reaches, h6, h7]), State.fatalHolds_of_die (State.settle_die _), hreact]

theorem State.raiseOnce_class3 (s : State) (n : Nat) (g : Charge) (el : Elem) (k : Nat) (h6 : n ≠ 6) (h7 : n ≠ 7) :
    (s.raiseOnce ⟨n, 3, g, .both, el, k⟩).fatalHolds = (0xFFFF, 0xFFFF, 0xF) := s.raise_class3 n g el k h6 h7

theorem State.holds_of_fatalHolds {s : State} (h : s.fatalHolds = (0xFFFF, 0xFFFF, 0xF)) :
    s.die.a.heldFatal = 0xFFFF ∧ s.die.b.heldFatal = 0xFFFF ∧ s.die.b.lsHeld = 0xF := by
  unfold State.fatalHolds at h
  simpa using h

/-- Settles O12: each source raises a Class 3 event in both collectors. -/
theorem fatalKill : Obligations.FatalKill := by
  refine ⟨fun c s hd => ?injection, fun s => ?sec, fun d temp s ht => ?junction, fun r s hr => ?rail⟩
  case injection =>
    refine .intro (congrArg Host.Outcome.next (if_neg ?_)) (State.holds_of_fatalHolds (State.raise_class3 _ _ _ _ _ (by decide) (by decide)))
    exact fun h => h.elim hd Bool.false_ne_true
  case sec => exact .intro rfl (State.holds_of_fatalHolds (s.raiseOnce_class3 _ _ _ _ (by decide) (by decide)))
  case junction =>
    exact .intro (congrArg Host.Outcome.next (if_pos ht)) (State.holds_of_fatalHolds (s.raiseOnce_class3 _ _ _ _ (by decide) (by decide)))
  case rail =>
    refine .intro (congrArg Host.Outcome.next (if_pos ?_)) (State.holds_of_fatalHolds (State.raiseOnce_class3 _ _ _ _ _ (by decide) (by decide)))
    simp [hr]

end Sys2Proof.Machine
end

section
/-! The commands of the fault collectors and of memory protection (R15 to R17, R189 to R191, R194, R200). -/

namespace Sys2Proof.Machine

open Sys2Proof

/-- A command that completes answers what is known of every next state it can give. -/
theorem Answers.of_next {i : Instr} {s t : State} {P : State → Prop} (h : exec i s = .next t) (hp : ∀ u, exec i s = .next u → P u) : Answers i s P :=
  .intro h (hp t h)

theorem State.settle_stop (s : State) : s.settle.stop = s.stop := by
  rw [State.settle_rest]

/-! ## Flags -/

theorem State.flag_putFlag_same (s : State) (f : Fld) (b : Bool) (c : Chan) (i : Nat) (h : f.ok = true) : (s.putFlag f b c i).flag f c i = b := by
  have hw : 1 < 2 ^ (f.hi + 1 - f.lo) := by
    simp only [Fld.ok, Bool.and_eq_true, decide_eq_true_eq] at h
    exact Nat.one_lt_two_pow (by omega)
  have hb : b.toNat % 2 ^ (f.hi + 1 - f.lo) = b.toNat := Nat.mod_eq_of_lt (lt_of_le_of_lt b.toNat_le hw)
  unfold State.flag State.putFlag
  rw [State.get_put_same _ _ _ _ _ h, hb]
  cases b <;> rfl

theorem State.flag_putFlag_bits (s : State) (f g : Fld) (b : Bool) (c : Chan) (i : Nat) (hf : f.ok = true) (hb : g.blk = f.blk) (ho : g.off = f.off) (hs : g.stride = f.stride)
    (hr : g.rst = f.rst) (h : g.hi < f.lo ∨ f.hi < g.lo) : (s.putFlag f b c i).flag g c i = s.flag g c i := by
  unfold State.flag State.putFlag
  rw [State.get_put_bits s f g _ c i hf hb ho hs hr h]

/-- Whether an event for the host is queued or dropped, a flag outside the host interface reads as before. -/
theorem State.pushEvent_flag (s : State) (ty : Nat) (w : List Nat) (f : Fld) (c : Chan) (hb : f.blk ∉ [Block.hly]) (ho : f.off + f.stride * 0 < 0x10000) :
    (s.pushEvent ty w).flag f c = s.flag f c := by
  unfold State.flag
  rw [s.pushEvent_keepsRegs ty w none f c 0 hb ho]

theorem State.putBoth_flag (s : State) (f : Fld) (c : Chan) (h : f.ok = true) (hab : fldAddr f (blockBase f.blk .a) 0 ≠ fldAddr f (blockBase f.blk .b) 0) :
    (s.putBoth f 1).flag f c = true := by
  cases c with
  | a =>
    have := State.flag_putFlag_same s f true .a 0 h
    unfold State.flag at *
    exact (State.get_put_addr _ f f 1 .b .a 0 0 hab).symm ▸ this
  | b => exact State.flag_putFlag_same (s.put f 1 .a) f true .b 0 h

/-! ## The end of a consequential window -/

theorem State.raiseAll_windows (l : List FaultEv) (s : State) (d : Chan) : (twoAt (l.foldl (fun t e => t.raise e) s).fc d).windows = (twoAt s.fc d).windows :=
  State.foldl_keep (fun u => (twoAt u.fc d).windows) _ (fun u e => u.raise_windows d e) l s

theorem execConsequentialWindowEnd_windows (n : Fin 16) (s t : State) (h : execConsequentialWindowEnd n s = .next t) (d : Chan) :
    (twoAt t.fc d).windows = (twoAt s.fc d).windows.filter (· != n.val) := by
  cases h
  rw [State.raiseAll_windows]
  cases d <;> rfl

/-! ## Scrubbing -/

theorem exec_patrolScrub (m : MemLoc) (e : Ecc) (k n : Nat) (s : State) (hm : scrubArea m = some (k, n)) :
    exec (.patrolScrub m e) s = .next (State.eccFound { s with scrub := tabUpd 0 s.scrub k (fun p => (p + 1) % n) } m e) := by
  show execPatrolScrub m e s = _
  simp only [execPatrolScrub, hm]

/-- Settles O21: a line raised with no window open is latched (R190); what is shown or counted is read back from the register or table it went to. -/
theorem collectorCommands : Obligations.CollectorCommands := by
  refine ⟨fun c s hl hv => ?survivor, fun c s hl hv => ?alone, fun c s hd => ?injection, fun c s => ?passed, fun c level s hq hl => ?pin, fun n s => ?windowEnd,
    fun s => ?warn, fun s => ?overdue, fun m k n s hm => ?scrubGood, fun m k n s hq hm hto => ?scrubDouble⟩
  case survivor =>
    refine .intro (congrArg Host.Outcome.next (if_pos hl)) ?_
    rw [State.settle_stop, State.answerClass2, if_pos hv]
    exact congrArg StopSt.survivorNext (twoAt_twoUpd_same ..)
  case alone =>
    refine .intro (congrArg Host.Outcome.next (if_pos hl)) ?_
    rw [State.settle_die, State.answerClass2, if_neg (by simp [hv])]
    exact congrArg Die.staged (twoAt_twoUpd_same ..)
  case injection =>
    refine .intro (congrArg Host.Outcome.next (if_neg fun h => h.elim hd Bool.false_ne_true)) ?_
    exact ⟨State.raise_latched _ .a _ (.inr rfl) (.inl rfl), State.raise_latched _ .b _ (.inr rfl) (.inl rfl)⟩
  case passed =>
    refine .intro (congrArg Host.Outcome.next (if_pos (.inr rfl))) ⟨?_, rfl⟩
    exact congrArg FcSt.testLine (twoAt_twoUpd_same ..)
  case pin =>
    refine .intro (congrArg Host.Outcome.next (if_neg ?_)) ?_
    · rw [State.flag_putFlag_bits s FC_FLT_CFG_PIN_READ FC_FLT_CFG_PIN_CMD level c 0 (by decide) rfl rfl rfl rfl (by decide)]
      exact hl
    · exact State.raise_latched _ c _ (.inl (State.quiet_keep (by simp) hq)) (.inr rfl)
  case windowEnd =>
    refine .of_next rfl fun t ht => ?_
    have hw : ∀ d, n.val ∉ (twoAt t.fc d).windows := fun d => by
      rw [execConsequentialWindowEnd_windows n s t ht d]
      simp
    exact ⟨hw .a, hw .b⟩
  case warn =>
    have hwarn : ∀ (u : State) (w : List Nat) (c : Chan), ((u.putBoth FC_SELFTEST_WARN 1).pushEvent 2 w).flag FC_SELFTEST_WARN c = true := fun u w c => by
      rw [State.pushEvent_flag _ _ _ _ _ (by decide) (by decide)]
      exact State.putBoth_flag u _ c (by decide) (by decide)
    exact .intro rfl ⟨hwarn _ _ .a, hwarn _ _ .b⟩
  case overdue =>
    have hdue : ∀ (u : State) (w : List Nat) (c : Chan), ((u.putBoth FC_SELFTEST_OVERDUE 1).pushEvent 2 w).flag FC_SELFTEST_OVERDUE c = true := fun u w c => by
      rw [State.pushEvent_flag _ _ _ _ _ (by decide) (by decide)]
      exact State.putBoth_flag u _ c (by decide) (by decide)
    exact .intro rfl ⟨hdue _ _ .a, hdue _ _ .b⟩
  case scrubGood => exact .intro (exec_patrolScrub m .good k n s hm) ⟨tabGet_tabUpd_same 0 s.scrub k (fun p => (p + 1) % n), rfl⟩
  case scrubDouble => exact .intro (exec_patrolScrub m .double k n s hm) (State.raiseOnce_latched _ .a _ (.inl hq) hto)

end Sys2Proof.Machine
end

section
/-! Safe inputs, their test pulses and fast kills (R28, R78 to R100). -/

namespace Sys2Proof.Machine

open Sys2Proof

/-! ## One bit of a mask -/

theorem getLsbD_bitMask {w : Nat} (p j : Fin w) : (BitVec.ofNat w (2 ^ p.val)).getLsbD j = decide (p = j) := by
  rw [BitVec.getLsbD_ofNat, Nat.testBit_two_pow]
  simp [Fin.ext_iff]

/-- A mask with one bit set or cleared. -/
theorem getLsbD_setBit {w : Nat} (x : BitVec w) (p j : Fin w) (b : Bool) :
    (if b then x ||| BitVec.ofNat w (2 ^ p.val) else x &&& ~~~ BitVec.ofNat w (2 ^ p.val)).getLsbD j = if j = p then b else x.getLsbD j := by
  have hset : (x ||| BitVec.ofNat w (2 ^ p.val)).getLsbD j = (x.getLsbD j || decide (p = j)) := by
    rw [BitVec.getLsbD_or, getLsbD_bitMask]
  have hclear : (x &&& ~~~ BitVec.ofNat w (2 ^ p.val)).getLsbD j = (x.getLsbD j && !decide (p = j)) := by
    rw [BitVec.getLsbD_and, BitVec.getLsbD_not, getLsbD_bitMask]
    simp
  obtain rfl | h := eq_or_ne p j
  · cases b
    · simpa using hclear
    · simpa using hset
  · cases b
    · simpa [h, h.symm] using hclear
    · simpa [h, h.symm] using hset

/-! ## Bookkeeping of pairs and sources -/

theorem State.updPair_pair (s : State) (n : Nat) (f : PairSt → PairSt) : (s.updPair n f).pair n = f (s.pair n) := tabGet_tabUpd_same ..

theorem State.updSrc_src (s : State) (n : Nat) (f : SrcSt → SrcSt) : (s.updSrc n f).src n = f (s.src n) := tabGet_tabUpd_same ..

theorem State.pair_of_pairs {s t : State} (h : t.pairs = s.pairs) (n : Nat) : t.pair n = s.pair n := by
  unfold State.pair
  rw [h]

/-- The state of the pulse engine is apart from the sources' bookkeeping. -/
theorem State.startedSrc (s : State) (n v : Nat) (f : SrcSt → SrcSt) (p : PulseSt) :
    ({ (s.updSrc n f).putBoth TPS_n_LAST_UPDATE v n with pulse := p } : State).src n = f (s.src n) := s.updSrc_src n f

theorem State.grantedSrc (s : State) (n v : Nat) (f : SrcSt → SrcSt) (c : Chan) (l : Lane) :
    (((s.updSrc n f).putBoth TPS_n_STAT_ACTIVE v n).sent c l).src n = f (s.src n) := s.updSrc_src n f

/-! ## The end of WIDTH -/

/-- Judged pins that all read low raise nothing and move no phase (R89). -/
theorem State.judgeAll_low (a b : PulseObs) (l : List Nat) (s : State)
    (h : ∀ p ∈ l, s.pulse.judged.getLsbD p = true → a.lowEnd.getLsbD p = true ∧ b.lowEnd.getLsbD p = true) :
    (l.foldl (fun s p => s.judgeWidth a b p) s).pulse.phase = s.pulse.phase ∧ (l.foldl (fun s p => s.judgeWidth a b p) s).fc = s.fc := by
  induction l generalizing s with
  | nil => exact ⟨rfl, rfl⟩
  | cons p l ih =>
    obtain ⟨hphase, hjudged, hfc⟩ := s.judgeWidth_low a b p (h p (List.mem_cons_self ..))
    obtain ⟨hphase', hfc'⟩ := ih (s.judgeWidth a b p) fun q hq hj => h q (List.mem_cons_of_mem _ hq) (hjudged ▸ hj)
    exact ⟨hphase'.trans hphase, hfc'.trans hfc⟩

/-! ## Fast kills -/

theorem twoAt_twoUpd_other {α : Type} (t : Two α) (c : Chan) (f : α → α) : twoAt (twoUpd t c f) (otherChan c) = twoAt t (otherChan c) := by
  cases c <;> rfl

theorem State.updDie_die (s : State) (c : Chan) (f : Die → Die) : twoAt (s.updDie c f).die c = f (twoAt s.die c) := twoAt_twoUpd_same ..

/-- Freeing held switches leaves the pairs that have fired (R28). -/
theorem State.fkFree_fkFired (s : State) (c : Chan) : (twoAt (s.fkFree c).die c).fkFired = (twoAt s.die c).fkFired := by
  unfold State.fkFree
  rw [State.showKill_die, State.updDie_die]

/-! ## The words of R100 -/

/-- The image's check value is another register than the die's. -/
theorem State.fkImage_put (s : State) (v : Nat) (c : Chan) : (s.put SIN_FK_CRC_DIE_CRC v c).get SIN_FK_CRC_IMG_CRC c = s.get SIN_FK_CRC_IMG_CRC c :=
  State.get_put_addr _ _ _ _ _ _ _ _ (by cases c <;> decide)

/-- Settles O26: the faults latch in the collectors of their event; pulses and kills change the bookkeeping of their source or die, which what follows leaves alone. -/
theorem safeInputs : Obligations.SafeInputs := by
  refine ⟨fun c p v s hp => ?filter, fun n s hq hd => ?discrepancy, fun p s hq hm hs => ?comparator, fun n u s hd hu he => ?due, fun high k s hi hd hk => ?grant,
    fun u s hp hc => ?start, fun a b s hp hl => ?widthGood, fun a b s hp hq => ?widthBad, fun high s hp => ?settle, fun n s hu hp hq => ?lowIdle,
    fun c n y s hp hf hb => ?fire, fun c n s hf hx hy => ?release, fun c s hq hc => ?crcBad, fun c s hc => ?crcGood⟩
  case filter =>
    refine .intro (congrArg Host.Outcome.next (if_pos hp)) ?_
    dsimp only
    rw [twoAt_twoSet_same]
    refine ⟨?_, fun j hj => ?_⟩
    · rw [getLsbD_setBit, if_pos rfl]
    · rw [getLsbD_setBit, if_neg hj]
  case discrepancy =>
    refine .intro (congrArg Host.Outcome.next (if_pos hd)) ⟨?_, ?_, ?_⟩
    · exact State.raise_latched _ .a _ (.inl (State.quiet_keep (by simp [State.updPair]) hq)) (.inl rfl)
    · exact State.raise_latched _ .b _ (.inl (State.quiet_keep (by simp [State.updPair]) hq)) (.inl rfl)
    · have hpairs : ∀ (u : State) (f : PairSt → PairSt) (v : Nat) (e : FaultEv), (((u.updPair n f).putBoth SIN_PAIR_STATE_RELEASED v).raise e).pair n = f (u.pair n) := fun u f v e =>
        (State.pair_of_pairs (by simp) _).trans (u.updPair_pair n f)
      rw [hpairs]
  case comparator =>
    refine .intro (congrArg Host.Outcome.next (if_pos ⟨hm, hs⟩)) ⟨?_, ?_⟩
    · exact State.raise_latched _ .a _ (.inl (State.quiet_keep (by simp) hq)) (.inl rfl)
    · exact State.raise_latched _ .b _ (.inl (State.quiet_keep (by simp) hq)) (.inl rfl)
  case due =>
    refine .intro (congrArg Host.Outcome.next (if_pos ?_)) ?_
    · have he' : State.srcExpiry { s with now := max s.now u } n ≤ max s.now u := he
      have hd' : State.dual { s with now := max s.now u } = true := hd
      have hu' : State.srcUsed { s with now := max s.now u } n = true := hu
      simp [he', hd', hu']
    · rw [State.updSrc_src]
  case grant =>
    refine .of_next rfl fun t ht => ?_
    change execTestPulseTokenGrant high s = .next t at ht
    unfold execTestPulseTokenGrant at ht
    rw [if_pos ⟨hi, hd⟩, hk] at ht
    cases ht
    refine ⟨rfl, rfl, rfl, rfl, rfl, ?_⟩
    dsimp only
    rw [State.grantedSrc]
  case start =>
    refine .intro (congrArg Host.Outcome.next (if_pos ⟨hp, hc⟩)) ⟨rfl, ?_, ?_⟩
    · dsimp only
      rw [State.startedSrc]
    · dsimp only
      rw [State.startedSrc]
      simp
  case widthGood =>
    refine .intro (congrArg Host.Outcome.next (if_pos hp)) ?_
    exact State.judgeAll_low a b _ _ fun p hp' hj => hl ⟨p, List.mem_range.mp hp'⟩ hj
  case widthBad =>
    refine .intro (congrArg Host.Outcome.next (if_pos hp)) ⟨?_, ?_⟩
    · exact State.sourceFault_latched _ _ .a (State.quiet_keep (by simp) hq)
    · exact State.sourceFault_latched _ _ .b (State.quiet_keep (by simp) hq)
  case settle =>
    refine .intro (congrArg Host.Outcome.next (if_pos hp)) ?_
    rw [State.pushRec_rest]
  case lowIdle =>
    refine .intro (congrArg Host.Outcome.next (if_pos ?_)) ⟨?_, ?_⟩
    · obtain hp | hp := hp <;> simp [hu, hp]
    · exact State.sourceFault_latched _ _ .a (State.quiet_keep (by simp) hq)
    · exact State.sourceFault_latched _ _ .b (State.quiet_keep (by simp) hq)
  case fire =>
    refine .intro (congrArg Host.Outcome.next (if_pos ?_)) ?_
    · simp [hp, hf, hb]
    · rw [State.settle_die, State.showFk_die, State.kill_die, twoAt_twoUpd_same]
      refine ⟨rfl, ?_, twoAt_twoUpd_other _ c _⟩
      dsimp only
      rw [BitVec.getLsbD_or, getLsbD_bitMask]
      simp
  case release =>
    refine .intro (congrArg Host.Outcome.next (if_pos ?_)) ?_
    · simp [hf, hx, hy]
    · have hfired : ∀ f : Die → Die, (twoAt ((s.updDie c f).fkFree c).showFk.die c).fkFired = (f (twoAt s.die c)).fkFired := fun f => by
        rw [State.showFk_die, State.fkFree_fkFired, State.updDie_die]
      rw [hfired, BitVec.getLsbD_and, BitVec.getLsbD_not, getLsbD_bitMask]
      simp
  case crcBad =>
    refine .intro (congrArg Host.Outcome.next (if_neg ?_)) ?_
    · rw [State.fkImage_put]
      exact hc
    · exact State.raise_latched _ c _ (.inl (State.quiet_keep (by simp) hq)) (.inl rfl)
  case crcGood =>
    refine .intro (congrArg Host.Outcome.next (if_pos ?_)) ⟨rfl, rfl⟩
    rw [State.fkImage_put]
    exact hc

end Sys2Proof.Machine
end

section
/-! The times and checks of a monitored stop (R24, R164 to R169, R178, R434). -/

namespace Sys2Proof.Machine

open Sys2Proof

theorem State.furlBy_die (s : State) (k : Nat) : (s.furlBy k).die = s.die := State.updStops_die _ s

/-- An expired Furl timer holds its die's STO and brake switches open, whatever else it held (R165, R166). -/
theorem State.furlExpire_die (s : State) (c : Chan) :
    (s.furlExpire c).die = twoUpd s.die c (fun d => { d with heldFurl := d.heldFurl ||| (s.stoMap c ||| s.brakeMap c), furl := { d.furl with armed := false, expired := true } }) := by
  have hshow : ∀ u : State, u.showFurl.die = u.die := fun u => rfl
  unfold State.furlExpire
  rw [hshow, State.kill_die]

theorem State.furlImage_put (s : State) (v : Nat) (c : Chan) : (s.put DSF_FURL_CRC_DIE_CRC v c).get DSF_FURL_CRC_IMG_CRC c = s.get DSF_FURL_CRC_IMG_CRC c :=
  State.get_put_addr _ _ _ _ _ _ _ _ (by cases c <;> decide)

/-- Settles O32: a stop changes in every participant alike (R222), and a hold taken by a die outlives the settling that follows. -/
theorem monitoredStops : Obligations.MonitoredStops := by
  refine ⟨fun c s hr ha hf hm hok hc => ?complete, fun c w s hr ha hf hm ht hc => ?timed, fun w s hq hr ha hc hf hm hp ht => ?exceeded, fun c w s ho ht hc => ?overlap,
    fun c w s ha he ht hcmd => ?furl, fun c w s hq ha he ht hh hcmd => ?furlCommanded, fun c s hh ha => ?armRelease, fun c s hq hc => ?crc,
    fun c w s hp hs hd ht => ?watchdog⟩
  case complete =>
    have hall : s.parts.all (fun d => decide (3 ≤ (twoAt s.stop d).slow) || s.flag LC_STATUS_STANDSTILL d) = true :=
      List.all_eq_true.mpr fun d hd => by simpa using hok d hd
    refine .intro (congrArg Host.Outcome.next (if_pos ⟨hr, ha, hf, hm, hall⟩)) ?_
    rw [State.updStops_at _ _ _ hc]
  case timed =>
    refine .intro (congrArg Host.Outcome.next (if_pos ⟨hr, ha, hf, hm, ht⟩)) ?_
    rw [State.updStops_at _ _ c (show c ∈ State.parts { s with now := max s.now w } from hc)]
  case exceeded =>
    refine .intro (congrArg Host.Outcome.next (if_pos ⟨hr, ha, hc, hf, hm, hp, ht⟩)) ⟨?_, ?_⟩
    · exact State.faulted_keep (State.furlBy_fcv _ _) (State.raiseOnce_latched _ .a _ (.inl hq) (.inl rfl))
    · exact State.faulted_keep (State.furlBy_fcv _ _) (State.raiseOnce_latched _ .b _ (.inl hq) (.inl rfl))
  case overlap =>
    refine .intro (congrArg Host.Outcome.next (if_pos ⟨ho, ht⟩)) ?_
    rw [State.updStops_at _ _ c (show c ∈ State.parts { s with now := max s.now w } from hc)]
  case furl =>
    refine .intro (congrArg Host.Outcome.next ((if_pos ⟨ha, he, ht⟩).trans (if_neg (Bool.eq_false_iff.mp hcmd)))) ?_
    rw [State.settle_die, State.furlBy_die, State.furlExpire_die, twoAt_twoUpd_same]
    exact ⟨rfl, rfl⟩
  case furlCommanded =>
    have hcmd' : (!(twoAt s.die c).holding && ((twoAt s.die c).cmd &&& s.stoMap c) != 0) = true := by
      simpa [hh] using hcmd
    refine .intro (congrArg Host.Outcome.next ((if_pos ⟨ha, he, ht⟩).trans (if_pos hcmd'))) ?_
    refine State.raiseOnce_latched _ c _ (.inl (State.quiet_keep ?_ hq)) (.inr rfl)
    simp
  case armRelease =>
    refine .intro (congrArg Host.Outcome.next (if_pos ⟨hh, ha⟩)) ?_
    rw [State.settle_die, State.showKill_die]
    cases c <;> exact ⟨rfl, rfl, rfl, rfl⟩
  case crc =>
    refine .intro (congrArg Host.Outcome.next (if_neg ?_)) ?_
    · rw [State.furlImage_put, State.get_put_same _ _ _ _ _ (by decide)]
      exact hc
    · exact State.raise_latched _ c _ (.inl (State.quiet_keep (by simp) hq)) (.inr rfl)
  case watchdog =>
    refine .intro (congrArg Host.Outcome.next (if_pos ⟨hp, hs, hd, ht⟩)) ?_
    have hends : ∀ (u : State) (p : Prop) [Decidable p], (twoAt (if p then u.endStops 8 else u).die c).heldWd = (twoAt u.die c).heldWd := fun u p _ => by
      split
      · exact u.endStops_heldWd 8 c
      · rfl
    have hdisarm : ∀ (u : State) (p : Prop) [Decidable p], (twoAt (if p then u else (u.disarmFurl c).showFurl).die c).heldWd = (twoAt u.die c).heldWd := fun u p _ => by
      split
      · rfl
      · exact u.disarmFurl_heldWd c c
    rw [State.settle_die, hends, hdisarm, State.kill_die, twoAt_twoUpd_same]

end Sys2Proof.Machine
end

section
/-! The events of the guard cycle (R21, R96, R127, R130, R140, R144, R189, R216). -/

namespace Sys2Proof.Machine

open Sys2Proof

theorem State.Same.graph {t s : State} (h : State.Same t s) : t.graph = s.graph := by
  obtain ⟨-, -, -, -, -, -, -, -, -, -, -, -, -, -, -, -, -, -, -, -, hg, -⟩ := h
  exact hg

/-! ## The boundary and the snapshot -/

/-- What goes out at a boundary begins a new cycle in both graphs and changes nothing else of them. -/
theorem State.boundarySend_graph (s : State) (a b : DieObs) : (s.boundarySend a b).graph = twoMap s.graph GraphSt.newCycle := by
  unfold State.boundarySend
  dsimp only
  split
  · simp
  · split <;> simp

theorem State.freeze_ae (s : State) (t : Nat) : (s.freeze t).ae = twoMap s.ae (fun a => { a with winSnap := a.win }) := by
  unfold State.freeze
  simp

theorem twoAt_twoMap {α β : Type} (t : Two α) (f : α → β) (c : Chan) : twoAt (twoMap t f) c = f (twoAt t c) := by
  cases c <;> rfl

/-! ## Snapshot frames -/

theorem State.updGraph_at (s : State) (c : Chan) (f : GraphSt → GraphSt) : twoAt (s.updGraph c f).graph c = f (twoAt s.graph c) := twoAt_twoUpd_same ..

/-! ## Evaluation -/

/-- What follows an evaluation leaves both graphs alone. -/
theorem State.afterEval_graph (s : State) (old new : List (Nat × Nat)) (c : Chan) : (((s.raiseBlocks old new).clearEdm c).edges c).settle.graph = s.graph := by
  simp

/-- After an evaluation the graphs are as the channels that evaluated left them. -/
theorem execGraphEvaluation_graph (a b : Nat) (c : Chan) (r : List Chan) (s t : State) (hc : s.cycles = true) (hg : s.graphRuns = true) (hp : s.parts.filter s.evaluates = c :: r)
    (h : execGraphEvaluation a b s = .next t) : ∃ us, t.graph = (s.evalAll (c :: r) us).graph := by
  unfold execGraphEvaluation at h
  rw [if_pos (by simp [hc, hg]), hp] at h
  cases h
  exact ⟨_, State.afterEval_graph _ _ _ _⟩

/-! ## Feedback contacts -/

/-- Events raised one after the other are each held, and close no window. -/
theorem State.raiseAll_latched {α : Type} (ev : α → FaultEv) (l : List α) (s : State) (c : Chan) (x : α) (hx : x ∈ l) (hto : (ev x).to c) (hq : s.quiet) :
    (l.foldl (fun s y => s.raise (ev y)) s).faulted c (ev x).latch := by
  have hmono : ∀ (l : List α) (s : State) (k : Latch), s.faulted c k → (l.foldl (fun s y => s.raise (ev y)) s).faulted c k := fun l => by
    induction l with
    | nil => exact fun s k h => h
    | cons y l ih => exact fun s k h => ih _ k (s.raise_mono c (ev y) k h)
  induction l generalizing s with
  | nil => cases hx
  | cons y l ih =>
    obtain rfl | hx := List.mem_cons.mp hx
    · exact hmono l _ _ (s.raise_latched c (ev x) (.inl hq) hto)
    · exact ih _ hx ((s.raise_quiet (ev y)).mpr hq)

/-- Settles O47: a cycle begins in both graphs at once, the snapshot freezes both windows, and an evaluation is followed only by what leaves the graphs alone. -/
theorem guardCycle : Obligations.GuardCycle := by
  refine ⟨fun w a b c s hc => ?boundary, fun w app c s hc => ?snapshot, fun c h s hq ha => ?testFailed, fun c h s ha => ?testPassed, fun a b c s hc hg hp => ?evalOne,
    fun a b c s hc hg hp => ?evalBoth, fun n i c r f s hq hn hp hi hl hf => ?edm, fun c s hq => ?graphBad, fun c s => ?graphGood⟩
  case boundary =>
    refine .intro (congrArg Host.Outcome.next (if_pos hc)) ?_
    rw [(State.settle_keeps _).graph, (State.countSleep_keeps _).graph, State.boundarySend_graph, twoAt_twoMap]
    exact ⟨rfl, rfl, rfl⟩
  case snapshot =>
    refine .intro (congrArg Host.Outcome.next (if_pos hc)) ?_
    simp only [State.ite_ae, State.sent_ae, ite_self, State.setInputs_ae, State.aiInputs_ae, State.showHostImage_ae, State.freeze_ae, twoAt_twoMap]
  case testFailed =>
    refine .intro (congrArg Host.Outcome.next (s.receive_accepts c .cycle h true _ ha)) ⟨?_, ?_⟩
    · exact State.raise_latched _ .a _ (.inr rfl) (.inl rfl)
    · exact State.raise_latched _ .b _ (.inr rfl) (.inl rfl)
  case testPassed =>
    refine .intro (congrArg Host.Outcome.next (s.receive_accepts c .cycle h true _ ha)) ?_
    dsimp only
    rw [if_pos rfl, State.updGraph_at]
    rfl
  case evalOne =>
    refine .of_next rfl fun t ht => ?_
    obtain ⟨us, hus⟩ := execGraphEvaluation_graph a b c [] s t hc hg hp ht
    rw [hus]
    exact s.evalAll_one c us
  case evalBoth =>
    refine .of_next rfl fun t ht => ?_
    obtain ⟨us, hus⟩ := execGraphEvaluation_graph a b .a [.b] s t hc hg hp ht
    rw [hus]
    exact s.evalAll_both c us
  case edm =>
    refine .of_next rfl fun t ht => ?_
    change execEdmTimeout n s = .next t at ht
    unfold execEdmTimeout at ht
    simp only [hn, hp] at ht
    rw [if_pos ⟨hi, hl⟩] at ht
    cases ht
    exact ⟨State.raiseAll_latched (fun f => class1Both 30 (.sf f) n.val) _ s .a f hf (.inl rfl) hq,
      State.raiseAll_latched (fun f => class1Both 30 (.sf f) n.val) _ s .b f hf (.inl rfl) hq⟩
  case graphBad => exact .intro rfl (State.raise_latched _ c _ (.inl hq) (.inr rfl))
  case graphGood => exact .intro rfl ⟨rfl, rfl⟩

end Sys2Proof.Machine
end

section
/-! The faults of the angle engine (R46, R50, R57, R59 to R61): what a fault leaves of the sources, of the angle engines and of the shown flags. -/

namespace Sys2Proof.Machine

open Sys2Proof

/-! ## Angle engines and their sources -/

theorem State.updAe_ae (s : State) (c : Chan) (f : AeSt → AeSt) : twoAt (s.updAe c f).ae c = f (twoAt s.ae c) := twoAt_twoUpd_same ..

theorem State.enc_of_ae {s t : State} (h : t.ae = s.ae) (c : Chan) (n : Nat) : t.enc c n = s.enc c n := by
  unfold State.enc
  rw [h]

theorem State.updEnc_enc (s : State) (c : Chan) (n : Nat) (f : EncSt → EncSt) : (s.updEnc c n f).enc c n = f (s.enc c n) := by
  unfold State.updEnc State.enc
  rw [State.updAe_ae]
  exact tabGet_tabUpd_same ..

/-- An update of an angle engine that leaves its table of sources leaves every source. -/
theorem State.updAe_enc (s : State) (c d : Chan) (n : Nat) (f : AeSt → AeSt) (hf : ∀ a, (f a).enc = a.enc) : (s.updAe c f).enc d n = s.enc d n := by
  unfold State.enc State.updAe
  cases c <;> cases d <;> simp [hf]

theorem State.lose_enc (s : State) (c d : Chan) (n : Nat) : (s.lose c).enc d n = s.enc d n := by
  unfold State.lose
  rw [State.updAe_enc, State.enc_of_ae (State.put_ae ..)]
  exact fun _ => rfl

theorem State.coordFault_enc (s : State) (c d : Chan) (n line detail : Nat) : (s.coordFault c line detail).enc d n = s.enc d n := by
  unfold State.coordFault
  exact (State.enc_of_ae (State.raise_ae ..) d n).trans (State.updAe_enc s c d n _ fun _ => rfl)

theorem State.sourceClass1_enc (s : State) (c d : Chan) (k n : Nat) : (s.sourceClass1 c k).enc d n = s.enc d n := by
  unfold State.sourceClass1
  dsimp only
  rw [State.coordFault_enc, State.enc_of_ae (State.put_ae ..)]
  exact State.updAe_enc s c d n _ fun _ => rfl

theorem State.bothSourcesFault_enc (s : State) (k : Nat) (d : Chan) (n : Nat) : (s.bothSourcesFault k).enc d n = s.enc d n := by
  unfold State.bothSourcesFault
  rw [State.enc_of_ae (State.raise_ae ..), State.lose_enc, State.lose_enc]

/-- Whatever follows from a source fault, the sources stay as the fault has marked them (R60). -/
theorem execSourceFault_enc (c : Chan) (n : Fin 4) (k : SrcFault) (s t : State) (h : execSourceFault c n k s = .next t) (d : Chan) (m : Nat) :
    t.enc d m = ((s.putFlag (srcFaultBit k) true c n).updEnc c n (fun e => { e with faulty := true })).enc d m := by
  have hsent : ∀ u : State, (u.sent c .cycle).enc d m = u.enc d m := fun u => State.enc_of_ae (State.sent_ae ..) d m
  have hexcl : ∀ u : State, (u.putFlag AE_ENC_n_STATUS_EXCLUDED true c n).enc d m = u.enc d m := fun u => State.enc_of_ae (State.putFlag_ae ..) d m
  cases h
  dsimp only
  split
  · split
    · exact hexcl _
    · split
      · rw [State.bothSourcesFault_enc, hexcl]
      · split
        · rw [State.sourceClass1_enc, hsent, hexcl]
        · rw [State.updAe_enc, hsent, hexcl]
          exact fun _ => rfl
  · rfl

theorem execSourceFault_faulty (c : Chan) (n : Fin 4) (k : SrcFault) (s t : State) (h : execSourceFault c n k s = .next t) : (t.enc c n).faulty = true := by
  rw [execSourceFault_enc c n k s t h, State.updEnc_enc]

/-! ## Shown flags -/

theorem srcFaultBit_ok (k : SrcFault) : (srcFaultBit k).ok = true := by
  cases k <;> rfl

/-- The bits of source faults stand apart from the choice of the two sources. -/
theorem srcFaultBit_addr (f : Fld) (hf : f = LC_CFG_PRI_SRC ∨ f = LC_CFG_SEC_SRC) (k : SrcFault) (c : Chan) (n : Fin 4) :
    fldAddr f (blockBase f.blk c) 0 ≠ fldAddr (srcFaultBit k) (blockBase (srcFaultBit k).blk c) n := by
  have hstatus : fldAddr (srcFaultBit k) (blockBase (srcFaultBit k).blk c) n = fldAddr AE_ENC_n_STATUS_EXCLUDED (blockBase .lc c) n := by
    cases k <;> rfl
  rw [hstatus]
  clear hstatus
  revert n
  rcases hf with rfl | rfl <;> cases c <;> decide

/-- A flag of another register than the one written reads as before. -/
theorem State.flag_put_addr (s : State) (f g : Fld) (v : Nat) (c d : Chan) (i j : Nat) (h : fldAddr g (blockBase g.blk d) j ≠ fldAddr f (blockBase f.blk c) i) :
    (s.put f v c i).flag g d j = s.flag g d j := by
  unfold State.flag
  rw [State.get_put_addr _ _ _ _ _ _ _ _ h]

theorem State.lose_quiet {s : State} (c : Chan) (h : s.quiet) : (s.lose c).quiet := State.quiet_keep (State.lose_fcv s c) h

/-- Settles O22: a fault latches in the collectors of its event, and what is raised after the marks of a source or an engine leaves them. -/
theorem angleEngineFaults : Obligations.AngleEngineFaults := by
  refine ⟨fun c n k s hp hs => ?spare, fun c n s hq hh ht => ?unconfirmed, fun c s hq hb hl => ?sources, fun s hq hb hl => ?channels,
    fun c s hq hi => ?implausible, fun c s hq => ?overrun, fun c t s ht => ?standstill, fun c n k s => .of_next rfl fun t h => execSourceFault_faulty c n k s t h⟩
  case spare =>
    have hpri : (s.putFlag (srcFaultBit k) true c n).priSrc c = s.priSrc c := State.get_put_addr _ _ _ _ _ _ _ _ (srcFaultBit_addr _ (.inl rfl) k c n)
    have hsec : (s.putFlag (srcFaultBit k) true c n).secSrc c = s.secSrc c := State.get_put_addr _ _ _ _ _ _ _ _ (srcFaultBit_addr _ (.inr rfl) k c n)
    refine .intro (congrArg Host.Outcome.next (if_neg fun h => h.1.elim (fun e => hp (e.trans hpri)) fun e => hs (e.trans hsec))) ⟨?_, ?_⟩
    · rw [State.updEnc_enc]
    · exact State.flag_putFlag_same s (srcFaultBit k) true c n (srcFaultBit_ok k)
  case unconfirmed =>
    exact .intro (congrArg Host.Outcome.next (if_pos ⟨hh, ht⟩)) (State.raise_latched _ c _ (.inl hq) (.inr rfl))
  case sources =>
    exact .intro (congrArg Host.Outcome.next (if_pos ⟨hb, hl⟩)) (State.raise_latched _ c _ (.inl (State.lose_quiet c hq)) (.inr rfl))
  case channels =>
    have hq' : ((s.lose .a).lose .b).quiet := State.lose_quiet .b (State.lose_quiet .a hq)
    refine .intro (congrArg Host.Outcome.next (if_pos ⟨hb, hl⟩)) ⟨?_, ?_⟩
    · exact State.raise_latched _ .a _ (.inl hq') (.inl rfl)
    · exact State.raise_latched _ .b _ (.inl hq') (.inl rfl)
  case implausible =>
    refine .intro (congrArg Host.Outcome.next (if_pos hi)) ⟨?_, ?_⟩
    · exact State.raise_latched _ c _ (.inl hq) (.inr rfl)
    · unfold State.coordFault
      dsimp only
      rw [State.raise_ae, State.updAe_ae]
  case overrun => exact .intro rfl (State.raise_latched s c _ (.inl hq) (.inr rfl))
  case standstill =>
    have hother : ∀ f : Fld, f = LC_VEL_VEL ∨ f = LC_ACC_ACC → fldAddr LC_STATUS_STANDSTILL (blockBase .lc c) 0 ≠ fldAddr f (blockBase f.blk c) 0 := by
      rintro f (rfl | rfl) <;> cases c <;> decide
    refine .intro (congrArg Host.Outcome.next (if_pos ht)) ?_
    rw [State.updAe_ae]
    refine ⟨rfl, rfl, ?_⟩
    show State.flag (State.put (State.put _ _ _ _) _ _ _) _ _ = true
    rw [State.flag_put_addr _ _ _ _ _ _ _ _ (hother _ (.inr rfl)), State.flag_put_addr _ _ _ _ _ _ _ _ (hother _ (.inl rfl))]
    exact State.flag_putFlag_same _ _ true c 0 (by decide)

end Sys2Proof.Machine
end

section
/-! What cam checks and the Stay frames of coordinates, verdicts and check values do (R59, R60, R73, R215 to R217). -/

namespace Sys2Proof.Machine

open Sys2Proof

theorem State.updStay_at (s : State) (c : Chan) (f : StaySt → StaySt) : twoAt (s.updStay c f).stay c = f (twoAt s.stay c) := twoAt_twoUpd_same ..

/-- The judging of a frame leaves the registers outside the link (R217). -/
theorem State.accepted_get (s : State) (c d : Chan) (l : Lane) (q : Nat) (f : StaySt → StaySt) (g : Fld) (i : Nat) (hb : g.blk ≠ .lks) (hg : g.off + g.stride * i < 0x10000) :
    (((s.updStay c f).put (rxSeqFld l) q c).putFlag (rxOkFld l) true c).get g d i = s.get g d i := by
  have hseq : (rxSeqFld l).blk = .lks ∧ (rxSeqFld l).off + (rxSeqFld l).stride * 0 < 0x10000 := by cases l <;> decide
  have hok : (rxOkFld l).blk = .lks ∧ (rxOkFld l).off + (rxOkFld l).stride * 0 < 0x10000 := by cases l <;> decide
  unfold State.putFlag
  rw [State.get_put_blk _ _ _ _ _ _ _ _ (hok.1 ▸ hb) hok.2 hg, State.get_put_blk _ _ _ _ _ _ _ _ (hseq.1 ▸ hb) hseq.2 hg]
  rfl

/-- Settles O24: an accepted frame acts on its channel's end of Stay, and a wrong check value latches in the collectors of its event. -/
theorem stayFrames : Obligations.StayFrames := by
  refine ⟨fun c s hq hu hc => ?camCheck, fun c h s ha => ?coord, fun c h v s ha => ?verdict, fun c h k s hq ha hk => ?camFrame⟩
  case camCheck =>
    refine .intro (congrArg Host.Outcome.next ((if_neg fun h => hu h.2).trans (if_neg hc))) ?_
    exact State.raise_latched s c _ (.inl hq) (.inr rfl)
  case coord =>
    refine .intro (congrArg Host.Outcome.next (s.receive_accepts c .ae h true _ ha)) ?_
    have hkeep : ∀ (u : State) (v : Nat) (f : AeSt → AeSt), ((u.put LC_XCHK_CH_DIFF v c).updAe c f).stay = u.stay := fun _ _ _ => rfl
    dsimp only
    rw [hkeep, State.updStay_at]
    exact ⟨rfl, rfl⟩
  case verdict =>
    refine .intro (congrArg Host.Outcome.next (s.receive_accepts c .cycle h false _ ha)) ?_
    dsimp only
    rw [if_pos rfl, ← State.view_stay, State.tryDual_view, State.view_stay, State.updStay_at]
  case camFrame =>
    have hget := s.accepted_get c c .cycle h.seq (fun x => withRepeat x .cycle false) CAM_CRC_CRC 0 (by decide) (by decide)
    refine .intro (congrArg Host.Outcome.next ((s.receive_accepts c .cycle h false _ ha).trans (if_neg fun e => hk (e.trans hget)))) ?_
    have hq' : (((s.updStay c (fun x => withRepeat x .cycle false)).put (rxSeqFld .cycle) h.seq c).putFlag (rxOkFld .cycle) true c).quiet :=
      State.quiet_keep (by simp) hq
    exact ⟨State.raise_latched _ .a _ (.inl hq') (.inl rfl), State.raise_latched _ .b _ (.inl hq') (.inl rfl)⟩

end Sys2Proof.Machine
end

section
/-! Reads of the low halves (R75, R341, R342, R350, R395, R437): the word a read returns, and the registers it latches for its initiator. -/

namespace Sys2Proof.Machine

open Sys2Proof

/-- A register with reset word 0 and no read-clear field stands at offset `off` of the block at `base`. -/
def plainReg (b : Block) (base off : Nat) : Bool :=
  decide (placeOf (base + off) = .regs b base) && (base + off) % 4 == 0 && offsetIn b (base + off) == off &&
    (regAt b off).map (fun e => (e.1.rst, e.1.fields.all (fun f => f.acc != .rc))) == some (0, true)

theorem plainReg_reg {b : Block} {base off : Nat} (h : plainReg b base off = true) :
    placeOf (base + off) = .regs b base ∧ (base + off) % 4 = 0 ∧ offsetIn b (base + off) = off ∧
      ∃ d, (regAt b off).map (·.1) = some d ∧ d.rst = 0 ∧ d.fields.all (fun f => f.acc != .rc) = true := by
  simp only [plainReg, Bool.and_eq_true, decide_eq_true_eq, beq_iff_eq] at h
  obtain ⟨⟨⟨hplace, halign⟩, hoff⟩, hreg⟩ := h
  obtain ⟨e, he, hd⟩ := Option.map_eq_some_iff.mp hreg
  obtain ⟨hrst, hrc⟩ := Prod.mk.inj hd
  exact ⟨hplace, halign, hoff, e.1, by rw [he]; rfl, hrst, hrc⟩

/-- A read of a register that latches others: its word `w`, and each of the latched registers `m` with its value. -/
theorem State.busRead_latching (s : State) (i : Initiator) {b : Block} {base off w : Nat} {m : LatchMap}
    (hfw : s.fwAllows i .read (base + off) (base + off + 3) = true) (hreg : plainReg b base off = true) (hw : ∀ d, d.rst = 0 → (s.catchUp b base).readReg i b off (base + off) d = w)
    (hm : (s.catchUp b base).latchesOf b base off = m) (hn : (m.map (·.1)).Nodup) :
    (s.busRead i (base + off)).bus = .data w ∧ ∀ e ∈ m, (s.busRead i (base + off)).latched i 0 e.1 = e.2 := by
  obtain ⟨hplace, halign, hoff, d, hd, hrst, -⟩ := plainReg_reg hreg
  have hm' : (s.catchUp b base).latchesOf b (base + off - off) off = m := by rw [Nat.add_sub_cancel, hm]
  obtain ⟨hbus, hlatch⟩ := s.busRead_latch i _ base off b d hfw hplace halign hoff hd (hm'.symm ▸ hn)
  rw [hm'] at hlatch
  exact ⟨hbus.trans (congrArg BusAns.data (hw d hrst)), fun e he => hlatch e he 0⟩

/-- A latching read of a block whose latches are the live words at the offsets `l` (R75, R395). -/
theorem State.busRead_live (s : State) (i : Initiator) {b : Block} {base off : Nat} {l : List Nat}
    (hfw : s.fwAllows i .read (base + off) (base + off + 3) = true) (hreg : plainReg b base off = true) (hc : s.catchUp b base = s)
    (hw : ∀ d, s.readReg i b off (base + off) d = s.word d.rst (base + off)) (hm : s.latchesOf b base off = s.liveMap base l) (hn : l.Nodup) :
    (s.busRead i (base + off)).bus = .data (s.word 0 (base + off)) ∧ ∀ o ∈ l, (s.busRead i (base + off)).latched i 0 (base + o) = s.word 0 (base + o) := by
  obtain ⟨hbus, hlatch⟩ := s.busRead_latching i hfw hreg (by rw [hc]; exact fun d hd => hd ▸ hw d) (by rw [hc]; exact hm) (s.liveMap_nodup base l hn)
  exact ⟨hbus, fun o ho => hlatch (base + o, s.word 0 (base + o)) (List.mem_map_of_mem ho)⟩

theorem State.latchesOf_crcResult (s : State) (base : Nat) :
    s.latchesOf .crc base 0x14 = [(base + 0x18, (tabGet ({} : CrcSt) s.crcs (crcKey base)).hi), (base + 0x1C, (tabGet ({} : CrcSt) s.crcs (crcKey base)).last)] := rfl

theorem State.latchesOf_aon (s : State) (base : Nat) : s.latchesOf .pwr base 0x30 = [(base + 0x34, s.aonCount / 2 ^ 32)] := rfl

/-- R437: both halves of the AON counter are of one moment. -/
theorem State.busRead_aon (s : State) (i : Initiator) (hfw : s.fwAllows i .read (blockBase .pwr .a + 0x30) (blockBase .pwr .a + 0x30 + 3) = true) :
    (s.busRead i (blockBase .pwr .a + 0x30)).bus = .data (s.aonCount % 2 ^ 32) ∧ (s.busRead i (blockBase .pwr .a + 0x30)).latched i 0 (blockBase .pwr .a + 0x34) = s.aonCount / 2 ^ 32 := by
  have hc : s.catchUp .pwr (blockBase .pwr .a) = s := rfl
  obtain ⟨hbus, hlatch⟩ := s.busRead_latching i (b := .pwr) (w := s.aonCount % 2 ^ 32) hfw (by decide +kernel) (fun _ _ => by rw [hc]; rfl) (s.latchesOf_aon _) (by simp)
  exact ⟨hbus, hlatch _ (List.mem_singleton_self _)⟩

/-! ## Timers -/

theorem State.catchUp_tim (s : State) (u : Unit3) : s.catchUp .tim (timBase u) = s.advance u := by
  cases u <;> rfl

/-- A fold that keeps or appends each element keeps their order. -/
theorem foldl_append_sublist {α : Type} (f : List α → α → List α) (h : ∀ acc x, f acc x = acc ∨ f acc x = acc ++ [x]) (l acc : List α) : (l.foldl f acc).Sublist (acc ++ l) := by
  induction l generalizing acc with
  | nil => simp
  | cons x l ih =>
    rw [List.foldl_cons]
    rcases h acc x with e | e
    · rw [e]
      exact (ih acc).trans (List.Sublist.append_left (List.sublist_cons_self x l) acc)
    · rw [e]
      simpa using ih (acc ++ [x])

/-- Each timer of a chain stands in it once (R341). -/
theorem State.clockedBy_nodup (s : State) (base t : Nat) : (s.clockedBy base t).Nodup := by
  refine List.Sublist.nodup (foldl_append_sublist _ (fun acc x => ?_) (List.range 8) []) List.nodup_range
  split
  · exact .inr rfl
  · exact .inl rfl

theorem State.latchesOf_timCount (s : State) (base : Nat) (k : Fin 8) :
    s.latchesOf .tim base (0x20 * k.val + 4) = (s.clockedBy base k).map (fun j => (base + 0x20 * j + 8, s.getAt TIM_TM_t_COUNT_COUNT base j)) := by
  unfold State.latchesOf
  dsimp only
  rw [if_pos (by omega), show (0x20 * k.val + 4) / 0x20 = k by omega]

theorem State.readReg_tim (s : State) (i : Initiator) (off a : Nat) (d : RegDesc) (h : off % 0x20 ≠ 8) : s.readReg i .tim off a d = s.word d.rst a := by
  unfold State.readReg
  exact if_neg (by simp [isLatched, h])

theorem plainReg_tim (u : Unit3) (k : Fin 8) : plainReg .tim (timBase u) (0x20 * k.val + 4) = true ∧ plainReg .tim (timBase u) (0x20 * k.val + 0xC) = true := by
  revert k
  cases u <;> decide +kernel

/-- R341: reading the count of a timer latches the counts of the timers it clocks, all as they stand at the read. -/
theorem State.busRead_timCount (s : State) (i : Initiator) (u : Unit3) (k : Fin 8) (hfw : s.fwAllows i .read (timBase u + (0x20 * k.val + 4)) (timBase u + (0x20 * k.val + 4) + 3) = true) :
    (s.busRead i (timBase u + (0x20 * k.val + 4))).bus = .data ((s.advance u).word 0 (timBase u + (0x20 * k.val + 4))) ∧
      ∀ j ∈ (s.advance u).clockedBy (timBase u) k, (s.busRead i (timBase u + (0x20 * k.val + 4))).latched i 0 (timBase u + 0x20 * j + 8) = (s.advance u).getAt TIM_TM_t_COUNT_COUNT (timBase u) j := by
  have hkeys : (((s.advance u).latchesOf .tim (timBase u) (0x20 * k.val + 4)).map (·.1)).Nodup := by
    rw [State.latchesOf_timCount, List.map_map]
    exact ((s.advance u).clockedBy_nodup _ _).map fun x y hxy => by
      simp only [Function.comp] at hxy
      omega
  obtain ⟨hbus, hlatch⟩ := s.busRead_latching i hfw (plainReg_tim u k).1
    (fun d hd => by rw [State.readReg_tim _ _ _ _ _ (by omega), hd, State.catchUp_tim]) (by rw [State.catchUp_tim]) hkeys
  rw [State.latchesOf_timCount] at hlatch
  exact ⟨hbus, fun j hj => hlatch _ (List.mem_map_of_mem hj)⟩

/-- R342: reading the capture of a timer clears its CAP_FULL. -/
theorem State.busRead_timCap (s : State) (i : Initiator) (u : Unit3) (k : Fin 8) (hfw : s.fwAllows i .read (timBase u + (0x20 * k.val + 0xC)) (timBase u + (0x20 * k.val + 0xC) + 3) = true) :
    (s.busRead i (timBase u + (0x20 * k.val + 0xC))).bus = .data ((s.advance u).word 0 (timBase u + (0x20 * k.val + 0xC))) ∧
      (s.busRead i (timBase u + (0x20 * k.val + 0xC))).getAt TIM_TM_t_STATUS_CAP_FULL (timBase u) k = 0 := by
  obtain ⟨hplace, halign, hoff, d, hd, hrst, hrc⟩ := plainReg_reg (plainReg_tim u k).2
  have hcap : ∀ v : State, v.readCap .tim (timBase u) (0x20 * k.val + 0xC) = v.putAt TIM_TM_t_STATUS_CAP_FULL 0 (timBase u) k := fun v => by
    unfold State.readCap
    dsimp only
    rw [if_pos (by omega), show (0x20 * k.val + 0xC) / 0x20 = k by omega]
  rw [s.busRead_reg i _ _ _ hfw hplace halign]
  unfold State.readAt
  dsimp only
  rw [hoff, hd, State.catchUp_tim]
  dsimp only
  rw [if_pos rfl, State.clearRc_none _ _ d hrc, hcap, State.readReg_tim _ _ _ _ _ (by omega), hrst]
  exact ⟨rfl, fldGet_fldPut_same _ _ _ _ _ (by decide)⟩

/-- Settles O54: each low half stands where its command reads it, and answers with its word and its latches; a timer is read through its block, brought up to the read. -/
theorem registerReads : Obligations.RegisterReads := by
  refine ⟨fun i c s h => .intro rfl ?position, fun i c s h => .intro rfl ?origin, fun i s h => .intro rfl ?mirror, fun i u s h => .intro rfl ?check, fun i t0 s h => .intro rfl ?aon,
    fun i u k t0 s h => .intro rfl ?count, fun i u k s h => .intro rfl ?capture⟩
  case position => exact s.busRead_live i (b := .lc) h (by cases c <;> decide +kernel) rfl (fun _ => rfl) rfl (by decide)
  case origin => exact s.busRead_live i (b := .lc) h (by cases c <;> decide +kernel) rfl (fun _ => rfl) rfl (by decide)
  case mirror => exact s.busRead_live i (b := .mzw) h (by decide +kernel) rfl (fun _ => rfl) rfl (by decide)
  case check =>
    obtain ⟨hbus, hlatch⟩ := s.busRead_latching i (b := .crc) h (by cases u <;> decide +kernel) (fun d hd => congrArg (State.word s · _) hd) (s.latchesOf_crcResult _) (by simp)
    exact ⟨hbus, hlatch _ (List.mem_cons_self ..), hlatch _ (List.mem_cons_of_mem _ (List.mem_cons_self ..))⟩
  case aon => exact State.busRead_aon { s with now := max s.now t0 } i h
  case count => exact State.busRead_timCount { s with now := max s.now t0 } i u k h
  case capture => exact s.busRead_timCap i u k h

end Sys2Proof.Machine
end

section
/-! What messages and faults do at the networks (R63, R190, R224 to R229, R244, R251): clocks, policing, the switch, the links and the master angle. -/

namespace Sys2Proof.Machine

open Sys2Proof

/-! ## Clocks and networks -/

theorem State.ptpSt_of_ptp {s t : State} (h : t.ptp = s.ptp) (n : Net) : t.ptpSt n = s.ptpSt n := by
  unfold State.ptpSt
  rw [h]

theorem State.updPtp_ptpSt (s : State) (n : Net) (f : PtpSt → PtpSt) : (s.updPtp n f).ptpSt n = f (s.ptpSt n) := twoAt_twoUpd_same ..

/-- Showing a clock leaves it. -/
theorem State.showPtp_ptpSt (s : State) (n m : Net) : (s.showPtp n).ptpSt m = s.ptpSt m := State.ptpSt_of_ptp rfl m

theorem State.putN_ptpSt (s : State) (f : Fld) (v : Nat) (n m : Net) : (s.putN f v n).ptpSt m = s.ptpSt m := State.ptpSt_of_ptp rfl m

theorem State.updNet_netSt (s : State) (n : Net) (f : NetSt → NetSt) : (s.updNet n f).netSt n = f (s.netSt n) := twoAt_twoUpd_same ..

/-- R226: a frame within the limit of its second is acted on, in the state that counts it. -/
theorem State.police_within (s : State) (n : Net) (h : (s.netSt n).polSec ≠ s.now / 1000000000 ∨ (s.netSt n).polCount < 4000) :
    ∃ v : State, (∀ f, s.police n f = f v) ∧ v.regs = s.regs ∧ v.now = s.now ∧ v.ptp = s.ptp ∧ v.ae = s.ae ∧ (v.netSt n).masterSeq = (s.netSt n).masterSeq := by
  refine ⟨_, fun f => if_pos ?_, rfl, rfl, rfl, rfl, ?_⟩
  · split
    · exact h.resolve_left (not_not.mpr ‹_›)
    · decide
  · rw [State.updNet_netSt]

/-- A bit of one of the network's registers reads back as written. -/
theorem State.getN_putN_same (s : State) (f : Fld) (b : Bool) (n : Net) (h : f.ok = true) (hw : f.hi = f.lo) : (s.putN f b.toNat n).getN f n = b.toNat := by
  unfold State.getN State.putN
  rw [State.get_put_same _ _ _ _ _ h, hw, Nat.add_sub_cancel_left]
  cases b <;> rfl

/-- Another bit of the status register reads as before. -/
theorem State.getN_putN_bits (s : State) (f g : Fld) (v : Nat) (n : Net) (hf : f.ok = true) (hb : g.blk = f.blk) (ho : g.off = f.off) (hs : g.stride = f.stride) (hr : g.rst = f.rst)
    (h : g.hi < f.lo ∨ f.hi < g.lo) : (s.putN f v n).getN g n = s.getN g n :=
  State.get_put_bits s f g v .a _ hf hb ho hs hr h

/-! ## The switch -/

/-- An address that no entry names is found in no part of the table. -/
theorem find_none_of_filter {α : Type} (l : List (Nat × α)) (p : Nat × α → Bool) (k : Nat) (h : ∀ e ∈ l, e.1 ≠ k) : (l.filter p).find? (fun e => e.1 == k) = none :=
  List.find?_eq_none.mpr fun e he => by simpa using h e (List.mem_of_mem_filter he)

/-! ## Faults -/

/-- A Class 0 event of a shared block is held by both collectors (R190). -/
theorem State.raiseOnce_class0 (s : State) (line detail : Nat) (c : Chan) (hq : s.quiet) : (s.raiseOnce (class0 line detail)).faulted c ⟨line, 0, .shared, .none⟩ :=
  State.raiseOnce_latched s c _ (.inl hq) (.inl rfl)

/-- Settles O29: a message changes the clock or the tables of its own network, and a fault of a network latches E51 in both collectors. -/
theorem networks : Obligations.Networks := by
  refine ⟨fun n o w s hr ho hm => ?master, fun n o w s hr ho hs hd hg => ?slave, fun n w s hm hl => ?timeout, fun n w s hs => ?pps,
    fun n p q s he => ?phy, fun n w s hr hp => ?arp, fun n w s hr hp hi => ?icmp, fun n f w s he h1 h2 hb hd hc hu => ?forward,
    fun n f w s he hr hp ha hsrc hcrc hseq hsync hage hm => ?angle, fun n s hq ha h1 h2 => ?link, fun n s hq => ?npe⟩
  case master =>
    have helected : (o.master && State.getN { s with now := max s.now w } NET_n_CFG_PTP_MODE n != 0) = true := by
      simp only [ho, Bool.true_and, bne_iff_ne]
      exact hm
    refine .intro (congrArg Host.Outcome.next (if_pos hr)) ?_
    dsimp only
    rw [State.showPtp_ptpSt, State.updPtp_ptpSt, if_pos helected]
    exact ⟨rfl, rfl, rfl⟩
  case slave =>
    have hslave : ∀ b, ¬ (o.master && b) = true := fun b => by simp [ho]
    refine .intro (congrArg Host.Outcome.next (if_pos hr)) ?_
    dsimp only
    rw [State.showPtp_ptpSt, State.updPtp_ptpSt, if_neg (hslave _), if_pos hs, if_pos hd, State.putN_ptpSt]
    exact ⟨Bool.or_eq_true_iff.mpr (.inr (decide_eq_true (Nat.succ_le_succ hg))), rfl, rfl, rfl⟩
  case timeout =>
    refine .intro (congrArg Host.Outcome.next (if_pos ⟨hm, hl⟩)) ?_
    rw [State.showPtp_ptpSt, State.updPtp_ptpSt]
    exact ⟨rfl, rfl⟩
  case pps =>
    refine .intro (congrArg Host.Outcome.next (if_pos hs)) ?_
    rw [State.updPtp_ptpSt]
  case phy =>
    refine .intro (congrArg Host.Outcome.next (if_pos he)) ⟨?_, ?_⟩
    · rw [State.getN_putN_bits _ NET_n_STATUS_P2_1000 NET_n_STATUS_P1_UP _ n (by decide) rfl rfl rfl rfl (by decide),
        State.getN_putN_bits _ NET_n_STATUS_P2_UP NET_n_STATUS_P1_UP _ n (by decide) rfl rfl rfl rfl (by decide),
        State.getN_putN_bits _ NET_n_STATUS_P1_1000 NET_n_STATUS_P1_UP _ n (by decide) rfl rfl rfl rfl (by decide)]
      exact State.getN_putN_same _ _ _ n (by decide) rfl
    · rw [State.getN_putN_bits _ NET_n_STATUS_P2_1000 NET_n_STATUS_P2_UP _ n (by decide) rfl rfl rfl rfl (by decide)]
      exact State.getN_putN_same _ _ _ n (by decide) rfl
  case arp =>
    obtain ⟨v, hv, -⟩ := State.police_within { s with now := max s.now w } n hp
    refine .intro (congrArg Host.Outcome.next ((if_pos hr).trans (hv _))) ?_
    rw [State.updNet_netSt]
  case icmp =>
    obtain ⟨v, hv, -⟩ := State.police_within { s with now := max s.now w } n hp
    refine .intro (congrArg Host.Outcome.next ((if_pos hr).trans ((if_pos hi).trans (hv _)))) ?_
    rw [State.updNet_netSt]
  case forward =>
    have hswitch : ¬ (State.getN { s with now := max s.now w } NET_n_CFG_EN n = 0 ∨ State.getN { s with now := max s.now w } NET_n_CFG_P1_EN n = 0 ∨
        State.getN { s with now := max s.now w } NET_n_CFG_P2_EN n = 0 ∨ 1522 < f.bytes) := by
      rintro (e | e | e | e)
      exacts [he e, h1 e, h2 e, absurd hb (by omega)]
    have hunknown : ∀ p, ((State.netSt { s with now := max s.now w } n).macs.filter p).find? (fun e => e.1 == f.dst) = none := fun p => find_none_of_filter _ p _ hu
    refine .of_next rfl fun t h => ?_
    change execSwitchFrameForward n f w s = .next t at h
    unfold execSwitchFrameForward at h
    dsimp only at h
    rw [if_neg hswitch, if_neg (by simp [hd]), if_neg (by simp [hc]), hunknown] at h
    cases h
    dsimp only
    rw [State.updNet_netSt]
  case angle =>
    have hopen : (State.flag { s with now := max s.now w } LC_MASTER_CFG_EN .a && State.netReady { s with now := max s.now w } n &&
        State.getN { s with now := max s.now w } NET_n_MASTER_SRC_ADDR n != 0) = true := by
      simp only [Bool.and_eq_true, bne_iff_ne]
      exact ⟨⟨he, hr⟩, ha⟩
    obtain ⟨v, hv, hregs, hnow, hptp, hae, hseq'⟩ := State.police_within { s with now := max s.now w } n hp
    have hclock : v.ptpSt n = s.ptpSt n := State.ptpSt_of_ptp hptp n
    have hget : ∀ (g : Fld) (i : Nat), v.get g .a i = s.get g .a i := fun g i => State.get_of_regs s v hregs g .a i
    have hsrc' : f.srcAddr = v.getN NET_n_MASTER_SRC_ADDR n := hsrc.trans (hget _ _).symm
    have hsync' : v.syncedNet n = true := (congrArg PtpSt.synced hclock).trans hsync
    have hage' : v.netTime n - f.time ≤ 1000000 * v.get NET_MASTER_STALE := by
      unfold State.netTime
      rw [hnow, hclock, hget]
      exact hage
    have hfresh : (v.netSt n).masterSeq = none := hseq'.trans hseq
    have hfirst : v.ae.a.master = none := by rw [hae]; exact hm
    refine .intro (congrArg Host.Outcome.next ((if_pos hopen).trans (hv _))) ?_
    dsimp only
    rw [hfresh, hfirst, if_pos (by simp [hcrc, hsrc', hsync', hage']), if_pos rfl, hclock]
    exact ⟨congrArg NetSt.masterSeq (State.updNet_netSt v n _), rfl, rfl⟩
  case link =>
    refine .intro (congrArg Host.Outcome.next (if_pos ?_)) ⟨s.raiseOnce_class0 _ _ .a hq, s.raiseOnce_class0 _ _ .b hq⟩
    simp [ha, h1, h2]
  case npe =>
    have hq' : (s.putN NET_n_STATUS_NPE_OK 0 n).quiet := State.quiet_keep (by simp) hq
    have hfault : ∀ (u : State) (c : Chan) (l : Latch) (f : PtpSt → PtpSt) (a z : Nat), u.faulted c l → ((((u.openWindow (netNum n)).blockReset a z).updPtp n f).putN NET_n_STATUS_NPE_OK 1 n).faulted c l :=
      fun u c l f a z hl => State.faulted_keep (by simp) (State.openWindow_faulted (netNum n) hl)
    obtain ⟨hwa, hwb⟩ := State.openWindow_mem ((s.putN NET_n_STATUS_NPE_OK 0 n).raiseOnce (class0 51 (257 * 65536 + netNum n))) (netNum n)
    refine .intro rfl ⟨?_, ?_, hwa, hwb, ?_⟩
    · exact hfault _ _ _ _ _ _ (State.raiseOnce_class0 _ _ _ .a hq')
    · exact hfault _ _ _ _ _ _ (State.raiseOnce_class0 _ _ _ .b hq')
    · rw [State.putN_ptpSt, State.updPtp_ptpSt]

end Sys2Proof.Machine
end

section
/-! What leaves the safe inputs, the logic graph and the Stay link alone (R80, R130, R215). -/

namespace Sys2Proof.Machine

open Sys2Proof

/-- Settles O8: the inputs, the pairs, the graph and the Stay link are fields of the view, whose frame `exec_view` gives for every command. -/
theorem safetyFrames : Obligations.SafetyFrames := by
  intro i s t h
  have hv := exec_view i s t h
  refine ⟨fun hi => ?inp, fun hi => ?pairs, fun hi => ?graph, fun hi => ?stay⟩
  case inp => simpa [frameView, hi] using congrArg View.inp hv
  case pairs => simpa [frameView, hi] using congrArg View.pairs hv
  case graph => simpa [frameView, hi] using congrArg View.graph hv
  case stay => simpa [frameView, hi] using congrArg View.stay hv

end Sys2Proof.Machine
end

section
/-! The faults of safe outputs and the phases of their tests (R105, R108, R110, R111, R115, R116). -/

namespace Sys2Proof.Machine

open Sys2Proof

/-! ## What a fault of a unit reaches -/

/-- Time alone opens no window. -/
theorem State.quiet_at {s : State} (hq : s.quiet) (t : Nat) : ({ s with now := t } : State).quiet := hq

theorem State.outFault_both {s : State} (hq : s.quiet) (n line : Nat) (f : Fld) (die : Option Chan) :
    (s.outFault n line f die).faulted .a ⟨line, 1, .shared, .output n⟩ ∧ (s.outFault n line f die).faulted .b ⟨line, 1, .shared, .output n⟩ :=
  ⟨s.outFault_latched n line f die .a hq, s.outFault_latched n line f die .b hq⟩

theorem State.lsFault_both {s : State} (hq : s.quiet) (k : Nat) (f : Fld) :
    (s.lsFault k f).faulted .a ⟨38, 1, .shared, .ls k⟩ ∧ (s.lsFault k f).faulted .b ⟨38, 1, .shared, .ls k⟩ :=
  ⟨s.lsFault_latched k f .a hq, s.lsFault_latched k f .b hq⟩

/-- A line of Class 0 or Class 1 moves no switch and no test. -/
theorem State.raise_die_outs (s : State) (e : FaultEv) (h : e.cls < 2) : (s.raise e).die = s.die ∧ (s.raise e).outs = s.outs := by
  rw [State.raise_rest s e h]
  exact ⟨rfl, rfl⟩

/-- A fault attributed to no die leaves both dies: Class 1 acts in the evaluation that carries it (R193). -/
theorem State.outFault_die (s : State) (n line : Nat) (f : Fld) : (s.outFault n line f none).die = s.die :=
  (State.raise_die_outs _ _ (show 1 < 2 by decide)).1.trans (State.putBoth_die s f 1 n)

theorem State.outFault_outs (s : State) (n line : Nat) (f : Fld) : (s.outFault n line f none).outs = s.outs :=
  (State.raise_die_outs _ _ (show 1 < 2 by decide)).2.trans (State.putBoth_outs s f 1 n)

theorem State.lsFault_die (s : State) (k : Nat) (f : Fld) : (s.lsFault k f).die = s.die := by
  have hmember : ∀ (u : State) (n : Nat), (if u.lsMember k n then u.putBoth SOUT_n_FAULT_LS 1 n else u).die = u.die := fun u n => by
    rw [State.ite_die, State.putBoth_die, ite_self]
  unfold State.lsFault
  exact (State.raise_die_outs _ _ (show 1 < 2 by decide)).1.trans ((State.foldl_die _ _ _ hmember).trans (State.putBoth_die s f 1 k))

theorem State.updOut_out (s : State) (n : Nat) (f : OutSt → OutSt) : (s.updOut n f).out n = f (s.out n) := tabGet_tabUpd_same ..

theorem State.out_of_outs {s t : State} (h : t.outs = s.outs) (n : Nat) : t.out n = s.out n := by
  unfold State.out
  rw [h]

theorem State.updTest_testSt (s : State) (k : Nat) (f : TestSt → TestSt) : (s.updTest k f).testSt k = f (s.testSt k) := tabGet_tabUpd_same ..

/-- The class of an open load is of the image, which its fault bit leaves (R108). -/
theorem State.openClass_putBoth (s : State) (v : Nat) (n : Fin 16) :
    (s.putBoth SOUT_n_FAULT_OPEN_LOAD v n).flag SOUT_n_CFG_OPEN_CLASS .a n = s.flag SOUT_n_CFG_OPEN_CLASS .a n := by
  have hother : ∀ c : Chan, fldAddr SOUT_n_CFG_OPEN_CLASS (blockBase .sout .a) n ≠ fldAddr SOUT_n_FAULT_OPEN_LOAD (blockBase .sout c) n := by
    have hbase : blockBase .sout .a = 0x40040000 ∧ blockBase .sout .b = 0x50040000 := by decide
    intro c
    cases c <;> simp only [fldAddr, hbase, SOUT_n_CFG_OPEN_CLASS, SOUT_n_FAULT_OPEN_LOAD] <;> omega
  unfold State.putBoth
  rw [State.flag_put_addr _ _ _ _ _ _ _ _ (hother .b), State.flag_put_addr _ _ _ _ _ _ _ _ (hother .a)]

/-! ## What a readback shows (R108) -/

theorem notAt_iff (want a b : Level) : notAt want a b = true ↔ a ≠ want ∨ b ≠ want := by
  simp [notAt]

/-- Both switches closed and M not high: the A-switch has failed to close, unless it is in current limit. -/
theorem State.judgeReadback_closed (s : State) (n : Nat) (o : TestObs) (limB : Bool) (ha : (s.closed .a).getLsbD n = true) (hb : (s.closed .b).getLsbD n = true)
    (hm : o.mA ≠ .h ∨ o.mB ≠ .h) : s.judgeReadback n o false limB = s.failedOpen n .a := by
  unfold State.judgeReadback
  simp [ha, hb, (notAt_iff .h o.mA o.mB).mpr hm]

/-- Both switches open, die B's by no kill path, and M not low: the A-switch is stuck closed. -/
theorem State.judgeReadback_open (s : State) (n : Nat) (o : TestObs) (limA limB : Bool) (ha : (s.closed .a).getLsbD n = false) (hb : (s.closed .b).getLsbD n = false)
    (hk : s.die.b.held.getLsbD n = false) (hm : o.mA ≠ .l ∨ o.mB ≠ .l) : s.judgeReadback n o limA limB = s.stuckClosed n .a := by
  unfold State.judgeReadback
  simp [ha, hb, hk, (notAt_iff .l o.mA o.mB).mpr hm]

theorem State.judgeLs_closed (s : State) (k : Nat) (o : TestObs) (hc : s.lsClosed.getLsbD k = true) (hd : o.dA ≠ .l ∨ o.dB ≠ .l) :
    s.judgeLs k o = s.lsFault k SOUT_LS_n_STAT_FAIL_CLOSE := by
  unfold State.judgeLs
  simp [hc, hd]

/-- A switch that its current limit opens aborts a test of its output and stays open (R105). -/
theorem execCurrentLimitOpen_output (c : Chan) (u : Fin 20) (s : State) (hu : u.val < 16) :
    ∃ f, execCurrentLimitOpen c u s =
      .next (((if s.testHits (outBit u) 0 then s.abortTest else s).updDie c (fun d => { d with limitOpen := d.limitOpen ||| outBit u })).outFault u 35 f none) :=
  ⟨_, congrArg Host.Outcome.next (if_pos hu)⟩

/-- Settles O27: each command raises its fault in both collectors, and a Class 1 fault leaves the switch or the output as the command has left it. -/
theorem safeOutputs : Obligations.SafeOutputs := by
  refine ⟨fun u w o m s hq hu hm ht hc ha hb ho => ?closed, fun u w o l m s hq hu hm ht hc ha hb hk ho => ?opened, fun u w o l m s hq hu hl ht hc hd => ?lowSide,
    fun c u s hq hu => ?limit, fun c u s hq hu => ?lowSideLimit, fun n s hq hm => ?disagree, fun n s hq hl hc hk => ?openLoad1, fun n s hq hl hc hk => ?openLoad0⟩
  case closed =>
    have hjudge := State.judgeReadback_closed { s with now := max s.now w } u o m ha hb ho
    exact .intro (congrArg Host.Outcome.next ((if_pos hu).trans ((if_pos ⟨hm, ht, hc⟩).trans hjudge))) (State.outFault_both (State.quiet_at hq _) ..)
  case opened =>
    have hjudge := State.judgeReadback_open { s with now := max s.now w } u o l m ha hb hk ho
    exact .intro (congrArg Host.Outcome.next ((if_pos hu).trans ((if_pos ⟨hm, ht, hc⟩).trans hjudge))) (State.outFault_both (State.quiet_at hq _) ..)
  case lowSide =>
    have hjudge := State.judgeLs_closed { s with now := max s.now w } (u - 16) o hc hd
    exact .intro (congrArg Host.Outcome.next ((if_neg (by omega)).trans ((if_pos ⟨hl, ht⟩).trans hjudge))) (State.lsFault_both (State.quiet_at hq _) ..)
  case limit =>
    obtain ⟨f, hf⟩ := execCurrentLimitOpen_output c u s hu
    have hq' : ∀ g : Die → Die, ((if s.testHits (outBit u) 0 then s.abortTest else s).updDie c g).quiet := fun g => State.quiet_keep (by simp) hq
    obtain ⟨ha, hb⟩ := State.outFault_both (hq' _) u 35 f none
    refine .intro hf ⟨ha, hb, ?_⟩
    rw [State.outFault_die, State.updDie_die, State.ite_die, State.abortTest_die, ite_self]
  case lowSideLimit =>
    have hq' : ∀ f : Die → Die, (s.updDie .b f).quiet := fun _ => hq
    obtain ⟨ha, hb⟩ := State.lsFault_both (hq' _) (u.val - 16) SOUT_LS_n_STAT_LIMIT
    refine .intro (congrArg Host.Outcome.next (if_neg (by omega))) ⟨ha, hb, ?_⟩
    rw [State.lsFault_die]
    rfl
  case disagree =>
    have hq' : ∀ f : OutSt → OutSt, (s.updOut n.val f).quiet := fun _ => hq
    obtain ⟨ha, hb⟩ := State.outFault_both (hq' _) n.val 36 SOUT_n_FAULT_RB_DIS none
    refine .intro (congrArg Host.Outcome.next (if_neg hm)) ⟨ha, hb, ?_⟩
    rw [State.out_of_outs (State.outFault_outs ..), State.updOut_out]
  case openLoad1 =>
    have hq' : (s.putBoth SOUT_n_FAULT_OPEN_LOAD 1 n).quiet := State.quiet_keep (by simp) hq
    refine .intro (congrArg Host.Outcome.next ((if_pos ⟨hl, hc⟩).trans (if_pos ((s.openClass_putBoth 1 n).trans hk)))) ⟨?_, ?_⟩
    · exact State.raise_latched _ .a _ (.inl hq') (.inl rfl)
    · exact State.raise_latched _ .b _ (.inl hq') (.inl rfl)
  case openLoad0 =>
    have hq' : (s.putBoth SOUT_n_FAULT_OPEN_LOAD 1 n).quiet := State.quiet_keep (by simp) hq
    refine .intro (congrArg Host.Outcome.next ((if_pos ⟨hl, hc⟩).trans (if_neg ?_))) ⟨?_, ?_⟩
    · rw [State.openClass_putBoth, hk]
      decide
    · exact State.raiseOnce_latched _ .a _ (.inl hq') (.inl rfl)
    · exact State.raiseOnce_latched _ .b _ (.inl hq') (.inl rfl)

/-! ## Slots of the output tests (R111, R115, R116) -/

/-- A granted test owns the slot, announced and confirmed by the channel of its switch, and is no longer due (R115). -/
theorem execOutputTestTokenGrant_outs (w va vb ma : Nat) (ta tb : Int) (k : Nat) (s t : State) (hi : s.outs.slot.phase = .idle) (hd : s.dual = true)
    (hk : ({ s with now := max s.now w }).nextTest = some k) (h : execOutputTestTokenGrant w va vb ma ta tb s = .next t) :
    t.outs = { s.outs with
      tests := tabUpd {} s.outs.tests k (fun x => { x with due := false })
      slot := { phase := .announce, kind := s.testKindOf k, unit := testUnit k, confirmed := twoSet ⟨false, false⟩ (testChan k) true } } := by
  have hcount : ∀ (u : State) (p : Prop) [Decidable p] (f : Fld) (n : Nat), (if p then (u.satInc f .a n).satInc f .b n else u).outs = u.outs := fun u p _ f n => by
    rw [State.ite_outs, State.satInc_outs, State.satInc_outs, ite_self]
  unfold execOutputTestTokenGrant at h
  dsimp only at h
  rw [if_pos ⟨hi, hd⟩, hk] at h
  cases h
  rw [State.sent_outs, State.measureRon_outs, State.showPhase_outs]
  unfold State.updTest
  dsimp only
  rw [hcount]
  rfl

/-- The verdict on an off test of switch B whose O reads low and whose M does not stay high (R116). -/
theorem State.verdict_offB (s : State) (n : Nat) (o : TestObs) (ho : o.oA = .l ∧ o.oB = .l) (hm : o.mA ≠ .h ∨ o.mB ≠ .h) :
    s.verdict .offB n o = some (s.failedOpen n .a) := by
  have hlow : notAt .l o.oA o.oB = false := by simp [notAt, ho.1, ho.2]
  unfold State.verdict
  simp [hlow, (notAt_iff .h o.mA o.mB).mpr hm]

theorem State.endSlot_quiet {s : State} (hq : s.quiet) : s.endSlot.quiet := State.quiet_keep (State.endSlot_fcv s) hq

/-- A test phase whose verdict is a fault ends there (R116). -/
theorem execOutputTestPhaseEnd_fault (w : Nat) (o : TestObs) (s t : State) (hp : s.outs.slot.phase = .test)
    (hv : ({ s with now := max s.now w } : State).endSlot.verdict s.outs.slot.kind s.outs.slot.unit o = some t) : execOutputTestPhaseEnd w o s = .next t := by
  unfold execOutputTestPhaseEnd
  dsimp only
  rw [if_pos hp, hv]

/-- A test phase that passes with no on-command waiting goes on to VERIFY (R116, R118). -/
theorem execOutputTestPhaseEnd_pass (w : Nat) (o : TestObs) (s : State) (hp : s.outs.slot.phase = .test)
    (hv : ({ s with now := max s.now w } : State).endSlot.verdict s.outs.slot.kind s.outs.slot.unit o = none) (hw : s.outs.slot.onWaits = false) :
    ∃ t, execOutputTestPhaseEnd w o s = .next t ∧ t.outs.slot = { s.outs.slot with phase := .verify, passed := true } := by
  unfold execOutputTestPhaseEnd
  dsimp only
  rw [if_pos hp, hv]
  refine ⟨_, congrArg Host.Outcome.next (if_neg (by simp [hw])), ?_⟩
  rw [State.showPhase_outs]

/-- A bad verify of an output's test ends the slot and charges one of the two switches with E33 (R116). -/
theorem execOutputTestVerifyEnd_bad (w : Nat) (o : TestObs) (s : State) (hp : s.outs.slot.phase = .verify)
    (hk : s.outs.slot.kind = .offA ∨ s.outs.slot.kind = .midA ∨ s.outs.slot.kind = .offB ∨ s.outs.slot.kind = .midB) (hv : verifyOk s.outs.slot.kind o = false) :
    ∃ c, execOutputTestVerifyEnd w o s = .next (({ s with now := max s.now w } : State).endSlot.failedOpen s.outs.slot.unit c) := by
  unfold execOutputTestVerifyEnd
  dsimp only
  rw [if_pos hp, if_neg (by simp [hv])]
  rcases hk with hk | hk | hk | hk <;> rw [hk] <;> exact ⟨_, rfl⟩

/-- Settles O28: a phase that goes on writes the slot, which what follows leaves alone; one that fails ends the slot and raises its fault in both collectors. -/
theorem outputTests : Obligations.OutputTests := by
  refine ⟨fun k w s hu hb he => ?due, fun w va vb ma ta tb k s hi hd hk => ?grant, fun o s hp hc hm hl => ?start, fun o s hq hp hc hk hd => ?startBad,
    fun w o s hp hv hw => ?pass, fun w o s hq hp hk ho hm => ?offB, fun w o s hp hv => ?verifyGood, fun w o s hq hp hk hv => ?verifyBad⟩
  case due =>
    have hu' : State.testUsed { s with now := max s.now w } k = true := hu
    have hb' : State.testBlocked { s with now := max s.now w } k = false := hb
    have he' : State.testOwed { s with now := max s.now w } k = true ∨ State.testExpiry { s with now := max s.now w } k ≤ max s.now w := he
    refine .intro (congrArg Host.Outcome.next (if_pos ?_)) ?_
    · obtain he' | he' := he' <;> simp [hu', hb', he']
    · rw [State.updTest_testSt]
  case grant =>
    refine .of_next rfl fun t ht => ?_
    unfold State.testSt
    rw [execOutputTestTokenGrant_outs w va vb ma ta tb k s t hi hd hk ht]
    refine ⟨rfl, rfl, rfl, ?_⟩
    dsimp only
    rw [tabGet_tabUpd_same]
  case start =>
    have hmid : ¬ (s.outs.slot.kind = .midA ∧ o.diff ≠ .isOpen) := by tauto
    have hls : ¬ (s.outs.slot.kind = .lsMid ∧ (o.dA = .l ∨ o.dB = .l)) := by tauto
    refine .intro (congrArg Host.Outcome.next ((if_pos ⟨hp, hc⟩).trans ((if_neg hmid).trans (if_neg hls)))) ?_
    rw [State.showPhase_outs]
  case startBad =>
    exact .intro (congrArg Host.Outcome.next ((if_pos ⟨hp, hc⟩).trans (if_pos ⟨hk, hd⟩))) (State.outFault_both (State.endSlot_quiet hq) ..)
  case pass => exact execOutputTestPhaseEnd_pass w o s hp hv hw
  case offB =>
    have hv := State.verdict_offB ({ s with now := max s.now w } : State).endSlot s.outs.slot.unit o ho hm
    rw [← hk] at hv
    exact .intro (execOutputTestPhaseEnd_fault w o s _ hp hv) (State.outFault_both (State.endSlot_quiet (State.quiet_at hq _)) ..)
  case verifyGood =>
    refine .intro (congrArg Host.Outcome.next ((if_pos hp).trans (if_pos hv))) ?_
    exact State.endSlot_slot _
  case verifyBad =>
    obtain ⟨c, hc⟩ := execOutputTestVerifyEnd_bad w o s hp hk hv
    exact .intro hc (State.outFault_both (State.endSlot_quiet (State.quiet_at hq _)) ..)

end Sys2Proof.Machine
end

section
/-! Blocks of the logic graph: the numeric and boolean blocks, the on-delay and the output block of a held function (R126, R129, R131, R134, R142). -/

namespace Sys2Proof.Machine

open Sys2Proof

/-! ## What a block answers (R134) -/

/-- AND. -/
theorem evalBlock_and (e : BlkEnv) (ps : List Int) (ins : List (Option Int)) (x : InstSt) :
    evalBlock e 0x01 ps ins x = pureBlk x [bInt (ins.all (fun v => v.getD 0 != 0))] := rfl

/-- OR. -/
theorem evalBlock_or (e : BlkEnv) (ps : List Int) (ins : List (Option Int)) (x : InstSt) :
    evalBlock e 0x02 ps ins x = pureBlk x [bInt (ins.any (fun v => v.getD 0 != 0))] := rfl

/-- SR, inputs S and R. -/
theorem evalBlock_sr (e : BlkEnv) (ps : List Int) (ins : List (Option Int)) (x : InstSt) :
    (evalBlock e 0x05 ps ins x).outs = [bInt (if inB ins 1 then false else inB ins 0 || x.q)] := rfl

/-- TON counts the evaluations in a row that see its input at 1. -/
theorem evalBlock_ton (e : BlkEnv) (ps : List Int) (ins : List (Option Int)) (x : InstSt) :
    evalBlock e 0x08 ps ins x =
      { outs := [bInt (inB ins 0 && heldFor (runOf (inB ins 0) x.k) (e.cyc (parAt ps 0)))], st := { x with k := runOf (inB ins 0) x.k } } := rfl

theorem evalBlock_nadd (e : BlkEnv) (ps : List Int) (ins : List (Option Int)) (x : InstSt) :
    evalBlock e 0x11 ps ins x = pureBlk x [sat32 (inAt ins 0 0 + inAt ins 1 0)] := rfl

theorem evalBlock_nsub (e : BlkEnv) (ps : List Int) (ins : List (Option Int)) (x : InstSt) :
    evalBlock e 0x12 ps ins x = pureBlk x [sat32 (inAt ins 0 0 - inAt ins 1 0)] := rfl

theorem evalBlock_nmul (e : BlkEnv) (ps : List Int) (ins : List (Option Int)) (x : InstSt) :
    evalBlock e 0x13 ps ins x = pureBlk x [sat32 (inAt ins 0 0 * inAt ins 1 0)] := rfl

@[simp] theorem pureBlk_outs (x : InstSt) (outs : List Int) : (pureBlk x outs).outs = outs := rfl

@[simp] theorem bInt_eq_one (b : Bool) : bInt b = 1 ↔ b = true := by
  cases b <;> decide

/-- A connected input reads what drives it. -/
@[simp] theorem inAt_zero_some (v d : Int) (ins : List (Option Int)) : inAt (some v :: ins) 0 d = v := rfl

@[simp] theorem inAt_one_some (o : Option Int) (v d : Int) (ins : List (Option Int)) : inAt (o :: some v :: ins) 1 d = v := rfl

/-- Settles O14: each clause reads the equation of its block at the inputs named; AND and OR are `List.all` and `List.any` over them. -/
theorem generalBlocks : Obligations.GeneralBlocks := by
  refine ⟨fun e ps x a b => ⟨?nadd, ?nsub, ?nmul⟩, fun e ps x ins => ⟨?and, ?or⟩, fun e ps x v => ⟨?reset, ?set, ?hold⟩⟩
  case nadd => rw [evalBlock_nadd, pureBlk_outs, inAt_zero_some, inAt_one_some, sat32]
  case nsub => rw [evalBlock_nsub, pureBlk_outs, inAt_zero_some, inAt_one_some, sat32]
  case nmul => rw [evalBlock_nmul, pureBlk_outs, inAt_zero_some, inAt_one_some, sat32]
  case and => simp [evalBlock_and]
  case or => simp [evalBlock_or]
  case reset => simp [evalBlock_sr, inB, bInt]
  case set => simp [evalBlock_sr, inB, bInt]
  case hold => simp [evalBlock_sr, inB, bInt]

/-! ## The on-delay over a run of evaluations (R131) -/

/-- A TON whose input is 1. -/
theorem evalBlock_ton_on (e : BlkEnv) (ps : List Int) (x : InstSt) :
    evalBlock e 0x08 ps [some 1] x = { outs := [bInt (heldFor (x.k + 1) (e.cyc (parAt ps 0)))], st := { x with k := x.k + 1 } } := by
  have hin : inB [some 1] 0 = true := by decide
  have hrun : runOf true x.k = x.k + 1 := if_pos rfl
  rw [evalBlock_ton, hin, hrun, Bool.true_and]

/-- A TON after `m` evaluations that all see its input at 1. -/
def tonAfter (e : BlkEnv) (ps : List Int) (x : InstSt) (m : Nat) : BlkOut :=
  (List.range m).foldl (fun (r : BlkOut) _ => evalBlock e 0x08 ps [some 1] r.st) { outs := [], st := x }

/-- One more evaluation. -/
theorem tonAfter_succ (e : BlkEnv) (ps : List Int) (x : InstSt) (m : Nat) :
    tonAfter e ps x (m + 1) = evalBlock e 0x08 ps [some 1] (tonAfter e ps x m).st := by
  unfold tonAfter
  rw [List.range_succ, List.foldl_append]
  rfl

/-- Each evaluation counts one. -/
theorem tonAfter_count (e : BlkEnv) (ps : List Int) (x : InstSt) (m : Nat) : (tonAfter e ps x m).st.k = x.k + m := by
  induction m with
  | zero => rfl
  | succ m ih =>
    rw [tonAfter_succ, evalBlock_ton_on, ← Nat.add_assoc, ← ih]

/-- The output of the last evaluation is 1 when the run, the evaluations before it included, covers PT. -/
theorem tonAfter_outs (e : BlkEnv) (ps : List Int) (x : InstSt) (m : Nat) :
    (tonAfter e ps x (m + 1)).outs = [bInt (heldFor (x.k + m + 1) (e.cyc (parAt ps 0)))] := by
  rw [tonAfter_succ, evalBlock_ton_on, tonAfter_count]

/-- Settles O15: evaluation n + 1 of the run has counted n + 1, which holds for PT when n whole cycles cover it. -/
theorem onDelay : Obligations.OnDelay := by
  intro e ps x n hk
  have hout : (tonAfter e ps x (n + 1)).outs = [bInt (heldFor (n + 1) (e.cyc (parAt ps 0)))] := by
    rw [tonAfter_outs, hk, Nat.zero_add]
  refine hout.trans ?_
  simp [bInt, heldFor, BlkEnv.cyc]

/-! ## The output block (R142) -/

/-- An OUT commands its unit: its function is not held (R129) and its input is 1. -/
def State.outCommands (s : State) (c : Chan) (i : Inst) (e : Ev) : Bool :=
  !s.sfHeld c i.sf && inB (i.ins.map (fun o => o.map (tabGet 0 e.sigs))) 0

/-- R142: OUT adds its unit to the command and shows what it commands. A survivor (mode 2) evaluates none. -/
theorem State.evalInst_out {s : State} {c : Chan} {n : Nat} {i : Inst} (e : Ev)
    (hfind : s.prog.insts.find? (fun p => p.1 == n) = some (n, i)) (hcode : i.code = 0x30) (hmode : s.stayMode c ≠ 2) :
    s.evalInst c n e = { e with
      outs := if s.outCommands c i e then e.outs ||| outBit (parAt i.params 0).toNat else e.outs
      insts := tabSet e.insts n { tabGet {} e.insts n with q := s.outCommands c i e } } := by
  unfold State.evalInst
  rw [hfind]
  dsimp only
  rw [if_neg (by rw [hcode]; decide), if_neg (by rw [hcode]; decide), if_neg hmode, if_pos hcode]
  rfl

/-- R129: a held function commands nothing, whatever its input. -/
theorem State.outCommands_of_held {s : State} {c : Chan} {i : Inst} (e : Ev) (hheld : s.sfHeld c i.sf = true) : s.outCommands c i e = false := by
  rw [State.outCommands, hheld, Bool.not_true, Bool.false_and]

/-- Settles O16: the OUT of a held function is off, so its unit is not added and its entry shows 0. -/
theorem heldFunctionIsOff : Obligations.HeldFunctionIsOff := by
  intro s c n e i hfind hcode hheld hmode
  rw [State.evalInst_out e hfind hcode hmode, State.outCommands_of_held e hheld]
  exact ⟨rfl, congrArg InstSt.q (tabGet_tabSet_same ..)⟩

end Sys2Proof.Machine
end

section
/-! The latches of the stop engine (R183): the low words latch their partners of the same update, a latched word answers from its initiator's latch, and no read moves another initiator's. -/

namespace Sys2Proof.Machine

open Sys2Proof

/-! ## Latches under any read of a register -/

/-- A read that latches `m` leaves every latch of the other initiators. -/
theorem State.busRead_latched_other (s : State) (i j : Initiator) {b : Block} {base off a : Nat} {m : LatchMap}
    (hfw : s.fwAllows i .read (base + off) (base + off + 3) = true) (hreg : plainReg b base off = true) (hc : s.catchUp b base = s)
    (hm : s.latchesOf b base off = m) (hkeys : ∀ e ∈ m, e.1 < 2 ^ 32) (hj : iniCode j ≠ iniCode i) (ha : a < 2 ^ 32) :
    (s.busRead i (base + off)).latched j 0 a = s.latched j 0 a := by
  obtain ⟨hplace, halign, hoff, d, hd, -, -⟩ := plainReg_reg hreg
  obtain ⟨-, hlatches⟩ := s.readAt_reg i b base (base + off) off d hoff hd
  rw [hc, Nat.add_sub_cancel, hm] at hlatches
  rw [s.busRead_reg i _ base b hfw hplace halign]
  unfold State.latched
  dsimp only
  rw [hlatches]
  exact s.take_others i j hj m a 0 ha hkeys

/-- A register that answers from a latch, and latches no other: its word is the previous latch of its initiator, and the read moves no latch. -/
theorem State.busRead_fromLatch (s : State) (i : Initiator) {b : Block} {base off : Nat}
    (hfw : s.fwAllows i .read (base + off) (base + off + 3) = true) (hreg : plainReg b base off = true) (hc : s.catchUp b base = s)
    (hl : isLatched b off = true) (hm : s.latchesOf b base off = []) :
    (s.busRead i (base + off)).bus = .data (s.latched i 0 (base + off)) ∧ (s.busRead i (base + off)).latches = s.latches := by
  obtain ⟨hplace, halign, hoff, d, hd, hrst, -⟩ := plainReg_reg hreg
  obtain ⟨hword, hlatches⟩ := s.readAt_reg i b base (base + off) off d hoff hd
  have hread : s.readReg i b off (base + off) d = s.latched i 0 (base + off) := by
    unfold State.readReg
    rw [if_pos hl, hrst]
  rw [hc, hread] at hword
  rw [hc, Nat.add_sub_cancel, hm] at hlatches
  rw [s.busRead_reg i _ base b hfw hplace halign]
  exact ⟨congrArg BusAns.data hword, hlatches⟩

/-! ## The words of the stop engine -/

/-- R183: the words that each low word of `dsfLow` latches. -/
def dsfPartners : Fin 3 → List Nat
  | 0 => [DSF_P0_HI_POS_HI.off]
  | 1 => [DSF_LIMIT_HI_POS_HI.off]
  | 2 => [DSF_PRED_HI_POS_HI.off, DSF_VENV_SPEED.off, DSF_ELAPSED_TIME.off]

theorem State.latchesOf_dsfLow (s : State) (base : Nat) (k : Fin 3) : s.latchesOf .dsf base (dsfLow k) = s.liveMap base (dsfPartners k) := by
  match k with
  | 0 | 1 | 2 => rfl

/-- A word that answers from a latch is no low word, and latches nothing. -/
theorem State.latchesOf_dsf_of_isLatched (s : State) (base : Nat) {off : Nat} (h : isLatched .dsf off = true) : s.latchesOf .dsf base off = [] := by
  have hlow : ∀ k, off ≠ dsfLow k := by
    rintro k rfl
    exact absurd h (by revert k; decide)
  exact (if_neg (hlow 0)).trans ((if_neg (hlow 1)).trans (if_neg (hlow 2)))

theorem State.readReg_dsfLow (s : State) (i : Initiator) (k : Fin 3) (a : Nat) (d : RegDesc) : s.readReg i .dsf (dsfLow k) a d = s.word d.rst a := by
  match k with
  | 0 | 1 | 2 => rfl

theorem plainReg_dsfLow (c : Chan) (k : Fin 3) : plainReg .dsf (blockBase .dsf c) (dsfLow k) = true := by
  revert k
  cases c <;> decide +kernel

theorem dsfPartners_nodup (k : Fin 3) : (dsfPartners k).Nodup := by
  revert k
  decide

theorem dsfPartner_addr_lt (c : Chan) (k : Fin 3) : ∀ o ∈ dsfPartners k, blockBase .dsf c + o < 2 ^ 32 := by
  revert k
  cases c <;> decide

/-- Each latched word of the stop engine is a register of its block and answers from its latch. -/
theorem dsfLatched_reg (c : Chan) :
    ∀ o ∈ [DSF_P0_HI_POS_HI.off, DSF_LIMIT_HI_POS_HI.off, DSF_PRED_HI_POS_HI.off, DSF_VENV_SPEED.off, DSF_ELAPSED_TIME.off],
      plainReg .dsf (blockBase .dsf c) o = true ∧ isLatched .dsf o = true := by
  cases c <;> decide +kernel

/-- R183: reading a low word returns it and latches its partners, all from the same update. -/
theorem State.busRead_dsfLow (s : State) (i : Initiator) (c : Chan) (k : Fin 3) (hfw : s.fwAllows i .read (blockBase .dsf c + dsfLow k) (blockBase .dsf c + dsfLow k + 3) = true) :
    (s.busRead i (blockBase .dsf c + dsfLow k)).bus = .data (s.word 0 (blockBase .dsf c + dsfLow k)) ∧
      ∀ o ∈ dsfPartners k, (s.busRead i (blockBase .dsf c + dsfLow k)).latched i 0 (blockBase .dsf c + o) = s.word 0 (blockBase .dsf c + o) :=
  s.busRead_live i hfw (plainReg_dsfLow c k) rfl (s.readReg_dsfLow i k _) (s.latchesOf_dsfLow _ k) (dsfPartners_nodup k)

/-- R183: each initiator has its own latch of the stop engine's words. -/
theorem State.busRead_dsfLow_other (s : State) (i j : Initiator) (c : Chan) (k : Fin 3) (a : Nat)
    (hfw : s.fwAllows i .read (blockBase .dsf c + dsfLow k) (blockBase .dsf c + dsfLow k + 3) = true) (hj : iniCode j ≠ iniCode i) (ha : a < 2 ^ 32) :
    (s.busRead i (blockBase .dsf c + dsfLow k)).latched j 0 a = s.latched j 0 a :=
  s.busRead_latched_other i j hfw (plainReg_dsfLow c k) rfl (s.latchesOf_dsfLow _ k) (List.forall_mem_map.mpr (dsfPartner_addr_lt c k)) hj ha

/-- Settles O55: the three low words are `dsfLow`, whose one rule gives each its partners; a latched word answers from its latch; another initiator's latches stand under other keys. -/
theorem dsfLatches : Obligations.DsfLatches := by
  refine ⟨fun i c s h => .intro rfl ?p0, fun i c s h => .intro rfl ?limit, fun i c s h => .intro rfl ?prediction,
    fun i c o a s ho ha h => .intro (exec_readClear i a s) ?previous, fun i j c k a s h hj ha => .intro rfl ?own⟩
  case p0 => exact s.busRead_dsfLow i c 0 h
  case limit => exact s.busRead_dsfLow i c 1 h
  case prediction => exact s.busRead_dsfLow i c 2 h
  case previous =>
    obtain ⟨hreg, hl⟩ := dsfLatched_reg c o ho
    rw [ha] at h ⊢
    exact s.busRead_fromLatch i h hreg rfl hl (s.latchesOf_dsf_of_isLatched _ hl)
  case own => exact s.busRead_dsfLow_other i j c k a h hj ha

end Sys2Proof.Machine
end

section
/-! The faults of the converters and of their contexts (R190, R319, R324, R326 to R328). -/

namespace Sys2Proof.Machine

open Sys2Proof

/-- A fault of a converter or of one of its contexts latches as E55, Class 1, in the converter's own collector (R328). -/
theorem State.adcFault_latched {s : State} (hq : s.quiet) (k : Nat) (el : Elem) : (s.adcFault k el).faulted (adcChan k) ⟨55, 1, .shared, el⟩ :=
  State.raise_latched s (adcChan k) _ (.inl hq) (.inr rfl)

theorem State.putA_quiet {s : State} (hq : s.quiet) (f : Fld) (v k i : Nat) : (s.putA f v k i).quiet := State.quiet_keep (s.putA_fcv f v k i) hq

/-- R324: a valid context older than its MAX_AGE is faulty. -/
theorem State.aiCheck_stale {s : State} (hq : s.quiet) (k n : Nat) (hv : s.getA ADC_CTX_n_VALUE_VALID k n ≠ 0)
    (ha : (s.ctx k n).doneAt + 10000 * s.getA ADC_CTX_n_AGE_MAX_AGE k n < s.now) : (s.aiCheck k n).faulted (adcChan k) ⟨55, 1, .shared, ctxElem k n⟩ := by
  unfold State.aiCheck
  dsimp only
  rw [if_neg hv, if_pos (by simp [ha])]
  exact State.adcFault_latched (State.putA_quiet (State.putA_quiet hq ..) ..) k _

/-- What a converter does after its reset leaves the collectors as the open window has left them (R326). -/
theorem State.adcRestart_fcv (s : State) (k : Nat) (l : Nat) (e : Elem) :
    ((((s.adcReset k).putA ADC_STATUS_CONV_TO 1 k).clearCond l e).adcNext k).fcv = s.fcv := by
  rw [State.adcNext_fcv, State.clearCond_fcv, State.putA_fcv, State.adcReset_fcv]

theorem State.updCtx_ctx (s : State) (k n : Nat) (f : CtxSt → CtxSt) : (s.updCtx k n f).ctx k n = f (s.ctx k n) := by
  unfold State.updCtx State.updAdc State.ctx State.adc
  rw [tabGet_tabUpd_same, tabGet_tabUpd_same]

/-- Settles O19: each fault is raised on its converter's channel with no window open, and a reset of the converter drops no latch and closes no window. -/
theorem adcFaults : Obligations.AdcFaults := by
  refine ⟨fun k t s hq he hd => ?overdue, fun k s hq hb => ?reference, fun k s hq he => ?timeout, fun c n t k x s hq hx hv ha => ?stale, fun k n s => ?clear⟩
  case overdue =>
    exact .intro (congrArg Host.Outcome.next (if_pos ⟨he, hd⟩)) (State.adcFault_latched (State.putA_quiet (State.quiet_at hq _) ..) k _)
  case reference =>
    exact .intro (congrArg Host.Outcome.next (if_pos hb)) (State.adcFault_latched (State.putA_quiet hq ..) k _)
  case timeout =>
    have hl := State.adcFault_latched (State.putA_quiet hq ADC_STATUS_CONV_TO 1 k 0) k (convElem k)
    have hkeep := State.adcRestart_fcv (((s.putA ADC_STATUS_CONV_TO 1 k).adcFault k (convElem k)).openWindow (5 + k)) k 55 (convElem k)
    obtain ⟨ha, hb⟩ := State.openWindow_mem ((s.putA ADC_STATUS_CONV_TO 1 k).adcFault k (convElem k)) (5 + k)
    obtain ⟨hwa, hwb⟩ := State.windows_of_fcv hkeep
    exact .intro (congrArg Host.Outcome.next (if_neg he)) ⟨State.faulted_keep hkeep (State.openWindow_faulted _ hl), hwa ▸ ha, hwb ▸ hb⟩
  case stale =>
    have hctx : State.aiCtx { s with now := max s.now t } c n = some (k, x) := hx
    refine .of_next rfl fun u hu => ?_
    change execAiContextStale c n t s = .next u at hu
    unfold execAiContextStale at hu
    dsimp only at hu
    rw [hctx] at hu
    cases hu
    exact State.aiCheck_stale (State.quiet_at hq _) k x hv ha
  case clear =>
    refine .intro (congrArg Host.Outcome.next (if_pos rfl)) ?_
    rw [State.updCtx_ctx]
    exact ⟨rfl, rfl, rfl, rfl, rfl, rfl⟩

end Sys2Proof.Machine
end

section
/-! The host interface: what makes host loss, and the set-up window (R188, R190, R280, R281, R303, R304, R306). -/

namespace Sys2Proof.Machine

open Sys2Proof

/-! ## Host loss -/

/-- What a loss that polling finds leaves in RUN (R303). -/
def State.lostByPoll (t : State) : Prop :=
  t.get HLY_STATUS_STATE = hlyLOST ∧ t.hostLost = true ∧ t.hly.loss = .poll ∧ t.faulted .a ⟨54, 0, .shared, .none⟩ ∧ t.faulted .b ⟨54, 0, .shared, .none⟩

/-- What a loss that lasts until the next set-up leaves in RUN (R304): the window is open and the rings are gone. -/
def State.lostBySetup (t : State) : Prop :=
  t.get HLY_WINDOW_STATUS_OPEN = 1 ∧ t.hostLost = true ∧ t.hly.loss = .setup ∧ t.hly.rings = [] ∧ t.faulted .a ⟨54, 0, .shared, .none⟩ ∧ t.faulted .b ⟨54, 0, .shared, .none⟩

theorem State.losePoll_run {s : State} (hp : s.power = .on) (hr : s.hlyState = hlyRUN) (hq : s.quiet) (cause : Nat) : (s.losePoll cause).lostByPoll := by
  unfold State.losePoll
  rw [if_pos ⟨by simp [State.running, hp], hr⟩]
  obtain ⟨hstate, hlost, hloss⟩ := s.beginLoss_does cause .poll
  exact ⟨hstate, hlost, hloss, s.beginLoss_latched .a cause .poll hq, s.beginLoss_latched .b cause .poll hq⟩

theorem State.loseSetup_run {s : State} (hp : s.power = .on) (hr : s.hlyState = hlyRUN) (hq : s.quiet) (cause : Nat) : (s.loseSetup cause).lostBySetup := by
  have hnot : ¬ s.hlyState = hlySETUP := by
    rw [hr]
    decide
  unfold State.loseSetup
  rw [if_neg (by simp [State.running, hp]), if_neg hnot, if_pos hr]
  obtain ⟨-, hlost, hloss⟩ := s.beginLoss_does cause .setup
  obtain ⟨hopen, hkeepLost, hkeepLoss, hrings, hfcv⟩ := (s.beginLoss cause .setup).reopen_does
  exact ⟨hopen, hkeepLost.trans hlost, hkeepLoss.trans hloss, hrings, State.faulted_keep hfcv (s.beginLoss_latched .a cause .setup hq),
    State.faulted_keep hfcv (s.beginLoss_latched .b cause .setup hq)⟩

/-- R306: the block reset after an internal fault of Halyard leaves E54 latched. -/
theorem State.halyardReset_latched {s : State} (hq : s.quiet) (n base : Nat) (c : Chan) :
    ((((s.raiseOnce (class0 54 0)).openWindow n).blockReset base).showAuth).faulted c ⟨54, 0, .shared, .none⟩ :=
  State.faulted_keep (by simp) (State.openWindow_faulted n (s.raiseOnce_class0 54 0 c hq))

/-- Settles O44: polling finds a loss or the link gives one until the next set-up; each begins the loss of R303 from RUN. -/
theorem hostLoss : Obligations.HostLoss := by
  refine ⟨fun w s hp hr hq hw ht => ?heartbeat, fun s hp hr hq hf => ?doorbell, fun s hp hr hq => ?master, fun s hp hr hq => ?link, fun s hp hr hq => ?reset,
    fun s hp hr hq => ?d3hot, fun s hp hq => ?internal⟩
  case heartbeat =>
    exact .intro (congrArg Host.Outcome.next (if_pos ⟨hw, ht⟩)) (State.losePoll_run (s := { s with now := max s.now w }) hp hr (State.quiet_at hq _) _)
  case doorbell => exact .intro (congrArg Host.Outcome.next (if_pos hf)) (State.losePoll_run hp hr hq _)
  case master => exact .intro rfl (State.losePoll_run hp hr hq _)
  case link => exact .intro rfl (State.loseSetup_run hp hr hq _)
  case reset => exact .intro rfl (State.loseSetup_run hp hr hq _)
  case d3hot => exact .intro rfl (State.loseSetup_run hp hr hq _)
  case internal =>
    exact .intro (congrArg Host.Outcome.next (if_pos (by simp [State.running, hp])))
      ⟨State.halyardReset_latched hq _ _ .a, State.halyardReset_latched hq _ _ .b⟩

/-! ## The set-up window -/

/-- The result of the checks of a set-up fits SETUP_ERR. -/
theorem State.setupCheck_lt (s : State) (m tr : Bool) : s.setupCheck m tr < 256 := by
  unfold State.setupCheck
  dsimp only
  repeat' split
  all_goals decide

/-- While the window is open and the set-up not done, SETUP_DONE is judged by its checks (R280). -/
theorem execHlySetupDone_open (m tr : Bool) (w : Nat) (s : State) (hd : s.flag HLY_SETUP_DONE_DONE = false) (ho : s.flag HLY_WINDOW_STATUS_OPEN = true) :
    execHlySetupDone m tr w s = .next (if ({ s with now := max s.now w } : State).setupCheck m tr = 0 then ({ s with now := max s.now w } : State).closeWindow
      else ({ s with now := max s.now w } : State).put HLY_STATUS_SETUP_ERR (({ s with now := max s.now w } : State).setupCheck m tr)) :=
  congrArg Host.Outcome.next ((if_neg (Bool.eq_false_iff.mp hd)).trans (if_neg (Bool.ne_false_iff.mpr ho)))

theorem State.flag_put_apart (s : State) (f g : Fld) (v : Nat) (h : f.apart g = true) : (s.put f v).flag g = s.flag g := by
  unfold State.flag
  rw [State.get_put_apart _ _ _ _ h]

/-- Settles O45: a set-up closes the window or writes SETUP_ERR alone, and a denied write answers a bus error. -/
theorem hostSetupWindow : Obligations.HostSetupWindow := by
  refine ⟨fun m tr w s hd ho hc => ?sound, fun m tr w s hd ho hc => ?unsound, fun off s hd ho => ?denied, fun i c n s hf => ?acknowledged⟩
  case sound =>
    exact .intro ((execHlySetupDone_open m tr w s hd ho).trans (congrArg Host.Outcome.next (if_pos hc))) (State.closeWindow_does { s with now := max s.now w })
  case unsound =>
    refine .intro ((execHlySetupDone_open m tr w s hd ho).trans (congrArg Host.Outcome.next (if_neg hc))) ⟨?_, ?_, ?_⟩
    · rw [State.get_put_same _ _ _ _ _ (by decide)]
      exact Nat.mod_eq_of_lt (State.setupCheck_lt _ m tr)
    · exact (State.flag_put_apart _ _ _ _ (by decide)).trans hd
    · exact (State.flag_put_apart _ _ _ _ (by decide)).trans ho
  case denied =>
    have hgone : (s.flag HLY_SETUP_DONE_DONE && off.toNat != 0x1008) = true := by simp [hd, ho]
    obtain ⟨-, hmem, -, hprog, -⟩ := s.hostDenied_keeps off.toNat
    exact .intro (congrArg Host.Outcome.next (if_pos hgone)) ⟨(State.deny_does _ _ _).1, hmem, hprog⟩
  case acknowledged =>
    have hlt : s.get FC_REC_PTR_UNREAD c - n.val < 2 ^ 5 := lt_of_le_of_lt (Nat.sub_le ..) (s.get_lt FC_REC_PTR_UNREAD c 0)
    refine .intro (congrArg Host.Outcome.next (if_neg (by simp [hf]))) ⟨rfl, ?_⟩
    exact (State.get_put_same s FC_REC_PTR_UNREAD _ c 0 (by decide)).trans (Nat.mod_eq_of_lt hlt)

end Sys2Proof.Machine
end

section
/-! The faults of supplies and junctions (R184, R424, R426). -/

namespace Sys2Proof.Machine

open Sys2Proof

/-- A Class 3 line of both collectors is latched whatever window is open. -/
theorem State.raiseOnce_fatal (s : State) (line detail : Nat) :
    (s.raiseOnce ⟨line, 3, .shared, .both, .none, detail⟩).faulted .a ⟨line, 3, .shared, .none⟩ ∧ (s.raiseOnce ⟨line, 3, .shared, .both, .none, detail⟩).faulted .b ⟨line, 3, .shared, .none⟩ :=
  ⟨s.raiseOnce_latched .a _ (.inr rfl) (.inl rfl), s.raiseOnce_latched .b _ (.inr rfl) (.inl rfl)⟩

theorem State.raiseOnce_keepsRegs (s : State) (e : FaultEv) (h : e.cls < 2) : State.keepsRegs [.sys, .fc, .hly, .llk] s (s.raiseOnce e) :=
  (s.raise_keepsRegs e h).trans (.of_regs rfl)

/-- The supply monitor's own bits are written by no Class 0 line. -/
theorem State.raiseOnce_pwrFlag (s : State) (line detail : Nat) (f : Fld) (v : Bool) (hf : f.ok = true) (hb : f.blk = .pwr) (ho : f.off + f.stride * 0 < 0x10000) :
    ((s.putFlag f v).raiseOnce (class0 line detail)).get f = v.toNat := by
  have hget : ((s.putFlag f v).raiseOnce (class0 line detail)).get f = (s.putFlag f v).get f :=
    State.raiseOnce_keepsRegs _ (class0 line detail) (show 0 < 2 by decide) f .a 0 (by simp [hb]) ho
  have hfits : v.toNat < 2 ^ (f.hi + 1 - f.lo) := by
    simp only [Fld.ok, Bool.and_eq_true, decide_eq_true_eq] at hf
    exact lt_of_le_of_lt v.toNat_le (Nat.one_lt_two_pow (by omega))
  rw [hget]
  exact (State.get_put_same s f _ .a 0 hf).trans (Nat.mod_eq_of_lt hfits)

/-! ## Undervoltage of a die -/

/-- A kill path writes registers of the outputs and of the Recorder only (R109, R117). -/
theorem State.kill_keepsRegs (s : State) (c : Chan) (m : BitVec 16) (ls : BitVec 4) (f : Die → Die) (h : s.outs.slot.unit < 20) :
    State.keepsRegs [.sout, .llk] s (s.kill c m ls f) := by
  have habort : State.keepsRegs [.sout, .llk] s (if s.testHits m ls then s.abortTest else s) := by
    split
    · exact s.abortTest_keepsRegs h
    · exact .refl _ s
  have howe : ∀ u : State, State.keepsRegs [.sout, .llk] u (if ls = 0 then (u.updDie c f).oweTests m
      else { (u.updDie c f).oweTests m with outs := { ((u.updDie c f).oweTests m).outs with lsOwes := ((u.updDie c f).oweTests m).outs.lsOwes ||| ls } }) := fun u => by
    split <;> exact .of_regs rfl
  unfold State.kill
  exact (habort.trans (howe _)).trans ((State.showKill_keepsRegs _).mono (by decide))

theorem uvFld_placed (c : Chan) : (uvFld c).blk = .pwr ∧ (uvFld c).off + (uvFld c).stride * 0 < 0x10000 := by
  cases c <;> decide

/-- DEV_STATE reads as before when a die has lost its supply. -/
theorem State.killUv_dev (s : State) (c d : Chan) (m : BitVec 16) (ls : BitVec 4) (f : Die → Die) (v : Bool) (h : s.outs.slot.unit < 20) :
    ((s.kill c m ls f).putFlag (uvFld d) v).dev = s.dev := by
  obtain ⟨hb, ho⟩ := uvFld_placed d
  exact (State.get_put_blk _ _ _ _ _ _ _ _ (by rw [hb]; decide) ho (by decide)).trans (s.kill_keepsRegs c m ls f h SYS_STATE_DEV_STATE .a 0 (by decide) (by decide))

theorem State.killUv_running (s : State) (c d : Chan) (m : BitVec 16) (ls : BitVec 4) (f : Die → Die) (v : Bool) :
    ((s.kill c m ls f).putFlag (uvFld d) v).running = s.running := by
  have hp : ((s.kill c m ls f).putFlag (uvFld d) v).power = s.power := congrArg View.power (s.kill_view c m ls f)
  unfold State.running
  rw [hp]

theorem State.showFurl_die (s : State) : s.showFurl.die = s.die := rfl

theorem railFld_placed (r : Rail) : (railFld r).ok = true ∧ (railFld r).blk = .pwr ∧ (railFld r).off + (railFld r).stride * 0 < 0x10000 := by
  cases r <;> decide

/-- Settles O51: a supply fault latches in both collectors, and what is raised after it leaves the dies and the bits of the supply monitor. -/
theorem supplyFaults : Obligations.SupplyFaults := by
  refine ⟨fun s hr hq => ?vbat, fun c s hw => ?opened, fun c s hr hw hs hu hq => ?undervoltage, fun c s => ?release, fun r s hm => ?high, fun r s hq => ?low,
    fun d temp s ht => ?hot, fun d temp s h1 h2 hq => ?warm, fun s => ?sec⟩
  case vbat =>
    have hq' : (s.putFlag PWR_STATUS_VBAT_LOW true).quiet := hq
    refine .intro (congrArg Host.Outcome.next (if_pos hr)) ⟨State.raiseOnce_class0 _ _ _ .a hq', State.raiseOnce_class0 _ _ _ .b hq', ?_⟩
    exact s.raiseOnce_pwrFlag 61 0x200 PWR_STATUS_VBAT_LOW true (by decide) rfl (by decide)
  case opened =>
    refine .intro (congrArg Host.Outcome.next (if_pos (.inr hw))) ?_
    rw [State.settle_die, State.putFlag_die_eq, State.kill_die, twoAt_twoUpd_same]
    exact ⟨rfl, rfl, rfl⟩
  case undervoltage =>
    have hdev := fun f v => s.killUv_dev c c 0xFFFF (if c = .b then 0xF else 0) f v hu
    have hrun := fun f v => s.killUv_running c c 0xFFFF (if c = .b then 0xF else 0) f v
    refine .intro (congrArg Host.Outcome.next ((if_neg ?_).trans (if_neg ?_))) ⟨?_, ?_⟩
    · rw [hrun, hr, hw]
      decide
    · unfold State.quietSupply
      rw [hdev]
      exact hs
    · exact State.raiseOnce_latched _ .a _ (.inl (State.quiet_keep (by simp) hq)) (.inl rfl)
    · exact State.raiseOnce_latched _ .b _ (.inl (State.quiet_keep (by simp) hq)) (.inl rfl)
  case release =>
    refine .intro rfl ?_
    rw [State.settle_die, State.showFurl_die, State.showKill_die]
    exact twoAt_twoUpd_same ..
  case high => exact .intro (congrArg Host.Outcome.next (if_pos (by simp [hm]))) (State.raiseOnce_fatal _ _ _)
  case low =>
    have hq' : (s.putFlag (railFld r) false).quiet := hq
    obtain ⟨hok, hb, ho⟩ := railFld_placed r
    refine .intro (congrArg Host.Outcome.next (if_neg (by simp))) ⟨State.raiseOnce_class0 _ _ _ .a hq', State.raiseOnce_class0 _ _ _ .b hq', ?_⟩
    exact s.raiseOnce_pwrFlag _ _ (railFld r) false hok hb ho
  case hot => exact .intro (congrArg Host.Outcome.next (if_pos ht)) (State.raiseOnce_fatal _ _ _)
  case warm =>
    exact .intro (congrArg Host.Outcome.next ((if_neg (not_lt.mpr h2)).trans (if_pos h1))) ⟨s.raiseOnce_class0 _ _ .a hq, s.raiseOnce_class0 _ _ .b hq⟩
  case sec => exact .intro rfl (State.raiseOnce_fatal _ _ _)

end Sys2Proof.Machine
end

section
/-! Lifecycle requests, debuggers and the APP reset (R190, R213, R351, R353, R428, R438). -/

namespace Sys2Proof.Machine

open Sys2Proof

/-- The state of life just burned is shown (R351). -/
theorem State.lifecycle_put (s : State) (n : Nat) (h : n < 16) : (s.put SEC_LIFECYCLE_STATE n).get SEC_LIFECYCLE_STATE = n :=
  (State.get_put_same s _ n .a 0 (by decide)).trans (Nat.mod_eq_of_lt h)

theorem execDebugReset_attached (c : Chan) (e : DbgElem) (s : State) (hl : s.lifecycle = lcSERVICE) (ha : s.flag LKS_STATUS_DBG_ATTACHED c = true) :
    execDebugReset c e s = .next (((dbgBlocks e).foldl (fun (s : State) b => s.blockReset (blockBase b c)) (s.noteReset 8)).resetElem c e) :=
  congrArg Host.Outcome.next (if_pos ⟨hl, ha⟩)

/-- Settles O53: a request or an attachment acts where its lifecycle state and scope allow it and leaves the state otherwise; a reset of an element begins that element anew. -/
theorem lifecycleAndDebug : Obligations.LifecycleAndDebug := by
  refine ⟨fun s hl hb => ?manufacture, fun s hl h1 h4 h6 => ?provisioned, fun ok s hb hm => ?other, fun c e s hl hs hq => ?attach, fun c e s hn => ?refused,
    fun c s => ?detach, fun c s hl ha => ?resetSc, fun c s hl ha => ?resetIos, fun c s hl ha => ?resetAe, fun t0 s => ?app⟩
  case manufacture =>
    exact .intro (congrArg Host.Outcome.next ((if_pos ⟨hl, hb⟩).trans (if_pos rfl))) (State.lifecycle_put _ _ (by decide))
  case provisioned =>
    have hblank : ¬ (s.lifecycle = lcBLANK ∧ s.sec.bootsel = 2) := by
      rw [hl]
      exact fun h => absurd h.1 (by decide)
    exact .intro (congrArg Host.Outcome.next ((if_neg hblank).trans ((if_pos ⟨hl, h1, h4, h6⟩).trans (if_pos rfl)))) (State.lifecycle_put _ _ (by decide))
  case other => exact .intro (congrArg Host.Outcome.next ((if_neg fun h => hb h.1).trans (if_neg fun h => hm h.1))) rfl
  case attach =>
    refine .intro (congrArg Host.Outcome.next (if_pos ⟨hl, hs⟩)) ⟨?_, State.raise_latched _ c _ (.inl hq) (.inr rfl)⟩
    rw [← State.view_stay, State.raise_view, State.view_stay]
    exact congrArg StaySt.decoupled (twoAt_twoUpd_same ..)
  case refused =>
    refine .intro (congrArg Host.Outcome.next (if_neg ?_)) rfl
    rintro ⟨hl, hs⟩
    exact hn.elim (fun h => h hl) (fun h => by simp [hs] at h)
  case detach => exact .intro rfl ⟨State.get_put_same s LKS_STATUS_DBG_ATTACHED 0 c 0 (by decide), rfl, rfl⟩
  case resetSc => exact .intro (execDebugReset_attached c .sc s hl ha) (twoAt_twoSet_same ..)
  case resetIos => exact .intro (execDebugReset_attached c .ios s hl ha) ⟨twoAt_twoSet_same .., twoAt_twoSet_same ..⟩
  case resetAe => exact .intro (execDebugReset_attached c .ae s hl ha) (twoAt_twoSet_same ..)
  case app =>
    obtain ⟨ha, hb⟩ := State.openWindow_mem { s with now := max s.now t0 } 9
    exact .intro rfl ⟨ha, hb, rfl, rfl⟩

end Sys2Proof.Machine
end

section
/-! What leaves the Goale sessions, the networks, the Line Link and the network time alone (R229, R240, R257). -/

namespace Sys2Proof.Machine

open Sys2Proof

/-- Settles O9: the sessions, the networks, the Line Link and the network time are fields of the view, whose frame `exec_view` gives for every command. -/
theorem networkFrames : Obligations.NetworkFrames := by
  intro i s t h
  have hv := exec_view i s t h
  refine ⟨fun hi => ?ses, fun hi => ?nets, fun hi => ?link, fun hi => ?ptp⟩
  case ses => simpa [frameView, hi] using congrArg View.ses hv
  case nets => simpa [frameView, hi] using congrArg View.nets hv
  case link => simpa [frameView, hi] using congrArg View.link hv
  case ptp => simpa [frameView, hi] using congrArg View.ptp hv

end Sys2Proof.Machine
end

section
/-! A step takes the command at the front of the queue, and every command of the table answers a next state and leaves the queue alone: the model's own interface (log entries 1 and 2). -/

namespace Sys2Proof.Machine

open Sys2Proof

/-! ## Steps -/

theorem step_cons {c : Instr} {q : List Instr} {s : State} (h : s.pending = c :: q) : step s = exec c { s with pending := q } := by
  unfold step
  rw [h]

theorem step_nil {s : State} (h : s.pending = []) : step s = .next s := by
  unfold step
  rw [h]

/-- Settles O1: the step's case of a queue with a command at its front. -/
theorem stepRunsCommand : Obligations.StepRunsCommand := fun _ _ _ => step_cons

/-- Settles O2: the step's case of an empty queue. -/
theorem stepIdles : Obligations.StepIdles := fun _ => step_nil

/-! ## Every command answers -/

theorem ite_next (p : Prop) [Decidable p] (a b : State) :
    ∃ t, (if p then Host.Outcome.next a else .next b : Host.Outcome State Fault Refusal) = .next t :=
  ⟨_, (apply_ite Host.Outcome.next p a b).symm⟩

/-- No command faults and none is refused. Three meanings are a choice of two next states; every other one is a single next state as it is written. -/
theorem exec_next (i : Instr) (s : State) : ∃ t, exec i s = .next t := by
  cases i
  case stayAttributionWindowEnd => exact ite_next ..
  case epochSwitch => exact ite_next ..
  case refit => exact ite_next ..
  all_goals exact ⟨_, rfl⟩

/-- The waiting commands are a field of the view that no command is a writer of. -/
theorem exec_pending {i : Instr} {s t : State} (h : exec i s = .next t) : t.pending = s.pending :=
  congrArg View.pending (exec_view i s t h)

/-- Settles O6: every meaning is a next state, and the frame of the view keeps the queue. -/
theorem commandsComplete : Obligations.CommandsComplete := fun i s =>
  (exec_next i s).elim fun _ h => .intro h (exec_pending h)

end Sys2Proof.Machine
end

section
/-! What the commands of the host answer, and when authority, nonces, the back-off and SERVICE end (R289, R291, R292, R295, R296, R355, R365, R366, R368). -/

namespace Sys2Proof.Machine

open Sys2Proof

/-! ## Completions (R289) -/

section
variable {d : Desc} (h : d.doneOk = true) (s : State) (r : Nat) (e : Ends)
include h

/-- The completion that a finished command leaves. -/
theorem State.finish_last : (s.finish r d e).hly.last = some ⟨r, d.tag, e.status, e.result, e.data⟩ := by
  rw [State.finish_eq _ _ _ _ h]
  exact (State.cmdDone_hly ..).1

theorem State.finish_rings : (s.finish r d e).hly.rings = tabUpd {} s.hly.rings r (fun x => { x with fetched := x.fetched - 1 }) := by
  rw [State.finish_eq _ _ _ _ h]
  exact (State.cmdDone_hly ..).2.2

theorem State.finish_ring : (s.finish r d e).ring r = { s.ring r with fetched := (s.ring r).fetched - 1 } := by
  unfold State.ring
  rw [State.finish_rings h]
  exact tabGet_tabUpd_same ..

theorem State.finish_devIdx : (s.finish r d e).devIdx r = (s.devIdx r + 1) % 2 ^ 32 := by
  rw [State.finish_eq _ _ _ _ h]
  exact State.cmdDone_idx ..

/-- A register below the rings' own reads the same after a command has finished. -/
theorem State.finish_get_hly (f : Fld) (hb : f.blk = .hly) (hr : r < 8) (ho : f.off < 0x200) : (s.finish r d e).get f = s.get f := by
  rw [State.finish_eq _ _ _ _ h]
  refine State.cmdDone_get _ _ _ f .a 0 ?_
  rw [hb]
  refine fldAddr_ne_of_off _ _ _ _ _ rfl ?_
  simp only [HLY_RING_n_IDX_DEV_IDX]
  omega

theorem State.finish_scope (hr : r < 8) : (s.finish r d e).get SEC_AUTH_n_SCOPE .a r = s.get SEC_AUTH_n_SCOPE .a r := by
  rw [State.finish_eq _ _ _ _ h]
  exact State.cmdDone_blk _ _ _ SEC_AUTH_n_SCOPE .a r (by decide) hr (by simp only [SEC_AUTH_n_SCOPE]; omega)

end

/-! ## Rings and registers -/

/-- A ring reset empties that ring and no other. -/
theorem State.resetRing_rings (s : State) (n : Nat) : (s.resetRing n).hly.rings = tabUpd {} s.hly.rings n (fun x => { x with host := 0, fetched := 0, logged := [] }) := by
  unfold State.resetRing State.hlyEvent
  rw [State.pushEvent_hly]
  rfl

/-- A range whose every word the ring may read holds no address that is denied (R295). -/
theorem State.cmdReads_range {s : State} {r a n : Nat} (h : ∀ k < n, s.cmdReads r (a + 4 * k) = true) :
    ((List.range n).map (fun k => a + 4 * k)).find? (fun a => !s.cmdReads r a) = none := by
  simpa [List.find?_eq_none] using h

/-- A buffer that fits holds no more words than its limit does. -/
theorem Buf.fits_words {n : Nat} {d : Desc} (h : (Buf.out (4 * n)).fits d = true) : d.length / 4 ≤ n := by
  simp only [Buf.fits, Bool.or_eq_true, beq_iff_eq, Bool.and_eq_true, decide_eq_true_eq] at h
  omega

/-! ## Commands that run (R292, R295, R365, R366) -/

/-- AUTH_RESPONSE judges a ring's nonce while it has not lapsed, and uses it up. -/
def State.judgeResponse (s : State) (r : Nat) (d : Desc) (a : AuthResp) (n : NonceSt) : State × Ends :=
  let s := s.updRing r (fun x => { x with nonce := none })
  if s.authPasses a d.length n = false then (s.authFails r, ⟨csAUTH_FAILED, 0, []⟩)
  else if a.service ∧ s.mayShutdown = false then (s, s.endSTATE)
  else (s.grant r a, endOK a.scope)

section
variable {r : Fin 8} {d : Desc} {s : State} (hr : s.mayRun r.val = true) (hf : d.flags < 4)
include hr hf

/-- Where the ring may read every word of the range, READ_REG reads it. -/
theorem execReadReg_allowed (hfit : (Buf.out 16384).fits d = true) (hb : d.bufOk = true) (ha : d.arg0 % 4 = 0) (hread : ∀ k < d.length / 4, s.cmdReads r.val (d.arg0 + 4 * k) = true) :
    execReadReg r d s = .next ((({ s with now := max s.now d.t } : State).readRange d.clear d.arg0 (d.length / 4)).1.finish r.val d
      ⟨csOK, d.length / 4, (({ s with now := max s.now d.t } : State).readRange d.clear d.arg0 (d.length / 4)).2⟩) := by
  have hnone := State.cmdReads_range (s := { s with now := max s.now d.t }) hread
  unfold execReadReg
  rw [State.command_out _ _ _ _ _ hr hf hfit hb]
  simp only [ha, ne_eq, not_true_eq_false, if_false, hnone]

/-- A response to a nonce that stands is judged, and the command finishes with what that ends in. -/
theorem execAuthResponse_judged {n : NonceSt} (a : AuthResp) (hfit : (Buf.inp 256).fits d = true) (hl : d.length ≠ 0) (hb : d.bufOk = true) (hn : (s.ring r.val).nonce = some n) (ht : max s.now d.t < n.at_ + 60000000000) :
    execAuthResponse r d a s = .next ((({ s with now := max s.now d.t }).judgeResponse r.val d a n).1.finish r.val d (({ s with now := max s.now d.t }).judgeResponse r.val d a n).2) := by
  have hn' : (({ s with now := max s.now d.t } : State).ring r.val).nonce = some n := hn
  unfold execAuthResponse
  rw [State.command_inp _ _ _ _ _ hr hf hfit hl]
  simp only [hn', if_neg (Nat.not_le_of_lt ht), hb, Bool.true_eq_false, if_false]
  rfl

/-- Where no back-off runs, a challenge draws a nonce. -/
theorem execAuthChallenge_drawn (hl : d.length = 32) (ha : d.addr % 4 = 0) (hb : d.bufOk = true) (h0 : d.arg0 = 1 ∨ d.arg0 = 2) (hk : s.sec.backoff = none) :
    execAuthChallenge r d s = .next ((({ s with now := max s.now d.t, freeCount := s.freeCount + 1 } : State).updRing r.val (fun x => { x with nonce := some ⟨Config.free s.freeCount % 2 ^ 256, d.arg0, max s.now d.t⟩ })).finish r.val d
      ⟨csOK, 32, (List.range 8).map (fun k => Config.free s.freeCount % 2 ^ 256 / 2 ^ (32 * k) % 2 ^ 32)⟩) := by
  have hfit : (Buf.out 32).fits d = true := by simp [Buf.fits, hl, ha]
  unfold execAuthChallenge
  rw [State.command_out _ _ _ _ _ hr hf hfit hb]
  dsimp only
  rw [if_neg (by omega), if_neg (by omega), if_neg (by rw [hk]; decide), if_neg (by omega)]
  rfl

end

/-! ## What a judged response leaves (R366, R368) -/

/-- A response that fails grants nothing: SERVICE stays as it was (R368). -/
theorem State.judgeResponse_fails {s : State} {r : Nat} {d : Desc} {a : AuthResp} {n : NonceSt} (h : (s.updRing r (fun x => { x with nonce := none })).authPasses a d.length n = false) :
    (s.judgeResponse r d a n).1.service = s.service ∧ (s.judgeResponse r d a n).2 = ⟨csAUTH_FAILED, 0, []⟩ := by
  unfold State.judgeResponse
  rw [if_pos h]
  exact ⟨by simp, rfl⟩

/-- A response that passes, without SERVICE: the scope joins those the ring holds, and the nonce is used up (R366). -/
theorem State.judgeResponse_passes {s : State} {r : Nat} {d : Desc} {a : AuthResp} {n : NonceSt} (h : (s.updRing r (fun x => { x with nonce := none })).authPasses a d.length n = true) (hs : a.service = false) :
    s.judgeResponse r d a n = ((s.updRing r (fun x => { x with nonce := none })).grant r a, endOK a.scope) := by
  unfold State.judgeResponse
  rw [if_neg (by simp [h]), if_neg (by simp [hs])]

theorem State.grant_ring (s : State) (r : Nat) (a : AuthResp) (hr : r < 8) (hs : a.service = false) (ha : a.scope < 2 ^ 16) :
    (s.grant r a).ring r = { s.ring r with authAt := s.now } := by
  unfold State.ring
  rw [(s.grant_plain r a hr hs ha).1]
  exact State.updRing_ring ..

/-! ## Times that run out (R291, R355, R365, R368) -/

theorem execNonceLapse_due {r : Fin 8} {w : Nat} {n : NonceSt} {s : State} (hn : (s.ring r.val).nonce = some n) (ht : n.at_ + 60000000000 ≤ max s.now w) :
    execNonceLapse r w s = .next (({ s with now := max s.now w } : State).updRing r.val (fun x => { x with nonce := none })) := by
  have hn' : (({ s with now := max s.now w } : State).ring r.val).nonce = some n := hn
  unfold execNonceLapse
  simp only [hn', if_pos ht]

theorem execAuthBackoffEnd_due {w e : Nat} {s : State} (he : s.sec.backoff = some e) (ht : e ≤ max s.now w) :
    execAuthBackoffEnd w s = .next ((({ s with now := max s.now w } : State).updSec (fun x => { x with backoff := none })).put SEC_AUTH_FAIL_BACKOFF_S 0) := by
  unfold execAuthBackoffEnd
  simp only [he, if_pos ht]

theorem execServiceDurationEnd_due {w e : Nat} {s : State} (he : s.service = some e) (ht : e ≤ max s.now w) :
    execServiceDurationEnd w s = .next ({ s with now := max s.now w } : State).endService.authChanged := by
  unfold execServiceDurationEnd
  simp only [he, if_pos ht]

theorem State.endService_service (s : State) : s.endService.service = none := by
  simp [State.endService]

/-- Settles O40: a command that may run finishes with what its body ends in, and the completion shows it; authority, nonces, the back-off and SERVICE end once their time has passed. -/
theorem hostCommands : Obligations.HostCommands := by
  refine ⟨fun r d s hr hf hd hl => ?nop, fun r d s hr hf hd hl h2 h200 => ?poll, fun r d s hr hf hd hl h => ?badPoll, fun r d s hr hf hd hl hne h8 hp => ?ringReset,
    fun r d s hr hf hd hfit hb => ?info, fun r d s hr hf hd hfit hb ha hread => ?read, fun r d s hr hf hd hl _ => ?authEnd, fun r d s hr hf hd hl ha hb h0 hk => ?challenge,
    fun r d a n s hr hf hd hfit hl hb hn ht hpass hs ha => ?passes, fun r d a n s hr hf hd hfit hl hb hn ht hfail => ?fails,
    fun r w s ht => ?idle, fun r w n s hn ht => ?lapse, fun w e s he ht => ?backoff, fun w e s he ht => ?service⟩
  case nop =>
    exact .intro (congrArg Host.Outcome.next (State.command_none _ _ _ _ hr hf hl)) ⟨State.finish_last hd .., State.finish_devIdx hd ..⟩
  case poll =>
    have hin : ¬ (d.arg0 < 2 ∨ 200 < d.arg0) := by omega
    refine .intro (congrArg Host.Outcome.next ((State.command_none _ _ _ _ hr hf hl).trans (by rw [if_neg hin]))) ⟨State.finish_last hd .., ?_⟩
    rw [State.finish_get_hly hd _ _ _ _ rfl r.isLt (by decide), State.get_put_same _ _ _ _ _ (by decide)]
    exact Nat.mod_eq_of_lt (by simp only [HLY_POLL_POLL_US]; omega)
  case badPoll =>
    exact .intro (congrArg Host.Outcome.next ((State.command_none _ _ _ _ hr hf hl).trans (by rw [if_pos h]))) (State.finish_last hd ..)
  case ringReset =>
    have hok : ¬ (d.arg0 = r.val ∨ 8 ≤ d.arg0 ∨ ({ s with now := max s.now d.t } : State).ringPresent d.arg0 = false) := by
      rintro (h | h | h)
      · exact hne h
      · omega
      · exact absurd (hp.symm.trans h) (by decide)
    refine .intro (congrArg Host.Outcome.next ((State.command_none _ _ _ _ hr hf hl).trans (by rw [if_neg hok]))) ⟨State.finish_last hd .., ?_⟩
    rw [State.finish_rings hd, State.resetRing_rings]
  case info =>
    exact .intro (congrArg Host.Outcome.next (State.command_out _ _ _ _ _ hr hf hfit hb)) (State.finish_last hd ..)
  case read =>
    have hwords : d.length / 4 ≤ 4096 := Buf.fits_words hfit
    exact .intro (execReadReg_allowed hr hf hfit hb ha fun k hk => hread ⟨k, by omega⟩ hk) (State.finish_last hd ..)
  case authEnd =>
    refine .intro (congrArg Host.Outcome.next (State.command_none _ _ _ _ hr hf hl)) ⟨State.finish_last hd .., ?_⟩
    rw [State.finish_scope hd _ _ _ r.isLt]
    exact State.endAuth_scope _ _ r.isLt
  case challenge =>
    refine .intro (execAuthChallenge_drawn hr hf hl ha hb h0 hk) ⟨State.finish_last hd .., ?_⟩
    rw [State.finish_ring hd, State.updRing_ring]
  case passes =>
    refine .intro (execAuthResponse_judged hr hf a hfit hl hb hn ht) ?_
    rw [State.judgeResponse_passes hpass hs]
    refine ⟨State.finish_last hd .., ?_, ?_, ?_⟩
    · rw [State.finish_scope hd _ _ _ r.isLt]
      exact (State.grant_plain _ _ a r.isLt hs ha).2
    · rw [State.finish_ring hd, State.grant_ring _ _ a r.isLt hs ha, State.updRing_ring]
    · rw [State.finish_ring hd, State.grant_ring _ _ a r.isLt hs ha]
      rfl
  case fails =>
    obtain ⟨hservice, hends⟩ := State.judgeResponse_fails hfail
    refine .intro (execAuthResponse_judged hr hf a hfit hl hb hn ht) ?_
    rw [hends]
    exact ⟨State.finish_last hd .., by simpa using hservice⟩
  case idle =>
    exact .intro (congrArg Host.Outcome.next (if_pos ht)) (State.endAuth_scope _ _ r.isLt)
  case lapse =>
    refine .intro (execNonceLapse_due hn ht) ?_
    rw [State.updRing_ring]
  case backoff =>
    exact .intro (execAuthBackoffEnd_due he ht) ⟨rfl, State.get_put_same _ _ _ _ _ (by decide)⟩
  case service =>
    refine .intro (execServiceDurationEnd_due he ht) ?_
    simpa using State.endService_service _

end Sys2Proof.Machine
end

section
/-! Converters: what a conversion, a trigger and a due time do to a converter that is busy (R312, R314 to R316, R325, R326). -/

namespace Sys2Proof.Machine

open Sys2Proof

/-! ## Reading a converter back -/

@[simp] theorem State.updAdc_adc (s : State) (k : Nat) (f : AdcSt → AdcSt) : (s.updAdc k f).adc k = f (s.adc k) := tabGet_tabUpd_same _ _ _ _

@[simp] theorem State.putA_adc (s : State) (f : Fld) (v k i j : Nat) : (s.putA f v k i).adc j = s.adc j := rfl

@[simp] theorem State.addA_adc (s : State) (f : Fld) (n k i j : Nat) : (s.addA f n k i).adc j = s.adc j := rfl

/-! ## A busy converter -/

/-- A converter starts nothing while a conversion runs (R314, R315, R325: at its end). -/
theorem State.adcNext_busy {s : State} {k : Nat} (h : (s.adc k).run ≠ .idle) : s.adcNext k = s := if_pos (.inr h)

/-- R314: a trigger that finds the queue with room waits for the running conversion. -/
theorem State.inject_busy {s : State} {k : Nat} (n : Nat) (hq : (s.adc k).queue.length < 4) (hb : (s.adc k).run ≠ .idle) :
    (s.inject k n).adc k = { s.adc k with queue := (s.adc k).queue ++ [n] } := by
  unfold State.inject
  dsimp only
  rw [if_pos hq, State.adcNext_busy (by simpa using hb), State.putA_adc, State.updAdc_adc]

/-- R325: a calibration that falls due waits for the running conversion. -/
theorem State.calFallsDue_busy {s : State} {k : Nat} (he : s.getA ADC_CFG_EN k ≠ 0) (hb : (s.adc k).run ≠ .idle) :
    (s.calFallsDue k).adc k = { s.adc k with calDue := true } := by
  unfold State.calFallsDue
  rw [if_neg he, State.adcNext_busy (by simpa using hb), State.updAdc_adc]

/-! ## The end of a conversion -/

/-- R325: steps 0 to 35 of a calibration that no injection suspends; steps 2 to 17 add to the sum of m1, steps 20 to 35 to that of m2. -/
theorem State.conversion_cal {s : State} {k step : Nat} (raw : Nat) (hr : (s.adc k).run = .cal step) (hs : step < 36) (hq : (s.adc k).queue = []) :
    (s.conversion k raw).adc k = { s.adc k with
      run := .cal (step + 1)
      last := some (if step < 18 then 17 else 18, 0)
      m1 := if 2 ≤ step ∧ step < 18 then (s.adc k).m1 + raw else (s.adc k).m1
      m2 := if 20 ≤ step then (s.adc k).m2 + raw else (s.adc k).m2 } := by
  unfold State.conversion
  rw [hr]
  dsimp only
  rw [if_neg (Nat.ne_of_lt hs), if_neg (by simpa using hq), State.updAdc_adc, State.updAdc_adc, if_pos hs]
  simp only [hs, and_true]

/-- R316: a settling conversion of an injection is discarded; its input and gain are those the next conversion is compared with. -/
theorem State.conversion_injDiscard {s : State} {k n left : Nat} (raw : Nat) (hr : (s.adc k).run = .inj n (left + 1)) :
    (s.conversion k raw).adc k = { s.adc k with run := .inj n left, last := some (s.ctxInput k n) } := by
  unfold State.conversion
  rw [hr]
  dsimp only
  rw [if_pos left.succ_pos, State.updAdc_adc, State.updAdc_adc, State.addA_adc, Nat.add_sub_cancel]

/-- Settles O18: a conversion of a calibration or of an injection's settling has one effect on its converter; a trigger and a due time only queue on a busy one. -/
theorem adcConversions : Obligations.AdcConversions := by
  refine ⟨fun k raw t step s hr hs hq => .intro rfl ?calibration, fun k raw t n left s hr => .intro rfl ?discard, fun k n s he hi hq hb => ?trigger, fun k s he hb => ?monitor, fun k t s he hb => ?due⟩
  case calibration =>
    rw [State.conversion_cal (s := { s with now := max s.now t }) raw.toNat hr hs hq]
    exact ⟨rfl, rfl, rfl⟩
  case discard =>
    rw [State.conversion_injDiscard (s := { s with now := max s.now t }) raw.toNat hr]
    exact ⟨rfl, rfl, rfl⟩
  case trigger =>
    refine .intro (congrArg Host.Outcome.next (if_pos ⟨he, hi⟩)) ?_
    rw [State.inject_busy n hq hb]
  case monitor =>
    refine .intro (congrArg Host.Outcome.next (if_neg he)) ?_
    rw [State.adcNext_busy (by simpa using hb), State.updAdc_adc]
    exact ⟨rfl, rfl⟩
  case due =>
    refine .intro (congrArg Host.Outcome.next (if_pos (.inl rfl))) ?_
    rw [State.calFallsDue_busy (s := { s with now := max s.now t }) he hb]

end Sys2Proof.Machine
end

section
/-! The latches of a context's sum (R320): SUM_LO latches SUM_HI, COUNT and MINMAX, and these answer from the latch of their initiator. -/

namespace Sys2Proof.Machine

open Sys2Proof

/-! ## The latches a read takes, wherever its register stands -/

/-- A permitted read of a register takes that register's latches and no other. -/
theorem State.busRead_latches (s : State) (i : Initiator) {a base off : Nat} {b : Block} {d : RegDesc} (hfw : s.fwAllows i .read a (a + 3) = true) (hplace : placeOf a = .regs b base)
    (halign : a % 4 = 0) (hoff : offsetIn b a = off) (hd : (regAt b off).map (·.1) = some d) :
    (s.busRead i a).latches = ((s.catchUp b base).take i ((s.catchUp b base).latchesOf b (a - off) off)).latches := by
  rw [s.busRead_reg i a base b hfw hplace halign]
  exact (s.readAt_reg i b base a off d hoff hd).2

/-! ## The statistics words of a context -/

/-- R320: the offset of word `m` of context `n`'s statistics in the registers of its converter: SUM_LO, SUM_HI, COUNT, MINMAX. -/
def statOff (n : Fin 64) (m : Fin 4) : Nat := 0x1010 + 0x40 * n.val + 4 * m.val

/-- The reset word of each statistics word (R319): the minimum starts at the highest code. -/
def statRst (m : Fin 4) : Nat := if m = 3 then 0xFFFF else 0

theorem statRst_succ (m : Fin 3) : statRst m.succ = if m = 2 then 0xFFFF else 0 := by
  revert m
  decide

/-- R320: what reading SUM_LO of context `n` latches. -/
def State.statLatches (s : State) (k : Fin 4) (n : Fin 64) : LatchMap :=
  [(adcBase k + 0x1014 + 0x40 * n.val, (s.ctx k n).sumHi), (adcBase k + 0x1018 + 0x40 * n.val, (s.ctx k n).count),
    (adcBase k + 0x101C + 0x40 * n.val, (s.ctx k n).minMax)]

theorem sumLo_addr (k : Fin 4) (n : Fin 64) : adcBase k + 0x1010 + 0x40 * n.val = adcBase k + statOff n 0 := Nat.add_assoc ..

theorem statOff_succ_addr (k : Fin 4) (n : Fin 64) (m : Fin 3) : adcBase k + 0x1014 + 0x40 * n.val + 4 * m.val = adcBase k + statOff n m.succ := by
  simp only [statOff, Fin.val_succ]
  omega

theorem sumLo_ctx (n : Fin 64) : (statOff n 0 - 0x1010) / 0x40 = n := by
  simp [statOff]

theorem statOff_lt (n : Fin 64) (m : Fin 4) : statOff n m < 0x2000 := by
  unfold statOff
  omega

/-- Where the converters' areas start: the second of each channel 0x4000 above the first, channel B's in its own view. -/
theorem adcBase_bounds (k : Fin 4) :
    adcBase k % 0x10000 = 0x4000 * (k.val % 2) ∧ (k.val < 2 → adcBase k < 0x4FFF0000) ∧ (2 ≤ k.val → 0x50000000 ≤ adcBase k) ∧ adcBase k < 0x60000000 := by
  revert k
  decide

theorem statOff_aligned (k : Fin 4) (n : Fin 64) (m : Fin 4) : (adcBase k + statOff n m) % 4 = 0 := by
  obtain ⟨hmod, -⟩ := adcBase_bounds k
  unfold statOff
  omega

/-- A block of ADC registers spans 64 KB in each channel's view (R31, R32). -/
theorem placeOf_adcBlock (c : Chan) {off : Nat} (h : off < 0x10000) : placeOf (blockBase .adc c + off) = .regs .adc (blockBase .adc c) := by
  have hpage : blockBase .adc c + off - (blockBase .adc c + off) % 0x10000 = blockBase .adc c := by
    have : blockBase .adc c % 0x10000 = 0 := by cases c <;> rfl
    omega
  unfold placeOf
  rw [hpage]
  cases c
  case a =>
    have hbase : blockBase .adc .a = 0x400B0000 := rfl
    have hblock : (blockBase .adc .a + off - 0x40000000) / 0x10000 = 11 := by omega
    simp (disch := omega) only [if_neg, if_pos, hblock]
    rfl
  case b =>
    have hbase : blockBase .adc .b = 0x500B0000 := rfl
    have hblock : (blockBase .adc .b + off - 0x50000000) / 0x10000 = 11 := by omega
    simp (disch := omega) only [if_neg, if_pos, hblock]
    rfl

/-- A register of converter `k` stands in its channel's block, at the offset it has for the channel's first converter. -/
theorem placeOf_adcBase (k : Fin 4) {off : Nat} (h : off < 0x4000) :
    placeOf (adcBase k + off) = .regs .adc (blockBase .adc (adcChan k)) ∧ offsetIn .adc (adcBase k + off) = off ∧ adcOf (adcBase k + off) = k := by
  obtain ⟨hmod, hlow, hhigh, -⟩ := adcBase_bounds k
  refine ⟨?_, ?_, ?_⟩
  · unfold adcBase
    rw [Nat.add_assoc]
    exact placeOf_adcBlock _ (by omega)
  · unfold offsetIn
    dsimp only
    rw [if_pos ⟨rfl, by omega⟩]
    omega
  · unfold adcOf
    split <;> split <;> omega

theorem regAt_statOff (n : Fin 64) (m : Fin 4) : (regAt .adc (statOff n m)).map (·.1.rst) = some (statRst m) := by
  revert n m
  decide +kernel

theorem isLatched_statOff (n : Fin 64) (m : Fin 4) : isLatched .adc (statOff n m) = decide (m ≠ 0) := by
  revert n m
  decide

/-- SUM_LO answers with the live sum, each other word from its initiator's latch (R320). -/
theorem State.readReg_statOff (s : State) (i : Initiator) (k : Fin 4) (n : Fin 64) (m : Fin 4) {d : RegDesc} (hd : d.rst = statRst m) :
    s.readReg i .adc (statOff n m) (adcBase k + statOff n m) d =
      if m = 0 then (s.ctx k n).total % 2 ^ 32 else s.latched i (statRst m) (adcBase k + statOff n m) := by
  unfold State.readReg
  rw [isLatched_statOff, hd]
  by_cases hm : m = 0
  · subst hm
    obtain ⟨-, -, hk⟩ := placeOf_adcBase k (off := statOff n 0) (by have := statOff_lt n 0; omega)
    dsimp only
    rw [if_neg (by decide), if_pos rfl, if_pos (by unfold statOff; omega), hk, sumLo_ctx]
  · rw [if_neg hm, if_pos (by simpa using hm)]

/-- SUM_LO latches the words above it, and these latch nothing (R320). -/
theorem State.latchesOf_statOff (s : State) (k : Fin 4) (n : Fin 64) (m : Fin 4) :
    s.latchesOf .adc (adcBase k) (statOff n m) = if m = 0 then s.statLatches k n else [] := by
  unfold State.latchesOf
  dsimp only
  by_cases hm : m = 0
  · subst hm
    have hk : (if adcBase k < 0x50000000 then 0 else 2) + (if adcBase k % 0x10000 = 0 then 0 else 1) = k.val := by
      revert k
      decide
    have haddr : ∀ j, adcBase k + statOff n 0 + j = adcBase k + (0x1010 + j) + 0x40 * n.val := fun j => by
      rw [← sumLo_addr]
      omega
    rw [if_pos (by unfold statOff; omega), if_pos rfl, hk, sumLo_ctx, haddr, haddr, haddr]
    rfl
  · rw [if_neg hm, if_neg (by unfold statOff; omega)]

/-- R320: what a permitted read of a statistics word returns, and which latches it takes. -/
theorem State.busRead_stat (s : State) (i : Initiator) (k : Fin 4) (n : Fin 64) (m : Fin 4)
    (hfw : s.fwAllows i .read (adcBase k + statOff n m) (adcBase k + statOff n m + 3) = true) :
    (s.busRead i (adcBase k + statOff n m)).bus = .data (if m = 0 then (s.ctx k n).total % 2 ^ 32 else s.latched i (statRst m) (adcBase k + statOff n m)) ∧
      (s.busRead i (adcBase k + statOff n m)).latches = (s.take i (if m = 0 then s.statLatches k n else [])).latches := by
  have hlt := statOff_lt n m
  obtain ⟨hplace, hoff, -⟩ := placeOf_adcBase k (off := statOff n m) (by omega)
  have halign := statOff_aligned k n m
  obtain ⟨e, he, hrst⟩ := Option.map_eq_some_iff.mp (regAt_statOff n m)
  have hd : (regAt .adc (statOff n m)).map (·.1) = some e.1 := by rw [he]; rfl
  constructor
  · rw [s.busRead_reg i _ _ _ hfw hplace halign]
    refine congrArg BusAns.data ((s.readAt_reg i _ _ _ _ _ hoff hd).1.trans ?_)
    exact s.readReg_statOff i k n m hrst
  · rw [s.busRead_latches i hfw hplace halign hoff hd, Nat.add_sub_cancel]
    exact congrArg (fun l => (s.take i l).latches) (s.latchesOf_statOff k n m)

theorem State.statLatches_nodup (s : State) (k : Fin 4) (n : Fin 64) : ((s.statLatches k n).map (·.1)).Nodup := by
  simp [State.statLatches]

theorem State.statLatches_lt (s : State) (k : Fin 4) (n : Fin 64) : ∀ e ∈ s.statLatches k n, e.1 < 2 ^ 32 := by
  obtain ⟨-, -, -, hbase⟩ := adcBase_bounds k
  simp only [State.statLatches, List.forall_mem_cons]
  exact ⟨by omega, by omega, by omega, by simp⟩

/-- Settles O56: a read of SUM_LO takes the latches of its context for its initiator alone, and a latched word answers from them and takes none. -/
theorem adcLatches : Obligations.AdcLatches := by
  refine ⟨fun i k n s h => .intro rfl ?sum, fun i k n m a s ha h => .intro (exec_readClear i a s) ?previous, fun i j k n a s h hj ha => .intro rfl ?own⟩
  case sum =>
    rw [sumLo_addr] at h ⊢
    obtain ⟨hbus, htake⟩ := s.busRead_stat i k n 0 h
    have hlatch : ∀ e ∈ s.statLatches k n, (s.busRead i (adcBase k + statOff n 0)).latched i 0 e.1 = e.2 := by
      unfold State.latched
      rw [htake]
      exact s.take_latched i _ 0 (s.statLatches_nodup k n)
    simp only [State.statLatches, List.forall_mem_cons] at hlatch
    obtain ⟨hhi, hcount, hminMax, -⟩ := hlatch
    exact ⟨hbus, hhi, hcount, hminMax⟩
  case previous =>
    rw [ha, statOff_succ_addr] at h ⊢
    obtain ⟨hbus, htake⟩ := s.busRead_stat i k n m.succ h
    rw [if_neg m.succ_ne_zero] at hbus htake
    exact ⟨statRst_succ m ▸ hbus, htake⟩
  case own =>
    rw [sumLo_addr] at h ⊢
    obtain ⟨-, htake⟩ := s.busRead_stat i k n 0 h
    unfold State.latched
    rw [htake]
    exact s.take_others i j hj _ a 0 ha (s.statLatches_lt k n)

end Sys2Proof.Machine
end

section
/-! The check values of R347; Mizzen's measuring, its supply and its mirror (R379 to R382, R386, R395 to R398, R423). -/

namespace Sys2Proof.Machine

open Sys2Proof

/-! ## Check values -/

/-- Settles O17: each algorithm run over the nine bytes. -/
theorem checkValues : Obligations.CheckValues := by
  refine ⟨?crc32, ?crc32c, ?crc16, ?crc64⟩
  all_goals decide +kernel

/-! ## Edges -/

/-- Where exactly one of the two inputs changes, neither none nor both do (R379, R382). -/
theorem changed_of_xor {a b a' b' : Bool} (h : ((a' != a) != (b' != b)) = true) : ¬ (a' = a ∧ b' = b) ∧ ¬ (a' ≠ a ∧ b' ≠ b) := by
  revert a b a' b'
  decide

/-- What one counted edge, in the direction given, makes of the decoder at time `t` (R379). -/
def MzSt.count (m : MzSt) (fwd : Bool) (t : Nat) : MzSt := { (if fwd then m.forward else m.backward) with edgeAt := t }

/-- An edge of one input, with no measuring fault that stops the count, is counted in its direction (R379, R382). -/
theorem execMeasuringWheelEdge_counts (a b : Bool) (w : Nat) {s : State} (hon : s.mz.on = true) (hone : ((a != s.mz.a) != (b != s.mz.b)) = true) (hwire : s.mz.wire = false)
    (hquad : s.mz.quad = false) (hheld : s.mz.held = false) :
    execMeasuringWheelEdge a b w s =
      .next ((s.at w).updMz fun m => ({ m with a := a, b := b } : MzSt).count (quadForward s.mz.a s.mz.b a b != (s.mz.params.invert == 1)) (max s.now w)) := by
  obtain ⟨hsome, hboth⟩ := changed_of_xor hone
  refine congrArg Host.Outcome.next ((if_neg ?_).trans ((if_neg hboth).trans (if_neg ?_)))
  · show ¬ (s.mz.on = false ∨ (a = s.mz.a ∧ b = s.mz.b))
    simp [hon, hsome]
  · show ¬ (s.mz.wire = true ∨ s.mz.quad = true ∨ s.mz.held = true)
    simp [hwire, hquad, hheld]

/-- R380, R381: an edge past the furthest point is new material. -/
theorem MzSt.forward_new {m : MzSt} (h : m.mark < m.pos + 1) :
    m.forward = { m.add with pos := m.pos + 1, far := max m.far (m.pos + 1), farLot := max m.farLot (m.pos + 1) } := by
  unfold MzSt.forward
  dsimp only
  rw [if_pos h]

/-- R381: an edge up to the furthest point is material already counted. -/
theorem MzSt.forward_again {m : MzSt} (h : m.pos + 1 ≤ m.mark) :
    m.forward = { m with pos := m.pos + 1, far := max m.far (m.pos + 1), farLot := max m.farLot (m.pos + 1) } := by
  unfold MzSt.forward
  dsimp only
  rw [if_neg (not_lt.mpr h)]

/-! ## Faults, the event log and restarts -/

/-- An entry of the event log changes the event log alone. -/
theorem State.mzEvent_log (s : State) (e : MzEvent) :
    (s.mzEvent e).mz = { s.mz with events := (s.mzEvent e).mz.events, eventsLost := (s.mzEvent e).mz.eventsLost } := by
  unfold State.mzEvent State.updMz
  dsimp only
  split <;> rfl

/-- Fault `k` is among the measuring faults shown (R382). -/
def MzSt.shows (m : MzSt) (k : MzFault) : Prop :=
  (m.wire || k != .wire) = true ∧ (m.quad || k != .quadrature) = true ∧ (m.rate || k != .rate) = true

/-- R382: a measuring fault is shown, logged and flagged in the open lot; the total stands. -/
theorem State.measFault_does (s : State) (k : MzFault) :
    (s.measFault k).mz.shows k ∧ (s.measFault k).mz.lot = s.mz.lot.map (fun l => { l with flags := { l.flags with fault := true } }) ∧
      (MzEvent.fault k, s.mzSecs) ∈ (s.measFault k).mz.events ∧ (s.measFault k).mz.gt = s.mz.gt := by
  obtain ⟨hgt, hlot, -, -, -, -, hlog⟩ := s.mzEvent_mz (.fault k)
  have hflag : (s.mzEvent (.fault k)).mz.lot.map (fun l => { l with flags := { l.flags with fault := true } }) =
      s.mz.lot.map (fun l => { l with flags := { l.flags with fault := true } }) := by rw [hlot]
  cases k <;> exact ⟨by simp [MzSt.shows, State.measFault, State.updMz], hflag, hlog, hgt⟩

/-- Settles O36: an edge is one count of the decoder; a fault, the seal and a restart go through the log, the audit trail and the flags of the open lot. -/
theorem mizzenCount : Obligations.MizzenCount := by
  refine ⟨fun a b w s hon hone hwire hquad hheld hfwd hnew => ?newMaterial, fun a b w s hon hone hwire hquad hheld hfwd hold => ?again,
    fun a b w s hon hone hwire hquad hheld hback => ?backward, fun a b w s hon ha hb => ?bothInputs, fun k w s hon => ?fault, fun k w s hon => ?faultOver,
    fun broken w s hon hch hroom => ?sealChanged, fun w s hon hheld => ?restart⟩
  case newMaterial =>
    refine .intro (execMeasuringWheelEdge_counts a b w hon hone hwire hquad hheld) ?_
    rw [hfwd, State.updMz_mz, MzSt.count, if_pos rfl, MzSt.forward_new (by exact hnew)]
    exact ⟨rfl, rfl, rfl, rfl⟩
  case again =>
    refine .intro (execMeasuringWheelEdge_counts a b w hon hone hwire hquad hheld) ?_
    rw [hfwd, State.updMz_mz, MzSt.count, if_pos rfl, MzSt.forward_again (by exact hold)]
    exact ⟨rfl, rfl, rfl, rfl⟩
  case backward =>
    refine .intro (execMeasuringWheelEdge_counts a b w hon hone hwire hquad hheld) ?_
    rw [hback]
    exact ⟨rfl, rfl, rfl, rfl⟩
  case bothInputs =>
    have hsome : ¬ (s.mz.on = false ∨ (a = s.mz.a ∧ b = s.mz.b)) := by simp [hon, ha]
    obtain ⟨⟨-, hquad, -⟩, hlot, -, hgt⟩ := ((s.at w).updMz (fun m => { m with a := a, b := b })).measFault_does .quadrature
    exact .intro (congrArg Host.Outcome.next ((if_neg hsome).trans (if_pos ⟨ha, hb⟩))) ⟨by simpa using hquad, hgt, hlot⟩
  case fault =>
    obtain ⟨⟨hwire, hquad, hrate⟩, hlot, hlog, -⟩ := (s.at w).measFault_does k
    exact .intro (congrArg Host.Outcome.next (if_neg (Bool.ne_false_iff.mpr hon))) ⟨hwire, hquad, hrate, hlot, hlog⟩
  case faultOver =>
    refine .intro (congrArg Host.Outcome.next (if_neg (Bool.ne_false_iff.mpr hon))) ?_
    cases k <;> rfl
  case sealChanged =>
    have hworks : ¬ (s.mz.on = false ∨ broken = s.mz.broken) := by simp [hon, hch]
    refine .intro (congrArg Host.Outcome.next (if_neg hworks)) ?_
    rw [State.mzAudit_room (s.at w) _ hroom]
    cases broken <;> exact ⟨rfl, rfl, rfl, rfl⟩
  case restart =>
    have hworks : ¬ (s.mz.on = false ∨ s.mz.held = true) := by simp [hon, hheld]
    have hrestarts : ((s.at w).mzEvent .lockstep).mz.restarts = s.mz.restarts := by rw [State.mzEvent_log]; rfl
    obtain ⟨hgt, hlot, -⟩ := (s.at w).mzEvent_mz .lockstep
    refine .intro (congrArg Host.Outcome.next (if_neg hworks)) ⟨?_, rfl, hgt, ?_⟩
    · exact congrArg (fun rs => rs.filter (fun x => decide (max s.now w < x + 86400000000000)) ++ [max s.now w]) hrestarts
    · exact congrArg (Option.map fun l => { l with flags := { l.flags with restart := true, fault := true } }) hlot

/-! ## Supply and mirror -/

/-- R397: Mizzen as its supply returns, before it sees to the lot that was open at the loss. -/
def State.vmzUp (s : State) : State :=
  s.updMz (fun m => { m with on := true, onAt := s.now, pos := 0, far := 0, farLot := 0, committedAt := s.now, lineAt := s.now, edgeAt := s.now })

/-- R395: the registers of the mirror after a frame. -/
def State.mirrored (s : State) : State := (mirrorFields.zip s.mz.mirror).foldl (fun (s : State) (e : Fld × Nat) => s.put e.1 e.2) s

theorem State.mirrored_total (s : State) : s.mirrored.get MZW_GT_LO_GT_LO = s.mz.gt % 2 ^ 32 := (s.mirror_get s.mz 0).trans (Nat.mod_mod _ _)

theorem State.mirrored_seals (s : State) : s.mirrored.get MZW_SEAL_COUNT = s.mz.seals % 2 ^ 32 := s.mirror_get s.mz 4

theorem State.mirrored_link (s : State) : s.mirrored.get MZW_STATUS_LINK = 1 := s.mirror_get s.mz 15

theorem State.mirrored_mz (s : State) : s.mirrored.mz = s.mz := State.putAll_mz _ s

/-- A mirror frame of a working Mizzen is applied while the main die runs and is awake (R395, R396). -/
theorem execMirrorFrame_applies (w : Nat) {s : State} (hon : s.mz.on = true) (hp : s.power = .on) (hs : s.dev ≠ stSLEEP) :
    execMirrorFrame w s = .next ((s.at w).mirrored.updMz (fun m => { m with mirrorAt := some (max s.now w) })) := by
  have hruns : (s.at w).running = true := by
    show (s.power == Power.on) = true
    simp [hp]
  have hawake : (s.at w).dev ≠ stSLEEP := hs
  have happlies : ¬ ((s.at w).mz.on = false ∨ (s.at w).running = false ∨ (s.at w).dev = stSLEEP) := by
    rintro (h | h | h)
    · exact Bool.noConfusion (hon.symm.trans h)
    · exact Bool.noConfusion (hruns.symm.trans h)
    · exact hawake h
  unfold execMirrorFrame
  dsimp only
  rw [if_neg happlies]
  rfl

/-- Settles O37: each loss and start changes the Mizzen die alone; a mirror frame, or its absence, is read back from the fields of R395. -/
theorem mizzenPowerAndMirror : Obligations.MizzenPowerAndMirror := by
  refine ⟨fun w s hon hdue => ?commit, fun w s hon => ?low, fun w s hon => ?reset, fun w s hoff => ?release, fun w s hon hp hs => ?mirror, fun w x s hm hx => ?timeout⟩
  case commit => exact .intro (congrArg Host.Outcome.next (if_pos ⟨hon, hdue⟩)) rfl
  case low =>
    have hlog := ((s.at w).mzCommit).mzEvent_log .powerLost
    obtain ⟨hgt, -, -, -, -, -, hentry⟩ := ((s.at w).mzCommit).mzEvent_mz .powerLost
    exact .intro (congrArg Host.Outcome.next (if_pos hon)) ⟨congrArg MzSt.gtKept hlog, congrArg MzSt.remKept hlog, hgt, hentry⟩
  case reset => exact .intro (congrArg Host.Outcome.next (if_pos hon)) ⟨rfl, rfl, rfl, rfl, rfl, rfl, rfl, rfl, rfl⟩
  case release =>
    obtain ⟨hlot, hgt, hon, hpos⟩ := (((s.at w).vmzUp.mzEvent .powerBack).mzFlag (fun f => { f with power := true })).closeLot_lot
    obtain ⟨hgt', -, hon', hpos', -⟩ := (s.at w).vmzUp.mzEvent_mz .powerBack
    exact .intro (congrArg Host.Outcome.next (if_neg (Bool.eq_false_iff.mp hoff))) ⟨hon.trans hon', hlot, hpos.trans hpos', hgt.trans hgt'⟩
  case mirror =>
    refine .intro (execMirrorFrame_applies w hon hp hs) ⟨?_, ?_, ?_, ?_⟩
    · exact (State.updMz_get ..).trans (s.at w).mirrored_total
    · exact (State.updMz_get ..).trans (s.at w).mirrored_seals
    · exact (State.updMz_get ..).trans (s.at w).mirrored_link
    · rw [State.updMz_mz, State.mirrored_mz]
      rfl
  case timeout =>
    have hcleared : execMizzenLinkTimeout w s = .next (s.at w).clearMirror := by
      have hm' : (s.at w).mz.mirrorAt = some x := hm
      unfold execMizzenLinkTimeout
      dsimp only
      rw [hm']
      exact congrArg Host.Outcome.next (if_pos hx)
    exact .intro hcleared ⟨(s.at w).clearMirror_get 0, (s.at w).clearMirror_get 4, (s.at w).clearMirror_get 15, (s.at w).clearMirror_mz⟩

end Sys2Proof.Machine
end

section
/-! Mizzen's answers: to the commands of the main die, over the link, and to the requests at the service port (R384, R385, R387, R390 to R393). -/

namespace Sys2Proof.Machine

open Sys2Proof

/-! ## Commands of the main die -/

/-- What a command taken from the queue leaves: `u`, the state its work leaves, with the response in MZW_RESP (R393). -/
def State.respondsTo (t u : State) (cmd r : Nat) : Prop :=
  t.get MZW_RESP_CMD = cmd ∧ t.get MZW_RESP_RESULT = r ∧ t.mz = u.mz ∧ ∀ k : Fin 16, t.get MZW_DATA_n_DATA .a k = u.get MZW_DATA_n_DATA .a k

/-- A response is read back from MZW_RESP, and leaves Mizzen and the data words. -/
theorem State.mzResp_responds (u : State) {cmd r : Nat} (hp : u.power = .on) (hc : cmd < 256) (hr : r < 256) : (u.mzResp cmd r).respondsTo u cmd r :=
  ⟨u.mzResp_cmd cmd r hp hc, u.mzResp_result cmd r hp hr, u.mzResp_mz cmd r, u.mzResp_data cmd r⟩

/-- Mizzen with `q` as the commands that wait (R393). -/
def State.waiting (s : State) (q : List (Nat × Nat)) : State := s.updMz (fun m => { m with queue := q })

/-- The command at the head of the queue is answered by what it does to the state without it. -/
theorem State.mzTake_responds {s u : State} {cmd n r : Nat} {q : List (Nat × Nat)} {f : State → Nat → State × Nat} (hon : s.mz.on = true) (hheld : s.mz.held = false)
    (hq : s.mz.queue = (cmd, n) :: q) (hf : f (s.waiting q) n = (u, r)) (hp : u.power = .on) (hc : cmd < 256) (hr : r < 256) :
    (s.mzTake cmd f).respondsTo u cmd r := by
  have hhead : s.mzTake cmd f = (f (s.waiting q) n).1.mzResp cmd (f (s.waiting q) n).2 := s.mzTake_head cmd n q f hon hheld hq
  rw [hhead, hf]
  exact u.mzResp_responds hp hc hr

/-- The same for a command that is one taking from the queue: what the response leaves is what its next state is. -/
theorem Answers.of_mzTake {i : Instr} {s u : State} {P : State → Prop} {w cmd n r : Nat} {q : List (Nat × Nat)} {f : State → Nat → State × Nat}
    (hexec : exec i s = .next ((s.at w).mzTake cmd f)) (hon : s.mz.on = true) (hheld : s.mz.held = false) (hq : s.mz.queue = (cmd, n) :: q)
    (hf : f ((s.at w).waiting q) n = (u, r)) (hp : u.power = .on) (hc : cmd < 256) (hr : r < 256) (hP : ∀ t : State, t.respondsTo u cmd r → P t) : Answers i s P :=
  .intro hexec (hP _ (State.mzTake_responds (s := s.at w) hon hheld hq hf hp hc hr))

/-- A read returns its words in MZW_DATA, and takes nothing from Mizzen but the command. -/
theorem State.mzTake_reads {s : State} {cmd n : Nat} {q : List (Nat × Nat)} {f : State → Nat → State × Nat} {g : Nat → Nat} (hon : s.mz.on = true) (hheld : s.mz.held = false)
    (hq : s.mz.queue = (cmd, n) :: q) (hp : s.power = .on)
    (hf : f (s.waiting q) n = ((s.waiting q).mzData g, mzOK)) (hc : cmd < 256) (k : Fin 16) :
    (s.mzTake cmd f).get MZW_RESP_CMD = cmd ∧ (s.mzTake cmd f).get MZW_RESP_RESULT = 1 ∧ (s.mzTake cmd f).get MZW_DATA_n_DATA .a k = g k % 2 ^ 32 ∧
      (s.mzTake cmd f).mz = { s.mz with queue := q } := by
  obtain ⟨hcmd, hresult, hmz, hdata⟩ := State.mzTake_responds hon hheld hq hf ((State.mzData_power _ g).trans hp) hc (by decide)
  exact ⟨hcmd, hresult, (hdata k).trans (State.mzData_get _ g k), hmz.trans (State.mzData_mz _ g)⟩

theorem State.closeLot_power (s : State) : s.closeLot.power = s.power := by
  unfold State.closeLot
  split <;> rfl

/-- R385: the record of the open lot `l`, closed now. -/
def State.lotClosed (s : State) (l : Lot) : LotRec :=
  ⟨l.number, l.ident, l.gOpen, s.mz.gt, s.mz.units s.mz.gt - s.mz.units l.gOpen, l.rev * s.mz.params.num / s.mz.params.den, l.secs, s.mzSecs, s.mz.hint, l.flags, Config.free s.freeCount⟩

/-- The record of a lot that closes is the newest of those held; the total is committed, and stands. -/
theorem State.closeLot_does {s : State} {l : Lot} (h : s.mz.lot = some l) :
    s.closeLot.mz.lot = none ∧ s.lotClosed l ∈ s.closeLot.mz.records ∧ s.closeLot.mz.gtKept = s.mz.gt ∧ s.closeLot.mz.gt = s.mz.gt := by
  rw [s.closeLot_some l h]
  exact ⟨rfl, List.mem_append_right _ (List.mem_singleton.mpr rfl), rfl, rfl⟩

/-- What LOT_CUT opens: the next lot at the total the last one closed at. -/
theorem State.cutLot_lot {s : State} {l : Lot} (h : s.mz.lot = some l) (n : Nat) :
    (s.closeLot.openLot n).mz.lot = some ⟨s.mz.lotNo + 1, n, s.mz.gt, 0, s.mzSecs, { unsealed := s.mz.broken }⟩ := by
  rw [s.closeLot_some l h]
  rfl

/-- R393: a command Mizzen refuses is gone from the queue and logged; the total and the open lot stand. -/
theorem State.mzRefuse_does (s : State) (cmd : Nat) :
    (s.mzRefuse cmd).mz.queue = s.mz.queue ∧ (s.mzRefuse cmd).mz.gt = s.mz.gt ∧ (s.mzRefuse cmd).mz.lot = s.mz.lot ∧ (MzEvent.refused cmd, s.mzSecs) ∈ (s.mzRefuse cmd).mz.events := by
  have hmz : (s.mzRefuse cmd).mz = (s.mzEvent (.refused cmd)).mz := (State.mzResp_mz ..).trans (congrArg View.mz (State.raiseOnce_view ..))
  obtain ⟨hgt, hlot, -, -, hqueue, -, hlog⟩ := s.mzEvent_mz (.refused cmd)
  rw [hmz]
  exact ⟨hqueue, hgt, hlot, hlog⟩

/-- The head of the queue, unknown or damaged, is refused. -/
theorem execMzwCommandRefused_head {cmd n : Nat} {q : List (Nat × Nat)} {bad : Bool} (w : Nat) {s : State} (hon : s.mz.on = true) (hheld : s.mz.held = false)
    (hq : s.mz.queue = (cmd, n) :: q) (hbad : bad = true ∨ mzKnown cmd = false) :
    execMzwCommandRefused (.head bad) w s = .next (((s.at w).waiting q).mzRefuse cmd) := by
  have hq' : (s.at w).mz.queue = (cmd, n) :: q := hq
  unfold execMzwCommandRefused
  dsimp only
  rw [hq']
  exact congrArg Host.Outcome.next (if_pos ⟨hon, hheld, hbad⟩)

/-- Settles O38: each command is the head of the queue taken, what it does to Mizzen, and its response. -/
theorem mizzenCommands : Obligations.MizzenCommands := by
  refine ⟨fun n q w s hon hheld hq hp hl => ?openFree, fun n q w s hon hheld hq hp hl => ?openAgain, fun n q l w s hon hheld hq hp hl => ?close,
    fun n q l w s hon hheld hq hp hl => ?cut, fun n q r w k s hon hheld hq hp hr => .intro rfl ?readLot, fun n q e w k s hon hheld hq hp he => .intro rfl ?readAudit,
    fun n q e w k s hon hheld hq hp he => .intro rfl ?readEvent, fun n q w k s hon hheld hq hp hn => .intro rfl ?readCert, fun n q w s hon hheld hq hp => ?hint,
    fun cmd n q bad w s hon hheld hq hbad => .intro (execMzwCommandRefused_head w hon hheld hq hbad) (State.mzRefuse_does _ cmd)⟩
  case openFree =>
    have hfree : ¬ ((s.at w).waiting q).mz.lot.isSome = true := Option.not_isSome_iff_eq_none.mpr hl
    refine Answers.of_mzTake rfl hon hheld hq (if_neg hfree) hp (by decide) (by decide) ?_
    rintro t ⟨hcmd, hresult, hmz, -⟩
    rw [hmz]
    exact ⟨hcmd, hresult, rfl, rfl, rfl⟩
  case openAgain =>
    have hopen : ((s.at w).waiting q).mz.lot.isSome = true := hl
    refine Answers.of_mzTake rfl hon hheld hq (if_pos hopen) hp (by decide) (by decide) ?_
    rintro t ⟨hcmd, hresult, hmz, -⟩
    exact ⟨hcmd, hresult, hmz⟩
  case close =>
    have hopen : ((s.at w).waiting q).mz.lot = some l := hl
    refine Answers.of_mzTake rfl hon hheld hq (if_pos (Option.isSome_of_eq_some hopen)) ((State.closeLot_power _).trans hp) (by decide) (by decide) ?_
    rintro t ⟨hcmd, hresult, hmz, -⟩
    rw [hmz]
    exact ⟨hcmd, hresult, State.closeLot_does hopen⟩
  case cut =>
    have hopen : ((s.at w).waiting q).mz.lot = some l := hl
    obtain ⟨-, hrecord, -, hgt⟩ := State.closeLot_does hopen
    refine Answers.of_mzTake (u := ((s.at w).waiting q).closeLot.openLot n) rfl hon hheld hq rfl ((State.closeLot_power _).trans hp) (by decide) (by decide) ?_
    rintro t ⟨hcmd, hresult, hmz, -⟩
    rw [hmz]
    exact ⟨hcmd, hresult, State.cutLot_lot hopen n, hrecord, hgt⟩
  case readLot =>
    have hrec : ((s.at w).waiting q).lotRecord n = some r := hr
    exact State.mzTake_reads (s := s.at w) hon hheld hq hp (by rw [hrec]) (by decide) k
  case readAudit =>
    have hentry : ((s.at w).waiting q).mz.audit[n]? = some e := he
    exact State.mzTake_reads (s := s.at w) hon hheld hq hp (by rw [hentry]) (by decide) k
  case readEvent =>
    have hentry : ((s.at w).waiting q).eventEntry n = some e := he
    exact State.mzTake_reads (s := s.at w) hon hheld hq hp (by rw [hentry]) (by decide) k
  case readCert => exact State.mzTake_reads (s := s.at w) hon hheld hq hp (if_pos hn) (by decide) k
  case hint =>
    refine Answers.of_mzTake (u := ((s.at w).waiting q).updMz (fun m => { m with hint := some n })) rfl hon hheld hq rfl hp (by decide) (by decide) ?_
    rintro t ⟨hcmd, hresult, hmz, -⟩
    exact ⟨hcmd, hresult, hmz⟩

/-! ## Requests at the service port -/

/-- R387: the entries of a set of changes, where the audit trail has room for all, lengthen it and change nothing else of Mizzen. -/
theorem State.mzAudits_does {α : Type} (c : α → MzChange) (l : List α) (s : State) (hroom : s.mz.audit.length + l.length ≤ 4096) :
    (l.foldl (fun s x => s.mzAudit (c x)) s).mz = { s.mz with audit := (l.foldl (fun s x => s.mzAudit (c x)) s).mz.audit } ∧
      (l.foldl (fun s x => s.mzAudit (c x)) s).mz.audit.length = s.mz.audit.length + l.length := by
  induction l generalizing s with
  | nil => exact ⟨rfl, rfl⟩
  | cons x l ih =>
    rw [List.length_cons] at hroom
    have hlen : (s.mzAudit (c x)).mz.audit.length = s.mz.audit.length + 1 := by
      rw [s.mzAudit_room _ (by omega), State.updMz_mz, List.length_append]
      rfl
    have honly : (s.mzAudit (c x)).mz = { s.mz with audit := (s.mzAudit (c x)).mz.audit } := by
      rw [s.mzAudit_room _ (by omega)]
      rfl
    obtain ⟨hmz, hall⟩ := ih (s.mzAudit (c x)) (by omega)
    refine ⟨?_, ?_⟩
    · rw [List.foldl_cons, hmz, honly]
    · rw [List.foldl_cons, hall, hlen, List.length_cons]
      omega

/-- R387: the audit entries of the staged set, before it takes effect. -/
def State.stagedAudited (s : State) : State := s.mz.staged.foldl (fun u e => u.mzAudit (.param e.1 (s.mz.params.get e.1) e.2)) s

theorem State.stagedAudited_does {s : State} (hroom : s.mz.audit.length + s.mz.staged.length ≤ 4096) :
    s.stagedAudited.mz.staged = s.mz.staged ∧ s.stagedAudited.mz.params = s.mz.params ∧ s.stagedAudited.mz.gt = s.mz.gt ∧
      s.stagedAudited.mz.audit.length = s.mz.audit.length + s.mz.staged.length := by
  obtain ⟨hmz, hlen⟩ := State.mzAudits_does (fun e : MzParam × Nat => MzChange.param e.1 (s.mz.params.get e.1) e.2) s.mz.staged s hroom
  refine ⟨?_, ?_, ?_, hlen⟩
  all_goals
    unfold State.stagedAudited
    rw [hmz]

/-- R390: with the seal broken, no lot open and room in the audit trail the staged set takes effect after its entries. -/
theorem execCommit_applies (w : Nat) {s : State} (hon : s.mz.on = true) (hheld : s.mz.held = false) (hb : s.mz.broken = true)
    (hall : s.mz.audit.length + s.mz.staged.length ≤ 4096) (hroom : s.mz.audit.length < 4096) (hl : s.mz.lot = none) :
    execCommit w s = .next (((s.at w).stagedAudited.updMz MzSt.applyStaged).updMz (fun m => { m with answer := .ok })) := by
  have hnotFull : (s.at w).auditFull = false := decide_eq_false (not_le.mpr hroom)
  have hsound : ¬ (s.mz.broken = false ∨ 4096 < s.mz.audit.length + s.mz.staged.length ∨ (s.at w).auditFull = true) := by
    simp [hb, hnotFull, hall]
  have hfree : ¬ (s.mz.lot.isSome = true ∧ (s.mz.changes .num || s.mz.changes .den || s.mz.changes .res || s.mz.changes .invert) = true) := by
    simp [hl]
  refine congrArg Host.Outcome.next (((s.at w).mzAnswer_on _ hon hheld).trans ?_)
  exact congrArg (fun r : State × MzAnswer => r.1.updMz (fun m => { m with answer := r.2 })) ((if_neg hsound).trans (if_neg hfree))

/-- R391: a signed image of no older rollback, loaded under a broken seal with no lot open and the wheel at rest, runs after its audit entry. -/
theorem execFwload_applies (f : MzFw) (w : Nat) {s : State} (hon : s.mz.on = true) (hheld : s.mz.held = false) (hb : s.mz.broken = true) (hl : s.mz.lot = none)
    (hrest : s.mz.edgeAt + 1000000000 ≤ max s.now w) (hframes : f.framesOk = true) (hsigned : f.signed = true) (hback : s.mz.rollback ≤ f.rollback)
    (hroom : s.mz.audit.length < 4096) :
    execFwload f w s = .next ((((s.at w).mzAudit (.firmware s.mz.version f.version s.mz.swCrc f.crc)).updMz
      (fun m => { m with version := f.version, swCrc := f.crc, rollback := f.rollback })).updMz (fun m => { m with answer := .ok })) := by
  have hnotFull : (s.at w).auditFull = false := decide_eq_false (not_le.mpr hroom)
  have hsound : ¬ (s.mz.broken = false ∨ s.mz.lot.isSome = true ∨ max s.now w < s.mz.edgeAt + 1000000000 ∨ f.framesOk = false ∨ f.signed = false ∨
      f.rollback < s.mz.rollback ∨ (s.at w).auditFull = true) := by
    simp only [hb, hl, hframes, hsigned, hnotFull, not_lt.mpr hrest, not_lt.mpr hback]
    decide
  refine congrArg Host.Outcome.next (((s.at w).mzAnswer_on _ hon hheld).trans ?_)
  exact congrArg (fun r : State × MzAnswer => r.1.updMz (fun m => { m with answer := r.2 })) (if_neg hsound)

/-- Settles O39: a working Mizzen answers each request, and what it changes besides goes through the staged set, the audit trail and the line. -/
theorem mizzenRequests : Obligations.MizzenRequests := by
  refine ⟨fun s hon hheld => ?ident, fun n s hon hheld => ?lot, fun n s hon hheld => ?audit, fun n s hon hheld => ?event, fun k v s hon hheld hb hv => ?set,
    fun k v s hon hheld hbad => ?setRefused, fun w s hon hheld hb hall hroom hl => ?commit, fun f w s hon hheld hb hl hrest hframes hsigned hback hroom => ?fwload, fun w s hon hdue => ?line⟩
  case ident => exact .intro (congrArg Host.Outcome.next (s.mzAnswer_on _ hon hheld)) rfl
  case lot => exact .intro (congrArg Host.Outcome.next (s.mzAnswer_on _ hon hheld)) rfl
  case audit => exact .intro (congrArg Host.Outcome.next (s.mzAnswer_on _ hon hheld)) rfl
  case event => exact .intro (congrArg Host.Outcome.next (s.mzAnswer_on _ hon hheld)) rfl
  case set =>
    refine .intro (congrArg Host.Outcome.next (s.mzAnswer_on _ hon hheld)) ?_
    rw [if_neg (by simp [hb, hv])]
    rfl
  case setRefused =>
    refine .intro (congrArg Host.Outcome.next (s.mzAnswer_on _ hon hheld)) ?_
    rw [if_pos hbad]
    rfl
  case commit =>
    obtain ⟨hstaged, hparams, hgt, hlen⟩ := State.stagedAudited_does (s := s.at w) hall
    refine .intro (execCommit_applies w hon hheld hb hall hroom hl) ⟨rfl, rfl, ?_, hlen, hgt⟩
    rw [State.updMz_mz, State.updMz_mz]
    dsimp only [MzSt.applyStaged]
    rw [hstaged, hparams]
    rfl
  case fwload =>
    refine .intro (execFwload_applies f w hon hheld hb hl hrest hframes hsigned hback hroom) ?_
    rw [State.mzAudit_room (s.at w) _ hroom]
    exact ⟨rfl, rfl, rfl, rfl, rfl, rfl⟩
  case line => exact .intro (congrArg Host.Outcome.next (if_pos ⟨hon, hdue⟩)) rfl

end Sys2Proof.Machine
end

section
/-! Starts of the main die and the power states (R363, R425, R426, R428, R431, R438). -/

namespace Sys2Proof.Machine

open Sys2Proof

/-! ## What a start leaves -/

/-- R428, R438: after a start of the main die from memory `m` nothing runs on: no Refit, epoch switch, evaluation, Stay link or service session; of memory the AON RAM alone is kept. -/
def State.startedFrom (t : State) (m : List Host.Cell) : Prop :=
  t.power = .on ∧ t.refit = none ∧ t.epochAt = none ∧ t.graph = ⟨{}, {}⟩ ∧ t.stay = ⟨{}, {}⟩ ∧ t.service = none ∧
    t.mem = m.filter (fun e => decide (0x30000000 ≤ e.1 ∧ e.1 < 0x30000400))

theorem State.mainStart_started (s : State) (n : Nat) (o : StartObs) : (s.mainStart n o).startedFrom s.mem := by
  obtain ⟨hpower, hepoch, hrefit, hgraph, hstay, hservice, hmem⟩ := s.mainStart_does n o
  exact ⟨hpower, hrefit, hepoch, hgraph, hstay, hservice, hmem⟩

theorem State.mainStart_quiet (s : State) (n : Nat) (o : StartObs) : (s.mainStart n o).quiet := by
  have h := s.mainStart_wins n o
  exact ⟨congrArg Prod.fst h, congrArg Prod.snd h⟩

/-- What a start leaves is part of the view, which registers and faults do not touch. -/
theorem State.startedFrom_of_view {s t : State} {m : List Host.Cell} (hv : t.view = s.view) (h : s.startedFrom m) : t.startedFrom m := by
  obtain ⟨hpower, hrefit, hepoch, hgraph, hstay, hservice, hmem⟩ := h
  exact ⟨(congrArg View.power hv).trans hpower, (congrArg View.refit hv).trans hrefit, (congrArg View.epochAt hv).trans hepoch, (congrArg View.graph hv).trans hgraph,
    (congrArg View.stay hv).trans hstay, (congrArg View.service hv).trans hservice, (congrArg View.mem hv).trans hmem⟩

/-- A Class 0 event at the end of a start is latched in both collectors, and leaves what the start has left. -/
theorem State.startedFrom_raise {s : State} {m : List Host.Cell} (hs : s.startedFrom m) (hq : s.quiet) (line detail : Nat) :
    (s.raiseOnce (class0 line detail)).startedFrom m ∧ (s.raiseOnce (class0 line detail)).quiet ∧
      (s.raiseOnce (class0 line detail)).faulted .a ⟨line, 0, .shared, .none⟩ ∧ (s.raiseOnce (class0 line detail)).faulted .b ⟨line, 0, .shared, .none⟩ :=
  ⟨State.startedFrom_of_view (State.raiseOnce_view _ _) hs, (State.raiseOnce_quiet _ _).mpr hq, s.raiseOnce_class0 line detail .a hq, s.raiseOnce_class0 line detail .b hq⟩

/-! ## What a loss of supply leaves -/

/-- R425: a loss of the AON supply takes the AON RAM, and no other memory. -/
theorem State.loseAon_mem (s : State) : s.loseAon.mem = s.mem.filter (fun e => !decide (0x30000000 ≤ e.1 ∧ e.1 < 0x30000400)) := rfl

/-- R439: the loss shows in PWR_FLAGS. -/
theorem State.loseAon_dip (s : State) : s.loseAon.get PWR_FLAGS_VBAT_DIP = 1 := by
  unfold State.loseAon State.putFlag
  dsimp only
  refine (State.get_of_regs _ _ rfl _ _ _).trans ((State.get_put_bits _ PWR_FLAGS_AON_CLK_STOP PWR_FLAGS_VBAT_DIP _ .a 0 (by decide) rfl rfl rfl rfl (.inl (by decide))).trans ?_)
  exact State.get_put_same _ PWR_FLAGS_VBAT_DIP _ .a 0 (by decide)

/-- R438: the main die without its rails, as the dies show it. -/
def State.railsLost (s : State) : State := s.loseMain.showKill.showFurl

/-- R438: what the main die loses with its rails: the Refit, a waiting epoch switch and the graph; of memory it keeps the AON RAM. -/
theorem State.railsLost_does (s : State) :
    s.railsLost.refit = none ∧ s.railsLost.epochAt = none ∧ s.railsLost.graph = ⟨{}, {}⟩ ∧
      s.railsLost.mem = s.mem.filter (fun e => decide (0x30000000 ≤ e.1 ∧ e.1 < 0x30000400)) := by
  have hshown : s.railsLost.view = s.loseMain.view := (State.showFurl_view _).trans (State.showKill_view _)
  have hotp : s.otpInterrupt.mem = s.mem := by simp
  have hmem : s.loseMain.mem = s.mem.filter (fun e => decide (0x30000000 ≤ e.1 ∧ e.1 < 0x30000400)) := congrArg (List.filter _) hotp
  refine ⟨?_, ?_, ?_, ?_⟩
  · rw [← State.view_refit, hshown]
    rfl
  · rw [← State.view_epochAt, hshown]
    rfl
  · rw [← State.view_graph, hshown]
    rfl
  · rw [← State.view_mem, hshown]
    exact hmem

/-- What one loss keeps and the other takes is nothing. -/
theorem filter_filter_nil {p q : Host.Cell → Bool} (m : List Host.Cell) (h : ∀ e, p e = true → q e = false) : (m.filter p).filter q = [] :=
  List.filter_eq_nil_iff.mpr fun e he => by simp [h e (List.of_mem_filter he)]

/-! ## Starts -/

/-- R363: the running TRIAL set fails and the main die starts again. -/
def State.failTrial (s : State) (n : Nat) (o : StartObs) : State :=
  ((s.updSec (fun y => { y with fw := tabUpd {} y.fw n (fun x => { x with mark := .failed }) })).mainStart 0 o).put SEC_ROLLBACK_TRIAL 2

theorem execTrialStartTimeout_fails {o : StartObs} {n : Nat} {s : State} (hrun : s.sec.fwRun = some n) (htrial : (s.fwSlotAt n).mark = .trial)
    (hlate : s.sec.startAt + 5000000000 ≤ max s.now o.t) : execTrialStartTimeout o s = .next ((s.failTrial n o).raiseOnce (class0 57 n)) := by
  unfold execTrialStartTimeout
  rw [hrun]
  exact congrArg Host.Outcome.next (if_pos ⟨htrial, hlate⟩)

/-- Settles O49: each start leaves what `mainStart` leaves; the faults that end a brown-out and a failed trial are raised after it. -/
theorem mainStarts : Obligations.MainStarts := by
  refine ⟨fun o s hp => ?por, fun o s hp => ?porOff, fun o vbat s hr => ?bor, fun ns o s hr hn => ?resetN, fun ns o s hn => ?glitch, fun o n s hrun htrial hlate => ?trial⟩
  case por =>
    refine .intro (congrArg (fun u : State => Host.Outcome.next (u.mainStart 1 o)) (if_neg hp)) ?_
    obtain ⟨hpower, hrefit, hepoch, hgraph, hstay, hservice, hmem⟩ := State.mainStart_started { s with now := max s.now o.t } 1 o
    exact ⟨hpower, hrefit, hepoch, hgraph, hstay, hservice, State.mainStart_quiet .., hmem⟩
  case porOff =>
    refine .intro (congrArg (fun u : State => Host.Outcome.next (u.mainStart 1 o)) (if_pos hp)) ?_
    obtain ⟨hpower, hrefit, hepoch, hgraph, hstay, hservice, hmem⟩ := (State.loseAon { s with now := max s.now o.t }).mainStart_started 1 o
    exact ⟨hpower, hrefit, hepoch, hgraph, hstay, hservice, State.mainStart_quiet .., hmem.trans (filter_filter_nil s.mem fun e he => by rwa [Bool.not_eq_true'] at he)⟩
  case bor =>
    obtain ⟨⟨hpower, hrefit, -, hgraph, -, -, hmem⟩, hquiet, hfault⟩ :=
      State.startedFrom_raise (s.mainStart_started (if vbat then 2 else 0) o) (State.mainStart_quiet ..) 61 0x100
    exact .intro (congrArg Host.Outcome.next (if_pos hr)) ⟨hpower, hrefit, hgraph, hquiet, hmem, hfault⟩
  case resetN =>
    obtain ⟨hpower, hrefit, hepoch, hgraph, hstay, hservice, hmem⟩ := s.mainStart_started 3 o
    exact .intro (congrArg Host.Outcome.next (if_pos ⟨hr, by omega, .inl hn⟩)) ⟨hpower, hrefit, hepoch, hgraph, hstay, hservice, State.mainStart_quiet .., hmem⟩
  case glitch =>
    refine .intro (congrArg Host.Outcome.next (if_neg ?_)) rfl
    rintro ⟨-, hlong, -⟩
    omega
  case trial =>
    have hstarted : (s.failTrial n o).startedFrom s.mem := State.startedFrom_of_view (State.put_view ..) (State.mainStart_started _ 0 o)
    have hquiet : (s.failTrial n o).quiet := State.quiet_keep (State.put_fcv ..) (State.mainStart_quiet _ 0 o)
    obtain ⟨⟨hpower, hrefit, -, hgraph, -, -, hmem⟩, -, hfaultA, hfaultB⟩ := State.startedFrom_raise hstarted hquiet 57 n
    refine .intro (execTrialStartTimeout_fails hrun htrial hlate) ⟨hpower, hrefit, hgraph, hmem, hfaultA, hfaultB, ?_⟩
    have hkeep := State.raiseOnce_keepsRegs (s.failTrial n o) (class0 57 n) (show 0 < 2 by decide) SEC_ROLLBACK_TRIAL .a 0 (by decide) (by decide)
    exact hkeep.trans (State.get_put_same _ SEC_ROLLBACK_TRIAL 2 .a 0 (by decide))

/-! ## Power states -/

/-- R431: where the device goes without its rails: with VBAT the AON domain goes on in STANDBY, without it that is lost too. -/
def State.unpowered (u : State) (vbat : Bool) : State := if vbat then { u with power := .standby } else { u.loseAon with power := .off }

theorem execMainRailsRemoved_running (vbat : Bool) (t0 : Nat) {s : State} (hr : s.running = true) :
    execMainRailsRemoved vbat t0 s = .next ((s.at t0).railsLost.unpowered vbat) := by
  unfold State.unpowered State.railsLost State.at
  exact congrArg Host.Outcome.next (if_pos hr)

/-- Of the memory `m` the AON RAM stays while VBAT does; the rest of the state stays as it is without the main die. -/
theorem State.unpowered_does {u : State} {m : List Host.Cell} (hrefit : u.refit = none) (hepoch : u.epochAt = none) (hgraph : u.graph = ⟨{}, {}⟩)
    (hmem : u.mem = m.filter (fun e => decide (0x30000000 ≤ e.1 ∧ e.1 < 0x30000400))) (vbat : Bool) :
    (u.unpowered vbat).power = (if vbat then .standby else .off) ∧ (u.unpowered vbat).refit = none ∧ (u.unpowered vbat).epochAt = none ∧
      (u.unpowered vbat).graph = ⟨{}, {}⟩ ∧ (u.unpowered vbat).mem = if vbat then m.filter (fun e => decide (0x30000000 ≤ e.1 ∧ e.1 < 0x30000400)) else [] := by
  cases vbat
  case true => exact ⟨rfl, hrefit, hepoch, hgraph, hmem⟩
  case false =>
    have hnone : u.loseAon.mem = [] := by
      rw [State.loseAon_mem, hmem]
      exact filter_filter_nil m fun e he => by rw [he]; rfl
    exact ⟨rfl, hrefit, hepoch, hgraph, hnone⟩

/-- Settles O50: each move of the power state is a loss of the AON domain, of the main die, or of both. -/
theorem powerStates : Obligations.PowerStates := by
  refine ⟨fun t0 s hp => ?rise, fun vbat t0 s hr => ?removed, fun t0 s hp => ?dipStandby, fun t0 s hp => ?dipOn⟩
  case rise =>
    refine .intro (congrArg Host.Outcome.next (if_pos hp)) ⟨rfl, rfl, rfl, ?_⟩
    exact State.loseAon_dip _
  case removed =>
    obtain ⟨hrefit, hepoch, hgraph, hmem⟩ := (s.at t0).railsLost_does
    exact .intro (execMainRailsRemoved_running vbat t0 hr) (State.unpowered_does hrefit hepoch hgraph hmem vbat)
  case dipStandby =>
    refine .intro (congrArg Host.Outcome.next (if_pos hp)) ⟨rfl, rfl, ?_⟩
    exact State.loseAon_dip _
  case dipOn =>
    have hnot : ¬ s.power = .standby := by simp [hp]
    exact .intro (congrArg Host.Outcome.next (if_neg hnot)) ⟨hp, rfl, rfl⟩

end Sys2Proof.Machine
end
